-- ==== Sys2Proof/Word.lean ====
section
/-! DEFINITION. The plain types that every other file shares: bytes, 32-bit register words, the place of a field in a
word, and a finite table keyed by a natural number. -/

namespace Sys2Proof

/-- One byte of memory. -/
abbrev Byte := BitVec 8

/-- One register word (R7, R443). -/
abbrev Word := BitVec 32

/-- The place of a register field: its lowest bit and its width (the Bits column of a register map). -/
structure Fld where
  lo : Nat
  width : Nat
  deriving DecidableEq, Repr

/-- A finite table: keys strictly rising, an unlisted key holds the default the reader names. -/
abbrev Tbl (α : Type) := List (Nat × α)

end Sys2Proof
end

