-- ==== Sys2Proof/Syntax.lean ====
section
/-! DEFINITION. The commands the device takes: one constructor per row of spec/opcode_table.json, with the operands that
the row's rule names. What comes from outside the device (a measured value, a received frame, a pin level) is an operand. -/

namespace Sys2Proof

/-- Boundary-scan instructions of IEEE 1149.1 (PRESUMED, log entry 38); the last four drive outputs (R457). -/
inductive JtagInstr where
  | bypass | sample | preload | extest | intest | clamp | highz
  deriving DecidableEq, Repr

/-- CLASS and DIR of a received frame's HSP header (R342). -/
structure FrameTag where
  cls : Fin 4
  dir : Fin 2
  deriving DecidableEq, Repr

/-- The command, one constructor per row of the table. -/
inductive Instr where
  /-- R422. All rails above warning plus 20 mV and PORST_N high for 1 ms end reset and start the start-up sequence. -/
  | powerGood
  /-- R422. A low pulse of at least 10 µs on PORST_N resets the device. -/
  | porstPulse
  /-- R422. A rail below its reset level for 1 µs holds the device in reset; the reset cause is recorded. -/
  | railReset (rail : Fin 9) (below : BitVec 9)
  /-- R440. A reset requested through the test port resets the device with cause 0x3. -/
  | testPortReset
  /-- R14. SYSPLL first locks to XTAL after reset; LT starts at 0. -/
  | syspllFirstLock
  /-- R428. The image has been streamed to SIGOFS, with the SHA-256 digest formed and destinations written. -/
  | imageStreamComplete (image : List (BitVec 8)) (flash : Bool)
  /-- R298. DRAM training from the staged MEM_DRAMCFG ends and MEM_STAT.DRAMRDY is set, or the load is refused with cause 0x0D. -/
  | dramTrainingComplete (ok : Bool)
  /-- R428. ECDSA verification and the rollback check end; on failure the load is repeated once. -/
  | signatureVerified
  /-- R424. After the value checks and Tack admission, every CFG field and image slot takes effect in one FCLK, AT is set to 0, the loader is masked and EV13 is recorded. -/
  | configurationCompletion
  /-- R425. All readiness conditions hold; GFREADY is set, SYS_TGF is latched and GFRDY goes high. -/
  | gridFormingReady
  /-- R429. After configuration completion, rollback and revocation fuses are burned one at a time, each verified. -/
  | otpBurn (ok : Bool)
  /-- R432. A rail below its warning level for the filter time records EV4, clears SUPGOOD, starts the retain save and defers NVM writes. -/
  | supplyWarning (rail : Fin 9)
  /-- R432. Every rail has been above warning plus 20 mV for 1 ms; SUPGOOD is set and EV5 is recorded. -/
  | supplyGood
  /-- R434. Once the snapshot is taken and no page program runs, the save begins writing data pages to the non-current sector. -/
  | retainSaveStart
  /-- R434. The save header is verified and that sector becomes current with EV6, or the save fails with EV7. -/
  | retainSaveComplete (ok : Bool)
  /-- R435. With SUPGOOD = 1 and no save running, the non-current sector is erased. -/
  | retainSectorErase
  /-- R435. The erase ends and the deferred NVM writes begin in request order. -/
  | retainSectorEraseComplete
  /-- R437. PWR_NVMCMD WRITE queues a page-by-page program of user-area bytes from data SRAM, or is refused or deferred. -/
  | nvmWrite (by_ : Fin 19)
  /-- R437. PWR_NVMCMD ERASE queues an erase of the user sector containing PWR_NVMDST. -/
  | nvmErase (by_ : Fin 19)
  /-- R437. A user NVM write or erase ends and PWR_NVMSTAT shows its result. -/
  | nvmOperationComplete (ok : Bool)
  /-- R438. Every 100 µs the supervisor reads the junction sensor, recording EV12 above TJWARN. -/
  | tjRead (tj : BitVec 16)
  /-- R438. The junction temperature has been above TJMAX for 1 ms, so G3 is graded against every Stage with an enabled half-bridge. -/
  | tjOvertemp
  /-- R442. SEC_KCMD GO on an UNCONFIGURED device burns the staged key hash into a slot. -/
  | keyBurn (slot : Fin 4) (ok : Bool) (by_ : Fin 19)
  /-- R442. SEC_KCMD LOCK burns the TESTLOCK fuse. -/
  | testlockBurn (ok : Bool) (by_ : Fin 19)
  /-- R411. The reference in use is lost; SYSPLL enters holdover and hops to the first present fallback. -/
  | referenceLoss (refs : BitVec 2)
  /-- R414. A CLK_HOPREQ write requests a hop to a cache entry, or is refused with HOPREF. -/
  | hopRequest (entry : Fin 16) (refs : BitVec 2) (by_ : Fin 19)
  /-- R414. SYSPLL has re-acquired phase on the new reference; EV10 is recorded. -/
  | hopComplete
  /-- R413. A replica-VCO search ends and marks its cache entry VALID with the search temperature. -/
  | bandSearchComplete (entry : Fin 16) (band : BitVec 7)
  /-- R416. Every 1 µs the ramp moves y towards ytgt by at most RATE × 1 µs and applies it to the SYSPLL divider. -/
  | yRampStep
  /-- R418. A PLL loses lock; EV9 is recorded with the grade and reaction for that PLL. -/
  | pllUnlock (pll : Fin 6)
  /-- R418. A PLL re-locks on its own. -/
  | pllRelock (pll : Fin 6)
  /-- R23. A BOB_SRCREQ pair with KIND SLEW requests a source switch without a step of AT, or is refused under R22. -/
  | slewRequest (st : Fin 4) (src : BitVec 3)
  /-- R24. A BOB_SRCREQ pair with KIND ALIGN requests a source switch that jumps AT to the target fraction, or is refused under R22. -/
  | alignRequest (st : Fin 4) (src : BitVec 3)
  /-- R20. At the next word update a pending source switch takes effect, and the word comes from the new source under the clamps. -/
  | sourceSwitchApply (st : Fin 4) (slot : Fin 4096) (gpi : BitVec 32) (bad : List (BitVec 32))
  /-- R27. The Bobbin source is lost; SRCLOST is set and EV17 is recorded. -/
  | sourceLost (st : Fin 4)
  /-- R27. At the next update after a loss, the Bobbin follows FALLBACK (or FIXED) as a SLEW switch, unless a pending request applies. -/
  | fallbackApply (st : Fin 4) (slot : Fin 4096) (gpi : BitVec 32) (bad : List (BitVec 32))
  /-- R31. A cycle-engine read of BOB_LT_LO latches the whole of LT. -/
  | ltLatchRead
  /-- R31. A cycle-engine read of BOB_AT_LO latches the Stage AT and the LT of the same FCLK. -/
  | atLatchRead (st : Fin 4)
  /-- R41. The Drum-step slot fires: inputs are latched, the state machine is evaluated and the swing and voltage equations are integrated. -/
  | stepDrum (slot : Fin 4096) (gpi : BitVec 32) (bad : List (BitVec 32))
  /-- R61. The step computation ends within 480 FCLK; disabling transitions take effect and the close gate updates. -/
  | stepDrumEnd (st : Fin 4)
  /-- R37. No new sample set for two outer ticks makes the power block invalid. -/
  | powerBlockTimeout (st : Fin 4)
  /-- R48. A verified DRM_COMMIT pair schedules all staged pairs to be taken into use together. -/
  | commit (st : Fin 4)
  /-- R55. A DRM_HEMREST pair sets n to 0, or is refused while DERCAUSE reads 1. -/
  | hemRestore (st : Fin 4)
  /-- R75. A ride-through point counter exceeds N_k and the Stage goes to CEASED. -/
  | curvePointExpiry (slot : Fin 4096) (gpi : BitVec 32) (bad : List (BitVec 32))
  /-- R66. HOLD has lasted longer than THMAX and the Stage goes to CEASED. -/
  | holdTimeLimit (slot : Fin 4096) (gpi : BitVec 32) (bad : List (BitVec 32))
  /-- R66. PVALID has been 0 for PVMAX steps and the Stage goes to CEASED. -/
  | pvalidStepLimit (slot : Fin 4096) (gpi : BitVec 32) (bad : List (BitVec 32))
  /-- R80. ENERGISE has lasted longer than 3 × TRAMP and the Stage goes to CEASED. -/
  | energiseTimeLimit (slot : Fin 4096) (gpi : BitVec 32) (bad : List (BitVec 32))
  /-- R80. E_ramp reaches V* and the Stage goes to FORM. -/
  | energiseRampComplete (slot : Fin 4096) (gpi : BitVec 32) (bad : List (BitVec 32))
  /-- R67. HEMACT has been 1 for NHEM steps and HEM hands the Stage to HOLD. -/
  | nhemCountReached (slot : Fin 4096) (gpi : BitVec 32) (bad : List (BitVec 32))
  /-- R66. V_low ≥ VREC and HEMACT = 0 for NREC steps move HOLD to RECOVER. -/
  | nrecCountReached (slot : Fin 4096) (gpi : BitVec 32) (bad : List (BitVec 32))
  /-- R71. Both ramps are complete and RECOVER returns to FORM. -/
  | recoverRampsComplete (slot : Fin 4096) (gpi : BitVec 32) (bad : List (BitVec 32))
  /-- R77. The bus has been dead for N_dead steps; DEADOK is set and CLOSEPERM rises. -/
  | deadokCountReached (slot : Fin 4096) (gpi : BitVec 32) (bad : List (BitVec 32))
  /-- R83. The sync conditions have held for N_sync steps and SYNCOK is set. -/
  | syncokCountReached (slot : Fin 4096) (gpi : BitVec 32) (bad : List (BitVec 32))
  /-- R65. DRM_SCMD STOP moves the Stage to OFF at the next step, in any state but LOCKED. -/
  | stop (st : Fin 4)
  /-- R65. DRM_SCMD ENERGISE moves an OFF Stage to DEADCHK when its conditions hold. -/
  | energise (st : Fin 4)
  /-- R82. DRM_SCMD SYNC starts synchronising to BUS, or a live start when the breaker reads closed. -/
  | sync (st : Fin 4)
  /-- R88. DRM_SCMD JOIN starts synchronising to CLUSTER or BUS, or a live start, with JOIN set. -/
  | join (st : Fin 4)
  /-- R65. DRM_SCMD CLEAR moves a CEASED Stage to OFF. -/
  | clear (st : Fin 4)
  /-- R64. Breaker feedback read at a new level for two consecutive steps changes BRKFB. -/
  | breakerFeedbackChange (slot : Fin 4096) (gpi : BitVec 32) (bad : List (BitVec 32))
  /-- R100. The Stitch cycle slot fires: sources are latched, instances issue level by level and leg outputs are written. -/
  | startStitch (slot : Fin 4096) (fails : List (Fin 128 × Fin 4)) (bad : List (BitVec 32))
  /-- R104. At the end of the cycle in progress a lane is retired, L_s is recomputed and G5 is graded where needed. -/
  | macLaneRetire (mac : Fin 4)
  /-- R105. A cycle not complete by CDL writes no more outputs and records G1; MISSMAX late cycles grade G5. -/
  | stitchCycleLate (slot : Fin 4096) (fails : List (Fin 128 × Fin 4)) (bad : List (BitVec 32))
  /-- R110. After 16 executions with valid samples and AUTORET = 1, the instance returns to AUTO. -/
  | fallbackAutoReturn (slot : Fin 4096) (inst : Fin 128) (fails : List (Fin 128 × Fin 4)) (bad : List (BitVec 32))
  /-- R112. The following-error timer exceeds FETIME and acts according to FEGRADE. -/
  | followingErrorExpiry (slot : Fin 4096) (inst : Fin 128) (fails : List (Fin 128 × Fin 4)) (bad : List (BitVec 32))
  /-- R111. STI_MODECMD with MODE AUTO returns an instance to AUTO from its next cycle, or is refused. -/
  | stiModeAuto (st : Fin 4) (inst : Fin 128)
  /-- R111. STI_MODECMD with MODE MANUAL puts an instance into MANUAL from its next cycle. -/
  | stiModeManual (st : Fin 4) (inst : Fin 128)
  /-- R111. A STI_MAN pair sets the manual output from the next cycle, or is refused outside [UMIN, UMAX]. -/
  | stiManWrite (inst : Fin 128) (value : BitVec 32)
  /-- R111. A STI_SETP pair sets the set-point from the next cycle, or is refused outside its limits. -/
  | stiSetpWrite (inst : Fin 128) (value : BitVec 32)
  /-- R114. A STI_SETREQ pair requests a coefficient set, pending until the next Stitch hand-over, or is refused. -/
  | stiSetRequest (st : Fin 4) (value : BitVec 32) (by_ : Fin 19)
  /-- R129. TCK_WCMD WRITE starts admission of the staged slot words, or is refused. -/
  | slotWrite (slot : Fin 4096) (by_ : Fin 19)
  /-- R130. TCK_WCMD DELETE starts admission of a delete of a slot. -/
  | slotDelete (slot : Fin 4096) (by_ : Fin 19)
  /-- R128. Admission ends within 4,200 FCLK; the write is accepted, staged under a lock, or refused with its cause. -/
  | admissionComplete
  /-- R130. At the switch instant S the new slot content, or the delete, takes effect. -/
  | slotSwitch (slot : Fin 4096)
  /-- R138. A TCK_RIDX write latches the slot's words in force into TCK_RD0–TCK_RD7. -/
  | slotReadLatch (slot : Fin 4096)
  /-- R133. TCK_LCMD ACQUIRE takes a sequence lock on a domain, or is refused. -/
  | lockAcquire (lock : Fin 8) (kind : Fin 4) (st : Fin 4) (by_ : Fin 19)
  /-- R134. TCK_LCMD RENEW reloads the lease of a held lock. -/
  | lockRenew (lock : Fin 8) (by_ : Fin 19)
  /-- R135. TCK_LCMD COMMIT schedules every staged write of the lock for S = commit FCLK + 64. -/
  | lockCommit (lock : Fin 8) (by_ : Fin 19)
  /-- R135. At S the staged writes of a committed lock go into force before the class-0 actions. -/
  | lockCommitRelease (lock : Fin 8)
  /-- R135. TCK_LCMD ABORT discards the staged work and frees the lock, or reports already complete. -/
  | lockAbort (lock : Fin 8) (by_ : Fin 19)
  /-- R135. A lock's lease runs out; its staged work is rolled back and a G0 event is recorded. -/
  | lockLeaseExpiry (lock : Fin 8)
  /-- R135. The owner's reset or power-down sideband asserts and rolls back its locks. -/
  | lockOwnerSideband (owner : Fin 19)
  /-- R137. An occurrence not fired within 7 FCLK of eligibility is dropped and graded G1. -/
  | occurrenceDropped (slot : Fin 4096)
  /-- R243. A normal START_ADC fires and starts a conversion sequence, or is an overrun. -/
  | startAdc (slot : Fin 4096)
  /-- R246. An urgent START_ADC preempts the normal sequence and starts its own sequence. -/
  | startAdcUrgent (slot : Fin 4096)
  /-- R115. A HANDOVER with target 0x00 + s changes the Stitch set selector when a request is pending. -/
  | handoverStitch (slot : Fin 4096)
  /-- R164. A HANDOVER with target 0x10 + s copies compare shadows to ready, or is deferred to CDL. -/
  | handoverPulse (slot : Fin 4096)
  /-- R164. A HANDOVER with target 0x20 + s hands over the Stitch sets and the Pulse-generator shadows. -/
  | handoverBoth (slot : Fin 4096)
  /-- R164. At c + CDL a deferred Pulse-generator hand-over is performed. -/
  | handoverDeferred (st : Fin 4)
  /-- R322. A START_TASK firing makes a cyclic task pending, or is an overrun. -/
  | startTask (slot : Fin 4096)
  /-- R279. A Tack HAMPER action with ARG 0 arms the Hamper in IDLE. -/
  | hamperActionArm (slot : Fin 4096)
  /-- R289. A Tack HAMPER action with ARG 1 is a pulse condition for the sequencer. -/
  | hamperActionTrigger (slot : Fin 4096)
  /-- R304. An ASSERT_HE action drives its HE line high for ARG FCLK. -/
  | assertHe (slot : Fin 4096)
  /-- R124. A Tack GPIO action with ARG 0 drives its GPIO low. -/
  | gpioLow (slot : Fin 4096)
  /-- R124. A Tack GPIO action with ARG 1 drives its GPIO high. -/
  | gpioHigh (slot : Fin 4096)
  /-- R124. A Tack GPIO action with ARG 2 toggles its GPIO. -/
  | gpioToggle (slot : Fin 4096)
  /-- R350. A SPAN_TX firing hands a schedule entry to its port queues. -/
  | spanTx (slot : Fin 4096)
  /-- R146. The planner reaches a crossing at t_p, judges the interval and hands the stamped edges on. -/
  | edgePlan (hb : Fin 104)
  /-- R165. At a load point a carrier takes the ready compares of all its half-bridges. -/
  | carrierLoadPoint (c : Fin 16)
  /-- R149. A direct-leg edge reaches its stamp; a turn-off executes, and a gated turn-on executes only if the acknowledgement is qualified. -/
  | edgeExecute (leg : Fin 8)
  /-- R150. LEGn_ACK changes; after ACKQ synchronised samples it qualifies, and it unqualifies at once on low. -/
  | ackInputChange (leg : Fin 8) (level : Bool)
  /-- R152. No acknowledgement by t_x + ACKTO records EV57 and retires the half-bridge. -/
  | ackTimeout (hb : Fin 104)
  /-- R156. BSN periods without a low interval insert a refresh in the next period. -/
  | bootstrapRefresh (hb : Fin 104)
  /-- R157. Undervoltage still reported BSREC after the refresh pulse ends retires the half-bridge. -/
  | bsrecTimeout (hb : Fin 104)
  /-- R160. A HELD half-bridge whose causes have cleared resumes at its carrier's next period start. -/
  | halfBridgeResume (hb : Fin 104)
  /-- R166. A PGN_CSETREQ pair requests a carrier set, or is refused. -/
  | carrierSetRequest (st : Fin 4) (value : BitVec 32) (by_ : Fin 19)
  /-- R166. At the lead carrier's period start t_s every carrier of the Stage switches set and re-anchors. -/
  | carrierSetSwitch (st : Fin 4)
  /-- R170. A PGN_DISABLE pair puts every half-bridge in the safe state until reset and grades G5. -/
  | moduleDisable
  /-- R172. A link receiver aligns to a comma and gains sync. -/
  | linkRxSync (link : Fin 24) (who : Fin 3)
  /-- R180. Sync is lost on a READY link; its half-bridges are held, OFF is repeated for 1 µs and the link returns to SYNC. -/
  | linkRxSyncLost (link : Fin 24)
  /-- R179. A bring-up state exceeds its limit and returns the link to SYNC; four failed attempts retire it. -/
  | linkStateTimeout (link : Fin 24)
  /-- R179. A HELLO with a matching EPID moves the link from IDENT to CONFIG. -/
  | helloReceived (link : Fin 24) (ok : Bool) (epid : BitVec 32) (nhb : BitVec 4) (dual : Bool) (port : Bool) (epver : BitVec 8)
  /-- R179. A CFGACK with the matching CSEQ moves the link to CAL. -/
  | cfgackReceived (link : Fin 24) (ok : Bool) (cseq : BitVec 8) (epid : BitVec 32)
  /-- R182. Every 1 ms a calibration of four round-trip exchanges begins. -/
  | calibrationStart (link : Fin 24)
  /-- R182. A round-trip answer gives one RTT sample. -/
  | rtaReceived (link : Fin 24) (num : BitVec 4) (ta : BitVec 20) (t4 : BitVec 64)
  /-- R192. A STATUS block updates undervoltage, alarm, temperatures and ownership. -/
  | statusReceived (link : Fin 24) (ok : Bool) (uv : BitVec 4) (alm : BitVec 4) (ocb : BitVec 8) (temps : BitVec 32) (epoch : BitVec 8) (owner : Bool) (tcorr : BitVec 16) (crcn : BitVec 16)
  /-- R192. An OC ordered set updates the off-confirmed status. -/
  | ocReceived (link : Fin 24) (ok : Bool) (oc : BitVec 8)
  /-- R191. An ALARM ordered set is held and treated as a short circuit of the named shunts. -/
  | alarmReceived (link : Fin 24) (ok : Bool) (a : BitVec 8)
  /-- R187. A NACK makes the device resend the command as a retry if it can still meet its deadline. -/
  | nackReceived (link : Fin 24) (ok : Bool) (seq : BitVec 8)
  /-- R195. A REPORT updates the profile entry of the bin echoed. -/
  | reportReceived (link : Fin 24) (ok : Bool) (seq : BitVec 8) (k : Fin 4) (hi : Bool) (turnOn : Bool) (bin : Fin 8) (td : BitVec 16) (tm : BitVec 16) (early : Bool) (noplat : Bool)
  /-- R192. An EVENT SKIP applies R151 to the turn-on the endpoint did not execute. -/
  | eventSkip (link : Fin 24) (ok : Bool) (seq : BitVec 8)
  /-- R188. An EVENT LATE holds the half-bridge with cause MISSED, sends OFF and grades G1. -/
  | eventLate (link : Fin 24) (ok : Bool) (seq : BitVec 8)
  /-- R188. An EVENT MISSING holds the half-bridge with cause MISSED, sends OFF and grades G1. -/
  | eventMissing (link : Fin 24) (ok : Bool) (seq : BitVec 8)
  /-- R385. An EVENT STALE naming this port is recorded, and it fences an ACTIVE unit. -/
  | eventStale (link : Fin 24) (ok : Bool) (seq : BitVec 8) (epoch : BitVec 8) (port : Fin 2)
  /-- R200. An EVENT FAR reports a discarded command stamped more than 2^20 eu ahead. -/
  | eventFar (link : Fin 24) (ok : Bool) (seq : BitVec 8)
  /-- R385. An EVENT CONFLICT is recorded, and it fences an ACTIVE unit. -/
  | eventConflict (link : Fin 24) (ok : Bool) (seq : BitVec 8) (epoch : BitVec 8) (port : Fin 2)
  /-- R188. At the latest resend instant an undeliverable command holds its half-bridge, sends OFF and grades G1. -/
  | edgeUndeliverable (link : Fin 24) (seq : BitVec 8)
  /-- R188. After 16 µs READY without errors and with both switches off-confirmed, cause MISSED clears. -/
  | missedCauseClear (hb : Fin 96)
  /-- R187. An endpoint receives an EDGE block and accepts, discards or detects missing SEQ. -/
  | epEdgeBlock (link : Fin 24) (port : Fin 2) (ok : Bool) (seq : BitVec 8) (epoch : BitVec 8) (k : Fin 4) (hi : Bool) (turnOn : Bool) (report : Bool) (resume : Bool) (stamp : BitVec 40) (pre : BitVec 8) (plat : BitVec 10) (ilev : BitVec 4) (bin : Fin 8)
  /-- R200. An accepted command reaches its stamp and the endpoint executes or skips it. -/
  | epEdgeStamp (link : Fin 24) (port : Fin 2) (seq : BitVec 8) (td : BitVec 16) (tm : BitVec 16) (early : Bool) (noplat : Bool)
  /-- R189. An endpoint receives OFF and turns off the masked half-bridges, cancelling their commands. -/
  | epOff (link : Fin 24) (port : Fin 2) (ok : Bool) (m : BitVec 4)
  /-- R187. An endpoint accepts CONFIG, takes SEQ0 and its standing orders, and answers CFGACK. -/
  | epConfigBlock (link : Fin 24) (port : Fin 2) (ok : Bool) (cseq : BitVec 8) (hben : BitVec 4) (lossto : BitVec 16) (stativ : BitVec 8) (epid : BitVec 32) (seq0 : BitVec 8)
  /-- R197. An endpoint receives an EPOCH block that is newer, conflicting or stale. -/
  | epEpochBlock (link : Fin 24) (port : Fin 2) (ok : Bool) (epochf : BitVec 32) (handoff : BitVec 40)
  /-- R197. Port time reaches HANDOFF; the new port owns the endpoint and later commands of the other port are cancelled. -/
  | epHandoff (link : Fin 24)
  /-- R181. An endpoint sets its port time from LTTX + DFWD. -/
  | epTimeBlock (link : Fin 24) (port : Fin 2) (ok : Bool) (again : Bool) (lttx : BitVec 40) (dfwd : BitVec 16) (t : BitVec 64)
  /-- R182. An endpoint answers an RTQ with an RTA carrying its turnaround. -/
  | epRtq (link : Fin 24) (port : Fin 2) (ok : Bool) (num : BitVec 4) (ta : BitVec 20)
  /-- R187. A still-missing SEQ 512 eu after the first NACK triggers a second NACK. -/
  | epNackRepeat (link : Fin 24) (port : Fin 2) (seq : BitVec 8)
  /-- R187. A missing SEQ never resent is reported as MISSING after its stamp. -/
  | epMissingReport (link : Fin 24) (port : Fin 2) (seq : BitVec 8)
  /-- R180. An endpoint out of sync for LOSSTO turns off every half-bridge. -/
  | epLossTimeout (link : Fin 24) (port : Fin 2)
  /-- R191. A shunt comparator rising edge makes the endpoint send ALARM three times. -/
  | epShuntAlarm (link : Fin 24) (mask : BitVec 4) (high : Bool) (low : Bool)
  /-- R192. A measured gate state change makes the endpoint send OC. -/
  | epGateStateChange (link : Fin 24) (oc : BitVec 8)
  /-- R192. Every STATIV µs the endpoint sends STATUS. -/
  | epStatusInterval (link : Fin 24) (temps : BitVec 32)
  /-- R8. A write of a PW value word holds it, replacing any held value word. -/
  | pwValueWordWrite (addr : BitVec 32) (value : BitVec 32) (by_ : Fin 19)
  /-- R8. A complement word write of a PW field without a row of its own makes the pair take effect if it matches the held value. -/
  | pwComplementWordWrite (addr : BitVec 32) (value : BitVec 32) (by_ : Fin 19)
  /-- R7. A write to a register without a row of its own takes effect under its access code. -/
  | registerWrite (addr : BitVec 32) (value : BitVec 32) (by_ : Fin 19)
  /-- R446. Writing 1 to a W1C flag clears it, unless hardware sets it in the same FCLK. -/
  | w1cWrite (addr : BitVec 32) (value : BitVec 32) (hw : BitVec 32) (by_ : Fin 19)
  /-- R205. A queued record is written to the ring when there is room, and EVT_WIDX advances. -/
  | eventRingWrite
  /-- R205. When the queue has room, an EV126 loss record carrying the count is enqueued. -/
  | lossRecordEnqueue
  /-- R206. Software advances EVT_RIDX; an out-of-range write is ignored and sets BADIDX. -/
  | evtRidxWrite (value : BitVec 32) (by_ : Fin 19)
  /-- R210. An EVT_UNLOCK pair with GO unlocks a Stage, or is refused with EV15. -/
  | stageUnlock (value : BitVec 32) (by_ : Fin 19)
  /-- R211. At each leak instant a counter's level falls by 1 if above 0. -/
  | upsetCounterLeak (counter : BitVec 16)
  /-- R217. A TMB register write sets a perturbation in test mode while the evaluator is not armed, or is ignored with EV95. -/
  | tmbWrite (addr : BitVec 32) (value : BitVec 32) (by_ : Fin 19)
  /-- R223. A trip input asserts; its latch sets, direct legs are gated off and the masked half-bridges are held and graded. -/
  | tripInputAssert (trip : Fin 8)
  /-- R225. Writing 1 to a PRT_TFLAG bit clears the trip if the input is inactive, else is refused with EV84. -/
  | tripClear (trip : Fin 8) (active : Bool)
  /-- R227. A window comparator output becomes active and acts by its mode, or is blanked. -/
  | comparatorAssert (cmp : Fin 48)
  /-- R228. At the end of a blanking window an active comparator makes that FCLK the deciding FCLK. -/
  | blankingEnd (cmp : Fin 48) (active : Bool)
  /-- R233. A clear of a comparator flag is accepted if the output is inactive, else refused. -/
  | comparatorFlagClear (cmp : Fin 48) (active : Bool)
  /-- R233. A clear of an alarm flag is accepted if STATUS shows no ALM and the link is READY, else refused. -/
  | alarmFlagClear (hb : Fin 96)
  /-- R235. Every 10 ms each threshold DAC is compared with a check ladder; failures are graded G1. -/
  | dacCheck (diffs : List (Fin 48 × Bool × Nat × Nat))
  /-- R243. An entry's samples are delivered to their streams 30 FCLK after its last sampling instant. -/
  | entryDelivery (bank : Fin 4) (codes : List (BitVec 16))
  /-- R243. A sequence's busy end frees the bank. -/
  | sequenceBusyEnd (bank : Fin 4)
  /-- R250. An ABS phase ends; offset and gain are taken, or EV96 is recorded and ABS repeats. -/
  | absComplete (bank : Fin 4) (slice : Fin 5) (low : BitVec 32) (zero : BitVec 32) (high : BitVec 32)
  /-- R251. A REL phase gathers NREL pairs, updates the skew and runs the consistency check. -/
  | relComplete (bank : Fin 4) (sxy : BitVec 64) (sxx : BitVec 64) (sm : BitVec 64) (gain : BitVec 32)
  /-- R251. A REL without NREL pairs within CALTO ends without update, and ADC_RELSKIP increments. -/
  | relTimeout (bank : Fin 4)
  /-- R252. At a round boundary the spare replaces the shadowed position and the former slice starts ABS. -/
  | spareRotate (bank : Fin 4)
  /-- R259. Every 1 ms the ADC reference is compared with the monitor reference; a failure grades G3. -/
  | referenceCheck (ref : BitVec 16) (mon : BitVec 16)
  /-- R262. A lane accepts an input sample, attaches its AT stamp and runs its stages. -/
  | laneInput (lane : Fin 64) (ok : Bool)
  /-- R274. No input within 2 × ISPC stops the lane. -/
  | laneInputTimeout (lane : Fin 64)
  /-- R272. At stamp + RDLY a lane output is released to its consumers and ring, or dropped as late. -/
  | laneRelease (lane : Fin 64)
  /-- R276. Software advances the ring read index; an out-of-range write is ignored. -/
  | rnsRridxWrite (lane : Fin 64) (value : BitVec 32) (by_ : Fin 19)
  /-- R279. HMP_CMD ARM arms the Hamper from IDLE, or is ignored and counted. -/
  | hamperArm (by_ : Fin 19)
  /-- R289. HMP_CMD FORCE is a pulse condition for the sequencer. -/
  | hamperForce (by_ : Fin 19)
  /-- R279. HMP_CMD ABORT returns ARMED or TRIGGERED to IDLE, or reports already complete. -/
  | hamperAbort (by_ : Fin 19)
  /-- R279. HMP_CMD RELEASE returns COMPLETE to IDLE. -/
  | hamperRelease (by_ : Fin 19)
  /-- R292. HMP_CMD CAL sends a span calibration message for T_c and schedules the pin pulse. -/
  | hamperCal (by_ : Fin 19)
  /-- R288. A sequencer timer expires at its start plus HMP_TLIM. -/
  | hamperTimerExpiry (timer : Fin 4)
  /-- R287. When the FIFO has room, a gap marker with the lost count is enqueued and EV108 recorded. -/
  | hamperGapMarker (channel : Fin 64)
  /-- R286. The writer drains a channel FIFO in a 64-byte burst on an arbiter grant. -/
  | hamperFifoDrain (channel : Fin 64)
  /-- R291. 64 FCLK after T_trig an output TRIG pin pulses, or PINLATE is set. -/
  | triggerPinPulse (pin : Fin 2)
  /-- R291. A rising edge on an input TRIG pin satisfies its condition, or is ignored without a valid delay. -/
  | triggerPinInput (pin : Fin 2)
  /-- R299. An arbiter grants one pending burst on a free target under the class rules. -/
  | arbiterGrant (target : Fin 5) (pend : List (Fin 12 × BitVec 16)) (err : Fin 3) (addr : BitVec 32)
  /-- R298. The DRAM port performs refresh and periodic retraining in its window. -/
  | dramRefreshWindow (ok : Bool)
  /-- R301. A requester's reset or power-down sideband masks it and withdraws its request. -/
  | requesterSideband (requester : Fin 12) (asserted : Bool)
  /-- R305. DMA_RCMD GO processes owned descriptors of a PROGRAM ring. -/
  | dmaGo (ring : Fin 16) (by_ : Fin 19)
  /-- R315. DMA_RCMD ABORT stops a descriptor at the end of the burst, or reports already complete. -/
  | dmaAbort (ring : Fin 16) (by_ : Fin 19)
  /-- R307. The device fetches a descriptor and takes it if owned, or returns it as BADDESC. -/
  | descriptorFetch (ring : Fin 16)
  /-- R311. The last block is read back and compared; the transfer completes, repeats or ends in RBFAIL. -/
  | dmaTransferComplete (ring : Fin 16) (ok : Bool)
  /-- R307. A descriptor is written back in one burst with OWN = 0, status and completion data. -/
  | descriptorReturn (ring : Fin 16)
  /-- R314. A deadline descriptor not complete by start + D is stopped and returned LATE. -/
  | dmaDeadlineExpiry (ring : Fin 16)
  /-- R323. A task executes its last instruction and its output list is issued. -/
  | taskEnd (task : Fin 17) (writes : List (BitVec 32 × BitVec 32))
  /-- R324. A run that has not ended by CYC_TDL records EV24, and then continues or aborts. -/
  | taskDeadlineExpiry (task : Fin 17) (writes : List (BitVec 32 × BitVec 32))
  /-- R320. An exception aborts the task's run, records EV31 and calls the error task. -/
  | taskException (task : Fin 17) (writes : List (BitVec 32 × BitVec 32))
  /-- R326. The device calls the error task with the next queued cause. -/
  | errorTaskCall
  /-- R319. A core difference halts both cores and records EV28, graded G4. -/
  | lockstepMismatch
  /-- R319. 1 ms after a halt the engine warm-restarts unless its counter has overflowed. -/
  | lockstepAutoRestart
  /-- R328. A station without valid input for WDOG cycles is dropped at a cluster-cycle boundary. -/
  | stationDrop (station : Fin 64)
  /-- R331. CYC_RCMD warm requests a warm restart at the end of the writing task's output copy. -/
  | restartWarm (by_ : Fin 19)
  /-- R331. CYC_RCMD cold requests a cold restart at the end of the writing task's output copy. -/
  | restartCold (by_ : Fin 19)
  /-- R332. A restart stops the engine, rolls back task locks, releases forces and discards a pending patch. -/
  | restartBegin
  /-- R330. A restart completes with variables initialised or restored, and EV29 or EV30 is recorded. -/
  | restartComplete
  /-- R333. At the first idle FCLK or 200 µs after the warning, RETAIN is copied to the snapshot range. -/
  | retainSnapshot
  /-- R334. CYC_PCMD SUBMIT starts validation of a patch record. -/
  | patchSubmit (by_ : Fin 19)
  /-- R334. Validation ends within 10 µs; the patch becomes pending or is refused with EV26. -/
  | patchValidated
  /-- R335. At its boundary the pending patch writes all entries as one step and records EV26. -/
  | patchApply
  /-- R334. A patch not applied within 100 ms is refused with cause 0b0110. -/
  | patchTimeout
  /-- R336. CYC_FCMD SET requests a force, or is refused. -/
  | forceSet (value : BitVec 32) (by_ : Fin 19)
  /-- R336. CYC_FCMD RELEASE requests the release of a force, or is refused. -/
  | forceRelease (value : BitVec 32) (by_ : Fin 19)
  /-- R337. At the start of BTASK's next run the force takes effect and EV27 is recorded. -/
  | forceSetApply (index : Fin 64)
  /-- R337. At the end of BTASK's next output copy the force is released and EV27 is recorded. -/
  | forceReleaseApply (index : Fin 64)
  /-- R350. A queued scheduled frame starts on a port once the port is free, in window and released. -/
  | spanFrameStart (port : Fin 4)
  /-- R350. A frame that cannot start before WEND is not sent; TXMISS is set and EV118 is recorded. -/
  | txWindowMiss (port : Fin 4)
  /-- R351. An SPN_BECMD pair queues a best-effort entry for the free part of the cycle. -/
  | bestEffortSend (value : BitVec 32) (by_ : Fin 19)
  /-- R349. A cluster cycle begins at its CT boundary. -/
  | clusterCycleStart
  /-- R364. Every RMULT cluster cycles a region cycle starts, and the cluster manager reports to the region. -/
  | regionCycleStart
  /-- R357. A DATA frame is filtered, forwarded, ordered in its stream and written to the receive ring. -/
  | dataFrameReceive (port : Fin 4) (tag : FrameTag) (dstk : Fin 4) (src : BitVec 18) (dst : BitVec 18) (seq : BitVec 32) (epoch : BitVec 16) (cts : BitVec 28) (data : List (BitVec 8))
  /-- R355. A hold deadline passes; missing SEQ are declared lost with EV118 and held frames delivered. -/
  | streamHoldDeadline (stream : Fin 1024)
  /-- R354. A stream context without a frame for 10 s is freed. -/
  | streamContextExpire (stream : Fin 1024)
  /-- R328. A STATION frame updates a station's input block. -/
  | stationFrameReceive (port : Fin 4) (tag : FrameTag) (dstk : Fin 4) (src : BitVec 18) (dst : BitVec 18) (seq : BitVec 32) (epoch : BitVec 16) (cts : BitVec 28) (data : List (BitVec 8))
  /-- R359. A valid BEACON sets the cluster reference, offsets and manager state. -/
  | beaconReceive (port : Fin 4) (tag : FrameTag) (dstk : Fin 4) (src : BitVec 18) (dst : BitVec 18) (seq : BitVec 32) (epoch : BitVec 16) (cts : BitVec 28) (data : List (BitVec 8))
  /-- R363. A CLAIM is compared with this device's own claim or role. -/
  | claimReceive (port : Fin 4) (tag : FrameTag) (dstk : Fin 4) (src : BitVec 18) (dst : BitVec 18) (seq : BitVec 32) (epoch : BitVec 16) (cts : BitVec 28) (data : List (BitVec 8))
  /-- R360. The manager enters a member REPORT into its member table. -/
  | reportFrameReceive (port : Fin 4) (tag : FrameTag) (dstk : Fin 4) (src : BitVec 18) (dst : BitVec 18) (seq : BitVec 32) (epoch : BitVec 16) (cts : BitVec 28) (data : List (BitVec 8))
  /-- R362. A member takes its own dispatch entry into SPN_DP, SPN_DQ and SPN_DBS. -/
  | dispatchReceive (port : Fin 4) (tag : FrameTag) (dstk : Fin 4) (src : BitVec 18) (dst : BitVec 18) (seq : BitVec 32) (epoch : BitVec 16) (cts : BitVec 28) (data : List (BitVec 8))
  /-- R346. A TRIGGER frame satisfies condition 0x05 of the Hamper, deduplicated by serial number. -/
  | triggerFrameReceive (port : Fin 4) (tag : FrameTag) (dstk : Fin 4) (src : BitVec 18) (dst : BitVec 18) (seq : BitVec 32) (epoch : BitVec 16) (cts : BitVec 28) (data : List (BitVec 8))
  /-- R346. A TCAL frame supplies T_c for pin delay calibration. -/
  | tcalReceive (port : Fin 4) (tag : FrameTag) (dstk : Fin 4) (src : BitVec 18) (dst : BitVec 18) (seq : BitVec 32) (epoch : BitVec 16) (cts : BitVec 28) (data : List (BitVec 8))
  /-- R381. A REFEREE frame of kind HEALTH, GRANT or REQUEST is consumed in arrival order. -/
  | refereeFrameReceive (port : Fin 4) (tag : FrameTag) (dstk : Fin 4) (src : BitVec 18) (dst : BitVec 18) (seq : BitVec 32) (epoch : BitVec 16) (cts : BitVec 28) (data : List (BitVec 8))
  /-- R348. An accepted Sync on the slave port gives a CT error sample. -/
  | ptpSyncReceive (port : Fin 4) (origin : BitVec 64)
  /-- R347. A peer-delay exchange updates SPN_PDLY. -/
  | ptpPdelayExchange (port : Fin 4) (t1 : BitVec 64) (t2 : BitVec 64) (t3 : BitVec 64) (t4 : BitVec 64)
  /-- R348. An announce receipt timeout clears TRACKING and records EV20. -/
  | ptpAnnounceTimeout (port : Fin 4)
  /-- R359. BLOSS cycles without a valid beacon lose the cluster reference. -/
  | beaconLoss
  /-- R363. After BLOSS + 2p cycles without a beacon, a device sends a CLAIM. -/
  | successionClaim (region : Bool)
  /-- R363. A claimant hearing nothing preferred for 2 cycles becomes manager and records EV120. -/
  | managerRoleTake (region : Bool)
  /-- R365. No valid beacon for MCLOSS in FORM or HEM makes the device unlinked. -/
  | mainsCodeUnlinked
  /-- R365. An unlinked device without a received frame for (POS + 1) × MCWAIT starts sending. -/
  | mainsCodeSendStart
  /-- R367. A detected frame with a valid CRC is latched in SPN_MCRX and EV121 is recorded. -/
  | mainsCodeFrameReceive
  /-- R368. A span port loses its link and its loss counter advances. -/
  | spanLinkLoss (port : Fin 4)
  /-- R373. The pair link comes up in WAIT and the unit enters SYNCING or takes authority. -/
  | pairLinkUp (prole : BitVec 3) (pepoch : BitVec 32)
  /-- R373. No pair link within 10 ms leaves the unit in WAIT awaiting a grant. -/
  | pairWaitTimeout
  /-- R375. At FCLK 480 of the CSTAGE Drum step the active unit snapshots state and sends 32 COPY segments. -/
  | pairSnapshot
  /-- R376. The standby receives COPY segments; an incomplete copy records EV122. -/
  | copyFrameReceive (epoch : BitVec 32) (segs : List (Fin 32 × List (BitVec 8))) (bad : List (Fin 32))
  /-- R372. 16 consecutive healthy copies move SYNCING to STANDBY. -/
  | syncingToStandby
  /-- R378. Every 1 ms a TIMEQ/TIMEA exchange updates PAR_LTERR. -/
  | pairTimeExchange (t1 : BitVec 64) (t2 : BitVec 64) (t3 : BitVec 64) (t4 : BitVec 64)
  /-- R379. A peer HEALTH frame updates PAR_PHEALTH, or fences a unit on a newer epoch. -/
  | healthFrameReceive (epoch : BitVec 32) (word : BitVec 32) (prole : BitVec 3)
  /-- R385. An AUTH with a newer epoch fences an ACTIVE unit. -/
  | authReceive (epoch : BitVec 32)
  /-- R381. REF_GRANT high for 16 FCLK is a grant. -/
  | refGrantInput
  /-- R384. At the next CSTAGE firing after a grant the unit enters TAKING, raises its epoch and sends AUTH and EPOCH blocks. -/
  | takeoverEnter (slot : Fin 4096) (gpi : BitVec 32) (bad : List (BitVec 32))
  /-- R384. At H the taking unit becomes ACTIVE. -/
  | handoffReached
  /-- R387. A primary STANDBY healthy for THBACK sends HBREQ. -/
  | handbackRequest
  /-- R387. The ACTIVE unit answers HBREQ with HBACK carrying H. -/
  | hbreqReceive
  /-- R387. The primary enters TAKING and sends AUTH and EPOCH blocks with HANDOFF H. -/
  | hbackReceive (h : BitVec 64)
  /-- R387. PAR_CMD REQUEST hands authority to a healthy peer, or is refused. -/
  | pairCmdRequest (by_ : Fin 19)
  /-- R387. PAR_CMD INHIBIT blocks hand-back. -/
  | pairCmdInhibit (by_ : Fin 19)
  /-- R387. PAR_CMD PERMIT allows hand-back again. -/
  | pairCmdPermit (by_ : Fin 19)
  /-- R382. A hardware referee sends a GRANT once its rule holds for TREF. -/
  | refereeGrantIssue (pair : Fin 16) (unit : Fin 2)
  /-- R388. A pair-link lane goes down and its counter advances. -/
  | pairLaneLoss (plane : Fin 2)
  /-- R395. An input counts open after TFILT samples and a READY stop function enters DEMAND. -/
  | safetyInputOpen (ch : Fin 2) (spair : Fin 8) (second : Bool)
  /-- R395. An input counts closed; a function with both inputs closed enters WAITRESET or READY. -/
  | safetyInputClosed (ch : Fin 2) (spair : Fin 8) (second : Bool)
  /-- R395. The other input does not follow within TDISC; EV89 and lock-out. -/
  | discrepancyTimeout (ch : Fin 2) (spair : Fin 8)
  /-- R395. The TSTOP delay of an ESTOP1 demand ends and the paths turn off. -/
  | estop1DelayExpiry (ch : Fin 2) (spair : Fin 8)
  /-- R393. A SAFE_TP output starts its low test pulse. -/
  | testPulseStart (output : Fin 2)
  /-- R393. A test pulse ends; an input that did not read low is a test-pulse fault. -/
  | testPulseEnd (output : Fin 2) (high : BitVec 8)
  /-- R391. Every 20 µs the channels exchange state words; persistent mismatch locks out. -/
  | channelStateExchange (ch : Fin 2)
  /-- R391. No heartbeat toggle for 100 µs locks out. -/
  | heartbeatTimeout (ch : Fin 2)
  /-- R391. A 1 ms measurement of the other channel's clock deviating above 10 % locks out. -/
  | clockDeviationCheck (ch : Fin 2) (ppm : BitVec 32)
  /-- R400. Feedback pins not in the required state within TFB is a Path B feedback fault. -/
  | feedbackTimeout
  /-- R400. A 1 ms disagreement of feedback with the steady path state is a feedback fault. -/
  | feedbackDisagreement
  /-- R400. The proof count reaches TPROOF; PROOFDUE is set and EV94 recorded. -/
  | proofDue
  /-- R403. Release of SRST_N after a 100 ms–2 s press requests a reset of the evaluator. -/
  | srstRelease (pressA : BitVec 32) (pressB : BitVec 32)
  /-- R404. The arming steps finish; ARMED is set, Tumble stops and the paths permit as allowed. -/
  | safetyArmComplete (same : Bool)
  /-- R457. A low JTAG_TRST_N holds the TAP in reset. -/
  | jtagTapReset (level : Bool)
  /-- R457. A boundary-scan instruction is accepted, with driving instructions limited to test mode while unarmed. -/
  | jtagInstruction (instr : JtagInstr)
  /-- R20. On a Stage with angle time but no active Drum, the Bobbin takes up its new word at the outer-tick timing fixed in the image, following its source under the clamps of R19. -/
  | bobbinOuterTick (st : Fin 4)
  /-- R187. An IDLE ordered set is received: the device counts it towards the 64 needed to leave SYNC, and the endpoint uses its L to detect missing SEQ. -/
  | idleReceived (link : Fin 24) (who : Fin 3) (ok : Bool) (l : BitVec 8)
  /-- R180. The endpoint's receiver loses sync on a port, and the LOSSTO standing-order time starts. -/
  | epRxSyncLost (link : Fin 24) (port : Fin 2)
  /-- R192. A high-side supply undervoltage or alarm condition changes at the endpoint, which sends STATUS within 800 eu. -/
  | epStatusConditionChange (link : Fin 24) (uv : BitVec 4) (alm : BitVec 4) (temps : BitVec 32)
  /-- R398. While Path A stays off, OFF with mask 0b1111 is sent on every enabled link once every 10 µs after the first 1 µs. -/
  | pathAOffRepeat
  /-- R400. SAFE_FBA or SAFE_FBB changes level; a turn-off verified within TFB restarts the proof count, and arming step 2 is met. -/
  | pathBFeedbackChange (second : Bool) (level : Bool)
  /-- R379. A self-test cycle of SRAM scrub, pair-lane loopback and continuous checks completes once per second and sets or clears SELFTEST. -/
  | selfTestCycleComplete (ok : Bool) (sbe : List (Fin 3)) (ue : List (Fin 3 × BitVec 32))
  /-- R339. A span port gains its link; LINK is set, and its recovered clock becomes a present reference. -/
  | spanLinkUp (port : Fin 4)
  /-- R368. A received span frame with an FCS error, a tagged header, a foreign EtherType, an unknown version or an unknown type is discarded and counted, which may retire the port. -/
  | spanFrameDiscarded (port : Fin 4) (fcs : Bool)
  /-- R376. A pair-link lane comes back into service; ONELANE clears and snapshots are taken at every firing again. -/
  | pairLaneUp (plane : Fin 2)
  /-- R347. An IEEE 1588 Announce is received; the BMCA selects the master and slave port and restarts the announce receipt timeout. -/
  | ptpAnnounceReceive (port : Fin 4) (gm : BitVec 112) (steps : BitVec 16)
  /-- R347. On a port in the master state the ordinary clock sends Sync every 2^-SYNCIV s and Announce every 1 s. -/
  | ptpMessageInterval (port : Fin 4)
  /-- R419. A CLKOUT with source CTPPS drives a pulse of PW µs at each whole CT second, placed at its LT to 1 eu. -/
  | ctppsPulse (output : Fin 6)
  deriving DecidableEq, Repr

end Sys2Proof
end

