-- ==== Sys2Proof/Config.lean ====
section
/-! DEFINITION. What one implementation fixes and the manual does not: each value the manual leaves open is a constant
without a body, so that a claim holds whatever it is. -/

namespace Sys2Proof

/-- The n-th value that the manual leaves open during a run (log entry 2). -/
opaque Config.freeValue : Nat → BitVec 64

/-- The angle of the zero vector, which R36 and R63 do not state (log entry 21). -/
opaque Config.angleOfZero : BitVec 32

/-- The curve margin of a curve without a used point, which R75 does not state (log entry 23). -/
opaque Config.noMargin : BitVec 32

/-- EPID of the endpoint of a link, and its NHB [3:0] and DUAL [4] as HELLO carries them (R178; log entry 24). -/
opaque Config.endpointId : Nat → BitVec 32
opaque Config.endpointFit : Nat → BitVec 5

/-- The coefficients of a ROM filter response before its centre, by code and tap, and their fraction bits (R263): the manual states
none of them (log entry 31). -/
opaque Config.firTap : Nat → Nat → Int
opaque Config.firFrac : Nat → Nat

/-- The coefficients of one phase of the resampler, by phase and tap (oldest value first), in units of 2^-32: the manual states none
of them (R269, R270; log entry 31). -/
opaque Config.resampleTap : Nat → Nat → Int

/-- The factory scaling of a temperature channel: channel and corrected code in 1/16 LSB, to 1/16 °C (R258; log entry 32). -/
opaque Config.diagTemp : Nat → Int → Int

/-- The level of a trip input at its ball, by input and LT, beyond the assertions that commands bring (R222, R225; log entry 156).
-/
opaque Config.tripPin : Nat → Nat → Bool

/-- Whether the input of a comparator lies between two threshold codes, by comparator, lower and upper code and LT: beyond the
assertions that commands bring (R226; log entry 156). -/
opaque Config.inBand : Nat → Nat → Nat → Nat → Bool

/-- The raw result of a slice whose sampling instant a Tumble mismatch moves: code, eu and the nominal stamp in 1/64 eu (R253; log
entry 157). -/
opaque Config.skewed : Int → Int → Nat → Int

/-! The content of the image's SEGTAB and NVMMAP sections, whose layouts the manual does not give (log entry 33). -/

/-- The kinds of segment of a cycle program (R321, R334, R336). -/
inductive SegKind where
  | code | const | vars | inputs | outputs | save | stack | shared | patch | retain
  deriving DecidableEq, Repr, Inhabited

/-- A segment: kind, owning task (16 the error task), base, bytes, whether forces are excluded, and the address in program
SRAM of its initial values. -/
structure Seg where
  kind : SegKind
  task : Nat
  base : Nat
  len : Nat
  noforce : Bool
  init : Option Nat
  deriving DecidableEq, Repr, Inhabited

/-- What an input entry copies (R323, R328): a register, a Rinse lane with its VALID bit, a GPIO, a word of a station's
input block with its substitute (none: HOLD), a station's status. -/
inductive InSrc where
  | reg (addr : Nat)
  | lane (l : Nat)
  | gpio (n : Nat)
  | station (sn word : Nat) (subst : Option Nat)
  | status (sn : Nat)
  deriving DecidableEq, Repr, Inhabited

/-- Where an output entry goes (R323): a register, a pair by the address of its value word, a GPIO, a station's word. -/
inductive OutDst where
  | reg (addr : Nat)
  | pair (addr : Nat)
  | gpio (n : Nat)
  | station (sn word : Nat)
  deriving DecidableEq, Repr, Inhabited

/-- The cycle program as the image describes it: its segments, and for each task (16 the error task) its input and output
lists, each entry with the address of its image word. -/
structure Program where
  segs : List Seg
  ins : Tbl (List (InSrc × Nat))
  outs : Tbl (List (OutDst × Nat))
  deriving DecidableEq, Repr, Inhabited

/-- What a SEGTAB section says. -/
opaque Config.program : List Nat → Program

/-- What an NVMMAP section says: the values of PWR_SECTA, PWR_SECTB, PWR_USRBASE, PWR_USRSIZE and PWR_FLASH. -/
opaque Config.nvmMap : List Nat → List Nat

/-- An entry of a patch record: address, width in bits and value of its 12 bytes (R334), whose layout is not stated. -/
opaque Config.patchEntry : List Nat → Nat × Nat × Nat

/-- N and W (µs) of the upset counters that the image sets, by counter identity; the layout of such settings in the image is
not stated (R211; log entry 33). -/
opaque Config.counters : List Nat → Tbl (Nat × Nat)

/-- The epoch that an image carries for PAR_EPOCH (R345, R389), whose place in the image is not stated (log entry 33). -/
opaque Config.imageEpoch : List Nat → BitVec 32

/-- UNIT and PRIMARY of the other unit of a pair, as the identity that a paired image records for it gives them (R370): the manual
does not give that record's place in the image (log entry 88). -/
opaque Config.otherUnit : List Nat → Bool × Bool

/-- The outer tick in FCLK of a Stage with angle time and without a Drum, which the image gives and no rule places (R20;
log entry 40). -/
opaque Config.outerTick : List Nat → Nat → Nat

/-- The memory targets of the source and destination bursts of a deadline DMA ring, which R313 counts and no CFG field names
(log entry 41). -/
opaque Config.dmaTargets : Nat → Nat × Nat

/-- Bytes of a flash sector, which the flash's SFDP tables give (R426). -/
opaque Config.sectorBytes : Nat

/-- The IEEE 1588 clock quality that R347 does not state (clockAccuracy and offsetScaledLogVariance, 24 bits) and the
clockIdentity of this device (R347; log entry 34). -/
opaque Config.clockQuality : BitVec 24
opaque Config.clockIdentity : BitVec 64

end Sys2Proof
end

