-- ==== Sys2Proof/Machine/Operands.lean ====
section
/-! DEFINITION. The number formats of the manual (Qm.n, R46, R93) and the exact arithmetic behind them: rounding,
saturation, and the trigonometric, root and exponential values that the rules name without a rounding of their own.
DEDUCED (log entry 20): such a value is the real value carried to 64 fraction bits, and rounded to the format of the node
that stores it. -/

namespace Sys2Proof.Machine

/-- `a / b` rounded to nearest, ties away from zero (R46, R93). -/
def roundDiv (a : Int) (b : Nat) : Int :=
  if 0 ≤ a then (2 * a + b) / (2 * b) else -((2 * (-a) + b) / (2 * b))

/-- `a / b` rounded to nearest, ties upwards (R147, R182). -/
def roundUp (a : Int) (b : Nat) : Int := (2 * a + b) / (2 * b)

/-- `a / b` rounded towards zero (R25). -/
def truncDiv (a : Int) (b : Nat) : Int := if 0 ≤ a then a / b else -((-a) / b)

/-- `ceil(a / b)`. -/
def ceilDiv (a b : Nat) : Nat := (a + b - 1) / b

/-- `x` held within [lo, hi]. -/
def clampI (lo hi x : Int) : Int := if x < lo then lo else if hi < x then hi else x

/-- The signed range of `n` bits: saturation of a stored node (R46, R93). -/
def satBits (n : Nat) (x : Int) : Int := clampI (-(2 ^ (n - 1))) (2 ^ (n - 1) - 1) x

/-- Whether a value lies outside the signed range of `n` bits. -/
def satd (n : Nat) (x : Int) : Bool := satBits n x != x

/-- The product of a value with a factor of `f` fraction bits, rounded to nearest, ties away from zero. -/
def mulQ (f : Nat) (a b : Int) : Int := roundDiv (a * b) (2 ^ f)

/-- `x` taken modulo 2^32 into −2^31 to 2^31 − 1 (wrap32 of R42, R63). -/
def wrap32 (x : Int) : Int := (BitVec.ofInt 32 x).toInt

/-- A word as a two's complement number. -/
def signed (n : Nat) (v : Nat) : Int := (BitVec.ofNat n v).toInt

/-- The two's complement code of a number in `n` bits. -/
def codeOf (n : Nat) (x : Int) : Nat := (BitVec.ofInt n x).toNat

/-- π/2 in units of 2^-64. -/
def piHalf : Int := 28976077832308491370

/-- 1/√3 in units of 2^-64. -/
def invSqrt3 : Int := 10650232656628343401

/-- √3/2 in units of 2^-64. -/
def sqrt3Half : Int := 15975348984942515102

/-- The terms of the Taylor series whose ratio is −x²/((k+1)(k+2)), summed. -/
def taylor : Nat → Nat → Int → Int → Int → Int
  | 0, _, _, _, acc => acc
  | fuel + 1, k, x2, term, acc =>
    let t := -(term * x2 / 2 ^ 64) / ((k + 1) * (k + 2) : Nat)
    taylor fuel (k + 2) x2 t (acc + t)

/-- sin and cos of an angle of the first quadrant (r a-counts of 2^30), in units of 2^-64. -/
def sinQuarter (r : Nat) : Int :=
  let x := piHalf * r / 2 ^ 30
  taylor 14 1 (x * x / 2 ^ 64) x x
def cosQuarter (r : Nat) : Int :=
  let x := piHalf * r / 2 ^ 30
  taylor 14 0 (x * x / 2 ^ 64) (2 ^ 64) (2 ^ 64)

/-- sin of an angle in a-counts, in units of 2^-64. -/
def sinA (a : Nat) : Int :=
  let r := a % 2 ^ 30
  match a % 2 ^ 32 / 2 ^ 30 with
  | 0 => sinQuarter r
  | 1 => cosQuarter r
  | 2 => -sinQuarter r
  | _ => -cosQuarter r

/-- cos of an angle in a-counts, in units of 2^-64. -/
def cosA (a : Nat) : Int := sinA (a + 2 ^ 30)

/-- A product with a factor in units of 2^-64, rounded to nearest, ties away from zero. -/
def mul64 (a f : Int) : Int := roundDiv (a * f) (2 ^ 64)

/-- The vector (d, q) rotated by the angle `a` in a-counts. -/
def rotate (a : Nat) (v : Int × Int) : Int × Int :=
  (mul64 1 (v.1 * cosA a - v.2 * sinA a), mul64 1 (v.1 * sinA a + v.2 * cosA a))

/-- atan(2^-i) for i = 0, 1, …, in units of 2^-52 cycle. -/
def atanTable : List Int :=
  [562949953421312, 332328762728241, 175593391255098, 89133947149786] ++
  [44739939329418, 22391779856454, 11198622188162, 5599652814148] ++
  [2799869127948, 1399939904267, 699970619676, 349985393281] ++
  [174992707071, 87496354839, 43748177583, 21874088812] ++
  [10937044408, 5468522205, 2734261102, 1367130551] ++
  [683565276, 341782638, 170891319, 85445659] ++
  [42722830, 21361415, 10680707, 5340354] ++
  [2670177, 1335088, 667544, 333772] ++
  [166886, 83443, 41722, 20861] ++
  [10430, 5215, 2608, 1304] ++
  [652, 326, 163, 81
  ]

/-- The angle of (x, y) with x > 0, in units of 2^-52 cycle, by successive rotations. -/
def atanGo : List Int → Nat → Int → Int → Int → Int
  | [], _, _, _, acc => acc
  | a :: t, i, x, y, acc =>
    if 0 ≤ y then atanGo t (i + 1) (x + y / 2 ^ i) (y - x / 2 ^ i) (acc + a)
    else atanGo t (i + 1) (x - y / 2 ^ i) (y + x / 2 ^ i) (acc - a)

/-- atan2(y, x) in signed a-counts (R36); of the zero vector, which has no angle, the open value of Config. -/
def atan2A (y x : Int) : Int :=
  if x = 0 ∧ y = 0 then Config.angleOfZero.toInt
  else
    let s : Int := 2 ^ 48
    let a := if 0 < x ∨ (x = 0 ∧ y ≠ 0) then atanGo atanTable 0 (x * s) (y * s) 0
      else atanGo atanTable 0 (-x * s) (-y * s) 0 + 2 ^ 51
    wrap32 (roundDiv a (2 ^ 20))

/-- The integer square root, bit by bit from 2^k down. -/
def sqrtGo : Nat → Nat → Nat → Nat
  | 0, _, r => r
  | k + 1, n, r => let c := r + 2 ^ k; sqrtGo k n (if c * c ≤ n then c else r)

/-- √n rounded to nearest. -/
def sqrtNear (n : Nat) : Nat :=
  let r := sqrtGo 72 n 0
  if r * r + r < n then r + 1 else r

/-- |(x, y)| in the format of its components, rounded to nearest. -/
def magnitude (x y : Int) : Int := (sqrtNear (x * x + y * y).toNat : Nat)

/-- Σ_k −(−t)^k / k! from k = 1, with t in units of 2^-96. -/
def expGo : Nat → Nat → Int → Int → Int → Int
  | 0, _, _, _, acc => acc
  | fuel + 1, k, t, term, acc =>
    let m := -(term * t / 2 ^ 96) / (k + 1 : Nat)
    expGo fuel (k + 1) t m (acc + m)

/-- 1 − exp(−a/b) with `f` fraction bits, rounded to nearest (R42, R51); a/b below 1. -/
def oneMinusExp (f a b : Nat) : Nat :=
  if b = 0 then 2 ^ f
  else
    let t : Int := (a * 2 ^ 96 / b : Nat)
    (roundDiv (expGo 30 1 t t t) (2 ^ (96 - f))).toNat

end Sys2Proof.Machine
end

