-- ==== Sys2Proof/Machine/RegMap.lean ====
section
/-! DEFINITION. The register space of R1 and R443: the address of every register of the manual's register maps, the
place of every field, and for each register its access code (R7) and the mask of the bits it has (R9). Every name is
the manual's own; the numbers are those of the Offset and Bits columns of the owning chapters' maps. -/

namespace Sys2Proof.Reg

/-! Block BOB -/

/-- R32; PW, reset Image. -/
def BOB_SRCREQ (st : Nat) : Nat := 0x40010000 + 0x100 * st
def BOB_SRCREQ_SRC : Fld := ⟨0, 3⟩
def BOB_SRCREQ_KIND : Fld := ⟨4, 1⟩
/-- R32; RO, reset 0x0000_0000. -/
def BOB_STAT (st : Nat) : Nat := 0x40010008 + 0x100 * st
def BOB_STAT_ACTSRC : Fld := ⟨0, 3⟩
def BOB_STAT_SLEWING : Fld := ⟨3, 1⟩
def BOB_STAT_WCLAMP : Fld := ⟨4, 1⟩
def BOB_STAT_FALLBACK : Fld := ⟨5, 1⟩
def BOB_STAT_REFCODE : Fld := ⟨8, 3⟩
/-- R32; RO, reset FNOM. -/
def BOB_FWORD_LO (st : Nat) : Nat := 0x40010010 + 0x100 * st
/-- R32; RO, reset FNOM. -/
def BOB_FWORD_HI (st : Nat) : Nat := 0x40010014 + 0x100 * st
/-- R32; CFG, reset Image. -/
def BOB_FNOM_LO (st : Nat) : Nat := 0x40010018 + 0x100 * st
/-- R32; CFG, reset Image. -/
def BOB_FNOM_HI (st : Nat) : Nat := 0x4001001C + 0x100 * st
/-- R32; CFG, reset Image. -/
def BOB_FMIN_LO (st : Nat) : Nat := 0x40010020 + 0x100 * st
/-- R32; CFG, reset Image. -/
def BOB_FMIN_HI (st : Nat) : Nat := 0x40010024 + 0x100 * st
/-- R32; CFG, reset Image. -/
def BOB_FMAX_LO (st : Nat) : Nat := 0x40010028 + 0x100 * st
/-- R32; CFG, reset Image. -/
def BOB_FMAX_HI (st : Nat) : Nat := 0x4001002C + 0x100 * st
/-- R32; CFG, reset Image. -/
def BOB_DWMAX (st : Nat) : Nat := 0x40010030 + 0x100 * st
/-- R32; CFG, reset Image. -/
def BOB_SRCCFG (st : Nat) : Nat := 0x40010034 + 0x100 * st
def BOB_SRCCFG_INITSRC : Fld := ⟨0, 3⟩
def BOB_SRCCFG_FALLBACK : Fld := ⟨4, 3⟩
def BOB_SRCCFG_FOLLOW : Fld := ⟨8, 2⟩
def BOB_SRCCFG_BUSLANE : Fld := ⟨16, 6⟩
def BOB_SRCCFG_SLEWN : Fld := ⟨22, 6⟩
/-- R32; CFG, reset Image. -/
def BOB_SRCOFS (st : Nat) : Nat := 0x40010038 + 0x100 * st
/-- R32; RO, reset 0x0000_0000. -/
def BOB_AT_LO (st : Nat) : Nat := 0x40010040 + 0x100 * st
/-- R32; RO, reset 0x0000_0000. -/
def BOB_AT_HI (st : Nat) : Nat := 0x40010044 + 0x100 * st
/-- R32; RO, reset 0x0000_0000. -/
def BOB_ATLT_LO (st : Nat) : Nat := 0x40010048 + 0x100 * st
/-- R32; RO, reset 0x0000_0000. -/
def BOB_ATLT_HI (st : Nat) : Nat := 0x4001004C + 0x100 * st
/-- R32; RO, reset 0x0000_0000. -/
def BOB_PHERR (st : Nat) : Nat := 0x40010050 + 0x100 * st
/-- R32; W1C, reset 0x0000_0000. -/
def BOB_EVT (st : Nat) : Nat := 0x40010054 + 0x100 * st
def BOB_EVT_SRCLOST : Fld := ⟨0, 1⟩
def BOB_EVT_REFUSED : Fld := ⟨1, 1⟩
def BOB_EVT_ALIGNED : Fld := ⟨2, 1⟩
/-- R32; RO, reset 0x0000_0000. -/
def BOB_ALJUMP (st : Nat) : Nat := 0x40010058 + 0x100 * st
/-- R32; RO, reset 0x0000_0000. -/
def BOB_ALSKIP (st : Nat) : Nat := 0x4001005C + 0x100 * st
/-- R32; RO, reset 0x0000_0000. -/
def BOB_LT_LO : Nat := 0x40010800
/-- R32; RO, reset 0x0000_0000. -/
def BOB_LT_HI : Nat := 0x40010804
/-- R32; RO, reset 0x0000_0000. -/
def BOB_CTOFS_LO : Nat := 0x40010808
/-- R32; RO, reset 0x0000_0000. -/
def BOB_CTOFS_HI : Nat := 0x4001080C
/-- R32; RO, reset 0x0000_0000. -/
def BOB_CTERR : Nat := 0x40010810
/-- R32; RO, reset 0x0000_0000. -/
def BOB_CTSTAT : Nat := 0x40010814
def BOB_CTSTAT_ANCHORED : Fld := ⟨0, 1⟩
def BOB_CTSTAT_TRACKING : Fld := ⟨1, 1⟩

/-! Block DRM -/

/-- R58; PW, reset Image. -/
def DRM_PSET (st : Nat) : Nat := 0x40030000 + 0x400 * st
/-- R58; PW, reset Image. -/
def DRM_QSET (st : Nat) : Nat := 0x40030008 + 0x400 * st
/-- R58; PW, reset Image. -/
def DRM_VSET (st : Nat) : Nat := 0x40030010 + 0x400 * st
/-- R58; PW, reset Image. -/
def DRM_FSET (st : Nat) : Nat := 0x40030018 + 0x400 * st
/-- R58; PW, reset Image. -/
def DRM_MP (st : Nat) : Nat := 0x40030020 + 0x400 * st
/-- R58; PW, reset Image. -/
def DRM_NQ (st : Nat) : Nat := 0x40030028 + 0x400 * st
/-- R58; PW, reset Image. -/
def DRM_HEM (st : Nat) : Nat := 0x40030030 + 0x400 * st
/-- R58; PW, reset Image. -/
def DRM_MODE (st : Nat) : Nat := 0x40030038 + 0x400 * st
def DRM_MODE_RESTORE : Fld := ⟨0, 1⟩
/-- R58; PW, reset 0x0000_0000. -/
def DRM_COMMIT (st : Nat) : Nat := 0x40030040 + 0x400 * st
/-- R58; PW, reset 0x0000_0000. -/
def DRM_HEMREST (st : Nat) : Nat := 0x40030048 + 0x400 * st
/-- R58; CFG, reset Image. -/
def DRM_H (st : Nat) : Nat := 0x40030080 + 0x400 * st
/-- R58; CFG, reset Image. -/
def DRM_D (st : Nat) : Nat := 0x40030084 + 0x400 * st
/-- R58; CFG, reset Image. -/
def DRM_TG (st : Nat) : Nat := 0x40030088 + 0x400 * st
/-- R58; CFG, reset Image. -/
def DRM_TP (st : Nat) : Nat := 0x4003008C + 0x400 * st
/-- R58; CFG, reset Image. -/
def DRM_TD (st : Nat) : Nat := 0x40030090 + 0x400 * st
/-- R58; CFG, reset Image. -/
def DRM_RV (st : Nat) : Nat := 0x40030094 + 0x400 * st
/-- R58; CFG, reset Image. -/
def DRM_XV (st : Nat) : Nat := 0x40030098 + 0x400 * st
/-- R58; CFG, reset Image. -/
def DRM_RVN (st : Nat) : Nat := 0x4003009C + 0x400 * st
/-- R58; CFG, reset Image. -/
def DRM_XVN (st : Nat) : Nat := 0x400300A0 + 0x400 * st
/-- R58; CFG, reset Image. -/
def DRM_KR (st : Nat) : Nat := 0x400300A4 + 0x400 * st
/-- R58; CFG, reset Image. -/
def DRM_URMAX (st : Nat) : Nat := 0x400300A8 + 0x400 * st
/-- R58; CFG, reset Image. -/
def DRM_KPV (st : Nat) : Nat := 0x400300AC + 0x400 * st
/-- R58; CFG, reset Image. -/
def DRM_KIV (st : Nat) : Nat := 0x400300B0 + 0x400 * st
/-- R58; CFG, reset Image. -/
def DRM_EMIN (st : Nat) : Nat := 0x400300B4 + 0x400 * st
/-- R58; CFG, reset Image. -/
def DRM_EMAX (st : Nat) : Nat := 0x400300B8 + 0x400 * st
/-- R58; CFG, reset Image. -/
def DRM_EDMAX (st : Nat) : Nat := 0x400300BC + 0x400 * st
/-- R58; CFG, reset Image. -/
def DRM_PRATE (st : Nat) : Nat := 0x400300C0 + 0x400 * st
/-- R58; CFG, reset Image. -/
def DRM_CFG (st : Nat) : Nat := 0x400300C4 + 0x400 * st
def DRM_CFG_AC : Fld := ⟨0, 1⟩
def DRM_CFG_PSRC : Fld := ⟨1, 1⟩
def DRM_CFG_VCMODE : Fld := ⟨2, 1⟩
def DRM_CFG_VMEAS : Fld := ⟨3, 1⟩
def DRM_CFG_HEMMODE : Fld := ⟨4, 1⟩
def DRM_CFG_WIRE4 : Fld := ⟨5, 1⟩
/-- R58; CFG, reset Image. -/
def DRM_LANE0 (st : Nat) : Nat := 0x400300C8 + 0x400 * st
def DRM_LANE0_LA : Fld := ⟨0, 6⟩
def DRM_LANE0_LB : Fld := ⟨8, 6⟩
def DRM_LANE0_LC : Fld := ⟨16, 6⟩
/-- R58; CFG, reset Image. -/
def DRM_LANE1 (st : Nat) : Nat := 0x400300CC + 0x400 * st
def DRM_LANE1_LA : Fld := ⟨0, 6⟩
def DRM_LANE1_LB : Fld := ⟨8, 6⟩
def DRM_LANE1_LC : Fld := ⟨16, 6⟩
/-- R58; CFG, reset Image. -/
def DRM_VSCL (st : Nat) : Nat := 0x400300D0 + 0x400 * st
/-- R58; CFG, reset Image. -/
def DRM_ISCL (st : Nat) : Nat := 0x400300D4 + 0x400 * st
/-- R58; CFG, reset Image. -/
def DRM_HEMMAX (st : Nat) : Nat := 0x400300D8 + 0x400 * st
/-- R58; CFG, reset Image. -/
def DRM_DERATE (st : Nat) : Nat := 0x400300DC + 0x400 * st
/-- R58; CFG, reset Image. -/
def DRM_HEMFLOOR (st : Nat) : Nat := 0x400300E0 + 0x400 * st
/-- R58; CFG, reset Image. -/
def DRM_ANGADV (st : Nat) : Nat := 0x400300E4 + 0x400 * st
/-- R58; CFG, reset Image. -/
def DRM_PMIN (st : Nat) : Nat := 0x400300E8 + 0x400 * st
/-- R58; CFG, reset Image. -/
def DRM_PMAX (st : Nat) : Nat := 0x400300EC + 0x400 * st
/-- R58; CFG, reset Image. -/
def DRM_QMIN (st : Nat) : Nat := 0x400300F0 + 0x400 * st
/-- R58; CFG, reset Image. -/
def DRM_QMAX (st : Nat) : Nat := 0x400300F4 + 0x400 * st
/-- R58; CFG, reset Image. -/
def DRM_VMIN (st : Nat) : Nat := 0x400300F8 + 0x400 * st
/-- R58; CFG, reset Image. -/
def DRM_VMAX (st : Nat) : Nat := 0x400300FC + 0x400 * st
/-- R58; CFG, reset Image. -/
def DRM_FSETMAX (st : Nat) : Nat := 0x40030100 + 0x400 * st
/-- R58; RO, reset Computed. -/
def DRM_KH_LO (st : Nat) : Nat := 0x40030180 + 0x400 * st
/-- R58; RO, reset Computed. -/
def DRM_KH_HI (st : Nat) : Nat := 0x40030184 + 0x400 * st
/-- R58; RO, reset Computed. -/
def DRM_KPD (st : Nat) : Nat := 0x40030188 + 0x400 * st
/-- R58; RO, reset Computed. -/
def DRM_AG (st : Nat) : Nat := 0x4003018C + 0x400 * st
/-- R58; RO, reset Computed. -/
def DRM_AP (st : Nat) : Nat := 0x40030190 + 0x400 * st
/-- R58; RO, reset Computed. -/
def DRM_AD (st : Nat) : Nat := 0x40030194 + 0x400 * st
/-- R58; RO, reset Computed. -/
def DRM_KS (st : Nat) : Nat := 0x40030198 + 0x400 * st
/-- R58; RO, reset 0x0000_0000. -/
def DRM_PF (st : Nat) : Nat := 0x400301A0 + 0x400 * st
/-- R58; RO, reset 0x0000_0000. -/
def DRM_QF (st : Nat) : Nat := 0x400301A4 + 0x400 * st
/-- R58; RO, reset 0x0000_0000. -/
def DRM_VPOS (st : Nat) : Nat := 0x400301A8 + 0x400 * st
/-- R58; RO, reset 0x0000_0000. -/
def DRM_VNEG (st : Nat) : Nat := 0x400301AC + 0x400 * st
/-- R58; RO, reset 0x0000_0000. -/
def DRM_E (st : Nat) : Nat := 0x400301B0 + 0x400 * st
/-- R58; RO, reset 0x0000_0000. -/
def DRM_DELTA (st : Nat) : Nat := 0x400301B4 + 0x400 * st
/-- R58; RO, reset 0x0000_0000. -/
def DRM_G (st : Nat) : Nat := 0x400301B8 + 0x400 * st
/-- R58; RO, reset 0x0000_0000. -/
def DRM_UR (st : Nat) : Nat := 0x400301BC + 0x400 * st
/-- R58; RO, reset 0x0000_0000. -/
def DRM_VD (st : Nat) : Nat := 0x400301C0 + 0x400 * st
/-- R58; RO, reset 0x0000_0000. -/
def DRM_VQ (st : Nat) : Nat := 0x400301C4 + 0x400 * st
/-- R58; RO, reset I_MAX. -/
def DRM_HEMEFF (st : Nat) : Nat := 0x400301C8 + 0x400 * st
/-- R58; RO, reset 0x0000_0000. -/
def DRM_DERN (st : Nat) : Nat := 0x400301CC + 0x400 * st
/-- R58; RO, reset 0x0000_0000. -/
def DRM_STAT (st : Nat) : Nat := 0x400301D0 + 0x400 * st
def DRM_STAT_PVALID : Fld := ⟨0, 1⟩
def DRM_STAT_FCLAMP : Fld := ⟨1, 1⟩
def DRM_STAT_HEMACT : Fld := ⟨2, 1⟩
def DRM_STAT_DERCAUSE : Fld := ⟨3, 1⟩
def DRM_STAT_TRACK : Fld := ⟨4, 1⟩
def DRM_STAT_COMPEND : Fld := ⟨5, 1⟩
/-- R58; W1C, reset 0x0000_0000. -/
def DRM_SATF (st : Nat) : Nat := 0x400301D4 + 0x400 * st
def DRM_SATF_PWR : Fld := ⟨0, 1⟩
def DRM_SATF_VOLT : Fld := ⟨1, 1⟩
def DRM_SATF_VREF : Fld := ⟨2, 1⟩
def DRM_SATF_SLIP : Fld := ⟨3, 1⟩
def DRM_SATF_FREQ : Fld := ⟨4, 1⟩
/-- R58; RO, reset 0x0000_0000. -/
def DRM_REFUSE (st : Nat) : Nat := 0x400301D8 + 0x400 * st
def DRM_REFUSE_CODE : Fld := ⟨0, 4⟩
/-- R91; PW, reset 0x0000_0000. -/
def DRM_SCMD (st : Nat) : Nat := 0x40030050 + 0x400 * st
def DRM_SCMD_CMD : Fld := ⟨0, 4⟩
/-- R91; CFG, reset Image. -/
def DRM_SMCFG (st : Nat) : Nat := 0x40030200 + 0x400 * st
def DRM_SMCFG_NHEM : Fld := ⟨0, 8⟩
def DRM_SMCFG_NREC : Fld := ⟨8, 8⟩
def DRM_SMCFG_NREP : Fld := ⟨16, 4⟩
def DRM_SMCFG_HOLDTRK : Fld := ⟨20, 1⟩
def DRM_SMCFG_LOCAL : Fld := ⟨21, 1⟩
/-- R91; CFG, reset Image. -/
def DRM_VDIP (st : Nat) : Nat := 0x40030204 + 0x400 * st
/-- R91; CFG, reset Image. -/
def DRM_VREC (st : Nat) : Nat := 0x40030208 + 0x400 * st
/-- R91; CFG, reset Image. -/
def DRM_VANGMIN (st : Nat) : Nat := 0x4003020C + 0x400 * st
/-- R91; CFG, reset Image. -/
def DRM_VDEAD (st : Nat) : Nat := 0x40030210 + 0x400 * st
/-- R91; CFG, reset Image. -/
def DRM_TDEAD (st : Nat) : Nat := 0x40030214 + 0x400 * st
/-- R91; CFG, reset Image. -/
def DRM_TRAMP (st : Nat) : Nat := 0x40030218 + 0x400 * st
/-- R91; CFG, reset Image. -/
def DRM_TREC (st : Nat) : Nat := 0x4003021C + 0x400 * st
/-- R91; CFG, reset Image. -/
def DRM_PRECRATE (st : Nat) : Nat := 0x40030220 + 0x400 * st
/-- R91; CFG, reset Image. -/
def DRM_THMAX (st : Nat) : Nat := 0x40030224 + 0x400 * st
/-- R91; CFG, reset Image. -/
def DRM_TREP (st : Nat) : Nat := 0x40030228 + 0x400 * st
/-- R91; CFG, reset Image. -/
def DRM_KAH (st : Nat) : Nat := 0x4003022C + 0x400 * st
/-- R91; CFG, reset Image. -/
def DRM_DELMAX (st : Nat) : Nat := 0x40030230 + 0x400 * st
/-- R91; CFG, reset Image. -/
def DRM_RVF (st : Nat) : Nat := 0x40030234 + 0x400 * st
/-- R91; CFG, reset Image. -/
def DRM_XVF (st : Nat) : Nat := 0x40030238 + 0x400 * st
/-- R91; CFG, reset Image. -/
def DRM_RVNF (st : Nat) : Nat := 0x4003023C + 0x400 * st
/-- R91; CFG, reset Image. -/
def DRM_XVNF (st : Nat) : Nat := 0x40030240 + 0x400 * st
/-- R91; CFG, reset Image. -/
def DRM_BUSLANE (st : Nat) : Nat := 0x40030244 + 0x400 * st
/-- R91; CFG, reset Image. -/
def DRM_BRKCFG (st : Nat) : Nat := 0x40030248 + 0x400 * st
def DRM_BRKCFG_CLOSEGPIO : Fld := ⟨0, 5⟩
def DRM_BRKCFG_CLOSEEN : Fld := ⟨5, 1⟩
def DRM_BRKCFG_FBGPIO : Fld := ⟨8, 5⟩
def DRM_BRKCFG_FBPOL : Fld := ⟨13, 1⟩
def DRM_BRKCFG_TBRK : Fld := ⟨16, 16⟩
/-- R91; CFG, reset Image. -/
def DRM_SYNCV (st : Nat) : Nat := 0x4003024C + 0x400 * st
/-- R91; CFG, reset Image. -/
def DRM_SYNCPH (st : Nat) : Nat := 0x40030250 + 0x400 * st
/-- R91; CFG, reset Image. -/
def DRM_SYNCSLIP (st : Nat) : Nat := 0x40030254 + 0x400 * st
/-- R91; CFG, reset Image. -/
def DRM_TSYNC (st : Nat) : Nat := 0x40030258 + 0x400 * st
/-- R91; CFG, reset Image. -/
def DRM_VHYS (st : Nat) : Nat := 0x4003025C + 0x400 * st
/-- R91; CFG, reset Image. -/
def DRM_PVMAX (st : Nat) : Nat := 0x40030260 + 0x400 * st
/-- R91; CFG, reset Image. -/
def DRM_UVC (st i : Nat) : Nat := 0x40030280 + 0x400 * st + 0x4 * i
def DRM_UVC_VLEV : Fld := ⟨0, 12⟩
def DRM_UVC_TMS : Fld := ⟨12, 20⟩
/-- R91; CFG, reset Image. -/
def DRM_OVC (st i : Nat) : Nat := 0x400302C0 + 0x400 * st + 0x4 * i
def DRM_OVC_VLEV : Fld := ⟨0, 12⟩
def DRM_OVC_TMS : Fld := ⟨12, 20⟩
/-- R91; RO, reset 0x0000_0000. -/
def DRM_SSTAT (st : Nat) : Nat := 0x40030300 + 0x400 * st
def DRM_SSTAT_STATE : Fld := ⟨0, 4⟩
def DRM_SSTAT_SYNCOK : Fld := ⟨4, 1⟩
def DRM_SSTAT_DEADOK : Fld := ⟨5, 1⟩
def DRM_SSTAT_CLOSEPERM : Fld := ⟨6, 1⟩
def DRM_SSTAT_BRKFB : Fld := ⟨7, 1⟩
def DRM_SSTAT_JOIN : Fld := ⟨8, 1⟩
def DRM_SSTAT_ADMIT : Fld := ⟨9, 1⟩
def DRM_SSTAT_BVALID : Fld := ⟨10, 1⟩
/-- R91; RO, reset 0x0000_0000. -/
def DRM_SCAUSE (st : Nat) : Nat := 0x40030304 + 0x400 * st
def DRM_SCAUSE_REFUSE : Fld := ⟨0, 3⟩
def DRM_SCAUSE_LASTCAUSE : Fld := ⟨8, 5⟩
def DRM_SCAUSE_CURVEPT : Fld := ⟨16, 5⟩
/-- R91; RO, reset 0x0000_0000. -/
def DRM_VLOW (st : Nat) : Nat := 0x40030308 + 0x400 * st
/-- R91; RO, reset 0x0000_0000. -/
def DRM_VHIGH (st : Nat) : Nat := 0x4003030C + 0x400 * st
/-- R91; RO, reset 0x0000_0000. -/
def DRM_VBUS (st : Nat) : Nat := 0x40030310 + 0x400 * st
/-- R91; RO, reset 0x0000_0000. -/
def DRM_DBUS (st : Nat) : Nat := 0x40030314 + 0x400 * st
/-- R91; RO, reset 0x0000_0000. -/
def DRM_SLIPB (st : Nat) : Nat := 0x40030318 + 0x400 * st
/-- R91; RO, reset 0x0000_0000. -/
def DRM_HOLDW (st : Nat) : Nat := 0x4003031C + 0x400 * st
/-- R91; RO, reset Computed. -/
def DRM_KAW (st : Nat) : Nat := 0x40030320 + 0x400 * st
/-- R91; RO, reset 0x0000_0000. -/
def DRM_UVMARG (st : Nat) : Nat := 0x40030324 + 0x400 * st
/-- R91; RO, reset 0x0000_0000. -/
def DRM_OVMARG (st : Nat) : Nat := 0x40030328 + 0x400 * st
/-- R91; RO, reset 0x0000_0000. -/
def DRM_REPCNT (st : Nat) : Nat := 0x4003032C + 0x400 * st

/-! Block STI -/

/-- R116; CFG, reset Image. -/
def STI_ICFG (n : Nat) : Nat := 0x40040000 + 0x40 * n
def STI_ICFG_TYPE : Fld := ⟨0, 1⟩
def STI_ICFG_AWMODE : Fld := ⟨1, 1⟩
def STI_ICFG_FEGRADE : Fld := ⟨2, 2⟩
def STI_ICFG_FEMASK : Fld := ⟨4, 3⟩
def STI_ICFG_MANSRC : Fld := ⟨7, 1⟩
def STI_ICFG_AUTORET : Fld := ⟨8, 1⟩
def STI_ICFG_ENABLE : Fld := ⟨9, 1⟩
def STI_ICFG_STAGE : Fld := ⟨10, 2⟩
def STI_ICFG_DIV : Fld := ⟨16, 8⟩
def STI_ICFG_DPH : Fld := ⟨24, 8⟩
/-- R116; CFG, reset Image. -/
def STI_ISRC (n : Nat) : Nat := 0x40040004 + 0x40 * n
def STI_ISRC_REFSEL : Fld := ⟨0, 3⟩
def STI_ISRC_REFIDX : Fld := ⟨4, 7⟩
def STI_ISRC_FBEN : Fld := ⟨11, 1⟩
def STI_ISRC_FBLANE : Fld := ⟨12, 6⟩
def STI_ISRC_FFSEL : Fld := ⟨20, 2⟩
def STI_ISRC_FFIDX : Fld := ⟨24, 6⟩
/-- R116; CFG, reset Image. -/
def STI_MSCL (n : Nat) : Nat := 0x40040008 + 0x40 * n
/-- R116; CFG, reset Image. -/
def STI_FFK (n : Nat) : Nat := 0x4004000C + 0x40 * n
/-- R116; CFG, reset Image. -/
def STI_FFC (n : Nat) : Nat := 0x40040010 + 0x40 * n
/-- R116; CFG, reset Image. -/
def STI_UMIN (n : Nat) : Nat := 0x40040014 + 0x40 * n
/-- R116; CFG, reset Image. -/
def STI_UMAX (n : Nat) : Nat := 0x40040018 + 0x40 * n
/-- R116; CFG, reset Image. -/
def STI_FELIM (n : Nat) : Nat := 0x4004001C + 0x40 * n
/-- R116; CFG, reset Image. -/
def STI_FETIME (n : Nat) : Nat := 0x40040020 + 0x40 * n
/-- R116; CFG, reset Image. -/
def STI_SINK (n : Nat) : Nat := 0x40040024 + 0x40 * n
def STI_SINK_KIND : Fld := ⟨0, 2⟩
def STI_SINK_HEMGRP : Fld := ⟨2, 2⟩
def STI_SINK_HB : Fld := ⟨8, 7⟩
/-- R116; RO, reset 0x0000_0000. -/
def STI_OUT (n : Nat) : Nat := 0x40040028 + 0x40 * n
/-- R116; RO, reset 0x0000_0000. -/
def STI_ERR (n : Nat) : Nat := 0x4004002C + 0x40 * n
/-- R116; RO, reset 0x0000_0000. -/
def STI_ISTAT (n : Nat) : Nat := 0x40040030 + 0x40 * n
def STI_ISTAT_MODE : Fld := ⟨0, 2⟩
def STI_ISTAT_CLAMPED : Fld := ⟨2, 1⟩
def STI_ISTAT_FEACT : Fld := ⟨3, 1⟩
def STI_ISTAT_RETIRED : Fld := ⟨4, 1⟩
def STI_ISTAT_SETACT : Fld := ⟨5, 2⟩
def STI_ISTAT_SAT : Fld := ⟨7, 1⟩
/-- R116; RO, reset 0x0000_0000. -/
def STI_FECNT (n : Nat) : Nat := 0x40040034 + 0x40 * n
/-- R116; W1C, reset 0x0000_0000. -/
def STI_IEVT (n : Nat) : Nat := 0x40040038 + 0x40 * n
def STI_IEVT_FEEXP : Fld := ⟨0, 1⟩
def STI_IEVT_FALLBACK : Fld := ⟨1, 1⟩
def STI_IEVT_RETIRED : Fld := ⟨2, 1⟩
def STI_IEVT_SAT : Fld := ⟨3, 1⟩
/-- R116; CFG, reset Image. -/
def STI_LEGW (n : Nat) : Nat := 0x4004003C + 0x40 * n
/-- R116; CFG, reset Image. -/
def STI_B0 (n k : Nat) : Nat := 0x40042000 + 0x80 * n + 0x20 * k
/-- R116; CFG, reset Image. -/
def STI_B1 (n k : Nat) : Nat := 0x40042004 + 0x80 * n + 0x20 * k
/-- R116; CFG, reset Image. -/
def STI_B2 (n k : Nat) : Nat := 0x40042008 + 0x80 * n + 0x20 * k
/-- R116; CFG, reset Image. -/
def STI_B3 (n k : Nat) : Nat := 0x4004200C + 0x80 * n + 0x20 * k
/-- R116; CFG, reset Image. -/
def STI_A1 (n k : Nat) : Nat := 0x40042010 + 0x80 * n + 0x20 * k
/-- R116; CFG, reset Image. -/
def STI_A2 (n k : Nat) : Nat := 0x40042014 + 0x80 * n + 0x20 * k
/-- R116; CFG, reset Image. -/
def STI_A3 (n k : Nat) : Nat := 0x40042018 + 0x80 * n + 0x20 * k
/-- R116; CFG, reset Image. -/
def STI_CTL (n k : Nat) : Nat := 0x4004201C + 0x80 * n + 0x20 * k
def STI_CTL_BSHIFT : Fld := ⟨0, 3⟩
def STI_CTL_VALID : Fld := ⟨4, 1⟩
/-- R116; PW, reset Image. -/
def STI_MAN (n : Nat) : Nat := 0x40046000 + 0x20 * n
/-- R116; PW, reset Image. -/
def STI_SETP (n : Nat) : Nat := 0x40046008 + 0x20 * n
/-- R116; CFG, reset Image. -/
def STI_SPMIN (n : Nat) : Nat := 0x40046010 + 0x20 * n
/-- R116; CFG, reset Image. -/
def STI_SPMAX (n : Nat) : Nat := 0x40046014 + 0x20 * n
/-- R116; PW, reset 0x0000_0000. -/
def STI_SETREQ (st : Nat) : Nat := 0x40047000 + 0x40 * st
def STI_SETREQ_SET : Fld := ⟨0, 2⟩
def STI_SETREQ_PRESET : Fld := ⟨4, 1⟩
/-- R116; PW, reset 0x0000_0000. -/
def STI_MODECMD (st : Nat) : Nat := 0x40047008 + 0x40 * st
def STI_MODECMD_INST : Fld := ⟨0, 7⟩
def STI_MODECMD_MODE : Fld := ⟨8, 1⟩
/-- R116; CFG, reset Image. -/
def STI_SCFG (st : Nat) : Nat := 0x40047010 + 0x40 * st
def STI_SCFG_CDL : Fld := ⟨0, 12⟩
def STI_SCFG_MISSMAX : Fld := ⟨12, 4⟩
/-- R116; RO, reset 0x0000_0000. -/
def STI_SSTAT (st : Nat) : Nat := 0x40047014 + 0x40 * st
def STI_SSTAT_SETPEND : Fld := ⟨0, 1⟩
def STI_SSTAT_SETACT : Fld := ⟨1, 2⟩
def STI_SSTAT_LATE : Fld := ⟨3, 1⟩
def STI_SSTAT_MISSCNT : Fld := ⟨4, 4⟩
def STI_SSTAT_DEG3OK : Fld := ⟨8, 1⟩
/-- R116; RO, reset Computed. -/
def STI_LBOUND (st : Nat) : Nat := 0x40047018 + 0x40 * st
/-- R116; RO, reset 0x0000_0000. -/
def STI_REFUSE (st : Nat) : Nat := 0x4004701C + 0x40 * st
def STI_REFUSE_CODE : Fld := ⟨0, 3⟩
def STI_REFUSE_INST : Fld := ⟨4, 7⟩
/-- R116; RO, reset 0x0000_0000. -/
def STI_CYC (st : Nat) : Nat := 0x40047020 + 0x40 * st
/-- R116; W1C, reset 0x0000_0000. -/
def STI_SEVT (st : Nat) : Nat := 0x40047024 + 0x40 * st
def STI_SEVT_LATE : Fld := ⟨0, 1⟩
def STI_SEVT_REFUSED : Fld := ⟨1, 1⟩
def STI_SEVT_HANDOVER : Fld := ⟨2, 1⟩
/-- R116; RO, reset 0x0000_000F. -/
def STI_GSTAT : Nat := 0x40047100
def STI_GSTAT_LANES : Fld := ⟨0, 4⟩
/-- R116; RO, reset Computed. -/
def STI_LOAD : Nat := 0x40047104
/-- R116; W1C, reset 0x0000_0000. -/
def STI_GEVT : Nat := 0x40047108
def STI_GEVT_UPSET : Fld := ⟨0, 1⟩
def STI_GEVT_LANERET : Fld := ⟨1, 1⟩

/-! Block TCK -/

/-- R138; RW, reset 0x0000_0000. -/
def TCK_WS (i : Nat) : Nat := 0x40020000 + 0x4 * i
/-- R138; PW, reset 0x0000_0000. -/
def TCK_WCMD : Nat := 0x40020020
def TCK_WCMD_SLOT : Fld := ⟨0, 12⟩
def TCK_WCMD_OP : Fld := ⟨12, 2⟩
/-- R138; RO, reset 0x0000_0000. -/
def TCK_WSTAT : Nat := 0x40020028
def TCK_WSTAT_BUSY : Fld := ⟨0, 1⟩
def TCK_WSTAT_RESULT : Fld := ⟨1, 2⟩
def TCK_WSTAT_STAGED : Fld := ⟨3, 1⟩
def TCK_WSTAT_CAUSE : Fld := ⟨4, 4⟩
def TCK_WSTAT_SLOT : Fld := ⟨8, 12⟩
/-- R138; RO, reset 0x0000_0000. -/
def TCK_WSW_LO : Nat := 0x40020030
/-- R138; RO, reset 0x0000_0000. -/
def TCK_WSW_HI : Nat := 0x40020034
/-- R138; RW, reset 0x0000_0000. -/
def TCK_RIDX : Nat := 0x40020040
/-- R138; RO, reset 0x0000_0000. -/
def TCK_RD (i : Nat) : Nat := 0x40020060 + 0x4 * i
/-- R138; PW, reset 0x0000_0000. -/
def TCK_LCMD : Nat := 0x40020080
def TCK_LCMD_LOCK : Fld := ⟨0, 3⟩
def TCK_LCMD_OP : Fld := ⟨4, 2⟩
def TCK_LCMD_KIND : Fld := ⟨6, 2⟩
def TCK_LCMD_STAGE : Fld := ⟨8, 2⟩
/-- R138; RW, reset 0x0000_0000. -/
def TCK_LRANGE : Nat := 0x40020088
/-- R138; RW, reset 0x0000_0000. -/
def TCK_LLEASE : Nat := 0x4002008C
/-- R138; RO, reset 0x0000_0000. -/
def TCK_LSTAT : Nat := 0x40020090
def TCK_LSTAT_RESULT : Fld := ⟨0, 2⟩
def TCK_LSTAT_CAUSE : Fld := ⟨2, 4⟩
/-- R138; RO, reset 0x0000_0000. -/
def TCK_LOCK (i : Nat) : Nat := 0x400200A0 + 0x4 * i
def TCK_LOCK_HELD : Fld := ⟨0, 1⟩
def TCK_LOCK_OWNER : Fld := ⟨1, 5⟩
def TCK_LOCK_KIND : Fld := ⟨6, 2⟩
def TCK_LOCK_STAGE : Fld := ⟨8, 2⟩
def TCK_LOCK_LEFT : Fld := ⟨12, 20⟩
/-- R138; RO, reset 0x0000_0000. -/
def TCK_LRNG (i : Nat) : Nat := 0x400200C0 + 0x4 * i
/-- R138; RO, reset Computed. -/
def TCK_LOAD : Nat := 0x400200E0
def TCK_LOAD_LT : Fld := ⟨0, 6⟩
def TCK_LOAD_S0 : Fld := ⟨6, 6⟩
def TCK_LOAD_S1 : Fld := ⟨12, 6⟩
def TCK_LOAD_S2 : Fld := ⟨18, 6⟩
def TCK_LOAD_S3 : Fld := ⟨24, 6⟩
/-- R138; RO, reset Computed. -/
def TCK_AW (i : Nat) : Nat := 0x400200E4 + 0x4 * i
/-- R138; CFG, reset Image. -/
def TCK_GPIOOWN : Nat := 0x400200F4
/-- R138; RO, reset Computed. -/
def TCK_STAT : Nat := 0x400200F8
/-- R138; W1C, reset 0x0000_0000. -/
def TCK_EVT : Nat := 0x400200FC
def TCK_EVT_REFUSED : Fld := ⟨0, 1⟩
def TCK_EVT_LATE : Fld := ⟨1, 1⟩
def TCK_EVT_ROLLBACK : Fld := ⟨2, 1⟩
/-- R138; RO, reset 0x0000_0000. -/
def TCK_LATECNT : Nat := 0x40020100

/-! Block PGN -/

/-- R171; CFG, reset Image. -/
def PGN_CCFG (c : Nat) : Nat := 0x40050000 + 0x40 * c
def PGN_CCFG_STAGE : Fld := ⟨0, 2⟩
def PGN_CCFG_ENABLE : Fld := ⟨2, 1⟩
/-- R171; RO, reset 0x0000_0000. -/
def PGN_CPOS (c : Nat) : Nat := 0x40050004 + 0x40 * c
/-- R171; RO, reset 0x0000_0000. -/
def PGN_CPER (c : Nat) : Nat := 0x40050008 + 0x40 * c
/-- R171; RO, reset 0x0000_0000. -/
def PGN_CSTAT (c : Nat) : Nat := 0x4005000C + 0x40 * c
def PGN_CSTAT_SETACT : Fld := ⟨0, 2⟩
def PGN_CSTAT_SWPEND : Fld := ⟨2, 1⟩
def PGN_CSTAT_DIDX : Fld := ⟨3, 6⟩
/-- R171; CFG, reset Image. -/
def PGN_KMODE (c k : Nat) : Nat := 0x40050400 + 0x40 * c + 0x10 * k
def PGN_KMODE_SHAPE : Fld := ⟨0, 2⟩
def PGN_KMODE_BASIS : Fld := ⟨2, 1⟩
def PGN_KMODE_LOAD : Fld := ⟨4, 2⟩
def PGN_KMODE_DMODE : Fld := ⟨6, 2⟩
def PGN_KMODE_DLEN : Fld := ⟨8, 6⟩
def PGN_KMODE_FOLLOW : Fld := ⟨14, 1⟩
def PGN_KMODE_PARENT : Fld := ⟨16, 4⟩
def PGN_KMODE_VALID : Fld := ⟨20, 1⟩
/-- R171; CFG, reset Image. -/
def PGN_KPER (c k : Nat) : Nat := 0x40050404 + 0x40 * c + 0x10 * k
/-- R171; CFG, reset Image. -/
def PGN_KPH (c k : Nat) : Nat := 0x40050408 + 0x40 * c + 0x10 * k
/-- R171; CFG, reset Image. -/
def PGN_KDITH (c k : Nat) : Nat := 0x4005040C + 0x40 * c + 0x10 * k
def PGN_KDITH_DAMP : Fld := ⟨0, 16⟩
def PGN_KDITH_SEED : Fld := ⟨16, 15⟩
/-- R171; CFG, reset Image. -/
def PGN_HCFG (h : Nat) : Nat := 0x40052000 + 0x40 * h
def PGN_HCFG_ENABLE : Fld := ⟨0, 1⟩
def PGN_HCFG_CARRIER : Fld := ⟨1, 4⟩
def PGN_HCFG_MODE : Fld := ⟨5, 2⟩
def PGN_HCFG_ACKQ : Fld := ⟨8, 4⟩
/-- R171; CFG, reset Image. -/
def PGN_DTH (h : Nat) : Nat := 0x40052004 + 0x40 * h
/-- R171; CFG, reset Image. -/
def PGN_DTL (h : Nat) : Nat := 0x40052008 + 0x40 * h
/-- R171; CFG, reset Image. -/
def PGN_MINP (h : Nat) : Nat := 0x4005200C + 0x40 * h
/-- R171; CFG, reset Image. -/
def PGN_ACKTO (h : Nat) : Nat := 0x40052010 + 0x40 * h
/-- R171; CFG, reset Image. -/
def PGN_BSN (h : Nat) : Nat := 0x40052014 + 0x40 * h
/-- R171; CFG, reset Image. -/
def PGN_BSW (h : Nat) : Nat := 0x40052018 + 0x40 * h
/-- R171; CFG, reset Image. -/
def PGN_BSREC (h : Nat) : Nat := 0x4005201C + 0x40 * h
/-- R171; RO, reset 0x0000_0000. -/
def PGN_CMPS (h : Nat) : Nat := 0x40052020 + 0x40 * h
/-- R171; RO, reset 0x0000_0000. -/
def PGN_CMPA (h : Nat) : Nat := 0x40052024 + 0x40 * h
/-- R171; RO, reset 0x0000_0000. -/
def PGN_ACC (h : Nat) : Nat := 0x40052028 + 0x40 * h
/-- R171; RO, reset 0x0000_0003. -/
def PGN_HSTAT (h : Nat) : Nat := 0x4005202C + 0x40 * h
def PGN_HSTAT_STATE : Fld := ⟨0, 2⟩
def PGN_HSTAT_HOLDCAUSE : Fld := ⟨3, 6⟩
def PGN_HSTAT_HION : Fld := ⟨9, 1⟩
def PGN_HSTAT_LOON : Fld := ⟨10, 1⟩
def PGN_HSTAT_OFFCONF : Fld := ⟨11, 1⟩
def PGN_HSTAT_BSCNT : Fld := ⟨16, 16⟩
/-- R171; W1C, reset 0x0000_0000. -/
def PGN_HEVT (h : Nat) : Nat := 0x40052030 + 0x40 * h
def PGN_HEVT_SHORT : Fld := ⟨0, 1⟩
def PGN_HEVT_CLIP : Fld := ⟨1, 1⟩
def PGN_HEVT_SKIP : Fld := ⟨2, 1⟩
def PGN_HEVT_ACKMISS : Fld := ⟨3, 1⟩
def PGN_HEVT_REFRESH : Fld := ⟨4, 1⟩
def PGN_HEVT_BSUV : Fld := ⟨5, 1⟩
def PGN_HEVT_SAFE : Fld := ⟨6, 1⟩
def PGN_HEVT_RETIRED : Fld := ⟨7, 1⟩
/-- R171; RO, reset 0x0000_0000. -/
def PGN_SKIPCNT (h : Nat) : Nat := 0x40052034 + 0x40 * h
/-- R171; PW, reset 0x0000_0000. -/
def PGN_CSETREQ (st : Nat) : Nat := 0x40054000 + 0x40 * st
/-- R171; CFG, reset Image. -/
def PGN_SCFG (st : Nat) : Nat := 0x40054008 + 0x40 * st
/-- R171; RO, reset 0x0000_0000. -/
def PGN_SSTAT (st : Nat) : Nat := 0x4005400C + 0x40 * st
def PGN_SSTAT_SETPEND : Fld := ⟨0, 1⟩
def PGN_SSTAT_SETACT : Fld := ⟨1, 2⟩
def PGN_SSTAT_PEN : Fld := ⟨3, 1⟩
def PGN_SSTAT_HODEF : Fld := ⟨4, 1⟩
/-- R171; RO, reset 0x0000_0000. -/
def PGN_REFUSE (st : Nat) : Nat := 0x40054010 + 0x40 * st
def PGN_REFUSE_CODE : Fld := ⟨0, 3⟩
/-- R171; W1C, reset 0x0000_0000. -/
def PGN_SEVT (st : Nat) : Nat := 0x40054014 + 0x40 * st
def PGN_SEVT_HANDOVER : Fld := ⟨0, 1⟩
def PGN_SEVT_DEFER : Fld := ⟨1, 1⟩
def PGN_SEVT_REFUSED : Fld := ⟨2, 1⟩
def PGN_SEVT_SETSW : Fld := ⟨3, 1⟩
/-- R171; PW, reset 0x0000_0000. -/
def PGN_DISABLE : Nat := 0x40054100
/-- R171; RO, reset 0x0000_0000. -/
def PGN_GSTAT : Nat := 0x40054108
/-- R171; CFG, reset Image. -/
def PGN_DTAB (c i : Nat) : Nat := 0x40051000 + 0x100 * c + 0x4 * i
def PGN_DTAB_X : Fld := ⟨0, 16⟩

/-! Block LLK -/

/-- R201; CFG, reset Image. -/
def LLK_LCFG (n : Nat) : Nat := 0x40060000 + 0x80 * n
def LLK_LCFG_ENABLE : Fld := ⟨0, 1⟩
def LLK_LCFG_DUP : Fld := ⟨1, 1⟩
def LLK_LCFG_HBEN : Fld := ⟨4, 4⟩
def LLK_LCFG_STATIV : Fld := ⟨8, 8⟩
def LLK_LCFG_LOSSTO : Fld := ⟨16, 16⟩
/-- R201; CFG, reset Image. -/
def LLK_LEAD (n : Nat) : Nat := 0x40060004 + 0x80 * n
/-- R201; CFG, reset Image. -/
def LLK_DMAX (n : Nat) : Nat := 0x40060008 + 0x80 * n
/-- R201; CFG, reset Image. -/
def LLK_ASYM (n : Nat) : Nat := 0x4006000C + 0x80 * n
/-- R201; CFG, reset Image. -/
def LLK_EPID (n : Nat) : Nat := 0x40060010 + 0x80 * n
/-- R201; CFG, reset Image. -/
def LLK_TRN (n : Nat) : Nat := 0x40060014 + 0x80 * n
def LLK_TRN_NTRAIN : Fld := ⟨0, 8⟩
def LLK_TRN_TRAINIV : Fld := ⟨8, 4⟩
def LLK_TRN_PRETOL : Fld := ⟨16, 8⟩
def LLK_TRN_PLATMARG : Fld := ⟨24, 8⟩
/-- R201; CFG, reset Image. -/
def LLK_DEFON (n : Nat) : Nat := 0x40060018 + 0x80 * n
def LLK_DEFON_PRE : Fld := ⟨0, 8⟩
def LLK_DEFON_PLAT : Fld := ⟨8, 10⟩
def LLK_DEFON_ILEV : Fld := ⟨18, 4⟩
/-- R201; CFG, reset Image. -/
def LLK_DEFOFF (n : Nat) : Nat := 0x4006001C + 0x80 * n
def LLK_DEFOFF_PRE : Fld := ⟨0, 8⟩
def LLK_DEFOFF_PLAT : Fld := ⟨8, 10⟩
def LLK_DEFOFF_ILEV : Fld := ⟨18, 4⟩
/-- R201; CFG, reset Image. -/
def LLK_BINLO (n : Nat) : Nat := 0x40060020 + 0x80 * n
/-- R201; CFG, reset Image. -/
def LLK_BINHI (n : Nat) : Nat := 0x40060024 + 0x80 * n
/-- R201; RO, reset 0x0000_0007. -/
def LLK_STAT (n : Nat) : Nat := 0x40060028 + 0x80 * n
def LLK_STAT_STATE : Fld := ⟨0, 3⟩
def LLK_STAT_OWNER : Fld := ⟨3, 1⟩
def LLK_STAT_DUAL : Fld := ⟨4, 1⟩
def LLK_STAT_TXSEQ : Fld := ⟨8, 8⟩
def LLK_STAT_EPOCH : Fld := ⟨16, 8⟩
def LLK_STAT_ATTEMPT : Fld := ⟨24, 4⟩
/-- R201; RO, reset 0x0000_0000. -/
def LLK_DFWD (n : Nat) : Nat := 0x4006002C + 0x80 * n
/-- R201; RO, reset 0x0000_0000. -/
def LLK_DREV (n : Nat) : Nat := 0x40060030 + 0x80 * n
/-- R201; RO, reset 0x0000_0000. -/
def LLK_SPREAD (n : Nat) : Nat := 0x40060034 + 0x80 * n
/-- R201; RO, reset 0x0000_0000. -/
def LLK_TCORR (n : Nat) : Nat := 0x40060038 + 0x80 * n
/-- R201; RO, reset 0x0000_0000. -/
def LLK_EPINFO (n : Nat) : Nat := 0x4006003C + 0x80 * n
/-- R201; RO, reset 0x0000_0000. -/
def LLK_TEMP (n : Nat) : Nat := 0x40060040 + 0x80 * n
/-- R201; RO, reset 0x0000_0000. -/
def LLK_CNT0 (n : Nat) : Nat := 0x40060044 + 0x80 * n
/-- R201; RO, reset 0x0000_0000. -/
def LLK_CNT1 (n : Nat) : Nat := 0x40060048 + 0x80 * n
/-- R201; W1C, reset 0x0000_0000. -/
def LLK_EVT (n : Nat) : Nat := 0x4006004C + 0x80 * n
def LLK_EVT_CRCFAIL : Fld := ⟨0, 1⟩
def LLK_EVT_RETRY : Fld := ⟨1, 1⟩
def LLK_EVT_MISSED : Fld := ⟨2, 1⟩
def LLK_EVT_LOSS : Fld := ⟨3, 1⟩
def LLK_EVT_CALFAIL : Fld := ⟨4, 1⟩
def LLK_EVT_ALARM : Fld := ⟨5, 1⟩
def LLK_EVT_STALE : Fld := ⟨6, 1⟩
def LLK_EVT_RETIRED : Fld := ⟨7, 1⟩
def LLK_EVT_UNTRAIN : Fld := ⟨8, 1⟩
/-- R201; CFG, reset Image. -/
def LLK_DJUMP (n : Nat) : Nat := 0x40060050 + 0x80 * n
/-- R201; RO, reset 0x0000_0000. -/
def LLK_GREADY : Nat := 0x40064000
/-- R201; RO, reset 0x0000_0000. -/
def LLK_GRET : Nat := 0x40064004
/-- R201; W1C, reset 0x0000_0000. -/
def LLK_GEVT : Nat := 0x40064008
/-- R201; RO, reset 0x0000_0000. -/
def LLK_PROF (h sw dir b : Nat) : Nat := 0x40061000 + 0x80 * h + 0x40 * sw + 0x20 * dir + 0x4 * b
def LLK_PROF_PRE : Fld := ⟨0, 8⟩
def LLK_PROF_PLAT : Fld := ⟨8, 10⟩
def LLK_PROF_ILEV : Fld := ⟨18, 4⟩
def LLK_PROF_SEEDED : Fld := ⟨22, 1⟩
def LLK_PROF_TRAINED : Fld := ⟨23, 1⟩
def LLK_PROF_GOOD : Fld := ⟨24, 8⟩

/-! Block EVT -/

/-- R219; CFG, reset Image. -/
def EVT_RBASE : Nat := 0x40130000
/-- R219; CFG, reset Image. -/
def EVT_RSIZE : Nat := 0x40130004
/-- R219; RO, reset 0x0000_0000. -/
def EVT_WIDX : Nat := 0x40130008
/-- R219; RW, reset 0x0000_0000. -/
def EVT_RIDX : Nat := 0x4013000C
/-- R219; RO, reset 0x0000_0000. -/
def EVT_NSEQ : Nat := 0x40130010
/-- R219; RO, reset 0x0000_0000. -/
def EVT_LOST : Nat := 0x40130014
/-- R219; RO, reset 0x0000_0000. -/
def EVT_STAT : Nat := 0x40130018
def EVT_STAT_QLEVEL : Fld := ⟨0, 7⟩
def EVT_STAT_FULL : Fld := ⟨7, 1⟩
def EVT_STAT_LOSSPEND : Fld := ⟨8, 1⟩
/-- R219; W1C, reset 0x0000_0000. -/
def EVT_EVT : Nat := 0x4013001C
def EVT_EVT_LOSS : Fld := ⟨0, 1⟩
def EVT_EVT_BADIDX : Fld := ⟨1, 1⟩
def EVT_EVT_OVERFLOW : Fld := ⟨2, 1⟩
def EVT_EVT_UNLOCKREF : Fld := ⟨3, 1⟩
/-- R219; PW, reset 0x0000_0000. -/
def EVT_UNLOCK : Nat := 0x40130020
def EVT_UNLOCK_STAGE : Fld := ⟨0, 2⟩
def EVT_UNLOCK_GO : Fld := ⟨8, 1⟩
/-- R219; RO, reset 0x0000_0000. -/
def EVT_G5CAUSE : Nat := 0x40130028
def EVT_G5CAUSE_LOCKED : Fld := ⟨0, 4⟩
def EVT_G5CAUSE_CAUSEACT : Fld := ⟨4, 4⟩
def EVT_G5CAUSE_REFUSE : Fld := ⟨8, 3⟩
/-- R219; RW, reset 0x0000_0000. -/
def EVT_UCSEL : Nat := 0x40130030
/-- R219; RO, reset 0x0000_0000. -/
def EVT_UCVAL : Nat := 0x40130034
def EVT_UCVAL_LEVEL : Fld := ⟨0, 8⟩
def EVT_UCVAL_N : Fld := ⟨8, 8⟩
def EVT_UCVAL_OVFCNT : Fld := ⟨16, 16⟩
/-- R219; RO, reset 0x0000_0000. -/
def EVT_UCWIN : Nat := 0x40130038

/-! Block TMB -/

/-- R220; RW, reset 0x0000_0000. -/
def TMB_CTL : Nat := 0x40140000
def TMB_CTL_LLERR : Fld := ⟨0, 1⟩
def TMB_CTL_LLDLY : Fld := ⟨1, 1⟩
def TMB_CTL_ARB : Fld := ⟨2, 1⟩
def TMB_CTL_SLICE : Fld := ⟨3, 1⟩
def TMB_CTL_SPAN : Fld := ⟨4, 1⟩
/-- R220; RO, reset 0x0000_0000. -/
def TMB_STAT : Nat := 0x40140004
def TMB_STAT_TESTMODE : Fld := ⟨0, 1⟩
def TMB_STAT_SAFLOCK : Fld := ⟨1, 1⟩
def TMB_STAT_ACTIVE : Fld := ⟨2, 1⟩
/-- R220; RW, reset 0x0000_0000. -/
def TMB_LLERR : Nat := 0x40140008
def TMB_LLERR_LINK : Fld := ⟨0, 5⟩
def TMB_LLERR_DIR : Fld := ⟨5, 1⟩
def TMB_LLERR_INTV : Fld := ⟨16, 16⟩
/-- R220; RW, reset 0x0000_0000. -/
def TMB_LLDLY : Nat := 0x4014000C
def TMB_LLDLY_LINK : Fld := ⟨0, 5⟩
def TMB_LLDLY_ADD : Fld := ⟨16, 16⟩
/-- R220; RW, reset 0x0000_0000. -/
def TMB_ARB : Nat := 0x40140010
def TMB_ARB_REQ : Fld := ⟨0, 4⟩
def TMB_ARB_STALL : Fld := ⟨8, 8⟩
def TMB_ARB_PER : Fld := ⟨16, 16⟩
/-- R220; RW, reset 0x0000_0000. -/
def TMB_SLICE : Nat := 0x40140014
def TMB_SLICE_BANK : Fld := ⟨0, 2⟩
def TMB_SLICE_SLICE : Fld := ⟨2, 3⟩
def TMB_SLICE_KIND : Fld := ⟨5, 2⟩
def TMB_SLICE_MAG : Fld := ⟨16, 16⟩
/-- R220; RW, reset 0x0000_0000. -/
def TMB_SPAN : Nat := 0x40140018
def TMB_SPAN_PORT : Fld := ⟨0, 2⟩
def TMB_SPAN_INTV : Fld := ⟨16, 16⟩

/-! Block PRT -/

/-- R236; CFG, reset Image. -/
def PRT_TCFG (n : Nat) : Nat := 0x40070000 + 0x20 * n
def PRT_TCFG_EN : Fld := ⟨0, 1⟩
def PRT_TCFG_POL : Fld := ⟨1, 1⟩
def PRT_TCFG_TGRADE : Fld := ⟨2, 2⟩
/-- R236; CFG, reset Image. -/
def PRT_TMASK0 (n : Nat) : Nat := 0x40070004 + 0x20 * n
/-- R236; CFG, reset Image. -/
def PRT_TMASK1 (n : Nat) : Nat := 0x40070008 + 0x20 * n
/-- R236; CFG, reset Image. -/
def PRT_TMASK2 (n : Nat) : Nat := 0x4007000C + 0x20 * n
/-- R236; CFG, reset Image. -/
def PRT_TMASK3 (n : Nat) : Nat := 0x40070010 + 0x20 * n
/-- R236; CFG, reset Image. -/
def PRT_CCFG (c : Nat) : Nat := 0x40070400 + 0x20 * c
def PRT_CCFG_MODE : Fld := ⟨0, 2⟩
def PRT_CCFG_ACT : Fld := ⟨2, 2⟩
def PRT_CCFG_HB : Fld := ⟨4, 7⟩
def PRT_CCFG_SW : Fld := ⟨11, 1⟩
def PRT_CCFG_HYST : Fld := ⟨12, 3⟩
/-- R236; CFG, reset Image. -/
def PRT_CTHR (c : Nat) : Nat := 0x40070404 + 0x20 * c
def PRT_CTHR_VLO : Fld := ⟨0, 10⟩
def PRT_CTHR_VHI : Fld := ⟨16, 10⟩
/-- R236; CFG, reset Image. -/
def PRT_CBLANK (c : Nat) : Nat := 0x40070408 + 0x20 * c
/-- R236; RO, reset 0x0000_0000. -/
def PRT_CSTAT (c : Nat) : Nat := 0x4007040C + 0x20 * c
def PRT_CSTAT_OUT : Fld := ⟨0, 1⟩
def PRT_CSTAT_BLANKING : Fld := ⟨1, 1⟩
def PRT_CSTAT_BLANKPEND : Fld := ⟨2, 1⟩
def PRT_CSTAT_LATCHED : Fld := ⟨3, 1⟩
def PRT_CSTAT_RETIRED : Fld := ⟨4, 1⟩
/-- R236; W1C, reset 0x0000_0000. -/
def PRT_CEVT (c : Nat) : Nat := 0x40070410 + 0x20 * c
def PRT_CEVT_ASSERT : Fld := ⟨0, 1⟩
def PRT_CEVT_BLANKED : Fld := ⟨1, 1⟩
def PRT_CEVT_DACFAIL : Fld := ⟨2, 1⟩
def PRT_CEVT_RETIRED : Fld := ⟨3, 1⟩
/-- R236; W1C, reset 0x0000_0000. -/
def PRT_TFLAG : Nat := 0x40071000
/-- R236; RO, reset 0x0000_0000. -/
def PRT_TLEVEL : Nat := 0x40071004
/-- R236; W1C, reset 0x0000_0000. -/
def PRT_CFLAG0 : Nat := 0x40071008
/-- R236; W1C, reset 0x0000_0000. -/
def PRT_CFLAG1 : Nat := 0x4007100C
/-- R236; W1C, reset 0x0000_0000. -/
def PRT_AFLAG0 : Nat := 0x40071010
/-- R236; W1C, reset 0x0000_0000. -/
def PRT_AFLAG1 : Nat := 0x40071014
/-- R236; W1C, reset 0x0000_0000. -/
def PRT_AFLAG2 : Nat := 0x40071018
/-- R236; CFG, reset Image. -/
def PRT_SCCFG : Nat := 0x4007101C
def PRT_SCCFG_SCGRADE : Fld := ⟨0, 2⟩
def PRT_SCCFG_SCWIN : Fld := ⟨16, 16⟩
/-- R236; CFG, reset Image. -/
def PRT_TEMPCFG : Nat := 0x40071020
def PRT_TEMPCFG_TWARN : Fld := ⟨0, 8⟩
def PRT_TEMPCFG_TMAX : Fld := ⟨8, 8⟩
def PRT_TEMPCFG_THYS : Fld := ⟨16, 8⟩
/-- R236; RO, reset 0x0000_0000. -/
def PRT_STAT : Nat := 0x40071024
def PRT_STAT_SCACT : Fld := ⟨0, 4⟩
def PRT_STAT_TRIPACT : Fld := ⟨4, 4⟩
def PRT_STAT_TEMPACT : Fld := ⟨8, 4⟩
/-- R236; W1C, reset 0x0000_0000. -/
def PRT_EVT : Nat := 0x40071028
def PRT_EVT_TRIP : Fld := ⟨0, 1⟩
def PRT_EVT_SC : Fld := ⟨1, 1⟩
def PRT_EVT_TWOLEG : Fld := ⟨2, 1⟩
def PRT_EVT_CLEARREF : Fld := ⟨3, 1⟩
def PRT_EVT_TEMP : Fld := ⟨4, 1⟩
def PRT_EVT_DACFAIL : Fld := ⟨5, 1⟩
/-- R236; RO, reset 0x0000_0000. -/
def PRT_REFUSE : Nat := 0x4007102C
def PRT_REFUSE_KIND : Fld := ⟨0, 2⟩
def PRT_REFUSE_INDEX : Fld := ⟨2, 7⟩

/-! Block ADC -/

/-- R260; CFG, reset Image. -/
def ADC_BCFG (b : Nat) : Nat := 0x40080000 + 0x400 * b
/-- R260; CFG, reset Image. -/
def ADC_BCAL0 (b : Nat) : Nat := 0x40080004 + 0x400 * b
/-- R260; CFG, reset Image. -/
def ADC_BCAL1 (b : Nat) : Nat := 0x40080008 + 0x400 * b
/-- R260; CFG, reset Image. -/
def ADC_BLIM (b : Nat) : Nat := 0x4008000C + 0x400 * b
/-- R260; RO, reset 0x0000_0000. -/
def ADC_BSTAT (b : Nat) : Nat := 0x40080010 + 0x400 * b
def ADC_BSTAT_READY : Fld := ⟨0, 1⟩
def ADC_BSTAT_NSLICE : Fld := ⟨1, 3⟩
def ADC_BSTAT_SPARE : Fld := ⟨4, 3⟩
def ADC_BSTAT_DEG3OK : Fld := ⟨7, 1⟩
def ADC_BSTAT_ENTRY : Fld := ⟨8, 5⟩
def ADC_BSTAT_RUN : Fld := ⟨13, 1⟩
def ADC_BSTAT_URGENT : Fld := ⟨14, 1⟩
def ADC_BSTAT_HELD : Fld := ⟨15, 1⟩
def ADC_BSTAT_FROZEN : Fld := ⟨16, 1⟩
def ADC_BSTAT_RETIRED : Fld := ⟨17, 1⟩
def ADC_BSTAT_SHADOW : Fld := ⟨18, 2⟩
/-- R260; W1C, reset 0x0000_0000. -/
def ADC_BEVT (b : Nat) : Nat := 0x40080014 + 0x400 * b
def ADC_BEVT_PREEMPT : Fld := ⟨0, 1⟩
def ADC_BEVT_OVERRUN : Fld := ⟨1, 1⟩
def ADC_BEVT_RATE : Fld := ⟨2, 1⟩
def ADC_BEVT_RETIRED : Fld := ⟨3, 1⟩
/-- R260; RO, reset Computed. -/
def ADC_BMARG (b : Nat) : Nat := 0x40080018 + 0x400 * b
/-- R260; RO, reset 0x0000_0000. -/
def ADC_OVRCNT (b : Nat) : Nat := 0x4008001C + 0x400 * b
/-- R260; RO, reset 0x0000_0000. -/
def ADC_DISC (b : Nat) : Nat := 0x40080020 + 0x400 * b
/-- R260; RO, reset 0x0000_0000. -/
def ADC_RELSKIP (b : Nat) : Nat := 0x40080024 + 0x400 * b
/-- R260; RO, reset 0x0000_0000. -/
def ADC_SOFS (b k : Nat) : Nat := 0x40080300 + 0x400 * b + 0x20 * k
/-- R260; RO, reset 0x0010_0000. -/
def ADC_SGAIN (b k : Nat) : Nat := 0x40080304 + 0x400 * b + 0x20 * k
/-- R260; RO, reset 0x0000_0000. -/
def ADC_STRIM (b k : Nat) : Nat := 0x40080308 + 0x400 * b + 0x20 * k
/-- R260; RO, reset 0x0000_0000. -/
def ADC_SSTAT (b k : Nat) : Nat := 0x4008030C + 0x400 * b + 0x20 * k
/-- R260; W1C, reset 0x0000_0000. -/
def ADC_SEVT (b k : Nat) : Nat := 0x40080310 + 0x400 * b + 0x20 * k
/-- R260; RO, reset 0x0000_0000. -/
def ADC_ILAST (c : Nat) : Nat := 0x40081000 + 0x10 * c
/-- R260; W1C, reset 0x0000_0000. -/
def ADC_IEVT (c : Nat) : Nat := 0x40081004 + 0x10 * c
/-- R260; RO, reset 0x0000_0000. -/
def ADC_DVAL (d : Nat) : Nat := 0x40081400 + 0x10 * d
/-- R260; CFG, reset Image. -/
def ADC_DLIM (d : Nat) : Nat := 0x40081404 + 0x10 * d
/-- R260; W1C, reset 0x0000_0000. -/
def ADC_DEVT (d : Nat) : Nat := 0x40081408 + 0x10 * d
/-- R260; RO, reset 0x0000_0100. -/
def ADC_GSTAT : Nat := 0x40081800
/-- R260; W1C, reset 0x0000_0000. -/
def ADC_GEVT : Nat := 0x40081804
/-- R260; CFG, reset Image. -/
def ADC_SEQ_A (b e : Nat) : Nat := 0x40080100 + 0x400 * b + 0x10 * e
def ADC_SEQ_A_MODE : Fld := ⟨0, 2⟩
def ADC_SEQ_A_NIN : Fld := ⟨2, 2⟩
def ADC_SEQ_A_AVG : Fld := ⟨4, 1⟩
def ADC_SEQ_A_END : Fld := ⟨5, 1⟩
def ADC_SEQ_A_NEXT : Fld := ⟨6, 5⟩
def ADC_SEQ_A_COUNT : Fld := ⟨16, 16⟩
/-- R260; CFG, reset Image. -/
def ADC_SEQ_B (b e : Nat) : Nat := 0x40080104 + 0x400 * b + 0x10 * e
/-- R260; CFG, reset Image. -/
def ADC_SEQ_C (b e : Nat) : Nat := 0x40080108 + 0x400 * b + 0x10 * e

/-! Block RNS -/

/-- R278; CFG, reset Image. -/
def RNS_LCFG (l : Nat) : Nat := 0x40090000 + 0x80 * l
def RNS_LCFG_ENABLE : Fld := ⟨0, 1⟩
def RNS_LCFG_SRC : Fld := ⟨1, 6⟩
def RNS_LCFG_NSTG : Fld := ⟨7, 3⟩
def RNS_LCFG_OUTMODE : Fld := ⟨10, 2⟩
def RNS_LCFG_STAGE : Fld := ⟨12, 2⟩
/-- R278; CFG, reset Image. -/
def RNS_STGA (l : Nat) : Nat := 0x40090004 + 0x80 * l
/-- R278; CFG, reset Image. -/
def RNS_STGB (l : Nat) : Nat := 0x40090008 + 0x80 * l
/-- R278; CFG, reset Image. -/
def RNS_ISPC (l : Nat) : Nat := 0x4009000C + 0x80 * l
/-- R278; CFG, reset Image. -/
def RNS_ISPC3 (l : Nat) : Nat := 0x40090010 + 0x80 * l
/-- R278; CFG, reset Image. -/
def RNS_RPER (l : Nat) : Nat := 0x40090014 + 0x80 * l
/-- R278; CFG, reset Image. -/
def RNS_RPH (l : Nat) : Nat := 0x40090018 + 0x80 * l
/-- R278; CFG, reset Image. -/
def RNS_RDLY (l : Nat) : Nat := 0x4009001C + 0x80 * l
/-- R278; CFG, reset Image. -/
def RNS_RBASE (l : Nat) : Nat := 0x40090020 + 0x80 * l
/-- R278; CFG, reset Image. -/
def RNS_RCFG (l : Nat) : Nat := 0x40090024 + 0x80 * l
def RNS_RCFG_WREN : Fld := ⟨0, 1⟩
def RNS_RCFG_RSIZE : Fld := ⟨1, 5⟩
/-- R278; RO, reset 0x0000_0000. -/
def RNS_RWIDX (l : Nat) : Nat := 0x40090028 + 0x80 * l
/-- R278; RW, reset 0x0000_0000. -/
def RNS_RRIDX (l : Nat) : Nat := 0x4009002C + 0x80 * l
/-- R278; RO, reset 0x0000_0000. -/
def RNS_LSTAT (l : Nat) : Nat := 0x40090030 + 0x80 * l
def RNS_LSTAT_VALID : Fld := ⟨0, 1⟩
def RNS_LSTAT_SETTLING : Fld := ⟨1, 1⟩
def RNS_LSTAT_STOPPED : Fld := ⟨2, 1⟩
def RNS_LSTAT_RETIRED : Fld := ⟨3, 1⟩
def RNS_LSTAT_RATE3 : Fld := ⟨4, 1⟩
def RNS_LSTAT_SLEFT : Fld := ⟨8, 24⟩
/-- R278; W1C, reset 0x0000_0000. -/
def RNS_LEVT (l : Nat) : Nat := 0x40090034 + 0x80 * l
def RNS_LEVT_SETTLED : Fld := ⟨0, 1⟩
def RNS_LEVT_STOP : Fld := ⟨1, 1⟩
def RNS_LEVT_SAT : Fld := ⟨2, 1⟩
def RNS_LEVT_IRREG : Fld := ⟨3, 1⟩
def RNS_LEVT_LATE : Fld := ⟨4, 1⟩
def RNS_LEVT_RDROP : Fld := ⟨5, 1⟩
def RNS_LEVT_RETIRED : Fld := ⟨6, 1⟩
def RNS_LEVT_ALIGNSKIP : Fld := ⟨7, 1⟩
/-- R278; RO, reset 0x0000_0000. -/
def RNS_LAST (l : Nat) : Nat := 0x40090038 + 0x80 * l
/-- R278; RO, reset Computed. -/
def RNS_SETTLE (l : Nat) : Nat := 0x4009003C + 0x80 * l
/-- R278; RO, reset Computed. -/
def RNS_MINDLY (l : Nat) : Nat := 0x40090040 + 0x80 * l
/-- R278; RO, reset Computed. -/
def RNS_DLYUSE (l : Nat) : Nat := 0x40090044 + 0x80 * l
/-- R278; RO, reset 0x0000_0000. -/
def RNS_CNT (l : Nat) : Nat := 0x40090048 + 0x80 * l
/-- R278; RO, reset 0x0000_0000. -/
def RNS_RDROP (l : Nat) : Nat := 0x4009004C + 0x80 * l
/-- R278; RO, reset 0x0000_0000. -/
def RNS_GVALID0 : Nat := 0x40092000
/-- R278; RO, reset 0x0000_0000. -/
def RNS_GVALID1 : Nat := 0x40092004
/-- R278; RO, reset Computed. -/
def RNS_GLOAD : Nat := 0x40092008
/-- R278; RO, reset 0x0000_0000. -/
def RNS_GEVT0 : Nat := 0x4009200C
/-- R278; RO, reset 0x0000_0000. -/
def RNS_GEVT1 : Nat := 0x40092010

/-! Block HMP -/

/-- R294; PW, reset 0x0000_0000. -/
def HMP_CMD : Nat := 0x400A0000
def HMP_CMD_OP : Fld := ⟨0, 3⟩
/-- R294; RO, reset 0x0000_0000. -/
def HMP_STAT : Nat := 0x400A0008
def HMP_STAT_STATE : Fld := ⟨0, 2⟩
def HMP_STAT_SEQ : Fld := ⟨2, 3⟩
def HMP_STAT_RESULT : Fld := ⟨5, 2⟩
def HMP_STAT_SRC : Fld := ⟨7, 4⟩
/-- R294; W1C, reset 0x0000_0000. -/
def HMP_EVT : Nat := 0x400A000C
def HMP_EVT_TRIGGERED : Fld := ⟨0, 1⟩
def HMP_EVT_COMPLETE : Fld := ⟨1, 1⟩
def HMP_EVT_RATE : Fld := ⟨2, 1⟩
def HMP_EVT_LOSS : Fld := ⟨3, 1⟩
def HMP_EVT_PINLATE : Fld := ⟨4, 1⟩
def HMP_EVT_NOCT : Fld := ⟨5, 1⟩
def HMP_EVT_CALFAIL : Fld := ⟨6, 1⟩
/-- R294; RO, reset 0x0000_0000. -/
def HMP_TRIG_LO : Nat := 0x400A0010
/-- R294; RO, reset 0x0000_0000. -/
def HMP_TRIG_HI : Nat := 0x400A0014
/-- R294; RO, reset 0x0000_0000. -/
def HMP_TRIGAT (i : Nat) : Nat := 0x400A0018 + 0x4 * i
/-- R294; CFG, reset Image. -/
def HMP_TBCFG : Nat := 0x400A0028
def HMP_TBCFG_TXSPAN : Fld := ⟨2, 1⟩
def HMP_TBCFG_RXSPAN : Fld := ⟨3, 1⟩
def HMP_TBCFG_PW : Fld := ⟨8, 8⟩
def HMP_TBCFG_TBTOL : Fld := ⟨16, 16⟩
/-- R294; RO, reset 0x0000_0000. -/
def HMP_TBSTAT : Nat := 0x400A002C
/-- R294; RO, reset 0x0000_0000. -/
def HMP_TBDLY0 : Nat := 0x400A0030
/-- R294; RO, reset 0x0000_0000. -/
def HMP_TBDLY1 : Nat := 0x400A0034
/-- R294; RW, reset 0x0000_0000. -/
def HMP_CALT : Nat := 0x400A0038
/-- R294; RO, reset Computed. -/
def HMP_GLOAD : Nat := 0x400A003C
/-- R294; RO, reset 0x0000_0000. -/
def HMP_ARMIGN : Nat := 0x400A0040
/-- R294; RO, reset 0x0000_0000. -/
def HMP_CNT (i : Nat) : Nat := 0x400A0044 + 0x4 * i
/-- R294; CFG, reset Image. -/
def HMP_THCFG (u : Nat) : Nat := 0x400A0300 + 0x10 * u
/-- R294; CFG, reset Image. -/
def HMP_THLEV (u : Nat) : Nat := 0x400A0304 + 0x10 * u
/-- R294; CFG, reset Image. -/
def HMP_THHYS (u : Nat) : Nat := 0x400A0308 + 0x10 * u
/-- R294; CFG, reset Image. -/
def HMP_CCFG (ch : Nat) : Nat := 0x400A1000 + 0x40 * ch
def HMP_CCFG_EN : Fld := ⟨0, 1⟩
def HMP_CCFG_KIND : Fld := ⟨1, 1⟩
def HMP_CCFG_SRC : Fld := ⟨2, 6⟩
def HMP_CCFG_FMT : Fld := ⟨8, 1⟩
def HMP_CCFG_STAGE : Fld := ⟨9, 2⟩
def HMP_CCFG_RSZ : Fld := ⟨11, 5⟩
def HMP_CCFG_RATEEN : Fld := ⟨16, 1⟩
def HMP_CCFG_SKEWEN : Fld := ⟨17, 1⟩
/-- R294; CFG, reset Image. -/
def HMP_CBASE (ch : Nat) : Nat := 0x400A1004 + 0x40 * ch
/-- R294; CFG, reset Image. -/
def HMP_CPRE (ch : Nat) : Nat := 0x400A1008 + 0x40 * ch
/-- R294; CFG, reset Image. -/
def HMP_CPOST (ch : Nat) : Nat := 0x400A100C + 0x40 * ch
/-- R294; PW, reset Image. -/
def HMP_CTRIM (ch : Nat) : Nat := 0x400A1010 + 0x40 * ch
/-- R294; CFG, reset Image. -/
def HMP_CSKLEV (ch : Nat) : Nat := 0x400A1018 + 0x40 * ch
/-- R294; RO, reset 0x0000_0000. -/
def HMP_CSTAT (ch : Nat) : Nat := 0x400A101C + 0x40 * ch
def HMP_CSTAT_K : Fld := ⟨0, 3⟩
def HMP_CSTAT_LOSS : Fld := ⟨3, 1⟩
def HMP_CSTAT_PRESHORT : Fld := ⟨4, 1⟩
def HMP_CSTAT_DONE : Fld := ⟨5, 1⟩
def HMP_CSTAT_TRIGSEEN : Fld := ⟨6, 1⟩
/-- R294; RO, reset 0x0000_0000. -/
def HMP_CWIDX (ch : Nat) : Nat := 0x400A1020 + 0x40 * ch
/-- R294; RO, reset 0x0000_0000. -/
def HMP_CTIDX (ch : Nat) : Nat := 0x400A1024 + 0x40 * ch
/-- R294; RO, reset 0x0000_0000. -/
def HMP_CFIRST (ch : Nat) : Nat := 0x400A1028 + 0x40 * ch
/-- R294; RO, reset 0x0000_0000. -/
def HMP_CLOST (ch : Nat) : Nat := 0x400A102C + 0x40 * ch
/-- R294; RO, reset 0x0000_0000. -/
def HMP_SKEW (ch : Nat) : Nat := 0x400A1030 + 0x40 * ch
/-- R294; CFG, reset Image. -/
def HMP_STA (s : Nat) : Nat := 0x400A0100 + 0x8 * s
def HMP_STA_COND : Fld := ⟨0, 8⟩
def HMP_STA_NEG : Fld := ⟨8, 1⟩
def HMP_STA_NEXT : Fld := ⟨9, 3⟩
def HMP_STA_TRIG : Fld := ⟨12, 1⟩
def HMP_STA_CSEL : Fld := ⟨13, 2⟩
def HMP_STA_CINC : Fld := ⟨15, 1⟩
def HMP_STA_CCLR : Fld := ⟨16, 1⟩
def HMP_STA_TSEL : Fld := ⟨17, 2⟩
def HMP_STA_TSTART : Fld := ⟨19, 1⟩
def HMP_STA_EN : Fld := ⟨20, 1⟩
/-- R294; CFG, reset Image. -/
def HMP_STB (s : Nat) : Nat := 0x400A0104 + 0x8 * s
def HMP_STB_COND : Fld := ⟨0, 8⟩
def HMP_STB_NEG : Fld := ⟨8, 1⟩
def HMP_STB_NEXT : Fld := ⟨9, 3⟩
def HMP_STB_TRIG : Fld := ⟨12, 1⟩
def HMP_STB_CSEL : Fld := ⟨13, 2⟩
def HMP_STB_CINC : Fld := ⟨15, 1⟩
def HMP_STB_CCLR : Fld := ⟨16, 1⟩
def HMP_STB_TSEL : Fld := ⟨17, 2⟩
def HMP_STB_TSTART : Fld := ⟨19, 1⟩
def HMP_STB_EN : Fld := ⟨20, 1⟩
/-- R294; CFG, reset Image. -/
def HMP_CLIM (c : Nat) : Nat := 0x400A0200 + 0x4 * c
/-- R294; CFG, reset Image. -/
def HMP_TLIM (t : Nat) : Nat := 0x400A0210 + 0x4 * t

/-! Block MEM -/

/-- R317; CFG, reset Image. -/
def MEM_DRAMCFG : Nat := 0x400C0000
def MEM_DRAMCFG_SIZE : Fld := ⟨0, 3⟩
def MEM_DRAMCFG_HMPSHARE : Fld := ⟨8, 8⟩
def MEM_DRAMCFG_DMASHARE : Fld := ⟨16, 8⟩
/-- R317; RO, reset 0x0000_0000. -/
def MEM_STAT : Nat := 0x400C0004
def MEM_STAT_MASK : Fld := ⟨0, 12⟩
def MEM_STAT_DRAMRDY : Fld := ⟨12, 1⟩
def MEM_STAT_DRAMRET : Fld := ⟨13, 1⟩
/-- R317; W1C, reset 0x0000_0000. -/
def MEM_EVT : Nat := 0x400C0008
def MEM_EVT_SBE : Fld := ⟨0, 1⟩
def MEM_EVT_UE : Fld := ⟨1, 1⟩
def MEM_EVT_DRAMERR : Fld := ⟨2, 1⟩
def MEM_EVT_WAIT : Fld := ⟨3, 1⟩
def MEM_EVT_HEMERGE : Fld := ⟨4, 1⟩
/-- R317; RO, reset 0x0000_0000. -/
def MEM_ERRADDR : Nat := 0x400C000C
/-- R317; RO, reset 0x0000_0000. -/
def MEM_ERRCNT : Nat := 0x400C0010
/-- R317; RO, reset Computed. -/
def MEM_WB (i : Nat) : Nat := 0x400C0020 + 0x4 * i
def MEM_WB_SRAMB : Fld := ⟨0, 8⟩
def MEM_WB_DRAMB : Fld := ⟨8, 8⟩
def MEM_WB_WMAX : Fld := ⟨16, 16⟩
/-- R317; RO, reset 0x0000_0000. -/
def MEM_HELVL : Nat := 0x400C0060
/-- R317; RO, reset 0x0000_0000. -/
def MEM_HEMERGE : Nat := 0x400C0064

/-! Block DMA -/

/-- R318; CFG, reset Image. -/
def DMA_RCFG (r : Nat) : Nat := 0x400B0000 + 0x40 * r
def DMA_RCFG_EN : Fld := ⟨0, 1⟩
def DMA_RCFG_CLASS : Fld := ⟨1, 1⟩
def DMA_RCFG_START : Fld := ⟨2, 1⟩
def DMA_RCFG_SHE : Fld := ⟨3, 5⟩
def DMA_RCFG_RSZ : Fld := ⟨8, 4⟩
/-- R318; CFG, reset Image. -/
def DMA_RBASE (r : Nat) : Nat := 0x400B0004 + 0x40 * r
/-- R318; CFG, reset Image. -/
def DMA_RDL (r : Nat) : Nat := 0x400B0008 + 0x40 * r
/-- R318; CFG, reset Image. -/
def DMA_RMINIV (r : Nat) : Nat := 0x400B000C + 0x40 * r
/-- R318; CFG, reset Image. -/
def DMA_RMAXLEN (r : Nat) : Nat := 0x400B0010 + 0x40 * r
/-- R318; PW, reset 0x0000_0000. -/
def DMA_RCMD (r : Nat) : Nat := 0x400B0018 + 0x40 * r
/-- R318; RO, reset 0x0000_0000. -/
def DMA_RSTAT (r : Nat) : Nat := 0x400B0020 + 0x40 * r
def DMA_RSTAT_HEAD : Fld := ⟨0, 8⟩
def DMA_RSTAT_BUSY : Fld := ⟨8, 1⟩
def DMA_RSTAT_RETIRED : Fld := ⟨9, 1⟩
def DMA_RSTAT_RESULT : Fld := ⟨10, 2⟩
/-- R318; W1C, reset 0x0000_0000. -/
def DMA_REVT (r : Nat) : Nat := 0x400B0024 + 0x40 * r
def DMA_REVT_FAULT : Fld := ⟨0, 1⟩
def DMA_REVT_LATE : Fld := ⟨1, 1⟩
def DMA_REVT_STARTREF : Fld := ⟨2, 1⟩
def DMA_REVT_REPEAT : Fld := ⟨3, 1⟩
/-- R318; RO, reset Computed. -/
def DMA_RCOST (r : Nat) : Nat := 0x400B0028 + 0x40 * r
/-- R318; RO, reset Computed. -/
def DMA_RSLACK (r : Nat) : Nat := 0x400B002C + 0x40 * r
/-- R318; RO, reset 0x0000_0000. -/
def DMA_GEVT : Nat := 0x400B0800
/-- R318; RO, reset Computed. -/
def DMA_GLOAD : Nat := 0x400B0804

/-! Block CYC -/

/-- R338; CFG, reset Image. -/
def CYC_CFG : Nat := 0x400D0000
def CYC_CFG_TEN : Fld := ⟨0, 16⟩
def CYC_CFG_STARTKIND : Fld := ⟨16, 1⟩
def CYC_CFG_FORCEEN : Fld := ⟨17, 1⟩
/-- R338; RO, reset 0x0000_001F. -/
def CYC_STAT : Nat := 0x400D0004
def CYC_STAT_RUN : Fld := ⟨0, 5⟩
def CYC_STAT_RESTART : Fld := ⟨5, 1⟩
def CYC_STAT_HALTED : Fld := ⟨6, 1⟩
def CYC_STAT_COLD : Fld := ⟨7, 1⟩
def CYC_STAT_SNAPINC : Fld := ⟨8, 1⟩
/-- R338; W1C, reset 0x0000_0000. -/
def CYC_EVT : Nat := 0x400D0008
def CYC_EVT_OVERRUN : Fld := ⟨0, 1⟩
def CYC_EVT_EXCEPT : Fld := ⟨1, 1⟩
def CYC_EVT_STATION : Fld := ⟨2, 1⟩
def CYC_EVT_PATCH : Fld := ⟨3, 1⟩
def CYC_EVT_FORCE : Fld := ⟨4, 1⟩
/-- R338; CFG, reset Image. -/
def CYC_BUILDID : Nat := 0x400D000C
/-- R338; PW, reset 0x0000_0000. -/
def CYC_RCMD : Nat := 0x400D0010
/-- R338; RO, reset 0x0000_0000. -/
def CYC_ECAUSE : Nat := 0x400D0018
def CYC_ECAUSE_KIND : Fld := ⟨0, 4⟩
def CYC_ECAUSE_INDEX : Fld := ⟨4, 8⟩
def CYC_ECAUSE_QUEUED : Fld := ⟨12, 4⟩
def CYC_ECAUSE_DROP : Fld := ⟨16, 16⟩
/-- R338; CFG, reset Image. -/
def CYC_ETDL : Nat := 0x400D001C
/-- R338; RW, reset 0x0000_0000. -/
def CYC_PADDR : Nat := 0x400D0020
/-- R338; RO, reset 0x0000_0000. -/
def CYC_PSTAT : Nat := 0x400D0024
def CYC_PSTAT_BUSY : Fld := ⟨0, 1⟩
def CYC_PSTAT_PEND : Fld := ⟨1, 1⟩
def CYC_PSTAT_CAUSE : Fld := ⟨2, 4⟩
def CYC_PSTAT_APPLIED : Fld := ⟨6, 26⟩
/-- R338; PW, reset 0x0000_0000. -/
def CYC_PCMD : Nat := 0x400D0028
/-- R338; RW, reset 0x0000_0000. -/
def CYC_FADDR : Nat := 0x400D0030
/-- R338; RW, reset 0x0000_0000. -/
def CYC_FVAL_LO : Nat := 0x400D0034
/-- R338; RW, reset 0x0000_0000. -/
def CYC_FVAL_HI : Nat := 0x400D0038
/-- R338; RO, reset 0x0000_0000. -/
def CYC_FSTAT : Nat := 0x400D003C
def CYC_FSTAT_COUNT : Fld := ⟨0, 7⟩
def CYC_FSTAT_REFUSE : Fld := ⟨7, 3⟩
/-- R338; PW, reset 0x0000_0000. -/
def CYC_FCMD : Nat := 0x400D0040
def CYC_FCMD_OP : Fld := ⟨0, 2⟩
def CYC_FCMD_WIDTH : Fld := ⟨2, 2⟩
def CYC_FCMD_BTASK : Fld := ⟨4, 5⟩
/-- R338; RO, reset 0x0000_0000. -/
def CYC_STNSTAT0 : Nat := 0x400D0048
/-- R338; RO, reset 0x0000_0000. -/
def CYC_STNSTAT1 : Nat := 0x400D004C
/-- R338; CFG, reset Image. -/
def CYC_TCFG (t : Nat) : Nat := 0x400D0100 + 0x20 * t
/-- R338; CFG, reset Image. -/
def CYC_TDL (t : Nat) : Nat := 0x400D0104 + 0x20 * t
/-- R338; CFG, reset Image. -/
def CYC_TWCET (t : Nat) : Nat := 0x400D0108 + 0x20 * t
/-- R338; RO, reset 0x0000_0000. -/
def CYC_TSTAT (t : Nat) : Nat := 0x400D010C + 0x20 * t
/-- R338; RO, reset 0x0000_0000. -/
def CYC_TLAST (t : Nat) : Nat := 0x400D0110 + 0x20 * t
/-- R338; RO, reset 0x0000_0000. -/
def CYC_TMAX (t : Nat) : Nat := 0x400D0114 + 0x20 * t
/-- R338; RO, reset 0x0000_0000. -/
def CYC_TOVR (t : Nat) : Nat := 0x400D0118 + 0x20 * t
/-- R338; CFG, reset Image. -/
def CYC_SCFG (sn : Nat) : Nat := 0x400D0400 + 0x10 * sn
/-- R338; RO, reset 0x0000_0000. -/
def CYC_SSTAT (sn : Nat) : Nat := 0x400D0404 + 0x10 * sn

/-! Block SPN -/

/-- R369; CFG, reset Image. -/
def SPN_CFG : Nat := 0x400E0000
def SPN_CFG_ADDR : Fld := ⟨0, 18⟩
def SPN_CFG_BLOSS : Fld := ⟨18, 4⟩
def SPN_CFG_RSTAGE : Fld := ⟨22, 2⟩
def SPN_CFG_REGION : Fld := ⟨24, 1⟩
def SPN_CFG_RMULT : Fld := ⟨25, 7⟩
/-- R369; CFG, reset Image. -/
def SPN_ETYPE : Nat := 0x400E0004
/-- R369; CFG, reset Image. -/
def SPN_MAC_LO : Nat := 0x400E0008
/-- R369; CFG, reset Image. -/
def SPN_MAC_HI : Nat := 0x400E000C
/-- R369; CFG, reset Image. -/
def SPN_GMAC_LO : Nat := 0x400E0010
/-- R369; CFG, reset Image. -/
def SPN_GMAC_HI : Nat := 0x400E0014
/-- R369; CFG, reset Image. -/
def SPN_CCYC : Nat := 0x400E0018
/-- R369; CFG, reset Image. -/
def SPN_FREE : Nat := 0x400E001C
/-- R369; CFG, reset Image. -/
def SPN_HOLD : Nat := 0x400E0020
/-- R369; CFG, reset Image. -/
def SPN_SUCC0 : Nat := 0x400E0024
/-- R369; CFG, reset Image. -/
def SPN_SUCC1 : Nat := 0x400E0028
/-- R369; CFG, reset Image. -/
def SPN_RSUCC0 : Nat := 0x400E002C
/-- R369; CFG, reset Image. -/
def SPN_RSUCC1 : Nat := 0x400E0030
/-- R369; CFG, reset Image. -/
def SPN_SEC : Nat := 0x400E0034
/-- R369; CFG, reset Image. -/
def SPN_SECV : Nat := 0x400E0038
/-- R369; CFG, reset Image. -/
def SPN_VRMAX : Nat := 0x400E003C
/-- R369; CFG, reset Image. -/
def SPN_PTP : Nat := 0x400E0040
def SPN_PTP_DOMAIN : Fld := ⟨0, 7⟩
def SPN_PTP_PRIO1 : Fld := ⟨8, 8⟩
def SPN_PTP_PRIO2 : Fld := ⟨16, 8⟩
def SPN_PTP_SYNCIV : Fld := ⟨24, 3⟩
/-- R369; CFG, reset Image. -/
def SPN_SCHID : Nat := 0x400E0044
/-- R369; RO, reset 0x0000_0000. -/
def SPN_STAT : Nat := 0x400E0048
def SPN_STAT_MGR : Fld := ⟨0, 1⟩
def SPN_STAT_REFOK : Fld := ⟨1, 1⟩
def SPN_STAT_CLAIMING : Fld := ⟨2, 1⟩
def SPN_STAT_RMGR : Fld := ⟨3, 1⟩
def SPN_STAT_UNLINKED : Fld := ⟨4, 1⟩
def SPN_STAT_SCHBAD : Fld := ⟨5, 1⟩
/-- R369; W1C, reset 0x0000_0000. -/
def SPN_EVT : Nat := 0x400E004C
def SPN_EVT_LOSS : Fld := ⟨0, 1⟩
def SPN_EVT_LATE : Fld := ⟨1, 1⟩
def SPN_EVT_TXMISS : Fld := ⟨2, 1⟩
def SPN_EVT_SUCC : Fld := ⟨3, 1⟩
def SPN_EVT_MCRX : Fld := ⟨4, 1⟩
def SPN_EVT_RXFULL : Fld := ⟨5, 1⟩
def SPN_EVT_NOSTREAM : Fld := ⟨6, 1⟩
def SPN_EVT_STALE : Fld := ⟨7, 1⟩
/-- R369; RO, reset 0x0000_0000. -/
def SPN_MEPOCH : Nat := 0x400E0050
/-- R369; RO, reset 0x0000_0000. -/
def SPN_MADDR : Nat := 0x400E0054
/-- R369; RO, reset 0x0000_0000. -/
def SPN_CYCNO : Nat := 0x400E0058
/-- R369; RO, reset 0x0000_0000. -/
def SPN_DFOFS : Nat := 0x400E005C
/-- R369; RO, reset 0x0000_0000. -/
def SPN_DVOFS : Nat := 0x400E0060
/-- R369; RO, reset 0x0000_0000. -/
def SPN_DBSEN : Nat := 0x400E0064
/-- R369; RO, reset 0x0000_0000. -/
def SPN_DP : Nat := 0x400E0068
/-- R369; RO, reset 0x0000_0000. -/
def SPN_DQ : Nat := 0x400E006C
/-- R369; RO, reset 0x0000_0000. -/
def SPN_DBS : Nat := 0x400E0070
/-- R369; CFG, reset Image. -/
def SPN_RXBASE : Nat := 0x400E0074
/-- R369; CFG, reset Image. -/
def SPN_RXCFG : Nat := 0x400E0078
/-- R369; RO, reset 0x0000_0000. -/
def SPN_RXWIDX : Nat := 0x400E007C
/-- R369; RW, reset 0x0000_0000. -/
def SPN_RXRIDX : Nat := 0x400E0080
/-- R369; RO, reset 0x0000_0000. -/
def SPN_RXDROP : Nat := 0x400E0084
/-- R369; PW, reset 0x0000_0000. -/
def SPN_BECMD : Nat := 0x400E0088
/-- R369; CFG, reset Image. -/
def SPN_MCFG : Nat := 0x400E0090
def SPN_MCFG_EN : Fld := ⟨0, 1⟩
def SPN_MCFG_POS : Fld := ⟨1, 4⟩
def SPN_MCFG_MCSTAGE : Fld := ⟨5, 2⟩
def SPN_MCFG_MCWAIT : Fld := ⟨8, 8⟩
def SPN_MCFG_MCLOSS : Fld := ⟨16, 8⟩
/-- R369; CFG, reset Image. -/
def SPN_MCTHR : Nat := 0x400E0094
/-- R369; PW, reset Image. -/
def SPN_MCTX : Nat := 0x400E0098
def SPN_MCTX_MSG : Fld := ⟨0, 4⟩
def SPN_MCTX_VALUE : Fld := ⟨8, 16⟩
/-- R369; RO, reset 0x0000_0000. -/
def SPN_MCSTAT : Nat := 0x400E00A0
def SPN_MCSTAT_TX : Fld := ⟨0, 1⟩
def SPN_MCSTAT_SYNC : Fld := ⟨1, 1⟩
def SPN_MCSTAT_PHASE : Fld := ⟨2, 2⟩
def SPN_MCSTAT_FRAMES : Fld := ⟨16, 16⟩
/-- R369; RO, reset 0x0000_0000. -/
def SPN_MCRX : Nat := 0x400E00A4
/-- R369; RO, reset 0x0000_0000. -/
def SPN_MCQUAL : Nat := 0x400E00A8
/-- R369; CFG, reset Image. -/
def SPN_PCFG (p : Nat) : Nat := 0x400E0100 + 0x20 * p
/-- R369; RO, reset 0x0000_0000. -/
def SPN_PSTAT (p : Nat) : Nat := 0x400E0104 + 0x20 * p
/-- R369; RO, reset 0x0000_0000. -/
def SPN_PCNT (p : Nat) : Nat := 0x400E0108 + 0x20 * p
/-- R369; RO, reset 0x0000_0000. -/
def SPN_PDLY (p : Nat) : Nat := 0x400E010C + 0x20 * p
/-- R369; W1C, reset 0x0000_0000. -/
def SPN_PEVT (p : Nat) : Nat := 0x400E0110 + 0x20 * p
/-- R369; PW, reset 0x0000_0000. -/
def SPN_DTP (m : Nat) : Nat := 0x400E2000 + 0x10 * m
/-- R369; PW, reset 0x0000_0000. -/
def SPN_DTQ (m : Nat) : Nat := 0x400E2008 + 0x10 * m
/-- R369; RW, reset 0x0000_0000. -/
def SPN_DTBS (m : Nat) : Nat := 0x400E3000 + 0x4 * m
/-- R369; RO, reset 0x0000_0000. -/
def SPN_MRST (m : Nat) : Nat := 0x400E4000 + 0x20 * m
/-- R369; RO, reset 0x0000_0000. -/
def SPN_MRW (m : Nat) : Nat := 0x400E4004 + 0x20 * m
/-- R369; RO, reset 0x0000_0000. -/
def SPN_MRV (m : Nat) : Nat := 0x400E4008 + 0x20 * m
/-- R369; RO, reset 0x0000_0000. -/
def SPN_MRP (m : Nat) : Nat := 0x400E400C + 0x20 * m
/-- R369; RO, reset 0x0000_0000. -/
def SPN_MRQ (m : Nat) : Nat := 0x400E4010 + 0x20 * m
/-- R369; CFG, reset Image. -/
def SPN_EW (e w : Nat) : Nat := 0x400E1000 + 0x10 * e + 0x4 * w
def SPN_EW_EN : Fld := ⟨0, 1⟩
def SPN_EW_TYPE : Fld := ⟨1, 4⟩
def SPN_EW_DSTK : Fld := ⟨5, 2⟩
def SPN_EW_MGRONLY : Fld := ⟨7, 1⟩
def SPN_EW_DST : Fld := ⟨8, 18⟩
def SPN_EW_PORTS : Fld := ⟨26, 4⟩
def SPN_EW_WSTART : Fld := ⟨0, 24⟩
def SPN_EW_BE : Fld := ⟨24, 1⟩
def SPN_EW_WEND : Fld := ⟨0, 24⟩
def SPN_EW_RELEN : Fld := ⟨24, 1⟩
def SPN_EW_RELHE : Fld := ⟨25, 5⟩
def SPN_EW_BUF : Fld := ⟨0, 32⟩

/-! Block PAR -/

/-- R389; CFG, reset Image. -/
def PAR_CFG : Nat := 0x400F0000
def PAR_CFG_EN : Fld := ⟨0, 1⟩
def PAR_CFG_PRIMARY : Fld := ⟨1, 1⟩
def PAR_CFG_UNIT : Fld := ⟨2, 1⟩
def PAR_CFG_CSTAGE : Fld := ⟨3, 2⟩
def PAR_CFG_REFSRC : Fld := ⟨5, 2⟩
def PAR_CFG_HBEN : Fld := ⟨7, 1⟩
def PAR_CFG_THBACK : Fld := ⟨8, 8⟩
/-- R389; CFG, reset Image. -/
def PAR_TOL : Nat := 0x400F0004
def PAR_TOL_ATTOL : Fld := ⟨0, 5⟩
def PAR_TOL_ETOL : Fld := ⟨8, 8⟩
def PAR_TOL_STITOL : Fld := ⟨16, 16⟩
/-- R389; CFG, reset Image. -/
def PAR_ASYM : Nat := 0x400F0008
/-- R389; RO, reset 0x0000_0000. -/
def PAR_STAT : Nat := 0x400F000C
def PAR_STAT_ROLE : Fld := ⟨0, 3⟩
def PAR_STAT_PROLE : Fld := ⟨3, 3⟩
def PAR_STAT_PLINK : Fld := ⟨6, 1⟩
def PAR_STAT_HEALTHY : Fld := ⟨7, 1⟩
def PAR_STAT_PHEALTHY : Fld := ⟨8, 1⟩
def PAR_STAT_HBPEND : Fld := ⟨9, 1⟩
def PAR_STAT_ONELANE : Fld := ⟨10, 1⟩
def PAR_STAT_JLATE : Fld := ⟨11, 1⟩
def PAR_STAT_HBINH : Fld := ⟨12, 1⟩
/-- R389; RO, reset 0x0000_0000. -/
def PAR_HEALTH : Nat := 0x400F0010
/-- R389; RO, reset 0x0000_0000. -/
def PAR_PHEALTH : Nat := 0x400F0014
/-- R389; RO, reset Image. -/
def PAR_EPOCH : Nat := 0x400F0018
/-- R389; RO, reset 0x0000_0000. -/
def PAR_LTERR : Nat := 0x400F001C
/-- R389; RO, reset 0x0000_0000. -/
def PAR_COPYNO : Nat := 0x400F0020
/-- R389; RO, reset 0x0000_0000. -/
def PAR_HAND_LO : Nat := 0x400F0024
/-- R389; RO, reset 0x0000_0000. -/
def PAR_HAND_HI : Nat := 0x400F0028
/-- R389; RO, reset 0x0000_0000. -/
def PAR_CNT : Nat := 0x400F002C
/-- R389; W1C, reset 0x0000_0000. -/
def PAR_EVT : Nat := 0x400F0030
def PAR_EVT_TAKEOVER : Fld := ⟨0, 1⟩
def PAR_EVT_HANDBACK : Fld := ⟨1, 1⟩
def PAR_EVT_FENCED : Fld := ⟨2, 1⟩
def PAR_EVT_COPYFAULT : Fld := ⟨3, 1⟩
def PAR_EVT_HEALTHFALL : Fld := ⟨4, 1⟩
def PAR_EVT_GRANTREF : Fld := ⟨5, 1⟩
/-- R389; PW, reset 0x0000_0000. -/
def PAR_CMD : Nat := 0x400F0038
def PAR_CMD_OP : Fld := ⟨0, 2⟩
/-- R389; CFG, reset Image. -/
def PAR_RCFG : Nat := 0x400F0040
def PAR_RCFG_REFEREE : Fld := ⟨0, 1⟩
def PAR_RCFG_TREF : Fld := ⟨1, 4⟩
/-- R389; CFG, reset Image. -/
def PAR_RPAIR (i : Nat) : Nat := 0x400F0100 + 0x10 * i
/-- R389; RO, reset 0x0000_0000. -/
def PAR_RSTAT (i : Nat) : Nat := 0x400F0104 + 0x10 * i

/-! Block SAF -/

/-- R407; CFG, reset Image. -/
def SAF_PCFG (n : Nat) : Nat := 0x40100000 + 0x20 * n
def SAF_PCFG_FUNC : Fld := ⟨0, 3⟩
def SAF_PCFG_CMODE : Fld := ⟨3, 1⟩
def SAF_PCFG_RESET : Fld := ⟨4, 1⟩
def SAF_PCFG_STAGE : Fld := ⟨5, 2⟩
/-- R407; CFG, reset Image. -/
def SAF_PTIME (n : Nat) : Nat := 0x40100004 + 0x20 * n
def SAF_PTIME_TFILT : Fld := ⟨0, 7⟩
def SAF_PTIME_TDISC : Fld := ⟨8, 12⟩
def SAF_PTIME_TSTOP : Fld := ⟨20, 12⟩
/-- R407; RO, reset 0x0000_0003. -/
def SAF_PSTAT (n : Nat) : Nat := 0x40100008 + 0x20 * n
def SAF_PSTAT_STATE : Fld := ⟨0, 2⟩
def SAF_PSTAT_INA : Fld := ⟨2, 1⟩
def SAF_PSTAT_INB : Fld := ⟨3, 1⟩
def SAF_PSTAT_DISCRUN : Fld := ⟨4, 1⟩
def SAF_PSTAT_STOPRUN : Fld := ⟨5, 1⟩
def SAF_PSTAT_THACT : Fld := ⟨6, 1⟩
/-- R407; RO, reset Computed. -/
def SAF_PRESP (n : Nat) : Nat := 0x4010000C + 0x20 * n
/-- R407; W1C, reset 0x0000_0000. -/
def SAF_PEVT (n : Nat) : Nat := 0x40100010 + 0x20 * n
def SAF_PEVT_DEMAND : Fld := ⟨0, 1⟩
def SAF_PEVT_DISC : Fld := ⟨1, 1⟩
def SAF_PEVT_TPFAULT : Fld := ⟨2, 1⟩
/-- R407; CFG, reset Image. -/
def SAF_CFG : Nat := 0x40100100
/-- R407; CFG, reset Image. -/
def SAF_TP : Nat := 0x40100104
/-- R407; CFG, reset Image. -/
def SAF_PB : Nat := 0x40100108
/-- R407; RO, reset 0x0000_0000. -/
def SAF_STAT : Nat := 0x4010010C
def SAF_STAT_ARMED : Fld := ⟨0, 1⟩
def SAF_STAT_PATHA : Fld := ⟨1, 1⟩
def SAF_STAT_PATHB : Fld := ⟨2, 1⟩
def SAF_STAT_FBA : Fld := ⟨3, 1⟩
def SAF_STAT_FBB : Fld := ⟨4, 1⟩
def SAF_STAT_LOCKOUT : Fld := ⟨5, 1⟩
def SAF_STAT_PROOFDUE : Fld := ⟨6, 1⟩
def SAF_STAT_SRSTIN : Fld := ⟨7, 1⟩
/-- R407; RO, reset 0x0000_0000. -/
def SAF_LOCK : Nat := 0x40100110
/-- R407; W1C, reset 0x0000_0000. -/
def SAF_EVT : Nat := 0x40100114
def SAF_EVT_DEMAND : Fld := ⟨0, 1⟩
def SAF_EVT_OFF : Fld := ⟨1, 1⟩
def SAF_EVT_LOCKOUT : Fld := ⟨2, 1⟩
def SAF_EVT_RESET : Fld := ⟨3, 1⟩
def SAF_EVT_RSTREF : Fld := ⟨4, 1⟩
def SAF_EVT_FBFAULT : Fld := ⟨5, 1⟩
def SAF_EVT_PROOFDUE : Fld := ⟨6, 1⟩
/-- R407; RO, reset Computed. -/
def SAF_RESP : Nat := 0x40100118
/-- R407; RO, reset 0x0000_0000. -/
def SAF_PROOF : Nat := 0x4010011C

/-! Block CLK -/

/-- R420; CFG, reset Image. -/
def CLK_CFG : Nat := 0x40110000
/-- R420; CFG, reset Image. -/
def CLK_SLEW : Nat := 0x40110004
/-- R420; PW, reset 0x0000_0000. -/
def CLK_HOPREQ : Nat := 0x40110008
/-- R420; RO, reset 0x0000_0000. -/
def CLK_STAT : Nat := 0x40110010
def CLK_STAT_LOCK : Fld := ⟨0, 6⟩
def CLK_STAT_ENTRY : Fld := ⟨6, 4⟩
def CLK_STAT_HOLD : Fld := ⟨10, 1⟩
def CLK_STAT_HOPPING : Fld := ⟨11, 1⟩
def CLK_STAT_ESRC : Fld := ⟨12, 2⟩
/-- R420; W1C, reset 0x0000_0000. -/
def CLK_EVT : Nat := 0x40110014
def CLK_EVT_UNLOCK : Fld := ⟨0, 1⟩
def CLK_EVT_REFLOSS : Fld := ⟨1, 1⟩
def CLK_EVT_HOP : Fld := ⟨2, 1⟩
def CLK_EVT_HOPREF : Fld := ⟨3, 1⟩
def CLK_EVT_YLIM : Fld := ⟨4, 1⟩
/-- R420; RO, reset 0x0000_0000. -/
def CLK_Y : Nat := 0x40110018
/-- R420; RO, reset 0x0000_0000. -/
def CLK_YF : Nat := 0x4011001C
/-- R420; RO, reset 0x0000_0000. -/
def CLK_YTGT : Nat := 0x40110020
/-- R420; CFG, reset Image. -/
def CLK_OCFG (n : Nat) : Nat := 0x40110200 + 0x10 * n
/-- R420; RO, reset 0x0000_0000. -/
def CLK_OSTAT (n : Nat) : Nat := 0x40110204 + 0x10 * n
/-- R420; CFG, reset Image. -/
def CLK_CKEY (k : Nat) : Nat := 0x40110100 + 0x8 * k
def CLK_CKEY_EN : Fld := ⟨0, 1⟩
def CLK_CKEY_SRC : Fld := ⟨1, 3⟩
def CLK_CKEY_FREQ : Fld := ⟨8, 17⟩
/-- R420; RO, reset 0x0000_0000. -/
def CLK_CSTAT (k : Nat) : Nat := 0x40110104 + 0x8 * k
def CLK_CSTAT_VALID : Fld := ⟨0, 1⟩
def CLK_CSTAT_BAND : Fld := ⟨1, 7⟩
def CLK_CSTAT_TSRCH : Fld := ⟨8, 8⟩

/-! Block SYS -/

/-- R439; RO, reset 0x7260_0001. -/
def SYS_ID : Nat := 0x40000000
/-- R439; RO, reset Cause. -/
def SYS_RSTCAUSE : Nat := 0x40000004
/-- R439; RO, reset 0x0000_0000. -/
def SYS_CFGSTAT : Nat := 0x40000008
def SYS_CFGSTAT_STATE : Fld := ⟨0, 3⟩
def SYS_CFGSTAT_REPEAT : Fld := ⟨3, 1⟩
def SYS_CFGSTAT_CAUSE : Fld := ⟨4, 8⟩
/-- R439; RO, reset 0x0000_0000. -/
def SYS_CFGREF : Nat := 0x4000000C
/-- R439; RO, reset 0x0000_0000. -/
def SYS_IMGINFO : Nat := 0x40000010
/-- R439; RO, reset 0x0000_0000. -/
def SYS_BUILDID : Nat := 0x40000014
/-- R439; RO, reset 0x0000_0000. -/
def SYS_GFSTAT : Nat := 0x40000018
def SYS_GFSTAT_CFG : Fld := ⟨0, 1⟩
def SYS_GFSTAT_LINKS : Fld := ⟨1, 1⟩
def SYS_GFSTAT_BANKS : Fld := ⟨2, 1⟩
def SYS_GFSTAT_DRAM : Fld := ⟨3, 1⟩
def SYS_GFSTAT_PVALID : Fld := ⟨4, 1⟩
def SYS_GFSTAT_SAFETY : Fld := ⟨5, 1⟩
def SYS_GFSTAT_CYC : Fld := ⟨6, 1⟩
def SYS_GFSTAT_GFREADY : Fld := ⟨7, 1⟩
/-- R439; RO, reset 0x0000_0000. -/
def SYS_TCOMP_LO : Nat := 0x4000001C
/-- R439; RO, reset 0x0000_0000. -/
def SYS_TCOMP_HI : Nat := 0x40000020
/-- R439; RO, reset 0x0000_0000. -/
def SYS_TGF_LO : Nat := 0x40000024
/-- R439; RO, reset 0x0000_0000. -/
def SYS_TGF_HI : Nat := 0x40000028

/-! Block PWR -/

/-- R441; RO, reset 0x0000_0200. -/
def PWR_STAT : Nat := 0x40120000
/-- R441; W1C, reset 0x0000_0000. -/
def PWR_EVT : Nat := 0x40120004
/-- R441; CFG, reset Image. -/
def PWR_SAVECFG : Nat := 0x40120008
/-- R441; CFG, reset Image. -/
def PWR_SECTA : Nat := 0x4012000C
/-- R441; CFG, reset Image. -/
def PWR_SECTB : Nat := 0x40120010
/-- R441; CFG, reset Image. -/
def PWR_FLASH : Nat := 0x40120014
/-- R441; RO, reset Computed. -/
def PWR_TSV : Nat := 0x40120018
/-- R441; RO, reset 0x0000_0000. -/
def PWR_SAVESTAT : Nat := 0x4012001C
/-- R441; RO, reset 0x0000_0000. -/
def PWR_SAVESEQ : Nat := 0x40120020
/-- R441; CFG, reset Image. -/
def PWR_USRBASE : Nat := 0x40120024
/-- R441; CFG, reset Image. -/
def PWR_USRSIZE : Nat := 0x40120028
/-- R441; RW, reset 0x0000_0000. -/
def PWR_NVMSRC : Nat := 0x4012002C
/-- R441; RW, reset 0x0000_0000. -/
def PWR_NVMDST : Nat := 0x40120030
/-- R441; RW, reset 0x0000_0000. -/
def PWR_NVMLEN : Nat := 0x40120034
/-- R441; PW, reset 0x0000_0000. -/
def PWR_NVMCMD : Nat := 0x40120038
/-- R441; RO, reset 0x0000_0000. -/
def PWR_NVMSTAT : Nat := 0x40120040
/-- R441; CFG, reset Image. -/
def PWR_TJCFG : Nat := 0x40120044
/-- R441; RO, reset 0x0000_0000. -/
def PWR_TJ : Nat := 0x40120048

/-! Block SEC -/

/-- R442; RO, reset 0x0000_0000. -/
def SEC_STAT : Nat := 0x40150000
/-- R442; RO, reset OTP. -/
def SEC_ARB : Nat := 0x40150004
/-- R442; RO, reset OTP. -/
def SEC_OTP : Nat := 0x40150008
/-- R442; RO, reset 0x0000_0000. -/
def SEC_DIGEST (i : Nat) : Nat := 0x40150020 + 0x4 * i
/-- R442; RW, reset 0x0000_0000. -/
def SEC_KHASH (i : Nat) : Nat := 0x40150040 + 0x4 * i
/-- R442; RW, reset 0x0000_0000. -/
def SEC_KCMD : Nat := 0x40150060

end Sys2Proof.Reg
end

