-- ==== Sys2Proof/Machine/RegTable.lean ====
section
/-! DEFINITION. The access table of the register space (R7, R443): one row per register or register array. -/

namespace Sys2Proof

/-- The access codes of R7. -/
inductive Access where
  | ro | rw | w1c | cfg | pw
  deriving DecidableEq, Repr

/-- One row of the register maps: the first address, the (stride, count) of each index outermost first, the access
code, the bits a write reaches (for W1C registers the flag bits), and whether the Reset column reads Image. -/
structure RegRow where
  base : Nat
  dims : List (Nat × Nat)
  acc  : Access
  mask : Nat
  image : Bool
  deriving DecidableEq, Repr

namespace Reg

def rowsBOB : List RegRow :=
  [⟨0x40010000, [(0x100, 4)], .pw, 0x17, true⟩,
   ⟨0x40010008, [(0x100, 4)], .ro, 0x73F, false⟩,
   ⟨0x40010010, [(0x100, 4)], .ro, 0xFFFFFFFF, false⟩,
   ⟨0x40010014, [(0x100, 4)], .ro, 0xFFFFFFFF, false⟩,
   ⟨0x40010018, [(0x100, 4)], .cfg, 0xFFFFFFFF, true⟩,
   ⟨0x4001001C, [(0x100, 4)], .cfg, 0xFFFFFFFF, true⟩,
   ⟨0x40010020, [(0x100, 4)], .cfg, 0xFFFFFFFF, true⟩,
   ⟨0x40010024, [(0x100, 4)], .cfg, 0xFFFFFFFF, true⟩,
   ⟨0x40010028, [(0x100, 4)], .cfg, 0xFFFFFFFF, true⟩,
   ⟨0x4001002C, [(0x100, 4)], .cfg, 0xFFFFFFFF, true⟩,
   ⟨0x40010030, [(0x100, 4)], .cfg, 0xFFFFFFFF, true⟩,
   ⟨0x40010034, [(0x100, 4)], .cfg, 0xFFF0377, true⟩,
   ⟨0x40010038, [(0x100, 4)], .cfg, 0xFFFFFFFF, true⟩,
   ⟨0x40010040, [(0x100, 4)], .ro, 0xFFFFFFFF, false⟩,
   ⟨0x40010044, [(0x100, 4)], .ro, 0xFFFFFFFF, false⟩,
   ⟨0x40010048, [(0x100, 4)], .ro, 0xFFFFFFFF, false⟩,
   ⟨0x4001004C, [(0x100, 4)], .ro, 0xFFFFFFFF, false⟩,
   ⟨0x40010050, [(0x100, 4)], .ro, 0xFFFFFFFF, false⟩,
   ⟨0x40010054, [(0x100, 4)], .w1c, 0x7, false⟩,
   ⟨0x40010058, [(0x100, 4)], .ro, 0xFFFFFFFF, false⟩,
   ⟨0x4001005C, [(0x100, 4)], .ro, 0xFFFFFFFF, false⟩,
   ⟨0x40010800, [], .ro, 0xFFFFFFFF, false⟩,
   ⟨0x40010804, [], .ro, 0xFFFFFFFF, false⟩,
   ⟨0x40010808, [], .ro, 0xFFFFFFFF, false⟩,
   ⟨0x4001080C, [], .ro, 0xFFFFFFFF, false⟩,
   ⟨0x40010810, [], .ro, 0xFFFFFFFF, false⟩,
   ⟨0x40010814, [], .ro, 0x3, false⟩]

def rowsDRM : List RegRow :=
  [⟨0x40030000, [(0x400, 4)], .pw, 0xFFFFFFFF, true⟩,
   ⟨0x40030008, [(0x400, 4)], .pw, 0xFFFFFFFF, true⟩,
   ⟨0x40030010, [(0x400, 4)], .pw, 0xFFFFFFFF, true⟩,
   ⟨0x40030018, [(0x400, 4)], .pw, 0xFFFFFFFF, true⟩,
   ⟨0x40030020, [(0x400, 4)], .pw, 0xFFFFFFFF, true⟩,
   ⟨0x40030028, [(0x400, 4)], .pw, 0xFFFFFFFF, true⟩,
   ⟨0x40030030, [(0x400, 4)], .pw, 0xFFFFFFFF, true⟩,
   ⟨0x40030038, [(0x400, 4)], .pw, 0x1, true⟩,
   ⟨0x40030040, [(0x400, 4)], .pw, 0xFFFFFFFF, false⟩,
   ⟨0x40030048, [(0x400, 4)], .pw, 0xFFFFFFFF, false⟩,
   ⟨0x40030080, [(0x400, 4)], .cfg, 0xFFFFFFFF, true⟩,
   ⟨0x40030084, [(0x400, 4)], .cfg, 0xFFFFFFFF, true⟩,
   ⟨0x40030088, [(0x400, 4)], .cfg, 0xFFFFFFFF, true⟩,
   ⟨0x4003008C, [(0x400, 4)], .cfg, 0xFFFFFFFF, true⟩,
   ⟨0x40030090, [(0x400, 4)], .cfg, 0xFFFFFFFF, true⟩,
   ⟨0x40030094, [(0x400, 4)], .cfg, 0xFFFFFFFF, true⟩,
   ⟨0x40030098, [(0x400, 4)], .cfg, 0xFFFFFFFF, true⟩,
   ⟨0x4003009C, [(0x400, 4)], .cfg, 0xFFFFFFFF, true⟩,
   ⟨0x400300A0, [(0x400, 4)], .cfg, 0xFFFFFFFF, true⟩,
   ⟨0x400300A4, [(0x400, 4)], .cfg, 0xFFFFFFFF, true⟩,
   ⟨0x400300A8, [(0x400, 4)], .cfg, 0xFFFFFFFF, true⟩,
   ⟨0x400300AC, [(0x400, 4)], .cfg, 0xFFFFFFFF, true⟩,
   ⟨0x400300B0, [(0x400, 4)], .cfg, 0xFFFFFFFF, true⟩,
   ⟨0x400300B4, [(0x400, 4)], .cfg, 0xFFFFFFFF, true⟩,
   ⟨0x400300B8, [(0x400, 4)], .cfg, 0xFFFFFFFF, true⟩,
   ⟨0x400300BC, [(0x400, 4)], .cfg, 0xFFFFFFFF, true⟩,
   ⟨0x400300C0, [(0x400, 4)], .cfg, 0xFFFFFFFF, true⟩,
   ⟨0x400300C4, [(0x400, 4)], .cfg, 0x3F, true⟩,
   ⟨0x400300C8, [(0x400, 4)], .cfg, 0x3F3F3F, true⟩,
   ⟨0x400300CC, [(0x400, 4)], .cfg, 0x3F3F3F, true⟩,
   ⟨0x400300D0, [(0x400, 4)], .cfg, 0xFFFFFFFF, true⟩,
   ⟨0x400300D4, [(0x400, 4)], .cfg, 0xFFFFFFFF, true⟩,
   ⟨0x400300D8, [(0x400, 4)], .cfg, 0xFFFFFFFF, true⟩,
   ⟨0x400300DC, [(0x400, 4)], .cfg, 0x1FFFF, true⟩,
   ⟨0x400300E0, [(0x400, 4)], .cfg, 0xFFFFFFFF, true⟩,
   ⟨0x400300E4, [(0x400, 4)], .cfg, 0xFFFFFFFF, true⟩,
   ⟨0x400300E8, [(0x400, 4)], .cfg, 0xFFFFFFFF, true⟩,
   ⟨0x400300EC, [(0x400, 4)], .cfg, 0xFFFFFFFF, true⟩,
   ⟨0x400300F0, [(0x400, 4)], .cfg, 0xFFFFFFFF, true⟩,
   ⟨0x400300F4, [(0x400, 4)], .cfg, 0xFFFFFFFF, true⟩,
   ⟨0x400300F8, [(0x400, 4)], .cfg, 0xFFFFFFFF, true⟩,
   ⟨0x400300FC, [(0x400, 4)], .cfg, 0xFFFFFFFF, true⟩,
   ⟨0x40030100, [(0x400, 4)], .cfg, 0xFFFFFFFF, true⟩,
   ⟨0x40030180, [(0x400, 4)], .ro, 0xFFFFFFFF, false⟩,
   ⟨0x40030184, [(0x400, 4)], .ro, 0xFFFFFFFF, false⟩,
   ⟨0x40030188, [(0x400, 4)], .ro, 0xFFFFFFFF, false⟩,
   ⟨0x4003018C, [(0x400, 4)], .ro, 0xFFFFFFFF, false⟩,
   ⟨0x40030190, [(0x400, 4)], .ro, 0xFFFFFFFF, false⟩,
   ⟨0x40030194, [(0x400, 4)], .ro, 0xFFFFFFFF, false⟩,
   ⟨0x40030198, [(0x400, 4)], .ro, 0xFFFFFFFF, false⟩,
   ⟨0x400301A0, [(0x400, 4)], .ro, 0xFFFFFFFF, false⟩,
   ⟨0x400301A4, [(0x400, 4)], .ro, 0xFFFFFFFF, false⟩,
   ⟨0x400301A8, [(0x400, 4)], .ro, 0xFFFFFFFF, false⟩,
   ⟨0x400301AC, [(0x400, 4)], .ro, 0xFFFFFFFF, false⟩,
   ⟨0x400301B0, [(0x400, 4)], .ro, 0xFFFFFFFF, false⟩,
   ⟨0x400301B4, [(0x400, 4)], .ro, 0xFFFFFFFF, false⟩,
   ⟨0x400301B8, [(0x400, 4)], .ro, 0xFFFFFFFF, false⟩,
   ⟨0x400301BC, [(0x400, 4)], .ro, 0xFFFFFFFF, false⟩,
   ⟨0x400301C0, [(0x400, 4)], .ro, 0xFFFFFFFF, false⟩,
   ⟨0x400301C4, [(0x400, 4)], .ro, 0xFFFFFFFF, false⟩,
   ⟨0x400301C8, [(0x400, 4)], .ro, 0xFFFFFFFF, false⟩,
   ⟨0x400301CC, [(0x400, 4)], .ro, 0xFFFFFFFF, false⟩,
   ⟨0x400301D0, [(0x400, 4)], .ro, 0x3F, false⟩,
   ⟨0x400301D4, [(0x400, 4)], .w1c, 0x1F, false⟩,
   ⟨0x400301D8, [(0x400, 4)], .ro, 0xF, false⟩,
   ⟨0x40030050, [(0x400, 4)], .pw, 0xF, false⟩,
   ⟨0x40030200, [(0x400, 4)], .cfg, 0x3FFFFF, true⟩,
   ⟨0x40030204, [(0x400, 4)], .cfg, 0xFFFFFFFF, true⟩,
   ⟨0x40030208, [(0x400, 4)], .cfg, 0xFFFFFFFF, true⟩,
   ⟨0x4003020C, [(0x400, 4)], .cfg, 0xFFFFFFFF, true⟩,
   ⟨0x40030210, [(0x400, 4)], .cfg, 0xFFFFFFFF, true⟩,
   ⟨0x40030214, [(0x400, 4)], .cfg, 0xFFFFFFFF, true⟩,
   ⟨0x40030218, [(0x400, 4)], .cfg, 0xFFFFFFFF, true⟩,
   ⟨0x4003021C, [(0x400, 4)], .cfg, 0xFFFFFFFF, true⟩,
   ⟨0x40030220, [(0x400, 4)], .cfg, 0xFFFFFFFF, true⟩,
   ⟨0x40030224, [(0x400, 4)], .cfg, 0xFFFFFFFF, true⟩,
   ⟨0x40030228, [(0x400, 4)], .cfg, 0xFFFFFFFF, true⟩,
   ⟨0x4003022C, [(0x400, 4)], .cfg, 0xFFFFFFFF, true⟩,
   ⟨0x40030230, [(0x400, 4)], .cfg, 0xFFFFFFFF, true⟩,
   ⟨0x40030234, [(0x400, 4)], .cfg, 0xFFFFFFFF, true⟩,
   ⟨0x40030238, [(0x400, 4)], .cfg, 0xFFFFFFFF, true⟩,
   ⟨0x4003023C, [(0x400, 4)], .cfg, 0xFFFFFFFF, true⟩,
   ⟨0x40030240, [(0x400, 4)], .cfg, 0xFFFFFFFF, true⟩,
   ⟨0x40030244, [(0x400, 4)], .cfg, 0x3F3F3F, true⟩,
   ⟨0x40030248, [(0x400, 4)], .cfg, 0xFFFF3F3F, true⟩,
   ⟨0x4003024C, [(0x400, 4)], .cfg, 0xFFFFFFFF, true⟩,
   ⟨0x40030250, [(0x400, 4)], .cfg, 0xFFFFFFFF, true⟩,
   ⟨0x40030254, [(0x400, 4)], .cfg, 0xFFFFFFFF, true⟩,
   ⟨0x40030258, [(0x400, 4)], .cfg, 0xFFFFFFFF, true⟩,
   ⟨0x4003025C, [(0x400, 4)], .cfg, 0xFFFFFFFF, true⟩,
   ⟨0x40030260, [(0x400, 4)], .cfg, 0xFFFFFFFF, true⟩,
   ⟨0x40030280, [(0x400, 4), (0x4, 16)], .cfg, 0xFFFFFFFF, true⟩,
   ⟨0x400302C0, [(0x400, 4), (0x4, 16)], .cfg, 0xFFFFFFFF, true⟩,
   ⟨0x40030300, [(0x400, 4)], .ro, 0x7FF, false⟩,
   ⟨0x40030304, [(0x400, 4)], .ro, 0x1F1F07, false⟩,
   ⟨0x40030308, [(0x400, 4)], .ro, 0xFFFFFFFF, false⟩,
   ⟨0x4003030C, [(0x400, 4)], .ro, 0xFFFFFFFF, false⟩,
   ⟨0x40030310, [(0x400, 4)], .ro, 0xFFFFFFFF, false⟩,
   ⟨0x40030314, [(0x400, 4)], .ro, 0xFFFFFFFF, false⟩,
   ⟨0x40030318, [(0x400, 4)], .ro, 0xFFFFFFFF, false⟩,
   ⟨0x4003031C, [(0x400, 4)], .ro, 0xFFFFFFFF, false⟩,
   ⟨0x40030320, [(0x400, 4)], .ro, 0xFFFFFFFF, false⟩,
   ⟨0x40030324, [(0x400, 4)], .ro, 0xFFFFFFFF, false⟩,
   ⟨0x40030328, [(0x400, 4)], .ro, 0xFFFFFFFF, false⟩,
   ⟨0x4003032C, [(0x400, 4)], .ro, 0xFFFFFFFF, false⟩]

def rowsSTI : List RegRow :=
  [⟨0x40040000, [(0x40, 128)], .cfg, 0xFFFF0FFF, true⟩,
   ⟨0x40040004, [(0x40, 128)], .cfg, 0x3F33FFF7, true⟩,
   ⟨0x40040008, [(0x40, 128)], .cfg, 0xFFFFFFFF, true⟩,
   ⟨0x4004000C, [(0x40, 128)], .cfg, 0xFFFFFFFF, true⟩,
   ⟨0x40040010, [(0x40, 128)], .cfg, 0xFFFFFFFF, true⟩,
   ⟨0x40040014, [(0x40, 128)], .cfg, 0xFFFFFFFF, true⟩,
   ⟨0x40040018, [(0x40, 128)], .cfg, 0xFFFFFFFF, true⟩,
   ⟨0x4004001C, [(0x40, 128)], .cfg, 0xFFFFFFFF, true⟩,
   ⟨0x40040020, [(0x40, 128)], .cfg, 0xFFFFFFFF, true⟩,
   ⟨0x40040024, [(0x40, 128)], .cfg, 0x7F0F, true⟩,
   ⟨0x40040028, [(0x40, 128)], .ro, 0xFFFFFFFF, false⟩,
   ⟨0x4004002C, [(0x40, 128)], .ro, 0xFFFFFFFF, false⟩,
   ⟨0x40040030, [(0x40, 128)], .ro, 0xFF, false⟩,
   ⟨0x40040034, [(0x40, 128)], .ro, 0xFFFFFFFF, false⟩,
   ⟨0x40040038, [(0x40, 128)], .w1c, 0xF, false⟩,
   ⟨0x4004003C, [(0x40, 128)], .cfg, 0xFFFFFFFF, true⟩,
   ⟨0x40042000, [(0x80, 128), (0x20, 4)], .cfg, 0xFFFFFFFF, true⟩,
   ⟨0x40042004, [(0x80, 128), (0x20, 4)], .cfg, 0xFFFFFFFF, true⟩,
   ⟨0x40042008, [(0x80, 128), (0x20, 4)], .cfg, 0xFFFFFFFF, true⟩,
   ⟨0x4004200C, [(0x80, 128), (0x20, 4)], .cfg, 0xFFFFFFFF, true⟩,
   ⟨0x40042010, [(0x80, 128), (0x20, 4)], .cfg, 0xFFFFFFFF, true⟩,
   ⟨0x40042014, [(0x80, 128), (0x20, 4)], .cfg, 0xFFFFFFFF, true⟩,
   ⟨0x40042018, [(0x80, 128), (0x20, 4)], .cfg, 0xFFFFFFFF, true⟩,
   ⟨0x4004201C, [(0x80, 128), (0x20, 4)], .cfg, 0x17, true⟩,
   ⟨0x40046000, [(0x20, 128)], .pw, 0xFFFFFFFF, true⟩,
   ⟨0x40046008, [(0x20, 128)], .pw, 0xFFFFFFFF, true⟩,
   ⟨0x40046010, [(0x20, 128)], .cfg, 0xFFFFFFFF, true⟩,
   ⟨0x40046014, [(0x20, 128)], .cfg, 0xFFFFFFFF, true⟩,
   ⟨0x40047000, [(0x40, 4)], .pw, 0x13, false⟩,
   ⟨0x40047008, [(0x40, 4)], .pw, 0x17F, false⟩,
   ⟨0x40047010, [(0x40, 4)], .cfg, 0xFFFF, true⟩,
   ⟨0x40047014, [(0x40, 4)], .ro, 0x1FF, false⟩,
   ⟨0x40047018, [(0x40, 4)], .ro, 0xFFFFFFFF, false⟩,
   ⟨0x4004701C, [(0x40, 4)], .ro, 0x7F7, false⟩,
   ⟨0x40047020, [(0x40, 4)], .ro, 0xFFFFFFFF, false⟩,
   ⟨0x40047024, [(0x40, 4)], .w1c, 0x7, false⟩,
   ⟨0x40047100, [], .ro, 0xF, false⟩,
   ⟨0x40047104, [], .ro, 0xFFFFFFFF, false⟩,
   ⟨0x40047108, [], .w1c, 0x3, false⟩]

def rowsTCK : List RegRow :=
  [⟨0x40020000, [], .rw, 0xF1F, false⟩,
   ⟨0x40020004, [(0x4, 4)], .rw, 0xFFFFFFFF, false⟩,
   ⟨0x40020014, [], .rw, 0xFFFF, false⟩,
   ⟨0x40020018, [], .rw, 0xFFFFFFFF, false⟩,
   ⟨0x4002001C, [], .rw, 0, false⟩,
   ⟨0x40020020, [], .pw, 0x3FFF, false⟩,
   ⟨0x40020028, [], .ro, 0xFFFFF, false⟩,
   ⟨0x40020030, [], .ro, 0xFFFFFFFF, false⟩,
   ⟨0x40020034, [], .ro, 0xFFFFFFFF, false⟩,
   ⟨0x40020040, [], .rw, 0xFFF, false⟩,
   ⟨0x40020060, [(0x4, 8)], .ro, 0xFFFFFFFF, false⟩,
   ⟨0x40020080, [], .pw, 0x3F7, false⟩,
   ⟨0x40020088, [], .rw, 0xFFF0FFF, false⟩,
   ⟨0x4002008C, [], .rw, 0xFFFFF, false⟩,
   ⟨0x40020090, [], .ro, 0x3F, false⟩,
   ⟨0x400200A0, [(0x4, 8)], .ro, 0xFFFFF3FF, false⟩,
   ⟨0x400200C0, [(0x4, 8)], .ro, 0xFFFFFFFF, false⟩,
   ⟨0x400200E0, [], .ro, 0x3FFFFFFF, false⟩,
   ⟨0x400200E4, [(0x4, 4)], .ro, 0xFFFFFFFF, false⟩,
   ⟨0x400200F4, [], .cfg, 0xFFFFFFFF, true⟩,
   ⟨0x400200F8, [], .ro, 0xFFFFFFFF, false⟩,
   ⟨0x400200FC, [], .w1c, 0x7, false⟩,
   ⟨0x40020100, [], .ro, 0xFFFFFFFF, false⟩]

def rowsPGN : List RegRow :=
  [⟨0x40050000, [(0x40, 16)], .cfg, 0x7, true⟩,
   ⟨0x40050004, [(0x40, 16)], .ro, 0xFFFFFFFF, false⟩,
   ⟨0x40050008, [(0x40, 16)], .ro, 0xFFFFFFFF, false⟩,
   ⟨0x4005000C, [(0x40, 16)], .ro, 0x1FF, false⟩,
   ⟨0x40050400, [(0x40, 16), (0x10, 4)], .cfg, 0x1F7FF7, true⟩,
   ⟨0x40050404, [(0x40, 16), (0x10, 4)], .cfg, 0xFFFFFFFF, true⟩,
   ⟨0x40050408, [(0x40, 16), (0x10, 4)], .cfg, 0xFFFF, true⟩,
   ⟨0x4005040C, [(0x40, 16), (0x10, 4)], .cfg, 0x7FFFFFFF, true⟩,
   ⟨0x40052000, [(0x40, 104)], .cfg, 0xF7F, true⟩,
   ⟨0x40052004, [(0x40, 104)], .cfg, 0x1FFFF, true⟩,
   ⟨0x40052008, [(0x40, 104)], .cfg, 0x1FFFF, true⟩,
   ⟨0x4005200C, [(0x40, 104)], .cfg, 0xFFFF, true⟩,
   ⟨0x40052010, [(0x40, 104)], .cfg, 0x1FFFF, true⟩,
   ⟨0x40052014, [(0x40, 104)], .cfg, 0xFFFF, true⟩,
   ⟨0x40052018, [(0x40, 104)], .cfg, 0xFFFF, true⟩,
   ⟨0x4005201C, [(0x40, 104)], .cfg, 0x1FFFF, true⟩,
   ⟨0x40052020, [(0x40, 104)], .ro, 0xFFFFFFFF, false⟩,
   ⟨0x40052024, [(0x40, 104)], .ro, 0xFFFFFFFF, false⟩,
   ⟨0x40052028, [(0x40, 104)], .ro, 0xFFFFFFFF, false⟩,
   ⟨0x4005202C, [(0x40, 104)], .ro, 0xFFFF0FFB, false⟩,
   ⟨0x40052030, [(0x40, 104)], .w1c, 0xFF, false⟩,
   ⟨0x40052034, [(0x40, 104)], .ro, 0xFFFFFFFF, false⟩,
   ⟨0x40054000, [(0x40, 4)], .pw, 0x3, false⟩,
   ⟨0x40054008, [(0x40, 4)], .cfg, 0xFFFF, true⟩,
   ⟨0x4005400C, [(0x40, 4)], .ro, 0x1F, false⟩,
   ⟨0x40054010, [(0x40, 4)], .ro, 0x7, false⟩,
   ⟨0x40054014, [(0x40, 4)], .w1c, 0xF, false⟩,
   ⟨0x40054100, [], .pw, 0xFFFFFFFF, false⟩,
   ⟨0x40054108, [], .ro, 0xFFFFFFFF, false⟩,
   ⟨0x40051000, [(0x100, 16), (0x4, 64)], .cfg, 0xFFFF, true⟩]

def rowsLLK : List RegRow :=
  [⟨0x40060000, [(0x80, 24)], .cfg, 0xFFFFFFF3, true⟩,
   ⟨0x40060004, [(0x80, 24)], .cfg, 0xFFFF, true⟩,
   ⟨0x40060008, [(0x80, 24)], .cfg, 0xFFFF, true⟩,
   ⟨0x4006000C, [(0x80, 24)], .cfg, 0xFFFF, true⟩,
   ⟨0x40060010, [(0x80, 24)], .cfg, 0xFFFFFFFF, true⟩,
   ⟨0x40060014, [(0x80, 24)], .cfg, 0xFFFF0FFF, true⟩,
   ⟨0x40060018, [(0x80, 24)], .cfg, 0x3FFFFF, true⟩,
   ⟨0x4006001C, [(0x80, 24)], .cfg, 0x3FFFFF, true⟩,
   ⟨0x40060020, [(0x80, 24)], .cfg, 0xFFFFFFFF, true⟩,
   ⟨0x40060024, [(0x80, 24)], .cfg, 0xFFFFFF, true⟩,
   ⟨0x40060028, [(0x80, 24)], .ro, 0xFFFFF1F, false⟩,
   ⟨0x4006002C, [(0x80, 24)], .ro, 0xFFFFFFFF, false⟩,
   ⟨0x40060030, [(0x80, 24)], .ro, 0xFFFFFFFF, false⟩,
   ⟨0x40060034, [(0x80, 24)], .ro, 0xFFFFFFFF, false⟩,
   ⟨0x40060038, [(0x80, 24)], .ro, 0xFFFFFFFF, false⟩,
   ⟨0x4006003C, [(0x80, 24)], .ro, 0xFFFFFFFF, false⟩,
   ⟨0x40060040, [(0x80, 24)], .ro, 0xFFFFFFFF, false⟩,
   ⟨0x40060044, [(0x80, 24)], .ro, 0xFFFFFFFF, false⟩,
   ⟨0x40060048, [(0x80, 24)], .ro, 0xFFFFFFFF, false⟩,
   ⟨0x4006004C, [(0x80, 24)], .w1c, 0x1FF, false⟩,
   ⟨0x40060050, [(0x80, 24)], .cfg, 0xFF, true⟩,
   ⟨0x40064000, [], .ro, 0xFFFFFFFF, false⟩,
   ⟨0x40064004, [], .ro, 0xFFFFFFFF, false⟩,
   ⟨0x40064008, [], .w1c, 0xFFFFFF, false⟩,
   ⟨0x40061000, [(0x80, 96), (0x40, 2), (0x20, 2), (0x4, 8)], .ro, 0xFFFFFFFF, false⟩]

def rowsEVT : List RegRow :=
  [⟨0x40130000, [], .cfg, 0xFFFFFFFF, true⟩,
   ⟨0x40130004, [], .cfg, 0x1F, true⟩,
   ⟨0x40130008, [], .ro, 0xFFFFFFFF, false⟩,
   ⟨0x4013000C, [], .rw, 0xFFFFFFFF, false⟩,
   ⟨0x40130010, [], .ro, 0xFFFFFFFF, false⟩,
   ⟨0x40130014, [], .ro, 0xFFFFFFFF, false⟩,
   ⟨0x40130018, [], .ro, 0x1FF, false⟩,
   ⟨0x4013001C, [], .w1c, 0xF, false⟩,
   ⟨0x40130020, [], .pw, 0x103, false⟩,
   ⟨0x40130028, [], .ro, 0x7FF, false⟩,
   ⟨0x40130030, [], .rw, 0xFFFF, false⟩,
   ⟨0x40130034, [], .ro, 0xFFFFFFFF, false⟩,
   ⟨0x40130038, [], .ro, 0xFFFFFFFF, false⟩]

def rowsTMB : List RegRow :=
  [⟨0x40140000, [], .rw, 0x1F, false⟩,
   ⟨0x40140004, [], .ro, 0x7, false⟩,
   ⟨0x40140008, [], .rw, 0xFFFF003F, false⟩,
   ⟨0x4014000C, [], .rw, 0xFFFF001F, false⟩,
   ⟨0x40140010, [], .rw, 0xFFFFFF0F, false⟩,
   ⟨0x40140014, [], .rw, 0xFFFF007F, false⟩,
   ⟨0x40140018, [], .rw, 0xFFFF0003, false⟩]

def rowsPRT : List RegRow :=
  [⟨0x40070000, [(0x20, 8)], .cfg, 0xF, true⟩,
   ⟨0x40070004, [(0x20, 8)], .cfg, 0xFFFFFFFF, true⟩,
   ⟨0x40070008, [(0x20, 8)], .cfg, 0xFFFFFFFF, true⟩,
   ⟨0x4007000C, [(0x20, 8)], .cfg, 0xFFFFFFFF, true⟩,
   ⟨0x40070010, [(0x20, 8)], .cfg, 0xFF, true⟩,
   ⟨0x40070400, [(0x20, 48)], .cfg, 0x7FFF, true⟩,
   ⟨0x40070404, [(0x20, 48)], .cfg, 0x3FF03FF, true⟩,
   ⟨0x40070408, [(0x20, 48)], .cfg, 0x7FFF, true⟩,
   ⟨0x4007040C, [(0x20, 48)], .ro, 0x1F, false⟩,
   ⟨0x40070410, [(0x20, 48)], .w1c, 0xF, false⟩,
   ⟨0x40071000, [], .w1c, 0xFF, false⟩,
   ⟨0x40071004, [], .ro, 0xFFFFFFFF, false⟩,
   ⟨0x40071008, [], .w1c, 0xFFFFFFFF, false⟩,
   ⟨0x4007100C, [], .w1c, 0xFFFF, false⟩,
   ⟨0x40071010, [], .w1c, 0xFFFFFFFF, false⟩,
   ⟨0x40071014, [], .w1c, 0xFFFFFFFF, false⟩,
   ⟨0x40071018, [], .w1c, 0xFFFFFFFF, false⟩,
   ⟨0x4007101C, [], .cfg, 0xFFFF0003, true⟩,
   ⟨0x40071020, [], .cfg, 0xFFFFFF, true⟩,
   ⟨0x40071024, [], .ro, 0xFFF, false⟩,
   ⟨0x40071028, [], .w1c, 0x3F, false⟩,
   ⟨0x4007102C, [], .ro, 0x1FF, false⟩]

def rowsADC : List RegRow :=
  [⟨0x40080000, [(0x400, 4)], .cfg, 0x1, true⟩,
   ⟨0x40080004, [(0x400, 4)], .cfg, 0xFFFFFFFF, true⟩,
   ⟨0x40080008, [(0x400, 4)], .cfg, 0xFFFFFFFF, true⟩,
   ⟨0x4008000C, [(0x400, 4)], .cfg, 0xFFFFFF, true⟩,
   ⟨0x40080010, [(0x400, 4)], .ro, 0xFFFFF, false⟩,
   ⟨0x40080014, [(0x400, 4)], .w1c, 0xF, false⟩,
   ⟨0x40080018, [(0x400, 4)], .ro, 0xFFFFFFFF, false⟩,
   ⟨0x4008001C, [(0x400, 4)], .ro, 0xFFFFFFFF, false⟩,
   ⟨0x40080020, [(0x400, 4)], .ro, 0xFFFFFFFF, false⟩,
   ⟨0x40080024, [(0x400, 4)], .ro, 0xFFFFFFFF, false⟩,
   ⟨0x40080300, [(0x400, 4), (0x20, 5)], .ro, 0xFFFFFFFF, false⟩,
   ⟨0x40080304, [(0x400, 4), (0x20, 5)], .ro, 0xFFFFFFFF, false⟩,
   ⟨0x40080308, [(0x400, 4), (0x20, 5)], .ro, 0xFFFFFFFF, false⟩,
   ⟨0x4008030C, [(0x400, 4), (0x20, 5)], .ro, 0xFFFFFFFF, false⟩,
   ⟨0x40080310, [(0x400, 4), (0x20, 5)], .w1c, 0x7, false⟩,
   ⟨0x40081000, [(0x10, 48)], .ro, 0xFFFFFFFF, false⟩,
   ⟨0x40081004, [(0x10, 48)], .w1c, 0x1, false⟩,
   ⟨0x40081400, [(0x10, 16)], .ro, 0xFFFFFFFF, false⟩,
   ⟨0x40081404, [(0x10, 16)], .cfg, 0xFFFFFFFF, true⟩,
   ⟨0x40081408, [(0x10, 16)], .w1c, 0x3, false⟩,
   ⟨0x40081800, [], .ro, 0xFFFFFFFF, false⟩,
   ⟨0x40081804, [], .w1c, 0x1, false⟩,
   ⟨0x40080100, [(0x400, 4), (0x10, 32)], .cfg, 0xFFFF07FF, true⟩,
   ⟨0x40080104, [(0x400, 4), (0x10, 32)], .cfg, 0xF1F0F1F, true⟩,
   ⟨0x40080108, [(0x400, 4), (0x10, 32)], .cfg, 0xF1F0F1F, true⟩]

def rowsRNS : List RegRow :=
  [⟨0x40090000, [(0x80, 64)], .cfg, 0x3FFF, true⟩,
   ⟨0x40090004, [(0x80, 64)], .cfg, 0x7FFFFFF, true⟩,
   ⟨0x40090008, [(0x80, 64)], .cfg, 0x3FFFF, true⟩,
   ⟨0x4009000C, [(0x80, 64)], .cfg, 0xFFFFFFF, true⟩,
   ⟨0x40090010, [(0x80, 64)], .cfg, 0xFFFFFFF, true⟩,
   ⟨0x40090014, [(0x80, 64)], .cfg, 0xFFFFFFFF, true⟩,
   ⟨0x40090018, [(0x80, 64)], .cfg, 0xFFFFFFFF, true⟩,
   ⟨0x4009001C, [(0x80, 64)], .cfg, 0xFFFFFF, true⟩,
   ⟨0x40090020, [(0x80, 64)], .cfg, 0xFFFFFFFF, true⟩,
   ⟨0x40090024, [(0x80, 64)], .cfg, 0x3F, true⟩,
   ⟨0x40090028, [(0x80, 64)], .ro, 0xFFFFFFFF, false⟩,
   ⟨0x4009002C, [(0x80, 64)], .rw, 0xFFFFFFFF, false⟩,
   ⟨0x40090030, [(0x80, 64)], .ro, 0xFFFFFF1F, false⟩,
   ⟨0x40090034, [(0x80, 64)], .w1c, 0xFF, false⟩,
   ⟨0x40090038, [(0x80, 64)], .ro, 0xFFFFFFFF, false⟩,
   ⟨0x4009003C, [(0x80, 64)], .ro, 0xFFFFFFFF, false⟩,
   ⟨0x40090040, [(0x80, 64)], .ro, 0xFFFFFFFF, false⟩,
   ⟨0x40090044, [(0x80, 64)], .ro, 0xFFFFFFFF, false⟩,
   ⟨0x40090048, [(0x80, 64)], .ro, 0xFFFFFFFF, false⟩,
   ⟨0x4009004C, [(0x80, 64)], .ro, 0xFFFFFFFF, false⟩,
   ⟨0x40092000, [], .ro, 0xFFFFFFFF, false⟩,
   ⟨0x40092004, [], .ro, 0xFFFFFFFF, false⟩,
   ⟨0x40092008, [], .ro, 0xFFFFFFFF, false⟩,
   ⟨0x4009200C, [], .ro, 0xFFFFFFFF, false⟩,
   ⟨0x40092010, [], .ro, 0xFFFFFFFF, false⟩]

def rowsHMP : List RegRow :=
  [⟨0x400A0000, [], .pw, 0x7, false⟩,
   ⟨0x400A0008, [], .ro, 0x7FF, false⟩,
   ⟨0x400A000C, [], .w1c, 0x7F, false⟩,
   ⟨0x400A0010, [], .ro, 0xFFFFFFFF, false⟩,
   ⟨0x400A0014, [], .ro, 0xFFFFFFFF, false⟩,
   ⟨0x400A0018, [(0x4, 4)], .ro, 0xFFFFFFFF, false⟩,
   ⟨0x400A0028, [], .cfg, 0xFFFFFF0F, true⟩,
   ⟨0x400A002C, [], .ro, 0xFFFF0003, false⟩,
   ⟨0x400A0030, [], .ro, 0xFFFFFFFF, false⟩,
   ⟨0x400A0034, [], .ro, 0xFFFFFFFF, false⟩,
   ⟨0x400A0038, [], .rw, 0xFFFFFFFF, false⟩,
   ⟨0x400A003C, [], .ro, 0xFFFFFFFF, false⟩,
   ⟨0x400A0040, [], .ro, 0xFFFFFFFF, false⟩,
   ⟨0x400A0044, [(0x4, 4)], .ro, 0xFFFFFFFF, false⟩,
   ⟨0x400A0300, [(0x10, 16)], .cfg, 0x1FF, true⟩,
   ⟨0x400A0304, [(0x10, 16)], .cfg, 0xFFFFFF, true⟩,
   ⟨0x400A0308, [(0x10, 16)], .cfg, 0x7FFFFF, true⟩,
   ⟨0x400A1000, [(0x40, 64)], .cfg, 0x3FFFF, true⟩,
   ⟨0x400A1004, [(0x40, 64)], .cfg, 0xFFFFFFFF, true⟩,
   ⟨0x400A1008, [(0x40, 64)], .cfg, 0xFFFFFFFF, true⟩,
   ⟨0x400A100C, [(0x40, 64)], .cfg, 0xFFFFFFFF, true⟩,
   ⟨0x400A1010, [(0x40, 64)], .pw, 0xFFFFFF, true⟩,
   ⟨0x400A1018, [(0x40, 64)], .cfg, 0xFFFFFF, true⟩,
   ⟨0x400A101C, [(0x40, 64)], .ro, 0x7F, false⟩,
   ⟨0x400A1020, [(0x40, 64)], .ro, 0xFFFFFFFF, false⟩,
   ⟨0x400A1024, [(0x40, 64)], .ro, 0xFFFFFFFF, false⟩,
   ⟨0x400A1028, [(0x40, 64)], .ro, 0xFFFFFFFF, false⟩,
   ⟨0x400A102C, [(0x40, 64)], .ro, 0xFFFFFFFF, false⟩,
   ⟨0x400A1030, [(0x40, 64)], .ro, 0xFFFFFFFF, false⟩,
   ⟨0x400A0100, [(0x8, 8)], .cfg, 0x1FFFFF, true⟩,
   ⟨0x400A0104, [(0x8, 8)], .cfg, 0x1FFFFF, true⟩,
   ⟨0x400A0200, [(0x4, 4)], .cfg, 0xFFFFFFFF, true⟩,
   ⟨0x400A0210, [(0x4, 4)], .cfg, 0xFFFFFFFF, true⟩]

def rowsMEM : List RegRow :=
  [⟨0x400C0000, [], .cfg, 0xFFFF07, true⟩,
   ⟨0x400C0004, [], .ro, 0x3FFF, false⟩,
   ⟨0x400C0008, [], .w1c, 0x1F, false⟩,
   ⟨0x400C000C, [], .ro, 0xFFFFFFFF, false⟩,
   ⟨0x400C0010, [], .ro, 0xFFFFFFFF, false⟩,
   ⟨0x400C0020, [(0x4, 12)], .ro, 0xFFFFFFFF, false⟩,
   ⟨0x400C0060, [], .ro, 0xFFFFFFFF, false⟩,
   ⟨0x400C0064, [], .ro, 0xFFFFFFFF, false⟩]

def rowsDMA : List RegRow :=
  [⟨0x400B0000, [(0x40, 16)], .cfg, 0xFFF, true⟩,
   ⟨0x400B0004, [(0x40, 16)], .cfg, 0xFFFFFFFF, true⟩,
   ⟨0x400B0008, [(0x40, 16)], .cfg, 0xFFFFFF, true⟩,
   ⟨0x400B000C, [(0x40, 16)], .cfg, 0xFFFFFFFF, true⟩,
   ⟨0x400B0010, [(0x40, 16)], .cfg, 0x1FFFFFF, true⟩,
   ⟨0x400B0018, [(0x40, 16)], .pw, 0x3, false⟩,
   ⟨0x400B0020, [(0x40, 16)], .ro, 0xFFF, false⟩,
   ⟨0x400B0024, [(0x40, 16)], .w1c, 0xF, false⟩,
   ⟨0x400B0028, [(0x40, 16)], .ro, 0xFFFFFFFF, false⟩,
   ⟨0x400B002C, [(0x40, 16)], .ro, 0xFFFFFFFF, false⟩,
   ⟨0x400B0800, [], .ro, 0xFFFFFFFF, false⟩,
   ⟨0x400B0804, [], .ro, 0xFFFFFFFF, false⟩]

def rowsCYC : List RegRow :=
  [⟨0x400D0000, [], .cfg, 0x3FFFF, true⟩,
   ⟨0x400D0004, [], .ro, 0x1FF, false⟩,
   ⟨0x400D0008, [], .w1c, 0x1F, false⟩,
   ⟨0x400D000C, [], .cfg, 0xFFFFFFFF, true⟩,
   ⟨0x400D0010, [], .pw, 0x3, false⟩,
   ⟨0x400D0018, [], .ro, 0xFFFFFFFF, false⟩,
   ⟨0x400D001C, [], .cfg, 0xFFFFFF, true⟩,
   ⟨0x400D0020, [], .rw, 0xFFFFFFFF, false⟩,
   ⟨0x400D0024, [], .ro, 0xFFFFFFFF, false⟩,
   ⟨0x400D0028, [], .pw, 0x1, false⟩,
   ⟨0x400D0030, [], .rw, 0xFFFFFFFF, false⟩,
   ⟨0x400D0034, [], .rw, 0xFFFFFFFF, false⟩,
   ⟨0x400D0038, [], .rw, 0xFFFFFFFF, false⟩,
   ⟨0x400D003C, [], .ro, 0x3FF, false⟩,
   ⟨0x400D0040, [], .pw, 0x1FF, false⟩,
   ⟨0x400D0048, [], .ro, 0xFFFFFFFF, false⟩,
   ⟨0x400D004C, [], .ro, 0xFFFFFFFF, false⟩,
   ⟨0x400D0100, [(0x20, 16)], .cfg, 0xF1, true⟩,
   ⟨0x400D0104, [(0x20, 16)], .cfg, 0xFFFFFF, true⟩,
   ⟨0x400D0108, [(0x20, 16)], .cfg, 0xFFFFFF, true⟩,
   ⟨0x400D010C, [(0x20, 16)], .ro, 0xFFFFFFFF, false⟩,
   ⟨0x400D0110, [(0x20, 16)], .ro, 0xFFFFFFFF, false⟩,
   ⟨0x400D0114, [(0x20, 16)], .ro, 0xFFFFFFFF, false⟩,
   ⟨0x400D0118, [(0x20, 16)], .ro, 0xFFFFFFFF, false⟩,
   ⟨0x400D0400, [(0x10, 64)], .cfg, 0x7FFFFFF, true⟩,
   ⟨0x400D0404, [(0x10, 64)], .ro, 0xFFFFFFFF, false⟩]

def rowsSPN : List RegRow :=
  [⟨0x400E0000, [], .cfg, 0xFFFFFFFF, true⟩,
   ⟨0x400E0004, [], .cfg, 0xFFFF, true⟩,
   ⟨0x400E0008, [], .cfg, 0xFFFFFFFF, true⟩,
   ⟨0x400E000C, [], .cfg, 0xFFFF, true⟩,
   ⟨0x400E0010, [], .cfg, 0xFFFFFFFF, true⟩,
   ⟨0x400E0014, [], .cfg, 0xFFFF, true⟩,
   ⟨0x400E0018, [], .cfg, 0xFF01FFFF, true⟩,
   ⟨0x400E001C, [], .cfg, 0xFFFFFF, true⟩,
   ⟨0x400E0020, [], .cfg, 0x3FFF, true⟩,
   ⟨0x400E0024, [], .cfg, 0xFFFFFFFF, true⟩,
   ⟨0x400E0028, [], .cfg, 0xFFFFFFFF, true⟩,
   ⟨0x400E002C, [], .cfg, 0xFFFFFFFF, true⟩,
   ⟨0x400E0030, [], .cfg, 0xFFFFFFFF, true⟩,
   ⟨0x400E0034, [], .cfg, 0xFFFF0003, true⟩,
   ⟨0x400E0038, [], .cfg, 0xFFFF, true⟩,
   ⟨0x400E003C, [], .cfg, 0xFFFFFFFF, true⟩,
   ⟨0x400E0040, [], .cfg, 0x7FFFF7F, true⟩,
   ⟨0x400E0044, [], .cfg, 0xFFFFFFFF, true⟩,
   ⟨0x400E0048, [], .ro, 0x3F, false⟩,
   ⟨0x400E004C, [], .w1c, 0xFF, false⟩,
   ⟨0x400E0050, [], .ro, 0xFFFFFFFF, false⟩,
   ⟨0x400E0054, [], .ro, 0xFFFFFFFF, false⟩,
   ⟨0x400E0058, [], .ro, 0xFFFFFFFF, false⟩,
   ⟨0x400E005C, [], .ro, 0xFFFFFFFF, false⟩,
   ⟨0x400E0060, [], .ro, 0xFFFFFFFF, false⟩,
   ⟨0x400E0064, [], .ro, 0xFFFFFFFF, false⟩,
   ⟨0x400E0068, [], .ro, 0xFFFFFFFF, false⟩,
   ⟨0x400E006C, [], .ro, 0xFFFFFFFF, false⟩,
   ⟨0x400E0070, [], .ro, 0xFFFFFFFF, false⟩,
   ⟨0x400E0074, [], .cfg, 0xFFFFFFFF, true⟩,
   ⟨0x400E0078, [], .cfg, 0xF, true⟩,
   ⟨0x400E007C, [], .ro, 0xFFFFFFFF, false⟩,
   ⟨0x400E0080, [], .rw, 0xFFFFFFFF, false⟩,
   ⟨0x400E0084, [], .ro, 0xFFFFFFFF, false⟩,
   ⟨0x400E0088, [], .pw, 0xFF, false⟩,
   ⟨0x400E0090, [], .cfg, 0xFFFF7F, true⟩,
   ⟨0x400E0094, [], .cfg, 0xFFFFFF, true⟩,
   ⟨0x400E0098, [], .pw, 0xFFFF0F, true⟩,
   ⟨0x400E00A0, [], .ro, 0xFFFF000F, false⟩,
   ⟨0x400E00A4, [], .ro, 0xFFFFFFFF, false⟩,
   ⟨0x400E00A8, [], .ro, 0xFFFFFFFF, false⟩,
   ⟨0x400E0100, [(0x20, 4)], .cfg, 0x7, true⟩,
   ⟨0x400E0104, [(0x20, 4)], .ro, 0xFFFFFFFF, false⟩,
   ⟨0x400E0108, [(0x20, 4)], .ro, 0xFFFFFFFF, false⟩,
   ⟨0x400E010C, [(0x20, 4)], .ro, 0xFFFFFFFF, false⟩,
   ⟨0x400E0110, [(0x20, 4)], .w1c, 0x7, false⟩,
   ⟨0x400E2000, [(0x10, 256)], .pw, 0xFFFFFFFF, false⟩,
   ⟨0x400E2008, [(0x10, 256)], .pw, 0xFFFFFFFF, false⟩,
   ⟨0x400E3000, [(0x4, 256)], .rw, 0xFF, false⟩,
   ⟨0x400E4000, [(0x20, 256)], .ro, 0xFFFFFFFF, false⟩,
   ⟨0x400E4004, [(0x20, 256)], .ro, 0xFFFFFFFF, false⟩,
   ⟨0x400E4008, [(0x20, 256)], .ro, 0xFFFFFFFF, false⟩,
   ⟨0x400E400C, [(0x20, 256)], .ro, 0xFFFFFFFF, false⟩,
   ⟨0x400E4010, [(0x20, 256)], .ro, 0xFFFFFFFF, false⟩,
   ⟨0x400E1000, [(0x10, 256)], .cfg, 0x3FFFFFFF, true⟩,
   ⟨0x400E1004, [(0x10, 256)], .cfg, 0x1FFFFFF, true⟩,
   ⟨0x400E1008, [(0x10, 256)], .cfg, 0x3FFFFFFF, true⟩,
   ⟨0x400E100C, [(0x10, 256)], .cfg, 0xFFFFFFFF, true⟩]

def rowsPAR : List RegRow :=
  [⟨0x400F0000, [], .cfg, 0xFFFF, true⟩,
   ⟨0x400F0004, [], .cfg, 0xFFFFFF1F, true⟩,
   ⟨0x400F0008, [], .cfg, 0xFFFF, true⟩,
   ⟨0x400F000C, [], .ro, 0x1FFF, false⟩,
   ⟨0x400F0010, [], .ro, 0xFFFFFFFF, false⟩,
   ⟨0x400F0014, [], .ro, 0xFFFFFFFF, false⟩,
   ⟨0x400F0018, [], .ro, 0xFFFFFFFF, true⟩,
   ⟨0x400F001C, [], .ro, 0xFFFFFFFF, false⟩,
   ⟨0x400F0020, [], .ro, 0xFFFFFFFF, false⟩,
   ⟨0x400F0024, [], .ro, 0xFFFFFFFF, false⟩,
   ⟨0x400F0028, [], .ro, 0xFFFFFFFF, false⟩,
   ⟨0x400F002C, [], .ro, 0xFFFFFFFF, false⟩,
   ⟨0x400F0030, [], .w1c, 0x3F, false⟩,
   ⟨0x400F0038, [], .pw, 0x3, false⟩,
   ⟨0x400F0040, [], .cfg, 0x1F, true⟩,
   ⟨0x400F0100, [(0x10, 16)], .cfg, 0x7FFFF, true⟩,
   ⟨0x400F0104, [(0x10, 16)], .ro, 0xFFFFFFFF, false⟩]

def rowsSAF : List RegRow :=
  [⟨0x40100000, [(0x20, 8)], .cfg, 0x7F, true⟩,
   ⟨0x40100004, [(0x20, 8)], .cfg, 0xFFFFFF7F, true⟩,
   ⟨0x40100008, [(0x20, 8)], .ro, 0x7F, false⟩,
   ⟨0x4010000C, [(0x20, 8)], .ro, 0xFFFFFFFF, false⟩,
   ⟨0x40100010, [(0x20, 8)], .w1c, 0x7, false⟩,
   ⟨0x40100100, [], .cfg, 0x7, true⟩,
   ⟨0x40100104, [], .cfg, 0xFFFFFFF, true⟩,
   ⟨0x40100108, [], .cfg, 0xFFFFFF, true⟩,
   ⟨0x4010010C, [], .ro, 0xFF, false⟩,
   ⟨0x40100110, [], .ro, 0xFFFFFFFF, false⟩,
   ⟨0x40100114, [], .w1c, 0x7F, false⟩,
   ⟨0x40100118, [], .ro, 0xFFFFFFFF, false⟩,
   ⟨0x4010011C, [], .ro, 0xFFFFFFFF, false⟩]

def rowsCLK : List RegRow :=
  [⟨0x40110000, [], .cfg, 0x7FFF3, true⟩,
   ⟨0x40110004, [], .cfg, 0xFFFFFFFF, true⟩,
   ⟨0x40110008, [], .pw, 0xF, false⟩,
   ⟨0x40110010, [], .ro, 0x3FFF, false⟩,
   ⟨0x40110014, [], .w1c, 0x1F, false⟩,
   ⟨0x40110018, [], .ro, 0xFFFFFFFF, false⟩,
   ⟨0x4011001C, [], .ro, 0xFFFFFFFF, false⟩,
   ⟨0x40110020, [], .ro, 0xFFFFFFFF, false⟩,
   ⟨0x40110200, [(0x10, 6)], .cfg, 0xFFFFFFF, true⟩,
   ⟨0x40110204, [(0x10, 6)], .ro, 0xFFFFFFFF, false⟩,
   ⟨0x40110100, [(0x8, 16)], .cfg, 0x1FFFF0F, true⟩,
   ⟨0x40110104, [(0x8, 16)], .ro, 0xFFFF, false⟩]

def rowsSYS : List RegRow :=
  [⟨0x40000000, [], .ro, 0xFFFFFFFF, false⟩,
   ⟨0x40000004, [], .ro, 0xFFFFFFFF, false⟩,
   ⟨0x40000008, [], .ro, 0xFFF, false⟩,
   ⟨0x4000000C, [], .ro, 0xFFFFFFFF, false⟩,
   ⟨0x40000010, [], .ro, 0xFFFFFFFF, false⟩,
   ⟨0x40000014, [], .ro, 0xFFFFFFFF, false⟩,
   ⟨0x40000018, [], .ro, 0xFF, false⟩,
   ⟨0x4000001C, [], .ro, 0xFFFFFFFF, false⟩,
   ⟨0x40000020, [], .ro, 0xFFFFFFFF, false⟩,
   ⟨0x40000024, [], .ro, 0xFFFFFFFF, false⟩,
   ⟨0x40000028, [], .ro, 0xFFFFFFFF, false⟩]

def rowsPWR : List RegRow :=
  [⟨0x40120000, [], .ro, 0xFFFFFFFF, false⟩,
   ⟨0x40120004, [], .w1c, 0x3F, false⟩,
   ⟨0x40120008, [], .cfg, 0x1F, true⟩,
   ⟨0x4012000C, [], .cfg, 0xFFFFFFFF, true⟩,
   ⟨0x40120010, [], .cfg, 0xFFFFFFFF, true⟩,
   ⟨0x40120014, [], .cfg, 0xFFFFFFFF, true⟩,
   ⟨0x40120018, [], .ro, 0xFFFFFFFF, false⟩,
   ⟨0x4012001C, [], .ro, 0xFFFFFFFF, false⟩,
   ⟨0x40120020, [], .ro, 0xFFFFFFFF, false⟩,
   ⟨0x40120024, [], .cfg, 0xFFFFFFFF, true⟩,
   ⟨0x40120028, [], .cfg, 0xFFFFFFFF, true⟩,
   ⟨0x4012002C, [], .rw, 0xFFFFFFFF, false⟩,
   ⟨0x40120030, [], .rw, 0xFFFFFFFF, false⟩,
   ⟨0x40120034, [], .rw, 0x1FFF, false⟩,
   ⟨0x40120038, [], .pw, 0x3, false⟩,
   ⟨0x40120040, [], .ro, 0xFFFFFFFF, false⟩,
   ⟨0x40120044, [], .cfg, 0xFFFF, true⟩,
   ⟨0x40120048, [], .ro, 0xFFFFFFFF, false⟩]

def rowsSEC : List RegRow :=
  [⟨0x40150000, [], .ro, 0xFFFFFFFF, false⟩,
   ⟨0x40150004, [], .ro, 0xFFFFFFFF, false⟩,
   ⟨0x40150008, [], .ro, 0xFFFFFFFF, false⟩,
   ⟨0x40150020, [(0x4, 8)], .ro, 0xFFFFFFFF, false⟩,
   ⟨0x40150040, [(0x4, 8)], .rw, 0xFFFFFFFF, false⟩,
   ⟨0x40150060, [], .rw, 0xFFFFFFFF, false⟩]

end Reg

end Sys2Proof
end

