-- ==== Sys2Proof/Machine/Tbl.lean ====
section
/-! DEFINITION. Reading and writing the two plain containers of State: the finite table, and a register word's fields. -/

namespace Sys2Proof

/-- The entry of key `k`, or `d` where the table lists none. -/
def Tbl.get {α : Type} (d : α) : Tbl α → Nat → α
  | [], _ => d
  | (j, x) :: t, k => if k = j then x else Tbl.get d t k

/-- The table with key `k` holding `x`; the keys stay rising. -/
def Tbl.put {α : Type} (k : Nat) (x : α) : Tbl α → Tbl α
  | [] => [(k, x)]
  | (j, y) :: t =>
    if k < j then (k, x) :: (j, y) :: t
    else if k = j then (k, x) :: t
    else (j, y) :: Tbl.put k x t

/-- The value of field `F` in word `w`. -/
def fldGet (F : Fld) (w : Word) : Nat :=
  ((w >>> F.lo) &&& BitVec.ofNat 32 (2 ^ F.width - 1)).toNat

/-- Word `w` with field `F` holding the low bits of `v`; every other bit as before. -/
def fldSet (F : Fld) (w : Word) (v : Nat) : Word :=
  (w &&& ~~~(BitVec.ofNat 32 (2 ^ F.width - 1) <<< F.lo)) ||| (BitVec.ofNat 32 (v % 2 ^ F.width) <<< F.lo)

/-- A list with entry `k` replaced (unchanged where there is none). -/
def listSet {α : Type} : List α → Nat → α → List α
  | [], _, _ => []
  | _ :: t, 0, x => x :: t
  | y :: t, k + 1, x => y :: listSet t k x

/-- Bit `k` of a number. -/
def bit (n k : Nat) : Bool := n.testBit k

/-- The number with bit `k` set or clear. -/
def setBit (n k : Nat) (b : Bool) : Nat :=
  if b then n ||| 2 ^ k else if n.testBit k then n - 2 ^ k else n

/-- The numbers below `n` whose bit stands in `m`, ascending. -/
def bitsOf (n m : Nat) : List Nat := (List.range n).filter (fun k => m.testBit k)

/-- The number whose set bits are the listed ones. -/
def maskOf (l : List Nat) : Nat := l.foldl (fun a k => a ||| 2 ^ k) 0

end Sys2Proof
end

