-- ==== Sys2Proof/Machine/State.lean ====
section
/-! DEFINITION. The state of the device: every register of the register maps in one file keyed by address, and the state
the manual gives the device beside them, chapter by chapter. Plain data. -/

namespace Sys2Proof.Machine

/-- One event record (R202). -/
structure EvRec where
  seq : Nat
  source : Nat
  grade : Nat
  detail : Nat
  stgv : Bool
  stage : Nat
  atf : Nat
  lt : Nat
  tumble : Bool
  /-- Its place among the records of its FCLK (R204). -/
  key : List Nat
  deriving DecidableEq, Repr

/-- A condition that was graded: the event source and the resource it names. A G5 or G3 cause is active while it is
listed (R54, R208, R210). -/
structure Cause where
  src : Nat
  id : Nat
  deriving DecidableEq, Repr

/-- A reaction that waits for the FCLK after its record (R214, R215): the steps of a link's retirement after its record, and
the safe state and redistribution of a retired half-bridge. -/
inductive React where
  | link (n : Nat)
  | hb (h : Nat)
  deriving DecidableEq, Repr

/-- The event and error unit beside its registers (R203-R214). -/
structure EvtSt where
  /-- Accepted records that wait for the ring, oldest first; before configuration completion, without a SEQ (R471). -/
  queue : List EvRec
  /-- The first SEQ lost and the count since (R205). -/
  pendLoss : Option (Nat × Nat)
  /-- Level and overflow count of each upset counter, by identity (R211, R212). -/
  ctr : Tbl (Nat × Nat)
  /-- Leak instants applied to each counter, the LT of the last, and what it took from the level (R211). -/
  leaks : Tbl (Nat × Nat × Nat)
  /-- N and W (µs) of each counter that the image sets (R211). -/
  ctrCfg : Tbl (Nat × Nat)
  /-- Active G5 causes of each Stage (R210). -/
  g5 : Tbl (List Cause)
  /-- Active G3 causes of each Stage (R55). -/
  g3 : Tbl (List Cause)
  /-- Storage with one mismatch that has not been written again (R213). -/
  mism : List Nat
  /-- Storage whose word and complement disagree, in the order of its uses (R213; log entry 125). -/
  torn : List Nat
  /-- The place behind which the records of a reaction in progress go (R204). -/
  anchor : List Nat
  /-- Detections beyond the four that the unit accepts in an FCLK, in the order in which it will (R204). -/
  wait : List EvRec
  /-- The FCLK of the last acceptance, and the records accepted in it (R204). -/
  acc : Nat × Nat
  /-- On a paired device, NSEQ at the last state copy, and the records lost since beyond its 65,535 numbers (R215). -/
  cap : Option Nat
  capLost : Nat
  /-- Reactions recorded and not yet executed, in detection order, and the Stages that a G5 of the recovery in progress has
  locked (R214). -/
  react : List React
  recov : List Nat
  deriving DecidableEq, Repr

def EvtSt.reset : EvtSt :=
  { queue := [], pendLoss := none, ctr := [], leaks := [], ctrCfg := [], g5 := [], g3 := [], mism := [], torn := [], anchor := [], wait := [],
    acc := (0, 0), cap := none, capLost := 0, react := [], recov := [] }

/-- A Bobbin beside its registers (R15, R20-R27). -/
structure BobSt where
  /-- The 32-bit cycle count and the 48-bit fraction as one number of 80 bits (R15). -/
  phase : Nat
  /-- A request that waits for the next word update: source and kind (R20). -/
  req : Option (Nat × Nat)
  /-- A source found lost, until the update that acts on it (R27). -/
  lost : Bool
  /-- The outer tick T_o in FCLK (R20, R41). -/
  outer : Nat
  /-- LT, AT and word of the last four word updates, newest first (R147, R266). -/
  anchors : List (Nat × Nat × Nat)
  /-- LT and jump of the last ALIGNs, newest first (R268). -/
  jumps : List (Nat × Int)
  deriving DecidableEq, Repr

def BobSt.reset : BobSt := ⟨0, none, false, 0, [], []⟩

/-- What a measurement block forms from one sample set (R36): its AT stamp; the dq values v_d+, v_q+, v_d−, v_q−, i_d+,
i_q+, i_d−, i_q− in Q4.28, before saturation; |z+| and |z−| of the voltage in Q4.28; the angle of z+ in a-counts. -/
structure MeasRes where
  stamp : Nat
  dq : List Int
  vpos : Int
  vneg : Int
  ang : Int
  deriving DecidableEq, Repr

def MeasRes.reset : MeasRes := ⟨0, [0, 0, 0, 0, 0, 0, 0, 0], 0, 0, 0⟩

/-- A measurement block: the power block of R36 or the bus block of R63. -/
structure MeasSt where
  /-- αβ values (v_α, v_β, i_α, i_β) of the last N/4 sample sets, newest first. -/
  hist : List (Int × Int × Int × Int)
  /-- Lanes of the set in assembly: lane, stamp, value. -/
  part : List (Nat × Nat × Int)
  /-- LT at which the last sample set arrived. -/
  lastLt : Nat
  /-- What the newest sample sets gave, newest first: those of the last half cycle. -/
  res : List MeasRes
  deriving DecidableEq, Repr

def MeasSt.reset : MeasSt := ⟨[], [], 0, []⟩

/-- The four voltage references of R40: v_d+*, v_q+*, v_d−*, v_q−*. -/
structure VRef where
  dp : Int
  qp : Int
  dn : Int
  qn : Int
  deriving DecidableEq, Repr

/-- A Drum and its state machine beside their registers (R36-R90). -/
structure DrumSt where
  pb : MeasSt
  bus : MeasSt
  /-- The swing integrator, in word units times 2^16 (R46). -/
  wacc : Int
  ws : Int
  eref : Int
  zv : Int
  /-- The word and the references computed by the last step, taken up at the next firing (R41). -/
  wout : Int
  vnext : VRef
  /-- The references in use by the expander (R45). -/
  vuse : VRef
  /-- P* in use (R50, R71). -/
  pUse : Int
  /-- Staged set-point pairs, by register offset (R48). -/
  staged : Tbl Nat
  /-- A commit, and a hem restore of a Stage without a Drum, that wait (R48, R33). -/
  commit : Bool
  hemRest : Bool
  /-- LT of the commit and of the hem restore that wait (R33, R48). -/
  commitAt : Nat
  hemRestAt : Nat
  /-- The pending command (R65): its code. -/
  cmd : Option Nat
  /-- LT of the pending command, and the one that waited as it came: a step of that same FCLK takes the older (R65). -/
  cmdAt : Nat
  cmdPrev : Option Nat
  /-- A G5 has been graded against the Stage, and a safety path has been off, since the last step (R66, causes 15 and 16). -/
  sawLock : Bool
  sawOff : Bool
  /-- A pulse enable or disable decided by the last step (R61). -/
  pendOn : Bool
  pendOff : Bool
  /-- Step counters: HEMACT run, recovered run, PVALID loss, steps in HOLD, steps in ENERGISE, k_e, dead run, sync
  run, k of RECOVER. -/
  nHem : Nat
  nRec : Nat
  nPv : Nat
  nHold : Nat
  nEnerg : Nat
  ke : Nat
  nDead : Nat
  nSync : Nat
  kRec : Nat
  /-- W_hold's correction and δ_ref (R68, R69). -/
  corr : Int
  deltaRef : Int
  /-- Steps counted at each HOLD entry within TREP, and the step count itself. -/
  holds : List Nat
  steps : Nat
  /-- Curve counters, points 0-15 of each curve (R75). -/
  uv : Tbl Nat
  ov : Tbl Nat
  /-- The live start's second step is due (R87). -/
  live : Bool
  /-- Breaker level read at the previous step (R64). -/
  brkPrev : Bool
  /-- A program write to BOB_SRCREQ since the last step (R85). -/
  srcWr : Bool
  /-- The breaker closed in DEADCHK without DEADOK (R79). -/
  badClose : Bool
  /-- δ_bus of the previous step, and that it is the first after an invalid period (R63, R473). -/
  dbusPrev : Int
  busFirst : Bool
  deriving DecidableEq, Repr

def VRef.reset : VRef := ⟨0, 0, 0, 0⟩

def DrumSt.reset : DrumSt :=
  { pb := .reset, bus := .reset, wacc := 0, ws := 0, eref := 0, zv := 0, wout := 0, vnext := .reset,
    vuse := .reset, pUse := 0, staged := [], commit := false, hemRest := false, commitAt := 0, hemRestAt := 0,
    cmd := none, cmdAt := 0, cmdPrev := none, sawLock := false, sawOff := false, pendOn := false, pendOff := false, nHem := 0,
    nRec := 0, nPv := 0, nHold := 0, nEnerg := 0, ke := 0, nDead := 0, nSync := 0, kRec := 0, corr := 0, deltaRef := 0,
    holds := [], steps := 0, uv := [], ov := [], live := false, brkPrev := false, srcWr := false, badClose := false, dbusPrev := 0,
    busFirst := true }

/-- A Stitch instance beside its registers (R92-R113). -/
structure InstSt where
  /-- e[n−1 …] and y[n−1 …], Q4.44, newest first (R93). -/
  e : List Int
  y : List Int
  /-- f and the clamped u of the last execution, Q4.28. -/
  f : Int
  u : Int
  /-- Cycles of the Stage modulo DIV (R99). -/
  cnt : Nat
  /-- Mode before TRACK (R108), and the mode a pending command asks for (R111). -/
  prev : Nat
  cmd : Option Nat
  /-- Consecutive executions with valid samples (R110). -/
  good : Nat
  /-- The instance's G1 counter has overflowed (R112). -/
  over_ : Bool
  /-- PRESET is due at the next execution (R114). -/
  preset : Bool
  /-- The leg's share has been divided among the remaining legs (R113). -/
  gone : Bool
  /-- STI_MAN and STI_SETP written, in use from the next cycle (R111). -/
  man : Option Nat
  setp : Option Nat
  /-- LT at which the pending mode command, STI_MAN and STI_SETP were written (R111). -/
  cmdAt : Nat
  manAt : Nat
  setpAt : Nat
  /-- UMIN or UMAX limited u in the last execution (R107). -/
  limited : Bool
  /-- What waited as the pending command, STI_MAN and STI_SETP came: a cycle of that same FCLK takes the older (R111). -/
  cmdPrev : Option Nat
  manPrev : Option Nat
  setpPrev : Option Nat
  /-- The last execution ran R92 (R106, R109). -/
  ran : Bool
  /-- The histories e and y before the last cycle of the Stage, until that cycle is complete (R375). -/
  eWas : List Int
  yWas : List Int
  deriving DecidableEq, Repr

def InstSt.reset : InstSt :=
  { e := [0, 0, 0], y := [0, 0, 0], f := 0, u := 0, cnt := 0, prev := 0, cmd := none, good := 0, over_ := false, preset := false,
    gone := false, man := none, setp := none, cmdAt := 0, manAt := 0, setpAt := 0, limited := false, cmdPrev := none,
    manPrev := none, setpPrev := none, ran := false, eWas := [0, 0, 0], yWas := [0, 0, 0] }

/-- The Stitch array per Stage beside its registers (R97-R115). -/
structure StiSt where
  /-- Group totals in force, groups 0-3, and the total after the hem. -/
  total : Tbl Int
  bound : Tbl Int
  /-- Pending set request: set and PRESET (R115). -/
  req : Option (Nat × Bool)
  /-- FCLK of the start of the last cycle (R164). -/
  start : Option Nat
  /-- Issue slots that the last cycle takes: first FCLK and length (R101). -/
  issues : List (Nat × Nat)
  deriving DecidableEq, Repr

def StiSt.reset : StiSt := ⟨[], [], none, none, []⟩

/-- A Tack slot: its eight words (R117). -/
structure Slot where
  w0 : Nat
  w1 : Nat
  w2 : Nat
  w3 : Nat
  w4 : Nat
  w5 : Nat
  w6 : Nat
  deriving DecidableEq, Repr

def Slot.reset : Slot := ⟨0, 0, 0, 0, 0, 0, 0⟩

/-- Work staged under a sequence lock (R134): a slot write or delete, a Stitch set request, a carrier set request. -/
inductive Staged where
  | slot (n : Nat) (w : Slot)
  | del (n : Nat)
  | stitch (stage set : Nat) (preset : Bool)
  | carrier (stage set : Nat)
  deriving DecidableEq, Repr

/-- One sequence lock (R133-R136). -/
structure Lock where
  staged : List Staged
  /-- LT at which the lease runs out. -/
  until_ : Nat
  /-- Committed: its staged work goes into force at this LT (R135). -/
  commitAt : Option Nat
  /-- The lock has committed since it was last acquired (R136). -/
  committed : Bool
  /-- The lease has run out or the owner's sideband has asserted in this FCLK, with the cause: what is not committed when the FCLK
  ends is rolled back (R135, R136). -/
  doom : Option Nat
  deriving DecidableEq, Repr

def Lock.reset : Lock := ⟨[], 0, none, false, none⟩

/-- The Tack Table (R117-R137). -/
structure TackSt where
  slots : Tbl Slot
  /-- The next due point of each valid slot: LT in eu, or AT as 64 bits; none once a one-shot has fired. -/
  due : Tbl (Option Nat)
  /-- An occurrence on the AT basis reached and not fired when the word changed or AT jumped: its eligible FCLK and due point;
  `due` is then the one after it (R25, R120). -/
  reached : Tbl (Option (Nat × Nat))
  /-- The command whose admission runs: slot, words or delete, and the writer (R129). -/
  adm : Option (Nat × Option Slot × Nat)
  /-- Accepted content and its switch instant (R130). -/
  switch : List (Nat × Option Slot × Nat)
  locks : Tbl Lock
  /-- Actions fired in the FCLK `firedAt` (R125). -/
  fired : Nat
  firedAt : Nat
  deriving DecidableEq, Repr

def TackSt.reset : TackSt := ⟨[], [], [], none, [], [], 0, 0⟩

/-- A planned edge of a half-bridge: stamp, switch (true high), direction (true on), and the width of the interval that a
turn-on opens, as judged. -/
structure Edge where
  stamp : Nat
  hi : Bool
  on : Bool
  width : Int
  deriving DecidableEq, Repr

/-- A carrier in planner time (R140-R147). Positions count periods of the grid in units of 2^-57. -/
structure CarSt where
  /-- Grid index of the period in progress, and its number since the set took effect (R143). -/
  k : Int
  n : Int
  /-- Positions of its start and of the next start. -/
  start : Int
  stop : Int
  /-- Its point p = 1/2 has been reached. -/
  half : Bool
  /-- The PRBS state (R143). -/
  prbs : Nat
  /-- Position 0 of the grid: an LT in eu, and an AT with 48 fraction bits (R140, R166). -/
  orgLt : Nat
  orgAt : Nat
  deriving DecidableEq, Repr

def CarSt.reset : CarSt := ⟨0, 0, 0, 0, false, 0, 0, 0⟩

/-- A half-bridge beside its registers (R148-R162). -/
structure HbSt where
  /-- Ready compare (R164), and the compares in use at p = 0 and at p = 1/2 (R141). -/
  ready : Nat
  dr : Nat
  df : Nat
  /-- |r| of the compare in the shadow, ready and in use, Q4.28 (R194). -/
  refS : Int
  refR : Int
  refU : Int
  /-- The side the planner conducts: none, low (false) or high (true). -/
  side : Option Bool
  /-- No point of the carrier at or before this position is planned again. -/
  planned : Int
  /-- What the interval in progress has been lengthened by, and its earliest second crossing (R154, R155). -/
  extra : Int
  minEnd : Int
  /-- A dropped interval is in progress. -/
  drop : Bool
  /-- The refresh in this period, from its first to its last edge (R156, R157). -/
  rf : Option (Int × Int)
  /-- Edges planned whose stamp has not come, in the order of planning. -/
  edges : List Edge
  /-- BSCNT as a period began and the stamps of the low-side turn-ons that conduct in it, by period, newest first, at most 64;
  the stamp of the planner's last low-side turn-on (R151, R156). -/
  lows : List (Nat × List Nat)
  lowOn : Nat
  /-- The second crossing of a refresh, not yet planned, and whether the refresh is forced (R146, R156, R157). -/
  back : Option (Int × Bool)
  /-- The instant at which P of a direct leg takes the level of the next switch, where no turn-off brings it (R167). -/
  pAt : Option (Nat × Bool)
  /-- The stamp of a turn-on of a direct leg in this FCLK, which the pin has not shown (R150, R224). -/
  rise : Option Nat
  /-- Periods held; the resumed half-bridge takes a low interval first. -/
  heldPer : Nat
  lowFirst : Bool
  /-- The first command after an OFF carries RESUME (R190). -/
  resume : Bool
  /-- LT at which the last hold cause cleared or pulses were enabled (R160). -/
  clearAt : Nat
  /-- Turn-offs that await acknowledgement: stamp, the LT by which it must come, and the high side (R152). -/
  ackBy : List (Nat × Nat × Bool)
  /-- A refresh is due in this period; end of the low pulse of the forced refresh; undervoltage deadline (R156, R157). -/
  refresh : Bool
  forced : Option Nat
  uvBy : Option Nat
  /-- FCLK from which the acknowledgement qualifies, and the last interval of FCLK in which it was qualified (R150). -/
  ackAt : Option Nat
  ackPrev : Option (Nat × Nat)
  deriving DecidableEq, Repr

def HbSt.reset : HbSt :=
  { ready := 0, dr := 0, df := 0, refS := 0, refR := 0, refU := 0, side := none, planned := 0, extra := 0, minEnd := 0, drop := false, rf := none,
    edges := [], lows := [], lowOn := 0, back := none, pAt := none, rise := none, heldPer := 0, lowFirst := false, resume := false, clearAt := 0, ackBy := [],
    refresh := false, forced := none, uvBy := none, ackAt := none, ackPrev := none }

/-- A low-side interval executes in the period in progress (R156). -/
def HbSt.lowRan (x : HbSt) : Bool := !(x.lows.headD (0, [])).2.isEmpty

/-- The pulse generator per Stage beside its registers (R163-R166). -/
structure PgnSt where
  /-- A set request that waits for the hand-over, and one handed over that waits for t_s. -/
  req : Option Nat
  ready : Option Nat
  /-- The FCLK of a deferred hand-over (R164). -/
  deferAt : Option Nat
  deriving DecidableEq, Repr

def PgnSt.reset : PgnSt := ⟨none, none, none⟩

/-- A command of a link (R176, R187): the last 64 are kept. -/
structure Sent where
  seq : Nat
  hb : Nat
  edge : Edge
  resume : Bool
  report : Bool
  bin : Nat
  pre : Nat
  plat : Nat
  ilev : Nat
  /-- An edge of a forced refresh (R157, R186). -/
  forced : Bool
  /-- Times resent, a NACK not yet answered, never sent because the link was not READY or the deadline had passed, given up or
  cancelled, and reported on by SKIP, LATE or MISSING. -/
  resends : Nat
  nacked : Bool
  held : Bool
  closed : Bool
  reported : Bool
  deriving DecidableEq, Repr

/-- What waits for the serializer of a link (R186): a copy or a retry of a command; EPOCH (class 1) or CONFIG (class 5) with its
characters; a TIME, whose content is formed as its frame starts. -/
inductive TxBlk where
  | edge (c : Sent) (copy retry : Bool)
  | block (cls : Nat) (chars : List Nat)
  | time
  deriving DecidableEq, Repr

/-- A leg link, device side, beside its registers (R172-R199). -/
structure LnkSt where
  /-- Receiver in sync, and IDLE received in SYNC. -/
  rx : Bool
  idles : Nat
  /-- LT at which the present state was entered, and of the first attempt. -/
  since : Nat
  firstTry : Nat
  cseq : Nat
  /-- The next character boundary of the downlink that is not yet taken, in tenths of an eu (R181, R186). -/
  free : Nat
  /-- The blocks that wait, in the order in which they came; the characters of the frame in transmission (R174, R186). -/
  tx : List TxBlk
  frame : List Nat
  /-- OFFs that wait, one ordered set each; the instant of the last OFF of R180 or R199, in tenths of an eu. -/
  offs : List Nat
  offRep : Nat
  /-- A round-trip request that waits: its number and the earliest LT (R174, R182). -/
  rtq : Option (Nat × Nat)
  /-- The instant of the last IDLE, in tenths of an eu (R187). -/
  idleAt : Nat
  /-- Characters with the instant at which they reach the line, behind the delay of TMB_LLDLY (R220). -/
  wire : List (Nat × List Nat)
  /-- Blocks since the last one that TMB_LLERR inverted, down and up (R220). -/
  nDown : Nat
  nUp : Nat
  /-- Sync was lost on the READY link: it returns to SYNC after OFF (R180). -/
  lost : Bool
  /-- The delays of a calibration whose TCORR is awaited (R183). -/
  cand : Option (Nat × Nat)
  /-- The last EVENT that names no command in hand: kind, SEQ, epoch, port, and its LT (R178). -/
  event : Option ((Nat × Nat × Nat × Nat) × Nat)
  /-- The calibration in hand: round-trip samples, their number, the LT of the last RTQ, whether it is the repeat, whether
  TIME was sent and its TCORR is awaited, and whether a calibration has ever passed (R182, R183). -/
  rtts : List Int
  need : Nat
  t1 : Nat
  repeated : Bool
  timeSent : Bool
  passed : Bool
  /-- The earliest LT at which a STATUS delivered here can show the TCORR of the TIME blocks, once both have gone (R183). -/
  timeAt : Option Nat
  /-- The last ALARM graded: its mask and shunts, its LT, and the copies of it still to come (R191, R230). -/
  alarm : Option (Nat × Nat × Nat)
  /-- LT of the last periodic calibration. -/
  calAt : Nat
  /-- The half-bridges are held after a calibration beyond DMAX (R183). -/
  calHold : Bool
  sent : List Sent
  /-- Off-confirmed bits, undervoltage and alarm as last reported (R192). -/
  oc : Nat
  uv : Nat
  alm : Nat
  /-- LT of READY or of the last NACK, LATE or MISSING (R188). -/
  cleanFrom : Nat
  /-- Edges sent on a trained bin since the last REPORT request, by profile entry (R195). -/
  sinceReport : Tbl Nat
  /-- OFF is repeated until this LT (R180, R199), and the mask of the OFF decided in this FCLK (R158). -/
  offUntil : Nat
  offMask : Nat
  deriving DecidableEq, Repr

def LnkSt.reset : LnkSt :=
  { rx := false, idles := 0, since := 0, firstTry := 0, cseq := 0, free := 0, tx := [], frame := [], offs := [], offRep := 0, rtq := none,
    idleAt := 0, wire := [], nDown := 0, nUp := 0, lost := false, cand := none, event := none, rtts := [], need := 0, t1 := 0,
    repeated := false, timeSent := false, passed := false, timeAt := none, alarm := none, calAt := 0, calHold := false, sent := [], oc := 0, uv := 0,
    alm := 0, cleanFrom := 0, sinceReport := [], offUntil := 0, offMask := 0 }

/-- A command that a leg endpoint has accepted (R187). -/
structure EpCmd where
  port : Nat
  seq : Nat
  epoch : Nat
  hb : Nat
  hi : Bool
  on : Bool
  stamp : Nat
  pre : Nat
  plat : Nat
  ilev : Nat
  bin : Nat
  report : Bool
  deriving DecidableEq, Repr

/-- A port of a leg endpoint (R181, R187). -/
structure EpPort where
  rx : Bool
  /-- LT at which sync was lost, while it is lost. -/
  lostAt : Option Nat
  /-- Port time less LT, modulo 2^40. -/
  offset : Nat
  tcorr : Int
  /-- The last SEQ accepted; missing SEQ with the LT of the last NACK and the NACKs sent, 3 for one reported MISSING (R187). -/
  last : Nat
  missing : List (Nat × Nat × Nat)
  crcn : Nat
  /-- CSEQ of the last CONFIG acted on (R177). -/
  cseq : Option Nat
  /-- The last 64 SEQ accepted since the last CONFIG, newest first (R187). -/
  taken : List Nat
  /-- The uplink: the next character boundary not yet taken (tenths of an eu), the characters of the frame in transmission, and
  what waits with its class: ALARM 0, OC 1, NACK 2, RTA 3, a block 4 (R174). -/
  free : Nat
  frame : List Nat
  wait : List (Nat × List Nat)
  deriving DecidableEq, Repr

def EpPort.reset : EpPort := ⟨false, none, 0, 0, 0, [], 0, none, [], 0, [], []⟩

/-- A leg endpoint (R200), with its two ports. -/
structure EpSt where
  ports : Tbl EpPort
  /-- The epoch held for each port, the current epoch and the owning port; a newer claim: epoch, port, HANDOFF (R197). -/
  epochs : Tbl Nat
  epoch : Nat
  owner : Nat
  claim : Option (Nat × Nat × Nat)
  /-- Standing orders of the last CONFIG: half-bridges in use, LOSSTO, STATIV (R177). -/
  hben : Nat
  lossto : Nat
  stativ : Nat
  cmds : List EpCmd
  /-- Half-bridges that discard commands until RESUME (R190). -/
  wait : Nat
  /-- Switches commanded on, switches measured off (coded as OC), undervoltage and alarm (R173, R178). -/
  gates : Nat
  off : Nat
  uv : Nat
  alm : Nat
  statAt : Nat
  /-- The drive of each switch (key 2 × half-bridge + 1 for the high side): PRE and PLAT in ns, ILEV, and the port time of the
  edge that began it (R193). -/
  drive : Tbl (Nat × Nat × Nat × Nat)
  deriving DecidableEq, Repr

def EpSt.reset : EpSt := ⟨[], [], 0, 0, none, 0, 0, 0, [], 15, 0, 255, 0, 0, 0, []⟩

/-- Power-stage protection beside its registers (R222-R235). -/
structure PrtSt where
  /-- Stamps of the last turn-ons of a switch (key 2 × half-bridge + 1 for the high side), newest first (R228). -/
  ons : Tbl (List Nat)
  /-- Short circuits detected: FCLK, half-bridge, high side (R231). -/
  sc : List (Nat × Nat × Bool)
  /-- Half-bridges above TWARN, and above TMAX, as last judged (R234). -/
  warm : List Nat
  hot : List Nat
  /-- LT before which no threshold check runs (R235). -/
  dacAt : Nat
  deriving DecidableEq, Repr

def PrtSt.reset : PrtSt := ⟨[], [], [], [], 0⟩

/-- An entry of a Hamper channel (R281, R283): sample or marker, the value field, and the stamps as stored. -/
structure HEnt where
  mark : Bool
  v : Int
  lt : Nat
  at_ : Nat
  deriving DecidableEq, Repr

/-- A Hamper channel beside its registers (R280-R287, R293). -/
structure HmpCh where
  /-- The trim in use since the ARM (R282). -/
  trim : Int
  /-- The input FIFO, oldest first, and the entries since the ARM, newest first, at most the ring's M. -/
  fifo : List HEnt
  ents : List HEnt
  /-- Entries placed since the ARM, source samples since the last rate change, post-trigger records, and the run of samples
  lost with the LT at which it began. -/
  count : Nat
  phase : Nat
  post : Nat
  lost : Nat
  lostAt : Nat
  /-- The last source sample: value and trimmed LT (R293). -/
  prev : Option (Int × Int)
  /-- The entry index of HMP_CTIDX without its wrap (R285), and the FCLK of the last rate reduction (R286). -/
  tidx : Nat
  reducedAt : Option Nat
  /-- Markers that wait for room in a full FIFO, oldest first: k and LT (R286). -/
  marks : List (Nat × Nat)
  deriving DecidableEq, Repr

def HmpCh.reset : HmpCh := ⟨0, [], [], 0, 0, 0, 0, 0, none, 0, none, []⟩

/-- The Hamper beside its registers (R279-R293). -/
structure HmpSt where
  /-- Pulse conditions since the last evaluation: code and instant (R289). -/
  pulses : Tbl Nat
  chan : Tbl HmpCh
  /-- Timer starts, and the timers that have expired (R288). -/
  timers : Tbl Nat
  expired : List Nat
  /-- Threshold units: a sample below the level less HYST seen, one above the level plus HYST seen (R290). -/
  thr : Tbl (Bool × Bool)
  /-- Pulses due on output pins: pin, instant, and the deciding FCLK's LT (R291, R292). -/
  pinOut : List (Nat × Nat × Nat)
  /-- The last arrival on an input pin, and a calibration instant that waits for one (R292). -/
  pinIn : Tbl Nat
  calTc : Tbl Nat
  /-- Serial numbers of TRIGGER and TCAL frames (R346). -/
  trigSer : Nat
  calSer : Nat
  deriving DecidableEq, Repr

def HmpSt.reset : HmpSt := ⟨[], [], [], [], [], [], [], [], 0, 0⟩

/-- An arbiter (R299, R300): FCLK at which its target is free, deadline grants since the last best-effort one, and the last
requester granted in each class. -/
structure ArbSt where
  free : Nat
  count : Nat
  lastD : Nat
  lastB : Nat
  deriving DecidableEq, Repr

def ArbSt.reset : ArbSt := ⟨0, 0, 11, 11⟩

/-- A descriptor in progress (R306-R312): its start FCLK and index, words 0 to 4 as fetched, source bytes read and not yet
written, bytes read and written, the last piece written (address and bytes), whether the transfer has been repeated, and
once it has ended its status with the LT. -/
structure Xfer where
  start : Nat
  index : Nat
  w0 : Nat
  src : Nat
  dst : Nat
  len : Nat
  wrap : Nat
  buf : List Byte
  got : Nat
  put : Nat
  piece : Nat × List Byte
  repeated : Bool
  ended : Option (Nat × Nat)
  deriving DecidableEq, Repr

/-- A DMA ring beside its registers (R305, R308, R314, R315): starts that wait for their descriptor, each with whether its deadline
has passed; the last start; a chain of a PROGRAM ring, and a GO written while it runs; and that the last descriptor returned was
DONE. -/
structure DmaSt where
  starts : List (Nat × Bool)
  last : Option Nat
  chain : Bool
  again : Bool
  cur : Option Xfer
  done : Bool
  deriving DecidableEq, Repr

def DmaSt.reset : DmaSt := ⟨[], none, false, false, none, false⟩

/-- A read burst granted to a DMA port, whose data a mask discards (R301): the FCLK of its end, its ring, and what the ring and
port 1 held before it. -/
structure ReadSt where
  ends : Nat
  ring : Nat
  dma : DmaSt
  stat : Word
  port1 : Nat
  deriving DecidableEq, Repr

/-- Bursts that a hardware requester asks for (R299): the requester, the target, the FCLK at which the first of them was raised, and
their number. -/
structure BusReq where
  q : Nat
  t : Nat
  raised : Nat
  n : Nat
  deriving DecidableEq, Repr

/-- The memory fabric beside its registers (R298-R305): the arbiters of program, data, retain and Hamper SRAM and DRAM; the
FCLK until which each HE line is high, and the LT of its last rise; the last refresh window; the ring port 1 served last; the FCLK
at which the requests of the DMA ports and the Hamper writer were raised, by 8 × requester + target; the requests of the other
hardware units, oldest first; the read bursts of the ports in progress; and the FCLK of the last Tumble stall. -/
structure FabSt where
  arb : Tbl ArbSt
  he : Tbl Nat
  rose : Tbl Nat
  refresh : Nat
  dma : Tbl DmaSt
  port1 : Nat
  asked : Tbl (Option Nat)
  wq : List BusReq
  reads : Tbl (Option ReadSt)
  stall : Option Nat
  deriving DecidableEq, Repr

def FabSt.reset : FabSt := ⟨[], [], [], 0, [], 15, [], [], [], none⟩

/-- What the state copy carries of a Stage (R375): Bobbin (cycle count and fraction, word, status), the Drum beside its
measurement blocks, and the registers that hold its states. -/
structure CopyStage where
  phase : Nat
  word : Nat
  bob : Word
  drum : DrumSt
  regs : List Word
  deriving DecidableEq, Repr

/-- What it carries of a Stitch instance: histories, mode and the mode before TRACK, set in force, following-error timer,
RETIRED, and the staged STI_MAN, STI_SETP and STI_MODECMD. -/
structure CopyInst where
  y : List Int
  e : List Int
  mode : Nat
  prev : Nat
  set : Nat
  fe : Nat
  retired : Bool
  man : Option Nat
  setp : Option Nat
  cmd : Option Nat
  deriving DecidableEq, Repr

/-- The state copy of R375 but for its RETAIN section: header, Stages, instances, PW values, the coefficient sets of the Stages
and the carrier sets, the set requests that wait for their hand-over, journal (slot, content, switch instant), event SEQ, retired half-bridges. -/
structure Copy where
  epoch : Nat
  cno : Nat
  lt : Nat
  stages : List CopyStage
  insts : List CopyInst
  unit : List Word
  sets : List Nat
  carSets : List Nat
  setReqs : List (Option (Nat × Bool))
  carReqs : List (Option Nat)
  journal : List (Nat × Option Slot × Nat)
  evSeq : Nat
  retired : List Nat
  deriving DecidableEq, Repr, Inhabited

/-- A standby's own snapshot (R375, R377): its LT, and the phase by Stage and the y history by instance. -/
structure OwnSnap where
  lt : Nat
  phase : Tbl Nat
  y : Tbl (List Int)
  deriving DecidableEq, Repr

/-- A frame that waits for the pair link (R374): its type, its segment, and its bytes. -/
structure PairTx where
  kind : Nat
  seg : Nat
  bytes : List Nat
  deriving DecidableEq, Repr

/-- What a referee knows of a unit (R381, R382): health word, role, epoch, the cluster cycle of its last HEALTH frame and of
the last that showed it TAKING or ACTIVE, and a REQUEST. -/
structure RefUnit where
  word : Nat
  role : Nat
  epoch : Nat
  cycle : Option Nat
  act : Option Nat
  req : Bool
  deriving DecidableEq, Repr

def RefUnit.reset : RefUnit := ⟨0, 0, 0, none, none, false⟩

/-- The pair logic beside its registers (R370-R388). -/
structure ParSt where
  /-- REF_ALIVE has stopped after a G4, and its level (R380, R381). -/
  aliveStop : Bool
  alive : Bool
  /-- A G4 holds HEALTHY at 0 (R380). -/
  g4 : Bool
  /-- An HBACK was sent: no EDGE stamped at or after H leaves this unit (R387). -/
  answered : Bool
  /-- The TAKING in progress is a hand-back (R387). -/
  handback : Bool
  /-- FCLK of the last Drum-step firing of CSTAGE; its snapshot was taken; the next snapshot is left out (R375, R376). -/
  firedAt : Option Nat
  snapped : Bool
  skip : Bool
  /-- Lanes up, and lanes retired (R374, R388). -/
  lanes : Nat
  laneRet : Nat
  /-- The 10 ms of R373 have passed. -/
  waitOut : Bool
  /-- FCLK of an accepted grant that waits for F (R383, R384). -/
  grant : Option Nat
  /-- The last complete copy, with its RETAIN bytes, not yet installed (R377). -/
  ready : Option (Copy × List Nat)
  /-- The last own snapshots, newest first (R377, R379). -/
  own : List OwnSnap
  /-- The frames that wait for the pair link, and per lane the instant from which it is free, in hundredths of an eu (R374). -/
  tx : List PairTx
  laneFree : Tbl Nat
  /-- LT of the last exchange that disciplined LT (R378). -/
  exch : Option Nat
  /-- Complete copies in a row, the LT of the last incomplete one while COPYOK is held, copies in a row with HEALTHY, and the LT
  since which a STANDBY has been HEALTHY (R372, R379, R387, R388). -/
  good : Nat
  copyHeld : Option Nat
  run : Nat
  since : Option Nat
  /-- AT has been set in this SYNCING (R377). -/
  aligned : Bool
  /-- Epoch and event SEQ of the last installed copy (R384). -/
  copyEpoch : Option Nat
  evSeq : Nat
  /-- Program slot writes accepted since the last copy (R375). -/
  journal : List (Nat × Option Slot × Nat)
  /-- Half-bridges retired for power-stage causes (R375). -/
  power : List Nat
  /-- The cycle engine has ended a warm restart since this unit was fenced (R385). -/
  restarted : Bool
  /-- The newest epoch seen (R384). -/
  seen : Nat
  /-- The last self-test passed; overflows of the counters of its checks at that time (R379). -/
  selftest : Bool
  overflows : Nat
  /-- The referee (R382): per 2 × pair + unit what it knows, and per pair the last epoch granted. -/
  units : Tbl RefUnit
  granted : Tbl (Option Nat)
  deriving DecidableEq, Repr

def ParSt.reset : ParSt :=
  { aliveStop := false, alive := false, g4 := false, answered := false, handback := false, firedAt := none, snapped := false, skip := false, lanes := 0,
    laneRet := 0, waitOut := false, grant := none, ready := none, own := [], tx := [], laneFree := [], exch := none, good := 0, copyHeld := none,
    run := 0, since := none, aligned := false, copyEpoch := none, evSeq := 0, journal := [], power := [], restarted := false, seen := 0, selftest := false,
    overflows := 0, units := [], granted := [] }

/-- A task of the cycle program (R322-R324): idle 0, pending 1, running 2, preempted 3; the FCLK of its start firing, and
that its deadline has passed. -/
structure TaskSt where
  state : Nat
  start : Nat
  missed : Bool
  deriving DecidableEq, Repr

def TaskSt.reset : TaskSt := ⟨0, 0, false⟩

/-- An accepted patch (R334, R335): LT of its acceptance, its boundary task and its entries (address, bytes, value); its
boundary has come. -/
structure Patch where
  since : Nat
  task : Nat
  entries : List (Nat × Nat × Nat)
  ripe : Bool
  deriving DecidableEq, Repr

/-- A force (R336, R337): address, bytes, FVAL, boundary task; in force; UVAL and PATCHED; a SET or a RELEASE that waits for
its boundary, and that the boundary of a RELEASE has come. -/
structure Force where
  addr : Nat
  len : Nat
  fval : Nat
  task : Nat
  active : Bool
  uval : Nat
  patched : Bool
  setting : Bool
  release : Option Nat
  ripe : Bool
  deriving DecidableEq, Repr

/-- The cycle engine beside its registers (R319-R337): the program; tasks 0-15 and 16, the error task; waiting error causes
(kind, index); a restart request (kind, writing task), a restart about to begin, and the kind of the one in progress (1 warm,
2 cold); LT of a lockstep halt, and that it stays; a submission in validation (LT, address), the patch accepted and the forces by index; per station the input block of the
newest valid frame and its output block (key 512 × station + word), missed cycles, consecutive good frames, and a frame seen in
this cycle. -/
structure CycSt where
  prog : Program
  tasks : Tbl TaskSt
  causes : List (Nat × Nat)
  rcmd : Option (Nat × Nat)
  due : Option Nat
  kind : Nat
  halted : Option Nat
  stays : Bool
  sub : Option (Nat × Nat)
  patch : Option Patch
  forces : Tbl (Option Force)
  stnIn : Tbl Nat
  stnOut : Tbl Nat
  missed : Tbl Nat
  good : Tbl Nat
  seen : List Nat
  deriving DecidableEq, Repr

def CycSt.reset : CycSt :=
  { prog := ⟨[], [], []⟩, tasks := [], causes := [], rcmd := none, due := none, kind := 0, halted := none, stays := false,
    sub := none, patch := none, forces := [], stnIn := [], stnOut := [], missed := [], good := [], seen := [] }

/-- A retain sector (R433): erased, written without a valid header, or a saved image: sequence number, build identity,
INCONSISTENT, and the bytes of RETAIN. -/
inductive Sector where
  | erased
  | partial_
  | saved (seq build : Nat) (inconsistent : Bool) (data : List Byte)
  deriving DecidableEq, Repr

/-- A request of the NVM queue (R429, R437): a write (source, flash address, bytes), the erase of the sector at a flash
address, the burn of ARB up to a value, and the revocation of a slot. -/
inductive NvmOp where
  | write (src dst len : Nat)
  | erase (dst : Nat)
  | arb (n : Nat)
  | revoke (slot : Nat)
  deriving DecidableEq, Repr

/-- What outlives a device reset (R422): OTP (ARB, key hashes by slot, revoked slots, TESTLOCK), the two retain sectors, and
the bytes of the user area by flash address (unlisted: erased, 0xFF). -/
structure NvSt where
  arb : Nat
  keys : Tbl (List Nat)
  revoked : Nat
  testlock : Bool
  sectA : Sector
  sectB : Sector
  user : Tbl Nat
  deriving DecidableEq, Repr

def NvSt.reset : NvSt := ⟨0, [], 0, false, .erased, .erased, []⟩

/-- Start-up and supplies beside their registers (R421-R442): held in reset; the SYSPLL has locked; the image as streamed and
not yet refused, its digest, DRAM training outstanding, or failed; a waiting retain save and its LT, the snapshot's LT and bytes; the
LT at which a save began to write and whether its sector was erased; an erase is owed after a save; the sector erase in
progress; NVM requests and OTP burns, oldest first, and whether the first request is in progress; LT since which Tj is above
TJMAX. -/
structure PwrSt where
  held : Bool
  img : Option (List Nat)
  digest : List Nat
  train : Bool
  trainBad : Bool
  warnAt : Option Nat
  snap : Option (Nat × List Byte)
  saveAt : Option (Nat × Bool)
  eraseOwed : Bool
  erasing : Bool
  queue : List NvmOp
  busy : Bool
  overAt : Option Nat
  deriving DecidableEq, Repr

def PwrSt.reset : PwrSt :=
  { held := true, img := none, digest := [], train := false, trainBad := false, warnAt := none, snap := none, saveAt := none, eraseOwed := false,
    erasing := false, queue := [], busy := false, overAt := none }

/-- The clock synthesizer beside its registers (R408-R420): the hop in progress (entry, automatic); the LT of the last loss;
y in units of 2^-36 / 10^12; the last error sample (source, error, LT); that the last sample was clamped; the reference in use
(source, nominal kHz); the span references found lost while their link is up, as bits; the LT of the last accepted hop request and
of the last ramp step; and by output 1 + the source that it was last shown to pass through. -/
structure ClkSt where
  hop : Option (Nat × Bool)
  lossAt : Option Nat
  y : Int
  prev : Option (Nat × Int × Nat)
  limRun : Bool
  ref : Nat × Nat
  spLost : Nat
  hopAt : Option Nat
  rampAt : Option Nat
  thru : Tbl Nat
  deriving DecidableEq, Repr

/-- SYSPLL locks to XTAL at reset (R410). -/
def ClkSt.reset : ClkSt := ⟨none, none, 0, none, false, (0, 25000), 0, none, none, []⟩

/-- A pair of safety inputs in one channel (R392-R396): state (0 READY, 1 DEMAND, 2 WAITRESET, 3 unused or not armed), inputs that
count closed, both have counted open since the demand, LT since which the discrepancy time runs, LT at which the TSTOP delay
started, LT since which a hand is actuated, hands released since the last actuation ended (an even pair), and THACT. -/
structure SafPair where
  state : Nat
  a : Bool
  b : Bool
  both : Bool
  disc : Option Nat
  stop : Option Nat
  act : Option Nat
  rel : Nat
  thact : Bool
  atA : Option Nat
  atB : Option Nat
  deriving DecidableEq, Repr

def SafPair.reset : SafPair := ⟨3, false, false, false, none, none, none, 3, false, none, none⟩

/-- The safety evaluator beside its registers (R390-R406): pairs by 8 × channel + pair (channel A 0, B 1); inputs that passed
their last test pulse, as bits 2 × pair + letter; per test output the LT of its last pulse, and those low; per channel
consecutive differing state words and the LT of the last heartbeat; heartbeats and clocks found wrong; LT of the last change of
Path B while it waits for its feedback, LT since which feedback disagrees, LT of the last verified off; LT at which arming
began, and at which its feedback was low; LT of the last OFF of Path A; channel B's copy of the configuration by register address
(channel A's are the registers), and whether the copies were found to differ; per test output the LT at which its last pulse
ended; per channel the LT of the last state word and of the last measurement of the other's clock; the heartbeats sent and those
last received, as bits by channel; the next half-period boundary of the SAFE_OFF pins while they toggle, and the level of
SAFE_OFF_A. -/
structure SafSt where
  pairs : Tbl SafPair
  pass : Nat
  tpAt : Tbl Nat
  tpLow : Nat
  mis : Tbl Nat
  beat : Tbl Nat
  beatBad : Nat
  clkBad : Nat
  fbPend : Option Nat
  fbDis : Option Nat
  proofAt : Nat
  armAt : Option Nat
  offAt : Nat
  armLow : Option Nat
  copyB : Tbl Nat
  differ : Bool
  tpEnd : Tbl Nat
  wordAt : Tbl Nat
  clkAt : Tbl Nat
  hbOut : Nat
  hbIn : Nat
  offNext : Option Nat
  offHigh : Bool
  deriving DecidableEq, Repr

def SafSt.reset : SafSt :=
  ⟨[], 0, [], 0, [], [], 0, 0, none, none, 0, none, 0, none, [], false, [], [], [], 3, 0, none, false⟩

/-- The JTAG port (R457): held in reset, and the boundary-scan instruction in force. -/
structure JtagSt where
  held : Bool
  instr : JtagInstr
  deriving DecidableEq, Repr

def JtagSt.reset : JtagSt := ⟨true, .bypass⟩

/-- A released sample: value, LT stamp in eu and AT stamp as 64 bits. -/
structure Smp where
  v : Int
  lt : Nat
  at_ : Nat
  deriving DecidableEq, Repr

/-- A sample within a lane: value, LT stamp in 1/64 eu, AT stamp in 2^-48 cycle, and whether its whole response window lies
on counted inputs (R266, R267, R273). -/
structure RSmp where
  v : Int
  lt : Nat
  at_ : Nat
  full : Bool
  deriving DecidableEq, Repr

/-- A Rinse lane beside its registers (R261-R277). -/
structure LaneSt where
  /-- Samples of the raw stream that wait for acceptance, oldest first: value, stamp in 1/64 eu. -/
  inq : List (Int × Nat)
  /-- Inputs accepted since the start, 0 while stopped; stamp (1/64 eu) and arrival LT of the last input. -/
  count : Nat
  stamp : Nat
  arrived : Nat
  /-- Per stage, the inputs its window holds, newest first, and the inputs it has taken. -/
  win : Tbl (List RSmp)
  taken : Tbl Nat
  /-- The last sixteen outputs of the chain, newest first (R270). -/
  outs : List RSmp
  /-- The last grid point produced, or passed by an ALIGN (R271). -/
  grid : Option Nat
  /-- Outputs that wait for their release, oldest first, each with the LT at which it is ready (R272). -/
  wait : List (Smp × Nat)
  /-- A run of saturated outputs is in progress (R264). -/
  satRun : Bool
  /-- The last released output (R110). -/
  last : Option Smp
  /-- The lane runs, or will restart, on ISPC3 (R275). -/
  rate3 : Bool
  deriving DecidableEq, Repr

def LaneSt.reset : LaneSt := ⟨[], 0, 0, 0, [], [], [], none, [], false, none, false⟩

/-- A round taken by a bank: its start FCLK, whether the bank had three active slices, offset and gain by position, and by position
the Tumble mismatch (KIND and MAG; KIND 3: none) of its slice (R239, R249, R253, R255). -/
structure Round where
  start : Nat
  three : Bool
  cal : List (Int × Nat)
  mis : List (Nat × Int)
  deriving DecidableEq, Repr

/-- A sequence in progress on a bank (R243-R247): urgent or normal, the entry, its rounds taken (newest first), the rounds
still to take, the FCLK of the next round, and that the last round of its END entry has been taken. -/
structure Run where
  urgent : Bool
  entry : Nat
  rounds : List Round
  left : Nat
  next : Nat
  done : Bool
  deriving DecidableEq, Repr

/-- A measurement bank beside its registers (R239-R256). -/
structure AdcSt where
  run : Option Run
  /-- FCLK at which the sequence in progress was started. -/
  firedAt : Nat
  /-- The interrupted entry of a held sequence, and the first entry of a normal start that waits (R246, R248). -/
  held : Option Nat
  wait : Option Nat
  /-- The last round taken: start, INTLV, and its length in FCLK. -/
  last : Nat × Bool × Nat
  /-- Entries whose samples wait for delivery: entry, rounds in order, LT in 1/64 eu at which they are due. -/
  deliver : List (Nat × List Round × Nat)
  /-- Calibration: LT at which each slice began ABS and the REL began; shadow samples taken; REL ended: FCLK and the trim
  update (R250-R253). -/
  absAt : Tbl Nat
  relAt : Nat
  relCount : Nat
  rotAt : Option Nat
  deriving DecidableEq, Repr

def AdcSt.reset : AdcSt := ⟨none, 0, none, none, (0, false, 0), [], [], 0, 0, none⟩

/-- A received HSP frame (R342): port, header fields, payload bytes, and the LT of its arrival. -/
structure Frame where
  port : Nat
  kind : Nat
  cls : Nat
  dir : Nat
  dstk : Nat
  src : Nat
  dst : Nat
  seq : Nat
  epoch : Nat
  cts : Nat
  data : List Nat
  lt : Nat
  deriving DecidableEq, Repr

/-- A receive stream context (R354, R355): its triple, E, the LT of its last frame, held frames by rising SEQ (none: a frame
that arrived late), the hold's deadline, and the last 64 SEQ declared lost. -/
structure Stream where
  src : Nat
  dst : Nat
  dstk : Nat
  expect : Nat
  last : Nat
  held : List (Nat × Option Frame)
  deadline : Option Nat
  lost : List Nat
  deriving DecidableEq, Repr

/-- A frame that waits on a port (R350, R351): its entry, the LT of the firing, and the LT of the entry's last send before
it. -/
structure Tx where
  entry : Nat
  fired : Nat
  prior : Nat
  deriving DecidableEq, Repr

/-- An urgent frame that waits on a port (R346, R351): its type, DSTK, DST and payload; type 16 is a Sync, 17 an Announce, 18 a
Pdelay_Req. -/
structure Urgent where
  kind : Nat
  dstk : Nat
  dst : Nat
  data : List Nat
  deriving DecidableEq, Repr

/-- A frame that a port is to forward (R340): its class, its type (16 a Sync, 17 an Announce), what it carries, its payload bytes, and
the LT of its arrival. -/
structure Fwd where
  cls : Nat
  kind : Nat
  fields : List Nat
  len : Nat
  at_ : Nat
  deriving DecidableEq, Repr

/-- A grandmaster announced on a port (R347): its dataset, steps, the LT of its last Announce, and that a second one within four
intervals has qualified it. -/
structure Ann where
  gm : Nat
  steps : Nat
  at_ : Nat
  qualified : Bool
  deriving DecidableEq, Repr

/-- The manager logic of one tier (R358-R364): MEPOCH held, the manager followed, whether this device manages, a claim in
progress (its MEPOCH, cycles without anything preferred), consecutive cycles without a valid beacon, one seen in this cycle,
DF, DV and BSEN, the reports (FORM or HEM, V_pos) of this cycle and of the one before, and the current cycle number; the cycle from
which a new manager sends beacons, the region cycle in which the region REPORT was last sent, and the region's member table by
cluster: cycles since the last report and its payload. -/
structure Tier where
  mepoch : Nat
  manager : Option Nat
  mgr : Bool
  claim : Option (Nat × Nat)
  bmiss : Nat
  seen : Bool
  df : Int
  dv : Int
  bsen : Nat
  reports : List (Bool × Int)
  prior : List (Bool × Int)
  cyc : Option Nat
  sendFrom : Nat
  reported : Option Nat
  members : Tbl (Nat × List Nat)
  deriving DecidableEq, Repr

def Tier.reset : Tier := ⟨0, none, false, none, 0, false, 0, 0, 0, [], [], none, 0, none, []⟩

/-- A correlator of the mains-code detector (R367): its last 16 decisions with |s|, newest first, and inside a frame the bits
read, newest first, with the smallest |s|. -/
structure Corr where
  win : List (Bool × Nat)
  frame : Option (List Bool × Nat)
  deriving DecidableEq, Repr

def Corr.reset : Corr := ⟨[], none⟩

/-- The mains code (R365-R367): LT of the last valid beacon and of the last valid frame; the frame in transmission (its first
cycle count, 48 bits) and that sending stops after it; the end of an abandoned frame (offset, AT at its start); the cycle in
progress with the sum and number of its bus angles, the a_c and the d_c × 64 of past cycles, newest first, the four
correlators, and a frame read (KIND, VALUE, quality). -/
structure McSt where
  beacon : Nat
  rx : Nat
  tx : Option (Nat × Nat)
  stop : Bool
  ramp : Option (Int × Nat)
  cyc : Option Nat
  sum : Int
  num : Nat
  hist : List Int
  diffs : List Int
  corr : Tbl Corr
  done : Option (Nat × Nat × Nat)
  deriving DecidableEq, Repr

def McSt.reset : McSt := ⟨0, 0, none, false, none, none, 0, 0, [], [], [], none⟩

/-- The span ports and the cluster protocol beside their registers (R339-R368): t_b, ATB and WB of the last valid beacon; the
newest EPOCH by source; stream contexts by index; SEQ of each transmit stream; scheduled and best-effort queues, the LT at
which a port is free, and the frames it is to forward; per entry the LT of its last send, its firings with their SEQ, and the firing last counted as held back; retired entries; serial numbers of the
last TRIGGER and TCAL by source; the two tiers; IEEE 1588: the grandmasters announced by port, LT of the last Sync, Announce and
Pdelay_Req sent, the slave port; the mains code. -/
structure SpnSt where
  tb : Nat
  atb : Nat
  wb : Nat
  epochs : Tbl Nat
  streams : Tbl (Option Stream)
  txSeq : Tbl Nat
  queue : Tbl (List Tx)
  best : Tbl (List (Nat × Nat))
  urgent : Tbl (List Urgent)
  urgGone : List Nat
  fwd : Tbl (List Fwd)
  drops : Nat
  free : Tbl Nat
  sent : Tbl Nat
  shared : Tbl (Nat × Nat)
  held : Tbl Nat
  retired : List Nat
  serial : Tbl Nat
  tier : Tbl Tier
  ann : Tbl (List Ann)
  syncAt : Tbl Nat
  annAt : Tbl Nat
  pdAt : Tbl Nat
  slave : Option Nat
  mc : McSt
  deriving DecidableEq, Repr

def SpnSt.reset : SpnSt :=
  { tb := 0, atb := 0, wb := 0, epochs := [], streams := [], txSeq := [], queue := [], best := [], urgent := [], urgGone := [], fwd := [], drops := 0, free := [], sent := [],
    shared := [], held := [], retired := [], serial := [], tier := [], ann := [], syncAt := [], annAt := [], pdAt := [], slave := none,
    mc := .reset }

/-- What the device and the endpoints have sent or driven, in order (the model's own record, log entry 3). -/
inductive Out where
  /-- OFF on a leg link with a half-bridge mask (R189). -/
  | off (link mask : Nat)
  /-- Characters on the downlink of a leg link: a block, or an ordered set whose control character is 256 + its code. -/
  | down (link : Nat) (chars : List Nat)
  /-- Characters on the uplink of an endpoint's port. -/
  | up (link port : Nat) (chars : List Nat)
  /-- A span frame on a port: its type and the bytes from the destination MAC to the FCS (R341); of a PTP message (types 16 to 18)
  the fields that R347 gives it. -/
  | span (port kind : Nat) (fields : List Nat)
  /-- A frame forwarded on a port as it was received (R340): its type, HSP header fields and payload; a PTP message with its
  residence time in ns. -/
  | fwd (port kind : Nat) (fields : List Nat)
  /-- A pair-link frame: its type, its lane and its bytes. -/
  | pair (kind lane : Nat) (fields : List Nat)
  /-- The gate drive of a switch of an endpoint from an edge on: half-bridge, high side, direction, PRE, PLAT, ILEV (R193). -/
  | drive (link hb : Nat) (hi on : Bool) (pre plat ilev : Nat)
  /-- A CLKOUT passes a reference through from an LT on (R419): output, source of R410. -/
  | refClock (output src lt : Nat)
  /-- A level on a pin of the pin list: its name, the index of its group, the level, and the LT. -/
  | pin (name : String) (index level lt : Nat)
  deriving DecidableEq, Repr

/-- The stops of a step. No meaning of this model raises one: every command of the table has an effect on every state. -/
inductive Fault where
  /-- Raised by nobody: kept as the name of a memory access outside R295's map (safe). -/
  | noSuchAddress
  deriving DecidableEq, Repr

/-- The refusals of a step. -/
inductive Refusal where
  /-- Raised by Dispatch alone, for a command without a meaning (safe). -/
  | notModelled (mnemonic : String)
  deriving DecidableEq, Repr

/-- The whole machine. -/
structure State where
  /-- The commands that wait, first in, first out. -/
  pending : List Instr
  /-- Open values taken so far (the model's own counter, log entry 2). -/
  free : Nat
  /-- What has been sent and driven, oldest first (the model's own record, log entry 3). -/
  out : List Out
  /-- The register file: every register of the manual, by its address; an unlisted one holds its reset value. -/
  regs : Tbl Word
  /-- The value word each paired register holds, by the address of its value word (R8). -/
  pwHeld : Tbl (Option Word)
  /-- Local time in eu, and whether it runs (R2, R14). -/
  lt : Nat
  ltRun : Bool
  evt : EvtSt
  bob : Tbl BobSt
  drm : Tbl DrumSt
  inst : Tbl InstSt
  sti : Tbl StiSt
  /-- MAC lanes to be retired at the end of the cycle in progress (R103). -/
  macRetire : List Nat
  tack : TackSt
  /-- GPIO output and input levels (R124, R450). -/
  gpioOut : Nat
  gpioIn : Nat
  car : Tbl CarSt
  hb : Tbl HbSt
  pgn : Tbl PgnSt
  /-- Direct-leg pins LEGn_EN and LEGn_P as the edge unit drives them (R150). -/
  legEn : Nat
  legP : Nat
  lnk : Tbl LnkSt
  ep : Tbl EpSt
  /-- Memory: the bytes that differ from what an unwritten byte reads as, addresses rising (R295). -/
  mem : List Host.Cell
  /-- Configuration has completed, and the LT of its FCLK (R424). -/
  configured : Bool
  cc : Nat
  par : ParSt
  prt : PrtSt
  hmp : HmpSt
  fab : FabSt
  lane : Tbl LaneSt
  bank : Tbl AdcSt
  /-- Inputs and diagnostic channels in a run of over-range results or an excursion (R241, R258). -/
  overRun : List Nat
  diagRun : List Nat
  spn : SpnSt
  cyc : CycSt
  nv : NvSt
  pwr : PwrSt
  clk : ClkSt
  saf : SafSt
  jtag : JtagSt
  deriving DecidableEq, Repr

/-- The device in reset: no register written, local time stopped (R14, R422). -/
def State.reset : State :=
  { pending := [], free := 0, out := [], regs := [], pwHeld := [], lt := 0, ltRun := false, evt := .reset, bob := [],
    drm := [], inst := [], sti := [], macRetire := [], tack := .reset, gpioOut := 0, gpioIn := 0, car := [], hb := [],
    pgn := [], legEn := 0, legP := 0, lnk := [], ep := [], mem := [], configured := false, cc := 0, par := .reset, prt := .reset, hmp := .reset, fab := .reset, lane := [], bank := [], overRun := [], diagRun := [], spn := .reset, cyc := .reset, nv := .reset, pwr := .reset, clk := .reset, saf := .reset, jtag := .reset }

end Sys2Proof.Machine
end

