-- ==== Sys2Proof/Machine/Regs.lean ====
section
/-! DEFINITION. Reading and writing the register file, and the accessors of the state each chapter keeps per resource.
Every function takes the state last. -/

namespace Sys2Proof.Machine

/-- The reset value of the register at an address: the Reset columns of the register maps; 0 where they give 0, Image or
Computed (R9 for an address that is no register). -/
def resetValue (a : Nat) : Word :=
  if a = Reg.STI_GSTAT then 0xF#32
  else if a = Reg.ADC_GSTAT then 0x100#32
  else if a = Reg.CYC_STAT then 0x1F#32
  else if a = Reg.SYS_ID then 0x72600001#32
  else if a = Reg.PWR_STAT then 0x200#32
  else if 0x40052000 ≤ a ∧ a < 0x40052000 + 104 * 0x40 ∧ (a - 0x40052000) % 0x40 = 0x2C then 3#32
  else if 0x40060000 ≤ a ∧ a < 0x40060000 + 24 * 0x80 ∧ (a - 0x40060000) % 0x80 = 0x28 then 7#32
  else if a ∈ (List.range 20).map (fun k => Reg.ADC_SGAIN (k / 5) (k % 5)) then 0x100000#32
  else if a ∈ (List.range 8).map Reg.SAF_PSTAT then 3#32
  else 0#32

/-- The word at a register address. -/
def rdW (a : Nat) (s : State) : Word := Tbl.get (resetValue a) s.regs a

/-- The word as a number, and as a two's complement number. -/
def rd (a : Nat) (s : State) : Nat := (rdW a s).toNat
def rdI (a : Nat) (s : State) : Int := (rdW a s).toInt

/-- The state with a register word written. -/
def wrW (a : Nat) (w : Word) (s : State) : State := { s with regs := Tbl.put a w s.regs }

/-- The same for a number (its low 32 bits) and for a signed number. -/
def wr (a : Nat) (n : Nat) (s : State) : State := wrW a (BitVec.ofNat 32 n) s
def wrI (a : Nat) (x : Int) (s : State) : State := wrW a (BitVec.ofInt 32 x) s

/-- A field of a register. -/
def fl (a : Nat) (F : Fld) (s : State) : Nat := fldGet F (rdW a s)

/-- Whether a field of a register is not 0. -/
def on (a : Nat) (F : Fld) (s : State) : Bool := fl a F s != 0

/-- The state with a field of a register written. -/
def setF (a : Nat) (F : Fld) (v : Nat) (s : State) : State := wrW a (fldSet F (rdW a s) v) s

/-- The state with a flag written. -/
def setB (a : Nat) (F : Fld) (b : Bool) (s : State) : State := setF a F (if b then 1 else 0) s

/-- The state with one bit of a register written. -/
def setBitAt (a k : Nat) (b : Bool) (s : State) : State := setB a ⟨k, 1⟩ b s

/-- One bit of a register. -/
def bitAt (a k : Nat) (s : State) : Bool := on a ⟨k, 1⟩ s

/-- A counter field raised by `n`, saturating at its width. -/
def bump (a : Nat) (F : Fld) (n : Nat) (s : State) : State := setF a F (min (2 ^ F.width - 1) (fl a F s + n)) s

/-- A two-word register pair as one number. -/
def rd64 (lo hi : Nat) (s : State) : Nat := rd lo s + 2 ^ 32 * rd hi s
def wr64 (lo hi n : Nat) (s : State) : State := wr hi (n / 2 ^ 32) (wr lo n s)

/-- A whole 32-bit word as a field. -/
def whole : Fld := ⟨0, 32⟩

/-- A fold of a state operation over a list, the first element first. -/
def each {α : Type} (l : List α) (f : α → State → State) (s : State) : State := l.foldl (fun t x => f x t) s

/-- A state operation under a condition. -/
def when (c : Bool) (f : State → State) (s : State) : State := if c then f s else s

/-- The next open value, and the state that has taken it. -/
def fresh (s : State) : BitVec 64 × State := (Config.freeValue s.free, { s with free := s.free + 1 })

/-- The state with something sent or driven. -/
def emit (o : Out) (s : State) : State := { s with out := s.out ++ [o] }

/-! Accessors of the per-resource state. -/

def bobOf (st : Nat) (s : State) : BobSt := Tbl.get .reset s.bob st
def setBob (st : Nat) (b : BobSt) (s : State) : State := { s with bob := Tbl.put st b s.bob }
def drmOf (st : Nat) (s : State) : DrumSt := Tbl.get .reset s.drm st
def setDrm (st : Nat) (d : DrumSt) (s : State) : State := { s with drm := Tbl.put st d s.drm }
def instOf (n : Nat) (s : State) : InstSt := Tbl.get .reset s.inst n
def setInst (n : Nat) (x : InstSt) (s : State) : State := { s with inst := Tbl.put n x s.inst }
def stiOf (st : Nat) (s : State) : StiSt := Tbl.get .reset s.sti st
def setSti (st : Nat) (x : StiSt) (s : State) : State := { s with sti := Tbl.put st x s.sti }
def carOf (c : Nat) (s : State) : CarSt := Tbl.get .reset s.car c
def setCar (c : Nat) (x : CarSt) (s : State) : State := { s with car := Tbl.put c x s.car }
def hbOf (h : Nat) (s : State) : HbSt := Tbl.get .reset s.hb h
def setHb (h : Nat) (x : HbSt) (s : State) : State := { s with hb := Tbl.put h x s.hb }
def pgnOf (st : Nat) (s : State) : PgnSt := Tbl.get .reset s.pgn st
def setPgn (st : Nat) (x : PgnSt) (s : State) : State := { s with pgn := Tbl.put st x s.pgn }
def lnkOf (n : Nat) (s : State) : LnkSt := Tbl.get .reset s.lnk n
def setLnk (n : Nat) (x : LnkSt) (s : State) : State := { s with lnk := Tbl.put n x s.lnk }
def epOf (n : Nat) (s : State) : EpSt := Tbl.get .reset s.ep n
def setEp (n : Nat) (x : EpSt) (s : State) : State := { s with ep := Tbl.put n x s.ep }
def laneOf (l : Nat) (s : State) : LaneSt := Tbl.get .reset s.lane l
def setLane (l : Nat) (x : LaneSt) (s : State) : State := { s with lane := Tbl.put l x s.lane }
def bankOf (b : Nat) (s : State) : AdcSt := Tbl.get .reset s.bank b
def setBank (b : Nat) (x : AdcSt) (s : State) : State := { s with bank := Tbl.put b x s.bank }
def chanOf (c : Nat) (s : State) : HmpCh := Tbl.get .reset s.hmp.chan c
def setChan (c : Nat) (x : HmpCh) (s : State) : State := { s with hmp := { s.hmp with chan := Tbl.put c x s.hmp.chan } }
def dmaOf (r : Nat) (s : State) : DmaSt := Tbl.get .reset s.fab.dma r
def setDma (r : Nat) (x : DmaSt) (s : State) : State := { s with fab := { s.fab with dma := Tbl.put r x s.fab.dma } }
def slotOf (n : Nat) (s : State) : Slot := Tbl.get .reset s.tack.slots n
def lockOf (n : Nat) (s : State) : Lock := Tbl.get .reset s.tack.locks n
def setLock (n : Nat) (x : Lock) (s : State) : State :=
  { s with tack := { s.tack with locks := Tbl.put n x s.tack.locks } }

/-! Time. -/

/-- One FCLK in eu (R14). -/
def fclk : Nat := 16

/-- The FCLK count of LT. -/
def nowF (s : State) : Nat := s.lt / fclk

/-- Microseconds and milliseconds in eu. -/
def us : Nat := 8000
def ms : Nat := 8000000

/-- The AT of a Stage: 32 bits of cycle count and 32 bits of fraction (R15). -/
def atOf (st : Nat) (s : State) : Nat := (bobOf st s).phase / 2 ^ 16

/-- The AT fraction in a-counts. -/
def fracOf (st : Nat) (s : State) : Nat := atOf st s % 2 ^ 32

/-- An AT value X has been reached by A (R16). -/
def atReached (a x : Nat) : Bool := (a + 2 ^ 64 - x % 2 ^ 64) % 2 ^ 64 < 2 ^ 63

/-- The frequency word in use (R18). -/
def wordOf (st : Nat) (s : State) : Nat := rd (Reg.BOB_FWORD_LO st) s + 2 ^ 32 * (rd (Reg.BOB_FWORD_HI st) s % 2 ^ 16)

def setWord (st w : Nat) (s : State) : State :=
  wr (Reg.BOB_FWORD_HI st) (w / 2 ^ 32 % 2 ^ 16) (wr (Reg.BOB_FWORD_LO st) w s)

def fnomOf (st : Nat) (s : State) : Nat := rd64 (Reg.BOB_FNOM_LO st) (Reg.BOB_FNOM_HI st) s
def fminOf (st : Nat) (s : State) : Nat := rd64 (Reg.BOB_FMIN_LO st) (Reg.BOB_FMIN_HI st) s
def fmaxOf (st : Nat) (s : State) : Nat := rd64 (Reg.BOB_FMAX_LO st) (Reg.BOB_FMAX_HI st) s

/-- A Stage has angle time unless its four frequency settings are all 0 (R19). -/
def hasAngle (st : Nat) (s : State) : Bool :=
  !(fnomOf st s == 0 && fminOf st s == 0 && fmaxOf st s == 0 && rd (Reg.BOB_DWMAX st) s == 0)

/-- A Stage has an active Drum (R33). -/
def hasDrum (st : Nat) (s : State) : Bool := on (Reg.DRM_CFG st) Reg.DRM_CFG_AC s

end Sys2Proof.Machine
end

