-- ==== Sys2Proof/Machine/Ops.lean ====
section
/-! DEFINITION. The operations over memory (R295): bytes at addresses, in one canonical form. Those over registers are in
Regs.lean. -/

namespace Sys2Proof.Machine

/-- What a byte that nothing has written reads as (DESIGN CHOICE, log entry 1). -/
def Memory.unlisted : Byte := 0

/-- The canonical form: addresses strictly rising, and no cell equal to what an unlisted address reads as. -/
def Memory.wf : List Host.Cell → Bool
  | [] => true
  | [(_, b)] => b != Memory.unlisted
  | (a, b) :: (c, d) :: t => decide (a < c) && b != Memory.unlisted && Memory.wf ((c, d) :: t)

/-- The byte at an address. -/
def Memory.get : List Host.Cell → Nat → Byte
  | [], _ => Memory.unlisted
  | (a, b) :: t, k => if k = a then b else Memory.get t k

/-- The memory with a cell in its place, instead of the one listed for its address. -/
def Memory.place (k : Nat) (x : Byte) : List Host.Cell → List Host.Cell
  | [] => [(k, x)]
  | (a, b) :: t =>
    if k < a then (k, x) :: (a, b) :: t
    else if k = a then (k, x) :: t
    else (a, b) :: Memory.place k x t

/-- The memory with a byte written: the value that an unlisted address reads as leaves the address unlisted. -/
def Memory.put (k : Nat) (x : Byte) (m : List Host.Cell) : List Host.Cell :=
  if x = Memory.unlisted then m.filter (fun c => c.1 != k) else Memory.place k x m

/-- The memory with bytes written from an address upwards. -/
def Memory.putAll : Nat → List Byte → List Host.Cell → List Host.Cell
  | _, [], m => m
  | k, x :: xs, m => Memory.putAll (k + 1) xs (Memory.put k x m)

/-- The bytes of a number, least significant first. -/
def bytesLE : Nat → Nat → List Byte
  | 0, _ => []
  | n + 1, v => BitVec.ofNat 8 v :: bytesLE n (v / 256)

/-- The number of bytes, least significant first. -/
def numLE : List Byte → Nat
  | [] => 0
  | b :: t => b.toNat + 256 * numLE t

/-- The byte the device reads at an address. -/
def ldB (a : Nat) (s : State) : Byte := Memory.get s.mem a

/-- `n` bytes from an address upwards. -/
def ldBytes (a n : Nat) (s : State) : List Byte := (List.range n).map (fun i => ldB (a + i) s)

/-- A little-endian word of `n` bytes (log entry 10). -/
def ldN (a n : Nat) (s : State) : Nat := numLE (ldBytes a n s)

/-- Bytes stored from an address upwards. -/
def stBytes (a : Nat) (l : List Byte) (s : State) : State := { s with mem := Memory.putAll a l s.mem }

/-- A little-endian word of `n` bytes stored. -/
def stN (a n v : Nat) (s : State) : State := stBytes a (bytesLE n v) s

/-- CRC-32 of IEEE 802.3. -/
def crc32 (l : List Nat) : Nat :=
  let bit (c : Nat) : Nat := if c % 2 = 1 then (c / 2) ^^^ 0xEDB88320 else c / 2
  (l.foldl (fun c b => (List.range 8).foldl (fun c _ => bit c) (c ^^^ b)) 0xFFFFFFFF) ^^^ 0xFFFFFFFF

/-! The address map of R295. -/

def progBase : Nat := 0x00000000
def progSize : Nat := 0x200000
def dataBase : Nat := 0x00200000
def dataSize : Nat := 0x100000
def retainBase : Nat := 0x00300000
def retainSize : Nat := 0x40000
def hampBase : Nat := 0x10000000
def hampSize : Nat := 0x800000
def regBase : Nat := 0x40000000
def regSize : Nat := 0x160000
def dramBase : Nat := 0x80000000

def inRange (base size a n : Nat) : Bool := decide (base ≤ a) && decide (a + n ≤ base + size)
def inProg (a n : Nat) : Bool := inRange progBase progSize a n
def inData (a n : Nat) : Bool := inRange dataBase dataSize a n
def inRetain (a n : Nat) : Bool := inRange retainBase retainSize a n
def inHamp (a n : Nat) : Bool := inRange hampBase hampSize a n

/-- Bytes of the fitted DRAM (R298). -/
def dramSize (s : State) : Nat :=
  match fl Reg.MEM_DRAMCFG Reg.MEM_DRAMCFG_SIZE s with
  | 1 => 2 ^ 28 | 2 => 2 ^ 29 | 3 => 2 ^ 30 | 4 => 2 ^ 31 | _ => 0

/-- Addresses in the DRAM as fitted and in service (R296, R316). -/
def inDram (a n : Nat) (s : State) : Bool := inRange dramBase (dramSize s) a n && !on Reg.MEM_STAT Reg.MEM_STAT_DRAMRET s

/-! Bursts of the hardware requesters (R299-R301). Targets: 0 program SRAM, 1 data, 2 retain, 3 Hamper SRAM, 4 DRAM. -/

/-- A requester is masked (R301). -/
def masked (q : Nat) (s : State) : Bool := (fl Reg.MEM_STAT Reg.MEM_STAT_MASK s).testBit q

/-- The target of an address (R295). -/
def targetOf (a : Nat) : Nat :=
  if a < dataBase then 0 else if a < retainBase then 1 else if a < hampBase then 2 else if a < dramBase then 3 else 4

/-- The aligned 64-byte blocks that `n` bytes from an address lie in, one request for each (R299). -/
def blocksOf (a n : Nat) : Nat := if n = 0 then 0 else (a + n - 1) / 64 - a / 64 + 1

/-- A requester raises the requests of an access. -/
def busAsk (q a n : Nat) (s : State) : State :=
  if n = 0 then s else { s with fab := { s.fab with wq := s.fab.wq ++ [⟨q, targetOf a, nowF s, blocksOf a n⟩] } }

/-- An access of a hardware unit to `n` bytes from an address: one of a masked unit is withdrawn; another raises its requests,
whose bursts the arbiter grants, and its bytes are as with the request (DESIGN CHOICE, log entry 158). -/
def busUse (q a n : Nat) (f : State → State) (s : State) : State := if masked q s then s else busAsk q a n (f s)

end Sys2Proof.Machine
end

