-- ==== Sys2Proof/Machine/Events.lean ====
section
/-! DEFINITION. The event and error unit: accepting and numbering records, upset counters, and the integrity reaction
(Events, Fault Grades and Ordering, R202-R216). -/

namespace Sys2Proof.Machine

/-- Bits [31:16] of the AT of a Stage, as a record carries them (R202). -/
def atfOf (st : Nat) (s : State) : Nat := atOf st s / 2 ^ 16 % 2 ^ 16

/-- The queue holds 64 records (R205). -/
def queueSize : Nat := 64

/-- QLEVEL, LOSSPEND and FULL as the queue and the ring stand (R219). -/
def evtShow (s : State) : State :=
  let size := 2 ^ (rd Reg.EVT_RSIZE s % 32)
  let used := (rd Reg.EVT_WIDX s + 2 ^ 32 - rd Reg.EVT_RIDX s) % 2 ^ 32
  setF Reg.EVT_STAT Reg.EVT_STAT_QLEVEL s.evt.queue.length
    (setB Reg.EVT_STAT Reg.EVT_STAT_LOSSPEND s.evt.pendLoss.isSome
      (setB Reg.EVT_STAT Reg.EVT_STAT_FULL (s.configured && used == size) s))

/-- The loss record of a pending loss count (R205). -/
def lossRecord (first count : Nat) (s : State) : EvRec :=
  { seq := first, source := 126, grade := 0, detail := count % 2 ^ 16, stgv := false, stage := 0,
    atf := count / 2 ^ 16 % 2 ^ 16, lt := s.lt % 2 ^ 48, tumble := on Reg.TMB_STAT Reg.TMB_STAT_ACTIVE s, key := [] }

/-- A pulse condition of the Hamper's sequencer has occurred: it holds in the next evaluation (R289). -/
def hmpPulse (code t : Nat) (s : State) : State := { s with hmp := { s.hmp with pulses := Tbl.put code t s.hmp.pulses } }

/-- When the queue has a free entry, a pending loss count is frozen into its record (R205). -/
def flushLoss (s : State) : State :=
  match s.evt.pendLoss with
  | none => s
  | some (first, count) =>
    if s.configured && s.evt.queue.length < queueSize then
      hmpPulse (128 + 126) s.lt
        { s with evt := { s.evt with queue := s.evt.queue ++ [lossRecord first count s], pendLoss := none } }
    else s

/-- The order of R204 between records of one FCLK: ascending source and then detail, a record behind the one it follows
from. -/
def keyBefore : List Nat → List Nat → Bool
  | [], _ => false
  | _ :: _, [] => false
  | a :: x, b :: y => decide (a < b) || (a == b && ((x.isEmpty && !y.isEmpty) || keyBefore x y))

/-- A record among the records of its FCLK. -/
def insertRec (r : EvRec) : List EvRec → List EvRec
  | [] => [r]
  | q :: t => if keyBefore r.key q.key then r :: q :: t else q :: insertRec r t

/-- The queue with a record placed among the records of its FCLK that end it; their numbers stay in order (R204). A takeover record
is the first of a series, so no record of its FCLK changes places with it (R215). -/
def place (r : EvRec) (q : List EvRec) : List EvRec :=
  let same (x : EvRec) : Bool := x.lt == r.lt && x.source != 126 && x.source != 123 && r.source != 123
  let tail := (q.reverse.takeWhile same).reverse
  let seqs := tail.map (·.seq) ++ [r.seq]
  q.take (q.length - tail.length) ++ (insertRec r tail).zipWith (fun x n => { x with seq := n }) seqs

/-- The place of a record of a source: EV13 comes first (R207). -/
def recKey (src detail : Nat) (s : State) : List Nat :=
  s.evt.anchor ++ [if src = 13 then 0 else src, detail % 2 ^ 16]

/-- A reaction whose records go behind that of a source (R204). -/
def under (src detail : Nat) (f : State → State) (s : State) : State :=
  let a := s.evt.anchor
  let t := f { s with evt := { s.evt with anchor := recKey src detail s } }
  { t with evt := { t.evt with anchor := a } }

/-- The numbers that a paired device assigns between two state copies are used up (R215). -/
def capped (s : State) : Bool :=
  match s.evt.cap with
  | none => false
  | some n => decide (65535 ≤ (rd Reg.EVT_NSEQ s + 2 ^ 32 - n) % 2 ^ 32)

/-- A record is lost: EVT_LOST and the flag (R205). -/
def lose (s : State) : State := setB Reg.EVT_EVT Reg.EVT_EVT_LOSS true (bump Reg.EVT_LOST whole 1 s)

/-- The LT of a record in full: the latest that has its 48 bits (R202, R289). -/
def recLt (r : EvRec) (s : State) : Nat := s.lt - (s.lt + 2 ^ 48 - r.lt % 2 ^ 48) % 2 ^ 48

/-- A record takes the next SEQ and joins the queue, or is lost and counted (R203-R205, R215). Before configuration completion
it waits without a number (R471). -/
def number (r : EvRec) (s0 : State) : State :=
  let s := hmpPulse (128 + r.source) (recLt r s0) (flushLoss s0)
  if s.configured && capped s then evtShow (lose { s with evt := { s.evt with capLost := s.evt.capLost + 1 } })
  else
    let r := { r with seq := rd Reg.EVT_NSEQ s }
    let s := when s.configured (wr Reg.EVT_NSEQ (rd Reg.EVT_NSEQ s + 1)) s
    evtShow <|
      if s.evt.queue.length < queueSize then { s with evt := { s.evt with queue := place r s.evt.queue } }
      else
        let p := match s.evt.pendLoss with
          | none => (r.seq, 1)
          | some (f, n) => (f, n + 1)
        lose { s with evt := { s.evt with pendLoss := some p } }

/-- Records accepted in the present FCLK (R204). -/
def accepted (s : State) : Nat := if s.evt.acc.1 = s.lt then s.evt.acc.2 else 0

/-- The records of the present FCLK at the end of the queue. -/
def tailNow (s : State) : Nat :=
  (s.evt.queue.reverse.takeWhile (fun x => x.lt == s.lt % 2 ^ 48 && x.source != 126 && x.source != 123)).length

/-- A record detected in the present FCLK. The unit accepts four in an FCLK; a fifth, the last in the order of R204, waits for
the next (R204, R205). Before configuration completion every detection waits (R471). -/
def accept (r : EvRec) (s : State) : State :=
  if !s.configured then number r s
  else if accepted s < 4 then number r { s with evt := { s.evt with acc := (s.lt, accepted s + 1) } }
  else
    let k := s.evt.queue.length - tailNow s
    let old := s.evt.wait.filter (fun x => x.lt != r.lt)
    let all := insertRec r (s.evt.queue.drop k ++ s.evt.wait.filter (fun x => x.lt == r.lt))
    let put := (all.take (tailNow s)).zipWith (fun x q => { x with seq := q.seq }) (s.evt.queue.drop k)
    { s with evt := { s.evt with queue := s.evt.queue.take k ++ put, wait := old ++ all.drop (tailNow s) } }

/-- A new FCLK: up to four of the records that waited are accepted (R204). -/
def acceptWaiting (s : State) : State :=
  if s.configured && !s.evt.wait.isEmpty then
    let l := s.evt.wait.take 4
    each l number { s with evt := { s.evt with wait := s.evt.wait.drop 4, acc := (s.lt, l.length) } }
  else s

/-- A state copy has been taken: the numbers of records lost beyond the limit are taken now, and their loss record follows
(R215). -/
def capCopy (s : State) : State :=
  let n := rd Reg.EVT_NSEQ s
  let k := s.evt.capLost
  let p := if k = 0 then s.evt.pendLoss
    else match s.evt.pendLoss with
      | none => some (n, k)
      | some (f, m) => some (f, m + k)
  evtShow (flushLoss (wr Reg.EVT_NSEQ (n + k) { s with evt := { s.evt with cap := some n, capLost := 0, pendLoss := p } }))

/-- A unit that no longer acts sends no copies: the limit ends with a last one (R215). -/
def capEnd (s : State) : State :=
  when s.evt.cap.isSome (fun s => let t := capCopy s; { t with evt := { t.evt with cap := none } }) s

/-- A record of `src` with a grade and DETAIL; of a Stage source, with STGV, STAGE and its ATF (R202, R469). -/
def record (src grade detail : Nat) (stg : Option Nat) (s : State) : State :=
  accept
    { seq := 0, source := src, grade := grade, detail := detail % 2 ^ 16, stgv := stg.isSome, stage := stg.getD 0,
      atf := match stg with
        | none => 0
        | some st => atfOf st s,
      lt := s.lt % 2 ^ 48, tumble := on Reg.TMB_STAT Reg.TMB_STAT_ACTIVE s, key := recKey src detail s } s

/-- A record whose ATF carries another value (R202). -/
def recordAtf (src grade detail atf : Nat) (stg : Option Nat) (s : State) : State :=
  accept
    { seq := 0, source := src, grade := grade, detail := detail % 2 ^ 16, stgv := stg.isSome, stage := stg.getD 0,
      atf := atf % 2 ^ 16, lt := s.lt % 2 ^ 48, tumble := on Reg.TMB_STAT Reg.TMB_STAT_ACTIVE s,
      key := recKey src detail s } s

/-! Upset counters (R211, R212). -/

/-- A counter's identity (R212): block number, resource and row. -/
def ctrId (block resource row : Nat) : Nat := 2048 * block + 8 * resource + row

/-- The default N and W (in µs) of a counter, as its owning chapter states them. -/
def ctrDefault (id : Nat) : Nat × Nat :=
  match id / 2048, id % 8 with
  | 2, 0 => (4, 1000000)
  | 4, 0 => (8, 10000000)
  | 4, 1 => (4, 10000000)
  | 5, 0 => (8, 1000000)
  | 5, 1 => (4, 10000000)
  | 6, 0 => (256, 1000000)
  | 6, 1 => (64, 1000000)
  | 6, 2 => (4, 1000000)
  | 6, 3 => (2, 10000000)
  | 6, 4 => (4, 10000000)
  | 7, 0 => (2, 60000000)
  | 8, 0 => (4, 60000000)
  | 8, 1 => (8, 1000000)
  | 9, 0 => (4, 10000000)
  | 12, 0 => (64, 1000000)
  | 12, 1 => (2, 10000000)
  | 12, 2 => (4, 10000000)
  | 12, 3 => (4, 1000000)
  | 11, 4 => (4, 1000000)
  | 13, 0 => (4, 1000000)
  | 13, 1 => (2, 3600000000)
  | 14, 0 => (64, 1000000)
  | 14, 1 => (4, 60000000)
  | 14, 2 => (8, 1000000)
  | 15, 0 => (8, 1000000)
  | 15, 1 => (64, 1000000)
  | 15, 2 => (4, 60000000)
  | 19, 0 => (8, 1000000)
  | _, _ => (255, 1000000)

/-- N and W of a counter: the image's, or the default (R211). -/
def ctrNW (id : Nat) (s : State) : Nat × Nat := Tbl.get (ctrDefault id) s.evt.ctrCfg id

/-- Level and overflow count of a counter. -/
def ctrOf (id : Nat) (s : State) : Nat × Nat := Tbl.get (0, 0) s.evt.ctr id

def setCtr (id : Nat) (x : Nat × Nat) (s : State) : State :=
  { s with evt := { s.evt with ctr := Tbl.put id x s.evt.ctr } }

/-- The leak period in FCLK: W/N rounded to nearest, ties upwards (R211). -/
def leakPeriod (id : Nat) (s : State) : Nat :=
  let (n, w) := ctrNW id s
  (2 * (w * 500) + n) / (2 * n)

/-- EVT_UCVAL and EVT_UCWIN show the counter that EVT_UCSEL names (R212, R219). -/
def ucShow (s : State) : State :=
  let id := rd Reg.EVT_UCSEL s % 2 ^ 16
  let (n, w) := ctrNW id s
  let (l, o) := ctrOf id s
  wr Reg.EVT_UCWIN w
    (setF Reg.EVT_UCVAL Reg.EVT_UCVAL_LEVEL l (setF Reg.EVT_UCVAL Reg.EVT_UCVAL_N n
      (setF Reg.EVT_UCVAL Reg.EVT_UCVAL_OVFCNT o s)))

/-- One upset of a counter (R211): L rises by 1; at N it overflows, L returns to 0 and EV127 is recorded. An upset comes before
a leak of the same FCLK. Answers whether it overflowed; the record of the grading that the overflow causes is the caller's,
after it. -/
def upset (id : Nat) (s : State) : State × Bool :=
  let (n, _) := ctrNW id s
  let (l, o) := ctrOf id s
  let (k, t, took) := Tbl.get (0, 0, 0) s.evt.leaks id
  let leaked := decide (0 < k) && t == s.lt
  let l := if leaked then l + took else l
  if l + 1 < n then
    let s := if leaked then { s with evt := { s.evt with leaks := Tbl.put id (k, t, 1) s.evt.leaks } } else s
    (ucShow (setCtr id (if leaked then l else l + 1, o) s), false)
  else
    let s := if leaked then { s with evt := { s.evt with leaks := Tbl.put id (k, t, 0) s.evt.leaks } } else s
    (record 127 0 id none
      (setB Reg.EVT_EVT Reg.EVT_EVT_OVERFLOW true (ucShow (setCtr id (0, min 0xFFFF (o + 1)) s))), true)

/-- One upset, and the reaction its overflow brings. -/
def upsetThen (id : Nat) (react : State → State) (s : State) : State :=
  let (t, o) := upset id s
  if o then under 127 id react t else t

/-! Causes. -/

def g3Of (st : Nat) (s : State) : List Cause := Tbl.get [] s.evt.g3 st
def g5Of (st : Nat) (s : State) : List Cause := Tbl.get [] s.evt.g5 st

/-- DERCAUSE reads 1 while a G3 cause of the Stage is active (R54, R55). -/
def setG3 (st : Nat) (l : List Cause) (s : State) : State :=
  setB (Reg.DRM_STAT st) Reg.DRM_STAT_DERCAUSE (!l.isEmpty) { s with evt := { s.evt with g3 := Tbl.put st l s.evt.g3 } }

/-- EVT_G5CAUSE.CAUSEACT shows whether a G5 cause of the Stage is active (R219). -/
def setG5 (st : Nat) (l : List Cause) (s : State) : State :=
  setBitAt Reg.EVT_G5CAUSE (4 + st) (!l.isEmpty) { s with evt := { s.evt with g5 := Tbl.put st l s.evt.g5 } }

def addCause (c : Cause) (l : List Cause) : List Cause := if c ∈ l then l else l ++ [c]

def addG3 (st : Nat) (c : Cause) (s : State) : State := setG3 st (addCause c (g3Of st s)) s
def dropG3 (st : Nat) (c : Cause) (s : State) : State := setG3 st ((g3Of st s).filter (fun d => d != c)) s
def addG5 (st : Nat) (c : Cause) (s : State) : State := setG5 st (addCause c (g5Of st s)) s
def dropG5 (st : Nat) (c : Cause) (s : State) : State := setG5 st ((g5Of st s).filter (fun d => d != c)) s

/-- A cause that is no longer active, dropped from every Stage. -/
def dropCause (c : Cause) (s : State) : State :=
  each (List.range 4) (fun st s => dropG5 st c (dropG3 st c s)) s

/-- A Stage is locked off (R208). -/
def locked (st : Nat) (s : State) : Bool := bitAt Reg.EVT_G5CAUSE st s

end Sys2Proof.Machine
end

