-- ==== Sys2Proof/Machine/Hold.lean ====
section
/-! DEFINITION. The shared reactions: the safe state of half-bridges, OFF on the leg links, pulses of a Stage, the grades
G3 to G5, and the retirement of half-bridges and links (R54, R108, R113, R158-R162, R189, R199, R208, R209). -/

namespace Sys2Proof.Machine

/-! Hold causes: the bits of PGN_HSTAT.HOLDCAUSE. -/
def holdStage : Nat := 1
def holdTrip : Nat := 2
def holdMissed : Nat := 4
def holdDisabled : Nat := 8

/-- Link states of LLK_STAT.STATE (R179, R201). -/
def lkSync : Nat := 0
def lkIdent : Nat := 1
def lkConfig : Nat := 2
def lkCal : Nat := 3
def lkReady : Nat := 4
def lkRetired : Nat := 6
def lkUnused : Nat := 7

/-- A half-bridge in use, its Stage (that of its carrier, R139), and its link (R172). -/
def hbUsed (h : Nat) (s : State) : Bool := on (Reg.PGN_HCFG h) Reg.PGN_HCFG_ENABLE s
def hbCarrier (h : Nat) (s : State) : Nat := fl (Reg.PGN_HCFG h) Reg.PGN_HCFG_CARRIER s
def hbStage (h : Nat) (s : State) : Nat := fl (Reg.PGN_CCFG (hbCarrier h s)) Reg.PGN_CCFG_STAGE s
def hbState (h : Nat) (s : State) : Nat := fl (Reg.PGN_HSTAT h) Reg.PGN_HSTAT_STATE s
def hbCause (h : Nat) (s : State) : Nat := fl (Reg.PGN_HSTAT h) Reg.PGN_HSTAT_HOLDCAUSE s
def isDirect (h : Nat) : Bool := decide (96 ≤ h)
def hbsOf (st : Nat) (s : State) : List Nat :=
  (List.range 104).filter (fun h => hbUsed h s && hbStage h s == st)

/-- The state of a link, and whether it carries traffic. -/
def linkState (n : Nat) (s : State) : Nat := fl (Reg.LLK_STAT n) Reg.LLK_STAT_STATE s
def linkUp (n : Nat) (s : State) : Bool :=
  on (Reg.LLK_LCFG n) Reg.LLK_LCFG_ENABLE s && linkState n s != lkRetired && linkState n s != lkUnused

/-- A link enters a state: LLK_STAT, LLK_GREADY and LLK_GRET show it (R201). -/
def setLinkState (n k : Nat) (s : State) : State :=
  setBitAt Reg.LLK_GREADY n (k == lkReady)
    (setBitAt Reg.LLK_GRET n (k == lkRetired)
      (setF (Reg.LLK_STAT n) Reg.LLK_STAT_STATE k (setLnk n { lnkOf n s with since := s.lt } s)))

/-- A flag of LLK_EVT, and its summary in LLK_GEVT (R201). -/
def linkFlag (n : Nat) (F : Fld) (s : State) : State :=
  setBitAt Reg.LLK_GEVT n true (setB (Reg.LLK_EVT n) F true s)

/-- The OFFs decided in the FCLK that ends go out, each three times in succession (R158, R189). -/
def offsOut (s : State) : State :=
  each (List.range 24) (fun n s =>
    let x := lnkOf n s
    if x.offMask = 0 then s
    else emit (.off n x.offMask) (setLnk n { x with offMask := 0, offs := x.offs ++ [x.offMask, x.offMask, x.offMask] } s)) s

/-- OFF on a link, decided in this FCLK: the OFFs of one FCLK are sent as one, whose mask covers them all (R158, R189). -/
def sendOff (n mask : Nat) (s : State) : State :=
  when (linkUp n s) (setLnk n { lnkOf n s with offMask := (lnkOf n s).offMask ||| mask }) s

/-- OFF for the listed half-bridges, on their links (R158). -/
def sendOffs (hs : List Nat) (s : State) : State :=
  each ((List.range 24).filter (fun n => hs.any (fun h => h / 4 == n && !isDirect h)))
    (fun n s => sendOff n (maskOf ((hs.filter (fun h => h / 4 == n)).map (· % 4))) s) s

/-- A half-bridge in the mask of a trip input (R223). -/
def tripMask (n h : Nat) (s : State) : Bool :=
  match h / 32 with
  | 0 => bitAt (Reg.PRT_TMASK0 n) (h % 32) s
  | 1 => bitAt (Reg.PRT_TMASK1 n) (h % 32) s
  | 2 => bitAt (Reg.PRT_TMASK2 n) (h % 32) s
  | _ => bitAt (Reg.PRT_TMASK3 n) (h % 32) s

/-- A set trip flag forces LEGm_EN of a direct leg in its mask low (R223). -/
def tripGate (h : Nat) (s : State) : Bool := (List.range 8).any (fun n => bitAt Reg.PRT_TFLAG n s && tripMask n h s)

/-- LEGm_EN as its pin carries it: behind the trip gate and the gate of Path A (R150, R223, R398). -/
def legEnPin (n : Nat) (s : State) : Bool :=
  s.legEn.testBit n && !tripGate (96 + n) s && on Reg.SAF_STAT Reg.SAF_STAT_PATHA s

/-- LEGn_EN rises at the stamp of the turn-on that this FCLK brought. -/
def legRise (n : Nat) (s : State) : State :=
  match (hbOf (96 + n) s).rise with
  | some t => emit (.pin "LEG_EN" n 1 t) (setHb (96 + n) { hbOf (96 + n) s with rise := none } s)
  | none => s

/-- The end of an FCLK: the turn-ons that it brought are on the pins. -/
def legRises (s : State) : State := each (List.range 8) legRise s

/-- A turn-on that starts a blanking window at its stamp (R228). -/
def noteOn (h : Nat) (hi : Bool) (stamp : Nat) (s : State) : State :=
  let k := 2 * h + (if hi then 1 else 0)
  { s with prt := { s.prt with ons := Tbl.put k (stamp :: (Tbl.get [] s.prt.ons k).filter (fun o => decide (s.lt < o + 2 ^ 15))) s.prt.ons } }

/-- A turn-on that does not execute starts none (R228). -/
def noteOff (h : Nat) (hi : Bool) (stamp : Nat) (s : State) : State :=
  let k := 2 * h + (if hi then 1 else 0)
  { s with prt := { s.prt with ons := Tbl.put k ((Tbl.get [] s.prt.ons k).erase stamp) s.prt.ons } }

/-- LEGn_EN of a direct leg goes low at once; a turn-on that this FCLK was still to bring does not reach the pin (R158, R224; log
entry 185). -/
def legOff (n : Nat) (s : State) : State :=
  let late := (hbOf (96 + n) s).rise.filter (fun t => decide (s.lt < t))
  match late with
  | some t =>
    noteOff (96 + n) (s.legP.testBit n) t
      { setHb (96 + n) { hbOf (96 + n) s with rise := none } s with legEn := setBit s.legEn n false }
  | none =>
    let low := legEnPin n s
    let s := legRise n s
    when low (emit (.pin "LEG_EN" n 0 s.lt)) { s with legEn := setBit s.legEn n false }

/-- BSCNT after a period that began with `c` and in which the low-side turn-ons `l` conduct (R156). -/
def nextCount (c : Nat) (l : List Nat) : Nat := if l.isEmpty then min 0xFFFF (c + 1) else 0

/-- A low-side turn-on that was not executed counts in no period (R151, R156, R158). -/
def uncountLow (h t : Nat) (s : State) : State :=
  let x := hbOf h s
  let go (l : List (Nat × List Nat)) (p : Nat × List Nat) : List (Nat × List Nat) :=
    let on_ := p.2.filter (· != t)
    match l with
    | [] => [(p.1, on_)]
    | (c, k) :: _ => (nextCount c k, on_) :: l
  let l := x.lows.reverse.foldl go []
  setF (Reg.PGN_HSTAT h) Reg.PGN_HSTAT_BSCNT ((l.head?.map (·.1)).getD (fl (Reg.PGN_HSTAT h) Reg.PGN_HSTAT_BSCNT s))
    (setHb h { x with lows := l, lowOn := if x.lowOn = t then 0 else x.lowOn } s)

/-- Both switches off, and every planned edge that has not executed cancelled (R158): a cancelled low-side turn-on counts in no
period (R156). A turn-off that has passed its stamp still awaits its acknowledgement. -/
def safeHb (h : Nat) (s : State) : State :=
  let lows := ((hbOf h s).edges.filter (fun e => e.on && !e.hi)).map (·.stamp)
  let cut := match (hbOf h s).rise with
    | some t => if isDirect h && decide (s.lt < t) && !s.legP.testBit (h - 96) then [t] else []
    | none => []
  let s := each (lows ++ cut) (uncountLow h) s
  let x := hbOf h s
  let s := setHb h
    { x with edges := [], side := none, extra := 0, drop := false, refresh := false, forced := none, resume := true,
             rf := none, back := none, pAt := none, ackBy := x.ackBy.filter (fun p => p.1 ≤ s.lt) } s
  let s := setB (Reg.PGN_HEVT h) Reg.PGN_HEVT_SAFE true
    (setB (Reg.PGN_HSTAT h) Reg.PGN_HSTAT_HION false (setB (Reg.PGN_HSTAT h) Reg.PGN_HSTAT_LOON false s))
  if isDirect h then legOff (h - 96) s
  else
    let k := lnkOf (h / 4) s
    let mine (c : Sent) : Bool := c.hb == h && decide (s.lt < c.edge.stamp)
    setLnk (h / 4)
      { k with sent := k.sent.map (fun c => if mine c then { c with closed := true } else c)
               tx := k.tx.filter (fun b => match b with
                 | .edge c _ _ => !mine c
                 | _ => true) } s

/-- A half-bridge in use is held with a cause (R158): HELD unless it is retired. -/
def holdHb (cause h : Nat) (s : State) : State :=
  if hbUsed h s then
    let run := hbState h s == 0
    let s := when run (setHb h { hbOf h s with heldPer := 0 }) s
    let s := setF (Reg.PGN_HSTAT h) Reg.PGN_HSTAT_HOLDCAUSE (hbCause h s ||| cause) s
    safeHb h (when run (setF (Reg.PGN_HSTAT h) Reg.PGN_HSTAT_STATE 1) s)
  else s

/-- Half-bridges held in one FCLK, with their OFF (R158, R189). -/
def holdMany (cause : Nat) (hs : List Nat) (s : State) : State :=
  let hs := hs.filter (fun h => hbUsed h s)
  sendOffs hs (each hs (holdHb cause) s)

/-- A hold cause cleared; the half-bridge stays HELD until it resumes (R160). -/
def clearHold (cause h : Nat) (s : State) : State :=
  let s := setHb h { hbOf h s with clearAt := s.lt } s
  setF (Reg.PGN_HSTAT h) Reg.PGN_HSTAT_HOLDCAUSE (setBit (hbCause h s) (Nat.log2 cause) false) s

/-! Stitch instances as the other chapters see them (R96, R97, R108). -/

def instUsed (n : Nat) (s : State) : Bool := on (Reg.STI_ICFG n) Reg.STI_ICFG_ENABLE s
def instStage (n : Nat) (s : State) : Nat := fl (Reg.STI_ICFG n) Reg.STI_ICFG_STAGE s
def instsOf (st : Nat) (s : State) : List Nat :=
  (List.range 128).filter (fun n => instUsed n s && instStage n s == st)

/-- The instance whose sink is a half-bridge. -/
def instOfHb (h : Nat) (s : State) : Option Nat :=
  (List.range 128).find? (fun n => instUsed n s && fl (Reg.STI_SINK n) Reg.STI_SINK_KIND s == 3
    && fl (Reg.STI_SINK n) Reg.STI_SINK_HB s == h)

/-- The hem group that an instance names under HEMLEG (R97). -/
def hemLeg (n : Nat) (s : State) : Option Nat :=
  if fl (Reg.STI_ISRC n) Reg.STI_ISRC_REFSEL s = 3 then some (fl (Reg.STI_ISRC n) Reg.STI_ISRC_REFIDX s) else none

/-- The leg instances of a hem group of a Stage. -/
def groupLegs (st g : Nat) (s : State) : List Nat :=
  (instsOf st s).filter (fun n => fl (Reg.STI_SINK n) Reg.STI_SINK_KIND s == 3 && hemLeg n s == some g)

def legRetired (n : Nat) (s : State) : Bool := on (Reg.STI_ISTAT n) Reg.STI_ISTAT_RETIRED s

/-- An instance enters TRACK, remembering its mode (R108). -/
def trackIn (n : Nat) (s : State) : State :=
  let m := fl (Reg.STI_ISTAT n) Reg.STI_ISTAT_MODE s
  if m = 3 then s
  else setF (Reg.STI_ISTAT n) Reg.STI_ISTAT_MODE 3 (setInst n { instOf n s with prev := m } s)

/-- An instance whose leg is not retired leaves TRACK for its previous mode (R108). -/
def trackOut (n : Nat) (s : State) : State :=
  if fl (Reg.STI_ISTAT n) Reg.STI_ISTAT_MODE s = 3 && !legRetired n s then
    setF (Reg.STI_ISTAT n) Reg.STI_ISTAT_MODE (instOf n s).prev s
  else s

/-- Roles of PAR_STAT.ROLE (R372). -/
def roleWait : Nat := 0
def roleSyncing : Nat := 1
def roleStandby : Nat := 2
def roleTaking : Nat := 3
def roleActive : Nat := 4
def roleFenced : Nat := 5

def paired (s : State) : Bool := on Reg.PAR_CFG Reg.PAR_CFG_EN s
def roleOf (s : State) : Nat := fl Reg.PAR_STAT Reg.PAR_STAT_ROLE s

/-- An unpaired device, or a unit that acts: TAKING or ACTIVE (R372). -/
def acting (s : State) : Bool := !paired s || roleOf s == roleActive || roleOf s == roleTaking

/-! Pulses of a Stage (R162). -/

def pulsesOn (st : Nat) (s : State) : Bool := on (Reg.PGN_SSTAT st) Reg.PGN_SSTAT_PEN s

/-- The pulses of a Stage are disabled: every half-bridge is held with cause STAGE, the instances enter TRACK, and EV47
records the change with its reason (R108, R162, R469). -/
def pulsesOff (st detail : Nat) (s : State) : State :=
  let was := pulsesOn st s
  let s := setB (Reg.PGN_SSTAT st) Reg.PGN_SSTAT_PEN false s
  let s := when was (record 47 0 detail (some st)) s
  holdMany holdStage (hbsOf st s) (each (instsOf st s) trackIn s)

/-- The safety evaluator permits pulses: neither path is off (R398, R399). -/
def pathsOn (s : State) : Bool := on Reg.SAF_STAT Reg.SAF_STAT_PATHA s && on Reg.SAF_STAT Reg.SAF_STAT_PATHB s

/-! Grades. -/

/-- G3 against a Stage: n rises by 1, the cause is active while listed, and EV36 records n (R54, R208, R469); n stops at 255
(DESIGN CHOICE, log entry 134). -/
def gradeG3 (st : Nat) (c : Option Cause) (s : State) : State :=
  let s := bump (Reg.DRM_DERN st) ⟨0, 8⟩ 1 s
  let s := match c with
    | some c => addG3 st c s
    | none => s
  record 36 0 (rd (Reg.DRM_DERN st) s) (some st) s

/-- G5 against a Stage: it is locked off, EV45 records a new lock, and its pulses are disabled (R208, R210), with the
reason that EV47 gives. -/
def gradeG5For (reason st : Nat) (c : Option Cause) (s : State) : State :=
  let was := locked st s
  let s := setBitAt Reg.EVT_G5CAUSE st true s
  let s := match c with
    | some c => addG5 st c s
    | none => s
  let s := { s with evt := { s.evt with recov := if s.evt.recov.contains st then s.evt.recov else s.evt.recov ++ [st] } }
  let s := setDrm st { drmOf st s with sawLock := true } s
  let s := when (!was) (record 45 0 st (some st)) s
  pulsesOff st reason s

def gradeG5 (st : Nat) (c : Option Cause) (s : State) : State := gradeG5For 2 st c s

/-- G5 against every Stage of a list. -/
def gradeG5All (sts : List Nat) (c : Option Cause) (s : State) : State := each sts (fun st s => gradeG5 st c s) s

/-- G3 against every Stage of a list. -/
def gradeG3All (sts : List Nat) (c : Option Cause) (s : State) : State := each sts (fun st s => gradeG3 st c s) s

/-- The pulses of a Stage are enabled (R162): EV46, the cause STAGE of its half-bridges clears, and its instances leave
TRACK. Under a disabled module the Stage is graded G5 at once (R170). A unit that does not act enables none (R372). -/
def pulsesEnable (st : Nat) (s : State) : State :=
  if pulsesOn st s || locked st s || !pathsOn s || !acting s then s
  else
    let s := record 46 0 0 (some st) (setB (Reg.PGN_SSTAT st) Reg.PGN_SSTAT_PEN true s)
    if bitAt Reg.PGN_GSTAT 0 s then gradeG5For 4 st (some ⟨63, 0⟩) s
    else each (instsOf st s) trackOut (each (hbsOf st s) (clearHold holdStage) s)

/-- A Stage without a Drum has its pulses enabled whenever nothing forbids them, if a half-bridge or an instance of it is in
use (DEDUCED, log entry 22). -/
def pulsesAuto (st : Nat) (s : State) : State :=
  if s.configured && !hasDrum st s && !((hbsOf st s).isEmpty && (instsOf st s).isEmpty) then pulsesEnable st s else s

/-- The port of every endpoint that this device drives (R371, R389). -/
def portOf (s : State) : Nat := fl Reg.PAR_CFG Reg.PAR_CFG_UNIT s

/-- A unit takes a role; REF_ACT is high in TAKING and ACTIVE (R372, R381). -/
def setRole (r : Nat) (s : State) : State :=
  emit (.pin "REF_ACT" 0 (if r = roleTaking ∨ r = roleActive then 1 else 0) s.lt)
    (setF Reg.PAR_STAT Reg.PAR_STAT_ROLE r s)

/-- An ACTIVE unit enters FENCED (R385). -/
def fence (s : State) : State :=
  if paired s && roleOf s == roleActive then
    setB Reg.PAR_EVT Reg.PAR_EVT_FENCED true (record 125 0 0x200 none
      (setRole roleFenced (capEnd { s with par := { s.par with restarted := false } })))
  else s

/-- A unit enters SYNCING (R372): it has no pulses enabled there (R377), so its half-bridges are held, without an OFF, since
the other unit drives them. -/
def enterSyncing (s : State) : State :=
  let s := capEnd s
  let s := each ((List.range 4).filter (fun st => pulsesOn st s)) (fun st s =>
    each (hbsOf st s) (holdHb holdStage)
      (each (instsOf st s) trackIn (setB (Reg.PGN_SSTAT st) Reg.PGN_SSTAT_PEN false s))) s
  setRole roleSyncing { s with par := { s.par with answered := false, aligned := false, ready := none, run := 0, since := none, aliveStop := false, own := [] } }

/-- The newest epoch seen, extended from the low bits that a block or frame carries (R384). -/
def epochSeen (bits low : Nat) (s : State) : State :=
  let d := (low + 2 ^ 32 - s.par.seen % 2 ^ bits) % 2 ^ bits
  if 2 * d < 2 ^ bits then { s with par := { s.par with seen := (s.par.seen + d) % 2 ^ 32 } } else s

/-- The instant H of the last change of ownership (R384). -/
def handOf (s : State) : Nat := rd64 Reg.PAR_HAND_LO Reg.PAR_HAND_HI s

/-- An EDGE with this stamp leaves the unit: of a TAKING unit from H on, of an ACTIVE unit that has answered a hand-back
before H (R372, R384, R387). -/
def sendsEdge (stamp : Nat) (s : State) : Bool :=
  !paired s || (roleOf s == roleActive && (!s.par.answered || decide (stamp < handOf s)))
    || (roleOf s == roleTaking && decide (handOf s ≤ stamp))

/-- A store of the cycle program or of the test port reaches its register: after configuration, and on a paired device in
a unit that acts (R372). -/
def stores (s : State) : Bool := s.configured && acting s

/-- An UNCONFIGURED device (R430). -/
def unconfigured (s : State) : Bool := !s.configured && fl Reg.SYS_CFGSTAT Reg.SYS_CFGSTAT_STATE s == 5

/-- The image enables test mode (R217, R431). -/
def testMode (s : State) : Bool := on Reg.TMB_STAT Reg.TMB_STAT_TESTMODE s

/-- The indices by which software consumes rings: a standby accepts them (R372). -/
def ringIndex (a : Nat) : Bool :=
  a == Reg.EVT_RIDX || a == Reg.SPN_RXRIDX || ((List.range 64).map Reg.RNS_RRIDX).contains a

/-- A register write by a writer (0-15 tasks, 16 the loader, 17 the error task, 18 the test port) reaches its register:
R301, R372, R445. -/
def mayStore (a by_ : Nat) (s : State) : Bool :=
  let here := s.configured && (acting s || a / 2 ^ 16 == 0x400F || ringIndex a)
  if by_ = 16 then false
  else if by_ = 18 then
    (here && testMode s) || (unconfigured s && (a / 2 ^ 16 == 0x4000 || a / 2 ^ 16 == 0x4012 || a / 2 ^ 16 == 0x4015))
  else here

/-- A storage with a mismatch has been written and verified again: its cause is no longer active (R213). -/
def verified (a : Nat) (s : State) : State :=
  let s := when (s.evt.torn.contains a) (fun s =>
    { s with evt := { s.evt with torn := s.evt.torn.filter (fun b => b != a) } }) s
  if s.evt.mism.contains a then
    dropCause ⟨3, a⟩ { s with evt := { s.evt with mism := s.evt.mism.filter (fun b => b != a) } }
  else s

/-- A verified pair ends the hold of the value word at `a` (R8). -/
def endHold (a : Nat) (s : State) : State := verified a { s with pwHeld := Tbl.put a none s.pwHeld }

/-- A pair command of a writer that reaches its register ends the hold and acts (R8). -/
def pairFrom (a by_ : Nat) (f : State → State) (s : State) : State :=
  when (mayStore a by_ s) (fun s => f (endHold a s)) s

/-- A pair command of a store that reaches its register. -/
def pairStore (a : Nat) (f : State → State) (s : State) : State := when (stores s) (fun s => f (endHold a s)) s

/-- The bytes of a number, most significant first. -/
def bytesBE (n v : Nat) : List Nat := (List.range n).map (fun i => v / 256 ^ (n - 1 - i) % 256)

/-- CTOFS is loaded: before it is, nothing is converted to or from CT (R17). -/
def ctAnchored (s : State) : Bool := on Reg.BOB_CTSTAT Reg.BOB_CTSTAT_ANCHORED s

/-- CT in ns (R17). -/
def ctNow (s : State) : Nat := (s.lt / 8 + rd64 Reg.BOB_CTOFS_LO Reg.BOB_CTOFS_HI s) % 2 ^ 64

def spanRole (p : Nat) (s : State) : Nat := rd (Reg.SPN_PCFG p) s % 4
def ownAddr (s : State) : Nat := fl Reg.SPN_CFG Reg.SPN_CFG_ADDR s

/-- The HSP header of a frame that starts now on a port (R342): VER, CLASS, DIR, DSTK, SRC, DST, SEQ, EPOCH, CTS. CTS is 0 while
LT has no CT (DESIGN CHOICE, log entry 148). -/
def hspHeader (cls dstk dst seq p : Nat) (s : State) : List Nat :=
  [1, cls, if (List.range p).any (fun q => spanRole q s == spanRole p s) then 1 else 0, dstk, ownAddr s, dst, seq,
   rd Reg.PAR_EPOCH s % 2 ^ 16, if ctAnchored s then ctNow s / 16 % 2 ^ 28 else 0]

/-- A header of a frame type as sixteen bytes, most significant first (R342). -/
def hspBytes (kind : Nat) (h : List Nat) : List Nat :=
  let f (i k : Nat) : Nat := h.getD i 0 * 2 ^ k
  bytesBE 16 (f 0 124 + kind * 2 ^ 120 + f 1 118 + f 2 117 + f 3 115 + f 4 94 + f 5 76 + f 6 44 + f 7 28 + f 8 0)

/-- A frame with its Ethernet header, padded to 64 bytes with its FCS (R339, R341). -/
def etherFrame (kind : Nat) (h payload : List Nat) (s : State) : List Nat :=
  let b := bytesBE 6 (rd Reg.SPN_GMAC_LO s + 2 ^ 32 * (rd Reg.SPN_GMAC_HI s % 2 ^ 16))
    ++ bytesBE 6 (rd Reg.SPN_MAC_LO s + 2 ^ 32 * (rd Reg.SPN_MAC_HI s % 2 ^ 16))
    ++ bytesBE 2 (rd Reg.SPN_ETYPE s % 2 ^ 16) ++ hspBytes kind h ++ payload
  let b := b ++ List.replicate (60 - b.length) 0
  b ++ (bytesBE 4 (crc32 b)).reverse

/-- A port that sends: it has a role and its link, and is not retired (R339, R340, R368). -/
def portLink (p : Nat) (s : State) : Bool := bitAt (Reg.SPN_PSTAT p) 0 s
def portRetired (p : Nat) (s : State) : Bool := bitAt (Reg.SPN_PSTAT p) 1 s
def portUp (p : Nat) (s : State) : Bool := spanRole p s != 0 && portLink p s && !portRetired p s
def portFree (p : Nat) (s : State) : Bool := portUp p s && decide (Tbl.get 0 s.spn.free p ≤ s.lt)

/-- The cluster cycle, FREE0 and the offset in the current cycle, ns (R349, R351). -/
def cycleNs (s : State) : Nat := 1000 * max 1 (rd Reg.SPN_CCYC s % 2 ^ 17)
def freeNs (s : State) : Nat := 16 * (rd Reg.SPN_FREE s % 2 ^ 24)
def cycleOfs (s : State) : Nat := ctNow s % cycleNs s
def cycleNow (s : State) : Nat := ctNow s / cycleNs s

/-- The wire time of a payload in ns (R341). -/
def wireNs (n : Nat) : Nat := (max 64 (34 + n) + 20) * 8

/-- An urgent frame may start now: in the scheduled part of the cycle only while no scheduled frame is queued, and at most one
between two scheduled frames (R351; log entry 168). Before the CT anchor no cycle runs. -/
def urgentMay (p : Nat) (s : State) : Bool :=
  portFree p s && (!ctAnchored s || decide (freeNs s ≤ cycleOfs s)
    || ((Tbl.get [] s.spn.queue p).isEmpty && !(Tbl.get [] s.spn.fwd p).any (fun x => x.cls == 0)
      && !s.spn.urgGone.contains p))

/-- A port is taken by a frame of a payload length, from now on. -/
def portTaken (p n : Nat) (urgent : Bool) (s : State) : State :=
  { s with spn := { s.spn with
    free := Tbl.put p (s.lt + 8 * wireNs n) s.spn.free
    urgGone := if !urgent || s.spn.urgGone.contains p then s.spn.urgGone else s.spn.urgGone ++ [p] } }

/-- An urgent frame starts on a port; a PTP message has no HSP header, and an event message carries CT (R347, R351). -/
def urgentStart (p : Nat) (x : Urgent) (s : State) : State :=
  let s := portTaken p x.data.length true s
  emit (.span p x.kind (if x.kind = 16 then [fl Reg.SPN_PTP Reg.SPN_PTP_DOMAIN s, ctNow s, 0]
    else if x.kind = 18 then [fl Reg.SPN_PTP Reg.SPN_PTP_DOMAIN s, ctNow s]
    else if x.kind = 17 then fl Reg.SPN_PTP Reg.SPN_PTP_DOMAIN s :: x.data
    else etherFrame x.kind (hspHeader 1 x.dstk x.dst 0 p s) x.data s)) s

/-- The urgent frames that wait on a port; a unit that does not act sends REFEREE frames alone, and the others are dropped (R372). -/
def urgentWait (p : Nat) (s : State) : List Urgent := (Tbl.get [] s.spn.urgent p).filter (fun x => acting s || x.kind == 9)

/-- The first urgent frame that waits on a port starts if it may. -/
def urgentGo (p : Nat) (s : State) : State :=
  match urgentWait p s with
  | [] => s
  | x :: t => if urgentMay p s then urgentStart p x { s with spn := { s.spn with urgent := Tbl.put p t s.spn.urgent } } else s

/-- An urgent frame joins those that wait on a port, and goes out at the first opportunity (R346, R351). -/
def urgentPut (p : Nat) (x : Urgent) (s : State) : State :=
  if portUp p s then
    urgentGo p { s with spn := { s.spn with urgent := Tbl.put p (Tbl.get [] s.spn.urgent p ++ [x]) s.spn.urgent } }
  else s

/-- An urgent frame on every cluster-role port (R340, R346); a unit that does not act sends REFEREE frames alone (R372). -/
def urgentOut (x : Urgent) (s : State) : State :=
  if acting s || x.kind == 9 then each ((List.range 4).filter (fun p => spanRole p s == 1)) (fun p => urgentPut p x) s else s

/-- An urgent frame to the own cluster. -/
def sendUrgent (kind : Nat) (payload : List Nat) (s : State) : State := urgentOut ⟨kind, 1, ownAddr s, payload⟩ s

/-- A REFEREE frame of this unit: KIND, UNIT, role, health word and epoch (R381). -/
def refereeFrame (kind : Nat) (s : State) : State :=
  sendUrgent 9 ([kind, fl Reg.PAR_CFG Reg.PAR_CFG_UNIT s, roleOf s, 0] ++ bytesBE 4 (rd Reg.PAR_HEALTH s)
    ++ bytesBE 4 (rd Reg.PAR_EPOCH s)) s

/-- G4 (R208, R209, R380). An unpaired device, or one whose standby is not reported healthy, executes it as a G5 against
every Stage. An ACTIVE unit stops REF_ALIVE and sends a REFEREE REQUEST; another unit clears HEALTHY,
whose fall is EV125 (R379). -/
def gradeG4 (c : Option Cause) (s : State) : State :=
  if paired s then
    if roleOf s = roleActive then
      let s := refereeFrame 3 { s with par := { s.par with aliveStop := true } }
      if on Reg.PAR_STAT Reg.PAR_STAT_PHEALTHY s then s else gradeG5All (List.range 4) c s
    else
      let was := on Reg.PAR_STAT Reg.PAR_STAT_HEALTHY s
      let s := setB Reg.PAR_STAT Reg.PAR_STAT_HEALTHY false { s with par := { s.par with g4 := true } }
      when was (fun s => record 125 0 (rd Reg.PAR_HEALTH s) none (setB Reg.PAR_EVT Reg.PAR_EVT_HEALTHFALL true s)) s
  else gradeG5All (List.range 4) c s

/-- The overflow of a counter whose reaction is G4: the record of the grading carries G4 (R209, R211). -/
def overflowG4 (src detail : Nat) (c : Option Cause) (s : State) : State :=
  under src detail (gradeG4 c) (record src 4 detail none s)

/-! Retirement. -/

/-- A cause that lasts until the next configuration: a retirement (R210). -/
def permanent (src id : Nat) : Cause := ⟨src, id⟩

/-- The learned profiles of a half-bridge are lost (R195). -/
def dropProfiles (h : Nat) (s : State) : State :=
  if isDirect h then s
  else each (List.range 32)
    (fun i s => wr (Reg.LLK_PROF h (i / 16) (i / 8 % 2) (i % 8)) 0 s) s

/-- The retirement of a half-bridge has been recorded, and its safe state waits for the next FCLK (R215). -/
def retiring (h : Nat) (s : State) : Bool := s.evt.react.contains (.hb h)

/-- Whether a half-bridge leaves no other leg of its group in use: it is no leg of a group of at least two, or the last
leg of its group (R113). -/
def lastLeg (h : Nat) (s : State) : Bool :=
  match instOfHb h s with
  | none => true
  | some n =>
    match hemLeg n s with
    | none => true
    | some g =>
      let legs := groupLegs (hbStage h s) g s
      decide (legs.length < 2) || (legs.filter (fun m => m != n && !legRetired m s
        && !retiring (fl (Reg.STI_SINK m) Reg.STI_SINK_HB s) s)).isEmpty

/-- The retired state of a half-bridge: the safe state, the learned profiles lost, and its leg retired (R113, R159). -/
def retireState (h : Nat) (s : State) : State :=
  let s := setB (Reg.PGN_HEVT h) Reg.PGN_HEVT_RETIRED true s
  let s := sendOffs [h] (safeHb h (setF (Reg.PGN_HSTAT h) Reg.PGN_HSTAT_STATE 2 s))
  let s := dropProfiles h s
  match instOfHb h s with
  | none => s
  | some n =>
    setB (Reg.STI_ISTAT n) Reg.STI_ISTAT_RETIRED true (setB (Reg.STI_IEVT n) Reg.STI_IEVT_RETIRED true (trackIn n s))

/-- The leg's share is divided among the remaining legs of its group; a Stage that a G5 of the recovery has locked skips it
(R113, R214). -/
def redistribute (h : Nat) (s : State) : State :=
  match instOfHb h s with
  | none => s
  | some n => setInst n { instOf n s with gone := !s.evt.recov.contains (hbStage h s) } s

/-- The retirement record of a half-bridge: EV60 with its grade; its safe state and redistribution wait for the next FCLK
(R113, R159, R215). -/
def retireRecord (h : Nat) (s : State) : State :=
  let s := record 60 (if lastLeg h s then 5 else 2) h (some (hbStage h s)) s
  { s with evt := { s.evt with react := s.evt.react ++ [.hb h] } }

/-- A half-bridge is to be retired for a cause of the power stage: its record, and where it is the last leg of its group the G5
against its Stage (R113, R159). -/
def retireHb (h : Nat) (s : State) : State :=
  if hbState h s = 2 || retiring h s then s
  else when (lastLeg h s) (under 60 h (gradeG5 (hbStage h s) (some (permanent 60 h))))
    (retireRecord h { s with par := { s.par with power := s.par.power ++ [h] } })

/-- A link is to be retired (R199): EV72; the steps that follow wait for the next FCLK (R214). -/
def retireLink (n : Nat) (s : State) : State :=
  if linkState n s = lkRetired || s.evt.react.contains (.link n) then s
  else
    let s := linkFlag n Reg.LLK_EVT_RETIRED (record 72 2 n none s)
    { s with evt := { s.evt with react := s.evt.react ++ [.link n] } }

/-- The steps of a link's retirement after its record (R199): each enabled half-bridge through R159 in ascending number, OFF for
1 µs, and the link stopped. -/
def retireLinkSteps (n : Nat) (s : State) : State :=
  let hs := ((List.range 4).map (4 * n + ·)).filter (fun h => hbUsed h s && hbState h s != 2 && !retiring h s)
  let (s, last) := hs.foldl (fun p h => (retireRecord h p.1, if lastLeg h p.1 then p.2 ++ [h] else p.2)) (s, [])
  let s := under 61 0 (each last (fun h => gradeG5 (hbStage h s) (some (permanent 60 h)))) s
  let s := setLinkState n lkRetired (sendOff n 15 s)
  setLnk n { lnkOf n s with offUntil := s.lt + us, sent := [], tx := [], rtq := none } s

/-- A new FCLK: the reactions recorded in the FCLK before are executed, in detection order; the recovery ends when none is
left (R214, R215). -/
def executeReactions (s : State) : State :=
  if s.evt.react.isEmpty && s.evt.recov.isEmpty then s
  else
    let l := s.evt.react
    let s := each l (fun r s => match r with
      | .link n => retireLinkSteps n s
      | .hb h => redistribute h (retireState h s)) { s with evt := { s.evt with react := [] } }
    if s.evt.react.isEmpty then { s with evt := { s.evt with recov := [] } } else s

/-- An upset of a link's counter, row `row` of R198; its overflow retires the link. -/
def linkUpset (n row : Nat) (s : State) : State := upsetThen (ctrId 6 n row) (retireLink n) s

/-- R188, steps 1 to 3, of an edge that will not be delivered: cause MISSED, OFF, G1 and the missed-edge counter. -/
def missedEdge (src h : Nat) (s : State) : State :=
  let n := h / 4
  let s := holdMany holdMissed [h] s
  let s := setLnk n { lnkOf n s with cleanFrom := s.lt } s
  let s := bump (Reg.LLK_CNT1 n) ⟨0, 16⟩ 1 (linkFlag n Reg.LLK_EVT_MISSED s)
  linkUpset n 2 (record src 1 h none s)

/-! Integrity of paired values (R213). -/

/-- The address of a storage from its block and the low half of its address. -/
def storeAddr (b : Nat) (a : BitVec 16) : Nat := (0x4000 + b) * 2 ^ 16 + a.toNat

/-- A mismatch of the storage `a` of block `b`, which belongs to `stg` or to no Stage: the last good copy is used, EV2
graded G1 and the block's counter; a second one of the same storage, EV3 graded G3, against every Stage for one of no
Stage. The counter's overflow grades G4. -/
def integrity (b a : Nat) (stg : Option Nat) (s : State) : State :=
  let again := a ∈ s.evt.mism
  let s := if again then
      let s := record 3 3 0 stg s
      under 3 0 (gradeG3All (match stg with
        | some st => [st]
        | none => List.range 4) (some ⟨3, a⟩)) s
    else record 2 1 0 stg { s with evt := { s.evt with mism := s.evt.mism ++ [a] } }
  upsetThen (ctrId 19 b 0) (overflowG4 2 0 (some (permanent 2 b))) s

/-- The storage of a Tack slot, and of a segment of the state copy, beside the registers of their blocks (log entry 133). -/
def slotStore (n : Nat) : Nat := 0x40028000 + n
def copyStore (k : Nat) : Nat := 0x400F8000 + k

/-- The Stage that owns the storage at an address: a Stage's register set, an instance, a half-bridge or a carrier of it. -/
def storeOwner (a : Nat) (s : State) : Option Nat :=
  let o := a % 2 ^ 16
  match a / 2 ^ 16 with
  | 0x4001 => if o < 0x400 then some (o / 0x100) else none
  | 0x4003 => if o < 0x1000 then some (o / 0x400) else none
  | 0x4004 =>
    if o < 0x2000 then some (instStage (o / 0x40) s)
    else if o < 0x6000 then some (instStage ((o - 0x2000) / 0x80) s)
    else if o < 0x7000 then some (instStage ((o - 0x6000) / 0x20) s)
    else if o < 0x7100 then some ((o - 0x7000) / 0x40) else none
  | 0x4005 =>
    if o < 0x400 then some (fl (Reg.PGN_CCFG (o / 0x40)) Reg.PGN_CCFG_STAGE s)
    else if 0x2000 ≤ o ∧ o < 0x4000 then some (hbStage ((o - 0x2000) / 0x40) s)
    else if 0x4000 ≤ o ∧ o < 0x4100 then some ((o - 0x4000) / 0x40) else none
  | _ => none

/-- A use of the storage at an address finds a mismatch (R213). -/
def mismatch (a : Nat) (s : State) : State := integrity (a / 2 ^ 16 % 2 ^ 14) a (storeOwner a s) s

/-- A use of the storages that `mine` names: each whose word and complement disagree is a mismatch, and the use goes on with the
last good copy, which State holds (R213; log entry 125). -/
def useStores (mine : Nat → Bool) (s : State) : State := each (s.evt.torn.filter mine) mismatch s

/-- A use of one storage. -/
def useStore (a : Nat) (s : State) : State := useStores (fun b => b == a) s

end Sys2Proof.Machine
end

