-- ==== Sys2Proof/Machine/RinseCore.lean ====
section
/-! DEFINITION. What the Rinse chain shares with the banks, the Bobbin and the Hamper: AT stamps from the anchors, the angle
and time grids, the timing of sequence entries, and the stop of a lane (R239, R242, R243, R266-R275). -/

namespace Sys2Proof.Machine

/-! AT at an earlier LT (R266). -/

/-- How long word updates and jumps are kept: twice the largest RDLY, in eu (R272). -/
def keepFor : Nat := 2 ^ 29

/-- Entries of a history, newest first, with the instant of each: those of the time kept, and the one in force when it began. -/
def recent {α : Type} (lt : Nat) (at_ : α → Nat) : List α → List α
  | [] => []
  | x :: t => if lt < at_ x + keepFor then x :: recent lt at_ t else [x]

/-- The anchor of a Stage in force at an LT: LT, AT and word. -/
def anchorAt (st lt : Nat) (s : State) : Nat × Nat × Nat :=
  let l := (bobOf st s).anchors
  (l.find? (fun a => a.1 ≤ lt)).getD (l.getLastD (s.cc, 0, wordOf st s))

/-- The AT of a Stage at a stamp in 1/64 eu, in 2^-48 cycle; 0 on a Stage without angle time. -/
def phaseAt (st t64 : Nat) (s : State) : Nat :=
  if hasAngle st s then
    let (lt, ph, w) := anchorAt st (t64 / 64) s
    (Int.emod (ph + roundUp ((w : Int) * ((t64 : Int) - 64 * lt)) 1024) (2 ^ 80)).toNat
  else 0

/-- The jumps of ALIGNs that acted after an LT, in 2^-48 cycle (R268). -/
def jumpsAfter (st lt : Nat) (s : State) : Int :=
  (((bobOf st s).jumps.filter (fun p => decide (lt < p.1))).map (fun p => p.2 * 2 ^ 16)).sum

/-- A phase as AT: the 16 low fraction bits are dropped (R15). -/
def atShown (a : Nat) : Nat := a / 2 ^ 16 % 2 ^ 64

/-- A lane's stamp in 1/64 eu as a released stamp in eu, and one in 2^-48 cycle as 64 bits, rounded to nearest (R267). -/
def ltOf64 (t : Nat) : Nat := (t + 32) / 64
def atOf48 (a : Nat) : Nat := (a + 2 ^ 15) / 2 ^ 16 % 2 ^ 64

/-! Lane configuration (R261). -/

def laneUsed (l : Nat) (s : State) : Bool := on (Reg.RNS_LCFG l) Reg.RNS_LCFG_ENABLE s
def laneSrc (l : Nat) (s : State) : Nat := fl (Reg.RNS_LCFG l) Reg.RNS_LCFG_SRC s
def laneStages (l : Nat) (s : State) : Nat := fl (Reg.RNS_LCFG l) Reg.RNS_LCFG_NSTG s
def laneMode (l : Nat) (s : State) : Nat := fl (Reg.RNS_LCFG l) Reg.RNS_LCFG_OUTMODE s
def laneStage (l : Nat) (s : State) : Nat := fl (Reg.RNS_LCFG l) Reg.RNS_LCFG_STAGE s

/-- Code and shift of a stage (RNS_STGA, RNS_STGB). -/
def stageCode (l i : Nat) (s : State) : Nat :=
  if i < 3 then rd (Reg.RNS_STGA l) s / 2 ^ (9 * i) % 2 ^ 5 else rd (Reg.RNS_STGB l) s / 2 ^ (9 * (i - 3)) % 2 ^ 5
def stageShift (l i : Nat) (s : State) : Nat :=
  if i < 3 then rd (Reg.RNS_STGA l) s / 2 ^ (9 * i + 5) % 2 ^ 4
  else rd (Reg.RNS_STGB l) s / 2 ^ (9 * (i - 3) + 5) % 2 ^ 4

/-- The order and ratio of a CIC response (R263). -/
def cicOf : Nat → Option (Nat × Nat)
  | 1 => some (3, 4) | 2 => some (3, 8) | 3 => some (4, 2) | 4 => some (4, 4) | 5 => some (4, 8) | 6 => some (4, 16)
  | 7 => some (4, 32) | 8 => some (5, 4) | 9 => some (5, 8) | 10 => some (5, 16) | 11 => some (5, 32)
  | 30 => some (2, 2)
  | _ => none

/-- Decimation and settling of a response (R263). The group delay is half the settling; a FIR has one tap more. -/
def respD (code : Nat) : Nat :=
  match cicOf code with
  | some (_, r) => r
  | none => if (12 ≤ code && code ≤ 17) || (21 ≤ code && code ≤ 23) then 2 else 1
def respSettle (code : Nat) : Nat :=
  match cicOf code with
  | some (k, r) => k * (r - 1)
  | none => ([0, 0, 0, 0, 0, 0, 0, 0, 0, 0, 0, 0, 6, 10, 18, 30, 42, 58, 10, 12, 14] ++
      [116, 62, 30, 12, 20, 32, 62, 126, 190, 0, 0]).getD code 0

/-- The decimations of the stages before stage `i`, multiplied. -/
def decBefore (l i : Nat) (s : State) : Nat :=
  (List.range i).foldl (fun a j => a * respD (stageCode l j s)) 1

/-- S of R273. -/
def laneSettle (l : Nat) (s : State) : Nat :=
  let n := laneStages l s
  (List.range n).foldl (fun a i => a + respSettle (stageCode l i s) * decBefore l i s) 0
    + (if laneMode l s = 0 then 0 else 15 * decBefore l n s)

/-! Sequence entries (R239, R242, R243). -/

def entIntlv (b e : Nat) (s : State) : Bool := fl (Reg.ADC_SEQ_A b e) Reg.ADC_SEQ_A_MODE s == 1
def entNin (b e : Nat) (s : State) : Nat := fl (Reg.ADC_SEQ_A b e) Reg.ADC_SEQ_A_NIN s + 1
def entAvg (b e : Nat) (s : State) : Bool := on (Reg.ADC_SEQ_A b e) Reg.ADC_SEQ_A_AVG s
def entEnd (b e : Nat) (s : State) : Bool := on (Reg.ADC_SEQ_A b e) Reg.ADC_SEQ_A_END s
def entNext (b e : Nat) (s : State) : Nat := fl (Reg.ADC_SEQ_A b e) Reg.ADC_SEQ_A_NEXT s
def entCount (b e : Nat) (s : State) : Nat := fl (Reg.ADC_SEQ_A b e) Reg.ADC_SEQ_A_COUNT s + 1

/-- The half word of input `i` of an entry: its code and its stream. -/
def entHalf (b e i : Nat) (s : State) : Nat :=
  (if i < 2 then rd (Reg.ADC_SEQ_B b e) s else rd (Reg.ADC_SEQ_C b e) s) / 2 ^ (16 * (i % 2)) % 2 ^ 16
def entIn (b e i : Nat) (s : State) : Nat := entHalf b e i s % 2 ^ 5
def entStream (b e i : Nat) (s : State) : Nat := 16 * b + entHalf b e i s / 2 ^ 8 % 2 ^ 4

/-- The length of a round in FCLK as the next round sees it, and to a busy end (R239, R243, R255). -/
def roundLen (three intlv : Bool) (nin : Nat) : Nat := if three && !intlv && nin == 4 then 40 else 20
def busyLen (three intlv : Bool) (nin : Nat) : Nat := if intlv then 35 else roundLen three intlv nin

/-- The start of the next round after a round of length `len` (R239). -/
def roundStep (len : Nat) (was next : Bool) : Nat := if was then (if next then 20 else 35) else len

/-- The conversions of a round: input, position and instant after its start in 1/64 eu (R239, R255). -/
def roundConv (three intlv : Bool) (nin : Nat) : List (Nat × Nat × Nat) :=
  if intlv then
    if three then [(0, 0, 0), (0, 1, 6827), (0, 2, 13653)] else [(0, 0, 0), (0, 1, 5120), (0, 2, 10240), (0, 3, 15360)]
  else (List.range nin).map (fun i => if three && i == 3 then (i, 0, 20480) else (i, i, 0))

/-- The last sampling instant of a round, after its start, in 1/64 eu. -/
def roundLast (three intlv : Bool) (nin : Nat) : Nat := (roundConv three intlv nin).foldl (fun a c => max a c.2.2) 0

/-- The delivery delay of input `i` of an entry, in 1/64 eu (R272). -/
def entDelay (b e i : Nat) (three : Bool) (s : State) : Nat :=
  let (iv, nin, n) := (entIntlv b e s, entNin b e s, entCount b e s)
  let step := roundLen three iv nin * 1024
  let mine := ((roundConv three iv nin).filter (fun c => c.1 == i)).map (·.2.2)
  let first := if entAvg b e s then ((n - 1) * step * mine.length + 2 * mine.sum) / (2 * mine.length) else mine.headD 0
  30 * 1024 + ((n - 1) * step + roundLast three iv nin - first)

/-- The largest delivery delay of the entries that feed a raw stream. -/
def streamDelay (r : Nat) (three : Bool) (s : State) : Nat :=
  (List.range 32).foldl (fun a e =>
    (List.range (entNin (r / 16) e s)).foldl (fun a i =>
      if entStream (r / 16) e i s = r then max a (entDelay (r / 16) e i three s) else a) a) 0

/-- MINDLY of a lane at an input spacing, in FCLK (R272). -/
def minDly (l ispc : Nat) (three : Bool) (s : State) : Nat :=
  let n := laneStages l s
  let grp := (List.range n).foldl (fun a i => a + 32 * respSettle (stageCode l i s) * (ispc * decBefore l i s)) 0
  let res := if laneMode l s = 0 then 0 else 64 * (8 * ispc * decBefore l n s) + 32 * 1024
  ceilDiv (grp + res + streamDelay (laneSrc l s) three s + 16 * 1024 * n) 1024

/-! The grids (R269). -/

/-- The steps from an AT or LT value to the first grid point after it: angle grid of N points from φ0, or time grid. -/
def gridStep (angle : Bool) (n ph x : Nat) : Nat :=
  if angle then
    let rel := (x % 2 ^ 32 + 2 ^ 32 - ph % 2 ^ 32) % 2 ^ 32
    ceilDiv ((rel + 1) * n) (2 ^ 32) * 2 ^ 32 / n - rel
  else n - (x + n - ph % n) % n

/-- N of the angle grid or PER of the time grid. -/
def laneGridN (l : Nat) (s : State) : Nat :=
  if laneMode l s = 1 then rd (Reg.RNS_RPER l) s % 2 ^ 13 + 1 else rd (Reg.RNS_RPER l) s

/-- The first grid point of a lane after a value of its basis. -/
def nextGrid (l x : Nat) (s : State) : Nat :=
  (x + gridStep (laneMode l s == 1) (laneGridN l s) (rd (Reg.RNS_RPH l) s) x) % 2 ^ 64

/-- A value lies after another on a 64-bit circle. -/
def after64 (a b : Nat) : Bool :=
  let d := (a + 2 ^ 64 - b % 2 ^ 64) % 2 ^ 64
  d != 0 && decide (d < 2 ^ 63)

/-! Flags and stops. -/

/-- RNS_GEVT shows whether a lane has a flag set. -/
def laneSum (l : Nat) (s : State) : State :=
  setBitAt (if l < 32 then Reg.RNS_GEVT0 else Reg.RNS_GEVT1) (l % 32) (rd (Reg.RNS_LEVT l) s % 2 ^ 8 != 0) s

/-- A flag of RNS_LEVT. -/
def laneFlag (l : Nat) (F : Fld) (s : State) : State := laneSum l (setB (Reg.RNS_LEVT l) F true s)

/-- VALID of a lane, and its bit of RNS_GVALID. -/
def setLaneValid (l : Nat) (b : Bool) (s : State) : State :=
  setBitAt (if l < 32 then Reg.RNS_GVALID0 else Reg.RNS_GVALID1) (l % 32) b (setB (Reg.RNS_LSTAT l) Reg.RNS_LSTAT_VALID b s)

/-- The stamps of every sample the lanes of a Stage hold move with the jump, and on a forward jump no grid point at or before
the new AT is produced any more (R268, R271). `new` is the AT after the jump. -/
def alignLanes (st new : Nat) (j : Int) (s : State) : State :=
  let mv (x : RSmp) : RSmp := { x with at_ := (Int.emod (x.at_ + j * 2 ^ 16) (2 ^ 80)).toNat }
  each ((List.range 64).filter (fun l => laneUsed l s && laneStage l s == st)) (fun l s =>
    let x := laneOf l s
    let fwd := decide (0 < j) && laneMode l s == 1
    let old := x.grid.getD (Int.emod (new - j) (2 ^ 64)).toNat
    let skips := fwd && !after64 (nextGrid l old s) new
    let last := match x.grid with
      | some g => if after64 g new then g else new
      | none => new
    let s := setLane l
      { x with win := x.win.map (fun p => (p.1, p.2.map mv)), outs := x.outs.map mv,
               wait := x.wait.map (fun p => ({ p.1 with at_ := (Int.emod (p.1.at_ + j) (2 ^ 64)).toNat }, p.2)),
               grid := if fwd then some last else x.grid } s
    when skips (laneFlag l Reg.RNS_LEVT_ALIGNSKIP) s) s

end Sys2Proof.Machine
end

