-- ==== Sys2Proof/Machine/HamperCore.lean ====
section
/-! DEFINITION. The Hamper: capture states, channels and records, rate reduction and gaps, the trigger sequencer, threshold
units, pin delays and skews (R279-R293). -/

namespace Sys2Proof.Machine

/-! States of HMP_STAT.STATE (R279). -/
def hmpIdle : Nat := 0
def hmpArmed : Nat := 1
def hmpTriggered : Nat := 2
def hmpComplete : Nat := 3

def hmpState (s : State) : Nat := fl Reg.HMP_STAT Reg.HMP_STAT_STATE s
def setHmpState (k : Nat) (s : State) : State := setF Reg.HMP_STAT Reg.HMP_STAT_STATE k s

def chUsed (c : Nat) (s : State) : Bool := on (Reg.HMP_CCFG c) Reg.HMP_CCFG_EN s
def chWide (c : Nat) (s : State) : Bool := on (Reg.HMP_CCFG c) Reg.HMP_CCFG_FMT s
def chRaw (c : Nat) (s : State) : Bool := on (Reg.HMP_CCFG c) Reg.HMP_CCFG_KIND s
def chSrc (c : Nat) (s : State) : Nat := fl (Reg.HMP_CCFG c) Reg.HMP_CCFG_SRC s

/-- The Stage of a channel: that of its lane, or STAGE of a raw channel (R281, R282). -/
def chStage (c : Nat) (s : State) : Nat :=
  if chRaw c s then fl (Reg.HMP_CCFG c) Reg.HMP_CCFG_STAGE s else laneStage (chSrc c s) s

/-- Bytes of a record, and the entries of the ring (R281, R284). -/
def chRec (c : Nat) (s : State) : Nat := if chWide c s then 16 else 8
def chRing (c : Nat) (s : State) : Nat := 2 ^ fl (Reg.HMP_CCFG c) Reg.HMP_CCFG_RSZ s / chRec c s

def chDone (c : Nat) (s : State) : Bool := on (Reg.HMP_CSTAT c) Reg.HMP_CSTAT_DONE s
def chK (c : Nat) (s : State) : Nat := fl (Reg.HMP_CSTAT c) Reg.HMP_CSTAT_K s
def chans (s : State) : List Nat := (List.range 64).filter (fun c => chUsed c s)

/-- T_trig. -/
def trigAt (s : State) : Nat := rd64 Reg.HMP_TRIG_LO Reg.HMP_TRIG_HI s

/-! Records (R281, R283). -/

/-- The words of an entry as its ring holds it. -/
def entWords (c : Nat) (e : HEnt) (s : State) : List Nat :=
  let v := codeOf 24 e.v
  let m := if e.mark then 2 ^ 31 else 0
  if chWide c s then
    [v + 2 ^ 24 * c + m, e.at_ % 2 ^ 32, e.lt % 2 ^ 32, e.lt / 2 ^ 32 % 2 ^ 16 + 2 ^ 16 * (e.at_ / 2 ^ 32 % 2 ^ 16)]
  else [v + 2 ^ 24 * (e.lt / 2 ^ 32 % 2 ^ 7) + m, e.lt % 2 ^ 32]

/-- An entry joins the channel's FIFO and takes the next entry index (R284). -/
def chPush (c : Nat) (e : HEnt) (s : State) : State :=
  let x := chanOf c s
  setChan c { x with fifo := x.fifo ++ [e], ents := (e :: x.ents).take (chRing c s), count := x.count + 1 } s

/-- A marker with the LT at which the change or the gap began (R283). -/
def chMark (c value lt : Nat) (s : State) : State :=
  chPush c ⟨true, value, lt, atShown (phaseAt (chStage c s) (64 * lt) s)⟩ s

/-- A source stamp trimmed (R282): LT less the trim, AT less the trim times W / 2^20. -/
def chTrimmed (c : Nat) (x : Smp) (s : State) : Nat × Nat :=
  let t := (chanOf c s).trim
  let w : Int := (anchorAt (chStage c s) x.lt s).2.2
  ((Int.emod ((x.lt : Int) - t) (2 ^ 64)).toNat, (Int.emod ((x.at_ : Int) - roundUp (t * w) (2 ^ 20)) (2 ^ 64)).toNat)

/-! Post-trigger records (R285). -/

/-- The valid pre-trigger records before an index: the number up to PRE, and the index of the first. -/
def prePoint (c idx : Nat) (s : State) : Nat × Nat :=
  let x := chanOf c s
  let numbered := x.ents.zip ((List.range x.ents.length).map (fun i => x.count - 1 - i))
  let mine := ((numbered.filter (fun p => !p.1.mark && decide (p.2 < idx))).map (·.2)).take (rd (Reg.HMP_CPRE c) s)
  (mine.length, mine.getLastD idx)

/-- HMP_CFIRST and PRESHORT of a channel whose HMP_CTIDX is latched. -/
def preShow (c : Nat) (s : State) : State :=
  let (n, first) := prePoint c (chanOf c s).tidx s
  wr (Reg.HMP_CFIRST c) first
    (setB (Reg.HMP_CSTAT c) Reg.HMP_CSTAT_PRESHORT (decide (n < rd (Reg.HMP_CPRE c) s)) s)

/-- The capture is complete once every enabled channel is done: EV107 (R279). -/
def captureCheck (s : State) : State :=
  if hmpState s == hmpTriggered && (chans s).all (fun c => chDone c s) then
    record 107 0 0 none (setB Reg.HMP_EVT Reg.HMP_EVT_COMPLETE true (setHmpState hmpComplete s))
  else s

/-- A stored sample at or after T_trig with its entry index: the first latches HMP_CTIDX, the POST-th ends the channel. -/
def chPost (c idx : Nat) (s : State) : State :=
  let s := if on (Reg.HMP_CSTAT c) Reg.HMP_CSTAT_TRIGSEEN s then s
    else preShow c (wr (Reg.HMP_CTIDX c) idx (setChan c { chanOf c s with tidx := idx } (setB (Reg.HMP_CSTAT c) Reg.HMP_CSTAT_TRIGSEEN true s)))
  let x := chanOf c s
  let s := setChan c { x with post := x.post + 1 } s
  if rd (Reg.HMP_CPOST c) s ≤ x.post + 1 then preShow c (setB (Reg.HMP_CSTAT c) Reg.HMP_CSTAT_DONE true s) else s

/-! Skew (R293). -/

/-- The first rising crossing of the skew level between two samples, at or after T_trig. -/
def skewPair (c : Nat) (a b : Int × Int) (s : State) : State :=
  let lev := signed 24 (rd (Reg.HMP_CSKLEV c) s)
  if on (Reg.HMP_CCFG c) Reg.HMP_CCFG_SKEWEN s && hmpState s == hmpTriggered
      && !bitAt (Reg.HMP_SKEW c) 31 s && decide (a.1 < lev) && decide (lev ≤ b.1) then
    let t := a.2 + roundDiv ((lev - a.1) * (b.2 - a.2)) (b.1 - a.1).toNat
    if (trigAt s : Int) ≤ t then
      wr (Reg.HMP_SKEW c) (codeOf 24 (satBits 24 (t - trigAt s)) + 2 ^ 31) s
    else s
  else s

/-! The trigger (R285, R289, R291). -/

/-- What a channel had stored when the trigger was accepted: the records from T_trig on, and the skew crossing. -/
def chScan (c : Nat) (s : State) : State :=
  let x := chanOf c s
  let old := x.ents.reverse
  let base := x.count - old.length
  let numbered := old.zip ((List.range old.length).map (base + ·))
  let s := each numbered (fun p s =>
    if !p.1.mark && decide (trigAt s ≤ p.1.lt) && !chDone c s then chPost c p.2 s else s) s
  let vals := (old.filter (fun e => !e.mark)).map (fun e => (e.v, (e.lt : Int)))
  each (vals.zip (vals.drop 1)) (fun p => skewPair c p.1 p.2) s

/-- CT in ns of an LT (R17). -/
def ctOf (lt : Nat) (s : State) : Nat := (lt / 8 + rd64 Reg.BOB_CTOFS_LO Reg.BOB_CTOFS_HI s) % 2 ^ 64

/-- LT of a CT (R291). -/
def ltOfCt (ct : Nat) (s : State) : Nat :=
  8 * ((ct + 2 ^ 64 - rd64 Reg.BOB_CTOFS_LO Reg.BOB_CTOFS_HI s % 2 ^ 64) % 2 ^ 64) % 2 ^ 64

def pinIsOut (n : Nat) (s : State) : Bool := bitAt Reg.HMP_TBCFG n s

/-- A pulse due on each output pin 64 FCLK after an instant (R291, R292). -/
def pinsDue (t : Nat) (s : State) : State :=
  { s with hmp := { s.hmp with pinOut := s.hmp.pinOut
      ++ ((List.range 2).filter (fun n => pinIsOut n s)).map (fun n => (n, t + 64 * fclk, s.lt)) } }

/-- A trigger accepted in this FCLK with its instant and condition code. -/
def trigger (t code : Nat) (s : State) : State :=
  let s := setHmpState hmpTriggered (setF Reg.HMP_STAT Reg.HMP_STAT_SRC (code / 16) (wr64 Reg.HMP_TRIG_LO Reg.HMP_TRIG_HI t s))
  let s := each (List.range 4) (fun st s => wr (Reg.HMP_TRIGAT st) (atShown (phaseAt st (64 * t) s)) s) s
  let s := record 106 0 0 none (setB Reg.HMP_EVT Reg.HMP_EVT_TRIGGERED true s)
  let s := if on Reg.HMP_TBCFG Reg.HMP_TBCFG_TXSPAN s && ctAnchored s then
      sendUrgent 7 (bytesBE 8 (ctOf t s) ++ bytesBE 4 s.hmp.trigSer ++ [code, 0, 0, 0])
        { s with hmp := { s.hmp with trigSer := (s.hmp.trigSer + 1) % 2 ^ 32 } }
    else s
  captureCheck (each (chans s) (fun c s => chScan c (wr (Reg.HMP_SKEW c) 0 s)) (pinsDue t s))

/-! Rate reduction, gaps, and the admission of a sample (R286, R287). -/

/-- The channel writes: it is not done, in a capture that is armed or triggered (R280, R285). -/
def chLive (c : Nat) (s : State) : Bool := (hmpState s == hmpArmed || hmpState s == hmpTriggered) && !chDone c s

/-- Markers that found the FIFO full join it as room comes (R286). -/
def chMarks (c : Nat) (s : State) : State :=
  let x := chanOf c s
  let n := min x.marks.length (64 - x.fifo.length)
  each (x.marks.take n) (fun p => chMark c p.1 p.2) (setChan c { x with marks := x.marks.drop n } s)

/-- A FIFO with more than 48 records in an FCLK reduces the channel's stored rate, once in that FCLK (R286). -/
def chReduce (c : Nat) (s : State) : State :=
  let k := chK c s
  if chLive c s && 48 < (chanOf c s).fifo.length && on (Reg.HMP_CCFG c) Reg.HMP_CCFG_RATEEN s && k < 7
      && (chanOf c s).reducedAt != some s.lt then
    let s := record 108 0 c none (setB Reg.HMP_EVT Reg.HMP_EVT_RATE true (setF (Reg.HMP_CSTAT c) Reg.HMP_CSTAT_K (k + 1) s))
    let x := chanOf c s
    chMarks c (setChan c { x with phase := 0, reducedAt := some s.lt, marks := x.marks ++ [(k + 1, s.lt)] } s)
  else s

/-- Whether the FIFO admits a sample: none of a channel whose region lies in a retired DRAM (R287, R316). -/
def chRoom (c : Nat) (s : State) : Bool :=
  let n := (chanOf c s).fifo.length
  if dramBase ≤ rd (Reg.HMP_CBASE c) s && on Reg.MEM_STAT Reg.MEM_STAT_DRAMRET s then false
  else if chK c s == 7 || !on (Reg.HMP_CCFG c) Reg.HMP_CCFG_RATEEN s then decide (n ≤ 48) else decide (n < 64)

/-- The run of lost samples ends with one gap marker (R287). -/
def chGap (c : Nat) (s : State) : State :=
  let x := chanOf c s
  if 0 < x.lost && chLive c s && chRoom c s then
    chMark c (0xF + 16 * min x.lost (2 ^ 20 - 1)) x.lostAt (record 108 0 (0x100 + c) none (setChan c { x with lost := 0 } s))
  else s

/-- A sample is lost (R287). -/
def chLose (c : Nat) (s : State) : State :=
  let x := chanOf c s
  let s := setChan c { x with lost := x.lost + 1, lostAt := if x.lost = 0 then s.lt else x.lostAt } s
  setB Reg.HMP_EVT Reg.HMP_EVT_LOSS true (setB (Reg.HMP_CSTAT c) Reg.HMP_CSTAT_LOSS true (bump (Reg.HMP_CLOST c) whole 1 s))

/-- An admitted sample is stored, and counts as a post-trigger record from T_trig on. -/
def chStore (c : Nat) (v : Int) (lt at_ : Nat) (s : State) : State :=
  let idx := (chanOf c s).count
  let s := chPush c ⟨false, v, lt, at_⟩ s
  let s := if hmpState s == hmpTriggered && decide (trigAt s ≤ lt) then chPost c idx s else s
  captureCheck s

/-- The threshold units of a channel see a source sample (R290). -/
def thresholds (c : Nat) (v : Int) (lt : Nat) (s : State) : State :=
  each ((List.range 16).filter (fun u =>
      bitAt (Reg.HMP_THCFG u) 0 s && rd (Reg.HMP_THCFG u) s / 2 % 2 ^ 6 == c)) (fun u s =>
    let lev := signed 24 (rd (Reg.HMP_THLEV u) s)
    let hys : Int := rd (Reg.HMP_THHYS u) s % 2 ^ 23
    let dir := rd (Reg.HMP_THCFG u) s / 2 ^ 7 % 4
    let (low, high) := Tbl.get (false, false) s.hmp.thr u
    let rise := low && decide (lev ≤ v)
    let fall := high && decide (v ≤ lev)
    let low := (low && !rise) || decide (v < lev - hys)
    let high := (high && !fall) || decide (lev + hys < v)
    let s := { s with hmp := { s.hmp with thr := Tbl.put u (low, high) s.hmp.thr } }
    when ((rise && dir != 1) || (fall && dir != 0)) (hmpPulse (0x10 + u) lt) s) s

/-- A source sample reaches a channel (R280). -/
def chSample (c : Nat) (x : Smp) (s : State) : State :=
  if chLive c s then
    let (lt, at_) := chTrimmed c x s
    let s := if hmpState s == hmpArmed then thresholds c x.v lt s else s
    let s := match (chanOf c s).prev with
      | some p => skewPair c p (x.v, (lt : Int)) s
      | none => s
    let s := setChan c { chanOf c s with prev := some (x.v, (lt : Int)) } s
    let s := chGap c s
    if !chRoom c s then chLose c s
    else
      let y := chanOf c s
      let s := setChan c { y with phase := y.phase + 1 } s
      if y.phase % 2 ^ chK c s = 0 then chReduce c (chStore c x.v lt at_ s) else s
  else s

/-- A source sample reaches every channel that takes its source. -/
def hmpSample (raw : Bool) (src : Nat) (x : Smp) (s : State) : State :=
  each ((chans s).filter (fun c => chRaw c s == raw && chSrc c s == src)) (chSample · x) s

/-- A sample of a raw stream, with its stamp in 1/64 eu, reaches its channels: each takes the AT of its Stage at that stamp
(R266, R281). -/
def hmpRaw (r : Nat) (v : Int) (t64 : Nat) (s : State) : State :=
  each ((chans s).filter (fun c => chRaw c s && chSrc c s == r)) (fun c s =>
    chSample c ⟨v, ltOf64 t64, atShown (phaseAt (chStage c s) t64 s)⟩ s) s

/-- The rate reductions of a new FCLK (R286). -/
def hmpTick (s : State) : State :=
  each ((chans s).filter (fun c => decide (48 < (chanOf c s).fifo.length))) chReduce s

/-- The writer drains a channel's FIFO in one burst of up to 64 bytes, within one aligned block (R286, R299). -/
def chDrain (c : Nat) (s : State) : State :=
  let x := chanOf c s
  let w := rd (Reg.HMP_CWIDX c) s
  let per := 64 / chRec c s
  let n := min x.fifo.length (per - w % per)
  let base := rd (Reg.HMP_CBASE c) s
  let put := (x.fifo.take n).zip ((List.range n).map (fun i => base + chRec c s * ((w + i) % chRing c s)))
  let s := each put (fun p s => stBytes p.2 ((entWords c p.1 s).flatMap (bytesLE 4)) s) s
  chMarks c (wr (Reg.HMP_CWIDX c) (w + n) (setChan c { x with fifo := x.fifo.drop n } s))

/-! The sequencer (R288, R289). -/

/-- Whether a condition holds in this evaluation. -/
def condHolds (code : Nat) (s : State) : Bool :=
  if code = 1 then true
  else if 8 ≤ code ∧ code ≤ 0xB then decide (rd (Reg.HMP_CLIM (code - 8)) s ≤ rd (Reg.HMP_CNT (code - 8)) s)
  else if 0xC ≤ code ∧ code ≤ 0xF then s.hmp.expired.contains (code - 0xC)
  else if 0x20 ≤ code ∧ code ≤ 0x4F then on (Reg.PRT_CSTAT (code - 0x20)) Reg.PRT_CSTAT_OUT s
  else s.hmp.pulses.any (fun p => p.1 == code)

/-- T_trig of a condition that triggers in this FCLK. -/
def condAt (code : Nat) (neg : Bool) (s : State) : Nat :=
  if neg || code == 6 then s.lt
  else if 0xC ≤ code ∧ code ≤ 0xF then
    (Tbl.get s.lt s.hmp.timers (code - 0xC) + rd (Reg.HMP_TLIM (code - 0xC)) s) % 2 ^ 64
  else Tbl.get s.lt s.hmp.pulses code

/-- An arm word whose condition holds. -/
def armHolds (w : Word) (s : State) : Bool :=
  fldGet Reg.HMP_STA_EN w != 0 && (condHolds (fldGet Reg.HMP_STA_COND w) s != (fldGet Reg.HMP_STA_NEG w != 0))

/-- An arm is taken: its actions in the order of R288. -/
def armTake (w : Word) (s : State) : State :=
  let c := fldGet Reg.HMP_STA_CSEL w
  let t := fldGet Reg.HMP_STA_TSEL w
  let code := fldGet Reg.HMP_STA_COND w
  let at_ := condAt code (fldGet Reg.HMP_STA_NEG w != 0) s
  let s := when (fldGet Reg.HMP_STA_CCLR w != 0) (wr (Reg.HMP_CNT c) 0) s
  let s := when (fldGet Reg.HMP_STA_CINC w != 0) (bump (Reg.HMP_CNT c) whole 1) s
  let s := when (fldGet Reg.HMP_STA_TSTART w != 0) (fun s =>
    { s with hmp := { s.hmp with timers := Tbl.put t s.lt s.hmp.timers, expired := s.hmp.expired.filter (· != t) } }) s
  let s := setF Reg.HMP_STAT Reg.HMP_STAT_SEQ (fldGet Reg.HMP_STA_NEXT w) s
  when (fldGet Reg.HMP_STA_TRIG w != 0) (trigger at_ code) s

/-- One evaluation, once per FCLK: the pulse conditions hold in this one only. -/
def hmpEval (s : State) : State :=
  let q := fl Reg.HMP_STAT Reg.HMP_STAT_SEQ s
  let a := rdW (Reg.HMP_STA q) s
  let b := rdW (Reg.HMP_STB q) s
  let t := if hmpState s != hmpArmed then s
    else if armHolds a s then armTake a s
    else if armHolds b s then armTake b s
    else s
  { t with hmp := { t.hmp with pulses := t.hmp.pulses.filter (fun p => !s.hmp.pulses.contains p) } }

/-- A timer expires at its start plus HMP_TLIM (R288). -/
def timerExpire (t : Nat) (s : State) : State :=
  match s.hmp.timers.find? (fun p => p.1 == t) with
  | some (_, t0) =>
    if t0 + rd (Reg.HMP_TLIM t) s ≤ s.lt && !s.hmp.expired.contains t then
      { s with hmp := { s.hmp with expired := s.hmp.expired ++ [t] } }
    else s
  | none => s

/-! Commands of the capture (R279). -/

def hmpResult (r : Nat) (s : State) : State := setF Reg.HMP_STAT Reg.HMP_STAT_RESULT r s

/-- Entry to ARMED: the sequencer, counters, timers, thresholds and channels start afresh, and EV105 is recorded. -/
def hmpArmIn (s : State) : State :=
  let s := { s with hmp := { s.hmp with timers := [], expired := [], thr := [], pulses := [] } }
  let s := each (List.range 4) (fun c => wr (Reg.HMP_CNT c) 0) (setF Reg.HMP_STAT Reg.HMP_STAT_SEQ 0 s)
  let s := each (chans s) (fun c s =>
    wr (Reg.HMP_CSTAT c) 0 (wr (Reg.HMP_CWIDX c) 0 (wr (Reg.HMP_CLOST c) 0
      (setChan c { HmpCh.reset with trim := signed 24 (rd (Reg.HMP_CTRIM c) s) } s)))) s
  record 105 0 0 none (setHmpState hmpArmed s)

/-- ARM: taken in IDLE, else ignored and counted. -/
def hmpArm (s : State) : State × Bool :=
  if hmpState s == hmpIdle then (hmpArmIn s, true) else (bump Reg.HMP_ARMIGN ⟨0, 16⟩ 1 s, false)

def hmpArmCmd (s : State) : State := let (t, ok) := hmpArm s; hmpResult (if ok then 1 else 2) t

/-- FORCE is a pulse condition (R289). -/
def hmpForce (s : State) : State :=
  if hmpState s == hmpArmed then hmpResult 1 (hmpPulse 6 s.lt s) else hmpResult 2 s

/-- ABORT discards a capture in progress (R216, R279). -/
def hmpAbort (s : State) : State :=
  let st := hmpState s
  if st == hmpComplete then hmpResult 3 s
  else if st == hmpIdle then hmpResult 2 s
  else hmpResult 1 (each (chans s) (fun c s => setChan c { chanOf c s with fifo := [], ents := [], lost := 0, marks := [] } s)
    (setHmpState hmpIdle s))

def hmpRelease (s : State) : State :=
  if hmpState s == hmpComplete then hmpResult 1 (setHmpState hmpIdle s) else hmpResult 2 s

/-! Pin delays (R291, R292). -/

/-- An output pin pulses exactly at its instant, unless the deciding FCLK came later. -/
def pinPulse (n : Nat) (s : State) : State :=
  match s.hmp.pinOut.find? (fun p => p.1 == n) with
  | none => s
  | some (_, at_, decided) =>
    let rest (s : State) : State := { s with hmp := { s.hmp with pinOut := s.hmp.pinOut.eraseP (fun p => p.1 == n) } }
    if at_ < decided then rest (setB Reg.HMP_EVT Reg.HMP_EVT_PINLATE true s)
    else if at_ < s.lt + fclk then
      rest (emit (.pin "TRIG" n 0 (at_ + fclk * fl Reg.HMP_TBCFG Reg.HMP_TBCFG_PW s)) (emit (.pin "TRIG" n 1 at_) s))
    else s

def dlyReg (n : Nat) : Nat := if n = 0 then Reg.HMP_TBDLY0 else Reg.HMP_TBDLY1

/-- A calibration of an input pin measures D (R292). -/
def pinCal (n tc arrival : Nat) (s : State) : State :=
  let d : Int := (arrival : Int) - tc
  let held : Nat := rd (dlyReg n) s % 2 ^ 16
  let ok := decide (0 ≤ d) && decide (d ≤ 65535) && (!bitAt Reg.HMP_TBSTAT n s
    || decide ((d - (held : Int)).natAbs ≤ fl Reg.HMP_TBCFG Reg.HMP_TBCFG_TBTOL s))
  let s := { s with hmp := { s.hmp with calTc := s.hmp.calTc.filter (fun p => p.1 != n) } }
  if ok then setBitAt Reg.HMP_TBSTAT n true (wr (dlyReg n) d.toNat s)
  else record 109 0 n none (setB Reg.HMP_EVT Reg.HMP_EVT_CALFAIL true s)

/-- T_c of a TCAL frame, as LT: a pulse that has arrived since T_c is measured at once, else the next one. -/
def calReceived (tc : Nat) (s : State) : State :=
  each ((List.range 2).filter (fun n => !pinIsOut n s)) (fun n s =>
    match s.hmp.pinIn.find? (fun p => p.1 == n) with
    | some (_, a) =>
      if tc ≤ a then pinCal n tc a s else { s with hmp := { s.hmp with calTc := Tbl.put n tc s.hmp.calTc } }
    | none => { s with hmp := { s.hmp with calTc := Tbl.put n tc s.hmp.calTc } }) s

/-- A rising edge on an input pin, at its first synchronised FCLK. -/
def pinArrive (n : Nat) (s : State) : State :=
  if pinIsOut n s || !s.configured then s
  else
    let s := { s with hmp := { s.hmp with pinIn := Tbl.put n s.lt s.hmp.pinIn } }
    let s := if bitAt Reg.HMP_TBSTAT n s then hmpPulse (2 + n) ((s.lt + 2 ^ 64 - rd (dlyReg n) s % 2 ^ 16) % 2 ^ 64) s
      else bump Reg.HMP_TBSTAT ⟨16 + 8 * n, 8⟩ 1 s
    match s.hmp.calTc.find? (fun p => p.1 == n) with
    | some (_, tc) => if tc ≤ s.lt then pinCal n tc s.lt s else s
    | none => s

/-- CAL: the span message with T_c, and the pulse 64 FCLK after T_c on every output pin (R292, R346). -/
def hmpCal (s : State) : State :=
  let tc := s.lt / 2 ^ 32 * 2 ^ 32 + rd Reg.HMP_CALT s
  let s := if ctAnchored s then
      sendUrgent 8 (bytesBE 8 (ctOf tc s) ++ bytesBE 4 s.hmp.calSer ++ [rd Reg.HMP_TBCFG s % 4, 0, 0, 0])
        { s with hmp := { s.hmp with calSer := (s.hmp.calSer + 1) % 2 ^ 32 } }
    else s
  hmpResult 1 (pinsDue tc s)

/-- A trigger message received (R291): condition 0x05 with its instant, ignored without CT. -/
def trigReceived (ct : Nat) (s : State) : State :=
  if !on Reg.HMP_TBCFG Reg.HMP_TBCFG_RXSPAN s then s
  else if !ctAnchored s then setB Reg.HMP_EVT Reg.HMP_EVT_NOCT true s
  else hmpPulse 5 (ltOfCt ct s) s

end Sys2Proof.Machine
end

