-- ==== Sys2Proof/Machine/Measure.lean ====
section
/-! DEFINITION. The power block and the bus measurement block of a Stage: forming a sample set, the quarter-cycle sequence
separation, and validity (The Drum, R35-R37; R63, R473). -/

namespace Sys2Proof.Machine

/-- The event of a lost power measurement, as a cause of its Stage's grading (R37). -/
def causeMeas (st : Nat) : Cause := ⟨34, st⟩

/-! Lanes (R35, R63). -/

/-- The lanes a block takes: `bus` names the bus block. The third voltage lane is unused under VMEAS = 1. -/
def blockLanes (st : Nat) (bus : Bool) (s : State) : List Nat :=
  let three (a : Nat) (w : Word) : List Nat := [a, fldGet Reg.DRM_LANE0_LB w] ++ [fldGet Reg.DRM_LANE0_LC w]
  let v (w : Word) : List Nat :=
    let l := three (fldGet Reg.DRM_LANE0_LA w) w
    if on (Reg.DRM_CFG st) Reg.DRM_CFG_VMEAS s then l.take 2 else l
  if bus then v (rdW (Reg.DRM_BUSLANE st) s)
  else
    let i := rdW (Reg.DRM_LANE1 st) s
    v (rdW (Reg.DRM_LANE0 st) s) ++ three (fldGet Reg.DRM_LANE0_LA i) i

def laneValid (l : Nat) (s : State) : Bool := on (Reg.RNS_LSTAT l) Reg.RNS_LSTAT_VALID s

/-- N/4 of the angle-locked lanes of a block (R35, R36): RPER holds N − 1. -/
def quarter (st : Nat) (bus : Bool) (s : State) : Nat :=
  (rd (Reg.RNS_RPER ((blockLanes st bus s).headD 0)) s % 2 ^ 13 + 1) / 4

def blockOf (st : Nat) (bus : Bool) (s : State) : MeasSt := if bus then (drmOf st s).bus else (drmOf st s).pb
def setBlock (st : Nat) (bus : Bool) (m : MeasSt) (s : State) : State :=
  setDrm st (if bus then { drmOf st s with bus := m } else { drmOf st s with pb := m }) s

def blockValid (st : Nat) (bus : Bool) (s : State) : Bool :=
  if bus then on (Reg.DRM_SSTAT st) Reg.DRM_SSTAT_BVALID s else on (Reg.DRM_STAT st) Reg.DRM_STAT_PVALID s

/-! One sample set (R36). -/

/-- Two phase or line values and a third, in pu with 49 fraction bits, as αβ. -/
def clarke (line : Bool) (a b c : Int) : Int × Int :=
  if line then (roundDiv (2 * a + b) 3, mul64 b invSqrt3)
  else (roundDiv (2 * a - b - c) 3, mul64 (b - c) invSqrt3)

/-- The sequence components of z with z' a quarter cycle earlier, with 50 fraction bits: (z+, z−). -/
def sequences (z z' : Int × Int) : (Int × Int) × (Int × Int) :=
  ((z.1 - z'.2, z.2 + z'.1), (z.1 + z'.2, z.2 - z'.1))

/-- A value with 50 fraction bits in Q4.28. -/
def toQ28 (x : Int) : Int := roundDiv x (2 ^ 22)

/-- The dq values of both sequences: z+ rotated by −θ and z− by +θ (R36). -/
def dqOf (theta : Nat) (zp zn : Int × Int) : (Int × Int) × (Int × Int) :=
  (rotate (2 ^ 32 - theta % 2 ^ 32) zp, rotate theta zn)

/-- What a complete set gives, with the αβ values a quarter cycle earlier. The dq values are rounded to Q4.28 before the
products of the powers are formed, voltages as well as currents (DESIGN CHOICE, log entry 139). -/
def formSet (stamp : Nat) (z z' : Int × Int × Int × Int) : MeasRes :=
  let theta := stamp % 2 ^ 32
  let (vp, vn) := sequences (z.1, z.2.1) (z'.1, z'.2.1)
  let (ip, in_) := sequences z.2.2 z'.2.2
  let (vdp, vdn) := dqOf theta vp vn
  let (idp, idn) := dqOf theta ip in_
  { stamp := stamp,
    dq := [vdp.1, vdp.2, vdn.1, vdn.2, idp.1, idp.2, idn.1, idn.2].map toQ28,
    vpos := toQ28 (magnitude vp.1 vp.2), vneg := toQ28 (magnitude vn.1 vn.2), ang := atan2A vdp.2 vdp.1 }

/-- A block becomes valid or invalid: PVALID or BVALID, and the registers that then read 0 (R37, R473). -/
def setBlockValid (st : Nat) (bus b : Bool) (s : State) : State :=
  if bus then
    let s := setB (Reg.DRM_SSTAT st) Reg.DRM_SSTAT_BVALID b s
    if b then s
    else
      wr (Reg.DRM_VBUS st) 0 (wr (Reg.DRM_DBUS st) 0 (wr (Reg.DRM_SLIPB st) 0
        (setDrm st { drmOf st s with busFirst := true } s)))
  else
    let s := setB (Reg.DRM_STAT st) Reg.DRM_STAT_PVALID b s
    if b then dropG3 st (causeMeas st) s else s

/-- A block loses its measurement: the history is discarded, and a power block that was valid while pulses are enabled
is graded G3 with EV34 (R37). -/
def blockLost (st : Nat) (bus : Bool) (s : State) : State :=
  let was := blockValid st bus s
  let m := blockOf st bus s
  let s := setBlock st bus { m with hist := [], part := [], res := [] } s
  if was then
    let s := setBlockValid st bus false s
    if !bus && pulsesOn st s then gradeG3 st (some (causeMeas st)) (record 34 3 0 (some st) s) else s
  else s

/-- The AT stamp `a` lies after `b`. -/
def stampAfter (a b : Nat) : Bool := !atReached b a

/-- A complete sample set joins the block; with N/4 earlier sets it gives a result, and the block is valid (R36, R37). The
sets counted are those before it: the block is valid with set N/4 + 1 (DESIGN CHOICE, log entry 140). -/
def blockSet (st : Nat) (bus : Bool) (stamp : Nat) (vals : List Int) (s : State) : State :=
  let m := blockOf st bus s
  let line := on (Reg.DRM_CFG st) Reg.DRM_CFG_VMEAS s
  let k := if line then 2 else 3
  let vs := (vals.take k).map (fun v => v * rdI (Reg.DRM_VSCL st) s)
  let is := (vals.drop k).map (fun v => v * rdI (Reg.DRM_ISCL st) s)
  let v := clarke line (vs.getD 0 0) (vs.getD 1 0) (vs.getD 2 0)
  let i := clarke false (is.getD 0 0) (is.getD 1 0) (is.getD 2 0)
  let z := (v.1, v.2, i.1, i.2)
  let q := quarter st bus s
  let res := match m.hist[q - 1]? with
    | some z' => (formSet stamp z z' :: m.res).take (2 * q + 4)
    | none => []
  let s := setBlock st bus { m with hist := (z :: m.hist).take q, part := m.part.filter (fun p => stampAfter p.2.1 stamp), lastLt := s.lt, res := res } s
  if res.isEmpty || blockValid st bus s then s else setBlockValid st bus true s

/-- A released lane output reaches the block (R36): samples with equal stamps make a set. -/
def blockSample (st : Nat) (bus : Bool) (l : Nat) (x : Smp) (s : State) : State :=
  let ls := blockLanes st bus s
  if hasDrum st s && ls.any (· == l) && ls.all (laneValid · s) then
    let m := blockOf st bus s
    let part := (l, x.at_, x.v) :: m.part.filter (fun p => p.2.1 != x.at_ || p.1 != l)
    let same := part.filter (fun p => p.2.1 == x.at_)
    let s := setBlock st bus { m with part := part } s
    if ls.all (fun k => same.any (fun p => p.1 == k)) then
      blockSet st bus x.at_ (ls.map (fun k => ((same.find? (fun p => p.1 == k)).map (·.2.2)).getD 0)) s
    else s
  else s

/-- A lane that clears VALID makes every block that takes it invalid (R37, R473). -/
def blocksLaneLost (l : Nat) (s : State) : State :=
  each (List.range 4) (fun st s =>
    each [false, true] (fun bus s =>
      if hasDrum st s && (blockLanes st bus s).any (· == l) then blockLost st bus s else s) s) s

/-- A lane release reaches every block. -/
def blocksSample (l : Nat) (x : Smp) (s : State) : State :=
  each (List.range 4) (fun st s => each [false, true] (fun bus s => blockSample st bus l x s) s) s

/-- No new sample set has arrived for two outer ticks while the lanes read VALID (R37). -/
def blockStale (st : Nat) (bus : Bool) (s : State) : Bool :=
  hasDrum st s && blockValid st bus s && (blockLanes st bus s).all (laneValid · s)
    && decide ((blockOf st bus s).lastLt + 2 * fclk * (bobOf st s).outer ≤ s.lt)

def blockTimeout (st : Nat) (bus : Bool) (s : State) : State := if blockStale st bus s then blockLost st bus s else s

/-- The result of the newest sample set whose AT stamp is not later than this FCLK (R41). Where a backward ALIGN has put every
stamp ahead of AT, the oldest result held stands in (DESIGN CHOICE, log entry 141). -/
def blockLatch (st : Nat) (bus : Bool) (s : State) : MeasRes :=
  let m := blockOf st bus s
  ((m.res.find? (fun r => atReached (atOf st s) r.stamp)).getD (m.res.getLastD .reset))

end Sys2Proof.Machine
end

