-- ==== Sys2Proof/Machine/Rinse.lean ====
section
/-! DEFINITION. The Rinse lanes: acceptance of inputs, the decimation chain, the resampler, release, the ring, stops, rate
changes and retirement (R261-R277). -/

namespace Sys2Proof.Machine

/-- The input spacing in use (R262, R275). -/
def laneIspc (l : Nat) (s : State) : Nat :=
  let i := rd (Reg.RNS_ISPC l) s % 2 ^ 28
  let i3 := rd (Reg.RNS_ISPC3 l) s % 2 ^ 28
  if (laneOf l s).rate3 && i3 != 0 then i3 else i

/-- A lane discards what it holds and stops (R274). -/
def laneStop (l grade : Nat) (s : State) : State :=
  let x := laneOf l s
  let s := setLane l { LaneSt.reset with inq := x.inq, grid := x.grid, last := x.last, rate3 := x.rate3 } s
  let s := setLaneValid l false (setB (Reg.RNS_LSTAT l) Reg.RNS_LSTAT_SETTLING false
    (setB (Reg.RNS_LSTAT l) Reg.RNS_LSTAT_STOPPED true s))
  let s := setF (Reg.RNS_LSTAT l) Reg.RNS_LSTAT_SLEFT (rd (Reg.RNS_SETTLE l) s) s
  blocksLaneLost l (record 104 grade l none (laneFlag l Reg.RNS_LEVT_STOP s))

def laneRetired (l : Nat) (s : State) : Bool := on (Reg.RNS_LSTAT l) Reg.RNS_LSTAT_RETIRED s

/-- The Stages that depend on a lane (R256, R277). -/
def laneDependents (l : Nat) (s : State) : List Nat :=
  let three (w : Word) : List Nat := [fldGet Reg.DRM_LANE0_LA w, fldGet Reg.DRM_LANE0_LB w, fldGet Reg.DRM_LANE0_LC w]
  (List.range 4).filter (fun st =>
    (hasDrum st s && (three (rdW (Reg.DRM_LANE0 st) s) ++ three (rdW (Reg.DRM_LANE1 st) s)
        ++ three (rdW (Reg.DRM_BUSLANE st) s)).any (· == l))
      || (instsOf st s).any (fun n => fl (Reg.STI_ISRC n) Reg.STI_ISRC_FBLANE s == l))

/-- A parity failure (R277): the lane stops with G1, or is retired when its counter overflows. -/
def laneUpset (l : Nat) (s : State) : State :=
  let (t, over_) := upset (ctrId 9 l 0) s
  if over_ then
    under 127 (ctrId 9 l 0) (fun s =>
      let s := laneFlag l Reg.RNS_LEVT_RETIRED (setB (Reg.RNS_LSTAT l) Reg.RNS_LSTAT_RETIRED true s)
      under 104 l (gradeG5All (laneDependents l s) (some (permanent 104 l))) (laneStop l 2 s)) t
  else laneStop l 1 t

/-! The chain (R263, R264, R267). -/

/-- The impulse response of a CIC: (1 + z^-1 + … + z^-(R-1))^K. -/
def cicTaps (k r : Nat) : List Int :=
  let mul (a b : List Int) : List Int :=
    (List.range (a.length + b.length - 1)).map (fun n =>
      ((List.range (n + 1)).map (fun i => a.getD i 0 * b.getD (n - i) 0)).sum)
  (List.range k).foldl (fun a _ => mul a (List.replicate r 1)) [1]

/-- The taps of a FIR response of `m + 1` taps: linear-phase, so symmetric about the centre, and of DC gain 1, which the centre tap
makes up (R263). -/
def firTaps (code m : Nat) : List Int :=
  let half := (List.range (m / 2)).map (Config.firTap code)
  half ++ [2 ^ Config.firFrac code - 2 * half.sum] ++ half.reverse

/-- The accumulator of a response on its window, newest first, and its fraction bits (R263, R264). -/
def respAcc (code : Nat) (w : List Int) : Int × Nat :=
  let dot (taps : List Int) : Int := ((taps.zip w).map (fun p => p.1 * p.2)).sum
  match cicOf code with
  | some (k, r) => (dot (cicTaps k r), 0)
  | none => if code = 0 then (w.headD 0, 0) else (dot (firTaps code (respSettle code)), Config.firFrac code)

/-- The output of a response on its window, newest first: rounded after the shift, before saturation (R264). -/
def respOut (code shift : Nat) (w : List Int) : Int :=
  let a := respAcc code w
  roundDiv a.1 (2 ^ (a.2 + shift))

/-- The mean of two AT stamps on the 80-bit circle. -/
def meanAt (a b : Nat) : Nat :=
  (Int.emod (a + (signed 80 (b + 2 ^ 80 - a)) / 2) (2 ^ 80)).toNat

/-- One stage takes an input: its output, if this input gives one, and whether it saturated. -/
def stageRun (l i : Nat) (x : RSmp) (s : State) : Option (RSmp × Bool) × State :=
  let y := laneOf l s
  let code := stageCode l i s
  let m := respSettle code
  let w := (x :: Tbl.get [] y.win i).take (m + 1)
  let n := Tbl.get 0 y.taken i
  let s := setLane l { y with win := Tbl.put i w y.win, taken := Tbl.put i (n + 1) y.taken } s
  if n % respD code = 0 then
    let v := respOut code (stageShift l i s) (w.map (·.v))
    let c := clampI (-(2 ^ 23 - 1)) (2 ^ 23 - 1) v
    let a := w.getD (m / 2) x
    let b := w.getD ((m + 1) / 2) x
    (some (⟨c, (a.lt + b.lt + 1) / 2, meanAt b.at_ a.at_, decide (w.length = m + 1) && w.all (·.full)⟩, c != v), s)
  else (none, s)

/-- The stages in turn, from stage `i` on; the last stage's output, and whether any saturated. -/
def chainRun (l : Nat) : List Nat → RSmp → Bool → State → Option RSmp × Bool × State
  | [], x, sat, s => (some x, sat, s)
  | i :: t, x, sat, s =>
    match stageRun l i x s with
    | (some (y, b), s) => chainRun l t y (sat || b) s
    | (none, s) => (none, sat, s)

/-- SAT at every saturated output, and EV102 once per run of them (R264). -/
def satRun (l : Nat) (sat : Bool) (s : State) : State :=
  let x := laneOf l s
  let s := when sat (laneFlag l Reg.RNS_LEVT_SAT) (setLane l { x with satRun := sat } s)
  if sat && !x.satRun then record 102 0 l none s else s

/-! The resampler (R269-R271). -/

/-- The grid points from `a` on before `b` (a ≤ point < b, both in 2^-16 of the basis unit after `base`). -/
def gridPoints (l : Nat) : Nat → Nat → Nat → State → List Nat
  | 0, _, _, _ => []
  | fuel + 1, x, stop, s =>
    let g := nextGrid l x s
    if after64 stop g then g :: gridPoints l fuel g stop s else []

/-- One phase of the resampler on sixteen values, oldest first, in units of 2^-32 (R270). -/
def resamplePhase (p : Nat) (vals : List Int) : Int :=
  (((List.range vals.length).map (Config.resampleTap p)).zip vals).foldl (fun a q => a + q.1 * q.2) 0

/-- The output at a grid point between chain outputs `b` (at or before) and `c` (after), with the sixteen values. -/
def resampleAt (l g : Nat) (b c : RSmp) (vals : List Int) (s : State) : Smp :=
  let angle := laneMode l s == 1
  let num : Int := if angle then signed 80 (g * 2 ^ 16 + 2 ^ 80 - b.at_) else (g : Int) * 64 - b.lt
  let den : Int := if angle then signed 80 (c.at_ + 2 ^ 80 - b.at_) else (c.lt : Int) - b.lt
  let pos : Int := num * 2 ^ 26 / den
  let p : Nat := (pos / 2 ^ 16).toNat
  let w : Int := Int.emod pos (2 ^ 16)
  let v := roundDiv (resamplePhase p vals * (2 ^ 16 - w) + resamplePhase (p + 1) vals * w) (2 ^ 48)
  let v := clampI (-(2 ^ 23 - 1)) (2 ^ 23 - 1) v
  if angle then
    ⟨v, ltOf64 ((b.lt : Int) + roundUp (((c.lt : Int) - b.lt) * num) den.toNat).toNat, g⟩
  else
    ⟨v, g, atOf48 (Int.emod (b.at_ + roundUp (signed 80 (c.at_ + 2 ^ 80 - b.at_) * num) den.toNat) (2 ^ 80)).toNat⟩

/-- An output that waits for its release, ready so many FCLK after this input (R272). -/
def laneWait (l : Nat) (x : Smp) (ready : Nat) (s : State) : State :=
  let y := laneOf l s
  setLane l { y with wait := y.wait ++ [(x, ready)] } s

/-- A chain output in ANGLE or TIME mode: every grid point it completes, in order and never twice. -/
def laneGrid (l : Nat) (s : State) : State :=
  let y := laneOf l s
  match y.outs[8]?, y.outs[7]? with
  | some b, some c =>
    if y.outs.length = 16 && y.outs.all (·.full) then
      let angle := laneMode l s == 1
      -- the last basis value below b, and the first at or above c
      let x := if angle then (b.at_ + 2 ^ 16 - 1) / 2 ^ 16 + 2 ^ 64 - 1 else (b.lt + 63) / 64 - 1
      let stop := if angle then (c.at_ + 2 ^ 16 - 1) / 2 ^ 16 else (c.lt + 63) / 64
      let from_ := match y.grid with
        | some g => if after64 g x then g else x
        | none => x
      let span := (stop + 2 ^ 64 - from_ % 2 ^ 64) % 2 ^ 64
      let fuel := if span < 2 ^ 63 then
          span / (max 1 (if angle then 2 ^ 32 / laneGridN l s else laneGridN l s)) + 1
        else 0
      let gs := gridPoints l fuel (from_ % 2 ^ 64) (stop % 2 ^ 64) s
      each gs (fun g s =>
        let s := setLane l { laneOf l s with grid := some g } s
        laneWait l (resampleAt l g b c (y.outs.map (·.v)).reverse s)
          (s.lt + fclk * (16 * laneStages l s + 32)) s) s
    else s
  | _, _ => s

/-- An output of the chain. -/
def laneOutput (l : Nat) (x : RSmp) (s : State) : State :=
  if laneMode l s = 0 then
    if x.full then laneWait l ⟨x.v, ltOf64 x.lt, atOf48 x.at_⟩ (s.lt + fclk * 16 * laneStages l s) s else s
  else
    let y := laneOf l s
    laneGrid l (setLane l { y with outs := (x :: y.outs).take 16 } s)

/-! Acceptance (R262, R266, R273). -/

/-- An accepted input runs through the chain; `ok` is the parity check of its histories and ROM words (R277). -/
def laneAccept (l : Nat) (v : Int) (t64 : Nat) (ok : Bool) (s : State) : State :=
  let x := laneOf l s
  let st := laneStage l s
  let s := when (x.count == 0) (fun s =>
    setB (Reg.RNS_LSTAT l) Reg.RNS_LSTAT_RATE3 x.rate3 (setB (Reg.RNS_LSTAT l) Reg.RNS_LSTAT_STOPPED false
      (setB (Reg.RNS_LSTAT l) Reg.RNS_LSTAT_SETTLING (!laneValid l s) s))) s
  let s := setLane l { x with count := x.count + 1, stamp := t64, arrived := s.lt } s
  let left := rd (Reg.RNS_SETTLE l) s - (x.count + 1)
  let s := when (left == 0) (setB (Reg.RNS_LSTAT l) Reg.RNS_LSTAT_SETTLING false) s
  let s := setF (Reg.RNS_LSTAT l) Reg.RNS_LSTAT_SLEFT left s
  if ok then
    let at_ := (Int.emod ((phaseAt st t64 s : Int) + jumpsAfter st (t64 / 64) s) (2 ^ 80)).toNat
    match chainRun l (List.range (laneStages l s)) ⟨v, t64, at_, true⟩ false s with
    | (some y, sat, s) => laneOutput l y (satRun l sat s)
    | (none, sat, s) => when sat (satRun l true) s
  else laneUpset l s

/-- An input sample of a lane's raw stream (R262): a step outside [3/4, 5/4] of the spacing stops the lane, and the input is
then the first of the restart. -/
def laneInput (l : Nat) (ok : Bool) (s : State) : State :=
  let x := laneOf l s
  match x.inq with
  | [] => s
  | (v, t) :: rest =>
    let s := setLane l { x with inq := rest } s
    if !laneUsed l s || !s.configured || laneRetired l s then s
    else if x.count = 0 then laneAccept l v t ok s
    else
      let sp : Int := 64 * laneIspc l s
      let d : Int := (t : Int) - x.stamp
      if 4 * d < 3 * sp || 5 * sp < 4 * d then laneAccept l v t ok (laneStop l 0 s)
      else
        let irr := decide (sp < 16 * (d - sp).natAbs)
        laneAccept l v t ok
          (when irr (fun s => bump (Reg.RNS_CNT l) ⟨0, 16⟩ 1 (laneFlag l Reg.RNS_LEVT_IRREG s)) s)

/-- No input within two spacings of the previous arrival (R274). -/
def laneTimeout (l : Nat) (s : State) : State :=
  let x := laneOf l s
  if laneUsed l s && x.count != 0 && decide (x.arrived + 2 * laneIspc l s ≤ s.lt) then laneStop l 0 s else s

/-! Release (R272, R273, R276). -/

/-- A released output in the lane's ring (R276). -/
def laneRing (l : Nat) (x : Smp) (s : State) : State :=
  if on (Reg.RNS_RCFG l) Reg.RNS_RCFG_WREN s then
    let size := 2 ^ fl (Reg.RNS_RCFG l) Reg.RNS_RCFG_RSIZE s
    let w := rd (Reg.RNS_RWIDX l) s
    if (w + 2 ^ 32 - rd (Reg.RNS_RRIDX l) s) % 2 ^ 32 = size then
      bump (Reg.RNS_RDROP l) whole 1 (laneFlag l Reg.RNS_LEVT_RDROP s)
    else
      let a := rd (Reg.RNS_RBASE l) s + 16 * (w % size)
      busUse 5 a 16 (fun s => wr (Reg.RNS_RWIDX l) (w + 1)
        (stBytes a ([codeOf 24 x.v + 2 ^ 24 * l, x.at_ % 2 ^ 32, x.lt % 2 ^ 32,
          x.lt / 2 ^ 32 % 2 ^ 16 + 2 ^ 16 * (x.at_ / 2 ^ 32 % 2 ^ 16)].flatMap (bytesLE 4)) s)) s
  else s

/-- The oldest output at its release FCLK: released to every consumer, or dropped where it was not ready. -/
def laneRelease (l : Nat) (s : State) : State :=
  let y := laneOf l s
  match y.wait with
  | [] => s
  | (x, ready) :: rest =>
    let due := ceilDiv (x.lt + fclk * (rd (Reg.RNS_DLYUSE l) s % 2 ^ 24)) fclk
    if nowF s < due then s
    else
      let s := setLane l { y with wait := rest } s
      if due < ceilDiv ready fclk then bump (Reg.RNS_CNT l) ⟨16, 16⟩ 1 (laneFlag l Reg.RNS_LEVT_LATE s)
      else
        let s := if laneValid l s then s
          else record 103 0 l none (laneFlag l Reg.RNS_LEVT_SETTLED (setLaneValid l true s))
        let s := wr (Reg.RNS_LAST l) (codeOf 24 x.v) (setLane l { laneOf l s with last := some x } s)
        hmpSample false l x (laneRing l x (blocksSample l x s))

/-- RNS_RRIDX (R276): a write out of range is ignored. -/
def rridxWrite (l v : Nat) (s : State) : State :=
  let size := 2 ^ fl (Reg.RNS_RCFG l) Reg.RNS_RCFG_RSIZE s
  if size < (rd (Reg.RNS_RWIDX l) s + 2 ^ 32 - v % 2 ^ 32) % 2 ^ 32 then s else wr (Reg.RNS_RRIDX l) v s

/-! What the bank does to its lanes (R275). -/

/-- The lanes fed by a bank. -/
def bankLanes (b : Nat) (s : State) : List Nat := (List.range 64).filter (fun l => laneUsed l s && laneSrc l s / 16 == b)

/-- EV98: a lane with another spacing on three slices stops and restarts on it. -/
def lanesRate (b : Nat) (s : State) : State :=
  each (bankLanes b s) (fun l s =>
    let i3 := rd (Reg.RNS_ISPC3 l) s % 2 ^ 28
    if i3 = 0 || i3 = rd (Reg.RNS_ISPC l) s % 2 ^ 28 || laneRetired l s then s
    else
      let s := setLane l { laneOf l s with rate3 := true } s
      laneStop l 0 (wr (Reg.RNS_DLYUSE l) (max (rd (Reg.RNS_RDLY l) s % 2 ^ 24) (minDly l i3 true s)) s)) s

/-- The bank is retired: its lanes stop and stay stopped. -/
def lanesBankRetired (b : Nat) (s : State) : State :=
  each (bankLanes b s) (fun l s =>
    if laneRetired l s then s else laneStop l 0 (setB (Reg.RNS_LSTAT l) Reg.RNS_LSTAT_RETIRED true s)) s

/-- A sample of a raw stream is delivered: to the lanes it feeds, and to the Hamper (R243, R280). -/
def streamSample (r : Nat) (v : Int) (t64 : Nat) (s : State) : State :=
  let s := each ((List.range 64).filter (fun l => laneUsed l s && laneSrc l s == r && !laneRetired l s))
    (fun l s => setLane l { laneOf l s with inq := (laneOf l s).inq ++ [(v, t64)] } s) s
  hmpRaw r v t64 s

/-! Commands. -/

def execLaneInput (lane : Fin 64) (ok : Bool) (s : State) : Host.Outcome State Fault Refusal := .next (laneInput lane ok s)

def execLaneInputTimeout (lane : Fin 64) (s : State) : Host.Outcome State Fault Refusal := .next (laneTimeout lane s)

def execLaneRelease (lane : Fin 64) (s : State) : Host.Outcome State Fault Refusal := .next (laneRelease lane s)

def execRnsRridxWrite (lane : Fin 64) (value : BitVec 32) (by_ : Fin 19) (s : State) : Host.Outcome State Fault Refusal :=
  .next (when (mayStore (Reg.RNS_RRIDX lane) by_ s) (rridxWrite lane value.toNat) s)

end Sys2Proof.Machine
end

