-- ==== Sys2Proof/Machine/TackCore.lean ====
section
/-! DEFINITION. Slots, due points and the dispatcher's order (R117-R120, R125, R25), shared by the Tack Table, the
commands that a firing starts, and the Bobbin's ALIGN. -/

namespace Sys2Proof.Machine

/-! Slot fields (R138). -/
def slValid (x : Slot) : Bool := x.w0.testBit 0
def slBasis (x : Slot) : Nat := x.w0 / 2 % 8
def slOne (x : Slot) : Bool := x.w0.testBit 4
def slProt (x : Slot) : Bool := x.w0.testBit 5
def slAction (x : Slot) : Nat := x.w0 / 2 ^ 8 % 16
def slWriter (x : Slot) : Nat := x.w0 / 2 ^ 16 % 32
def slTarget (x : Slot) : Nat := x.w1 % 2 ^ 16
def slArg (x : Slot) : Nat := x.w1 / 2 ^ 16 % 2 ^ 16
def slPhase (x : Slot) : Nat := x.w2 % 2 ^ 32 + 2 ^ 32 * (x.w3 % 2 ^ 32)
def slPeriod (x : Slot) : Nat := x.w4 % 2 ^ 32 + 2 ^ 32 * (x.w5 % 2 ^ 8)
def slN (x : Slot) : Nat := x.w4 % 2 ^ 16 + 1
def slM (x : Slot) : Nat := x.w5 % 2 ^ 16 + 1
def slLt (x : Slot) : Bool := slBasis x == 0
def slStage (x : Slot) : Nat := slBasis x % 4

/-- Slot words as a slot holds them: reserved bits read 0 (R9, R138). -/
def slotWords (w0 w1 w2 w3 w4 w5 w6 : Nat) : Slot :=
  let lt := w0 / 2 % 8 == 0
  ⟨w0 &&& 0x1F0F3F, w1, w2, w3, if lt then w4 else w4 % 2 ^ 16, w5 % 2 ^ (if lt then 8 else 16), w6⟩

/-! Action codes (R121). -/
def actAdc : Nat := 1
def actHandover : Nat := 2
def actDrum : Nat := 3
def actStitch : Nat := 4
def actTask : Nat := 5
def actHamper : Nat := 6
def actHe : Nat := 7
def actGpio : Nat := 8
def actSpan : Nat := 9

/-- The firing class of an action (R121). -/
def actClass : Nat → Nat
  | 1 => 3
  | 2 => 0
  | 3 => 1
  | 4 => 2
  | 5 => 7
  | 6 => 4
  | 7 => 5
  | 8 => 6
  | _ => 8

/-- The first due point at or after `from_` on the slot's basis: LT in eu, or AT (R118, R119). -/
def slotDueFrom (x : Slot) (from_ : Nat) : Option Nat :=
  if slOne x then some (slPhase x)
  else if slLt x then
    let p := fclk * slPeriod x
    if p = 0 then none
    else
      let r := slPhase x % p
      some (from_ + (r + p - from_ % p) % p)
  else if 1 < slN x then
    let d := (from_ + 2 ^ 32 - slPhase x % 2 ^ 32) % 2 ^ 32
    let k := ceilDiv (d * slN x) (2 ^ 32)
    some ((from_ + (k * 2 ^ 32 / slN x - d)) % 2 ^ 64)
  else
    let phi := slPhase x % 2 ^ 32
    let cyc := slPhase x / 2 ^ 32
    let c := from_ / 2 ^ 32 + (if from_ % 2 ^ 32 ≤ phi then 0 else 1)
    let c' := c + (cyc % slM x + slM x - c % slM x) % slM x
    some (((if c' < 2 ^ 32 then c' else cyc % slM x) * 2 ^ 32 + phi) % 2 ^ 64)

/-- The first due point of new content whose eligible FCLK is at or after the LT `from_` of an FCLK (R130). On the AT basis it
lies after the AT of the FCLK before; where an ALIGN has acted since, after the AT that it left (R25). -/
def slotFirst (x : Slot) (from_ : Nat) (s : State) : Option Nat :=
  if slLt x then (slotDueFrom x (from_ - (fclk - 1))).filter (fun d => decide (from_ - (fclk - 1) ≤ d))
  else
    let st := slStage x
    let a := if (bobOf st s).jumps.any (fun p => decide (from_ ≤ p.1)) then atOf st s
      else phaseAt st (64 * (from_ - fclk)) s / 2 ^ 16
    (slotDueFrom x ((a + 1) % 2 ^ 64)).filter (fun d => !atReached a d)

/-- The instants at which the content of a slot is replaced: accepted commands and committed locks (R130, R135). -/
def slotEnds (n : Nat) (s : State) : List Nat :=
  (s.tack.switch.filter (fun p => p.1 == n)).map (·.2.2)
    ++ s.tack.locks.filterMap (fun p => p.2.commitAt.filter (fun _ => p.2.staged.any (fun x =>
      match x with
      | .slot m _ => m == n
      | .del m => m == n
      | _ => false)))

/-- The FCLK in which the due point `d` of a slot on the basis of its Stage became eligible, if it has (R120). -/
def dueReached (x : Slot) (d : Nat) (s : State) : Option Nat :=
  if slLt x then
    let e := ceilDiv d fclk
    if e ≤ nowF s then some e else none
  else
    let b := bobOf (slStage x) s
    if atReached (b.phase / 2 ^ 16) d then
      let past := (b.phase + 2 ^ 80 - d * 2 ^ 16) % 2 ^ 80
      let w := wordOf (slStage x) s
      some (nowF s - (if w = 0 then 0 else past / w))
    else none

/-- The FCLK in which the next occurrence of a slot became eligible, if it has and it belongs to the content that is still in
force in that FCLK (R120, R130). -/
def eligibleAt (n : Nat) (s : State) : Option Nat :=
  let e := match Tbl.get none s.tack.reached n with
    | some (e, _) => some e
    | none => match Tbl.get none s.tack.due n with
      | some d => dueReached (slotOf n s) d s
      | none => none
  e.filter (fun e => (slotEnds n s).all (fun t => decide (e * fclk < t)))

/-- The dispatcher's order: earlier eligible FCLK, lower class, lower slot (R125). -/
def before (a b : Nat × Nat × Nat) : Bool :=
  decide (a.1 < b.1) || (a.1 == b.1 && (decide (a.2.1 < b.2.1) || (a.2.1 == b.2.1 && decide (a.2.2 < b.2.2))))

/-- The order in which actions of one FCLK take effect: class order (R125). -/
def actsBefore (a b : Nat × Nat × Nat) : Bool := before (a.2.1, a.1, a.2.2) (b.2.1, b.1, b.2.2)

/-- An occurrence may still fire: it is eligible and not more than 7 FCLK late (R120, R137). -/
def slotRank (n : Nat) (s : State) : Option (Nat × Nat × Nat) :=
  match eligibleAt n s with
  | none => none
  | some e => if nowF s ≤ e + 7 then some (e, actClass (slAction (slotOf n s)), n) else none

/-- The occurrences that the dispatcher still takes in this FCLK: the first of its order, up to four in the FCLK (R125). -/
def taken (s : State) : List (Nat × Nat × Nat) :=
  let l := s.tack.due.filterMap (fun p => slotRank p.1 s)
  let k := if s.tack.firedAt = nowF s then 4 - s.tack.fired else 4
  l.filter (fun r => decide ((l.filter (fun q => before q r)).length < k))

/-- An occurrence of the content in force before the instant `at_` still waits for its firing (R130). -/
def oldWaits (n at_ : Nat) (s : State) : Bool :=
  match slotRank n s with
  | none => false
  | some (e, _, _) => decide (e < at_ / fclk)

/-- No slot and no committed lock waits for a switch whose instant has come: the release comes before the actions of its FCLK
(R130, R135). -/
def switchesDone (s : State) : Bool :=
  s.tack.switch.all (fun p => decide (s.lt < p.2.2) || oldWaits p.1 p.2.2 s)
    && s.tack.locks.all (fun p => match p.2.commitAt with
      | some t => decide (s.lt < t)
      | none => true)

/-- The dispatcher fires slot `n` with action `act` now: the slot is in use, its occurrence is one of those it takes in this
FCLK, and the first of them to take effect (R120, R125). -/
def tackReady (n act : Nat) (s : State) : Bool :=
  let x := slotOf n s
  let l := taken s
  s.configured && slValid x && slAction x == act && switchesDone s
    && match l.find? (fun r => r.2.2 == n) with
      | none => false
      | some r => l.all (fun q => !actsBefore q r)

/-- The occurrence is taken off: the slot goes on to its next due point, a one-shot has none (R125, R131). -/
def tackNext (n : Nat) (s : State) : State :=
  match Tbl.get none s.tack.reached n with
  | some _ => { s with tack := { s.tack with reached := Tbl.put n none s.tack.reached } }
  | none =>
    let x := slotOf n s
    let d := match Tbl.get none s.tack.due n with
      | none => none
      | some d => if slOne x then none else slotDueFrom x (d + 1)
    { s with tack := { s.tack with due := Tbl.put n d s.tack.due } }

/-- An occurrence of a one-shot slot fires in the FCLK in which a DELETE of it was accepted: the DELETE reports "already complete"
and the slot is invalid (R131). -/
def deleteFired (n : Nat) (s : State) : State :=
  if slOne (slotOf n s) && s.tack.switch.any (fun p => p.1 == n && p.2.1.isNone && p.2.2 == (nowF s + 64) * fclk) then
    setF Reg.TCK_WSTAT Reg.TCK_WSTAT_RESULT 3
      { s with tack := { s.tack with
          switch := s.tack.switch.filter (fun p => !(p.1 == n && p.2.1.isNone && p.2.2 == (nowF s + 64) * fclk)),
          slots := Tbl.put n { slotOf n s with w0 := setBit (slotOf n s).w0 0 false } s.tack.slots } }
  else s

/-- The occurrence has fired: the fetch finds a slot whose words and complements disagree (R137). -/
def tackFired (n : Nat) (s : State) : State :=
  let s := tackNext n (useStore (slotStore n) s)
  deleteFired n
    { s with tack := { s.tack with fired := if s.tack.firedAt = nowF s then s.tack.fired + 1 else 1, firedAt := nowF s } }

/-- A firing whose conditions hold runs the action's effect; one that cannot come about changes nothing (log entry 11). -/
def firing (n act : Nat) (eff : Slot → State → State) (s : State) : State :=
  if tackReady n act s then eff (slotOf n s) (tackFired n s) else s

/-- The eligible FCLK of every occurrence of a Stage's slots that AT has reached is fixed before the word changes or AT jumps
(R25, R120). -/
def fixReached (st : Nat) (s : State) : State :=
  each (s.tack.due.map (·.1)) (fun n s =>
    let x := slotOf n s
    if slLt x || slStage x != st || (Tbl.get none s.tack.reached n).isSome then s
    else match Tbl.get none s.tack.due n with
      | none => s
      | some d => match dueReached x d s with
        | none => s
        | some e =>
          let t := tackNext n s
          { t with tack := { t.tack with reached := Tbl.put n (some (e, d)) t.tack.reached } }) s

/-! Sequence locks as the other chapters see them (R133, R134). -/

def lockHeld (i : Nat) (s : State) : Bool := on (Reg.TCK_LOCK i) Reg.TCK_LOCK_HELD s
def lockOwner (i : Nat) (s : State) : Nat := fl (Reg.TCK_LOCK i) Reg.TCK_LOCK_OWNER s
def lockKind (i : Nat) (s : State) : Nat := fl (Reg.TCK_LOCK i) Reg.TCK_LOCK_KIND s
def lockStage (i : Nat) (s : State) : Nat := fl (Reg.TCK_LOCK i) Reg.TCK_LOCK_STAGE s

/-- First and last slot of a lock's range. -/
def lockRange (i : Nat) (s : State) : Nat × Nat :=
  let r := rd (Reg.TCK_LRNG i) s
  (r % 2 ^ 12, r / 2 ^ 16 % 2 ^ 12)

/-- A lock stages the writes of its domain: it is held, and not yet committed (R134, R135; log entry 135). -/
def lockStages (i : Nat) (s : State) : Bool := lockHeld i s && (lockOf i s).commitAt.isNone

/-- The lock that holds the shadow of a kind (1 Stitch, 2 Pulse generator) of a Stage. -/
def shadowLock (kind st : Nat) (s : State) : Option Nat :=
  (List.range 8).find? (fun i => lockStages i s && lockKind i s == kind && lockStage i s == st)

/-- The lock whose range covers a slot. -/
def slotLock (n : Nat) (s : State) : Option Nat :=
  (List.range 8).find? (fun i => lockStages i s && lockKind i s == 0
    && decide ((lockRange i s).1 ≤ n) && decide (n ≤ (lockRange i s).2))

/-- A lock held by another owner (R134). -/
def lockedFor (l : Option Nat) (by_ : Nat) (s : State) : Bool :=
  match l with
  | none => false
  | some i => lockOwner i s != by_

/-- Work staged under a lock. -/
def stage (i : Nat) (x : Staged) (s : State) : State :=
  setLock i { lockOf i s with staged := (lockOf i s).staged ++ [x] } s

/-! Slots across an ALIGN (R25). -/

/-- Due points of a periodic AT slot up to an AT value, counted from a fixed origin. -/
def dueCount (x : Slot) (a : Nat) : Nat :=
  let u := a + 2 ^ 64 - slPhase x % 2 ^ 32
  u / 2 ^ 32 * slN x + ceilDiv ((u % 2 ^ 32 + 1) * slN x) (2 ^ 32)

/-- Occurrences of a slot, from its next due point, that a forward jump to the AT `a` skips. -/
def skipped (x : Slot) (d a : Nat) : Nat :=
  if !atReached a d then 0
  else if slOne x || slN x == 1 then 1
  else
    let a' := if a < d then a + 2 ^ 64 else a
    dueCount x a' - dueCount x d + 1

/-- One slot across a forward jump of its Stage's AT from `old` to `new`: the skipped occurrences and the table. -/
def alignSlot (st old new n : Nat) (acc : Nat × TackSt) : Nat × TackSt :=
  let t := acc.2
  let x := Tbl.get .reset t.slots n
  match Tbl.get none t.due n with
  | none => acc
  | some d =>
    if slLt x || slStage x != st || !slValid x || atReached old d then acc
    else
      let k := skipped x d new
      if k = 0 then acc
      else if slOne x then
        (acc.1 + 1, { t with due := Tbl.put n none t.due,
                             slots := Tbl.put n { x with w0 := setBit x.w0 0 false } t.slots })
      else (acc.1 + k, { t with due := Tbl.put n (slotDueFrom x ((new + 1) % 2 ^ 64)) t.due })

/-- Every slot of a Stage across a jump by `j` (R25): a backward jump keeps every next occurrence. -/
def alignSlots (st old new : Nat) (j : Int) (t : TackSt) : Nat × TackSt :=
  if j ≤ 0 then (0, t) else t.due.foldl (fun acc p => alignSlot st old new p.1 acc) (0, t)

/-! Coincidence and load (R127, R128). -/

/-- A_w of a Stage: ceil(8 × FMAX / 2^16) (R126). -/
def awOf (st : Nat) (s : State) : Nat := ceilDiv (8 * fmaxOf st s) (2 ^ 16)

/-- The cyclic distance of two residues. -/
def cyclic (a b m : Nat) : Nat :=
  if m = 0 then (if a < b then b - a else a - b)
  else let d := (a % m + m - b % m) % m; min d (m - d)

/-- The eligible FCLK of an LT due point. -/
def dueF (x : Slot) : Nat := ceilDiv (slPhase x) fclk

/-- Two slots on one basis coincide (R127). -/
def coincide (x y : Slot) (s : State) : Bool :=
  if slLt x then
    let m := if slOne x then (if slOne y then 0 else slPeriod y)
      else if slOne y then slPeriod x else Nat.gcd (slPeriod x) (slPeriod y)
    decide (cyclic (dueF x) (dueF y) m ≤ 7)
  else
    let n (z : Slot) := if slOne z || decide (1 < slM z) then 1 else slN z
    let l := Nat.lcm (n x) (n y)
    let d := (slPhase x % 2 ^ 32 + 2 ^ 32 - slPhase y % 2 ^ 32) % 2 ^ 32
    let r := d * l % 2 ^ 32
    decide (min r (2 ^ 32 - r) ≤ (awOf (slStage x) s + 1) * l)

/-- The load of a basis: the largest coincidence count among the listed contents (R128). -/
def basisLoad (b : Nat) (l : List Slot) (s : State) : Nat :=
  let m := l.filter (fun x => slBasis x == b)
  m.foldl (fun a x => max a (m.filter (fun y => coincide x y s)).length) 0

def loadsOf (l : List Slot) (s : State) : List Nat := [0, 4, 5, 6, 7].map (fun b => basisLoad b l s)

/-- TCK_LOAD and TCK_STAT as the slots in force stand (R128, R138). -/
def loadShow (s : State) : State :=
  let force := s.tack.slots.filterMap (fun p => if slValid p.2 then some p.2 else none)
  let l := loadsOf force s
  wr Reg.TCK_STAT force.length (wr Reg.TCK_LOAD ((List.range 5).foldl (fun a i => a + 64 ^ i * (l.getD i 0 % 64)) 0) s)

end Sys2Proof.Machine
end

