-- ==== Sys2Proof/Machine/Tack.lean ====
section
/-! DEFINITION. The commands of the Tack Table: slot writes and deletes with their admission, the switch instant, sequence
locks, dropped occurrences, and the GPIO actions (R117-R138). -/

namespace Sys2Proof.Machine

/-! Static checks of a slot's words (R121-R123, R126, R130), in the order of TCK_WSTAT.CAUSE. -/

/-- The bank of START_ADC has ADC_BCFG.ENABLE = 1. -/
def bankEnabled (b : Nat) (s : State) : Bool := bitAt (Reg.ADC_BCFG b) 0 s

/-- Undefined basis code. -/
def slotBasisOpen (x : Slot) : Bool := decide (1 ≤ slBasis x) && decide (slBasis x < 4)

/-- Undefined basis, or the AT of a Stage without angle time. -/
def slotBasisBad (x : Slot) (s : State) : Bool :=
  let b := slBasis x
  !(b == 0 || (decide (4 ≤ b) && hasAngle (b % 4) s))

/-- Undefined action code. -/
def slotActionOpen (x : Slot) : Bool := slAction x == 0 || decide (9 < slAction x)

/-- Undefined action, or action not allowed on this basis, without PROT or as one-shot (R121, R122). -/
def slotActionBad (x : Slot) : Bool :=
  let a := slAction x
  slotActionOpen x || ((a == actDrum || a == actStitch) && (!slLt x || !slProt x || slOne x))

/-- Target or argument out of range or not owned (R121, R124). DESIGN CHOICE (log entry 193): an action whose ARG column states
none takes any ARG. -/
def slotTargetBad (x : Slot) (s : State) : Bool :=
  let t := slTarget x
  let g := slArg x
  x.w6 != 0 || match slAction x with
    | 1 => decide (3 < t) || !bankEnabled t s || g &&& 0xFEE0 != 0
    | 2 => decide (2 < t / 16) || decide (3 < t % 16)
    | 3 => decide (3 < t) || !hasDrum t s
    | 4 => decide (3 < t)
    | 5 => decide (15 < t)
    | 6 => t != 0 || decide (1 < g)
    | 7 => decide (31 < t) || g == 0 || decide (255 < g)
    | 8 => decide (31 < t) || !bitAt Reg.TCK_GPIOOWN t s || decide (2 < g)
    | _ => decide (255 < t)

/-- Period below minimum, or N and M both above 1 (R119, R126). DESIGN CHOICE (log entry 192): the period words of a one-shot are
not judged, on either basis. -/
def slotPeriodBad (x : Slot) (s : State) : Bool :=
  if slOne x then false
  else if slLt x then decide (slPeriod x < 8)
  else (decide (1 < slN x) && decide (1 < slM x)) || decide (2 ^ 32 / slN x < awOf (slStage x) s + 1)

/-- Phase not below period (R118). -/
def slotPhaseBad (x : Slot) : Bool := slLt x && !slOne x && decide (fclk * slPeriod x ≤ slPhase x)

/-- The contents that admission counts: every slot in force or as its last pending switch leaves it, except slot `skip`, and every
content staged under a lock (R128, R134). DESIGN CHOICE (log entry 194): each staged write of a slot counts, also where a later
one under the same lock replaces it. -/
def contents (skip : Option Nat) (s : State) : List Slot :=
  let pending (n : Nat) := s.tack.switch.reverse.find? (fun p => p.1 == n)
  let force := s.tack.slots.filterMap (fun p =>
    if skip = some p.1 then none
    else match pending p.1 with
      | some (_, c, _) => c
      | none => if slValid p.2 then some p.2 else none)
  let fresh := (s.tack.switch.map (·.1)).eraseDups.filterMap (fun n =>
    if skip = some n || s.tack.slots.any (fun q => q.1 == n) then none else (pending n).bind (·.2.1))
  let staged := (List.range 8).flatMap (fun i => (lockOf i s).staged.filterMap (fun x =>
    match x with
    | .slot _ w => some w
    | _ => none))
  force ++ fresh ++ staged

/-! Slot commands (R129-R131). -/

/-- A result in TCK_WSTAT; a refusal also sets REFUSED and records EV21 (R129). -/
def slotResult (result cause n : Nat) (staged : Bool) (s : State) : State :=
  let s := setF Reg.TCK_WSTAT Reg.TCK_WSTAT_RESULT result (setF Reg.TCK_WSTAT Reg.TCK_WSTAT_CAUSE cause
    (setF Reg.TCK_WSTAT Reg.TCK_WSTAT_SLOT n (setB Reg.TCK_WSTAT Reg.TCK_WSTAT_STAGED staged s)))
  when (result == 2) (fun s => record 21 0 n none (setB Reg.TCK_EVT Reg.TCK_EVT_REFUSED true s)) s

/-- The staged words as the content that writer `by_` asks for (R138): WRITER is the device's, PROT is 0. -/
def stagedSlot (by_ : Nat) (s : State) : Slot :=
  let w (i : Nat) : Nat := rd (Reg.TCK_WS i) s
  slotWords (setBit (w 0 % 2 ^ 16) 5 false + 2 ^ 16 * (by_ % 32)) (w 1) (w 2) (w 3) (w 4) (w 5) (w 6)

/-- The causes that the words themselves give, in the order of R470: an undefined basis or action first, then 1 to 5, then 7. -/
def slotCause (n : Nat) (x : Slot) (by_ : Nat) (s : State) : Nat :=
  if slotBasisOpen x then 2
  else if slotActionOpen x then 3
  else if slProt (slotOf n s) then 1
  else if slotBasisBad x s then 2
  else if slotActionBad x then 3
  else if slotTargetBad x s then 4
  else if slotPeriodBad x s then 5
  else if lockedFor (slotLock n s) by_ s then 7
  else 0

/-- The switch instant S: 64 FCLK on (R130). -/
def switchAt (s : State) : Nat := (nowF s + 64) * fclk

/-- A one-shot whose due point would become eligible before S, from a phase and a word of its Stage (R131). -/
def slotLateFrom (x : Slot) (phase w : Nat) (s : State) : Bool :=
  slOne x && if slLt x then decide (dueF x < nowF s + 64)
    else atReached ((phase + 63 * w) % 2 ^ 80 / 2 ^ 16) (slPhase x)

/-- A one-shot whose due point would become eligible before S as its Stage's AT runs (R131). -/
def slotLate (x : Slot) (s : State) : Bool :=
  slotLateFrom x (bobOf (slStage x) s).phase (wordOf (slStage x) s) s

/-- TCK_WCMD: admission starts, or the command is refused (R129). DESIGN CHOICE (log entry 136): a command refused while BUSY
reports a cause that its words give before BUSY; the causes that only an admission finds are not among them. -/
def slotCommand (op n by_ : Nat) (s : State) : State :=
  if op != 1 && op != 2 then slotResult 2 11 n false s
  else if on Reg.TCK_WSTAT Reg.TCK_WSTAT_BUSY s then
    let c := if op = 1 then slotCause n (stagedSlot by_ s) by_ s
      else if slProt (slotOf n s) then 1 else if lockedFor (slotLock n s) by_ s then 7 else 0
    slotResult 2 (if c = 0 then 9 else c) n false s
  else
    let adm := if op = 1 then some (stagedSlot by_ s) else none
    setB Reg.TCK_WSTAT Reg.TCK_WSTAT_BUSY true { s with tack := { s.tack with adm := some (n, adm, by_) } }

/-- The cause that refuses a write at the end of its admission, in the order of R470; 0 where it is accepted. DESIGN CHOICE (log
entry 195): LATE of a one-shot staged under a lock is judged against 64 FCLK after its own admission. -/
def writeCause (n : Nat) (x : Slot) (by_ : Nat) (s : State) : Nat :=
  let staged := (slotLock n s).isSome
  let load := (loadsOf (x :: contents (if staged then none else some n) s) s).foldl (· + ·) 0
  let c := slotCause n x by_ s
  if c != 0 && decide (c < 6) then c
  else if 32 < load then 6
  else if c = 7 then 7
  else if slotLate x s then 8
  else if slotPhaseBad x then 10
  else if !slValid x then 12
  else 0

/-- Accepted content goes to the switch list with its instant S, or is staged under the lock of its slot (R130, R134). -/
def acceptSlot (n : Nat) (c : Option Slot) (s : State) : State :=
  match slotLock n s with
  | some i => slotResult 1 0 n true (stage i (match c with
      | some x => .slot n x
      | none => .del n) s)
  | none =>
    let at_ := switchAt s
    let s := when (paired s && acting s) (fun s => { s with par := { s.par with journal := s.par.journal ++ [(n, c, at_)] } }) s
    wr64 Reg.TCK_WSW_LO Reg.TCK_WSW_HI at_
      (slotResult 1 0 n false { s with tack := { s.tack with switch := s.tack.switch ++ [(n, c, at_)] } })

/-- Admission ends (R128-R131). A DELETE of a one-shot slot without a next occurrence is already complete (R25, R131). -/
def admissionEnd (s : State) : State :=
  match s.tack.adm with
  | none => s
  | some (n, c, by_) =>
    let s := setB Reg.TCK_WSTAT Reg.TCK_WSTAT_BUSY false { s with tack := { s.tack with adm := none } }
    loadShow <| match c with
      | some x =>
        let e := writeCause n x by_ s
        if e = 0 then acceptSlot n c s else slotResult 2 e n false s
      | none =>
        let x := slotOf n s
        if slProt x then slotResult 2 1 n false s
        else if lockedFor (slotLock n s) by_ s then slotResult 2 7 n false s
        else if slOne x && (Tbl.get none s.tack.due n).isNone && (Tbl.get none s.tack.reached n).isNone then
          slotResult 3 0 n false
            { s with tack := { s.tack with slots := Tbl.put n { x with w0 := setBit x.w0 0 false } s.tack.slots } }
        else acceptSlot n none s

/-- A slot's content taken into force at S (R130). -/
def installSlot (n : Nat) (c : Option Slot) (at_ : Nat) (s : State) : State :=
  let s := verified (slotStore n) s
  match c with
  | some x =>
    let d := slotFirst x at_ s
    { s with tack := { s.tack with slots := Tbl.put n x s.tack.slots, due := Tbl.put n d s.tack.due,
                                   reached := Tbl.put n none s.tack.reached } }
  | none =>
    let x := slotOf n s
    { s with tack := { s.tack with slots := Tbl.put n { x with w0 := setBit x.w0 0 false } s.tack.slots,
                                   due := Tbl.put n none s.tack.due, reached := Tbl.put n none s.tack.reached } }

/-- The switch of a slot at its instant S. -/
def slotSwitch (n : Nat) (s : State) : State :=
  match s.tack.switch.find? (fun p => p.1 == n) with
  | none => s
  | some (_, c, at_) =>
    if at_ ≤ s.lt && !oldWaits n at_ s then
      loadShow (installSlot n c at_
        { s with tack := { s.tack with switch := s.tack.switch.eraseP (fun p => p.1 == n) } })
    else s

/-! Sequence locks (R133-R136). -/

/-- Causes of a rollback (R135). -/
def rbAbort : Nat := 1
def rbLease : Nat := 2
def rbSideband : Nat := 3

/-- A result in TCK_LSTAT; a refusal sets REFUSED and records EV21 (R138). -/
def lockResult (result cause i : Nat) (s : State) : State :=
  let s := setF Reg.TCK_LSTAT Reg.TCK_LSTAT_RESULT result (setF Reg.TCK_LSTAT Reg.TCK_LSTAT_CAUSE cause s)
  when (result == 2) (fun s => record 21 0 i none (setB Reg.TCK_EVT Reg.TCK_EVT_REFUSED true s)) s

/-- The lease that TCK_LLEASE asks for, in µs. -/
def leaseAsked (s : State) : Nat := rd Reg.TCK_LLEASE s % 2 ^ 20

/-- The domain asked for overlaps the domain of another lock (R133). -/
def domainTaken (i kind st : Nat) (s : State) : Bool :=
  let r := rd Reg.TCK_LRANGE s
  let (a, b) := (r % 2 ^ 12, r / 2 ^ 16 % 2 ^ 12)
  (List.range 8).any (fun j => j != i && lockHeld j s && lockKind j s == kind
    && (if kind = 0 then decide (a ≤ (lockRange j s).2) && decide ((lockRange j s).1 ≤ b) else lockStage j s == st))

/-- LEFT of a lock: the remaining lease in µs, rounded up. -/
def lockLeft (i : Nat) (s : State) : State :=
  setF (Reg.TCK_LOCK i) Reg.TCK_LOCK_LEFT (ceilDiv ((lockOf i s).until_ - s.lt) us) s

def lockAcquire (i kind st by_ : Nat) (s : State) : State :=
  let r := rd Reg.TCK_LRANGE s
  let lease := leaseAsked s
  if kind = 3 then lockResult 2 7 i s
  else if lockHeld i s && (lockOwner i s != by_ || (lockOf i s).commitAt.isSome) then lockResult 2 1 i s
  else if domainTaken i kind st s then lockResult 2 2 i s
  else if lease = 0 || 1000000 < lease then lockResult 2 5 i s
  else if kind = 0 && decide (r / 2 ^ 16 % 2 ^ 12 < r % 2 ^ 12) then lockResult 2 6 i s
  else
    let s := wr (Reg.TCK_LOCK i) (1 + 2 * by_ + 64 * kind + 256 * st) (wr (Reg.TCK_LRNG i) r s)
    lockLeft i (lockResult 1 0 i
      (setLock i { lockOf i s with until_ := s.lt + lease * us, commitAt := none, committed := false,
                                   doom := (lockOf i s).doom.filter (· == rbSideband) } s))

/-- The refusal of a command on a lock, in the order of TCK_LSTAT.CAUSE: not the owner of a lock that is held, or not held,
since it was not acquired, its lease has run out before this FCLK or a commit has been accepted (R136, R470). -/
def lockCause (i by_ : Nat) (s : State) : Nat :=
  if lockStages i s && lockOwner i s != by_ then 3
  else if !lockStages i s || decide ((lockOf i s).until_ < s.lt) then 4
  else 0

def lockRenew (i by_ : Nat) (s : State) : State :=
  let c := lockCause i by_ s
  let lease := leaseAsked s
  if c != 0 then lockResult 2 c i s
  else if lease = 0 || 1000000 < lease then lockResult 2 5 i s
  else lockLeft i (lockResult 1 0 i
    (setLock i { lockOf i s with until_ := s.lt + lease * us, doom := (lockOf i s).doom.filter (· == rbSideband) } s))

def lockCommit (i by_ : Nat) (s : State) : State :=
  let c := lockCause i by_ s
  if c != 0 then lockResult 2 c i s
  else
    let at_ := switchAt s
    let js := (lockOf i s).staged.filterMap (fun x => match x with
      | .slot n w => some (n, some w, at_)
      | .del n => some (n, none, at_)
      | _ => none)
    let s := when (paired s && acting s) (fun s => { s with par := { s.par with journal := s.par.journal ++ js } }) s
    lockResult 1 0 i (setLock i { lockOf i s with commitAt := some at_ } s)

/-- The lock is freed. -/
def lockFree (i : Nat) (committed : Bool) (s : State) : State :=
  wr (Reg.TCK_LOCK i) 0 (setLock i { Lock.reset with committed := committed } s)

/-- The staged work is discarded and the lock freed: ROLLBACK and EV23, which states the lock, the owner, the cause and the number
of writes discarded (R135). DESIGN CHOICE (log entry 137): DETAIL holds them in bits [2:0], [7:3], [9:8] and [15:10], the
number saturating at 63. -/
def lockRollback (i cause : Nat) (s : State) : State :=
  let d := i % 8 + 8 * (lockOwner i s % 32) + 256 * (cause % 4) + 1024 * min 63 (lockOf i s).staged.length
  record 23 0 d none (setB Reg.TCK_EVT Reg.TCK_EVT_ROLLBACK true (lockFree i false s))

/-- The lease of a lock has run out, or its owner's sideband asserts: what is not committed by the end of the FCLK is rolled back
(R135, R136). -/
def lockDoom (i cause : Nat) (s : State) : State :=
  when (lockStages i s) (setLock i { lockOf i s with doom := (lockOf i s).doom.or (some cause) }) s

/-- The end of an FCLK: the rollbacks of the locks that it doomed (R136). -/
def locksEnd (s : State) : State :=
  each (List.range 8) (fun i s =>
    match (lockOf i s).doom with
    | none => s
    | some c => if lockStages i s then lockRollback i c s else setLock i { lockOf i s with doom := none } s) s

def lockAbort (i by_ : Nat) (s : State) : State :=
  if (lockOf i s).commitAt.isSome || (lockOf i s).committed then lockResult 3 0 i s
  else
    let c := lockCause i by_ s
    if c != 0 then lockResult 2 c i s else lockResult 1 0 i (lockRollback i rbAbort s)

/-- A slot's content goes into force at S, or once the occurrence of the old content that still waits has fired (R130, R135). -/
def releaseSlot (n : Nat) (c : Option Slot) (at_ : Nat) (s : State) : State :=
  if oldWaits n at_ s then { s with tack := { s.tack with switch := s.tack.switch ++ [(n, c, at_)] } }
  else installSlot n c at_ s

/-- One piece of staged work goes into force at S (R135): slots switch, set requests wait for their hand-over. -/
def releaseStaged (at_ : Nat) (x : Staged) (s : State) : State :=
  match x with
  | .slot n w => releaseSlot n (some w) at_ s
  | .del n => releaseSlot n none at_ s
  | .stitch st set preset =>
    setB (Reg.STI_SSTAT st) Reg.STI_SSTAT_SETPEND true (setSti st { stiOf st s with req := some (set, preset) } s)
  | .carrier st set =>
    setB (Reg.PGN_SSTAT st) Reg.PGN_SSTAT_SETPEND true (setPgn st { pgnOf st s with req := some set } s)

def lockRelease (i : Nat) (s : State) : State :=
  match (lockOf i s).commitAt with
  | none => s
  | some at_ =>
    if at_ ≤ s.lt then
      let work := (lockOf i s).staged
      loadShow (each work (releaseStaged at_) (lockFree i true s))
    else s

/-! Dropped occurrences (R137). -/

/-- The Stages that depend on a bank (R256). -/
def bankStages (b : Nat) (s : State) : List Nat :=
  let fed (l : Nat) : Bool := on (Reg.RNS_LCFG l) Reg.RNS_LCFG_ENABLE s
    && fl (Reg.RNS_LCFG l) Reg.RNS_LCFG_SRC s / 16 == b
  let three (w : Word) : List Nat :=
    [fldGet Reg.DRM_LANE0_LA w, fldGet Reg.DRM_LANE0_LB w, fldGet Reg.DRM_LANE0_LC w]
  (List.range 4).filter (fun st =>
    (hasDrum st s && (three (rdW (Reg.DRM_LANE0 st) s) ++ three (rdW (Reg.DRM_LANE1 st) s)
        ++ three (rdW (Reg.DRM_BUSLANE st) s)).any fed)
      || (instsOf st s).any (fun n => fed (fl (Reg.STI_ISRC n) Reg.STI_ISRC_FBLANE s)))

/-- The Stages a protected slot belongs to (R137). -/
def slotStages (x : Slot) (s : State) : List Nat :=
  let a := slAction x
  (if slLt x then [] else [slStage x])
    ++ (if a == actDrum || a == actStitch || a == actHandover then [slTarget x % 4] else [])
    ++ (if a == actAdc then bankStages (slTarget x) s else [])

/-- The late-firing counter has overflowed: G5 against every Stage that has a protected slot (R137). -/
def lateOverflow (s : State) : State :=
  let p := s.tack.slots.filter (fun q => slValid q.2 && slProt q.2)
  gradeG5All ((List.range 4).filter (fun st => p.any (fun q => (slotStages q.2 s).contains st))) none s

def occurrenceDropped (n : Nat) (s : State) : State :=
  match eligibleAt n s with
  | none => s
  | some e =>
    if e + 7 < nowF s && slValid (slotOf n s) then
      let s := bump Reg.TCK_LATECNT whole 1 (setB Reg.TCK_EVT Reg.TCK_EVT_LATE true (tackNext n s))
      upsetThen (ctrId 2 0 0) lateOverflow (record 22 1 n none s)
    else s

/-- A slot's words in force and its next due point, latched (R138). -/
def slotLatch (n : Nat) (s : State) : State :=
  let x := slotOf n s
  let next := match Tbl.get none s.tack.reached n, Tbl.get none s.tack.due n with
    | some (_, d), _ => d % 2 ^ 32
    | none, some d => d % 2 ^ 32
    | none, none => 0
  wr Reg.TCK_RIDX n (each
    [(0, x.w0), (1, x.w1), (2, x.w2), (3, x.w3), (4, x.w4), (5, x.w5), (6, x.w6), (7, next)]
    (fun p s => wr (Reg.TCK_RD p.1) p.2 s) s)

/-! Commands. -/

/-- TCK_WCMD WRITE (R129). -/
def execSlotWrite (slot : Fin 4096) (by_ : Fin 19) (s : State) : Host.Outcome State Fault Refusal :=
  .next (pairFrom Reg.TCK_WCMD by_ (slotCommand 1 slot by_) s)

/-- TCK_WCMD DELETE (R130). -/
def execSlotDelete (slot : Fin 4096) (by_ : Fin 19) (s : State) : Host.Outcome State Fault Refusal :=
  .next (pairFrom Reg.TCK_WCMD by_ (slotCommand 2 slot by_) s)

/-- Admission ends (R128). -/
def execAdmissionComplete (s : State) : Host.Outcome State Fault Refusal := .next (admissionEnd s)

/-- The switch instant of a slot (R130). -/
def execSlotSwitch (slot : Fin 4096) (s : State) : Host.Outcome State Fault Refusal := .next (slotSwitch slot s)

/-- TCK_RIDX: the slot's words in force, latched (R138). -/
def execSlotReadLatch (slot : Fin 4096) (s : State) : Host.Outcome State Fault Refusal :=
  .next (when (stores s) (slotLatch slot) s)

/-- TCK_LCMD ACQUIRE (R133). -/
def execLockAcquire (lock : Fin 8) (kind : Fin 4) (st : Fin 4) (by_ : Fin 19) (s : State) :
    Host.Outcome State Fault Refusal := .next (pairFrom Reg.TCK_LCMD by_ (lockAcquire lock kind st by_) s)

/-- TCK_LCMD RENEW (R134). -/
def execLockRenew (lock : Fin 8) (by_ : Fin 19) (s : State) : Host.Outcome State Fault Refusal :=
  .next (pairFrom Reg.TCK_LCMD by_ (lockRenew lock by_) s)

/-- TCK_LCMD COMMIT (R135). -/
def execLockCommit (lock : Fin 8) (by_ : Fin 19) (s : State) : Host.Outcome State Fault Refusal :=
  .next (pairFrom Reg.TCK_LCMD by_ (lockCommit lock by_) s)

/-- The instant S of a committed lock (R135). -/
def execLockCommitRelease (lock : Fin 8) (s : State) : Host.Outcome State Fault Refusal := .next (lockRelease lock s)

/-- TCK_LCMD ABORT (R135, R136). -/
def execLockAbort (lock : Fin 8) (by_ : Fin 19) (s : State) : Host.Outcome State Fault Refusal :=
  .next (pairFrom Reg.TCK_LCMD by_ (lockAbort lock by_) s)

/-- A lease runs out (R135): a COMMIT of the same FCLK still completes (R136). -/
def leaseExpiry (i : Nat) (s : State) : State :=
  if !lockStages i s then s
  else if (lockOf i s).until_ < s.lt then lockRollback i rbLease s
  else if (lockOf i s).until_ = s.lt then lockDoom i rbLease s
  else s

def execLockLeaseExpiry (lock : Fin 8) (s : State) : Host.Outcome State Fault Refusal := .next (leaseExpiry lock s)

/-- The reset or power-down sideband of an owner asserts (R135): every lock of it ends with this FCLK (R136). -/
def ownerSideband (mine : Nat → Bool) (s : State) : State :=
  each (List.range 8) (fun i s => when (lockHeld i s && mine (lockOwner i s)) (lockDoom i rbSideband) s) s

def execLockOwnerSideband (owner : Fin 19) (s : State) : Host.Outcome State Fault Refusal :=
  .next (ownerSideband (fun w => w == owner.val) s)

/-- An occurrence that was not fired within 7 FCLK (R137). -/
def execOccurrenceDropped (slot : Fin 4096) (s : State) : Host.Outcome State Fault Refusal :=
  .next (occurrenceDropped slot s)

/-- The GPIO level that a firing sets, on a unit that acts (R124, R372). -/
def gpioAction (arg : Nat) (x : Slot) (s : State) : State :=
  if slArg x = arg && acting s then
    let g := slTarget x % 32
    { s with gpioOut := setBit s.gpioOut g (match arg with
      | 0 => false
      | 1 => true
      | _ => !s.gpioOut.testBit g) }
  else s

/-- A GPIO action fires only where its ARG is the command's. -/
def gpioFiring (n arg : Nat) (s : State) : State :=
  if slArg (slotOf n s) = arg then firing n actGpio (gpioAction arg) s else s

def execGpioLow (slot : Fin 4096) (s : State) : Host.Outcome State Fault Refusal := .next (gpioFiring slot 0 s)
def execGpioHigh (slot : Fin 4096) (s : State) : Host.Outcome State Fault Refusal := .next (gpioFiring slot 1 s)
def execGpioToggle (slot : Fin 4096) (s : State) : Host.Outcome State Fault Refusal := .next (gpioFiring slot 2 s)

end Sys2Proof.Machine
end

