-- ==== Sys2Proof/Machine/Adc.lean ====
section
/-! DEFINITION. The measurement banks: sequences and their rounds, urgent conversions, delivery, calibration on the rotating
spare, retirement and rate loss, diagnostic channels and the reference check (R239-R259). -/

namespace Sys2Proof.Machine

def bankUsed (b : Nat) (s : State) : Bool := bitAt (Reg.ADC_BCFG b) 0 s
def bankRetired (b : Nat) (s : State) : Bool := on (Reg.ADC_BSTAT b) Reg.ADC_BSTAT_RETIRED s
def bankReady (b : Nat) (s : State) : Bool := on (Reg.ADC_BSTAT b) Reg.ADC_BSTAT_READY s

/-! Slices: ROLE, POS and PHASE of ADC_SSTAT. -/
def slRole : Fld := ⟨0, 2⟩
def slPos : Fld := ⟨2, 2⟩
def slPhase_ : Fld := ⟨4, 2⟩
def roleActive_ : Nat := 0
def roleSpare : Nat := 1
def roleRetired : Nat := 2
def phNone : Nat := 0
def phAbs : Nat := 1
def phRel : Nat := 2

def sliceRole (b k : Nat) (s : State) : Nat := fl (Reg.ADC_SSTAT b k) slRole s
def slicePhase (b k : Nat) (s : State) : Nat := fl (Reg.ADC_SSTAT b k) slPhase_ s
def activeSlices (b : Nat) (s : State) : List Nat := (List.range 5).filter (fun k => sliceRole b k s == roleActive_)
def retiredSlices (b : Nat) (s : State) : Nat := ((List.range 5).filter (fun k => sliceRole b k s == roleRetired)).length

/-- The slice at an active position, and the spare. -/
def sliceAt (b p : Nat) (s : State) : Nat :=
  ((activeSlices b s).find? (fun k => fl (Reg.ADC_SSTAT b k) slPos s == p)).getD 0
def spareOf (b : Nat) (s : State) : Option Nat := (List.range 5).find? (fun k => sliceRole b k s == roleSpare)

/-- Three active slices (R255). -/
def bankThree (b : Nat) (s : State) : Bool := (activeSlices b s).length == 3

/-- Offset in 1/16 LSB and gain in UQ2.20 of a slice (R249, R260). -/
def sliceOfs (b k : Nat) (s : State) : Int := signed 20 (rd (Reg.ADC_SOFS b k) s)
def sliceGain (b k : Nat) (s : State) : Nat := rd (Reg.ADC_SGAIN b k) s % 2 ^ 22

/-- The mismatch that Tumble forces on a slice: KIND and MAG; KIND 3: none (R220, R253). -/
def sliceMis (b k : Nat) (s : State) : Nat × Int :=
  let w := rd Reg.TMB_SLICE s
  if on Reg.TMB_CTL Reg.TMB_CTL_SLICE s && w % 4 == b && w / 4 % 8 == k then (w / 32 % 4, signed 16 (w / 2 ^ 16)) else (3, 0)

/-- A raw result with the mismatch of its slice added, at a stamp in 1/64 eu (R253). -/
def withMis (m : Nat × Int) (at_ : Nat) (code : Int) : Int :=
  match m.1 with
  | 0 => clampI (-32768) 32767 (code + m.2)
  | 1 => clampI (-32768) 32767 (code + roundDiv (code * m.2) (2 ^ 16))
  | 2 => clampI (-32768) 32767 (Config.skewed code m.2 at_)
  | _ => code

/-- The sum of `n` raw results at one constant input with the mismatch of its slice; a timing skew does not change it (R253). -/
def sumMis (m : Nat × Int) (n : Nat) (x : Int) : Int :=
  match m.1 with
  | 0 => x + n * m.2
  | 1 => x + roundDiv (x * m.2) (2 ^ 16)
  | _ => x

/-- ADC_BSTAT shows the sequence in progress, and the slices. -/
def bankShow (b : Nat) (s : State) : State :=
  let x := bankOf b s
  let a := Reg.ADC_BSTAT b
  let s := setF a Reg.ADC_BSTAT_ENTRY ((x.run.map (·.entry)).getD 0) s
  let s := setB a Reg.ADC_BSTAT_RUN ((x.run.map (fun r => !r.urgent)).getD false) s
  let s := setB a Reg.ADC_BSTAT_URGENT ((x.run.map (·.urgent)).getD false) s
  let s := setB a Reg.ADC_BSTAT_HELD x.held.isSome s
  let s := setF a Reg.ADC_BSTAT_NSLICE (if bankRetired b s then 0 else 5 - retiredSlices b s) s
  setF a Reg.ADC_BSTAT_SPARE ((spareOf b s).getD 7) s

/-! Rounds (R239). -/

/-- The chain from an entry returns to an entry already in it (R242). -/
def seqLoops (b : Nat) : Nat → Nat → State → Bool
  | 0, _, _ => true
  | fuel + 1, e, s => if entEnd b e s then false else seqLoops b fuel (entNext b e s) s

/-- A run begins an entry with its first round at an FCLK. -/
def runFrom (b e : Nat) (urgent : Bool) (next : Nat) (s : State) : Run :=
  ⟨urgent, e, [], entCount b e s, next, false⟩

/-- Offset and gain by position, as a round uses them. -/
def calNow (b : Nat) (s : State) : List (Int × Nat) :=
  (List.range (activeSlices b s).length).map (fun p => (sliceOfs b (sliceAt b p s) s, sliceGain b (sliceAt b p s) s))

/-- The Tumble mismatch by position. -/
def misNow (b : Nat) (s : State) : List (Nat × Int) :=
  (List.range (activeSlices b s).length).map (fun p => sliceMis b (sliceAt b p s) s)

/-- The shadow samples of a REL: one in every round that converts on the shadowed position (R251). -/
def relSample (b e : Nat) (s : State) : State :=
  match spareOf b s with
  | none => s
  | some k =>
    let p := fl (Reg.ADC_BSTAT b) Reg.ADC_BSTAT_SHADOW s
    if slicePhase b k s = phRel && (entIntlv b e s || decide (p < entNin b e s)) then
      setBank b { bankOf b s with relCount := (bankOf b s).relCount + 1 } s
    else s

/-- A round is taken at its instant; the entry's last round makes its delivery due 30 FCLK after the last sampling instant,
and the chain goes on with NEXT or is done (R243). -/
def takeRound (b : Nat) (s : State) : State :=
  match (bankOf b s).run with
  | none => s
  | some r =>
    if r.done then s
    else
      let (iv, nin, three) := (entIntlv b r.entry s, entNin b r.entry s, bankThree b s)
      let rnd : Round := ⟨r.next, three, calNow b s, misNow b s⟩
      let s := relSample b r.entry s
      let len := roundLen three iv nin
      let x := { bankOf b s with last := (r.next, iv, len) }
      let rounds := rnd :: r.rounds
      if 1 < r.left then
        setBank b { x with run := some { r with rounds := rounds, left := r.left - 1,
                                                 next := r.next + roundStep len iv iv } } s
      else
        let due := r.next * 1024 + roundLast three iv nin + 30 * 1024
        let x := { x with deliver := x.deliver ++ [(r.entry, rounds.reverse, due)] }
        if entEnd b r.entry s then
          bankShow b (setBank b { x with run := some { r with rounds := [], left := 0, done := true } } s)
        else
          let e := entNext b r.entry s
          bankShow b (setBank b
            { x with run := some (runFrom b e r.urgent (r.next + roundStep len iv (entIntlv b e s)) s) } s)

/-- The round whose instant is this FCLK, on every bank. -/
def adcTick (s : State) : State :=
  each (List.range 4) (fun b s =>
    match (bankOf b s).run with
    | some r => if !r.done && r.next ≤ nowF s then takeRound b s else s
    | none => s) s

/-- The FCLK at which a bank's sequence stops occupying it: after the last round of its END entry (R243). -/
def busyEnd (b : Nat) (s : State) : Nat :=
  let (t, iv, len) := (bankOf b s).last
  t + (if iv then 35 else len)

/-- The first round of a sequence that follows the last round taken (R239); never before the bank is free. -/
def roundAfter (b e : Nat) (s : State) : Nat :=
  let (t, iv, len) := (bankOf b s).last
  max (busyEnd b s) (t + roundStep len iv (entIntlv b e s))

/-- Conversions of an entry that are discarded (R244, R247). -/
def discard (b : Nat) (r : Run) (s : State) : State :=
  let n := (r.rounds.map (fun q => (roundConv q.three (entIntlv b r.entry s) (entNin b r.entry s)).length)).sum
  bump (Reg.ADC_DISC b) whole n s

/-! Starts (R244, R246, R248). -/

/-- An overrun: the start is dropped, EV100 with G1, and the bank's counter (R244). -/
def adcOverrun (b : Nat) (s : State) : State :=
  let s := bump (Reg.ADC_OVRCNT b) ⟨0, 16⟩ 1 (setB (Reg.ADC_BEVT b) Reg.ADC_BEVT_OVERRUN true s)
  upsetThen (ctrId 8 b 1) (fun s => gradeG3All (bankStages b s) none s) (record 100 1 b none s)

/-- EV99 for an interrupted entry (R246). -/
def preempted (b e : Nat) (s : State) : State :=
  record 99 0 (32 * b + e) none (setB (Reg.ADC_BEVT b) Reg.ADC_BEVT_PREEMPT true s)

/-- A normal START_ADC (R244, R248); a sequence that replaces a running loop takes the loop's next round instant, or where its
own mode needs more room after the round before it (R239) the instant that leaves this room. -/
def startNormal (b e : Nat) (s : State) : State :=
  let x := bankOf b s
  let loops (e : Nat) : Bool := seqLoops b 33 e s
  let begin_ := setBank b { x with run := some (runFrom b e false (nowF s + 4) s), firedAt := nowF s } s
  if bankRetired b s then s
  else bankShow b <| match x.run with
    | none => begin_
    | some r =>
      if r.urgent then
        match x.held with
        | some h => if loops h then setBank b { x with held := none, wait := some e } s else adcOverrun b s
        | none =>
          if x.wait.isSome then adcOverrun b s
          else if x.firedAt = nowF s then preempted b e (setBank b { x with held := some e } s)
          else setBank b { x with wait := some e } s
      else if loops r.entry then
        setBank b { x with run := some (runFrom b e false
            (max r.next (x.last.1 + roundStep x.last.2.2 x.last.2.1 (entIntlv b e s))) s), firedAt := nowF s } (discard b r s)
      else adcOverrun b s

/-- An urgent START_ADC (R246, R248): rounds before u + 4 are still taken; the entry of the first round not taken is
interrupted and held; a normal start of the same FCLK has taken none. -/
def startUrgent (b e : Nat) (s0 : State) : State :=
  if bankRetired b s0 then s0
  else bankShow b <| match (bankOf b s0).run with
    | none => setBank b { bankOf b s0 with run := some (runFrom b e true (nowF s0 + 4) s0), firedAt := nowF s0 } s0
    | some r0 =>
      if r0.urgent then adcOverrun b s0
      else
        let s := if !r0.done && (bankOf b s0).firedAt != nowF s0 && r0.next < nowF s0 + 4 then takeRound b s0 else s0
        let x := bankOf b s
        match x.run with
        | none => s
        | some r =>
          let first := max (nowF s + 4) (x.last.1 + roundStep x.last.2.2 x.last.2.1 (entIntlv b e s))
          let go (h : Option Nat) (s : State) : State :=
            setBank b { bankOf b s with run := some (runFrom b e true first s), held := h, firedAt := nowF s } s
          if r.done then go none s
          else preempted b r.entry (go (some r.entry) (discard b r s))

/-- The busy end of a sequence frees the bank; after an urgent one the held or the waiting sequence follows (R243, R247,
R248). -/
def sequenceEnd (b : Nat) (s : State) : State :=
  let x := bankOf b s
  match x.run with
  | some r =>
    if r.done && busyEnd b s ≤ nowF s then
      bankShow b <| match (if r.urgent then x.held <|> x.wait else none) with
      | some e => setBank b { x with run := some (runFrom b e false (roundAfter b e s) s), held := none, wait := none } s
      | none => setBank b { x with run := none } s
    else s
  | none => s

/-! Delivery (R240, R241, R243, R258). -/

/-- A raw code corrected: g × (x − o) in 1/16 LSB, saturated at the 16-bit full scale (R240, R249). -/
def correct (cal : Int × Nat) (code : Int) : Int :=
  clampI (-32768 * 16) (32767 * 16) (roundDiv ((code * 16 - cal.1) * cal.2) (2 ^ 20))

/-- OVR at every over-range result of an input, and EV101 once per run of them (R241). -/
def overRange (c : Nat) (code : Int) (s : State) : State :=
  let over_ := code == -32768 || code == 32767
  let was := s.overRun.contains c
  let s := when over_ (setBitAt (Reg.ADC_IEVT c) 0 true) s
  if over_ && !was then record 101 0 c none { s with overRun := c :: s.overRun }
  else if !over_ && was then { s with overRun := s.overRun.filter (· != c) }
  else s

/-- Divider of a supply channel, and whether its unit is 0.1 mV (R258). -/
def diagDiv (d : Nat) : Nat := [2, 2, 4, 2, 4, 2, 2, 2, 8, 4].getD d 1

/-- The reading of a diagnostic channel in the unit of ADC_DVAL (R258; log entry 160). -/
def diagValue (d : Nat) (v : Int) : Int :=
  if d < 10 then roundDiv (v * 2400 * diagDiv d * (if d = 0 then 10 else 1)) (16 * 2 ^ 16) else Config.diagTemp d v

/-- A reading of a diagnostic channel lies on a side of ADC_DLIM (bit 0 low, 1 high): its flag, and EV110 once per excursion to
that side (R258). -/
def diagSide (d side : Nat) (out : Bool) (s : State) : State :=
  let k := 2 * d + side
  let was := s.diagRun.contains k
  let s := when out (setBitAt (Reg.ADC_DEVT d) side true) s
  if out && !was then record 110 0 d none { s with diagRun := k :: s.diagRun }
  else if !out && was then { s with diagRun := s.diagRun.filter (· != k) }
  else s

/-- A conversion of a diagnostic channel: ADC_DVAL, and the comparison with ADC_DLIM (R258). -/
def diagResult (d : Nat) (v : Int) (s : State) : State :=
  let x := diagValue d v
  let num (n : Nat) : Int := if d < 10 then n else signed 16 n
  let lim := rd (Reg.ADC_DLIM d) s
  diagSide d 1 (decide (num (lim / 2 ^ 16) < x)) (diagSide d 0 (decide (x < num (lim % 2 ^ 16)))
    (wr (Reg.ADC_DVAL d) (codeOf 16 x) s))

/-- One conversion of an entry's input: the last value, over-range, diagnostics. -/
def conversion (b input : Nat) (code v : Int) (s : State) : State :=
  if input < 12 then wr (Reg.ADC_ILAST (12 * b + input)) (codeOf 20 v) (overRange (12 * b + input) code s)
  else if 16 ≤ input then diagResult (input - 16) v s
  else s

/-- The conversions of an entry: input index, calibration and instant in 1/64 eu, in the order of sampling. -/
def entConvs (b e : Nat) (rounds : List Round) (s : State) : List (Nat × (Int × Nat) × Nat) :=
  rounds.flatMap (fun q => (roundConv q.three (entIntlv b e s) (entNin b e s)).map (fun c =>
    (c.1, q.cal.getD c.2.1 (0, 2 ^ 20), q.start * 1024 + c.2.2)))

/-- The raw results of an entry with the mismatches of their slices, from what the input alone would give (R253). -/
def entRaw (b e : Nat) (rounds : List Round) (codes : List Int) (s : State) : List Int :=
  let mis := rounds.flatMap (fun q => (roundConv q.three (entIntlv b e s) (entNin b e s)).map (fun c => q.mis.getD c.2.1 (3, 0)))
  ((entConvs b e rounds s).zip (mis.zip codes)).map (fun p => withMis p.2.1 p.1.2.2 p.2.2)

/-- An entry's samples reach their streams together; `codes` are the raw results of its conversions in order (R243). -/
def deliverEntry (b : Nat) (codes : List Int) (s : State) : State :=
  let x := bankOf b s
  match x.deliver with
  | [] => s
  | (e, rounds, due) :: rest =>
    let cs := entConvs b e rounds s
    if due ≤ 64 * s.lt && cs.length == codes.length then
      let s := setBank b { x with deliver := rest } s
      let res := (cs.zip (entRaw b e rounds codes s)).map (fun p => (p.1.1, correct p.1.2.1 p.2, p.1.2.2, p.2))
      let s := each res (fun p s => conversion b (entIn b e p.1 s) p.2.2.2 p.2.1 s) s
      if entAvg b e s then
        each (List.range (entNin b e s)) (fun i s =>
          let mine := res.filter (fun p => p.1 == i)
          let n := mine.length
          streamSample (entStream b e i s) (roundDiv (mine.map (·.2.1)).sum n)
            (roundUp ((mine.map (·.2.2.1)).sum : Nat) n).toNat s) s
      else each res (fun p s => streamSample (entStream b e p.1 s) p.2.1 p.2.2.1 s) s
    else s

/-! Calibration (R250-R253). -/

def nabsOf (b : Nat) (s : State) : Nat := rd (Reg.ADC_BCAL0 b) s % 2 ^ 16
def nrelOf (b : Nat) (s : State) : Nat := 16 * (rd (Reg.ADC_BCAL0 b) s / 2 ^ 16)

/-- A slice starts ABS. -/
def startAbs (b k : Nat) (s : State) : State :=
  setF (Reg.ADC_SSTAT b k) slPhase_ phAbs (setBank b { bankOf b s with absAt := Tbl.put k s.lt (bankOf b s).absAt } s)

/-- The spare starts REL on the next position (R251, R252). -/
def startRel (b k : Nat) (s : State) : State :=
  setF (Reg.ADC_SSTAT b k) slPhase_ phRel (setBank b { bankOf b s with relAt := s.lt, relCount := 0 } s)

/-- READY once every slice in service has completed its initial ABS (R250). -/
def readyCheck (b : Nat) (s : State) : State :=
  if bankReady b s || (List.range 5).any (fun k => sliceRole b k s != roleRetired && slicePhase b k s == phAbs) then s
  else
    let s := setBitAt Reg.ADC_GSTAT b true (setB (Reg.ADC_BSTAT b) Reg.ADC_BSTAT_READY true s)
    match spareOf b s with
    | some k => startRel b k s
    | none => s

/-- Calibration stops: no spare is left (R254). -/
def freeze (b : Nat) (s : State) : State :=
  let s := setB (Reg.ADC_BSTAT b) Reg.ADC_BSTAT_FROZEN true (setBank b { bankOf b s with rotAt := none } s)
  each ((List.range 5).filter (fun k => bankReady b s || slicePhase b k s == phRel))
    (fun k => setF (Reg.ADC_SSTAT b k) slPhase_ phNone) s

/-- A slice is retired (R254-R256): EV97 first; the spare takes its place, the bank goes to three slices, or the bank is
retired. -/
def retireSlice (b k : Nat) (s : State) : State :=
  let role := sliceRole b k s
  if role = roleRetired || bankRetired b s then s
  else
    let s := record 97 2 (5 * b + k) none (setB (Reg.ADC_BEVT b) Reg.ADC_BEVT_RETIRED true
      (setBitAt (Reg.ADC_SEVT b k) 1 true s))
    let p := fl (Reg.ADC_SSTAT b k) slPos s
    let s := wr (Reg.ADC_SSTAT b k) roleRetired s
    let n := retiredSlices b s
    let s :=
      if n = 1 then
        match (if role = roleActive_ then spareOf b s else none) with
        | some j => freeze b (setF (Reg.ADC_SSTAT b j) slRole roleActive_ (setF (Reg.ADC_SSTAT b j) slPos p s))
        | none => freeze b s
      else if n = 2 then
        let act := (List.range 5).filter (fun j => sliceRole b j s == roleActive_)
        let ord := (List.range 4).filterMap (fun q => act.find? (fun j => fl (Reg.ADC_SSTAT b j) slPos s == q))
        let s := each (ord.zip (List.range 3)) (fun q s => setF (Reg.ADC_SSTAT b q.1) slPos q.2 s) s
        lanesRate b (record 98 0 b none (setB (Reg.ADC_BEVT b) Reg.ADC_BEVT_RATE true s))
      else
        let x := bankOf b s
        let s := setBank b { x with run := none, held := none, wait := none } s
        let s := setB (Reg.ADC_BSTAT b) Reg.ADC_BSTAT_RETIRED true (setBitAt Reg.ADC_GSTAT (4 + b) true s)
        under 97 (5 * b + k)
          (fun s => gradeG5All (bankStages b s) (some (permanent 97 b)) (lanesBankRetired b s)) s
    bankShow b (readyCheck b s)

/-- EV96 against a slice, and its counter (R250, R253). -/
def calUpset (b k : Nat) (s : State) : State :=
  upsetThen (ctrId 8 (5 * b + k) 0) (retireSlice b k)
    (record 96 1 (5 * b + k) none (setBitAt (Reg.ADC_SEVT b k) 0 true s))

/-- A slice ends ABS, with the sums of its NABS codes at −1.000 V, 0 V and +1.000 V (R250). -/
def absComplete (b k : Nat) (sn sz sp : Int) (s : State) : State :=
  let n := nabsOf b s
  if bankUsed b s && slicePhase b k s == phAbs
      && decide (Tbl.get 0 (bankOf b s).absAt k + fclk * (60 * n) ≤ s.lt) then
    let lim := rd (Reg.ADC_BLIM b) s
    let m := sliceMis b k s
    let (sn, sz, sp) := (sumMis m n sn, sumMis m n sz, sumMis m n sp)
    let d := sp - sn
    let bad := decide (((lim % 2 ^ 8 * n : Nat) : Int) < sz.natAbs)
      || decide (d ≤ 0)
      || decide (((lim / 2 ^ 8 % 2 ^ 8 : Nat) : Int) * (3 * d) < (163840 * (n : Int) - 3 * d).natAbs * 2 ^ 14)
    if bad then
      let s := calUpset b k s
      if slicePhase b k s = phAbs then startAbs b k s else s
    else
      let s := wr (Reg.ADC_SOFS b k) (codeOf 20 (roundDiv (16 * sz) n)) s
      let s := wr (Reg.ADC_SGAIN b k) (roundDiv (163840 * (n : Int) * 2 ^ 20) (3 * d).toNat).toNat s
      let s := setF (Reg.ADC_SSTAT b k) slPhase_ phNone s
      if bankReady b s then
        if sliceRole b k s = roleSpare then startRel b k s else s
      else readyCheck b s
  else s

/-- REL ends: the spare will replace the shadowed position (R252). -/
def relEnd (b k : Nat) (trim : Option Int) (s : State) : State :=
  let s := match trim with
    | some t => wr (Reg.ADC_STRIM b k) (codeOf 16 (satBits 16 t)) s
    | none => s
  setF (Reg.ADC_SSTAT b k) slPhase_ phNone (setBank b { bankOf b s with rotAt := some (nowF s) } s)

/-- NREL pairs gathered (R251, R253): Σ(d+ + d−)(d+ − d−), Σ(d+ − d−)², Σ(d+ + d−) in 1/16 LSB, and the regression gain in
2^-20, of results that hold the mismatch of their slice (DESIGN CHOICE, log entry 157). -/
def relComplete (b : Nat) (sxy sxx sm : Int) (gain : Int) (s : State) : State :=
  match spareOf b s with
  | none => s
  | some k =>
    let n := nrelOf b s
    if slicePhase b k s = phRel && 2 * n ≤ (bankOf b s).relCount then
      let j := sliceAt b (fl (Reg.ADC_BSTAT b) Reg.ADC_BSTAT_SHADOW s) s
      let tp := signed 16 (rd (Reg.ADC_STRIM b j) s)
      let flat := decide (sxx < 1024 * n) || decide (sxx ≤ 0)
      let skew := if flat then 0 else roundDiv (256 * sxy) sxx.toNat
      if decide (8 * (rd (Reg.ADC_BLIM b) s / 2 ^ 16 % 2 ^ 8) < skew.natAbs) then
        let s := calUpset b k s
        if slicePhase b k s = phRel then startAbs b k s else s
      else
        let ofs := rd (Reg.ADC_BCAL1 b) s / 2 ^ 8 % 2 ^ 8
        let cg := rd (Reg.ADC_BCAL1 b) s / 2 ^ 16
        if 32 * ofs * n < sm.natAbs || cg < (gain - 2 ^ 20).natAbs then
          let s := calUpset b j s
          if sliceRole b j s = roleRetired then s else relEnd b k (some tp) s
        else relEnd b k (if flat then none else some (tp - skew)) s
    else s

/-- REL without NREL pairs within CALTO (R251). -/
def relTimeout (b : Nat) (s : State) : State :=
  match spareOf b s with
  | none => s
  | some k =>
    let to_ := rd (Reg.ADC_BCAL1 b) s % 2 ^ 8 * 1000 * ms
    if slicePhase b k s = phRel && (bankOf b s).relCount < 2 * nrelOf b s && (bankOf b s).relAt + to_ ≤ s.lt then
      relEnd b k none (bump (Reg.ADC_RELSKIP b) ⟨0, 16⟩ 1 s)
    else s

/-- At each rotation the mean trim of the active slices moves towards 0 by at most 1/64 eu, the same step on all five
(R252). -/
def trimStep (b : Nat) (s : State) : State :=
  let sum := ((activeSlices b s).map (fun k => signed 16 (rd (Reg.ADC_STRIM b k) s))).sum
  let step : Int := if sum ≥ 4 then -1 else if sum ≤ -4 then 1 else 0
  each (List.range 5) (fun k s => wr (Reg.ADC_STRIM b k) (codeOf 16 (satBits 16 (signed 16 (rd (Reg.ADC_STRIM b k) s) + step))) s) s

/-- The spare replaces the shadowed position at a round boundary at least 4 FCLK after REL, or at once where no sequence
runs; the former slice becomes the spare and starts ABS (R252). -/
def spareRotate (b : Nat) (s : State) : State :=
  match spareOf b s, (bankOf b s).rotAt with
  | some k, some f =>
    let x := bankOf b s
    let atRound := x.run.isSome && x.last.1 == nowF s && decide (f + 4 ≤ nowF s)
    if x.run.isNone || atRound then
      let p := fl (Reg.ADC_BSTAT b) Reg.ADC_BSTAT_SHADOW s
      let j := sliceAt b p s
      let s := setBank b { x with rotAt := none } s
      let s := setF (Reg.ADC_SSTAT b k) slRole roleActive_ (setF (Reg.ADC_SSTAT b k) slPos p s)
      let s := setF (Reg.ADC_SSTAT b j) slRole roleSpare (setF (Reg.ADC_SSTAT b j) slPos 0 s)
      let s := startAbs b j (setBitAt (Reg.ADC_SEVT b k) 2 true (setBitAt (Reg.ADC_SEVT b j) 2 true s))
      let s := setF (Reg.ADC_BSTAT b) Reg.ADC_BSTAT_SHADOW ((p + 1) % 4) (trimStep b s)
      -- the round that starts at this boundary samples with the new slice, be it its entry's last
      let y := bankOf b s
      let renew (q : Round) : Round := if q.start == nowF s then { q with cal := calNow b s, mis := misNow b s } else q
      bankShow b (when atRound (setBank b
        { y with run := y.run.map (fun r => { r with rounds := r.rounds.map renew })
                 deliver := y.deliver.map (fun d => (d.1, d.2.1.map renew, d.2.2)) }) s)
    else s
  | _, _ => s

/-- The reference check of every 1 ms (R259), with the ADC reference and the monitor reference in 0.1 mV. -/
def referenceCheck (ref mon : Nat) (s : State) : State :=
  if mon < ((ref : Int) - mon).natAbs * 200 then
    let sts := (List.range 4).filter (fun st => (List.range 4).any (fun b => (bankStages b s).contains st))
    let s := setBitAt Reg.ADC_GEVT 0 true (setBitAt Reg.ADC_GSTAT 8 false s)
    under 111 0 (gradeG3All sts (some ⟨111, 0⟩)) (record 111 3 0 none s)
  else dropCause ⟨111, 0⟩ (setBitAt Reg.ADC_GSTAT 8 true s)

/-! Commands. -/

/-- A START_ADC slot fires, normal or urgent as ARG[8] says. -/
def adcFire (n : Nat) (urgent : Bool) (f : Nat → Nat → State → State) (s : State) : State :=
  if (slArg (slotOf n s)).testBit 8 == urgent then
    firing n actAdc (fun x s => f (slTarget x % 4) (slArg x % 32) s) s
  else s

def execStartAdc (slot : Fin 4096) (s : State) : Host.Outcome State Fault Refusal := .next (adcFire slot false startNormal s)

def execStartAdcUrgent (slot : Fin 4096) (s : State) : Host.Outcome State Fault Refusal := .next (adcFire slot true startUrgent s)

def execEntryDelivery (bank : Fin 4) (codes : List (BitVec 16)) (s : State) : Host.Outcome State Fault Refusal :=
  .next (deliverEntry bank (codes.map (·.toInt)) s)

def execSequenceBusyEnd (bank : Fin 4) (s : State) : Host.Outcome State Fault Refusal := .next (sequenceEnd bank s)

def execAbsComplete (bank : Fin 4) (slice : Fin 5) (low zero high : BitVec 32) (s : State) : Host.Outcome State Fault Refusal :=
  .next (absComplete bank slice low.toInt zero.toInt high.toInt s)

def execRelComplete (bank : Fin 4) (sxy sxx sm : BitVec 64) (gain : BitVec 32) (s : State) : Host.Outcome State Fault Refusal :=
  .next (relComplete bank sxy.toInt sxx.toInt sm.toInt gain.toInt s)

def execRelTimeout (bank : Fin 4) (s : State) : Host.Outcome State Fault Refusal := .next (relTimeout bank s)

def execSpareRotate (bank : Fin 4) (s : State) : Host.Outcome State Fault Refusal := .next (spareRotate bank s)

def execReferenceCheck (ref mon : BitVec 16) (s : State) : Host.Outcome State Fault Refusal :=
  .next (referenceCheck ref.toNat mon.toNat s)

end Sys2Proof.Machine
end

