-- ==== Sys2Proof/Machine/PulseCore.lean ====
section
/-! DEFINITION. Carriers and their points in planner time, the judgement of intervals, and compares (R139-R148, R154,
R155). -/

namespace Sys2Proof.Machine

/-! Carrier parameters (R139-R144). -/

/-- The set of a carrier in force, and a register of it. -/
def carSet (c : Nat) (s : State) : Nat := fl (Reg.PGN_CSTAT c) Reg.PGN_CSTAT_SETACT s
def carMode (c : Nat) (s : State) : Word := rdW (Reg.PGN_KMODE c (carSet c s)) s
def carStage (c : Nat) (s : State) : Nat := fl (Reg.PGN_CCFG c) Reg.PGN_CCFG_STAGE s
def carUsed (c : Nat) (s : State) : Bool := on (Reg.PGN_CCFG c) Reg.PGN_CCFG_ENABLE s
def carFollows (c : Nat) (s : State) : Bool := fldGet Reg.PGN_KMODE_FOLLOW (carMode c s) != 0
def carsOf (st : Nat) (s : State) : List Nat := (List.range 16).filter (fun c => carUsed c s && carStage c s == st)

/-- The carrier that gives basis, period and dither: the parent of a follower, else itself (R144). -/
def carSource (c : Nat) (s : State) : Nat :=
  if carFollows c s then fldGet Reg.PGN_KMODE_PARENT (carMode c s) else c

/-- Shape and load code of a carrier, its own (R144). -/
def carShape (c : Nat) (s : State) : Nat := fldGet Reg.PGN_KMODE_SHAPE (carMode c s)
def carLoad (c : Nat) (s : State) : Nat := fldGet Reg.PGN_KMODE_LOAD (carMode c s)
def carTri (c : Nat) (s : State) : Bool := carShape c s == 2
def carAtBasis (c : Nat) (s : State) : Bool := fldGet Reg.PGN_KMODE_BASIS (carMode (carSource c s) s) != 0

/-- PER in eu, or NPC (R140). -/
def carPer (c : Nat) (s : State) : Nat :=
  let k := carSource c s
  let w := rd (Reg.PGN_KPER k (carSet k s)) s
  if carAtBasis c s then w % 2 ^ 16 else w

/-- PH in 2^-16 periods; a follower's adds to its parent's (R144). -/
def carPh (c : Nat) (s : State) : Nat :=
  let own (k : Nat) := rd (Reg.PGN_KPH k (carSet k s)) s % 2 ^ 16
  if carFollows c s then own c + own (carSource c s) else own c

/-- The lead carrier of a Stage (R166). -/
def leadCarrier (st : Nat) (s : State) : Option Nat := (carsOf st s).find? (fun c => !carFollows c s)

/-! Dither (R143). -/

/-- One shift of the PRBS-15 generator. -/
def prbsShift (x : Nat) : Nat := (2 * x + (if x.testBit 14 != x.testBit 13 then 1 else 0)) % 2 ^ 15

/-- A period's fifteen shifts. -/
def prbsNext (x : Nat) : Nat := (List.range 15).foldl (fun a _ => prbsShift a) x

/-- x_k in 2^-16, for the start number `n` since the set took effect and the PRBS state there. -/
def ditherX (c : Nat) (n : Int) (prbs : Nat) (s : State) : Int :=
  let k := carSource c s
  let m := carMode k s
  if n < 0 then 0
  else match fldGet Reg.PGN_KMODE_DMODE m with
    | 1 => signed 16 (rd (Reg.PGN_DTAB k (n.toNat % (fldGet Reg.PGN_KMODE_DLEN m + 1))) s)
    | 2 => ((prbs : Int) - 16384) * 2
    | _ => 0

/-- The position of the start of period `k`, number `n`, in 2^-57 periods (R140, R143). -/
def startPos (c : Nat) (k n : Int) (prbs : Nat) (s : State) : Int :=
  let q := carSource c s
  let damp := fl (Reg.PGN_KDITH q (carSet q s)) Reg.PGN_KDITH_DAMP s
  k * 2 ^ 57 + carPh c s * 2 ^ 41 + damp * ditherX c n prbs s * 2 ^ 25

/-- The PRBS state of the next start. -/
def prbsAt (n : Int) (x : Nat) : Nat := if n < 0 then x else prbsNext x

/-! Positions and time (R140, R147). -/

/-- PLEAD of a Stage, and the planning instant of a carrier's Stage (R146). -/
def pleadOf (st : Nat) (s : State) : Nat := rd (Reg.PGN_SCFG st) s % 2 ^ 16
def planAt (c : Nat) (s : State) : Nat := s.lt + pleadOf (carStage c s) s

/-- The anchor of a Stage: LT, AT and word of its last word update (R147). -/
def anchorOf (st : Nat) (s : State) : Nat × Nat × Nat := ((bobOf st s).anchors).headD (s.cc, 0, wordOf st s)

/-- The LT of a position of a carrier, rounded to the nearest eu, ties upwards (R147). -/
def posTime (c : Nat) (pos : Int) (s : State) : Int :=
  let x := carOf c s
  let per := carPer c s
  if carAtBasis c s then
    let (la, aa, w) := anchorOf (carStage c s) s
    let turn : Int := 2 ^ 89 * (per : Int)
    let d := Int.emod (pos - (((aa : Int) - x.orgAt) * 2 ^ 9 * per)) turn
    let d := if 2 * d < turn then d else d - turn
    la + roundUp (d * 16) (w * per * 2 ^ 9)
  else x.orgLt + roundUp (pos * per) (2 ^ 57)

/-- The position that a carrier has reached at an LT, rounded down. -/
def timePos (c : Nat) (t : Nat) (s : State) : Int :=
  let x := carOf c s
  let per := carPer c s
  if carAtBasis c s then
    let (la, aa, w) := anchorOf (carStage c s) s
    (((aa : Int) - x.orgAt) * 16 + ((t : Int) - la) * w) * per * 2 ^ 5
  else ((t : Int) - x.orgLt) * 2 ^ 57 / per

/-- A carrier placed in the period that `t` falls in, counted from its present origin: the set takes effect there
(R139, R143, R166). -/
def carPlace (c t : Nat) (s : State) : State :=
  let x := carOf c s
  let ph : Int := carPh c s * 2 ^ 41
  let k := (timePos c t s - ph) / 2 ^ 57
  let q := carSource c s
  let kq := if q = c then k else (timePos c t s - (rd (Reg.PGN_KPH q (carSet q s)) s % 2 ^ 16 : Nat) * 2 ^ 41) / 2 ^ 57
  let seed := fl (Reg.PGN_KDITH q (carSet q s)) Reg.PGN_KDITH_SEED s
  let n := k - kq - 1
  let start := k * 2 ^ 57 + ph
  setCar c { x with k := k, n := n, start := start, stop := startPos c (k + 1) (n + 1) seed s,
                    half := decide (start + 2 ^ 56 ≤ timePos c t s), prbs := seed } s

/-- Where a carrier stands at t_p: CPOS, CPER and DIDX (R171). -/
def carShow (c : Nat) (s : State) : State :=
  let x := carOf c s
  let len := x.stop - x.start
  let p := clampI 0 (2 ^ 32 - 1) (if len = 0 then 0 else (timePos c (planAt c s) s - x.start) * 2 ^ 32 / len)
  let dlen := fldGet Reg.PGN_KMODE_DLEN (carMode (carSource c s) s)
  wrI (Reg.PGN_CPOS c) p
    (wrI (Reg.PGN_CPER c) (posTime c x.stop s - posTime c x.start s)
      (setF (Reg.PGN_CSTAT c) Reg.PGN_CSTAT_DIDX (x.n.toNat % (dlen + 1)) s))

/-- A carrier on the AT basis after an ALIGN: in the period in which t_p falls now (R140). DESIGN CHOICE (log entry 196): its dither
goes on with the value that was due. -/
def carRealign (c : Nat) (s : State) : State :=
  let x := carOf c s
  let t := carPlace c (planAt c s) s
  carShow c (setCar c { carOf c t with n := x.n, prbs := x.prbs, stop := startPos c ((carOf c t).k + 1) (x.n + 1) x.prbs s } s)

/-! Points of a half-bridge (R141). A point is a position and the side commanded from it on (true high). -/

/-- Compare 1.0 in UQ1.24. -/
def cmpOne : Nat := 2 ^ 24

/-- The points of one segment: the period of a sawtooth, or one half of a triangle's period (`half` its second). -/
def segPoints (shape : Nat) (half : Bool) (start stop : Int) (d : Nat) : List (Int × Bool) :=
  let len := stop - start
  let at_ := decide (0 < d)
  let inside := decide (0 < d) && decide (d < cmpOne)
  match shape with
  | 0 => (start, at_) :: (if inside then [(start + len * d / 2 ^ 24, false)] else [])
  | 1 => (start, decide (cmpOne ≤ d)) :: (if inside then [(stop - len * d / 2 ^ 24, true)] else [])
  | _ =>
    if half then
      (start + len / 2, decide (cmpOne ≤ d)) :: (if inside then [(stop - len * d / 2 ^ 25, true)] else [])
    else (start, at_) :: (if inside then [(start + len * d / 2 ^ 25, false)] else [])

/-- The next points from a segment on, with the compare unchanged: this segment, and those to the end of the next period
(R155). -/
def pointsAhead (c d : Nat) (s : State) : List (Int × Bool) :=
  let x := carOf c s
  let sh := carShape c s
  let next := startPos c (x.k + 2) (x.n + 2) (prbsAt (x.n + 1) x.prbs) s
  let tail := if carTri c s then
      (if x.half then [] else segPoints sh true x.start x.stop d)
        ++ segPoints sh false x.stop next d ++ segPoints sh true x.stop next d
    else segPoints sh false x.stop next d
  segPoints sh x.half x.start x.stop d ++ tail

/-- The compare of a half-bridge in its carrier's present segment. -/
def cmpNow (h : Nat) (s : State) : Nat :=
  let x := hbOf h s
  if carTri (hbCarrier h s) s && (carOf (hbCarrier h s) s).half then x.df else x.dr

def dthOf (h : Nat) (s : State) : Nat := rd (Reg.PGN_DTH h) s % 2 ^ 17
def dtlOf (h : Nat) (s : State) : Nat := rd (Reg.PGN_DTL h) s % 2 ^ 17
def minpOf (h : Nat) (s : State) : Nat := rd (Reg.PGN_MINP h) s % 2 ^ 16
def bswOf (h : Nat) (s : State) : Nat := rd (Reg.PGN_BSW h) s % 2 ^ 16
def bsnOf (h : Nat) (s : State) : Nat := rd (Reg.PGN_BSN h) s % 2 ^ 16

/-- The dead time before a switch turns on (R149). -/
def deadTime (h : Nat) (hi : Bool) (s : State) : Nat := if hi then dthOf h s else dtlOf h s

/-- The sign of a side in the carry (R154). -/
def sideSign (hi : Bool) : Int := if hi then 1 else -1

def accOf (h : Nat) (s : State) : Int := rdI (Reg.PGN_ACC h) s

/-- A carry held within ±MINP, with CLIP where the bound acts (R154). -/
def setAcc (h : Nat) (a : Int) (s : State) : State :=
  let m : Int := minpOf h s
  setB (Reg.PGN_HEVT h) Reg.PGN_HEVT_CLIP (on (Reg.PGN_HEVT h) Reg.PGN_HEVT_CLIP s || clampI (-m) m a != a)
    (wrI (Reg.PGN_ACC h) (clampI (-m) m a) s)

/-- A switch's interval that did not conduct enters the carry under DROP_CARRY (R151, R154). -/
def carryDropped (h : Nat) (hi : Bool) (w : Int) (s : State) : State :=
  when (fl (Reg.PGN_HCFG h) Reg.PGN_HCFG_MODE s == 0) (setAcc h (sideSign hi * w)) s

/-- A leg output as a compare: UQ1.24 in 0 to 1, rounded to nearest (R148). -/
def compareOf (u : Int) : Nat := (roundDiv (clampI 0 (2 ^ 28) u) (2 ^ 4)).toNat

end Sys2Proof.Machine
end

