-- ==== Sys2Proof/Machine/Bobbin.lean ====
section
/-! DEFINITION. The Bobbin: angle sources, source requests, the word update with its clamps, ALIGN, loss of the source,
and the latches of the time registers (Angle Time, Local Time and the Bobbin, R14-R31). -/

namespace Sys2Proof.Machine

/-! Source codes (R21). -/
def srcDrum : Nat := 0
def srcBus : Nat := 1
def srcStage : Nat := 2
def srcCluster : Nat := 3
def srcFixed : Nat := 4

def actSrc (st : Nat) (s : State) : Nat := fl (Reg.BOB_STAT st) Reg.BOB_STAT_ACTSRC s
def followOf (st : Nat) (s : State) : Nat := fl (Reg.BOB_SRCCFG st) Reg.BOB_SRCCFG_FOLLOW s
def fallbackOf (st : Nat) (s : State) : Nat := fl (Reg.BOB_SRCCFG st) Reg.BOB_SRCCFG_FALLBACK s

/-- The bus measurement block is valid (R473). -/
def busValid (st : Nat) (s : State) : Bool := on (Reg.DRM_SSTAT st) Reg.DRM_SSTAT_BVALID s

/-- The cluster reference angle counts as received (R359). -/
def refOk (s : State) : Bool := on Reg.SPN_STAT Reg.SPN_STAT_REFOK s

/-- The cluster reference angle at the present LT, in a-counts (R359). -/
def clusterAngle (s : State) : Nat :=
  (Int.emod (s.spn.atb + ((s.lt : Int) - s.spn.tb) * s.spn.wb / 2 ^ 20) (2 ^ 32)).toNat

/-- Some half-bridge of the Stage has pulses enabled (R22). -/
def anyPulses (st : Nat) (s : State) : Bool := pulsesOn st s

/-- The refusal of a source request, by R22 in the order of R470; 0 where it is accepted. -/
def srcRefusal (st src kind : Nat) (s : State) : Nat :=
  if 4 < src then 4
  else if !hasAngle st s then 5
  else if (src == srcDrum || src == srcBus) && !hasDrum st s then 1
  else if src == srcStage && (followOf st s == st || actSrc (followOf st s) s == srcStage
      || !hasAngle (followOf st s) s) then 2
  else if kind == 1 && anyPulses st s then 3
  else 0

/-- Whether a source is lost as it stands (R27). -/
def srcIsLost (st src : Nat) (s : State) : Bool :=
  (src == srcBus && !busValid st s) || (src == srcCluster && !refOk s)

/-- A refused request: REFUSED, REFCODE and EV16; the source in force stays (R22). -/
def srcRefuse (st code : Nat) (s : State) : State :=
  record 16 0 code (some st)
    (setB (Reg.BOB_EVT st) Reg.BOB_EVT_REFUSED true
      (when (hasAngle st s) (setF (Reg.BOB_STAT st) Reg.BOB_STAT_REFCODE code) s))

/-- A source request, of the program or of the state machine (R22, R26): it waits for the next word update. -/
def srcRequest (st src kind : Nat) (s : State) : State :=
  let c := srcRefusal st src kind s
  if c = 0 then setBob st { bobOf st s with req := some (src, kind) } s else srcRefuse st c s

/-- A target angle's difference from the Stage's AT fraction, −2^31 to 2^31 − 1 (R23). -/
def angleDiff (st target : Nat) (s : State) : Int := wrap32 ((target : Int) - fracOf st s)

/-- The source word W_s of the source in force, and the angle difference d of a source that has a target (R21, R23). -/
def srcWord (st src : Nat) (s : State) : Int × Option Int :=
  match src with
  | 0 => ((drmOf st s).wout, none)
  | 1 => ((wordOf st s : Int) + rdI (Reg.DRM_SLIPB st) s, some (rdI (Reg.DRM_DBUS st) s))
  | 2 =>
    let f := followOf st s
    ((wordOf f s : Int), some (angleDiff st ((fracOf f s + rd (Reg.BOB_SRCOFS st) s) % 2 ^ 32) s))
  | 3 => ((s.spn.wb : Int), some (angleDiff st (clusterAngle s) s))
  | _ => ((fnomOf st s : Int), none)

/-- The new word of a source, before the clamps: W_s plus the correction towards the target (R23). -/
def srcTarget (st src : Nat) (s : State) : Int :=
  match srcWord st src s with
  | (w, none) => w
  | (w, some d) =>
    let n := fl (Reg.BOB_SRCCFG st) Reg.BOB_SRCCFG_SLEWN s * (bobOf st s).outer
    if n = 0 then w else w + roundDiv (d * 2 ^ 16) n

/-- A word clamped to a change of DWMAX, then to [FMIN, FMAX] (R19). -/
def clampWord (st : Nat) (w : Int) (s : State) : Int :=
  let p := (wordOf st s : Int)
  let d := (rd (Reg.BOB_DWMAX st) s : Int)
  clampI (fminOf st s) (fmaxOf st s) (clampI (p - d) (p + d) w)

/-- The Bobbin's anchor of this word update: LT, AT and word (R147, R266). -/
def newAnchor (st : Nat) (s : State) : State :=
  let b := bobOf st s
  setBob st { b with anchors := recent s.lt (·.1) ((s.lt, b.phase, wordOf st s) :: b.anchors) } s

/-- A word update from the source in force: W_s + c under the clamps, with WCLAMP, BOB_PHERR and SLEWING (R19, R23). -/
def followSource (st : Nat) (s : State) : State :=
  let src := actSrc st s
  let w := srcTarget st src s
  let c := clampWord st w s
  let d := (srcWord st src s).2
  let slewing := match d with
    | none => false
    | some d => on (Reg.BOB_STAT st) Reg.BOB_STAT_SLEWING s && !decide (d.natAbs < 2 ^ 16)
  newAnchor st
    (setB (Reg.BOB_STAT st) Reg.BOB_STAT_SLEWING slewing
      (setB (Reg.BOB_STAT st) Reg.BOB_STAT_WCLAMP (c != w)
        (wrI (Reg.BOB_PHERR st) (d.getD 0) (setWord st c.toNat (fixReached st s)))))

/-- AT moves by a jump as one signed 64-bit value, the Tack slots and the lanes of the Stage follow, the word becomes `w` within
[FMIN, FMAX], and EV18 records the jump (R24, R25). DESIGN CHOICE (log entry 138): a jump of 0 is recorded and flagged as any
other. -/
def alignBy (st : Nat) (j w : Int) (s : State) : State :=
  let b := bobOf st s
  let old := atOf st s
  let phase := (Int.emod ((b.phase : Int) + j * 2 ^ 16) (2 ^ 80)).toNat
  let s := fixReached st s
  let s := setBob st { b with phase := phase, jumps := recent s.lt (·.1) ((s.lt, j) :: b.jumps) } s
  let (k, tack) := alignSlots st old (atOf st s) j s.tack
  let s := alignLanes st (atOf st s) j (loadShow { s with tack := tack })
  let c := clampI (fminOf st s) (fmaxOf st s) w
  let s := setWord st c.toNat s
  let s := wrI (Reg.BOB_ALJUMP st) j (wr (Reg.BOB_ALSKIP st) k (wr (Reg.BOB_PHERR st) 0 s))
  let s := setB (Reg.BOB_EVT st) Reg.BOB_EVT_ALIGNED true
    (setB (Reg.BOB_STAT st) Reg.BOB_STAT_WCLAMP (c != w) (setB (Reg.BOB_STAT st) Reg.BOB_STAT_SLEWING false s))
  let s := newAnchor st (recordAtf 18 0 (min k 65535) (codeOf 16 (truncDiv j (2 ^ 16))) (some st) s)
  each ((carsOf st s).filter (fun c => carAtBasis c s)) carRealign s

/-- An ALIGN to a source (R24): its word and the jump to its target. -/
def applyAlign (st src : Nat) (s : State) : State :=
  let (w, d) := srcWord st src s
  alignBy st (d.getD 0) w s

/-- A source taken into force as a SLEW switch (R23). -/
def slewTo (st src : Nat) (fb : Bool) (s : State) : State :=
  let target := src == srcBus || src == srcStage || src == srcCluster
  setB (Reg.BOB_STAT st) Reg.BOB_STAT_SLEWING target
    (setB (Reg.BOB_STAT st) Reg.BOB_STAT_FALLBACK fb (setF (Reg.BOB_STAT st) Reg.BOB_STAT_ACTSRC src s))

/-- The source taken after a loss: FALLBACK, or FIXED where that is lost as well (R27). -/
def afterLoss (st : Nat) (s : State) : Nat :=
  if srcIsLost st (fallbackOf st s) s then srcFixed else fallbackOf st s

/-- SRCLOST and EV17 with the source lost and the one that follows it (R27, R469). -/
def lossRecorded (st src next : Nat) (s : State) : State :=
  record 17 0 (src + 16 * next) (some st) (setB (Reg.BOB_EVT st) Reg.BOB_EVT_SRCLOST true s)

/-- The source in force is lost: it is recorded with the source that follows it (R27). -/
def sourceLost (st : Nat) (s : State) : State :=
  let b := bobOf st s
  let src := actSrc st s
  if s.configured && hasAngle st s && srcIsLost st src s && !b.lost then
    let next := match b.req.filter (fun r => !(srcIsLost st r.1 s)) with
      | some (r, _) => r
      | none => afterLoss st s
    lossRecorded st src next (setBob st { b with lost := true } s)
  else s

/-- A request that waits names a source that is lost (R27). -/
def reqLost (st : Nat) (s : State) : Bool :=
  match (bobOf st s).req with
  | some (src, _) => srcIsLost st src s
  | none => false

/-- The word update of one outer tick (R20): a pending request applies; one that names a source lost at this update is discarded,
and the fallback applies, as it does after a loss; else the source in force is followed (R27; log entry 28). -/
def wordUpdate (st : Nat) (s0 : State) : State :=
  let s := sourceLost st s0
  let b := bobOf st s
  let s := setBob st { b with req := none, lost := false } s
  let fallback (s : State) : State := followSource st (slewTo st (afterLoss st s) true s)
  match b.req with
  | some (src, kind) =>
    let target := src == srcBus || src == srcStage || src == srcCluster
    if srcIsLost st src s then fallback (when (!b.lost) (lossRecorded st src (afterLoss st s)) s)
    else if kind == 1 && target then applyAlign st src (slewTo st src false s)
    else followSource st (slewTo st src false s)
  | none => if b.lost then fallback s else followSource st s

/-- The outer tick of a Stage with angle time and no active Drum, at the timing the image fixes (R20). -/
def outerTickDue (st : Nat) (s : State) : Bool :=
  s.configured && hasAngle st s && !hasDrum st s
    && match (bobOf st s).anchors with
      | [] => true
      | (t, _, _) :: _ => decide (t + fclk * (bobOf st s).outer ≤ s.lt)

/-- One outer tick without a Drum. -/
def outerTick (st : Nat) (s : State) : State := if outerTickDue st s then wordUpdate st s else s

/-- Local time and every running Bobbin advance by one FCLK (R14, R18). -/
def tick (s : State) : State :=
  if s.ltRun then
    each (List.range 4) (fun st s =>
      if s.configured && hasAngle st s then
        let b := bobOf st s
        setBob st { b with phase := (b.phase + wordOf st s) % 2 ^ 80 } s
      else s) { s with lt := (s.lt + fclk) % 2 ^ 64 }
  else s

/-! Commands. -/

/-- A BOB_SRCREQ pair (R22); a write while the Stage is in SYNC is remembered for R85. -/
def sourceWrite (st src kind : Nat) (s : State) : State :=
  srcRequest st src kind (setDrm st { drmOf st s with srcWr := true } (wr (Reg.BOB_SRCREQ st) (src + 16 * kind) s))

/-- BOB_SRCREQ with KIND SLEW (R22, R23). -/
def execSlewRequest (st : Fin 4) (src : BitVec 3) (s : State) : Host.Outcome State Fault Refusal :=
  .next (pairStore (Reg.BOB_SRCREQ st) (sourceWrite st src.toNat 0) s)

/-- BOB_SRCREQ with KIND ALIGN (R22, R24). -/
def execAlignRequest (st : Fin 4) (src : BitVec 3) (s : State) : Host.Outcome State Fault Refusal :=
  .next (pairStore (Reg.BOB_SRCREQ st) (sourceWrite st src.toNat 1) s)

/-- The source in force is found lost (R27). -/
def execSourceLost (st : Fin 4) (s : State) : Host.Outcome State Fault Refusal := .next (sourceLost st s)

/-- A read of BOB_LT_LO by the cycle engine latches the whole of LT (R31). -/
def execLtLatchRead (s : State) : Host.Outcome State Fault Refusal :=
  .next (wr64 Reg.BOB_LT_LO Reg.BOB_LT_HI s.lt s)

/-- A read of BOB_AT_LO latches the Stage's AT and the LT of the same FCLK (R31); 0 on a Stage without angle time (R19). -/
def execAtLatchRead (st : Fin 4) (s : State) : Host.Outcome State Fault Refusal :=
  .next (wr64 (Reg.BOB_ATLT_LO st) (Reg.BOB_ATLT_HI st) s.lt
    (wr64 (Reg.BOB_AT_LO st) (Reg.BOB_AT_HI st) (if hasAngle st s then atOf st s else 0) s))

/-- The outer tick of a Stage without a Drum (R20). -/
def execBobbinOuterTick (st : Fin 4) (s : State) : Host.Outcome State Fault Refusal := .next (outerTick st s)

end Sys2Proof.Machine
end

