-- ==== Sys2Proof/Machine/Protect.lean ====
section
/-! DEFINITION. Power-stage protection: trip inputs, window comparators with leading-edge blanking, short circuits, the clearing
of flags, endpoint temperatures and the threshold check (R221-R236). -/

namespace Sys2Proof.Machine

/-! Comparators. -/

def cmpMode (c : Nat) (s : State) : Nat := fl (Reg.PRT_CCFG c) Reg.PRT_CCFG_MODE s
def cmpAct (c : Nat) (s : State) : Nat := fl (Reg.PRT_CCFG c) Reg.PRT_CCFG_ACT s
def cmpHb (c : Nat) (s : State) : Nat := fl (Reg.PRT_CCFG c) Reg.PRT_CCFG_HB s
def cmpHigh (c : Nat) (s : State) : Bool := on (Reg.PRT_CCFG c) Reg.PRT_CCFG_SW s
def cmpRetired (c : Nat) (s : State) : Bool := on (Reg.PRT_CSTAT c) Reg.PRT_CSTAT_RETIRED s
def cmpWindow : Nat := 1
def cmpSc : Nat := 2

/-- The latched flag of a comparator, in PRT_CFLAG0 or PRT_CFLAG1 and in its LATCHED (R227). -/
def cflag (c : Nat) (s : State) : Bool :=
  if c < 32 then bitAt Reg.PRT_CFLAG0 c s else bitAt Reg.PRT_CFLAG1 (c - 32) s
def setCflag (c : Nat) (b : Bool) (s : State) : State :=
  setB (Reg.PRT_CSTAT c) Reg.PRT_CSTAT_LATCHED b
    (if c < 32 then setBitAt Reg.PRT_CFLAG0 c b s else setBitAt Reg.PRT_CFLAG1 (c - 32) b s)

/-- The alarm flag of a leg-link half-bridge. -/
def aflagReg (h : Nat) : Nat := if h < 32 then Reg.PRT_AFLAG0 else if h < 64 then Reg.PRT_AFLAG1 else Reg.PRT_AFLAG2
def aflag (h : Nat) (s : State) : Bool := !isDirect h && bitAt (aflagReg h) (h % 32) s

/-- BLANK of a comparator, and the stamps of the turn-ons of its switch (R228). -/
def blankOf (c : Nat) (s : State) : Nat := rd (Reg.PRT_CBLANK c) s % 2 ^ 15
def turnOns (c : Nat) (s : State) : List Nat := Tbl.get [] s.prt.ons (2 * cmpHb c s + (if cmpHigh c s then 1 else 0))

/-- Inside a blanking window of the comparator's switch (R228). -/
def blanked (c : Nat) (s : State) : Bool :=
  cmpMode c s == cmpSc && (turnOns c s).any (fun o => decide (o ≤ s.lt) && decide (s.lt < o + blankOf c s))

/-- The present FCLK is the first that starts at or after the end of a blanking window (R228). -/
def windowEnds (c : Nat) (s : State) : Bool :=
  cmpMode c s == cmpSc && !blanked c s
    && (turnOns c s).any (fun o => decide (o + blankOf c s ≤ s.lt) && decide (s.lt < o + blankOf c s + fclk))

/-! Flags that hold half-bridges. -/

/-- A half-bridge is held by a trip, comparator or alarm flag (R225). -/
def tripHeld (h : Nat) (s : State) : Bool :=
  tripGate h s || aflag h s
    || (List.range 48).any (fun c => cflag c s && cmpHb c s == h
      && (cmpMode c s == cmpSc || (cmpMode c s == cmpWindow && cmpAct c s == 1)))

/-- SCACT and TRIPACT of PRT_STAT (R236). -/
def prtShow (s : State) : State :=
  let bits (f : Nat → Bool) : Nat := maskOf ((List.range 4).filter f)
  let sc := bits (fun st =>
    (List.range 48).any (fun c => cflag c s && cmpMode c s == cmpSc && hbStage (cmpHb c s) s == st)
      || (List.range 96).any (fun h => aflag h s && hbStage h s == st))
  let tr := bits (fun st =>
    (List.range 8).any (fun n => bitAt Reg.PRT_TFLAG n s && (hbsOf st s).any (fun h => tripMask n h s))
      || (List.range 48).any (fun c => cflag c s && cmpMode c s == cmpWindow && cmpAct c s == 1
        && hbStage (cmpHb c s) s == st))
  setF Reg.PRT_STAT Reg.PRT_STAT_SCACT sc (setF Reg.PRT_STAT Reg.PRT_STAT_TRIPACT tr s)

/-- Half-bridges that no flag holds any more lose the cause TRIP; they resume under R160 (R225). -/
def releaseTrips (s : State) : State :=
  each (List.range 104) (fun h s =>
    if hbUsed h s && (hbCause h s).testBit 1 && !tripHeld h s then clearHold holdTrip h s else s) s

/-- A cause of the protection: the event source that recorded it, and its input, comparator or half-bridge. -/
def causeTrip (n : Nat) : Cause := ⟨80, n⟩
def causeCmp (c : Nat) : Cause := ⟨81, c⟩
def causeAlarm (h : Nat) : Cause := ⟨77, h⟩
def causeHot (st : Nat) : Cause := ⟨86, st⟩

/-! Trip inputs (R222-R225). -/

/-- The Stages with a half-bridge in the mask of a trip. -/
def tripStages (n : Nat) (s : State) : List Nat :=
  (List.range 4).filter (fun st => (hbsOf st s).any (fun h => tripMask n h s))

/-- A trip input at its active level, which PRT_TCFG.POL selects (R222). -/
def tripActive (n : Nat) (s : State) : Bool := Config.tripPin n s.lt != on (Reg.PRT_TCFG n) Reg.PRT_TCFG_POL s

/-- A trip input asserts (R222, R223): its flag sets, the masked half-bridges are held with cause TRIP, and EV80 carries
the grade that TGRADE sets. A flag that is set takes no further assertion. -/
def tripAssert (n : Nat) (s : State) : State :=
  if s.configured && on (Reg.PRT_TCFG n) Reg.PRT_TCFG_EN s then
    let s := setBitAt Reg.PRT_TLEVEL n true s
    if bitAt Reg.PRT_TFLAG n s then s
    else
      let hs := (List.range 104).filter (fun h => tripMask n h s)
      let s := each ((List.range 8).filter (fun m => tripMask n (96 + m) s)) legOff s
      let s := setB Reg.PRT_EVT Reg.PRT_EVT_TRIP true (setBitAt Reg.PRT_TFLAG n true s)
      let s := holdMany holdTrip hs s
      let grade := match fl (Reg.PRT_TCFG n) Reg.PRT_TCFG_TGRADE s with
        | 0 => 0
        | 1 => 3
        | _ => 5
      let sts := tripStages n s
      let s := record 80 grade n none s
      let s := if grade = 5 then gradeG5All sts (some (causeTrip n)) s
        else if grade = 3 then gradeG3All sts (some (causeTrip n)) s
        else s
      prtShow s
  else s

/-- A trip input that is active at configuration completion sets its flag then (R222). -/
def tripsStart (s : State) : State :=
  each ((List.range 8).filter (fun n => on (Reg.PRT_TCFG n) Reg.PRT_TCFG_EN s && tripActive n s)) tripAssert s

/-- A refused clear (R225, R233). -/
def clearRefused (kind index detail : Nat) (s : State) : State :=
  record 84 0 detail none
    (setB Reg.PRT_EVT Reg.PRT_EVT_CLEARREF true
      (setF Reg.PRT_REFUSE Reg.PRT_REFUSE_KIND kind (setF Reg.PRT_REFUSE Reg.PRT_REFUSE_INDEX index s)))

/-- An accepted clear: EV85, the cause no longer active, and the half-bridges that nothing holds (R225, R233). -/
def clearAccepted (c : Cause) (detail : Nat) (s : State) : State :=
  releaseTrips (prtShow (dropCause c (record 85 0 detail none s)))

/-- Writing 1 to a bit of PRT_TFLAG, with the synchronised level of the input in that FCLK (R225). -/
def tripClear (n : Nat) (active : Bool) (s : State) : State :=
  if bitAt Reg.PRT_TFLAG n s then
    let s := setBitAt Reg.PRT_TLEVEL n active s
    if active then clearRefused 1 n n s
    else clearAccepted (causeTrip n) n (setBitAt Reg.PRT_TFLAG n false s)
  else s

/-! Short circuits (R230, R231). -/

/-- Two half-bridges in one phase group: the hem group of their instances (R231). -/
def samePhase (a b : Nat) (s : State) : Bool :=
  a == b ||
    match instOfHb a s, instOfHb b s with
    | some m, some n => (hemLeg m s).isSome && hemLeg m s == hemLeg n s && hbStage a s == hbStage b s
    | _, _ => false

/-- A short circuit of a switch makes a second fault with one detected within SCWIN (R231). -/
def secondFault (h : Nat) (hi : Bool) (s : State) : Bool :=
  let w := fl Reg.PRT_SCCFG Reg.PRT_SCCFG_SCWIN s
  s.prt.sc.any (fun d => decide (nowF s ≤ d.1 + w)
    && ((d.2.1 != h && hbStage d.2.1 s == hbStage h s) || (d.2.2 != hi && samePhase d.2.1 h s)))

/-- Short-circuit causes of a Stage that are active: of comparators in SC mode, and of alarms (R230, R231). -/
def scCauses (st : Nat) (s : State) : List Cause :=
  (g3Of st s).filter (fun c => (c.src == 81 && cmpMode c.id s == cmpSc) || c.src == 77)

/-- A short circuit of a switch of a half-bridge (R230, R231), detected by comparator `c` (EV81) or by an endpoint's alarm
(EV77). -/
def shortCircuit (h : Nat) (hi : Bool) (c : Option Nat) (s : State) : State :=
  let st := hbStage h s
  let s := holdMany holdTrip [h] s
  let s := if isDirect h then s else setBitAt (aflagReg h) (h % 32) true s
  let s := setB Reg.PRT_EVT Reg.PRT_EVT_SC true s
  let src := if c.isSome then 81 else 77
  let det := c.getD h
  let sg := fl Reg.PRT_SCCFG Reg.PRT_SCCFG_SCGRADE s
  let two := secondFault h hi s
  let s := record src (if sg = 0 then 2 else if sg = 1 then 3 else 5) det (some st) s
  let s := match c with
    | some k => addG3 st (causeCmp k) s
    | none => s
  let s := if isDirect h then s else addG3 st (causeAlarm h) s
  let w := fl Reg.PRT_SCCFG Reg.PRT_SCCFG_SCWIN s
  let s := { s with prt := { s.prt with sc := (nowF s, h, hi) :: s.prt.sc.filter (fun d => decide (nowF s ≤ d.1 + w)) } }
  let s := if sg = 2 ∨ two then
      let s := when two (under src det (record 83 5 h (some st))) (setB Reg.PRT_EVT Reg.PRT_EVT_TWOLEG
        (on Reg.PRT_EVT Reg.PRT_EVT_TWOLEG s || two) s)
      each (scCauses st s) (addG5 st) (gradeG5 st none s)
    else s
  let s := if sg = 0 then retireHb h s else if sg = 1 then gradeG3 st none s else s
  prtShow s

/-! Window comparators (R227, R228). -/

/-- A comparator's output becomes active (R227, R228). -/
def cmpAssert (c : Nat) (s : State) : State :=
  if s.configured && !cmpRetired c s then
    let s := setB (Reg.PRT_CSTAT c) Reg.PRT_CSTAT_OUT true s
    let h := cmpHb c s
    let st := hbStage h s
    match cmpMode c s with
    | 1 =>
      let s := setB (Reg.PRT_CEVT c) Reg.PRT_CEVT_ASSERT true (setCflag c true s)
      let s := match cmpAct c s with
        | 1 => gradeG3 st (some (causeCmp c)) (record 81 3 c (some st) (holdMany holdTrip [h] s))
        | 2 => gradeG5 st (some (causeCmp c)) (record 81 5 c (some st) s)
        | _ => record 81 0 c none s
      prtShow s
    | 2 =>
      if blanked c s then
        if on (Reg.PRT_CSTAT c) Reg.PRT_CSTAT_BLANKPEND s then s
        else record 82 0 c none
          (setB (Reg.PRT_CSTAT c) Reg.PRT_CSTAT_BLANKPEND true (setB (Reg.PRT_CEVT c) Reg.PRT_CEVT_BLANKED true s))
      else shortCircuit h (cmpHigh c s) (some c)
        (setCflag c true (setB (Reg.PRT_CEVT c) Reg.PRT_CEVT_ASSERT true s))
    | _ => s
  else s

/-- The evaluation at the end of the blanking window, with the comparator's output in that FCLK, whether or not an assertion is
pending (R228). -/
def blankingEnd (c : Nat) (active : Bool) (s : State) : State :=
  if s.configured && !cmpRetired c s && !blanked c s
      && (on (Reg.PRT_CSTAT c) Reg.PRT_CSTAT_BLANKPEND s || windowEnds c s) then
    let s := setB (Reg.PRT_CSTAT c) Reg.PRT_CSTAT_OUT active (setB (Reg.PRT_CSTAT c) Reg.PRT_CSTAT_BLANKPEND false s)
    if active then shortCircuit (cmpHb c s) (cmpHigh c s) (some c) (setCflag c true s) else s
  else s

/-- Writing 1 to a comparator's flag, with its output in that FCLK (R233); a retired comparator's output is inactive
(R235). -/
def cmpClear (c : Nat) (active : Bool) (s : State) : State :=
  if cflag c s then
    let act := active && !cmpRetired c s
    let s := setB (Reg.PRT_CSTAT c) Reg.PRT_CSTAT_OUT act s
    if act then clearRefused 2 c (0x100 + c) s else clearAccepted (causeCmp c) (0x100 + c) (setCflag c false s)
  else s

/-- Writing 1 to a half-bridge's alarm flag (R233). -/
def alarmClear (h : Nat) (s : State) : State :=
  if aflag h s then
    let n := h / 4
    if (lnkOf n s).alm.testBit (h % 4) || linkState n s != lkReady then clearRefused 3 h (0x200 + h) s
    else clearAccepted (causeAlarm h) (0x200 + h) (setBitAt (aflagReg h) (h % 32) false s)
  else s

/-! Endpoint temperature (R234). -/

/-- The temperatures of a link's STATUS against PRT_TEMPCFG: four bytes, in °C + 40. DESIGN CHOICE (log entry 198): a half-bridge not
in use is compared with TWARN alone, since it belongs to no Stage. -/
def linkTemps (n : Nat) (temps : List Nat) (s : State) : State :=
  let warn := fl Reg.PRT_TEMPCFG Reg.PRT_TEMPCFG_TWARN s
  let top := fl Reg.PRT_TEMPCFG Reg.PRT_TEMPCFG_TMAX s
  let hys := fl Reg.PRT_TEMPCFG Reg.PRT_TEMPCFG_THYS s
  let one (k : Nat) (s : State) : State :=
    let h := 4 * n + k
    let t := temps.getD k 0
    let st := hbStage h s
    let warm := s.prt.warm.any (· == h)
    let hot := s.prt.hot.any (· == h)
    let s := if decide (warn < t) && !warm then
        record 78 0 h none (setB Reg.PRT_EVT Reg.PRT_EVT_TEMP true
          { s with prt := { s.prt with warm := s.prt.warm ++ [h] } })
      else if t ≤ warn then { s with prt := { s.prt with warm := s.prt.warm.filter (· != h) } }
      else s
    if !hbUsed h s then s
    else
      if decide (top < t) && !hot then
        let s := { s with prt := { s.prt with hot := s.prt.hot ++ [h] } }
        let s := setBitAt Reg.PRT_STAT (8 + st) true (setB Reg.PRT_EVT Reg.PRT_EVT_TEMP true s)
        gradeG3 st (some (causeHot st)) (record 86 3 h (some st) s)
      else if t + hys ≤ top && hot then
        let s := { s with prt := { s.prt with hot := s.prt.hot.filter (· != h) } }
        if s.prt.hot.any (fun g => hbStage g s == st) then s
        else dropG3 st (causeHot st) (setBitAt Reg.PRT_STAT (8 + st) false s)
      else s
  each (List.range 4) one s

/-! Threshold DAC check (R235). -/

/-- A comparator is retired: its output is inactive, the record of the grading carries G2, or G5 against the Stage it protected
(R235). -/
def cmpRetire (c detail : Nat) (s : State) : State :=
  let s := setB (Reg.PRT_CSTAT c) Reg.PRT_CSTAT_RETIRED true (setB (Reg.PRT_CEVT c) Reg.PRT_CEVT_RETIRED true
    (setB (Reg.PRT_CSTAT c) Reg.PRT_CSTAT_OUT false (setB (Reg.PRT_CSTAT c) Reg.PRT_CSTAT_BLANKPEND false s)))
  if cmpMode c s == cmpSc || (cmpMode c s == cmpWindow && cmpAct c s != 0) then
    under 87 detail (gradeG5 (hbStage (cmpHb c s) s) (some (permanent 87 c))) (record 87 5 detail none s)
  else record 87 2 detail none s

/-- One check of a threshold DAC that differs by more than 4 LSB: `hi` names VHI (R235). -/
def dacFail (c : Nat) (hi : Bool) (s : State) : State :=
  if cmpRetired c s then s
  else
    let s := setB Reg.PRT_EVT Reg.PRT_EVT_DACFAIL true (setB (Reg.PRT_CEVT c) Reg.PRT_CEVT_DACFAIL true s)
    let detail := 2 * c + (if hi then 1 else 0)
    upsetThen (ctrId 7 c 0) (cmpRetire c detail) (record 87 1 detail none s)

/-- The check of one threshold of an enabled comparator, with its difference in LSB and that of its repeat: one above 4 LSB fails
and is repeated once at once (R235). -/
def dacOne (c : Nat) (hi : Bool) (diff again : Nat) (s : State) : State :=
  if cmpMode c s == 0 || diff ≤ 4 then s
  else
    let s := dacFail c hi s
    if 4 < again then dacFail c hi s else s

/-- The check of every enabled comparator, not earlier than 10 ms after the last (R235): `diffs` lists the thresholds that differ,
each with the differences that the check and its repeat measure. -/
def dacCheck (diffs : List (Fin 48 × Bool × Nat × Nat)) (s : State) : State :=
  if s.configured && decide (s.prt.dacAt ≤ s.lt) then
    each diffs (fun d => dacOne d.1.val d.2.1 d.2.2.1 d.2.2.2) { s with prt := { s.prt with dacAt := s.lt + 10 * ms } }
  else s

/-- BLANKING of every comparator as the FCLK stands (R228). -/
def blankingTick (s : State) : State :=
  each ((List.range 48).filter (fun c => on (Reg.PRT_CSTAT c) Reg.PRT_CSTAT_BLANKING s != blanked c s))
    (fun c s => setB (Reg.PRT_CSTAT c) Reg.PRT_CSTAT_BLANKING (blanked c s) s) s

/-- The inputs that commands have asserted, as they stand in the FCLK: PRT_TLEVEL falls with its pin (R225), and a comparator's
output where its input has returned between VLO + HYST and VHI - HYST (R226). -/
def inputsTick (s : State) : State :=
  let back (c : Nat) : Bool :=
    let hyst := fl (Reg.PRT_CCFG c) Reg.PRT_CCFG_HYST s
    Config.inBand c (fl (Reg.PRT_CTHR c) Reg.PRT_CTHR_VLO s + hyst) (fl (Reg.PRT_CTHR c) Reg.PRT_CTHR_VHI s - hyst) s.lt
  each ((List.range 48).filter (fun c => on (Reg.PRT_CSTAT c) Reg.PRT_CSTAT_OUT s && back c))
    (fun c => setB (Reg.PRT_CSTAT c) Reg.PRT_CSTAT_OUT false)
    (each ((List.range 8).filter (fun n => bitAt Reg.PRT_TLEVEL n s && !tripActive n s))
      (fun n => setBitAt Reg.PRT_TLEVEL n false) s)

/-! Commands. -/

def execTripInputAssert (trip : Fin 8) (s : State) : Host.Outcome State Fault Refusal := .next (tripAssert trip s)
def execTripClear (trip : Fin 8) (active : Bool) (s : State) : Host.Outcome State Fault Refusal :=
  .next (when (stores s) (tripClear trip active) s)
def execComparatorAssert (cmp : Fin 48) (s : State) : Host.Outcome State Fault Refusal := .next (cmpAssert cmp s)
def execBlankingEnd (cmp : Fin 48) (active : Bool) (s : State) : Host.Outcome State Fault Refusal :=
  .next (blankingEnd cmp active s)
def execComparatorFlagClear (cmp : Fin 48) (active : Bool) (s : State) : Host.Outcome State Fault Refusal :=
  .next (when (stores s) (cmpClear cmp active) s)
def execAlarmFlagClear (hb : Fin 96) (s : State) : Host.Outcome State Fault Refusal :=
  .next (when (stores s) (alarmClear hb) s)
def execDacCheck (diffs : List (Fin 48 × Bool × Nat × Nat)) (s : State) : Host.Outcome State Fault Refusal :=
  .next (dacCheck diffs s)

end Sys2Proof.Machine
end

