-- ==== Sys2Proof/Machine/LinkCore.lean ====
section
/-! DEFINITION. What a leg link carries: characters, CRC, blocks and ordered sets, and the sending of edges with their
gate-drive profiles (R172-R178, R184, R186, R187, R190, R193-R195). -/

namespace Sys2Proof.Machine

/-! Characters (R173, R175). -/

/-- The CRC-16 of R175 over bytes. -/
def crc16 (l : List Nat) : Nat :=
  l.foldl (fun c b => (List.range 8).foldl (fun c _ => if c.testBit 15 then ((2 * c) ^^^ 0x1021) % 2 ^ 16 else 2 * c)
    (c ^^^ (b % 256 * 2 ^ 8))) 0xFFFF

/-- A block: TYPE with version 1, its bytes 1 to 13 (0 where not listed), and the CRC (R175). -/
def blockOf16 (type : Nat) (body : List Nat) : List Nat :=
  let b := (16 * type + 1) :: (body ++ List.replicate (13 - body.length) 0)
  b ++ bytesBE 2 (crc16 b)

/-- An ordered set: its control character K28.x as 256 + the code, and three data characters (R173). -/
def orderedSet (k a b c : Nat) : List Nat := [256 + (32 * k + 28), a, b, c]
def inv8 (x : Nat) : Nat := 255 - x % 256
def setIdle (l : Nat) : List Nat := orderedSet 5 0x50 (l % 256) (inv8 l)
def setRtq (n : Nat) : List Nat := orderedSet 1 n 0 (inv8 n)
def setRta (n ta : Nat) : List Nat := orderedSet 1 (16 * n + ta / 2 ^ 16 % 16) (ta / 256 % 256) (ta % 256)
def setNack (q : Nat) : List Nat := orderedSet 2 q (inv8 q) q
def setOff (m : Nat) : List Nat := let x := 0xA0 + m % 16; orderedSet 3 x (inv8 x) x
def setOc (c : Nat) : List Nat := orderedSet 4 c (inv8 c) c
def setAlarm (a : Nat) : List Nat := orderedSet 6 a (inv8 a) a

/-- The authority epoch (R197). -/
def epochOf (s : State) : Nat := rd Reg.PAR_EPOCH s

/-- An EDGE block (R176). -/
def edgeBlock (c : Sent) (copy retry : Bool) (s : State) : List Nat :=
  let b (x : Bool) (k : Nat) : Nat := if x then 2 ^ k else 0
  blockOf16 1 ([c.seq % 256, epochOf s % 256,
      64 * (c.hb % 4) + b c.edge.hi 5 + b c.edge.on 4 + b c.report 3 + b copy 2 + b retry 1 + b c.resume 0]
    ++ bytesBE 5 (c.edge.stamp % 2 ^ 40) ++ [c.pre % 256] ++ bytesBE 2 (64 * (c.plat % 1024) + 4 * (c.ilev % 16))
    ++ [c.bin % 8])

/-- CONFIG, EPOCH and TIME blocks (R177). -/
def configBlock (n : Nat) (s : State) : List Nat :=
  let g := rdW (Reg.LLK_LCFG n) s
  blockOf16 2 ([(lnkOf n s).cseq % 256, epochOf s % 256, 16 * fldGet Reg.LLK_LCFG_HBEN g]
    ++ bytesBE 2 (fldGet Reg.LLK_LCFG_LOSSTO g) ++ [fldGet Reg.LLK_LCFG_STATIV g] ++ bytesBE 4 (rd (Reg.LLK_EPID n) s)
    ++ [fl (Reg.LLK_STAT n) Reg.LLK_STAT_TXSEQ s])
def epochBlock (handoff : Nat) (s : State) : List Nat :=
  blockOf16 3 (0 :: bytesBE 4 (epochOf s) ++ bytesBE 5 (handoff % 2 ^ 40))
def timeBlock (lttx dfwd : Nat) : List Nat := blockOf16 4 (bytesBE 5 (lttx % 2 ^ 40) ++ bytesBE 2 (dfwd % 2 ^ 16))

/-! Uplink blocks (R178). -/
def eventBlock (kind seq epoch port : Nat) : List Nat := blockOf16 0xB [kind, seq % 256, epoch % 256, port]
def cfgackBlock (cseq epid : Nat) : List Nat := blockOf16 0xC (cseq % 256 :: bytesBE 4 epid)

/-! Profiles (R193-R195). -/

/-- The bin of a reference magnitude: edges lie at 1/64 pu (R194). -/
def binOf (n : Nat) (r : Int) (s : State) : Nat :=
  let lo := rd (Reg.LLK_BINLO n) s
  let hi := rd (Reg.LLK_BINHI n) s
  let edges := (List.range 4).map (fun i => lo / 256 ^ i % 256) ++ (List.range 3).map (fun i => hi / 256 ^ i % 256)
  (edges.filter (fun (e : Nat) => decide ((e : Int) * 2 ^ 22 ≤ r))).length

def profOf (h : Nat) (hi on_ : Bool) (b : Nat) : Nat :=
  Reg.LLK_PROF h (if hi then 1 else 0) (if on_ then 1 else 0) b

def trained (h : Nat) (hi on_ : Bool) (b : Nat) (s : State) : Bool := on (profOf h hi on_ b) Reg.LLK_PROF_TRAINED s

/-- The profile an edge uses: PRE, PLAT, ILEV, of its own bin, of the nearest trained bin above, or the default (R194). -/
def profileFor (h : Nat) (hi on_ : Bool) (b : Nat) (s : State) : Nat × Nat × Nat :=
  match (List.range 8).find? (fun i => decide (b ≤ i) && trained h hi on_ i s) with
  | some i =>
    let w := rdW (profOf h hi on_ i) s
    (fldGet Reg.LLK_PROF_PRE w, fldGet Reg.LLK_PROF_PLAT w, fldGet Reg.LLK_PROF_ILEV w)
  | none =>
    let w := rdW (if on_ then Reg.LLK_DEFON (h / 4) else Reg.LLK_DEFOFF (h / 4)) s
    (fldGet Reg.LLK_DEFON_PRE w, fldGet Reg.LLK_DEFON_PLAT w, fldGet Reg.LLK_DEFON_ILEV w)

/-! The downlink (R172-R175, R184, R186, R187). -/

/-- One character in tenths of an eu (R181), and the end of the FCLK in progress. -/
def charT : Nat := 256
def clkEnd (s : State) : Nat := 10 * (s.lt + fclk)

/-- The deadline of a command, in tenths of an eu, at the serializer entry of its last character (R184). -/
def deadlineT (n stamp : Nat) (s : State) : Int := 10 * ((stamp : Int) - 256 - (rd (Reg.LLK_DFWD n) s % 2 ^ 16 : Nat))

/-- The last character of a frame of `k` blocks that starts at `t`: K29.7, after K27.7 and the blocks (R175, R185). -/
def frameEnd (t k : Nat) : Int := ((t + (16 * k + 1) * charT : Nat) : Int)

/-- An RTQ, and an IDLE, that the line takes at `t` or before ahead of the characters of a frame (R174, R187). -/
def rtqDue (n t : Nat) (s : State) : Bool := (lnkOf n s).rtq.any (fun p => decide (10 * p.2 ≤ t))
def idleDue (n t : Nat) (s : State) : Bool := decide ((lnkOf n s).idleAt + 10 * us ≤ t)

/-- The last character of a frame of `k` blocks that starts at `t`, behind the ordered sets that come due by its end (R174,
R184). -/
def lastChar (n t k : Nat) (s : State) : Int :=
  let e := (frameEnd t k).toNat
  frameEnd t k + (if rtqDue n e s then 4 * charT else 0 : Nat) + (if idleDue n e s then 4 * charT else 0 : Nat)

/-- A frame of one block that starts as soon as the serializer is free meets a deadline (R184). -/
def meets (n : Nat) (d : Int) (s : State) : Bool := decide (lastChar n (max (10 * s.lt) (lnkOf n s).free) 1 s ≤ d)

/-- The class of what waits, the place of EPOCH before EDGE in class 1, and the deadline (R186). -/
def blkClass : TxBlk → Nat
  | .edge c copy retry => if copy then 4 else if retry then 2 else if c.forced then 3 else 1
  | .block k _ => k
  | .time => 5
def blkPlain : TxBlk → Bool
  | .edge _ _ _ => false
  | .block _ _ => true
  | .time => true
def blkBy (n : Nat) (b : TxBlk) (s : State) : Option Int :=
  match b with
  | .edge c _ _ => some (deadlineT n c.edge.stamp s)
  | .block _ _ => none
  | .time => none

/-- What goes first: the lower class; in it the blocks without a deadline, then the earliest deadline (R186). -/
def blkBefore (n : Nat) (a b : TxBlk) (s : State) : Bool :=
  decide (blkClass a < blkClass b) || (blkClass a == blkClass b && (match blkBy n a s, blkBy n b s with
    | some x, some y => decide (x < y)
    | none, some _ => true
    | _, none => false))

/-- A block takes its place in a list in sending order. -/
def blkInsert (n : Nat) (b : TxBlk) (s : State) : List TxBlk → List TxBlk
  | [] => [b]
  | c :: l => if blkBefore n b c s then b :: c :: l else c :: blkInsert n b s l

/-- What waits, in sending order; what came first stands first where nothing else decides. -/
def blkOrder (n : Nat) (s : State) : List TxBlk := (lnkOf n s).tx.foldl (fun l b => blkInsert n b s l) []

/-- A block that cannot meet its deadline in a frame that starts at `t`. -/
def blkLate (n t : Nat) (s : State) (b : TxBlk) : Bool :=
  match blkBy n b s with
  | some d => decide (d < lastChar n t 1 s)
  | none => false

/-- The blocks of a frame that starts at `t`: up to four of the first one's class, no two copies of one block, and no more than
let each meet its deadline (R175, R177, R186; log entry 152). -/
def frameFill (n t : Nat) (s : State) : List TxBlk → List TxBlk → List TxBlk
  | [], got => got
  | b :: l, got =>
    let all := got ++ [b]
    let fits := decide (got.length < 4) && got.all (fun c => blkClass c == blkClass b && c != b)
      && all.all (fun c => match blkBy n c s with
        | some d => decide (lastChar n t all.length s ≤ d)
        | none => true)
    frameFill n t s l (if fits then all else got)

/-- A command of a link by its SEQ, of those that were sent; one of those with the same fields replaced. -/
def sentOf (n seq : Nat) (s : State) : Option Sent := (lnkOf n s).sent.find? (fun c => c.seq == seq % 256 && !c.held)
def setSent (n : Nat) (c d : Sent) (s : State) : State :=
  let x := lnkOf n s
  setLnk n { x with sent := x.sent.map (fun e => if e = c then d else e) } s

/-- A command that was never sent is held: until its end it goes by the SEQ that would follow (R188; log entry 153). -/
def holdCmd (n : Nat) (c : Sent) (s : State) : State :=
  let x := lnkOf n s
  let k := (x.sent.filter (fun d => d.held && !d.closed)).length
  let q := (fl (Reg.LLK_STAT n) Reg.LLK_STAT_TXSEQ s + 1 + k) % 256
  setLnk n { x with sent := ({ c with seq := q, held := true } :: x.sent).take 64 } s

/-- A block that has missed its deadline is not sent: a first copy is held, a second one counts in NODUP, and a retry leaves the
NACK unanswered (R186-R188). -/
def blkDrop (n : Nat) (b : TxBlk) (s : State) : State :=
  let x := lnkOf n s
  let s := setLnk n { x with tx := x.tx.erase b } s
  match b with
  | .edge c false false => holdCmd n c s
  | .edge _ true _ => bump (Reg.LLK_CNT1 n) ⟨16, 16⟩ 1 s
  | .edge c false true => setSent n c { c with nacked := true } s
  | .block _ _ => s
  | .time => s

/-- Bit 0 of byte 15 of a block inverted. -/
def invertBit (l : List Nat) : List Nat := l.mapIdx (fun i b => if i = 15 then b ^^^ 1 else b)

/-- TMB_LLERR acts on a direction of a link (R220), and on one block in INTV: the last of each INTV (log entry 151). -/
def llErr (n : Nat) (up : Bool) (s : State) : Bool :=
  on Reg.TMB_CTL Reg.TMB_CTL_LLERR s && fl Reg.TMB_LLERR Reg.TMB_LLERR_LINK s == n
    && on Reg.TMB_LLERR Reg.TMB_LLERR_DIR s == up && fl Reg.TMB_LLERR Reg.TMB_LLERR_INTV s != 0
def errNow (k : Nat) (s : State) : Bool := decide (fl Reg.TMB_LLERR Reg.TMB_LLERR_INTV s ≤ k + 1)

/-- A downlink block behind TMB_LLERR. -/
def perturbed (n : Nat) (l : List Nat) (s : State) : List Nat × State :=
  if llErr n false s then
    let x := lnkOf n s
    let hit := errNow x.nDown s
    (if hit then invertBit l else l, setLnk n { x with nDown := if hit then 0 else x.nDown + 1 } s)
  else (l, s)

/-- A block goes: a command gets its SEQ with its first copy, and with DUP its second copy waits (R186, R187); a turn-on counts for
the blanking of its switch (R228). A STATUS that follows TIME at the endpoint comes no earlier than the ends of the two frames and
both delays after TIME (log entry 197). -/
def blkSend (n t : Nat) (b : TxBlk) (s : State) : List Nat × State :=
  let x := lnkOf n s
  let s := setLnk n { x with tx := x.tx.erase b } s
  match b with
  | .edge c false false =>
    let seq := (fl (Reg.LLK_STAT n) Reg.LLK_STAT_TXSEQ s + 1) % 256
    let d := { c with seq := seq }
    let dup := on (Reg.LLK_LCFG n) Reg.LLK_LCFG_DUP s
    let x := lnkOf n s
    perturbed n (edgeBlock d false false s) (when c.edge.on (noteOn c.hb c.edge.hi c.edge.stamp) <|
      setF (Reg.LLK_STAT n) Reg.LLK_STAT_TXSEQ seq (setLnk n { x with sent := (d :: x.sent).take 64, tx := x.tx ++ (if dup then [.edge d true false] else []) } s))
  | .edge c copy retry => perturbed n (edgeBlock c copy retry s) s
  | .block _ l => perturbed n l s
  | .time =>
    let y := lnkOf n s
    let (f, r) := y.cand.getD (rd (Reg.LLK_DFWD n) s % 2 ^ 16, rd (Reg.LLK_DREV n) s % 2 ^ 16)
    let last := !y.tx.contains .time
    perturbed n (timeBlock (t / 10) f)
      (setLnk n { y with timeAt := if last then some ((t + 34 * charT) / 10 + f + r) else none } s)

/-- An EDGE that a unit which does not act holds back; one that waits in a unit that stops acting never goes (R372, R385). -/
def blkHeld (s : State) (b : TxBlk) : Bool :=
  match b with
  | .edge c _ _ => !sendsEdge c.edge.stamp s
  | .block _ _ => false
  | .time => false

/-- A frame starts at `t`, if something is ready (R175, R186). -/
def frameStart_ (n t : Nat) (s : State) : State :=
  let s := setLnk n { lnkOf n s with tx := (lnkOf n s).tx.filter (fun b => !blkHeld s b) } s
  let s := each ((lnkOf n s).tx.filter (blkLate n t s)) (blkDrop n) s
  match frameFill n t s (blkOrder n s) [] with
  | [] => s
  | l =>
    let (chars, s) := l.foldl (fun p b => let r := blkSend n t b p.2; (p.1 ++ r.1, r.2)) (([] : List Nat), s)
    setLnk n { lnkOf n s with frame := (256 + 0xFB) :: (chars ++ [256 + 0xFD]) } s

/-- Characters enter the serializer at `t`; TMB_LLDLY adds to their way to the line (R218, R220). -/
def lineOut (n t : Nat) (chars : List Nat) (s : State) : State :=
  let add := if on Reg.TMB_CTL Reg.TMB_CTL_LLDLY s && fl Reg.TMB_LLDLY Reg.TMB_LLDLY_LINK s == n
    then min 8000 (fl Reg.TMB_LLDLY Reg.TMB_LLDLY_ADD s) else 0
  let x := lnkOf n s
  setLnk n { x with free := t + chars.length * charT, wire := x.wire ++ [(t + 10 * add, chars)] } s

def idleOut (n t : Nat) (s : State) : State :=
  lineOut n t (setIdle (fl (Reg.LLK_STAT n) Reg.LLK_STAT_TXSEQ s)) (setLnk n { lnkOf n s with idleAt := t } s)

/-- What the downlink takes at a character boundary: OFF before RTQ before IDLE, the ordered sets also between two characters of
a frame, and IDLE where no frame is ready, and at least once in 1 µs (R174, R180, R187, R199). -/
def lineStep (n : Nat) (s : State) : State :=
  let x := lnkOf n s
  let t := max x.free (10 * s.lt)
  let rtq := if rtqDue n t s then x.rtq.map (·.1) else none
  if clkEnd s ≤ t then s
  else match x.offs, rtq, x.frame with
    | m :: l, _, _ => lineOut n t (setOff m) (setLnk n { x with offs := l } s)
    | [], r, f =>
      if decide (t < 10 * x.offUntil) && decide (x.offRep + 8 * charT ≤ t) then
        lineOut n t (setOff 15) (setLnk n { x with offRep := t } s)
      else match r, f with
        | some k, _ => lineOut n t (setRtq k) (setLnk n { x with rtq := none, t1 := t / 10 } s)
        | none, c :: l =>
          if idleDue n t s then idleOut n t s else lineOut n t [c] (setLnk n { x with frame := l } s)
        | none, [] => idleOut n t s

/-- A frame that can start does so before the boundary is taken, where no ordered set goes first (R174). -/
def lineFrame (n : Nat) (s : State) : State :=
  let x := lnkOf n s
  let t := max x.free (10 * s.lt)
  let set := !x.offs.isEmpty || (decide (t < 10 * x.offUntil) && decide (x.offRep + 8 * charT ≤ t)) || rtqDue n t s
    || idleDue n t s
  if x.frame.isEmpty && decide (t < clkEnd s) && !set then frameStart_ n t s else s

/-- The characters that reach the line in this FCLK. -/
def wireOut (n : Nat) (s : State) : State :=
  let x := lnkOf n s
  let l := x.wire.takeWhile (fun p => decide (p.1 < clkEnd s))
  each l (fun p s => emit (.down n p.2) s) (setLnk n { x with wire := x.wire.drop l.length } s)

/-- A link's line runs: the link is in use, and a retired one until its OFF has ended (R199). -/
def lineRuns (n : Nat) (s : State) : Bool :=
  s.configured && on (Reg.LLK_LCFG n) Reg.LLK_LCFG_ENABLE s
    && (linkState n s != lkRetired || decide (s.lt < (lnkOf n s).offUntil))

/-- The downlinks over one FCLK, which holds at most two character boundaries. -/
def linesRun (s : State) : State :=
  each ((List.range 24).filter (fun n => lineRuns n s)) (fun n s =>
    wireOut n (lineStep n (lineFrame n (lineStep n (lineFrame n s))))) s

/-- A block without a deadline waits, for two separate frames (R177). -/
def sendTwice (n cls : Nat) (chars : List Nat) (s : State) : State :=
  let x := lnkOf n s
  setLnk n { x with tx := x.tx ++ [.block cls chars, .block cls chars] } s

/-- Whether an edge asks for a report: its bin is not trained, or it is the one in 2^TRAINIV of a trained bin (R195). -/
def wantReport (n : Nat) (h : Nat) (e : Edge) (b : Nat) (s : State) : Bool × State :=
  if trained h e.hi e.on b s then
    let x := lnkOf n s
    let k := profOf h e.hi e.on b
    let c := Tbl.get 0 x.sinceReport k + 1
    let due := decide (2 ^ fl (Reg.LLK_TRN n) Reg.LLK_TRN_TRAINIV s ≤ c)
    (due, setLnk n { x with sinceReport := Tbl.put k (if due then 0 else c) x.sinceReport } s)
  else (true, s)

/-- The link controller takes an edge of half-bridge `h` (R186, R187, R190): the profile of its bin, RESUME on the first after an
OFF. A command whose link is not READY is held (R188). A unit that does not act sends no EDGE (R197). -/
def linkEdge (forced : Bool) (h : Nat) (e : Edge) (s : State) : State :=
  let n := h / 4
  if !sendsEdge e.stamp s then s
  else
    let x := hbOf h s
    let b := binOf n x.refU s
    let (rep, s) := wantReport n h e b s
    let (pre, plat, ilev) := profileFor h e.hi e.on b s
    let c : Sent := { seq := 0, hb := h, edge := e, resume := x.resume, report := rep, bin := b, pre := pre, plat := plat,
                      ilev := ilev, forced := forced, resends := 0, nacked := false, held := false, closed := false,
                      reported := false }
    let s := setHb h { x with resume := false } s
    if linkState n s == lkReady then
      let k := lnkOf n s
      setLnk n { k with tx := k.tx ++ [.edge c false false] } s
    else holdCmd n c s

/-- The commands of a half-bridge whose last report is off-confirmed, by the OC coding (R173). -/
def ocOff (oc h : Nat) (hi : Bool) : Bool := oc.testBit (2 * (h % 4) + (if hi then 1 else 0))

/-- A failed check on a link (R175): CRCFAIL, CNT0, EV64 graded G0 and the CRC counter. -/
def crcFail (n : Nat) (s : State) : State :=
  linkUpset n 0 (record 64 0 n none (bump (Reg.LLK_CNT0 n) ⟨0, 16⟩ 1 (linkFlag n Reg.LLK_EVT_CRCFAIL s)))

end Sys2Proof.Machine
end

