-- ==== Sys2Proof/Machine/Pulse.lean ====
section
/-! DEFINITION. The planner, the edge unit of the direct legs, bootstrap refresh, resumption, carrier sets and hand-over
of the pulse generator (Carriers and Half-Bridge Pulses, R139-R171). -/

namespace Sys2Proof.Machine

/-! Planning (R146, R149, R154-R156). -/

/-- An edge goes to the edge unit of a direct leg, or to the link controller (R146), `forced` for one of a forced refresh. On a
link the turn-off awaits its off-confirmation until ACKTO and the forward delay after its stamp (R153, R192). -/
def handEdge (forced : Bool) (h : Nat) (e : Edge) (s : State) : State :=
  let s := setHb h { hbOf h s with edges := (hbOf h s).edges ++ [e] } s
  if isDirect h then s
  else
    let due := e.stamp + rd (Reg.PGN_ACKTO h) s % 2 ^ 17 + rd (Reg.LLK_DFWD (h / 4)) s % 2 ^ 16
    let s := when (!e.on) (setHb h { hbOf h s with ackBy := (hbOf h s).ackBy ++ [(e.stamp, due, e.hi)] }) s
    linkEdge forced h e s

/-- The switch of side `to` is planned to turn on at `t`; a low-side turn-on counts in its period (R149, R156). -/
def planOn (forced : Bool) (h : Nat) (to_ : Bool) (t : Nat) (w : Int) (s : State) : State :=
  let s := handEdge forced h ⟨t, to_, true, w⟩ s
  let x := hbOf h s
  let (c, l) := x.lows.headD (fl (Reg.PGN_HSTAT h) Reg.PGN_HSTAT_BSCNT s, [])
  if to_ then s else setHb h { x with lows := (c, t :: l) :: x.lows.drop 1, lowOn := t } s

/-- A crossing at `t`: the conducting switch, if any, turns off, and the other turns on after its dead time (R149). Where none
conducts, P of a direct leg takes its level as a turn-off would bring it (R167). -/
def crossing (h : Nat) (to_ : Bool) (t : Int) (w : Int) (s : State) : State :=
  let s := match (hbOf h s).side with
    | some y => handEdge false h ⟨t.toNat, y, false, 0⟩ s
    | none => when (isDirect h) (setHb h { hbOf h s with pAt := some (t.toNat + 8, to_) }) s
  planOn false h to_ (t + deadTime h to_ s).toNat w s

/-- The requested end of an interval that side `to` opens at a point: the next point that commands the other side, with
the compare unchanged (R155). -/
def requestedEnd (h : Nat) (pos : Int) (to_ : Bool) (s : State) : Option Int :=
  let c := hbCarrier h s
  ((pointsAhead c (cmpNow h s) s).find? (fun p => decide (pos < p.1) && p.2 != to_)).map (fun p => posTime c p.1 s)

/-- The interval [a, b) meets the refresh of this period (R156, R157). -/
def meetsRefresh (h : Nat) (a b : Int) (s : State) : Bool :=
  match (hbOf h s).rf with
  | none => false
  | some (x, y) => decide (a < y) && decide (x < b)

/-- An interval of side `to` executes from `t` (R154). -/
def executeInterval (h : Nat) (to_ : Bool) (t extra w : Int) (s : State) : State :=
  let s := crossing h to_ t w s
  let x := hbOf h s
  setHb h { x with side := some to_, extra := extra, minEnd := t + deadTime h to_ s + minpOf h s, drop := false,
                   lowFirst := x.lowFirst && to_ } s

/-- An interval that is not executed: the conducting switch stays on through it (R154). -/
def dropInterval (h : Nat) (s : State) : State := setHb h { hbOf h s with drop := true, extra := 0 } s

/-- An interval judged at its first crossing (R154). -/
def openInterval (h : Nat) (pos : Int) (to_ : Bool) (t : Int) (s : State) : State :=
  let sign := sideSign to_
  let dt : Int := deadTime h to_ s
  let minp : Int := minpOf h s
  let add := max 0 (sign * accOf h s)
  match requestedEnd h pos to_ s with
  | none =>
    executeInterval h to_ t add (2 ^ 32) (when (decide (0 < sign * accOf h s)) (wrI (Reg.PGN_ACC h) 0) s)
  | some e =>
    let w := e - t
    let w' := w + add
    let over_ := meetsRefresh h t (t + w) s
    if minp ≤ w' - dt && !over_ then
      executeInterval h to_ t add w' (when (decide (0 < sign * accOf h s)) (wrI (Reg.PGN_ACC h) 0) s)
    else
      let s := setB (Reg.PGN_HEVT h) Reg.PGN_HEVT_SHORT true s
      match fl (Reg.PGN_HCFG h) Reg.PGN_HCFG_MODE s with
      | 0 => dropInterval h (setAcc h (sign * w') s)
      | 1 => if over_ then dropInterval h s else executeInterval h to_ t 0 (dt + minp) s
      | _ => dropInterval h s

/-- The end of the interval in progress at a crossing requested for `t`: lengthened by what it was owed, and no earlier
than its earliest second crossing; what that limit adds is owed to the other side under DROP_CARRY (R155). -/
def intervalEnd (h : Nat) (t : Int) (s : State) : Int × State :=
  let x := hbOf h s
  match x.side with
  | none => (t, s)
  | some y =>
    let e := t + x.extra
    if x.minEnd ≤ e then (e, s)
    else (x.minEnd,
      when (fl (Reg.PGN_HCFG h) Reg.PGN_HCFG_MODE s == 0) (setAcc h (accOf h s - sideSign y * (x.minEnd - e))) s)

/-- The low-side interval that a half-bridge resumes with after a long hold: a gate pulse of BSW (R160). -/
def lowFirstInterval (h : Nat) (t : Int) (s : State) : State :=
  let s := executeInterval h false t 0 (dtlOf h s + bswOf h s) s
  setHb h { hbOf h s with minEnd := t + dtlOf h s + bswOf h s, lowFirst := false } s

/-- One point of the carrier for a running half-bridge, taken at `t`: it is a crossing where the commanded side changes
(R148). -/
def planPointAt (h : Nat) (pos : Int) (to_ : Bool) (t : Int) (s : State) : State :=
  let x := hbOf h s
  let s := setHb h { x with planned := pos } s
  if x.side = some to_ then
    if x.drop then setHb h { hbOf h s with drop := false } s else s
  else if x.drop && x.side.isSome then s
  else if x.lowFirst && x.side.isNone then
    let s := lowFirstInterval h t s
    if to_ then
      let (e, s) := intervalEnd h t s
      openInterval h pos to_ e s
    else s
  else
    let (e, s) := intervalEnd h t s
    openInterval h pos to_ e s

/-- One point of the carrier, at its own time. -/
def planPoint (h : Nat) (pos : Int) (to_ : Bool) (s : State) : State :=
  planPointAt h pos to_ (posTime (hbCarrier h s) pos s) s

/-- The next point of the segment in progress that a half-bridge has not planned. -/
def nextPoint (h : Nat) (s : State) : Option (Int × Bool) :=
  let c := hbCarrier h s
  let x := carOf c s
  (segPoints (carShape c s) x.half x.start x.stop (cmpNow h s)).find? (fun p => decide ((hbOf h s).planned < p.1))

/-- A half-bridge is planned: it runs and its Stage has pulses. -/
def hbRuns (h : Nat) (s : State) : Bool :=
  s.configured && hbUsed h s && hbState h s == 0 && pulsesOn (hbStage h s) s

/-- The second crossing of a refresh: the low side turns off, and the high side turns on DTH later (R156). -/
def refreshBack (h : Nat) (b : Int) (forced : Bool) (s : State) : State :=
  let s := setHb h { hbOf h s with back := none } s
  planOn forced h true (b + dthOf h s).toNat 0 (handEdge forced h ⟨b.toNat, false, false, 0⟩ s)

/-- A refresh whose second crossing the planner has reached, before the point at `t` (R146, R156). -/
def backDue (h : Nat) (t : Option Int) (s : State) : Option (Int × Bool) :=
  match (hbOf h s).back with
  | none => none
  | some (b, f) =>
    if b ≤ planAt (hbCarrier h s) s && (match t with
      | some t => decide (b ≤ t)
      | none => true) then some (b, f) else none

/-- The planner reaches the next crossing of a half-bridge: a point of its carrier, or the second of a refresh (R146). -/
def edgePlan (h : Nat) (s : State) : State :=
  if hbRuns h s then
    let c := hbCarrier h s
    let next := nextPoint h s
    match backDue h (next.map (fun p => posTime c p.1 s)) s with
    | some (b, f) => refreshBack h b f s
    | none =>
      match next with
      | none => s
      | some (pos, to_) => if posTime c pos s ≤ planAt c s then carShow c (planPoint h pos to_ s) else s
  else s

/-- Every point that a half-bridge still has in the segment. -/
def planRest (h : Nat) (s : State) : State :=
  let f (s : State) : State :=
    match nextPoint h s with
    | none => s
    | some (pos, to_) => planPoint h pos to_ s
  if hbRuns h s then f (f (f s)) else s

/-- Every point of the segment that lies before `t` (R166). -/
def planBefore (h : Nat) (t : Int) (s : State) : State :=
  let f (s : State) : State :=
    match nextPoint h s with
    | none => s
    | some (pos, to_) => if posTime (hbCarrier h s) pos s < t then planPoint h pos to_ s else s
  if hbRuns h s then f (f (f s)) else s

/-- The first interval of a new set at `t`: the side that the last point up to `t` commands (R166). -/
def planFirst (h : Nat) (t : Int) (s : State) : State :=
  let c := hbCarrier h s
  let x := carOf c s
  let l := (segPoints (carShape c s) x.half x.start x.stop (cmpNow h s)).filter (fun p => decide (posTime c p.1 s ≤ t))
  match l.getLast? with
  | some (pos, to_) => when (hbRuns h s) (planPointAt h pos to_ t) s
  | none => s

/-! Load points (R142, R165). -/

def hbsOfCar (c : Nat) (s : State) : List Nat := (List.range 104).filter (fun h => hbUsed h s && hbCarrier h s == c)

/-- A half-bridge's compares across a point of its carrier (R141, R142): `mid` names p = 1/2. -/
def loadCompare (load : Nat) (mid : Bool) (h : Nat) (s : State) : State :=
  let x := hbOf h s
  let y := match load, mid with
    | 1, false => { x with dr := x.ready, df := x.ready, refU := x.refR }
    | 2, false => { x with dr := x.df }
    | 2, true => { x with df := x.ready, refU := x.refR }
    | 3, false => { x with dr := x.ready, refU := x.refR }
    | 3, true => { x with df := x.ready, refU := x.refR }
    | _, _ => x
  wr (Reg.PGN_CMPA h) (if mid then y.df else y.dr) (setHb h y s)

/-- What a period start does to a half-bridge: the count of periods without a low interval, and the refresh that it
brings (R156); the periods held (R160). -/
def periodStart (h : Nat) (s : State) : State :=
  let x := hbOf h s
  let n := nextCount (fl (Reg.PGN_HSTAT h) Reg.PGN_HSTAT_BSCNT s) (x.lows.headD (0, [])).2
  let s := setF (Reg.PGN_HSTAT h) Reg.PGN_HSTAT_BSCNT n s
  let run := hbState h s == 0
  let low := if x.side == some false && x.lowOn != 0 then [x.lowOn] else []
  setHb h { x with lows := ((n, low) :: x.lows).take 64, heldPer := (if run then x.heldPer else x.heldPer + 1),
                   refresh := run && bsnOf h s != 0 && decide (bsnOf h s ≤ n) } s

/-- The carrier goes on to p = 1/2, or to its next period. -/
def carAdvance (c : Nat) (s : State) : State :=
  let x := carOf c s
  if carTri c s && !x.half then setCar c { x with half := true } s
  else
    let p := prbsAt (x.n + 1) x.prbs
    setCar c { x with k := x.k + 1, n := x.n + 1, start := x.stop, stop := startPos c (x.k + 2) (x.n + 2) p s,
                      half := false, prbs := p } s

/-- The position of the next point p = 0 or p = 1/2 of a carrier. -/
def carBoundary (c : Nat) (s : State) : Int :=
  let x := carOf c s
  if carTri c s && !x.half then (x.start + x.stop) / 2 else x.stop

/-- A hand-over at a point of the carrier set request is due with the lead carrier's period start (R166). -/
def setDue (c : Nat) (s : State) : Bool :=
  let st := carStage c s
  (pgnOf st s).ready.isSome && leadCarrier st s == some c && (!carTri c s || (carOf c s).half)

/-- The carriers of a Stage switch to the set handed over and re-anchor at t_s, the ready compares are loaded (R166). -/
def carSwitch (st : Nat) (s : State) : State :=
  match (pgnOf st s).ready, leadCarrier st s with
  | some set, some lead =>
    let ts := (posTime lead (carOf lead s).stop s).toNat
    let (la, aa, w) := anchorOf st s
    let phase := (Int.emod ((aa : Int) + ((ts : Int) - la) * w / 16) (2 ^ 80)).toNat
    let hs := (carsOf st s).flatMap (fun c => hbsOfCar c s)
    let s := each hs (fun h s => planBefore h ts s) s
    let s := each (carsOf st s) (fun c s =>
      setF (Reg.PGN_CSTAT c) Reg.PGN_CSTAT_SETACT set (setB (Reg.PGN_CSTAT c) Reg.PGN_CSTAT_SWPEND false
        (setCar c { carOf c s with orgLt := ts, orgAt := phase } s))) s
    let s := each (carsOf st s) (fun c s => carShow c (carPlace c ts s)) s
    let s := each hs (fun h s =>
      let x := hbOf h s
      planFirst h ts (periodStart h (wr (Reg.PGN_CMPA h) x.ready
        (setHb h { x with dr := x.ready, df := x.ready, refU := x.refR, extra := 0, drop := false,
                          planned := (carOf (hbCarrier h s) s).start - 1 } s)))) s
    record 61 0 st (some st) (setB (Reg.PGN_SEVT st) Reg.PGN_SEVT_SETSW true
      (setF (Reg.PGN_SSTAT st) Reg.PGN_SSTAT_SETACT set (setPgn st { pgnOf st s with ready := none } s)))
  | _, _ => s

/-- A carrier's point p = 0 or p = 1/2 in planner time: its half-bridges have planned every earlier point, and take the
ready compares where the point is a load point. Ready compares that carry a set change are not loaded at p = 1/2. -/
def carPoint (c : Nat) (s : State) : State :=
  if s.configured && carUsed c s && decide (posTime c (carBoundary c s) s ≤ planAt c s) then
    if setDue c s then carSwitch (carStage c s) s
    else
      let hs := hbsOfCar c s
      let s := each hs planRest s
      let mid := carTri c s && !(carOf c s).half
      let s := carAdvance c s
      let load := if mid && (pgnOf (carStage c s) s).ready.isSome then 0 else carLoad c s
      let s := each hs (loadCompare load mid) s
      carShow c (when (!mid) (each hs periodStart) s)
  else s

/-! Refresh and resumption (R156, R157, R160). -/

/-- A refresh whose high side turns off at `t`: its first crossing is planned, and its second waits for the planner (R146,
R156). -/
def refreshEdges (forced : Bool) (h : Nat) (t : Int) (s : State) : State :=
  let a := t + dtlOf h s
  let b := a + bswOf h s
  let s := planOn forced h false a.toNat 0 (handEdge forced h ⟨t.toNat, true, false, 0⟩ s)
  setB (Reg.PGN_HEVT h) Reg.PGN_HEVT_REFRESH true
    (setHb h { hbOf h s with rf := some (t, b + dthOf h s), back := some (b, forced), refresh := false } s)

/-- The high-side turn-off of the refresh in this period, by the shape of the carrier (R156). -/
def refreshStart (h : Nat) (s : State) : Int :=
  let c := hbCarrier h s
  let x := carOf c s
  match carShape c s with
  | 0 => posTime c x.stop s - dthOf h s - bswOf h s - dtlOf h s
  | 1 => posTime c x.start s
  | _ => posTime c ((x.start + x.stop) / 2) s - bswOf h s / 2 - dtlOf h s

/-- The refresh due in this period, once t_p reaches its first edge (R146, R156). -/
def refreshNow (h : Nat) (s : State) : State :=
  if hbRuns h s && (hbOf h s).refresh && decide (refreshStart h s ≤ planAt (hbCarrier h s) s) then
    if (hbOf h s).side = some true then refreshEdges false h (refreshStart h s) s
    else setHb h { hbOf h s with refresh := false } s
  else s

/-- A HELD half-bridge without a cause resumes at a period start that the planner reaches PLEAD after the clear (R160); its first
command carries RESUME (R190). -/
def hbResume (h : Nat) (s : State) : State :=
  let c := hbCarrier h s
  let x := hbOf h s
  let start := (carOf c s).start
  if s.configured && hbUsed h s && hbState h s == 1 && hbCause h s == 0 && pulsesOn (hbStage h s) s
      && (isDirect h || linkState (h / 4) s == lkReady)
      && !(carOf c s).half && decide ((x.clearAt + pleadOf (hbStage h s) s : Nat) ≤ posTime c start s)
      && decide (posTime c start s ≤ planAt c s) then
    let long := bsnOf h s != 0 && decide (bsnOf h s ≤ x.heldPer)
    wrI (Reg.PGN_ACC h) 0 (setF (Reg.PGN_HSTAT h) Reg.PGN_HSTAT_STATE 0
      (setHb h { x with side := none, planned := start - 1, extra := 0, minEnd := 0, drop := false, rf := none,
                        lowFirst := long, resume := true, heldPer := 0 } s))
  else s

/-! The edge unit of the direct legs (R149-R152). -/

/-- The acknowledgement was qualified in an FCLK (R150). -/
def qualifiedAt (h f : Nat) (s : State) : Bool :=
  let x := hbOf h s
  (match x.ackAt with
    | some q => decide (q ≤ f)
    | none => false)
  || match x.ackPrev with
    | some (a, b) => decide (a ≤ f) && decide (f < b)
    | none => false

/-- A skipped turn-on (R151): SKIP, SKIPCNT, EV56 graded G1, the carry (a refresh, of width 0, takes no part in it, R156), a low
interval that did not execute, and the late-acknowledgement counter, whose overflow retires the half-bridge. -/
def skipTurnOn (h : Nat) (e : Edge) (s : State) : State :=
  let s := when (e.width != 0) (carryDropped h e.hi e.width) s
  let s := when (!e.hi) (uncountLow h e.stamp) s
  let s := bump (Reg.PGN_SKIPCNT h) ⟨0, 16⟩ 1 (setB (Reg.PGN_HEVT h) Reg.PGN_HEVT_SKIP true s)
  upsetThen (ctrId 5 h 0) (retireHb h) (record 56 1 h none s)

/-- The edge with the lowest stamp that has been reached in this FCLK, and the rest. -/
def dueEdge (l : List Edge) (t : Nat) : Option Edge :=
  l.foldl (fun a e => if t ≤ e.stamp then a else match a with
    | none => some e
    | some b => if e.stamp < b.stamp then some e else a) none

/-- A turn-off is driven at its stamp, and P takes the level of the next switch 1 ns later (R150). -/
def turnOff (h : Nat) (e : Edge) (s : State) : State :=
  let n := h - 96
  let s := legRise n s
  let s := { s with legEn := setBit s.legEn n false, legP := setBit s.legP n (!e.hi) }
  let s := emit (.pin "LEG_P" n (if e.hi then 0 else 1) (e.stamp + 8)) (emit (.pin "LEG_EN" n 0 e.stamp) s)
  let x := hbOf h s
  let s := setHb h { x with ackBy := x.ackBy ++ [(e.stamp, e.stamp + rd (Reg.PGN_ACKTO h) s % 2 ^ 17, e.hi)] } s
  setB (Reg.PGN_HSTAT h) Reg.PGN_HSTAT_HION false (setB (Reg.PGN_HSTAT h) Reg.PGN_HSTAT_LOON false s)

/-- A gated turn-on: it executes only with the acknowledgement qualified in the last FCLK that starts at or before its
stamp less 16 eu (R149). The pin rises at the stamp, unless a trip or a hold of this FCLK comes first (R224). -/
def turnOn (h : Nat) (e : Edge) (s : State) : State :=
  let n := h - 96
  if qualifiedAt h ((e.stamp - 16) / fclk) s then
    let s := { s with legEn := setBit s.legEn n true, legP := setBit s.legP n e.hi }
    setB (Reg.PGN_HSTAT h) (if e.hi then Reg.PGN_HSTAT_HION else Reg.PGN_HSTAT_LOON) true
      (noteOn h e.hi e.stamp (when (!tripGate h s) (setHb h { hbOf h s with rise := some e.stamp }) s))
  else skipTurnOn h e s

/-- P of a direct leg takes the level of its first switch after a hold (R167). -/
def levelP (h : Nat) (s : State) : State :=
  match (hbOf h s).pAt with
  | some (t, hi) =>
    if t < s.lt + fclk then
      emit (.pin "LEG_P" (h - 96) (if hi then 1 else 0) t)
        (setHb h { hbOf h s with pAt := none } { s with legP := setBit s.legP (h - 96) hi })
    else s
  | none => s

/-- The switches of a leg-link half-bridge as commanded at their stamps: HION and LOON (R171). -/
def commandedShow (h : Nat) (s : State) : State :=
  let x := hbOf h s
  let l := x.edges.filter (fun e => decide (e.stamp < s.lt + fclk))
  if l.isEmpty then s
  else each l (fun e s => setB (Reg.PGN_HSTAT h) (if e.hi then Reg.PGN_HSTAT_HION else Reg.PGN_HSTAT_LOON) e.on s)
    (setHb h { x with edges := x.edges.filter (fun e => !decide (e.stamp < s.lt + fclk)) } s)

/-- What the pulse generator shows in each FCLK without a command: the carriers at t_p, the switches of the links, P of the
direct legs (R167, R171). -/
def pulseTick (s : State) : State :=
  if s.configured then
    each (List.range 104) (fun h s => if isDirect h then levelP h s else commandedShow h s)
      (each ((List.range 16).filter (fun c => carUsed c s)) carShow s)
  else s

/-- An edge of a direct leg that was not executed in the FCLK of its stamp is replaced by the safe state, graded G1 as a link
edge is (R12); no cause remains, so the half-bridge resumes under R160 (DESIGN CHOICE, log entry 201). -/
def missedLocal (h : Nat) (s : State) : State :=
  let s := holdHb 0 h s
  record 66 1 h none (setHb h { hbOf h s with clearAt := s.lt } s)

/-- The edge of a direct leg that has reached its stamp is driven, gated or missed. -/
def edgeExecute (h : Nat) (s : State) : State :=
  let s := levelP h s
  match dueEdge (hbOf h s).edges (s.lt + fclk) with
  | none => s
  | some e =>
    if e.stamp < fclk * nowF s then missedLocal h s else
    let s := setHb h { hbOf h s with edges := (hbOf h s).edges.erase e } s
    if e.on then turnOn h e s else turnOff h e s

/-- The acknowledgement answers a turn-off at `t`: it is qualified in an FCLK that has come, that of the stamp or a later one
(R150, R152). -/
def ackAnswers (h t : Nat) (s : State) : Bool :=
  let x := hbOf h s
  decide (t ≤ s.lt) && ((match x.ackAt with
      | some q => decide (q ≤ nowF s)
      | none => false)
    || match x.ackPrev with
      | some (a, b) => decide (a ≤ nowF s) && decide (a < b) && decide (t / fclk < b)
      | none => false)

/-- The acknowledgement of a direct leg in this FCLK: OFFCONF, and the turn-offs it answers (R150, R152). -/
def ackShow (h : Nat) (s : State) : State :=
  setB (Reg.PGN_HSTAT h) Reg.PGN_HSTAT_OFFCONF (qualifiedAt h (nowF s) s)
    (setHb h { hbOf h s with ackBy := (hbOf h s).ackBy.filter (fun p => !ackAnswers h p.1 s) } s)

/-- LEGn_ACK as the pin reads, sampled in this FCLK (R150): a rise qualifies 2 + ACKQ FCLK after the sampling; a fall is read
through the two stages of the synchroniser. -/
def ackInput (n : Nat) (level : Bool) (s : State) : State :=
  let h := 96 + n
  let x := hbOf h s
  match level, x.ackAt with
  | true, none => setHb h { x with ackAt := some (nowF s + 2 + fl (Reg.PGN_HCFG h) Reg.PGN_HCFG_ACKQ s) } s
  | false, some q => setHb h { x with ackAt := none, ackPrev := if q < nowF s + 2 then some (q, nowF s + 2) else x.ackPrev } s
  | _, _ => s

/-- The acknowledgements of the direct legs that are read in this FCLK (R150). -/
def ackTick (s : State) : State :=
  each (List.range 8) (fun n s =>
    if (hbOf (96 + n) s).ackAt.isSome || on (Reg.PGN_HSTAT (96 + n)) Reg.PGN_HSTAT_OFFCONF s then ackShow (96 + n) s else s) s

/-- The turn-offs of a leg-link half-bridge that the off-confirmed status as last reported answers (R153): a switch that a skip
left off brings no new report. -/
def ocAnswers (h : Nat) (s : State) : State :=
  let x := hbOf h s
  setHb h { x with ackBy := x.ackBy.filter (fun p => decide (s.lt < p.1) || !ocOff (lnkOf (h / 4) s).oc h p.2.2) } s

/-- No acknowledgement by the end of ACKTO (R152): EV57 graded G0, then the retirement. -/
def ackTimeout (h : Nat) (s : State) : State :=
  let s := if isDirect h then ackTick s else ocAnswers h s
  if hbUsed h s && (hbOf h s).ackBy.any (fun p => decide (p.2.1 ≤ s.lt)) then
    let s := setHb h { hbOf h s with ackBy := [] } s
    retireHb h (record 57 0 h none (setB (Reg.PGN_HEVT h) Reg.PGN_HEVT_ACKMISS true s))
  else s

/-- A forced refresh at t_p (R157). Where the low side conducts there, it needs no edge: the low side stays on to the end of the
refresh. A half-bridge that has not begun to switch takes its low interval first. One that does not run plans nothing (log
entry 154). -/
def forcedRefresh (h : Nat) (s : State) : State :=
  let t := planAt (hbCarrier h s) s
  let low := t + dtlOf h s + bswOf h s
  let s := match (hbOf h s).side with
    | some true => refreshEdges true h t s
    | some false => setHb h { hbOf h s with rf := some ((t : Int), (low : Int)) } s
    | none => setHb h { hbOf h s with lowFirst := true } s
  setHb h { hbOf h s with forced := some low, uvBy := some (low + rd (Reg.PGN_BSREC h) s % 2 ^ 17) } s

/-- A high-side undervoltage report (R157): BSUV; during a forced refresh it belongs to it; else a forced refresh at t_p, EV58
graded G1 and the undervoltage counter. -/
def undervoltage (h : Nat) (s : State) : State :=
  let inRefresh := match (hbOf h s).forced with
    | some e => decide (s.lt ≤ e + dthOf h s)
    | none => false
  let s := setB (Reg.PGN_HEVT h) Reg.PGN_HEVT_BSUV true s
  if inRefresh then s
  else upsetThen (ctrId 5 h 1) (retireHb h) (record 58 1 h none (when (hbRuns h s) (forcedRefresh h) s))

/-- The report is still active BSREC after the low pulse (R157). -/
def bsrecTimeout (h : Nat) (s : State) : State :=
  match (hbOf h s).uvBy with
  | some t =>
    if t ≤ s.lt then
      let s := setHb h { hbOf h s with uvBy := none } s
      if (lnkOf (h / 4) s).uv.testBit (h % 4) && !isDirect h then retireHb h s else s
    else s
  | none => s

/-! Carrier sets and hand-over (R163-R166). -/

/-- A set request: refused, staged under its lock, or waiting for the hand-over (R166). -/
def carrierRequest (st v by_ : Nat) (s : State) : State :=
  let lock := shadowLock 2 st s
  let s := wr (Reg.PGN_CSETREQ st) (v % 4) s
  let valid := (carsOf st s).all (fun c => on (Reg.PGN_KMODE c (v % 4)) Reg.PGN_KMODE_VALID s)
  let code := if 3 < v then 3 else if !valid then 1 else if lockedFor lock by_ s then 2 else 0
  if code != 0 then
    record 62 0 code (some st) (setB (Reg.PGN_SEVT st) Reg.PGN_SEVT_REFUSED true
      (setF (Reg.PGN_REFUSE st) Reg.PGN_REFUSE_CODE code s))
  else match lock with
    | some i => stage i (.carrier st v) s
    | none => setB (Reg.PGN_SSTAT st) Reg.PGN_SSTAT_SETPEND true (setPgn st { pgnOf st s with req := some v } s)

/-- The Pulse-generator hand-over of a Stage (R164): every compare shadow goes to ready, with a pending set request. -/
def pulseHandover (st : Nat) (s : State) : State :=
  let s := each (hbsOf st s) (fun h s =>
    let x := hbOf h s
    setHb h { x with ready := rd (Reg.PGN_CMPS h) s, refR := x.refS } s) s
  let p := pgnOf st s
  let s := match p.req with
    | some v =>
      each (carsOf st s) (fun c s => setB (Reg.PGN_CSTAT c) Reg.PGN_CSTAT_SWPEND true s)
        (setPgn st { p with req := none, ready := some v, deferAt := none } s)
    | none => setPgn st { p with deferAt := none } s
  setB (Reg.PGN_SEVT st) Reg.PGN_SEVT_HANDOVER true (setB (Reg.PGN_SSTAT st) Reg.PGN_SSTAT_HODEF false
    (setB (Reg.PGN_SSTAT st) Reg.PGN_SSTAT_SETPEND false s))

/-- CDL of a Stage in FCLK (R105). -/
def cdlOf (st : Nat) (s : State) : Nat := fl (Reg.STI_SCFG st) Reg.STI_SCFG_CDL s

/-- A Stitch cycle of the Stage starts in this FCLK, after the class-0 actions (R125). -/
def stitchDueNow (st : Nat) (s : State) : Bool :=
  (taken s).any (fun r => slAction (slotOf r.2.2 s) == actStitch && slTarget (slotOf r.2.2 s) == st)

/-- A hand-over fires: deferred to c + CDL while a Stitch cycle of the Stage that started at c runs (R164). -/
def handoverFire (st : Nat) (s : State) : State :=
  let start := if stitchDueNow st s then some (nowF s) else (stiOf st s).start
  match start with
  | some c =>
    if nowF s < c + cdlOf st s then
      setB (Reg.PGN_SEVT st) Reg.PGN_SEVT_DEFER true (setB (Reg.PGN_SSTAT st) Reg.PGN_SSTAT_HODEF true
        (setPgn st { pgnOf st s with deferAt := some (c + cdlOf st s) } s))
    else pulseHandover st s
  | none => pulseHandover st s

/-! Commands. -/

/-- The planner reaches the next crossing of a half-bridge (R146). -/
def execEdgePlan (hb : Fin 104) (s : State) : Host.Outcome State Fault Refusal := .next (edgePlan hb s)

/-- A carrier's next p = 0 or p = 1/2 in planner time (R165). -/
def execCarrierLoadPoint (c : Fin 16) (s : State) : Host.Outcome State Fault Refusal := .next (carPoint c s)

/-- The next edge of direct leg DLn at its stamp (R149). -/
def execEdgeExecute (leg : Fin 8) (s : State) : Host.Outcome State Fault Refusal := .next (edgeExecute (96 + leg) (ackTick s))

/-- LEGn_ACK changes (R150). -/
def execAckInputChange (leg : Fin 8) (level : Bool) (s : State) : Host.Outcome State Fault Refusal :=
  .next (ackInput leg level s)

/-- No acknowledgement by t_x + ACKTO (R152). -/
def execAckTimeout (hb : Fin 104) (s : State) : Host.Outcome State Fault Refusal := .next (ackTimeout hb s)

/-- The refresh that is due in this period (R156). -/
def execBootstrapRefresh (hb : Fin 104) (s : State) : Host.Outcome State Fault Refusal := .next (refreshNow hb s)

/-- BSREC after a forced refresh (R157). -/
def execBsrecTimeout (hb : Fin 104) (s : State) : Host.Outcome State Fault Refusal := .next (bsrecTimeout hb s)

/-- A HELD half-bridge resumes (R160). -/
def execHalfBridgeResume (hb : Fin 104) (s : State) : Host.Outcome State Fault Refusal := .next (hbResume hb s)

/-- PGN_CSETREQ (R166). -/
def execCarrierSetRequest (st : Fin 4) (value : BitVec 32) (by_ : Fin 19) (s : State) :
    Host.Outcome State Fault Refusal := .next (pairFrom (Reg.PGN_CSETREQ st) by_ (carrierRequest st value.toNat by_) s)

/-- The lead carrier's period start t_s (R166). -/
def execCarrierSetSwitch (st : Fin 4) (s : State) : Host.Outcome State Fault Refusal :=
  .next (match leadCarrier st s with
    | some c => if setDue c s then carPoint c s else s
    | none => s)

/-- Every half-bridge is held with DISABLED; a Stage with pulses enabled is graded G5 (R170). -/
def moduleDisable (s : State) : State :=
  let on_ := (List.range 4).filter (fun st => pulsesOn st s)
  let s := holdMany holdDisabled (List.range 104) (setBitAt Reg.PGN_GSTAT 0 true s)
  let s := record 63 (if on_.isEmpty then 0 else 5) 0 none s
  each on_ (fun st s => gradeG5For 4 st (some ⟨63, 0⟩) s) s

/-- PGN_DISABLE (R170): every half-bridge in the safe state with cause DISABLED, G5 against every Stage with pulses, EV63. -/
def execModuleDisable (s : State) : Host.Outcome State Fault Refusal :=
  .next (pairStore Reg.PGN_DISABLE moduleDisable s)

end Sys2Proof.Machine
end

