-- ==== Sys2Proof/Machine/Link.lean ====
section
/-! DEFINITION. The device side of a leg link: bring-up, loss, calibration, retries, undeliverable edges, and what the
endpoint reports (Holtium Leg Link and Gate-Drive Profiles, R172-R199). -/

namespace Sys2Proof.Machine

def linkEnabled (n : Nat) (s : State) : Bool := s.configured && on (Reg.LLK_LCFG n) Reg.LLK_LCFG_ENABLE s

/-- The half-bridges of a link that are in use. -/
def linkHbs (n : Nat) (s : State) : List Nat := ((List.range 4).map (4 * n + ·)).filter (fun h => hbUsed h s)

/-! Bring-up (R179). -/

/-- The limit of a bring-up state, in eu. -/
def stateLimit (k : Nat) : Nat := if k = 0 then 20 * us else if k = 3 then 40 * us else 10 * us

/-- The link enters SYNC for another attempt (R179), the first one after a loss on a READY link (R180). -/
def enterSync (n : Nat) (s : State) : State :=
  let first := if linkState n s = lkReady then s.lt else (lnkOf n s).firstTry
  let s := bump (Reg.LLK_STAT n) Reg.LLK_STAT_ATTEMPT 1 s
  setLinkState n lkSync
    (setLnk n { lnkOf n s with idles := 0, firstTry := first, need := 0, rtts := [], timeSent := false, repeated := false,
                               lost := false, cand := none, rtq := none,
                               tx := (lnkOf n s).tx.filter (fun b => !blkPlain b) } s)

/-- CONFIG, then EPOCH with HANDOFF at this instant (R179, R197): this EPOCH waits behind its CONFIG in class 5 (log entry 197). -/
def enterConfig (n : Nat) (s : State) : State :=
  let s := setLnk n { lnkOf n s with cseq := ((lnkOf n s).cseq + 1) % 256 } s
  setLinkState n lkConfig (sendTwice n 5 (epochBlock s.lt s) (sendTwice n 5 (configBlock n s) s))

/-! Calibration (R182, R183). -/

/-- The next round-trip request of the calibration in hand waits for the line, and goes no earlier than an LT (R174, R182). -/
def sendRtq (n at_ : Nat) (s : State) : State :=
  let x := lnkOf n s
  setLnk n { x with rtq := some (x.rtts.length % 16, at_) } s

/-- The earliest LT of the next RTQ: LL_LEAD after the last one (R182). -/
def rtqFrom (n : Nat) (s : State) : Nat :=
  if (lnkOf n s).t1 = 0 then s.lt else max s.lt ((lnkOf n s).t1 + rd (Reg.LLK_LEAD n) s % 2 ^ 16)

/-- A calibration of `need` exchanges starts. -/
def startCal (n need : Nat) (again : Bool) (s : State) : State :=
  sendRtq n (rtqFrom n s) (setLnk n { lnkOf n s with rtts := [], need := need, repeated := again, timeSent := false, cand := none } s)

/-- The larger and the smaller of the samples. -/
def maxI (l : List Int) : Int := l.foldl max (l.headD 0)
def minI (l : List Int) : Int := l.foldl min (l.headD 0)

/-- A TIME block waits, for two separate frames: LTTX is the LT at which the start character of its frame enters the serializer
(R177, R181). -/
def sendTime (n : Nat) (s : State) : State :=
  let x := lnkOf n s
  setLnk n { x with tx := x.tx ++ [.time, .time] } s

/-- The four half-bridges of a link may leave the hold of R183. -/
def endCalHold (n : Nat) (s : State) : State := setLnk n { lnkOf n s with calHold := false } s

/-- A calibration has failed: it is repeated at once, and only once; the second failure keeps the previous delays, is graded G1,
and holds the half-bridges where a delay lies beyond DMAX (R183). -/
def calFailed (n need : Nat) (beyond : Bool) (s : State) : State :=
  if !(lnkOf n s).repeated then startCal n need true s
  else
    let s := setLnk n { lnkOf n s with need := 0, rtts := [], timeSent := false, repeated := false, cand := none } s
    let s := linkFlag n Reg.LLK_EVT_CALFAIL (record 70 1 n none s)
    let s := linkUpset n 4 s
    if beyond then holdMany holdMissed (linkHbs n s) (setLnk n { lnkOf n s with calHold := true } s) else s

/-- The exchanges of a calibration are judged (R183): TIME is sent with delays that pass, which are taken once TCORR passes
too (log entry 115). -/
def judgeCal (n : Nat) (s : State) : State :=
  let x := lnkOf n s
  let sum := x.rtts.foldl (· + ·) 0
  let len := x.rtts.length
  let asym := signed 16 (rd (Reg.LLK_ASYM n) s)
  let fwd := roundUp (sum + asym * len) (2 * len)
  let rev := roundUp (sum - asym * len) (2 * len)
  let dmax : Int := rd (Reg.LLK_DMAX n) s % 2 ^ 16
  let spread := maxI x.rtts - minI x.rtts
  let beyond := decide (dmax < fwd) || decide (dmax < rev)
  let jump := x.passed && decide ((rd (Reg.LLK_DJUMP n) s % 2 ^ 8 : Nat)
    < (fwd - (rd (Reg.LLK_DFWD n) s % 2 ^ 16 : Nat)).natAbs)
  let s := wr (Reg.LLK_SPREAD n) (min 255 spread.toNat) s
  if decide (8 < spread) || jump || beyond then calFailed n x.need beyond s
  else
    sendTime n (setLnk n { lnkOf n s with timeSent := true, timeAt := none, cand := some (codeOf 16 fwd, codeOf 16 rev) } s)

/-- A round-trip answer (R182): request number, turnaround, and the LT of its delivery. -/
def rtaReceived (n num ta t4 : Nat) (s : State) : State :=
  let x := lnkOf n s
  if linkEnabled n s && (linkState n s == lkCal || linkState n s == lkReady) && decide (x.rtts.length < x.need)
      && num == x.rtts.length % 16 then
    let rtt := (t4 : Int) - x.t1 - ta
    let s := setLnk n { x with rtts := x.rtts ++ [rtt], rtq := none } s
    if (lnkOf n s).rtts.length < x.need then sendRtq n (rtqFrom n s) s
    else judgeCal n s
  else s

/-- A link becomes READY (R179). -/
def enterReady (n : Nat) (s : State) : State :=
  setLinkState n lkReady (setF (Reg.LLK_STAT n) Reg.LLK_STAT_ATTEMPT 0
    (setLnk n { lnkOf n s with cleanFrom := s.lt, calAt := s.lt } s))

/-- The TCORR that STATUS shows after the TIME blocks (R183): above 2 eu the calibration has failed; else it has passed, its delays
replace the old ones, and a link in CAL is READY. -/
def tcorrShown (n : Nat) (tc : Int) (s : State) : State :=
  let x := lnkOf n s
  if x.timeSent && x.timeAt.any (fun t => decide (t ≤ s.lt)) then
    if 2 < tc.natAbs then calFailed n x.need false s
    else
      let s := match x.cand with
        | some (f, r) => wr (Reg.LLK_DFWD n) f (wr (Reg.LLK_DREV n) r s)
        | none => s
      let s := endCalHold n (setLnk n { x with timeSent := false, need := 0, rtts := [], repeated := false, passed := true,
                                               cand := none } s)
      if linkState n s = lkCal then enterReady n s else s
  else s

/-! What the endpoint reports. -/

/-- The off-confirmed bits of a link (R153, R192): OFFCONF of each half-bridge while both its switches are measured off, and
the turn-offs that they answer (R152). -/
def applyOc (n oc : Nat) (s : State) : State :=
  let s := setLnk n { lnkOf n s with oc := oc } s
  each (linkHbs n s) (fun h s =>
    let x := hbOf h s
    setB (Reg.PGN_HSTAT h) Reg.PGN_HSTAT_OFFCONF (ocOff oc h false && ocOff oc h true)
      (setHb h { x with ackBy := x.ackBy.filter (fun p => decide (s.lt < p.1) || !ocOff oc h p.2.2) } s)) s

/-- A STATUS block (R178, R192): its fields in the order of R178. -/
def statusReceived (n uv alm ocb temps epoch : Nat) (owner : Bool) (tcorr crcn : Nat) (s : State) : State :=
  let old := (lnkOf n s).uv
  let s := setLnk n { lnkOf n s with uv := uv, alm := alm } s
  let s := applyOc n ocb s
  let s := setF (Reg.LLK_STAT n) Reg.LLK_STAT_EPOCH epoch (setB (Reg.LLK_STAT n) Reg.LLK_STAT_OWNER owner s)
  let s := wr (Reg.LLK_TCORR n) tcorr (wr (Reg.LLK_TEMP n) temps s)
  let s := linkTemps n ((List.range 4).map (fun k => temps / 256 ^ k % 256)) s
  let s := each ((linkHbs n s).filter (fun h => uv.testBit (h % 4) && !old.testBit (h % 4))) undervoltage s
  let s := each (List.range crcn) (fun _ s => crcFail n s) s
  let s := tcorrShown n (signed 16 tcorr) s
  let s := epochSeen 8 epoch s
  if owner then s else fence s

/-- The two further copies of an ALARM (R191): the same again within 1 µs (log entry 150). -/
def alarmCopy (n a : Nat) (s : State) : Option State :=
  match (lnkOf n s).alarm with
  | some (b, t, k) =>
    if a = b ∧ 0 < k ∧ s.lt ≤ t + us then some (setLnk n { lnkOf n s with alarm := some (b, t, k - 1) } s) else none
  | none => none

/-- A short-circuit ALARM (R191, R230): held, and a short circuit of each shunt it names, in each half-bridge of its mask, once for
its three copies. -/
def alarmReceived (n a : Nat) (s : State) : State :=
  (alarmCopy n a s).getD <|
  let s := setLnk n { lnkOf n s with alarm := some (a, s.lt, 2) } s
  let s := linkFlag n Reg.LLK_EVT_ALARM s
  each ((linkHbs n s).filter (fun h => a.testBit (h % 4))) (fun h s =>
    let s := when (a.testBit 5) (shortCircuit h false none) s
    when (a.testBit 4) (shortCircuit h true none) s) s

/-- The latest instant, in tenths of an eu, at which a frame of one block can begin and still meet the deadline (R184). -/
def latestStart (n stamp : Nat) (s : State) : Int := deadlineT n stamp s - 17 * charT

/-- A NACK (R187): the command is resent once as RETRY where it can still meet its deadline, at most twice in all. -/
def nackReceived (n seq : Nat) (s : State) : State :=
  let s := setLnk n { lnkOf n s with cleanFrom := s.lt } s
  match sentOf n seq s with
  | none => s
  | some c =>
    if c.closed || decide (2 ≤ c.resends) then s
    else if linkState n s != lkReady || !meets n (deadlineT n c.edge.stamp s) s then setSent n c { c with nacked := true } s
    else
      let d := { c with resends := c.resends + 1, nacked := false }
      let s := setSent n c d s
      let s := setLnk n { lnkOf n s with tx := (lnkOf n s).tx ++ [.edge d false true] } s
      linkUpset n 1 (record 65 1 n none (bump (Reg.LLK_CNT0 n) ⟨16, 16⟩ 1 (linkFlag n Reg.LLK_EVT_RETRY s)))

/-- The command in question at the latest instant of a resend: NACKed and not resent, or held back (R188). -/
def openCmd (n seq : Nat) (s : State) : Option Sent :=
  (lnkOf n s).sent.find? (fun c => c.seq == seq % 256 && (c.nacked || c.held) && !c.closed)

/-- A command is undeliverable at the latest instant of a resend (R188). -/
def undeliverable (n seq : Nat) (s : State) : State :=
  match openCmd n seq s with
  | none => s
  | some c =>
    if latestStart n c.edge.stamp s ≤ clkEnd s then missedEdge 66 c.hb (setSent n c { c with closed := true } s) else s

/-- EVENT LATE or MISSING (R188): source 67 or 68; its second copy is ignored (R178). A command that a safe state has cancelled
counts too. -/
def edgeMissed (n seq src : Nat) (s : State) : State :=
  match sentOf n seq s with
  | none => s
  | some c =>
    if c.reported then s else missedEdge src c.hb (setSent n c { c with closed := true, reported := true } s)

/-- EVENT SKIP (R192): R151 for the turn-on that the endpoint did not execute; its second copy is ignored (R178). The switch is no
longer commanded on (R171). -/
def eventSkip (n seq : Nat) (s : State) : State :=
  match sentOf n seq s with
  | none => s
  | some c =>
    if c.reported || !c.edge.on then s
    else
      let s := setSent n c { c with reported := true } s
      let s := setHb c.hb { hbOf c.hb s with edges := (hbOf c.hb s).edges.erase c.edge } s
      skipTurnOn c.hb c.edge (setB (Reg.PGN_HSTAT c.hb)
        (if c.edge.hi then Reg.PGN_HSTAT_HION else Reg.PGN_HSTAT_LOON) false s)

/-- An EVENT that names no command in hand comes twice (R178): the same again within 1 µs is its second copy (log entry 150). -/
def eventOnce (n : Nat) (e : Nat × Nat × Nat × Nat) (f : State → State) (s : State) : State :=
  let x := lnkOf n s
  let again := match x.event with
    | some (d, t) => d == e && decide (s.lt ≤ t + us)
    | none => false
  if again then setLnk n { x with event := none } s
  else f (setLnk n { x with event := some (e, s.lt) } s)

/-- EVENT STALE or CONFLICT (R197, R385): recorded, and it fences an ACTIVE unit whose port it names. -/
def eventStale (n src port : Nat) (s : State) : State :=
  let s := linkFlag n Reg.LLK_EVT_STALE (record src 0 n none s)
  if port = portOf s then fence s else s

/-- Cause MISSED clears (R188): 16 µs READY without NACK, LATE or MISSING, and both switches off-confirmed. -/
def missedClear (h : Nat) (s : State) : State :=
  let n := h / 4
  let x := lnkOf n s
  if !isDirect h && hbUsed h s && (hbCause h s).testBit 2 && linkState n s == lkReady && !x.calHold
      && decide (x.cleanFrom + 128000 ≤ s.lt) && ocOff x.oc h false && ocOff x.oc h true then clearHold holdMissed h s
  else s

/-- Sync is lost on a READY link (R180). -/
def syncLost (n : Nat) (s : State) : State :=
  let s := setLnk n { lnkOf n s with rx := false } s
  if linkEnabled n s && linkState n s == lkReady then
    let s := each (linkHbs n s) (holdHb holdMissed) s
    let s := setLnk n { lnkOf n s with offUntil := s.lt + us, lost := true } s
    linkUpset n 3 (linkFlag n Reg.LLK_EVT_LOSS (record 69 1 n none s))
  else s

/-- After 1 µs of OFF the link returns to SYNC, whether or not the receiver is in sync again (R180). -/
def linkTick (s : State) : State :=
  each ((List.range 24).filter (fun n => linkEnabled n s && linkState n s == lkReady && (lnkOf n s).lost
    && decide ((lnkOf n s).offUntil ≤ s.lt))) enterSync s

/-- A bring-up state has exceeded its limit (R179): another attempt, or after four; EV71 and the retirement, also 400 µs after the
first attempt began. -/
def stateTimeout (n : Nat) (s : State) : State :=
  let k := linkState n s
  let x := lnkOf n s
  let over_ := decide (x.firstTry + 400 * us ≤ s.lt)
  let out := decide (x.since + stateLimit k ≤ s.lt)
  if linkEnabled n s && decide (k ≤ lkCal) && (over_ || out) then
    if over_ || decide (4 ≤ fl (Reg.LLK_STAT n) Reg.LLK_STAT_ATTEMPT s) then retireLink n (record 71 0 n none s)
    else enterSync n s
  else s

/-! Profile training (R195). -/

/-- A REPORT updates the entry of the bin echoed: TD and TM in eu. -/
def reportReceived (n seq k bin : Nat) (hi on_ : Bool) (td : Int) (tm : Nat) (early noplat : Bool) (s : State) : State :=
  let h := 4 * n + k
  let a := profOf h hi on_ bin
  if noplat || !hbUsed h s || hbState h s == 2 then s
  else
    let s := if on a Reg.LLK_PROF_SEEDED s then s
      else
        let (p, q, r) := match sentOf n seq s with
          | some c => (c.pre, c.plat, c.ilev)
          | none => profileFor h hi on_ bin s
        setF a Reg.LLK_PROF_PRE p (setF a Reg.LLK_PROF_PLAT q (setF a Reg.LLK_PROF_ILEV r
          (setB a Reg.LLK_PROF_SEEDED true s)))
    let tr := rdW (Reg.LLK_TRN n) s
    let w := rdW a s
    let ePre := fldGet Reg.LLK_PROF_PRE w
    let ePlat := fldGet Reg.LLK_PROF_PLAT w
    let marg := fldGet Reg.LLK_TRN_PLATMARG tr
    let pre := if early || decide (td < 0) then ePre - 1
      else if td > 8 * (fldGet Reg.LLK_TRN_PRETOL tr : Int) then min 255 (ePre + 1)
      else ePre
    let plat := min 1023 (ceilDiv tm 8 + marg)
    let diff := ((plat : Int) - ePlat).natAbs
    let good := fldGet Reg.LLK_PROF_GOOD w
    let was := on a Reg.LLK_PROF_TRAINED s
    let (good, un) := if was && decide (4 * marg < diff) then (0, true)
      else if pre == ePre && decide (2 * diff ≤ marg) then (min 255 (good + 1), false)
      else (0, false)
    let s := setF a Reg.LLK_PROF_PRE pre (setF a Reg.LLK_PROF_PLAT plat (setF a Reg.LLK_PROF_GOOD good s))
    let s := if un then
        record 76 0 h none (linkFlag n Reg.LLK_EVT_UNTRAIN (setB a Reg.LLK_PROF_TRAINED false s))
      else s
    when (decide (fldGet Reg.LLK_TRN_NTRAIN tr ≤ good)) (setB a Reg.LLK_PROF_TRAINED true) s

/-- A received block or ordered set: with a failed check it counts as a CRC failure; else its effect, on an enabled link
(R175). -/
def received (n : Nat) (ok : Bool) (f : State → State) (s : State) : State :=
  if linkEnabled n s && linkState n s != lkRetired then (if ok then f s else crcFail n s) else s

/-- A received block, behind TMB_LLERR on the uplink (R220): one with an inverted bit fails its check. -/
def receivedBlock (n : Nat) (ok : Bool) (f : State → State) (s : State) : State :=
  if llErr n true s then
    let hit := errNow (lnkOf n s).nUp s
    received n (ok && !hit) f (setLnk n { lnkOf n s with nUp := if hit then 0 else (lnkOf n s).nUp + 1 } s)
  else received n ok f s

/-- A HELLO in IDENT (R179): the identity matches LLK_EPID or any is expected; on a paired device DUAL must read 1 (R370). -/
def helloReceived (n epid : Nat) (dual : Bool) (s : State) : State :=
  if linkState n s = lkIdent then
    let want := rd (Reg.LLK_EPID n) s
    let s := wr (Reg.LLK_EPINFO n) epid (setB (Reg.LLK_STAT n) Reg.LLK_STAT_DUAL dual s)
    if (want == 0 || want == epid) && (dual || !paired s) then enterConfig n s else s
  else s

/-- A CFGACK in CONFIG with the matching CSEQ: the link goes to CAL and its 16 exchanges begin (R179). -/
def cfgackReceived (n cseq : Nat) (s : State) : State :=
  if linkState n s = lkConfig ∧ cseq = (lnkOf n s).cseq then startCal n 16 false (setLinkState n lkCal s) else s

/-- SYNC ends once both sides are in sync and 64 IDLE have been received (R179). -/
def syncDone (n : Nat) (s : State) : State :=
  let x := lnkOf n s
  let far := (Tbl.get EpPort.reset (epOf n s).ports (portOf s)).rx
  if linkEnabled n s && linkState n s == lkSync && x.rx && far && decide (64 ≤ x.idles) then setLinkState n lkIdent s else s

/-- An IDLE that the device receives in SYNC, with the receiver in sync (R179). -/
def idleAtDevice (n : Nat) (s : State) : State :=
  let x := lnkOf n s
  if linkState n s = lkSync ∧ x.rx = true then syncDone n (setLnk n { x with idles := x.idles + 1 } s) else s

/-! Commands. -/

def execLinkRxSyncLost (link : Fin 24) (s : State) : Host.Outcome State Fault Refusal := .next (syncLost link s)
def execLinkStateTimeout (link : Fin 24) (s : State) : Host.Outcome State Fault Refusal := .next (stateTimeout link s)

def execHelloReceived (link : Fin 24) (ok : Bool) (epid : BitVec 32) (_nhb : BitVec 4) (dual _port : Bool)
    (_epver : BitVec 8) (s : State) : Host.Outcome State Fault Refusal :=
  .next (receivedBlock link ok (helloReceived link epid.toNat dual) s)

def execCfgackReceived (link : Fin 24) (ok : Bool) (cseq : BitVec 8) (epid : BitVec 32) (s : State) :
    Host.Outcome State Fault Refusal :=
  .next (receivedBlock link ok (fun s => cfgackReceived link cseq.toNat (wr (Reg.LLK_EPINFO link) epid.toNat s)) s)

/-- Every 1 ms a calibration of four exchanges begins on a READY link, in place of one left open (R182). -/
def execCalibrationStart (link : Fin 24) (s : State) : Host.Outcome State Fault Refusal :=
  .next (let x := lnkOf link s
    if linkEnabled link s && linkState link s == lkReady && decide (x.calAt + ms ≤ s.lt) then
      startCal link 4 false (setLnk link { x with calAt := s.lt } s)
    else s)

def execRtaReceived (link : Fin 24) (num : BitVec 4) (ta : BitVec 20) (t4 : BitVec 64) (s : State) :
    Host.Outcome State Fault Refusal := .next (rtaReceived link num.toNat ta.toNat t4.toNat s)

def execStatusReceived (link : Fin 24) (ok : Bool) (uv alm : BitVec 4) (ocb : BitVec 8) (temps : BitVec 32)
    (epoch : BitVec 8) (owner : Bool) (tcorr crcn : BitVec 16) (s : State) : Host.Outcome State Fault Refusal :=
  .next (receivedBlock link ok (statusReceived link uv.toNat alm.toNat ocb.toNat temps.toNat epoch.toNat owner tcorr.toNat
    crcn.toNat) s)

def execOcReceived (link : Fin 24) (ok : Bool) (oc : BitVec 8) (s : State) : Host.Outcome State Fault Refusal :=
  .next (received link ok (applyOc link oc.toNat) s)

def execAlarmReceived (link : Fin 24) (ok : Bool) (a : BitVec 8) (s : State) : Host.Outcome State Fault Refusal :=
  .next (received link ok (alarmReceived link a.toNat) s)

def execNackReceived (link : Fin 24) (ok : Bool) (seq : BitVec 8) (s : State) : Host.Outcome State Fault Refusal :=
  .next (received link ok (nackReceived link seq.toNat) s)

def execReportReceived (link : Fin 24) (ok : Bool) (seq : BitVec 8) (k : Fin 4) (hi turnOn : Bool) (bin : Fin 8)
    (td tm : BitVec 16) (early noplat : Bool) (s : State) : Host.Outcome State Fault Refusal :=
  .next (receivedBlock link ok (reportReceived link seq.toNat k bin hi turnOn td.toInt tm.toNat early noplat) s)

def execEventSkip (link : Fin 24) (ok : Bool) (seq : BitVec 8) (s : State) : Host.Outcome State Fault Refusal :=
  .next (receivedBlock link ok (eventSkip link seq.toNat) s)

def execEventLate (link : Fin 24) (ok : Bool) (seq : BitVec 8) (s : State) : Host.Outcome State Fault Refusal :=
  .next (receivedBlock link ok (edgeMissed link seq.toNat 67) s)

def execEventMissing (link : Fin 24) (ok : Bool) (seq : BitVec 8) (s : State) : Host.Outcome State Fault Refusal :=
  .next (receivedBlock link ok (edgeMissed link seq.toNat 68) s)

def execEventStale (link : Fin 24) (ok : Bool) (seq epoch : BitVec 8) (port : Fin 2) (s : State) :
    Host.Outcome State Fault Refusal :=
  .next (receivedBlock link ok (eventOnce link (4, seq.toNat, epoch.toNat, port) (eventStale link 73 port)) s)

/-- EVENT FAR (R200): a discarded command stamped too far ahead is recorded. -/
def execEventFar (link : Fin 24) (ok : Bool) (seq : BitVec 8) (s : State) : Host.Outcome State Fault Refusal :=
  .next (receivedBlock link ok (eventOnce link (5, seq.toNat, 0, 0) (record 75 0 link none)) s)

def execEventConflict (link : Fin 24) (ok : Bool) (seq epoch : BitVec 8) (port : Fin 2) (s : State) :
    Host.Outcome State Fault Refusal :=
  .next (receivedBlock link ok (eventOnce link (6, seq.toNat, epoch.toNat, port) (eventStale link 74 port)) s)

def execEdgeUndeliverable (link : Fin 24) (seq : BitVec 8) (s : State) : Host.Outcome State Fault Refusal :=
  .next (undeliverable link seq.toNat s)

def execMissedCauseClear (hb : Fin 96) (s : State) : Host.Outcome State Fault Refusal := .next (missedClear hb s)

end Sys2Proof.Machine
end

