-- ==== Sys2Proof/Machine/Commit.lean ====
section
/-! DEFINITION. The effective hem, and the commit of staged set-points (The Drum, R48-R55, R33). -/

namespace Sys2Proof.Machine

/-- The number n of R54. -/
def derN (st : Nat) (s : State) : Nat := rd (Reg.DRM_DERN st) s % 2 ^ 8

/-- I_eff = max(I_floor, min(I_HEM, I_MAX × F^n)), Q4.28 (R54). -/
def hemEff (st : Nat) (s : State) : Int :=
  let f : Int := rd (Reg.DRM_DERATE st) s % 2 ^ 17
  let n := derN st s
  let lim := roundDiv (rdI (Reg.DRM_HEMMAX st) s * f ^ n) (2 ^ (16 * n))
  max (rdI (Reg.DRM_HEMFLOOR st) s) (min (rdI (Reg.DRM_HEM st) s) lim)

/-- The committed pairs in the order of DRM_REFUSE.CODE: the code, the register, and whether a value lies within its limit
and range (R49, R57). DRM_MODE has no limit. -/
def commitRows (st : Nat) (s : State) : List (Nat × Nat × (Word → Bool)) :=
  let within (lo hi : Nat) (w : Word) : Bool := decide (rdI lo s ≤ w.toInt) && decide (w.toInt ≤ rdI hi s)
  [(1, Reg.DRM_PSET st, within (Reg.DRM_PMIN st) (Reg.DRM_PMAX st)),
   (2, Reg.DRM_QSET st, within (Reg.DRM_QMIN st) (Reg.DRM_QMAX st)),
   (3, Reg.DRM_VSET st, within (Reg.DRM_VMIN st) (Reg.DRM_VMAX st)),
   (4, Reg.DRM_FSET st, fun w => decide (w.toInt.natAbs ≤ rd (Reg.DRM_FSETMAX st) s)),
   (5, Reg.DRM_MP st, fun w => decide (500 ≤ w.toNat) && decide (w.toNat ≤ 10000)),
   (6, Reg.DRM_NQ st, fun w => decide (w.toNat * 5 ≤ 2 ^ 30)),
   (7, Reg.DRM_HEM st, within (Reg.DRM_HEMFLOOR st) (Reg.DRM_HEMMAX st)),
   (0, Reg.DRM_MODE st, fun _ => true)]

/-- The staged value of a pair. -/
def stagedOf (st a : Nat) (s : State) : Option Word :=
  ((drmOf st s).staged.find? (fun p => p.1 == a)).map (fun p => BitVec.ofNat 32 p.2)

/-- K_P = 100,000 / DRM_MP in UQ16.16 (R51). -/
def kpdOf (mp : Nat) : Nat := (roundDiv (100000 * 2 ^ 16) mp).toNat

/-- A commit taken at its step or control tick: every staged pair into use together, or all refused (R48, R49, R51). On a
Stage without a Drum the tick's first FCLK follows the complement word (R33). -/
def applyCommit (st : Nat) (s : State) : State :=
  if (drmOf st s).commit && (hasDrum st s || decide ((drmOf st s).commitAt < s.lt)) then
    let rows := commitRows st s
    let bad := rows.find? (fun r =>
      match stagedOf st r.2.1 s with
      | some w => !r.2.2 w
      | none => false)
    let t := setB (Reg.DRM_STAT st) Reg.DRM_STAT_COMPEND false
      (setDrm st { drmOf st s with commit := false, staged := [] } s)
    match bad with
    | some r => record 33 0 r.1 (some st) (setF (Reg.DRM_REFUSE st) Reg.DRM_REFUSE_CODE r.1 t)
    | none =>
      let t := each rows (fun r t =>
        match stagedOf st r.2.1 s with
        | some w => wrW r.2.1 w t
        | none => t) t
      if (stagedOf st (Reg.DRM_MP st) s).isSome then wr (Reg.DRM_KPD st) (kpdOf (rd (Reg.DRM_MP st) t)) t else t
  else s

/-- n := 0 (R55), at the first control tick whose first FCLK follows the complement word (R33). -/
def applyHemRest (st : Nat) (s : State) : State :=
  if (drmOf st s).hemRest && decide ((drmOf st s).hemRestAt < s.lt) then wr (Reg.DRM_DERN st) 0 (setDrm st { drmOf st s with hemRest := false } s) else s

/-- I_eff at a control tick: DRM_HEMEFF (R54). -/
def hemTick (st : Nat) (s : State) : State :=
  wrI (Reg.DRM_HEMEFF st) (hemEff st s) s

end Sys2Proof.Machine
end

