-- ==== Sys2Proof/Machine/RegFind.lean ====
section
/-! DEFINITION. The row of the register maps that an address belongs to (R7, R443), and what a read of an address returns. -/

namespace Sys2Proof.Machine

/-! Register arrays by address. -/

/-- Whether an address is an element of an array. -/
def arrayHas : List (Nat × Nat) → Nat → Bool
  | [], o => o == 0
  | (st, n) :: t, o => (List.range n).any (fun i => decide (i * st ≤ o) && arrayHas t (o - i * st))

/-- The offsets of an array's elements. -/
def arrayOfs : List (Nat × Nat) → List Nat
  | [] => [0]
  | (st, n) :: t => (List.range n).flatMap (fun i => (arrayOfs t).map (fun o => i * st + o))

/-- The rows of the block that an address lies in (R443). -/
def blockRows (a : Nat) : List RegRow :=
  match (a - regBase) / 2 ^ 16 with
  | 0x00 => Reg.rowsSYS | 0x01 => Reg.rowsBOB | 0x02 => Reg.rowsTCK | 0x03 => Reg.rowsDRM | 0x04 => Reg.rowsSTI
  | 0x05 => Reg.rowsPGN | 0x06 => Reg.rowsLLK | 0x07 => Reg.rowsPRT | 0x08 => Reg.rowsADC | 0x09 => Reg.rowsRNS
  | 0x0A => Reg.rowsHMP | 0x0B => Reg.rowsDMA | 0x0C => Reg.rowsMEM | 0x0D => Reg.rowsCYC | 0x0E => Reg.rowsSPN
  | 0x0F => Reg.rowsPAR | 0x10 => Reg.rowsSAF | 0x11 => Reg.rowsCLK | 0x12 => Reg.rowsPWR | 0x13 => Reg.rowsEVT
  | 0x14 => Reg.rowsTMB | 0x15 => Reg.rowsSEC
  | _ => []

/-- The row of a register address, if it is one. -/
def rowOf (a : Nat) : Option RegRow :=
  if a < regBase then none
  else (blockRows a).find? (fun r => decide (r.base ≤ a) && arrayHas r.dims (a - r.base))

/-- An address is the value word of a pair. -/
def isPair (a : Nat) : Bool :=
  match rowOf a with
  | some r => r.acc == .pw
  | none => false

/-- The bits of a register that are not reserved in the form it holds (R9): TCK_WS4 and TCK_WS5 by the staged basis (R138),
RNS_RPER by the lane's mode (R278). -/
def formMask (a : Nat) (s : State) : Word :=
  if a = Reg.TCK_WS 4 && rd (Reg.TCK_WS 0) s / 2 % 8 != 0 then 0xFFFF#32
  else if a = Reg.TCK_WS 5 && rd (Reg.TCK_WS 0) s / 2 % 8 == 0 then 0xFF#32
  else match (List.range 64).find? (fun l => Reg.RNS_RPER l == a) with
    | some l => if fl (Reg.RNS_LCFG l) Reg.RNS_LCFG_OUTMODE s = 1 then 0x1FFF#32 else 0xFFFFFFFF#32
    | none => 0xFFFFFFFF#32

/-- What a read returns (R7, R9): a register's word, the complement of a pair's value word in the word after it, and 0 at a
reserved address. -/
def readWord (a : Nat) (s : State) : Word :=
  if (rowOf a).isSome then rdW a s &&& formMask a s
  else if decide (4 ≤ a) && isPair (a - 4) then ~~~ rdW (a - 4) s
  else 0#32

/-- A storage is a PW pair or a CFG value, which a step does not write. -/
def heldValue (a : Nat) : Bool :=
  match rowOf a with
  | some r => r.acc == .pw || r.acc == .cfg
  | none => false

/-- What a step writes itself and finds verified is no longer mismatched: storage of its own that is neither a pair nor a CFG
value, and not among those found mismatched now (R213). -/
def verifyOwn (mine : Nat → Bool) (bad : List Nat) (s : State) : State :=
  each (s.evt.mism.filter (fun a => mine a && !bad.contains a && !heldValue a)) verified s

/-- The storage that a step uses: what the command finds mismatched, and what of its own has a word and a complement that
disagree; of this it writes again what is neither a pair nor a CFG value (R213; log entry 125). -/
def stepStores (mine : Nat → Bool) (bad : List Nat) (s : State) : State :=
  let all := bad ++ s.evt.torn.filter mine
  let s := each all mismatch (verifyOwn mine all s)
  { s with evt := { s.evt with torn := s.evt.torn.filter (fun a => !mine a || heldValue a) } }

end Sys2Proof.Machine
end

