-- ==== Sys2Proof/Machine/Drum.lean ====
section
/-! DEFINITION. The Drum step: what it latches, the Stage state machine, and the swing, voltage and hold equations (The Drum,
R33-R51; Ride-Through, Dead-Bus Start and Rejoining, R59-R90, R472, R473). -/

namespace Sys2Proof.Machine

/-! States of R59. -/
def dsOff : Nat := 0
def dsDeadchk : Nat := 1
def dsEnergise : Nat := 2
def dsSync : Nat := 3
def dsForm : Nat := 4
def dsHem : Nat := 5
def dsHold : Nat := 6
def dsRecover : Nat := 7
def dsCeased : Nat := 8
def dsLocked : Nat := 9

def drumState (st : Nat) (s : State) : Nat := fl (Reg.DRM_SSTAT st) Reg.DRM_SSTAT_STATE s

/-- States in which the curves are evaluated, and states with pulses enabled (R59). -/
def dsCurves (x : Nat) : Bool := decide (4 ≤ x) && decide (x ≤ 7)
def dsPulses (x : Nat) : Bool := decide (2 ≤ x) && decide (x ≤ 7)

/-- T_o in FCLK, at least 1, and milliseconds in FCLK. -/
def outerOf (st : Nat) (s : State) : Nat := max 1 (bobOf st s).outer
def msF : Nat := 500000

/-- `ceil(t / T_o)` of a time in ms (R71, R75, R77, R83). -/
def stepsOf (st t : Nat) (s : State) : Nat := ceilDiv (t * msF) (outerOf st s)

/-- What a step latched at its FCLK 0 (R41, R62, R63), the values outside a node's range as bits of DRM_SATF, and the
step's outcome for R80 and R87. -/
structure DrumIn where
  pv : Bool
  p : Int
  q : Int
  vpos : Int
  vneg : Int
  delta : Int
  idp : Int
  iqp : Int
  idn : Int
  iqn : Int
  hem : Bool
  vbus : Int
  vbusn : Int
  slip : Int
  /-- A breaker change counted in this step, and a source lost since the last step. -/
  closed : Bool
  opened : Bool
  lost : Bool
  sat : Nat
  deriving DecidableEq, Repr

/-! Saturation (R46, R47). DRM_SATF bits. -/
def satPwr : Nat := 1
def satVolt : Nat := 2
def satVref : Nat := 4
def satSlip : Nat := 8
def satFreq : Nat := 16

/-- The flag where a value lies outside a node of 32 bits. -/
def satBit (bit : Nat) (x : Int) : Nat := if satd 32 x then bit else 0
def sat32 (x : Int) : Int := satBits 32 x

/-- A voltage magnitude node: 0 to 8 pu (R46). -/
def satMag (x : Int) : Int := clampI 0 (2 ^ 31 - 1) x
def satMagBit (x : Int) : Nat := if satMag x = x then 0 else satVolt

/-- Saturations set their bits of DRM_SATF; each bit that changes to 1 is an EV32 (R47). -/
def satFlags (st m : Nat) (s : State) : State :=
  each ((bitsOf 5 m).filter (fun k => !bitAt (Reg.DRM_SATF st) k s))
    (fun k s => record 32 0 k (some st) (setBitAt (Reg.DRM_SATF st) k true s)) s

/-! The step's front: FCLK 0 (R41). -/

/-- A pulse enable decided by the previous step takes effect (R61). -/
def drumEnable (st : Nat) (s : State) : State :=
  if (drmOf st s).pendOn then pulsesEnable st (setDrm st { drmOf st s with pendOn := false } s) else s

/-- The Bobbin and the expander take up the held results, and a commit written before applies (R20, R41, R48). -/
def drumTakeUp (st : Nat) (s : State) : State :=
  let s := wordUpdate st s
  let s := setDrm st { drmOf st s with vuse := (drmOf st s).vnext, steps := (drmOf st s).steps + 1 } s
  applyCommit st s

/-- P* in use moves towards P* by at most PRATE, or PRECRATE in RECOVER (R50, R71). -/
def drumRamp (st : Nat) (s : State) : State :=
  let d := drmOf st s
  let rate := if drumState st s = dsRecover then rdI (Reg.DRM_PRECRATE st) s else rdI (Reg.DRM_PRATE st) s
  setDrm st { d with pUse := d.pUse + clampI (-rate) rate (rdI (Reg.DRM_PSET st) s - d.pUse) } s

/-- The latched set of the power block, or the substitutes of R37. -/
def drumPower (st : Nat) (s : State) : DrumIn :=
  let d := drmOf st s
  let hem := on (Reg.DRM_STAT st) Reg.DRM_STAT_HEMACT s
  if on (Reg.DRM_STAT st) Reg.DRM_STAT_PVALID s then
    let m := blockLatch st false s
    let v (k : Nat) : Int := m.dq.getD k 0
    let i (k : Nat) : Int := sat32 (v k)
    let pp := v 0 * i 4 + v 1 * i 5
    let qp := v 1 * i 4 - v 0 * i 5
    let pn := v 2 * i 6 + v 3 * i 7
    let qn := v 3 * i 6 - v 2 * i 7
    let both := on (Reg.DRM_CFG st) Reg.DRM_CFG_PSRC s
    let p := roundDiv (if both then pp + pn else pp) (2 ^ 28)
    let q := roundDiv (if both then qp + qn else qp) (2 ^ 28)
    let sat := satMagBit m.vpos ||| satMagBit m.vneg ||| satBit satPwr p ||| satBit satPwr q
      ||| satBit satPwr (v 4) ||| satBit satPwr (v 5) ||| satBit satPwr (v 6) ||| satBit satPwr (v 7)
    { pv := true, p := sat32 p, q := sat32 q, vpos := satMag m.vpos, vneg := satMag m.vneg, delta := m.ang,
      idp := i 4, iqp := i 5, idn := i 6, iqn := i 7, hem := hem, vbus := 0, vbusn := 0, slip := 0, closed := false,
      opened := false, lost := false, sat := sat }
  else
    { pv := false, p := d.pUse, q := rdI (Reg.DRM_QSET st) s, vpos := satMag d.eref, vneg := 0,
      delta := rdI (Reg.DRM_DELTA st) s, idp := 0, iqp := 0, idn := 0, iqn := 0, hem := hem, vbus := 0, vbusn := 0,
      slip := 0, closed := false, opened := false, lost := false, sat := satMagBit d.eref }

/-- V_bus, δ_bus and s_bus of the bus block, where it is valid (R63, R473). An s_bus beyond the signed 32 bits of DRM_SLIPB wraps
there, and in the word of a BUS source that reads it (DESIGN CHOICE, log entry 146). -/
def drumBus (st : Nat) (x : DrumIn) (s : State) : DrumIn × State :=
  if busValid st s then
    let m := blockLatch st true s
    let d := drmOf st s
    let slip := if d.busFirst then 0 else roundDiv (wrap32 (m.ang - d.dbusPrev) * 2 ^ 16) (outerOf st s)
    let s := setDrm st { d with dbusPrev := m.ang, busFirst := false } s
    ({ x with vbus := satMag m.vpos, vbusn := satMag m.vneg, slip := slip },
      wrI (Reg.DRM_VBUS st) (satMag m.vpos) (wrI (Reg.DRM_DBUS st) m.ang (wrI (Reg.DRM_SLIPB st) slip s)))
  else (x, s)

/-- The breaker feedback at FCLK 0: a level read at two consecutive steps counts (R64). A close with CLOSEPERM = 0 in OFF,
DEADCHK or CEASED is EV42, and in DEADCHK without DEADOK it does not count there (R79). -/
def drumBreaker (st : Nat) (x : DrumIn) (s : State) : DrumIn × List (Nat × Nat) × State :=
  let g := fl (Reg.DRM_BRKCFG st) Reg.DRM_BRKCFG_FBGPIO s
  let lvl := s.gpioIn.testBit g != on (Reg.DRM_BRKCFG st) Reg.DRM_BRKCFG_FBPOL s
  let d := drmOf st s
  let fb := on (Reg.DRM_SSTAT st) Reg.DRM_SSTAT_BRKFB s
  let t := setDrm st { d with brkPrev := lvl } s
  if lvl == d.brkPrev && lvl != fb then
    let at0 := drumState st s
    let odd := lvl && !on (Reg.DRM_SSTAT st) Reg.DRM_SSTAT_CLOSEPERM s
      && (at0 == dsOff || at0 == dsDeadchk || at0 == dsCeased)
    let bad := lvl && at0 == dsDeadchk && !on (Reg.DRM_SSTAT st) Reg.DRM_SSTAT_DEADOK s
    ({ x with closed := lvl, opened := !lvl }, (if odd then [(42, 0)] else []) ++ [(43, 0)],
      setDrm st { drmOf st t with badClose := bad } (setB (Reg.DRM_SSTAT st) Reg.DRM_SSTAT_BRKFB lvl t))
  else (x, [], t)

/-! Counts of a step (R66, R75, R77, R80, R83). -/

/-- DEADOK in DEADCHK (R77). -/
def drumDead (st : Nat) (x : DrumIn) (s : State) : State :=
  if drumState st s = dsDeadchk then
    let vd := rdI (Reg.DRM_VDEAD st) s
    let ok := busValid st s && decide (x.vbus < vd) && decide (x.vbusn < vd)
    let n := if ok then (drmOf st s).nDead + 1 else 0
    let done := ok && decide (stepsOf st (rd (Reg.DRM_TDEAD st) s) s ≤ n)
    setB (Reg.DRM_SSTAT st) Reg.DRM_SSTAT_DEADOK done (setDrm st { drmOf st s with nDead := n } s)
  else s

/-- The three conditions of R83. -/
def syncMet (st : Nat) (x : DrumIn) (s : State) : Bool :=
  let tb : Int := fl (Reg.DRM_BRKCFG st) Reg.DRM_BRKCFG_TBRK s
  busValid st s && decide ((x.vpos - x.vbus).natAbs ≤ rd (Reg.DRM_SYNCV st) s)
    && decide (x.slip.natAbs ≤ rd (Reg.DRM_SYNCSLIP st) s)
    && decide ((rdI (Reg.DRM_DBUS st) s * 2 ^ 16 + x.slip * tb * 500000).natAbs ≤ rd (Reg.DRM_SYNCPH st) s * 2 ^ 16)

/-- SYNCOK, with EV44 as it rises (R83). -/
def drumSync (st : Nat) (x : DrumIn) (s : State) : List (Nat × Nat) × State :=
  let ok := syncMet st x s
  let n := if ok then (drmOf st s).nSync + 1 else 0
  let done := ok && decide (stepsOf st (rd (Reg.DRM_TSYNC st) s) s ≤ n)
  (if done && !on (Reg.DRM_SSTAT st) Reg.DRM_SSTAT_SYNCOK s then [(44, 0)] else [],
    setB (Reg.DRM_SSTAT st) Reg.DRM_SSTAT_SYNCOK done (setDrm st { drmOf st s with nSync := n } s))

/-- A curve point (R75): its level in Q4.28 and N_k; none where t_k = 0. -/
def curvePoint (st a : Nat) (s : State) : Option (Int × Nat) :=
  let w := rdW a s
  let t := fldGet Reg.DRM_UVC_TMS w
  if t = 0 then none else some (roundDiv ((fldGet Reg.DRM_UVC_VLEV w : Int) * 2 ^ 28) 1000, stepsOf st t s)

/-- The counter of a point after a step: `over` names the overvoltage curve. -/
def curveCount (over_ : Bool) (v lev hys : Int) (n : Nat) : Nat :=
  if over_ then (if v > lev then n + 1 else if v ≤ lev - hys then 0 else n)
  else (if v < lev then n + 1 else if v ≥ lev + hys then 0 else n)

/-- The counters of both curves advance in a state in which they are evaluated (R59, R75). -/
def drumCurves (st : Nat) (x : DrumIn) (s : State) : State :=
  if dsCurves (drumState st s) then
    let hys := rdI (Reg.DRM_VHYS st) s
    let d := drmOf st s
    let run (over_ : Bool) (v : Int) (reg : Nat → Nat) (t : Tbl Nat) : Tbl Nat :=
      (List.range 16).foldl (fun t k =>
        match curvePoint st (reg k) s with
        | none => t
        | some (lev, _) => Tbl.put k (curveCount over_ v lev hys (Tbl.get 0 t k)) t) t
    setDrm st { d with uv := run false (max 0 (x.vpos - x.vneg)) (Reg.DRM_UVC st) d.uv,
                       ov := run true (x.vpos + x.vneg) (Reg.DRM_OVC st) d.ov } s
  else s

/-- The first point of a curve whose counter exceeds N_k (R75). -/
def curveExpired (st : Nat) (reg : Nat → Nat) (t : Tbl Nat) (s : State) : Option Nat :=
  (List.range 16).find? (fun k => match curvePoint st (reg k) s with
    | none => false
    | some (_, n) => decide (n < Tbl.get 0 t k))

/-- The smallest N_k minus counter over a curve's used points; with none, the open value of Config (R75). -/
def curveMargin (st : Nat) (reg : Nat → Nat) (t : Tbl Nat) (s : State) : Word :=
  let l := (List.range 16).filterMap (fun k => match curvePoint st (reg k) s with
    | none => none
    | some (_, n) => some ((n : Int) - (Tbl.get 0 t k : Nat)))
  match l with
  | [] => Config.noMargin
  | x :: r => BitVec.ofInt 32 (r.foldl min x)

/-- The step counts of R66 and R80, for the state at the start of the step. -/
def drumCounts (st : Nat) (x : DrumIn) (s : State) : State :=
  let d := drmOf st s
  let at0 := drumState st s
  let low := max 0 (x.vpos - x.vneg)
  let rec_ := decide (rdI (Reg.DRM_VREC st) s ≤ low) && !x.hem
  setDrm st
    { d with nHem := if x.hem then d.nHem + 1 else 0
             nPv := if x.pv then 0 else d.nPv + 1
             nHold := if at0 = dsHold then d.nHold + 1 else d.nHold
             nRec := if at0 = dsHold then (if rec_ then d.nRec + 1 else 0) else d.nRec
             nEnerg := if at0 = dsEnergise then d.nEnerg + 1 else d.nEnerg
             ke := if at0 = dsEnergise && !x.hem then d.ke + 1 else d.ke
             kRec := if at0 = dsRecover then d.kRec + 1 else d.kRec } s

/-! Transitions (R60, R66). -/

/-- HOLD entries within TREP (R66). -/
def holdsWithin (st : Nat) (s : State) : List Nat :=
  let d := drmOf st s
  d.holds.filter (fun h => decide ((d.steps - h) * outerOf st s < rd (Reg.DRM_TREP st) s * msF))

/-- The cause for which the state would enter HOLD (causes 2 and 3). -/
def holdCauseOf (st : Nat) (x : DrumIn) (s : State) : Nat :=
  let at0 := drumState st s
  let dip := decide (max 0 (x.vpos - x.vneg) < rdI (Reg.DRM_VDIP st) s)
  if (at0 == dsForm || at0 == dsHem || at0 == dsRecover) && dip then 2
  else if at0 == dsHem && decide (fl (Reg.DRM_SMCFG st) Reg.DRM_SMCFG_NHEM s ≤ (drmOf st s).nHem) then 3
  else 0

/-- The cause for which the state goes to CEASED, 0 for none (causes 6 to 12). -/
def ceasedCause (st : Nat) (x : DrumIn) (s : State) : Nat :=
  let d := drmOf st s
  let at0 := drumState st s
  let o := outerOf st s
  if dsCurves at0 && (curveExpired st (Reg.DRM_UVC st) d.uv s).isSome then 6
  else if dsCurves at0 && (curveExpired st (Reg.DRM_OVC st) d.ov s).isSome then 7
  else if at0 == dsHold && decide (rd (Reg.DRM_THMAX st) s * msF < d.nHold * o) then 8
  else if holdCauseOf st x s != 0
      && decide (fl (Reg.DRM_SMCFG st) Reg.DRM_SMCFG_NREP s ≤ (holdsWithin st s).length) then 9
  else if dsCurves at0 && decide (rdI (Reg.DRM_VANGMIN st) s ≤ x.vpos)
      && decide (rd (Reg.DRM_DELMAX st) s < (wrap32 (x.delta - d.deltaRef)).natAbs) then 10
  else if dsPulses at0 && decide (rd (Reg.DRM_PVMAX st) s ≤ d.nPv) then 11
  else if at0 == dsEnergise && decide (3 * (rd (Reg.DRM_TRAMP st) s * msF) < d.nEnerg * o) then 12
  else 0

/-- The step's automatic transition: the new state and its cause (R60, R66), also for a G5 and a safety pulse-off that ended
before the step; an unlocked Stage in LOCKED reads OFF (R89). -/
def autoTransition (st : Nat) (x : DrumIn) (s : State) : Option (Nat × Nat) :=
  let d := drmOf st s
  let at0 := drumState st s
  let o := outerOf st s
  let ceased := ceasedCause st x s
  let hold := holdCauseOf st x s
  if locked st s || d.sawLock then (if at0 == dsLocked then none else some (dsLocked, 15))
  else if at0 == dsLocked then some (dsOff, 0)
  else if ceased != 0 then some (dsCeased, ceased)
  else if x.opened && (at0 == dsEnergise || dsCurves at0) then some (dsOff, 13)
  else if at0 == dsSync && (d.srcWr || x.lost) then some (dsOff, 14)
  else if at0 != dsOff && at0 != dsCeased && (!pathsOn s || d.sawOff) then some (dsOff, 16)
  else if hold != 0 then some (dsHold, hold)
  else if at0 == dsHold && decide (fl (Reg.DRM_SMCFG st) Reg.DRM_SMCFG_NREC s ≤ d.nRec) then some (dsRecover, 4)
  else if at0 == dsForm && x.hem then some (dsHem, 1)
  else if at0 == dsHem && !x.hem then some (dsForm, 5)
  else if at0 == dsRecover && decide (stepsOf st (rd (Reg.DRM_TREC st) s) s ≤ d.kRec)
      && d.pUse == rdI (Reg.DRM_PSET st) s then some (dsForm, 5)
  else if at0 == dsEnergise && decide (rd (Reg.DRM_TRAMP st) s * msF ≤ d.ke * o) then some (dsForm, 5)
  else if at0 == dsSync && (d.live || x.closed) then some (dsForm, 5)
  else if at0 == dsDeadchk && on (Reg.DRM_SSTAT st) Reg.DRM_SSTAT_DEADOK s
      && on (Reg.DRM_SSTAT st) Reg.DRM_SSTAT_BRKFB s && !d.badClose then some (dsEnergise, 5)
  else none

/-- The values that leave with a state: JOIN and the live start with SYNC, DEADOK with DEADCHK, the curve counters
where the new state does not evaluate them, and δ_ref with HOLD (R73, R75, R77, R88). -/
def leaveState (st new : Nat) (s : State) : State :=
  let s := if dsCurves new then s else setDrm st { drmOf st s with uv := [], ov := [] } s
  let s := if new = dsSync then s
    else setB (Reg.DRM_SSTAT st) Reg.DRM_SSTAT_JOIN false (setDrm st { drmOf st s with live := false } s)
  let s := if new = dsDeadchk then s
    else setB (Reg.DRM_SSTAT st) Reg.DRM_SSTAT_DEADOK false (setDrm st { drmOf st s with nDead := 0, badClose := false } s)
  if new = dsHold then s else setDrm st { drmOf st s with deltaRef := 0 } s

/-- The latches and starts of a new state (R68, R71, R80, R82, R84). -/
def enterState (st old new : Nat) (s : State) : State :=
  let d := drmOf st s
  if new = dsHold then
    wr (Reg.DRM_HOLDW st) (wordOf st s)
      (setDrm st { d with deltaRef := rdI (Reg.DRM_DELTA st) s, corr := 0, nHold := 0, nRec := 0,
                          holds := holdsWithin st s ++ [d.steps] } s)
  else if new = dsRecover then
    setB (Reg.DRM_SSTAT st) Reg.DRM_SSTAT_ADMIT true (setDrm st { d with kRec := 0 } s)
  else if new = dsEnergise then
    let s := setDrm st { d with ke := 0, nEnerg := 0 } s
    if actSrc st s = srcDrum then s else srcRequest st srcDrum 0 s
  else if new = dsForm && old == dsSync then
    srcRequest st srcDrum 0 (setB (Reg.DRM_SSTAT st) Reg.DRM_SSTAT_ADMIT true s)
  else s

/-- The state changes (R61, R66). -/
def goState (st new : Nat) (s : State) : State :=
  let old := drumState st s
  enterState st old new (leaveState st new (setF (Reg.DRM_SSTAT st) Reg.DRM_SSTAT_STATE new s))

/-- The automatic transition of the step, with its records: EV37, and EV39, EV40 or EV41 by its cause (R66, R469). -/
def drumAuto (st : Nat) (x : DrumIn) (s : State) : List (Nat × Nat) × State :=
  match autoTransition st x s with
  | none => ([], s)
  | some (new, 0) => ([(37, new)], goState st new s)
  | some (new, c) =>
    let d := drmOf st s
    let s := setF (Reg.DRM_SCAUSE st) Reg.DRM_SCAUSE_LASTCAUSE c s
    let pt := if c = 6 then (curveExpired st (Reg.DRM_UVC st) d.uv s).getD 0
      else 16 + (curveExpired st (Reg.DRM_OVC st) d.ov s).getD 0
    let s := when (c == 6 || c == 7) (setF (Reg.DRM_SCAUSE st) Reg.DRM_SCAUSE_CURVEPT pt) s
    let more : List (Nat × Nat) :=
      if c = 6 ∨ c = 7 then [(39, pt)] else if c = 10 then [(40, 0)] else if c = 2 ∨ c = 3 then [(41, c)] else []
    ((37, new + 256 * c) :: more, goState st new s)

/-! Commands (R65). -/

/-- A two-hand function that the image assigns to the Stage reports actuation (R81). -/
def twoHand (st : Nat) (s : State) : Bool :=
  (List.range 8).any (fun n => fl (Reg.SAF_PCFG n) Reg.SAF_PCFG_FUNC s == 4
    && fl (Reg.SAF_PCFG n) Reg.SAF_PCFG_STAGE s == st && on (Reg.SAF_PSTAT n) Reg.SAF_PSTAT_THACT s)

/-- The refusal of a command by R65, in the order of R470; 0 where it is accepted. A code with a reserved bit set is undefined,
and refused as such (DESIGN CHOICE, log entry 143). -/
def commandRefusal (st code : Nat) (x : DrumIn) (s : State) : Nat :=
  let at0 := drumState st s
  if code = 0 ∨ 5 < code then 6
  else if code = 1 then (if at0 = dsLocked then 1 else 0)
  else if code = 5 then (if at0 = dsCeased then 0 else 1)
  else if at0 != dsOff then 1
  else if !x.pv then 2
  else if !busValid st s then 7
  else if code = 2 then
    if rdI (Reg.DRM_VDEAD st) s ≤ x.vbus then 3
    else if on (Reg.DRM_SMCFG st) Reg.DRM_SMCFG_LOCAL s && !twoHand st s then 5
    else 0
  else if x.vbus < rdI (Reg.DRM_VREC st) s then 4
  else 0

/-- SYNC or JOIN accepted: the request for BUS, or for CLUSTER under JOIN while its angle is received; with the breaker
closed, the live start's ALIGN to BUS (R82, R87, R88). -/
def startSync (st : Nat) (join : Bool) (s : State) : State :=
  let s := setB (Reg.DRM_SSTAT st) Reg.DRM_SSTAT_JOIN join (goState st dsSync s)
  if on (Reg.DRM_SSTAT st) Reg.DRM_SSTAT_BRKFB s then
    srcRequest st srcBus 1 (setDrm st { drmOf st s with live := true } s)
  else srcRequest st (if join && refOk s then srcCluster else srcBus) 0 s

/-- The command of a step: the last one written before its FCLK 0; one of the same FCLK waits (R65). -/
def commandDue (st : Nat) (s : State) : Option Nat :=
  let d := drmOf st s
  if d.cmdAt < s.lt then d.cmd else d.cmdPrev

/-- The step has taken its command. -/
def commandTaken (st : Nat) (s : State) : State :=
  let d := drmOf st s
  setDrm st { d with cmd := if d.cmdAt < s.lt then none else d.cmd, cmdPrev := none } s

/-- The pending command against the state that results (R60, R65). -/
def drumCommand (st : Nat) (x : DrumIn) (s : State) : List (Nat × Nat) × State :=
  match commandDue st s with
  | none => ([], s)
  | some code =>
    let s := commandTaken st s
    let r := commandRefusal st code x s
    if r != 0 then ([(38, r + 256 * (code % 16))], setF (Reg.DRM_SCAUSE st) Reg.DRM_SCAUSE_REFUSE r s)
    else
      let old := drumState st s
      let t := match code with
        | 2 => goState st dsDeadchk s
        | 3 => startSync st false s
        | 4 => startSync st true s
        | _ => if old = dsOff then s else goState st dsOff s
      (if drumState st t = old then [] else [(37, drumState st t)], t)

/-! The equations (R42, R43, R69, R71, R472). -/

/-- K_S in UQ0.48: 1 / (2^32 × f_base × T_o) (R42). -/
def ksOf (st : Nat) (s : State) : Int := roundDiv (2 ^ 64) (max 1 (fnomOf st s * outerOf st s))

/-- A per-second gain times T_o, UQ0.32 (R46). -/
def perTick (st a : Nat) (s : State) : Int := roundDiv ((rd a s : Int) * outerOf st s * 2 ^ 16) 500000000

/-- P_f, Q_f and ω_s (R42); in the step that enters RECOVER P_f and Q_f are the measured values (R71). -/
def drumFilters (st : Nat) (x : DrumIn) (set : Bool) (s : State) : DrumIn × State :=
  let d := drmOf st s
  let ap : Int := rd (Reg.DRM_AP st) s
  let ad : Int := rd (Reg.DRM_AD st) s
  let pf0 := rdI (Reg.DRM_PF st) s
  let qf0 := rdI (Reg.DRM_QF st) s
  let pf := if set then x.p else roundDiv (pf0 * 2 ^ 31 + ap * (x.p - pf0)) (2 ^ 31)
  let qf := if set then x.q else roundDiv (qf0 * 2 ^ 31 + ap * (x.q - qf0)) (2 ^ 31)
  let slip := wrap32 (x.delta - rdI (Reg.DRM_DELTA st) s) * ksOf st s
  let ws := roundDiv (d.ws * 2 ^ 49 + ad * (slip - d.ws * 2 ^ 18)) (2 ^ 49)
  ({ x with sat := x.sat ||| satBit satPwr pf ||| satBit satPwr qf ||| satBit satSlip ws },
    setDrm st { drmOf st s with ws := sat32 ws }
      (wrI (Reg.DRM_PF st) (sat32 pf) (wrI (Reg.DRM_QF st) (sat32 qf) (wrI (Reg.DRM_DELTA st) x.delta s))))

/-- The swing integration (R42, R43): `track` names a state in which the integrator follows the Bobbin, `allow` a step in
which the admission ramp starts, so that dp is 0 (R71, R84, R88). -/
def drumSwing (st : Nat) (x : DrumIn) (track allow : Bool) (s : State) : DrumIn × State :=
  let d := drmOf st s
  let used : Int := wordOf st s
  let fnom : Int := fnomOf st s
  let off := actSrc st s != srcDrum
  let follow := track || off
  let wclamp := on (Reg.BOB_STAT st) Reg.BOB_STAT_WCLAMP s
  let wacc := if follow || wclamp then used * 2 ^ 16 else d.wacc
  let wstar := fnom + rdI (Reg.DRM_FSET st) s
  let x0 := roundDiv ((wacc - wstar * 2 ^ 16) * 2 ^ 14) (max 1 fnom.toNat)
  let xs := sat32 x0
  let kpx := -((rd (Reg.DRM_KPD st) s : Int) * xs)
  let g0 := rdI (Reg.DRM_G st) s
  let g1 := if follow || rd (Reg.DRM_TG st) s == 0 then roundDiv kpx (2 ^ 18)
    else roundDiv (g0 * 2 ^ 49 + (rd (Reg.DRM_AG st) s : Int) * (kpx - g0 * 2 ^ 18)) (2 ^ 49)
  let g := sat32 g1
  let dws := (rd (Reg.DRM_D st) s : Int) * d.ws
  let pf := rdI (Reg.DRM_PF st) s
  let p1 := roundDiv ((pf - g) * 2 ^ 18 - dws) (2 ^ 18)
  let pUse := if allow then sat32 p1 else d.pUse
  let dp := if allow then 0 else (pUse - pf + g) * 2 ^ 18 + dws
  let kh : Int := rd (Reg.DRM_KH_LO st) s + 2 ^ 32 * (rd (Reg.DRM_KH_HI st) s % 2 ^ 16)
  let w := wacc + roundDiv (kh * dp) (2 ^ 46)
  let w' := clampI (fminOf st s * 2 ^ 16) (fmaxOf st s * 2 ^ 16) w
  let sat := satBit satFreq x0 ||| satBit satPwr g1 ||| (if allow then satBit satPwr p1 else 0)
  ({ x with sat := x.sat ||| sat },
    setB (Reg.DRM_STAT st) Reg.DRM_STAT_TRACK off
      (setB (Reg.DRM_STAT st) Reg.DRM_STAT_FCLAMP (wclamp || w' != w)
        (wrI (Reg.DRM_G st) g (setDrm st { d with wacc := w', wout := w' / 2 ^ 16, pUse := pUse } s))))

/-- The voltage references of R40 from E, the currents and an impedance set (R_v, X_v, R_vn, X_vn). -/
def drumRefs (st : Nat) (x : DrumIn) (z : Int × Int × Int × Int) (s : State) : DrumIn × State :=
  let (rv, xv, rvn, xvn) := z
  let e := rdI (Reg.DRM_E st) s
  let q (v : Int) : Int := roundDiv v (2 ^ 30)
  let a := q (e * 2 ^ 30 - rv * x.idp + xv * x.iqp)
  let b := q (-(rv * x.iqp) - xv * x.idp)
  let c := q (-(rvn * x.idn) + xvn * x.iqn)
  let d := q (-(rvn * x.iqn) - xvn * x.idn)
  let sat := satBit satVref a ||| satBit satVref b ||| satBit satVref c ||| satBit satVref d
  ({ x with sat := x.sat ||| sat },
    wrI (Reg.DRM_VD st) (sat32 a) (wrI (Reg.DRM_VQ st) (sat32 b)
      (setDrm st { drmOf st s with vnext := ⟨sat32 a, sat32 b, sat32 c, sat32 d⟩ } s)))

/-- The normal and the fault impedance set, and the ramp between them (R59, R70, R71). -/
def normalSet (st : Nat) (s : State) : Int × Int × Int × Int :=
  (rd (Reg.DRM_RV st) s, rd (Reg.DRM_XV st) s, rd (Reg.DRM_RVN st) s, rd (Reg.DRM_XVN st) s)
def faultSet (st : Nat) (s : State) : Int × Int × Int × Int :=
  (rd (Reg.DRM_RVF st) s, rd (Reg.DRM_XVF st) s, rd (Reg.DRM_RVNF st) s, rd (Reg.DRM_XVNF st) s)
def rampSet (st : Nat) (s : State) : Int × Int × Int × Int :=
  let n := max 1 (stepsOf st (rd (Reg.DRM_TREC st) s) s)
  let k : Int := min n (drmOf st s).kRec
  let a := normalSet st s
  let f := faultSet st s
  let go (a f : Int) : Int := f + roundDiv ((a - f) * k) n
  (go a.1 f.1, go a.2.1 f.2.1, go a.2.2.1 f.2.2.1, go a.2.2.2 f.2.2.2)

/-- E_ramp = V* × min(1, k_e × T_o / TRAMP) (R80). -/
def eRamp (st : Nat) (s : State) : Int :=
  let den := max 1 (rd (Reg.DRM_TRAMP st) s * msF)
  roundDiv (rdI (Reg.DRM_VSET st) s * (min den ((drmOf st s).ke * outerOf st s) : Nat)) den

/-- E_ref, u_R, z_V and E (R39, R42), with V_bus for V* and no n_q term in SYNC (R82), E bounded by E_ramp in ENERGISE (R80),
and E set to V_bus in the second step of a live start (R87). E_ref of the step whose commit clears RESTORE still holds the u_R
of the step before (DESIGN CHOICE, log entry 144). -/
def drumVoltage (st : Nat) (x : DrumIn) (live : Bool) (s : State) : DrumIn × State :=
  let d := drmOf st s
  let at0 := drumState st s
  let sync := at0 == dsSync
  let vset := if sync then x.vbus else rdI (Reg.DRM_VSET st) s
  let nq : Int := if sync then 0 else rd (Reg.DRM_NQ st) s
  let ur := rdI (Reg.DRM_UR st) s
  let e0 := rdI (Reg.DRM_E st) s
  let open_ := sync && !busValid st s
  let er := if open_ then d.eref
    else roundDiv ((vset + ur) * 2 ^ 30 - nq * (rdI (Reg.DRM_QF st) s - rdI (Reg.DRM_QSET st) s)) (2 ^ 30)
  let eref := sat32 er
  let urmax := rdI (Reg.DRM_URMAX st) s
  let ur' := if on (Reg.DRM_MODE st) Reg.DRM_MODE_RESTORE s then
      if open_ then ur
      else clampI (-urmax) urmax (roundDiv (ur * 2 ^ 32 + perTick st (Reg.DRM_KR st) s * (vset - x.vpos)) (2 ^ 32))
    else 0
  let emin := rdI (Reg.DRM_EMIN st) s
  let emax := rdI (Reg.DRM_EMAX st) s
  let vc := on (Reg.DRM_CFG st) Reg.DRM_CFG_VCMODE s
  let et := if vc then (eref + d.zv) * 2 ^ 16 + (rd (Reg.DRM_KPV st) s : Int) * (eref - x.vpos) else eref * 2 ^ 16
  let z := if vc && decide (emin * 2 ^ 16 < et) && decide (et < emax * 2 ^ 16) then
      roundDiv (d.zv * 2 ^ 32 + perTick st (Reg.DRM_KIV st) s * (eref - x.vpos)) (2 ^ 32)
    else d.zv
  let zv := clampI (-(emax - emin)) (emax - emin) z
  let ed := rdI (Reg.DRM_EDMAX st) s
  let e1 := if live && busValid st s then x.vbus else clampI (e0 - ed) (e0 + ed) (roundDiv et (2 ^ 16))
  let e2 := clampI emin emax e1
  let e := if at0 = dsEnergise then min e2 (eRamp st s) else e2
  ({ x with sat := x.sat ||| satBit satVolt er ||| (if zv = z then 0 else satVolt) },
    wrI (Reg.DRM_E st) e (wrI (Reg.DRM_UR st) ur' (setDrm st { d with eref := eref, zv := zv } s)))

/-- The held voltage quantities of a state with pulses disabled (R472). -/
def drumQuiet (st : Nat) (x : DrumIn) (s : State) : DrumIn × State :=
  let nq : Int := rd (Reg.DRM_NQ st) s
  let er := roundDiv (rdI (Reg.DRM_VSET st) s * 2 ^ 30 - nq * (rdI (Reg.DRM_QF st) s - rdI (Reg.DRM_QSET st) s)) (2 ^ 30)
  ({ x with sat := x.sat ||| satBit satVolt er },
    wr (Reg.DRM_E st) 0 (wr (Reg.DRM_UR st) 0 (wr (Reg.DRM_VD st) 0 (wr (Reg.DRM_VQ st) 0
      (setDrm st { drmOf st s with eref := sat32 er, zv := 0, vnext := .reset } s)))))

/-- The angle hold (R69): `W_hold` plus the correction, δ_prev following δ, the other quantities frozen. While the source
is not DRUM the integrator tracks the word in use (R43, R85). -/
def drumHold (st : Nat) (x : DrumIn) (s : State) : DrumIn × State :=
  let d := drmOf st s
  let de := wrap32 (x.delta - d.deltaRef)
  let trust := x.pv && decide (rdI (Reg.DRM_VANGMIN st) s ≤ x.vpos)
    && on (Reg.DRM_SMCFG st) Reg.DRM_SMCFG_HOLDTRK s
  let corr := if trust then roundDiv ((rd (Reg.DRM_KAW st) s : Int) * de) (2 ^ 32) else d.corr
  let off := actSrc st s != srcDrum
  let w : Int := if off then wordOf st s else rd (Reg.DRM_HOLDW st) s + corr
  let s := setB (Reg.DRM_STAT st) Reg.DRM_STAT_TRACK off (setB (Reg.DRM_STAT st) Reg.DRM_STAT_FCLAMP false
    (wrI (Reg.DRM_DELTA st) x.delta (setDrm st { d with corr := corr, wacc := w * 2 ^ 16, wout := w } s)))
  drumRefs st x (faultSet st s) s

/-- The equations of the step for the state that results: `old` the state at its start, `live` the second step of a live
start. The accepting step of a live start holds E, u_R, z_V and the references at 0 (R472), though its state is SYNC (DESIGN
CHOICE, log entry 200). -/
def drumEquations (st old : Nat) (live : Bool) (x : DrumIn) (s : State) : DrumIn × State :=
  let new := drumState st s
  if new = dsHold then drumHold st x s
  else if !dsPulses new || (drmOf st s).live then
    let (x, s) := drumFilters st x false s
    let (x, s) := drumSwing st x true false s
    drumQuiet st x s
  else
    let rec_ := new == dsRecover && old != dsRecover
    let allow := rec_ || (new == dsForm && old == dsSync)
    let (x, s) := drumFilters st x rec_ s
    let (x, s) := drumSwing st x (new == dsSync) allow s
    let (x, s) := drumVoltage st x live s
    drumRefs st x (if new = dsRecover then rampSet st s else normalSet st s) s

/-! The step (R41, R42, R60). -/

/-- DRM_VLOW, DRM_VHIGH, DRM_VPOS and DRM_VNEG (R62). A V_high of 8 pu or more wraps in its register; the comparisons of the step
use it unwrapped (DESIGN CHOICE, log entry 145). -/
def drumMeasured (st : Nat) (x : DrumIn) (s : State) : State :=
  wrI (Reg.DRM_VPOS st) x.vpos (wrI (Reg.DRM_VNEG st) x.vneg
    (wrI (Reg.DRM_VLOW st) (max 0 (x.vpos - x.vneg)) (wrI (Reg.DRM_VHIGH st) (x.vpos + x.vneg) s)))

/-- The curve margins, REPCNT and ADMIT as the step leaves them (R71, R75, R91). ADMIT stays 1 until the P* in use meets the
committed P*, in whatever state the Stage then is (DESIGN CHOICE, log entry 147). -/
def drumShow (st : Nat) (s : State) : State :=
  let d := drmOf st s
  let s := wrW (Reg.DRM_UVMARG st) (curveMargin st (Reg.DRM_UVC st) d.uv s)
    (wrW (Reg.DRM_OVMARG st) (curveMargin st (Reg.DRM_OVC st) d.ov s) s)
  let s := wr (Reg.DRM_REPCNT st) (min 15 (holdsWithin st s).length) s
  when (d.pUse == rdI (Reg.DRM_PSET st) s) (setB (Reg.DRM_SSTAT st) Reg.DRM_SSTAT_ADMIT false) s

/-- What the step decides about pulses: an enable waits for the next firing, a disable for the step's end (R61). -/
def drumPulses (st : Nat) (s : State) : State :=
  let d := drmOf st s
  let want := dsPulses (drumState st s) && !d.live
  setDrm st { d with pendOn := want && !pulsesOn st s, pendOff := !want } s

/-- The records of a step, in ascending source (R204). -/
def drumRecords (st : Nat) (l : List (Nat × Nat)) (s : State) : State :=
  each (List.range 8) (fun k s =>
    each (l.filter (fun r => r.1 == 37 + k)) (fun r s => record r.1 0 r.2 (some st) s) s) s

/-- The front of a Drum step: the checks, the take-up at FCLK 0, the measured values, and the counts up to the transition.
Answers the step's inputs, the records of the breaker and of SYNCOK, and the state. -/
def drumFront (st : Nat) (bad : List (BitVec 32)) (s : State) : DrumIn × List (Nat × Nat) × State :=
  let s := blockTimeout st true (blockTimeout st false s)
  let s := stepStores (fun a => a / 0x400 == Reg.DRM_PSET st / 0x400) (bad.map (·.toNat)) s
  let s := drumEnable st s
  let s := sourceLost st s
  let lost := (bobOf st s).lost || reqLost st s
  let s := drumRamp st (drumTakeUp st s)
  let (x, s) := drumBus st { drumPower st s with lost := lost } s
  let s := drumMeasured st x s
  let s := drumDead st x s
  let (x, r1, s) := drumBreaker st x s
  let (r2, s) := drumSync st x s
  (x, r1 ++ r2, drumCurves st x (drumCounts st x s))

/-- One Drum step of a Stage, from FCLK 0 to the results held for the next firing. -/
def drumStep (st : Nat) (bad : List (BitVec 32)) (s : State) : State :=
  let (x, r1, s) := drumFront st bad s
  let old := drumState st s
  let live := (drmOf st s).live
  let (r3, s) := drumAuto st x s
  let (r4, s) := drumCommand st x s
  let (x, s) := drumEquations st old (live && drumState st s == dsForm) x s
  let s := satFlags st x.sat s
  let s := setDrm st { drmOf st s with srcWr := false, sawLock := false, sawOff := false } s
  drumPulses st (drumShow st (drumRecords st (r3 ++ r4 ++ r1) s))

/-- CLOSEPERM as the Stage stands (R78). -/
def closePerm (st : Nat) (s : State) : Bool :=
  (drumState st s == dsDeadchk && on (Reg.DRM_SSTAT st) Reg.DRM_SSTAT_DEADOK s)
    || (drumState st s == dsSync && on (Reg.DRM_SSTAT st) Reg.DRM_SSTAT_SYNCOK s)

/-- The level that a GPIO pin carries: the driven level, held at 0 by the close gate of a Stage (R78). -/
def gpioLevel (g : Nat) (s : State) : Bool :=
  s.gpioOut.testBit g && !(List.range 4).any (fun st => hasDrum st s
    && on (Reg.DRM_BRKCFG st) Reg.DRM_BRKCFG_CLOSEEN s && fl (Reg.DRM_BRKCFG st) Reg.DRM_BRKCFG_CLOSEGPIO s == g
    && !on (Reg.DRM_SSTAT st) Reg.DRM_SSTAT_CLOSEPERM s)

/-- The end of the step computation: disabling takes effect, and the close gate follows CLOSEPERM (R61, R78). -/
def drumStepEnd (st : Nat) (s : State) : State :=
  if s.configured && hasDrum st s then
    let s := if (drmOf st s).pendOff then
        let s := setDrm st { drmOf st s with pendOff := false } s
        when (pulsesOn st s) (pulsesOff st 1) s
      else s
    let was := on (Reg.DRM_SSTAT st) Reg.DRM_SSTAT_CLOSEPERM s
    let cp := closePerm st s
    let g := fl (Reg.DRM_BRKCFG st) Reg.DRM_BRKCFG_CLOSEGPIO s
    let s := setB (Reg.DRM_SSTAT st) Reg.DRM_SSTAT_CLOSEPERM cp s
    when (was != cp && on (Reg.DRM_BRKCFG st) Reg.DRM_BRKCFG_CLOSEEN s)
      (emit (.pin "GPIO" g (if gpioLevel g s then 1 else 0) s.lt)) s
  else s

end Sys2Proof.Machine
end

