-- ==== Sys2Proof/Machine/MainsCore.lean ====
section
/-! DEFINITION. The mains code: its frames, the offset that a sender adds to its reference angle, and the detector
(R365-R367). -/

namespace Sys2Proof.Machine

def mcOn (s : State) : Bool := on Reg.SPN_MCFG Reg.SPN_MCFG_EN s
def mcStage (s : State) : Nat := fl Reg.SPN_MCFG Reg.SPN_MCFG_MCSTAGE s
def mcPos (s : State) : Nat := fl Reg.SPN_MCFG Reg.SPN_MCFG_POS s

/-- The Stage of the mains code is in FORM or HEM (codes 4 and 5 of DRM_SSTAT). -/
def mcLive (s : State) : Bool :=
  let k := fl (Reg.DRM_SSTAT (mcStage s)) Reg.DRM_SSTAT_STATE s
  k == 4 || k == 5

def setMc (f : McSt → McSt) (s : State) : State := { s with spn := { s.spn with mc := f s.spn.mc } }

/-- CRC-8 with the polynomial x^8 + x^2 + x + 1 (R366). -/
def crc8 (l : List Nat) : Nat :=
  l.foldl (fun c b => (List.range 8).foldl (fun c _ => if c.testBit 7 then (2 * c % 256) ^^^ 7 else 2 * c % 256) (c ^^^ b)) 0

def mcSync : Nat := 0xF9A8

/-- The 48 bits of a frame: sync, KIND, VALUE, CRC. -/
def mcFrame (s : State) : Nat :=
  let kind := 16 * mcPos s + fl Reg.SPN_MCTX Reg.SPN_MCTX_MSG s
  let v := fl Reg.SPN_MCTX Reg.SPN_MCTX_VALUE s
  mcSync * 2 ^ 32 + kind * 2 ^ 24 + v * 2 ^ 8 + crc8 [kind, v / 256, v % 256]

/-- The swing A in a-counts (0.25 mrad). -/
def mcSwing : Int := 170891

/-- The offset of bit `i` of a frame with its gap. -/
def mcBit (f : Nat) (i : Nat) : Int := if 48 ≤ i then 0 else if f.testBit (47 - i) then mcSwing else -mcSwing

/-- Cycles of a Stage since a frame's first cycle, modulo 2^32. -/
def mcCycles (c0 a : Nat) : Nat := (a / 2 ^ 32 + 2 ^ 32 - c0 % 2 ^ 32) % 2 ^ 32

/-- The offset m at an AT (R366). -/
def mcAngle (x : McSt) (a : Nat) : Int :=
  match x.tx with
  | some (c0, f) =>
    let k := mcCycles c0 a
    if 2 ^ 31 ≤ k then 0
    else
      let v := mcBit f (k / 4)
      if k % 4 = 0 then
        let p := if k = 0 then 0 else mcBit f (k / 4 - 1)
        p + roundDiv ((v - p) * (a % 2 ^ 32 : Nat)) (2 ^ 32)
      else v
  | none =>
    match x.ramp with
    | some (m0, a0) =>
      let d := (a + 2 ^ 64 - a0 % 2 ^ 64) % 2 ^ 64
      if d < 2 ^ 32 then roundDiv (m0 * (2 ^ 32 - d : Nat)) (2 ^ 32) else 0
    | none => 0

/-- The offset that a Stage's reference expander adds to its angle (R45, R366). -/
def mainsOffset (st : Nat) (s : State) : Int :=
  if mcOn s && mcStage s == st then mcAngle s.spn.mc (atOf st s) else 0

/-- A sender follows its frame and gap: a new frame begins with the message as it stands, sending stops after a frame, or the
frame is abandoned when the Stage leaves FORM and HEM (R365, R366). -/
def mainsTick (s : State) : State :=
  let x := s.spn.mc
  match x.tx with
  | none => s
  | some (c0, _) =>
    let a := atOf (mcStage s) s
    let k := mcCycles c0 a
    let off (s : State) : State := setB Reg.SPN_MCSTAT Reg.SPN_MCSTAT_TX false s
    if !mcLive s then off (setMc (fun y => { y with tx := none, stop := false, ramp := some (mcAngle x a, a) }) s)
    else if 2 ^ 31 ≤ k then s
    else if x.stop && decide (196 ≤ k) then off (setMc (fun y => { y with tx := none, stop := false }) s)
    else if 256 ≤ k then setMc (fun y => { y with tx := some ((c0 + 256) % 2 ^ 32, mcFrame s) }) s
    else s

/-! The detector (R367). -/

def mcThr (s : State) : Nat := 64 * (rd Reg.SPN_MCTHR s % 2 ^ 24)

/-- The number of decisions, the newest last. -/
def bitsNat (l : List Bool) : Nat := l.reverse.foldl (fun a b => 2 * a + (if b then 1 else 0)) 0

/-- A decision of the correlator of phase `ph`, with 64 s: it joins the last 16, in and out of a frame; sync is looked for outside
one. -/
def corrBit (ph : Nat) (v : Int) (s : State) : State :=
  let x := s.spn.mc
  let c := Tbl.get .reset x.corr ph
  let b := decide (0 < v)
  let q := v.natAbs
  let put (c : Corr) (s : State) : State := setMc (fun y => { y with corr := Tbl.put ph c y.corr }) s
  let win := ((b, q) :: c.win).take 16
  let sync := win.length = 16 && bitsNat (win.map (·.1)) == mcSync && win.all (fun p => decide (mcThr s ≤ p.2))
  let start := win.foldl (fun a p => min a p.2) (2 ^ 40)
  let begin_ (s : State) : State :=
    if sync then setF Reg.SPN_MCSTAT Reg.SPN_MCSTAT_PHASE ph (put ⟨win, some ([], start)⟩ s) else put ⟨win, none⟩ s
  match c.frame with
  | some (bits, m) =>
    if 2 * q < mcThr s then put ⟨win, none⟩ s
    else
      let bits := b :: bits
      let m := min m q
      if bits.length < 32 then put ⟨win, some (bits, m)⟩ s
      else
        let w := bitsNat bits
        let kind := w / 2 ^ 24
        let val := w / 2 ^ 8 % 2 ^ 16
        let s := begin_ s
        if crc8 [kind, val / 256, val % 256] = w % 256 then setMc (fun y => { y with done := some (kind, val, m / 64) }) s
        else s
  | none => begin_ s

/-- A cycle has ended with the mean angle `a`: the baseline of the 64 cycles before, and the decision that ends here. -/
def mcCycle (c : Nat) (a : Int) (s : State) : State :=
  let x := s.spn.mc
  let base := x.hist.take 64
  let s := setMc (fun y => { y with hist := (a :: y.hist).take 64 }) s
  if base.length < 64 then s
  else
    let d := 64 * a - base.foldl (· + ·) 0
    let ds := (d :: x.diffs).take 3
    let s := setMc (fun y => { y with diffs := ds }) s
    if ds.length < 3 then s else corrBit ((c + 1) % 4) (ds.foldl (· + ·) 0) s

/-- The baseline and every correlator are discarded (R367). -/
def mcForget (s : State) : State := setMc (fun y => { y with hist := [], diffs := [], corr := [] }) s

/-- One Drum step of the mains code's Stage: its bus angle joins the cycle in progress, while the bus measurement block is
valid (R367, R473). A cycle without one valid value has no mean: the detector starts again (DESIGN CHOICE, log entry 142). -/
def mcStep (st : Nat) (s : State) : State :=
  if !mcOn s || mcStage s != st then s
  else if !mcLive s then
    setB Reg.SPN_MCSTAT Reg.SPN_MCSTAT_SYNC false (setB Reg.SPN_STAT Reg.SPN_STAT_UNLINKED false
      (setMc (fun y => { y with cyc := none, sum := 0, num := 0 }) (mcForget s)))
  else
    let c := atOf st s / 2 ^ 32
    let x := s.spn.mc
    let n := if busValid st s then 1 else 0
    let v := if busValid st s then rdI (Reg.DRM_DBUS st) s else 0
    let s := if x.cyc = some c then setMc (fun y => { y with sum := y.sum + v, num := y.num + n }) s
      else
        let s := match x.cyc with
          | some p => if x.num = 0 then mcForget s else mcCycle p (roundDiv x.sum x.num) s
          | none => s
        setMc (fun y => { y with cyc := some c, sum := v, num := n }) s
    setB Reg.SPN_MCSTAT Reg.SPN_MCSTAT_SYNC (s.spn.mc.corr.any (fun p => p.2.frame.isSome)) s

end Sys2Proof.Machine
end

