-- ==== Sys2Proof/Machine/ClockCore.lean ====
section
/-! DEFINITION. References, the band cache and the discipline of the SYSPLL (Clock Synthesis and Time Discipline,
R408-R417), and the clock outputs' status (R419). -/

namespace Sys2Proof.Machine

/-! References and the band cache (R410, R413). -/

def entryOn (k : Nat) (s : State) : Bool := on (Reg.CLK_CKEY k) Reg.CLK_CKEY_EN s
def entryValid (k : Nat) (s : State) : Bool := on (Reg.CLK_CSTAT k) Reg.CLK_CSTAT_VALID s

/-- An entry's reference: its source and its nominal frequency in kHz. -/
def entryRef (k : Nat) (s : State) : Nat × Nat :=
  (fl (Reg.CLK_CKEY k) Reg.CLK_CKEY_SRC s, fl (Reg.CLK_CKEY k) Reg.CLK_CKEY_FREQ s)

/-- A reference is present: XTAL and REFIN as the bits of `refs` say of the nominal frequency of the entry, a span port's clock
while its link is up and it has not been found lost since the link came up (log entry 207). -/
def refPresent (k refs : Nat) (s : State) : Bool :=
  match fl (Reg.CLK_CKEY k) Reg.CLK_CKEY_SRC s with
  | 0 => refs.testBit 0
  | 1 => refs.testBit 1
  | n => decide (n < 6) && bitAt (Reg.SPN_PSTAT (n - 2)) 0 s && !s.clk.spLost.testBit (n - 2)

/-- The junction temperature in °C + 40. -/
def tjCode (s : State) : Nat := (clampI 0 255 (signed 16 (rd Reg.PWR_TJ s % 2 ^ 16) / 16 + 40)).toNat

/-- Entries searched at a temperature more than 40 °C away from PWR_TJ, which holds sixteenths, are cleared. -/
def ageCache (s : State) : State :=
  each ((List.range 16).filter (fun k => entryOn k s && entryValid k s))
    (fun k s =>
      let d : Int := 16 * ((fl (Reg.CLK_CSTAT k) Reg.CLK_CSTAT_TSRCH s : Int) - 40) - signed 16 (rd Reg.PWR_TJ s % 2 ^ 16)
      when (decide (640 < d.natAbs)) (wr (Reg.CLK_CSTAT k) 0) s) s

/-- A search of an entry ends. -/
def searchEnd (k band : Nat) (s : State) : State :=
  let s := ageCache s
  if s.configured && entryOn k s && !entryValid k s then
    setB (Reg.CLK_CSTAT k) Reg.CLK_CSTAT_VALID true (setF (Reg.CLK_CSTAT k) Reg.CLK_CSTAT_BAND band
      (setF (Reg.CLK_CSTAT k) Reg.CLK_CSTAT_TSRCH (tjCode s) s))
  else s

/-! Loss and hops (R411-R414). -/

def clkFlag (F : Fld) (s : State) : State := setB Reg.CLK_EVT F true s
def hopping (s : State) : Bool := s.clk.hop.isSome

def hopTo (k : Nat) (auto_ : Bool) (s : State) : State :=
  setB Reg.CLK_STAT Reg.CLK_STAT_HOPPING true (setB Reg.CLK_STAT Reg.CLK_STAT_HOLD true
    { s with clk := { s.clk with hop := some (k, auto_) } })

def hopStop (s : State) : State :=
  setB Reg.CLK_STAT Reg.CLK_STAT_HOPPING false { s with clk := { s.clk with hop := none } }

/-- The fallback entries in their order. -/
def fallbacks (s : State) : List Nat :=
  let w := rd Reg.CLK_CFG s
  ((List.range 3).filter (fun i => w.testBit (16 + i))).map (fun i => w / 2 ^ (4 + 4 * i) % 16)

/-- The reference of a hop in progress, or that in use, is lost. A hop requested in the same FCLK counts as refused (R414). -/
def referenceLoss (refs : Nat) (s : State) : State :=
  let gone := match s.clk.hop with
    | some (k, _) => entryRef k s
    | none => s.clk.ref
  let late := match s.clk.hop with
    | some (_, auto_) => !auto_ && s.clk.hopAt == some s.lt
    | none => false
  let s := when late (clkFlag Reg.CLK_EVT_HOPREF) s
  let s := ageCache (setB Reg.CLK_STAT Reg.CLK_STAT_HOLD true (clkFlag Reg.CLK_EVT_REFLOSS (hopStop s)))
  let s := { s with clk := { s.clk with lossAt := some s.lt,
                                        spLost := if gone.1 < 2 then s.clk.spLost else setBit s.clk.spLost (gone.1 - 2) true } }
  match (fallbacks s).find? (fun k => entryOn k s && refPresent k refs s && entryRef k s != gone) with
  | some k => hopTo k true s
  | none => record 10 1 0x200 none s

/-- CLK_HOPREQ: accepted or refused. -/
def hopRequest (k refs : Nat) (s : State) : State :=
  let s := ageCache s
  if hopping s || !entryOn k s || !refPresent k refs s || s.clk.lossAt == some s.lt then clkFlag Reg.CLK_EVT_HOPREF s
  else hopTo k false { s with clk := { s.clk with hopAt := some s.lt } }

/-- A hop to a VALID entry has re-acquired phase. -/
def hopComplete (s : State) : State :=
  match s.clk.hop with
  | none => s
  | some (k, auto_) =>
    if !entryValid k s then s
    else
      let s := setF Reg.CLK_STAT Reg.CLK_STAT_ENTRY k (setB Reg.CLK_STAT Reg.CLK_STAT_HOLD false
        (hopStop { s with clk := { s.clk with ref := entryRef k s } }))
      record 10 0 (if auto_ then 0x100 + k else k) none (clkFlag Reg.CLK_EVT_HOP s)

/-! Discipline (R415-R417). -/

/-- The error source in use: 0 none, 1 CT, 2 PAIR. -/
def discSource (s : State) : Nat :=
  let follow := paired s && (roleOf s == roleSyncing || roleOf s == roleStandby)
  match rd Reg.CLK_CFG s % 4 with
  | 0 => 0
  | 1 => 1
  | 2 => if follow then 2 else 0
  | _ => if follow then 2 else 1

def slewRate (s : State) : Nat := rd Reg.CLK_SLEW s % 2 ^ 10
/-- YMAX in units of 2^-36. -/
def yMax (s : State) : Int := roundDiv ((rd Reg.CLK_SLEW s / 2 ^ 10 % 2 ^ 6 : Nat) * 2 ^ 36) (10 ^ 6)
def discBand (s : State) : Nat := rd Reg.CLK_SLEW s / 2 ^ 16 % 2 ^ 8
def discTf (s : State) : Nat := max 1 (rd Reg.CLK_SLEW s / 2 ^ 24)

/-- The profile term for an error of `e` eu, in units of 2^-36: sign(e) min(YMAX, √(2 RATE |e|)). -/
def profileTerm (e : Int) (s : State) : Int :=
  if e.natAbs ≤ discBand s then 0
  else
    let r : Int := (sqrtNear (2 * slewRate s * e.natAbs * 2 ^ 72 / (10 ^ 6 * 8 * 10 ^ 9)) : Nat)
    let p := min (yMax s) r
    if e < 0 then -p else p

/-- An error sample of a source (R416); one of a source not in use does nothing. -/
def discSample (src : Nat) (e : Int) (s : State) : State :=
  if discSource s != src then s
  else
    let yf := rdI Reg.CLK_YF s
    let yf' := match s.clk.prev with
      | some (p, e0, t0) =>
        if p = src then
          let dt : Int := (s.lt - t0 : Nat)
          yf + roundDiv ((e - e0) * 2 ^ 36 - yf * dt) (discTf s * 8 * 10 ^ 9)
        else yf
      | none => yf
    let y := yf' + profileTerm e s
    let t := clampI (-(yMax s)) (yMax s) y
    let lim := t != y
    let s := when (lim && !s.clk.limRun) (record 11 0 0 none) s
    let s := when lim (clkFlag Reg.CLK_EVT_YLIM) s
    wrI Reg.CLK_YTGT t (wrI Reg.CLK_YF yf' { s with clk := { s.clk with prev := some (src, e, s.lt), limRun := lim } })

/-- The error source that gives fresh errors (R415): CT while TRACKING, PAIR while the pair link is up (log entry
132). -/
def freshSource (s : State) : Nat :=
  let src := discSource s
  if (src == 1 && !on Reg.BOB_CTSTAT Reg.BOB_CTSTAT_TRACKING s) || (src == 2 && !on Reg.PAR_STAT Reg.PAR_STAT_PLINK s) then 0
  else src

/-- The ramp of y (R415, R416), once per microsecond: with DISCSRC NONE the target is 0, and without a fresh error y_f. -/
def yRamp (s : State) : State :=
  let src := freshSource s
  let s := setF Reg.CLK_STAT Reg.CLK_STAT_ESRC src s
  let s := if rd Reg.CLK_CFG s % 4 = 0 then wrI Reg.CLK_YTGT 0 s
    else if src = 0 then
      wrI Reg.CLK_YTGT (clampI (-(yMax s)) (yMax s) (rdI Reg.CLK_YF s)) s
    else s
  let t := rdI Reg.CLK_YTGT s * 10 ^ 12
  let d : Int := (slewRate s : Int) * 2 ^ 36
  let y := clampI (s.clk.y - d) (s.clk.y + d) t
  wrI Reg.CLK_Y (roundDiv y (10 ^ 12)) { s with clk := { s.clk with y := y, rampAt := some s.lt } }

/-- A microsecond has passed since the last step of the ramp. -/
def rampDue (s : State) : Bool :=
  s.configured && match s.clk.rampAt with
    | some t => decide (t + us ≤ s.lt)
    | none => true

/-! Clock outputs (R419). -/

def outOn (n : Nat) (s : State) : Bool := bitAt (Reg.CLK_OCFG n) 0 s
def outSrc (n : Nat) (s : State) : Nat := fl (Reg.CLK_OCFG n) ⟨3, 2⟩ s

/-- A level of an output's pair: _N is the complement in the differential formats, and held low in LVCMOS. -/
def outLevel (n lvl t : Nat) (s : State) : State :=
  let s := emit (.pin "CLKOUT" n lvl t) s
  if fl (Reg.CLK_OCFG n) ⟨1, 2⟩ s < 2 then emit (.pin "CLKOUT_N" n (1 - lvl) t) s else s

/-- The first period boundary of a DIV output after the FCLK of configuration completion. -/
def divFirst (n : Nat) (s : State) : Nat :=
  let per := 2 * fl (Reg.CLK_OCFG n) ⟨5, 13⟩ s
  ceilDiv (s.cc + fclk) (max 1 per) * per

/-- The edges of a DIV output in this FCLK, from its first boundary on: it rises at the multiples of its period, and falls half a
period later (log entry 208). -/
def divEdges (n : Nat) (s : State) : List (Nat × Nat) :=
  let div := fl (Reg.CLK_OCFG n) ⟨5, 13⟩ s
  let first := divFirst n s
  ((List.range fclk).map (s.lt + ·)).filterMap (fun t =>
    if div = 0 || t < first then none
    else if (t - first) % (2 * div) = 0 then some (1, t)
    else if (t - first) % (2 * div) = div then some (0, t)
    else none)

/-- A REF output passes the reference in use through: shown when it starts, and when a hop has changed the source. -/
def refThru (n : Nat) (s : State) : State :=
  if Tbl.get 0 s.clk.thru n = s.clk.ref.1 + 1 then s
  else emit (.refClock n s.clk.ref.1 s.lt) { s with clk := { s.clk with thru := Tbl.put n (s.clk.ref.1 + 1) s.clk.thru } }

/-- The clock outputs in an FCLK: an output drives from its first period boundary after configuration completion; CTPPS is withheld
without an anchor. -/
def clkOuts (s : State) : State :=
  if !s.configured then s
  else each ((List.range 6).filter (fun n => outOn n s)) (fun n s =>
    let anch := on Reg.BOB_CTSTAT Reg.BOB_CTSTAT_ANCHORED s
    let run := match outSrc n s with
      | 0 => decide (divFirst n s ≤ s.lt)
      | 1 => true
      | _ => anch
    let ran := bitAt (Reg.CLK_OSTAT n) 0 s
    let s := setBitAt (Reg.CLK_OSTAT n) 0 run (setBitAt (Reg.CLK_OSTAT n) 1 (outSrc n s == 2 && !anch) s)
    match outSrc n s with
    | 0 => each (divEdges n s) (fun e s => outLevel n e.1 e.2 s) s
    | 1 => refThru n s
    | _ => when (run && !ran) (outLevel n 0 s.lt) s) s

end Sys2Proof.Machine
end

