-- ==== Sys2Proof/Machine/CycleCore.lean ====
section
/-! DEFINITION. The cycle engine: dispatch of tasks, the error task, stations, restart, patches and forces (The Cycle Engine
and Cycle Programs, R319-R338). Task 16 is the error task. -/

namespace Sys2Proof.Machine

/-! Tasks (R322, R323). -/

def errTask : Nat := 16
def taskOf (t : Nat) (s : State) : TaskSt := Tbl.get .reset s.cyc.tasks t
def setTask (t : Nat) (x : TaskSt) (s : State) : State :=
  let s := { s with cyc := { s.cyc with tasks := Tbl.put t x s.cyc.tasks } }
  when (decide (t < 16)) (setF (Reg.CYC_TSTAT t) ⟨0, 2⟩ x.state) s
def setRun (t : Nat) (s : State) : State := setF Reg.CYC_STAT Reg.CYC_STAT_RUN t s
def runNone : Nat := 0x1F
def runOf (s : State) : Nat := fl Reg.CYC_STAT Reg.CYC_STAT_RUN s
def restarting (s : State) : Bool := on Reg.CYC_STAT Reg.CYC_STAT_RESTART s
def halted (s : State) : Bool := on Reg.CYC_STAT Reg.CYC_STAT_HALTED s
def cycFlag (F : Fld) (s : State) : State := setB Reg.CYC_EVT F true s

/-- No task is running, preempted or in a copy. -/
def cycIdle (s : State) : Bool := (List.range 17).all (fun t => (taskOf t s).state < 2)

/-- Tasks in descending priority: the error task is above T0, T0 above T15. -/
def taskOrder : List Nat := errTask :: List.range 16

/-! Segments. -/

def segsOf (s : State) : List Seg := s.cyc.prog.segs
def segHas (g : Seg) (a n : Nat) : Bool := inRange g.base g.len a n
def segAt (a n : Nat) (s : State) : Option Seg := (segsOf s).find? (fun g => segHas g a n)

/-- Variable segments: those of the tasks, SHARED and RETAIN. -/
def segVars (g : Seg) : Bool := g.kind == .vars || g.kind == .shared || g.kind == .retain
def segImage (g : Seg) : Bool := g.kind == .inputs || g.kind == .outputs
def retainSeg (s : State) : Option Seg := (segsOf s).find? (fun g => g.kind == .retain)

/-! Stores of the program and forces (R337). -/

def forceOf (i : Nat) (s : State) : Option Force := Tbl.get none s.cyc.forces i
def setForce (i : Nat) (x : Option Force) (s : State) : State :=
  let s := { s with cyc := { s.cyc with forces := Tbl.put i x s.cyc.forces } }
  setF Reg.CYC_FSTAT Reg.CYC_FSTAT_COUNT ((List.range 64).filter (fun k => (forceOf k s).isSome)).length s

/-- The entry of a force in force at an address. -/
def forceAt (a : Nat) (s : State) : Option Nat :=
  (List.range 64).find? (fun i => match forceOf i s with
    | some f => f.active && f.addr == a
    | none => false)

/-- A byte that a force holds. -/
def forcedByte (a : Nat) (s : State) : Bool :=
  s.cyc.forces.any (fun p => match p.2 with
    | some f => f.active && inRange f.addr f.len a 1
    | none => false)

/-- A store by the program or by an input copy: bytes under a force are discarded, and stores to RETAIN on a unit that does
not act (R372). -/
def progStore (a n v : Nat) (s : State) : State :=
  if !acting s && inRetain a 1 then s
  else each ((List.range n).filter (fun i => !forcedByte (a + i) s)) (fun i => stN (a + i) 1 (v / 256 ^ i)) s

/-- What the program may store to: data SRAM, RETAIN, Hamper SRAM and the DRAM present (R296). -/
def progData (a n : Nat) (s : State) : Bool :=
  inData a n || inRange retainBase 0x20000 a n || inHamp a n || inDram a n s

/-- The memory words a run has stored; a masked cycle engine stores none (R301). -/
def taskWrites (l : List (BitVec 32 × BitVec 32)) (s : State) : State :=
  if masked 1 s then s else each (l.filter (fun p => progData p.1.toNat 4 s)) (fun p => progStore p.1.toNat 4 p.2.toNat) s

/-- A SET takes effect (R337). -/
def forceApply (i : Nat) (s : State) : State :=
  match forceOf i s with
  | none => s
  | some f =>
    if !f.setting then s
    else
      let u := if f.active then f.uval else ldN f.addr f.len s
      record 27 0 i none (cycFlag Reg.CYC_EVT_FORCE
        (stN f.addr f.len f.fval (setForce i (some { f with active := true, setting := false, uval := u }) s)))

/-- A RELEASE takes effect (R337). -/
def forceDrop (i : Nat) (s : State) : State :=
  match forceOf i s with
  | none => s
  | some f =>
    let s := setForce i none s
    let s := when (f.active && f.patched) (stN f.addr f.len f.uval) s
    record 27 0 (0x100 + i) none (cycFlag Reg.CYC_EVT_FORCE s)

/-- The forces whose SET waits for the start of a task's run (0x1F: ALL). -/
def forcesDue (t : Nat) (s : State) : List Nat :=
  (List.range 64).filter (fun i => match forceOf i s with
    | some f => f.setting && f.task == t
    | none => false)

/-! The input copy (R323, R328). -/

/-- A word of a station's input block, and of its output block. -/
def stnKey (sn w : Nat) : Nat := 512 * sn + w
def stnPresent (sn : Nat) (s : State) : Bool := on (Reg.CYC_SSTAT sn) ⟨0, 1⟩ s

/-- A register as the cycle engine reads it: BOB_LT_LO and BOB_AT_LO latch their pairs (R31, R447). -/
def cycRead (a : Nat) (s : State) : Nat × State :=
  let s := if a = Reg.BOB_LT_LO then wr64 Reg.BOB_LT_LO Reg.BOB_LT_HI s.lt s
    else match (List.range 4).find? (fun st => Reg.BOB_AT_LO st == a) with
      | some st =>
        wr64 (Reg.BOB_ATLT_LO st) (Reg.BOB_ATLT_HI st) s.lt
          (wr64 (Reg.BOB_AT_LO st) (Reg.BOB_AT_HI st) (if hasAngle st s then atOf st s else 0) s)
      | none => s
  ((readWord a s).toNat, useStore a s)

/-- One input entry: a lane gives its value and, in the next word, its VALID bit. -/
def inputEntry (e : InSrc × Nat) (s : State) : State :=
  let put (v : Nat) (s : State) : State := progStore e.2 4 v s
  match e.1 with
  | .reg a => let (v, s) := cycRead a s; put v s
  | .lane l =>
    let v := ((laneOf l s).last.map (·.v)).getD 0
    progStore (e.2 + 4) 4 (fl (Reg.RNS_LSTAT l) Reg.RNS_LSTAT_VALID s) (put (BitVec.ofInt 32 v).toNat s)
  | .gpio n => put (if s.gpioIn.testBit n then 1 else 0) s
  | .status sn => put (if stnPresent sn s then 1 else 0) s
  | .station sn w subst =>
    put (match stnPresent sn s, subst with
      | false, some v => v
      | _, _ => Tbl.get 0 s.cyc.stnIn (stnKey sn w)) s

def inputCopy (t : Nat) (s : State) : State := each (Tbl.get [] s.cyc.prog.ins t) inputEntry s

/-! Dispatch (R322). -/

/-- A preempted task's registers go to its save area; the values are the cores' own. -/
def saveArea (t : Nat) (s : State) : State :=
  match (segsOf s).find? (fun g => g.kind == .save && g.task == t) with
  | none => s
  | some g => each (List.range 64) (fun i s => let (v, s) := fresh s; stN (g.base + 4 * i) 4 (v.toNat % 2 ^ 32) s) s

/-- A patch or a force release is due at the boundary that has come: it comes between two instructions of no task (R335). -/
def boundaryDue (s : State) : Bool :=
  s.cyc.patch.any (fun p => p.ripe) || (List.range 64).any (fun i => (forceOf i s).any (fun f => f.release.isSome && f.ripe))

/-- The highest-priority task that is pending, running or preempted runs: a task that begins takes its forces and its input
copy first (log entry 165). -/
def cycDispatch (s : State) : State :=
  if restarting s || halted s || s.cyc.due.isSome || boundaryDue s then s
  else match taskOrder.find? (fun t => (taskOf t s).state != 0) with
    | none => setRun runNone s
    | some t =>
      if runOf s = t then s
      else
        let c := runOf s
        let s := when (c != runNone && (taskOf c s).state == 2)
          (fun s => saveArea c (setTask c { taskOf c s with state := 3 } s)) s
        let fresh := (taskOf t s).state == 1
        let s := setRun t (setTask t { taskOf t s with state := 2 } s)
        when fresh (fun s => inputCopy t (each (forcesDue t s) forceApply s)) s

/-! The error task's causes (R326). -/

def cSdrop : Nat := 1
def cSback : Nat := 2
def cExcept : Nat := 3
def cOver : Nat := 4

def setCauses (l : List (Nat × Nat)) (s : State) : State :=
  setF Reg.CYC_ECAUSE Reg.CYC_ECAUSE_QUEUED (min 15 l.length) { s with cyc := { s.cyc with causes := l } }

/-- A cause is queued: merged with an equal one, dropped and counted when sixteen wait. -/
def errorCause (kind i : Nat) (s : State) : State :=
  if s.cyc.causes.contains (kind, i) then s
  else if 16 ≤ s.cyc.causes.length then bump Reg.CYC_ECAUSE Reg.CYC_ECAUSE_DROP 1 s
  else setCauses (s.cyc.causes ++ [(kind, i)]) s

/-- The device calls the error task with the next cause. -/
def errorCall (s : State) : State :=
  match s.cyc.causes with
  | [] => s
  | (k, i) :: t =>
    if (taskOf errTask s).state != 0 || restarting s || halted s || s.cyc.due.isSome then s
    else
      let s := setF Reg.CYC_ECAUSE Reg.CYC_ECAUSE_KIND k (setF Reg.CYC_ECAUSE Reg.CYC_ECAUSE_INDEX i (setCauses t s))
      cycDispatch (setTask errTask ⟨1, nowF s, false⟩ s)

/-- A program fault of a cyclic task (R327): its counter, whose overflow calls the error task and grades the Stages of
CYC_TCFG.STAGES. -/
def programFault (t : Nat) (s : State) : State :=
  if 16 ≤ t then s
  else upsetThen (ctrId 13 t 0) (fun s =>
    errorCause cOver t (gradeG3All (bitsOf 4 (rd (Reg.CYC_TCFG t) s / 16 % 16)) none s)) s

/-! Starts, ends and faults of runs (R320, R323, R324). -/

def taskEnabled (t : Nat) (s : State) : Bool := (fl Reg.CYC_CFG Reg.CYC_CFG_TEN s).testBit t

/-- A START_TASK firing for a task. -/
def taskStart (t : Nat) (s : State) : State :=
  if restarting s || halted s || s.cyc.due.isSome || !taskEnabled t s then s
  else if (taskOf t s).state != 0 then
    programFault t (record 24 1 t none (bump (Reg.CYC_TOVR t) ⟨0, 16⟩ 1 (cycFlag Reg.CYC_EVT_OVERRUN s)))
  else cycDispatch (setTask t ⟨1, nowF s, false⟩ s)

/-- A run has ended or been aborted: the task is idle and the next one runs. -/
def taskIdle (t : Nat) (s : State) : State :=
  let s := setTask t { taskOf t s with state := 0 } s
  when (runOf s == t) (setRun runNone) s

/-- The end of a task's output copy: its response time, the boundary of patches and forces, and a restart that it has
requested (R325, R331, R335, R337). -/
def taskFinish (t : Nat) (s : State) : State :=
  let r := min (2 ^ 24 - 1) (nowF s - (taskOf t s).start)
  let s := when (decide (t < 16)) (fun s =>
    setF (Reg.CYC_TMAX t) ⟨0, 24⟩ (max r (fl (Reg.CYC_TMAX t) ⟨0, 24⟩ s)) (setF (Reg.CYC_TLAST t) ⟨0, 24⟩ r s)) s
  let s := taskIdle t s
  let c := s.cyc
  let ripe (f : Force) : Force := if f.release == some t then { f with ripe := true } else f
  let s := { s with cyc := { c with
    forces := c.forces.map (fun p => (p.1, p.2.map ripe))
    patch := c.patch.map (fun p => if p.task = t then { p with ripe := true } else p) } }
  let s := match c.rcmd with
    | some (k, w) => if w = t then { s with cyc := { s.cyc with due := some k, rcmd := none } } else s
    | none => s
  cycDispatch s

/-- A run ends without an output copy (R320, R324). -/
def taskAbort (t : Nat) (s : State) : State := cycDispatch (taskIdle t s)

/-- The FCLK by which a run must have ended its output copy. -/
def taskLimit (t : Nat) (s : State) : Nat :=
  (taskOf t s).start + (if t < 16 then rd (Reg.CYC_TDL t) s % 2 ^ 24 else rd Reg.CYC_ETDL s % 2 ^ 24)

/-- A run has not ended by its deadline (R324, R326): EV24 once; under ABORT it ends without an output copy, and the variables that
it has written, even where it is preempted, keep their values. -/
def taskDeadline (t : Nat) (writes : List (BitVec 32 × BitVec 32)) (s : State) : State :=
  let x := taskOf t s
  if x.state = 0 || x.missed || nowF s < taskLimit t s then s
  else
    let s := cycFlag Reg.CYC_EVT_OVERRUN (setTask t { x with missed := true } s)
    if t < 16 then
      let s := programFault t (record 24 1 (0x100 + t) none (bump (Reg.CYC_TOVR t) ⟨16, 16⟩ 1 s))
      if on (Reg.CYC_TCFG t) ⟨0, 1⟩ s then taskAbort t (when (1 < x.state) (taskWrites writes) s) else s
    else record 24 1 0x1FF none s

/-- An exception in the running task (R320, R326). -/
def taskException (t : Nat) (writes : List (BitVec 32 × BitVec 32)) (s : State) : State :=
  if (taskOf t s).state != 2 || halted s then s
  else
    let s := cycFlag Reg.CYC_EVT_EXCEPT (taskWrites writes s)
    if t < 16 then
      taskAbort t (programFault t (errorCause cExcept t (record 31 1 t none s)))
    else
      taskAbort t (under 31 t (gradeG4 none) (record 31 4 t none s))

/-- After a patch, a force release or a restart the dispatcher goes on, within the time of R322. -/
def cycResume (s : State) : State :=
  when (runOf s == runNone && (List.range 17).any (fun t => (taskOf t s).state != 0)) cycDispatch s

/-! Lockstep (R319). -/

def coreCause : Cause := ⟨28, 0⟩

/-- The cores differ: both halt, so that no task executes (log entry 161), EV28 graded G4, and the counter. -/
def lockstepMismatch (s : State) : State :=
  if halted s then s
  else
    let s := setB Reg.CYC_STAT Reg.CYC_STAT_HALTED true (setRun runNone { s with cyc := { s.cyc with halted := some s.lt } })
    let s := record 28 4 0 none s
    under 28 0 (fun s =>
      gradeG4 (some coreCause) (upsetThen (ctrId 13 0 1) (fun s => { s with cyc := { s.cyc with stays := true } }) s)) s

/-- 1 ms after the halt a warm restart is due, unless the counter has overflowed. -/
def lockstepRestart (s : State) : State :=
  match s.cyc.halted with
  | some h =>
    if s.cyc.stays || s.lt < h + ms then s
    else { s with cyc := { s.cyc with halted := none, due := some 1 } }
  | none => s

/-! Stations (R328, R329). -/

def stnUsed (sn : Nat) (s : State) : Bool := bitAt (Reg.CYC_SCFG sn) 18 s
def stnAddr (sn : Nat) (s : State) : Nat := rd (Reg.CYC_SCFG sn) s % 2 ^ 18

def setPresent (sn : Nat) (b : Bool) (s : State) : State :=
  let s := setB (Reg.CYC_SSTAT sn) ⟨0, 1⟩ b s
  if sn < 32 then setBitAt Reg.CYC_STNSTAT0 sn b s else setBitAt Reg.CYC_STNSTAT1 (sn - 32) b s

/-- A station without a valid frame for WDOG cycles is dropped. -/
def stationDrop (sn : Nat) (s : State) : State :=
  let w := rd (Reg.CYC_SCFG sn) s / 2 ^ 19 % 16
  if stnUsed sn s && stnPresent sn s && decide (w ≤ Tbl.get 0 s.cyc.missed sn) then
    let s := bump (Reg.CYC_SSTAT sn) ⟨16, 16⟩ 1 (setPresent sn false s)
    let s := { s with cyc := { s.cyc with good := Tbl.put sn 0 s.cyc.good } }
    errorCause cSdrop sn (record 25 0 sn none (cycFlag Reg.CYC_EVT_STATION s))
  else s

/-- A valid input frame of a station: its block, and the return of a dropped station with the NRETth (R332; log entry 163). -/
def stationFrame (sn : Nat) (words : List Nat) (s : State) : State :=
  let g := Tbl.get 0 s.cyc.good sn + 1
  let s := { s with cyc := { s.cyc with good := Tbl.put sn g s.cyc.good, missed := Tbl.put sn 0 s.cyc.missed,
                                        seen := if s.cyc.seen.contains sn then s.cyc.seen else s.cyc.seen ++ [sn] } }
  let back := !stnPresent sn s && decide (rd (Reg.CYC_SCFG sn) s / 2 ^ 23 % 16 ≤ g)
  let s := when (stnPresent sn s || back) (fun s =>
    { s with cyc := { s.cyc with
      stnIn := (words.zipIdx).foldl (fun m p => Tbl.put (stnKey sn p.2) p.1 m) s.cyc.stnIn } }) s
  if back then
    errorCause cSback sn (record 25 0 (0x100 + sn) none (cycFlag Reg.CYC_EVT_STATION (setPresent sn true s)))
  else s

/-- A cluster cycle ends: stations in use without a frame in it have missed one. -/
def stationCycle (s : State) : State :=
  let l := (List.range 64).filter (fun sn => stnUsed sn s && !s.cyc.seen.contains sn)
  let s := each l (fun sn s => { s with cyc := { s.cyc with
    missed := Tbl.put sn (Tbl.get 0 s.cyc.missed sn + 1) s.cyc.missed, good := Tbl.put sn 0 s.cyc.good } }) s
  { s with cyc := { s.cyc with seen := [] } }

/-! Restart (R330-R332). -/

def kWarm : Nat := 1
def kCold : Nat := 2

/-- The writer of a command as a task: the error task writes as 17; none for the test port. -/
def writerTask (w : Nat) : Option Nat := if w < 16 then some w else if w = 17 then some errTask else none

/-- CYC_RCMD: a restart at the end of the writing task's output copy; from the test port, at once. -/
def restartRequest (kind w : Nat) (s : State) : State :=
  match writerTask w with
  | some t => { s with cyc := { s.cyc with rcmd := some (kind, t) } }
  | none => { s with cyc := { s.cyc with due := some kind } }

def patchRefuse (cause : Nat) (s : State) : State :=
  record 26 0 (0x8000 + cause) none (cycFlag Reg.CYC_EVT_PATCH (setF Reg.CYC_PSTAT Reg.CYC_PSTAT_CAUSE cause s))

/-- The pending patch is discarded with a cause. -/
def patchDiscard (cause : Nat) (s : State) : State :=
  match s.cyc.patch with
  | none => s
  | some _ => patchRefuse cause (setB Reg.CYC_PSTAT Reg.CYC_PSTAT_PEND false { s with cyc := { s.cyc with patch := none } })

/-- A restart begins; an engine whose lockstep counter has overflowed stays halted (R319, R327). -/
def restartBegin (s : State) : State :=
  match s.cyc.due with
  | none => s
  | some k =>
    if s.cyc.stays && halted s then s else
    let s := { s with cyc := { s.cyc with due := none, rcmd := none, kind := k, tasks := [], halted := none } }
    let s := each (List.range 16) (fun t s => wr (Reg.CYC_TMAX t) 0 (wr (Reg.CYC_TSTAT t) 0 s)) s
    let s := setB Reg.CYC_STAT Reg.CYC_STAT_HALTED false (setB Reg.CYC_STAT Reg.CYC_STAT_RESTART true (setRun runNone s))
    let s := dropCause coreCause s
    let s := ownerSideband (fun w => decide (w < 16) || w == 17) s
    patchDiscard 7 (each ((List.range 64).filter (fun i => (forceOf i s).isSome)) forceDrop s)

/-- The retain image in use (R433): PWR_SAVESTAT.CUR names its sector. -/
def curB (s : State) : Bool := on Reg.PWR_SAVESTAT ⟨0, 1⟩ s
def curSector (s : State) : Sector := if curB s then s.nv.sectB else s.nv.sectA

/-- The kind that a warm restart takes, with the DETAIL of EV30, and the bytes of RETAIN (R330). -/
def warmImage (s : State) : Nat × List Byte :=
  match curSector s with
  | .saved _ b inc d => if b ≠ rd Reg.CYC_BUILDID s then (2, []) else if inc then (3, []) else (0, d)
  | _ => (1, [])

/-- Initial values of a segment, copied from program SRAM. -/
def segInit (g : Seg) (s : State) : State :=
  match g.init with
  | none => s
  | some a => stBytes g.base (ldBytes a g.len s) s

/-- A restart completes. -/
def restartComplete (s : State) : State :=
  if !restarting s then s
  else
    let (why, data) := warmImage s
    let warm := s.cyc.kind == kWarm && why == 0
    let s := each ((segsOf s).filter (fun g => g.kind == .vars || g.kind == .shared || segImage g)) segInit s
    let s := match retainSeg s with
      | none => s
      | some g => if warm then stBytes g.base (data.take g.len) s else segInit g s
    let s := setB Reg.SYS_GFSTAT Reg.SYS_GFSTAT_CYC true
      (setB Reg.CYC_STAT Reg.CYC_STAT_COLD (!warm) (setB Reg.CYC_STAT Reg.CYC_STAT_RESTART false s))
    let s := if paired s && warm then
        let s := { s with par := { s.par with g4 := false } }
        if roleOf s != roleFenced then s
        else if on Reg.PAR_STAT Reg.PAR_STAT_HEALTHY s then enterSyncing s
        else { s with par := { s.par with restarted := true } }
      else s
    if warm then record 29 0 0 none s else record 30 0 (if s.cyc.kind = kWarm then why else 0) none s

/-! The retain snapshot (R333). -/

def snapBase : Nat := 0x00320000

/-- RETAIN is copied to the snapshot range at the first FCLK without a task mid-run, or 200 µs after the warning. -/
def retainSnapshot (s : State) : State :=
  match s.pwr.warnAt, s.pwr.snap with
  | some w, none =>
    let idle := cycIdle s
    if !idle && s.lt < w + 200 * us then s
    else
      let (a, l) := match retainSeg s with
        | some g => (g.base, ldBytes g.base g.len s)
        | none => (retainBase, [])
      let s := setB Reg.CYC_STAT Reg.CYC_STAT_SNAPINC (!idle) (stBytes (a - retainBase + snapBase) l s)
      { s with pwr := { s.pwr with snap := some (s.lt, l) } }
  | _, _ => s

/-! Patches (R334, R335). -/

def bTaskAll : Nat := 0x1F

/-- CYC_PCMD SUBMIT: validation starts. While one runs, the SUBMIT is refused at once with cause 5, ahead of the causes that a
validation finds (DESIGN CHOICE, log entry 136). -/
def patchSubmit (s : State) : State :=
  if s.cyc.sub.isSome then patchRefuse 5 s
  else setB Reg.CYC_PSTAT Reg.CYC_PSTAT_BUSY true { s with cyc := { s.cyc with sub := some (s.lt, rd Reg.CYC_PADDR s) } }

/-- The width of an entry in bytes, 0 for a bad one. -/
def widthBytes (w : Nat) : Nat := if w = 8 then 1 else if w = 16 then 2 else if w = 32 then 4 else if w = 64 then 8 else 0

/-- The ownership rule of R334: below ALL, neither CONST, SHARED nor another task's segment; RETAIN belongs to no task (DEDUCED,
log entry 162). -/
def segOwned (g : Seg) (t : Nat) : Bool :=
  t == bTaskAll || (decide (t < 16) && (g.kind == .retain || ((g.kind == .vars || segImage g) && g.task == t)))

/-- The refusal of a record by the rules of R334 in their order, 0 for none; its boundary task and entries. -/
def patchCheck (addr : Nat) (s : State) : Nat × Nat × List (Nat × Nat × Nat) :=
  let build := ldN addr 4 s
  let n := ldN (addr + 4) 4 s
  let task := ldN (addr + 8) 4 s
  let body := (ldBytes (addr + 16) (12 * min n 32) s).map (·.toNat)
  let es := (List.range (min n 32)).map (fun i =>
    let (a, w, v) := Config.patchEntry ((body.drop (12 * i)).take 12)
    (a, widthBytes w, v))
  let place (e : Nat × Nat × Nat) : Option Seg :=
    if e.2.1 = 0 || e.1 % e.2.1 ≠ 0 then none
    else (segsOf s).find? (fun g => (g.kind == .const || segVars g) && segHas g e.1 e.2.1)
  let own (e : Nat × Nat × Nat) : Bool := match place e with
    | some g => segOwned g task
    | none => true
  let c := if build ≠ rd Reg.CYC_BUILDID s then 1
    else if n = 0 || 32 < n || crc32 body ≠ ldN (addr + 12) 4 s then 2
    else if !es.all (fun e => (place e).isSome) then 3
    else if !es.all own || !(decide (task < 16) || task == bTaskAll) then 4
    else if s.cyc.patch.isSome then 5
    else 0
  (c, task, es)

/-- Validation ends. -/
def patchValidated (s : State) : State :=
  match s.cyc.sub with
  | none => s
  | some (_, addr) =>
    let s := setB Reg.CYC_PSTAT Reg.CYC_PSTAT_BUSY false { s with cyc := { s.cyc with sub := none } }
    let (c, task, es) := patchCheck addr s
    if c = 0 then
      setB Reg.CYC_PSTAT Reg.CYC_PSTAT_PEND true
        (setF Reg.CYC_PSTAT Reg.CYC_PSTAT_CAUSE 0 { s with cyc := { s.cyc with patch := some ⟨s.lt, task, es, false⟩ } })
    else patchRefuse c s

/-- One entry: the underlying value of a force at its address, or the variable. -/
def patchEntry (e : Nat × Nat × Nat) (s : State) : State :=
  match forceAt e.1 s with
  | some i => setForce i ((forceOf i s).map (fun f => { f with uval := e.2.2 % 256 ^ f.len, patched := true })) s
  | none => progStore e.1 e.2.1 e.2.2 s

/-- Force releases whose boundary has come. -/
def releasesDue (t : Nat) (s : State) : List Nat :=
  (List.range 64).filter (fun i => match forceOf i s with
    | some f => f.release == some t && (f.ripe || (t == bTaskAll && cycIdle s))
    | none => false)

/-- The pending patch is applied at its boundary, after the force changes due there. -/
def patchApply (s : State) : State :=
  match s.cyc.patch with
  | none => s
  | some p =>
    if !(p.ripe || (p.task == bTaskAll && cycIdle s)) then s
    else
      let s := each (releasesDue p.task s) forceDrop (each (if p.task = bTaskAll then forcesDue bTaskAll s else []) forceApply s)
      let s := each p.entries patchEntry { s with cyc := { s.cyc with patch := none } }
      record 26 0 p.task none (cycFlag Reg.CYC_EVT_PATCH
        (bump Reg.CYC_PSTAT Reg.CYC_PSTAT_APPLIED 1 (setB Reg.CYC_PSTAT Reg.CYC_PSTAT_PEND false s)))

/-- A patch not applied within 100 ms. -/
def patchTimeout (s : State) : State :=
  match s.cyc.patch with
  | some p => if p.since + 100 * ms ≤ s.lt then patchDiscard 6 s else s
  | none => s

/-! Force commands (R336). -/

def forceResult (n : Nat) (s : State) : State := setF Reg.CYC_FSTAT Reg.CYC_FSTAT_REFUSE n s

/-- The refusal of a force of `n` bytes at an address for a boundary task; 0 for none. -/
def forceCheck (a n t : Nat) (s : State) : Nat :=
  match (segsOf s).find? (fun g => (segVars g || segImage g) && segHas g a n) with
  | none => 1
  | some g =>
    if g.noforce || a % n ≠ 0 then 1
    else if segOwned g t then 0 else 2

def freeForce (s : State) : Option Nat := (List.range 64).find? (fun i => (forceOf i s).isNone)

/-- The entry of a force, in force or waiting, at an address. -/
def forceNamed (a : Nat) (s : State) : Option Nat :=
  (List.range 64).find? (fun i => match forceOf i s with
    | some f => f.addr == a
    | none => false)

/-- CYC_FCMD SET or RELEASE, with the pair's value. 'Forcing not enabled' is the premise of R336 and comes before the conditions
that it lists (DESIGN CHOICE, log entry 149). -/
def forceCommand (v : Nat) (s : State) : State :=
  let a := rd Reg.CYC_FADDR s
  let n := 2 ^ (v / 4 % 4)
  let t := v / 16 % 32
  let fval := rd64 Reg.CYC_FVAL_LO Reg.CYC_FVAL_HI s % 256 ^ n
  if !on Reg.CYC_CFG Reg.CYC_CFG_FORCEEN s then forceResult 5 s
  else if v % 4 = 1 then
    let c := forceCheck a n t s
    if c ≠ 0 then forceResult c s
    else match forceNamed a s with
      | some i =>
        forceResult 0 (setForce i ((forceOf i s).map (fun f =>
          { f with fval := fval, len := n, task := t, setting := true, release := none, ripe := false })) s)
      | none =>
        match freeForce s with
        | none => forceResult 3 s
        | some i => forceResult 0 (setForce i (some ⟨a, n, fval, t, false, 0, false, true, none, false⟩) s)
  else if v % 4 = 2 then
    let c := forceCheck a n t s
    if c ≠ 0 then forceResult c s
    else match forceNamed a s with
      | none => forceResult 4 s
      | some i => forceResult 0 (setForce i ((forceOf i s).map (fun f => { f with release := some t, ripe := false })) s)
  else s

/-- A pending task whose run is the next to start, with no other task running. -/
def startsNext (t : Nat) (s : State) : Bool :=
  runOf s == runNone && (taskOf t s).state == 1 && taskOrder.find? (fun u => (taskOf u s).state != 0) == some t

/-- FORCE_SET at its boundary: the run of the boundary task is the next to start, or no task is mid-run. -/
def forceSetNow (i : Nat) (s : State) : State :=
  match forceOf i s with
  | none => s
  | some f =>
    if (f.task == bTaskAll && cycIdle s) || startsNext f.task s then forceApply i s else s

/-- FORCE_RELEASE at its boundary. -/
def forceReleaseNow (i : Nat) (s : State) : State :=
  match forceOf i s with
  | none => s
  | some f => if (match f.release with
      | some t => f.ripe || (t == bTaskAll && cycIdle s)
      | none => false) then forceDrop i s else s

end Sys2Proof.Machine
end

