-- ==== Sys2Proof/Machine/Fabric.lean ====
section
/-! DEFINITION. The memory fabric: arbiters and their bounds, DRAM windows, hardware event lines, and the DMA rings (Memory,
Arbitration and DMA, R295-R316). -/

namespace Sys2Proof.Machine

/-! Requesters and targets (R295, R300, R301). -/

def tgtDram : Nat := 4

/-- The deadline class (R300). -/
def reqDeadline (q : Nat) : Bool := [2, 4, 5, 6, 7, 8, 10].contains q

/-- The requesters that reach a target (R295). -/
def reaches : Nat → List Nat
  | 0 => [0, 1, 9, 11]
  | 1 => [1, 2, 3, 5, 6, 7, 8, 9, 10, 11]
  | 2 => [1, 2, 3, 8, 9, 11]
  | 3 => [1, 2, 3, 4, 11]
  | _ => [1, 2, 3, 4, 11]

/-- FCLK that a burst occupies a target (R297, R298). -/
def burstLen (t : Nat) : Nat := if t = tgtDram then 12 else 4

/-- The worst-case wait of a requester on a target (R302). -/
def waitBound (q t : Nat) (s : State) : Nat :=
  let rs := (reaches t).filter (fun p => !masked p s)
  let nd := (rs.filter reqDeadline).length
  let nb := rs.length - nd
  let w := if reqDeadline q then (if 0 < nb then nd + 1 + (nd - 1) / 3 else nd) else if 0 < nd then 4 * nb else nb
  w * burstLen t + (if t = tgtDram then 90 else 0)

/-- MEM_WBn for the masks in force (R302). -/
def boundsShow (s : State) : State :=
  each (List.range 12) (fun q s =>
    let mine (t : Nat) : Nat := if (reaches t).contains q && !masked q s then waitBound q t s else 0
    setF (Reg.MEM_WB q) Reg.MEM_WB_SRAMB ((List.range 4).foldl (fun a t => max a (mine t)) 0)
      (setF (Reg.MEM_WB q) Reg.MEM_WB_DRAMB (if dramSize s = 0 then 0 else mine tgtDram) s)) s

/-- A requester's requests are withdrawn (R301). -/
def dropAsks (q : Nat) (s : State) : State :=
  { s with fab := { s.fab with reads := Tbl.put q none s.fab.reads, wq := s.fab.wq.filter (fun r => r.q != q),
                               asked := s.fab.asked.filter (fun p => p.1 / 8 != q) } }

/-- The read data of a burst in progress of a DMA port that is masked now are discarded: the bytes read, or the descriptor fetched,
whose start stands again; what the ring has been commanded since stays (R301). -/
def dropRead (q : Nat) (s : State) : State :=
  dropAsks q <| match Tbl.get none s.fab.reads q with
  | none => s
  | some x =>
    let y := dmaOf x.ring s
    match y.cur with
    | none => s
    | some c =>
      if x.ends ≤ nowF s || c.ended.isSome then s
      else match x.dma.cur with
        | some c0 =>
          setDma x.ring { y with cur := some { c with got := c0.got, buf := c.buf.take (c.buf.length - (c.got - c0.got)) } } s
        | none =>
          setF (Reg.DMA_RSTAT x.ring) Reg.DMA_RSTAT_HEAD (fldGet Reg.DMA_RSTAT_HEAD x.stat)
            (setB (Reg.DMA_RSTAT x.ring) Reg.DMA_RSTAT_BUSY false
              (setDma x.ring { y with cur := none, starts := x.dma.starts.take 1 ++ y.starts, done := x.dma.done }
                { s with fab := { s.fab with port1 := x.port1 } }))

/-- A requester is masked or unmasked (R301). -/
def setMask (q : Nat) (b : Bool) (s0 : State) : State :=
  let s := when b (dropRead q) s0
  boundsShow (setF Reg.MEM_STAT Reg.MEM_STAT_MASK (setBit (fl Reg.MEM_STAT Reg.MEM_STAT_MASK s) q b) s)

/-! Hardware event lines (R304). -/

/-- The line was high in the FCLK before, or is in this one: an assertion is no rise. -/
def heHigh (n : Nat) (s : State) : Bool := (let e := Tbl.get 0 s.fab.he n; e != 0 && decide (nowF s ≤ e))

/-- DMA_GEVT shows whether a ring has a flag set. -/
def dmaSum (r : Nat) (s : State) : State := setBitAt Reg.DMA_GEVT r (rd (Reg.DMA_REVT r) s % 16 != 0) s
def dmaFlag (r : Nat) (F : Fld) (s : State) : State := dmaSum r (setB (Reg.DMA_REVT r) F true s)

def ringUsed (r : Nat) (s : State) : Bool := on (Reg.DMA_RCFG r) Reg.DMA_RCFG_EN s
def ringDeadline (r : Nat) (s : State) : Bool := on (Reg.DMA_RCFG r) Reg.DMA_RCFG_CLASS s
def ringHe (r : Nat) (s : State) : Bool := on (Reg.DMA_RCFG r) Reg.DMA_RCFG_START s
def ringRetired (r : Nat) (s : State) : Bool := on (Reg.DMA_RSTAT r) Reg.DMA_RSTAT_RETIRED s

/-- The start line of a ring rises: one descriptor, or a refusal within MINIV of the last start (R305, R308). -/
def dmaStart (r : Nat) (s : State) : State :=
  let x := dmaOf r s
  let soon := match x.last with
    | some f => ringDeadline r s && decide (nowF s < f + rd (Reg.DMA_RMINIV r) s)
    | none => false
  if soon then record 116 1 r none (dmaFlag r Reg.DMA_REVT_STARTREF s)
  else setDma r { x with starts := x.starts ++ [(nowF s, false)], last := some (nowF s) } s

/-- A driver asserts a line for some FCLK: a rise acts on its consumers; an assertion of a high line, or of one whose pulse ends
with the FCLK before, merges. -/
def heAssert (n len : Nat) (s : State) : State :=
  let until_ := max (nowF s + len) (Tbl.get 0 s.fab.he n)
  let up (s : State) : State := { s with fab := { s.fab with he := Tbl.put n until_ s.fab.he } }
  if heHigh n s then
    up (bump Reg.MEM_HEMERGE ⟨0, 16⟩ 1 (setB Reg.MEM_EVT Reg.MEM_EVT_HEMERGE true s))
  else
    let s := up s
    let s := { s with fab := { s.fab with rose := Tbl.put n s.lt s.fab.rose } }
    each ((List.range 16).filter (fun r => ringUsed r s && ringHe r s && !ringRetired r s
        && fl (Reg.DMA_RCFG r) Reg.DMA_RCFG_SHE s == n)) dmaStart s

/-- The completion pulse of a ring on a line (R314); a unit that does not act gives span transmit none (R372). -/
def cheAssert (n : Nat) (s : State) : State :=
  let t := heAssert n 1 s
  if acting s then t else { t with fab := { t.fab with rose := s.fab.rose } }

/-- A new FCLK: MEM_HELVL shows the lines that were high in the one before (R317). -/
def heTick (s : State) : State :=
  each ((List.range 32).filter (fun n => bitAt Reg.MEM_HELVL n s != heHigh n s)) (fun n s => setBitAt Reg.MEM_HELVL n (heHigh n s) s) s

/-! Errors of the memories (R297, R298, R316). -/

/-- A single-bit error of an SRAM: corrected, EV112, and the SRAM's counter. -/
def sramCorrected (t : Nat) (s : State) : State :=
  let s := bump Reg.MEM_ERRCNT ⟨0, 16⟩ 1 (setB Reg.MEM_EVT Reg.MEM_EVT_SBE true s)
  upsetThen (ctrId 12 t 0) (overflowG4 112 0 none) (record 112 0 0 none s)

/-- A double-bit error of an SRAM: EV113 graded G1, with its address. -/
def sramUncorrectable (t addr : Nat) (s : State) : State :=
  let s := wr Reg.MEM_ERRADDR addr (bump Reg.MEM_ERRCNT ⟨16, 16⟩ 1 (setB Reg.MEM_EVT Reg.MEM_EVT_UE true s))
  upsetThen (ctrId 12 t 1) (overflowG4 113 0 none) (record 113 1 0 none s)

/-- A failed DRAM check: EV114 graded G1; the overflow of its counter retires the DRAM with G2. -/
def dramFail (s : State) : State :=
  let s := record 114 1 0 none (setB Reg.MEM_EVT Reg.MEM_EVT_DRAMERR true s)
  upsetThen (ctrId 12 0 2) (fun s => record 114 2 0 none (setB Reg.MEM_STAT Reg.MEM_STAT_DRAMRET true s)) s

/-- A refresh window: the port is occupied for at most 90 FCLK, one window in 1,950 FCLK (R298). -/
def dramWindow (ok : Bool) (s : State) : State :=
  if on Reg.MEM_STAT Reg.MEM_STAT_DRAMRDY s && s.fab.refresh + 1950 ≤ nowF s then
    let a := Tbl.get .reset s.fab.arb tgtDram
    let s := { s with fab := { s.fab with refresh := nowF s,
                                          arb := Tbl.put tgtDram { a with free := max a.free (nowF s) + 90 } s.fab.arb } }
    if ok then s else dramFail s
  else s

/-! Descriptors (R305-R308). -/

def ringSizeD (r : Nat) (s : State) : Nat := 2 ^ fl (Reg.DMA_RCFG r) Reg.DMA_RCFG_RSZ s
def ringHead (r : Nat) (s : State) : Nat := fl (Reg.DMA_RSTAT r) Reg.DMA_RSTAT_HEAD s
def descAt (r i : Nat) (s : State) : Nat := rd (Reg.DMA_RBASE r) s + 32 * i

/-- A byte address that a DMA port reaches (R295, R296). -/
def dmaByte (a : Nat) (s : State) : Bool :=
  inRange dataBase (dataSize + retainSize) a 1 || inHamp a 1 || inRange dramBase (dramSize s) a 1

/-- The address of byte `i` of a side of a transfer (R309). -/
def wrapAddr (a k i : Nat) : Nat := if k = 0 then a + i else a / 2 ^ k * 2 ^ k + (a % 2 ^ k + i) % 2 ^ k

/-- A side of a transfer breaks the rules of R308. -/
def sideBad (a k len : Nat) (s : State) : Bool :=
  if k = 0 then
    !(inRange dataBase (dataSize + retainSize) a len || inHamp a len || inRange dramBase (dramSize s) a len)
  else decide (k < 6) || decide (24 < k) || decide (2 ^ k < len) || !dmaByte a s
    || !(List.range 2).all (fun i => dmaByte (wrapAddr a k (i * (len - 1))) s)
    || (decide (2 ^ k < a % 2 ^ k + len) && !(dmaByte (a / 2 ^ k * 2 ^ k) s && dmaByte (a / 2 ^ k * 2 ^ k + 2 ^ k - 1) s))

def xferTag (x : Xfer) : Nat := x.w0 / 2 ^ 16
def xferChe (x : Xfer) : Option Nat := if x.w0.testBit 4 then some (x.w0 / 2 ^ 5 % 32) else none
def xferSrcAt (x : Xfer) (i : Nat) : Nat := wrapAddr x.src (x.wrap % 32) i
def xferDstAt (x : Xfer) (i : Nat) : Nat := wrapAddr x.dst (x.wrap / 2 ^ 8 % 32) i

/-! Status codes of R306. -/
def stDone : Nat := 1
def stRbfail : Nat := 2
def stLate : Nat := 3
def stAborted : Nat := 4
def stBaddesc : Nat := 5
def stMemerr : Nat := 6

/-- The transfer ends with a status at an LT. -/
def xferEndAt (r status lt : Nat) (s : State) : State :=
  let x := dmaOf r s
  setDma r { x with cur := x.cur.map (fun c => { c with ended := some (status, lt) }) } s

/-- The transfer has ended with a status at this FCLK. -/
def xferEnd (r status : Nat) (s : State) : State := xferEndAt r status s.lt s

/-- The counter of a ring's RBFAIL, LATE and MEMERR: its overflow retires the ring (R316). -/
def ringUpset (r : Nat) (s : State) : State :=
  upsetThen (ctrId 11 r 4) (fun s => record 116 2 r none (setB (Reg.DMA_RSTAT r) Reg.DMA_RSTAT_RETIRED true
    (setDma r { dmaOf r s with starts := [], chain := false, again := false } s))) s

/-- A ring has work for its port. -/
def ringWork (r : Nat) (s : State) : Bool :=
  ringUsed r s && !ringRetired r s && (dmaOf r s).cur.isNone && (!(dmaOf r s).starts.isEmpty || (dmaOf r s).chain)

/-- Port 1 is free and the ring is the next with work in round-robin order; port 0 serves every pending ring (R305). -/
def ringTurn (r : Nat) (s : State) : Bool :=
  ringWork r s && (ringDeadline r s ||
    ((List.range 16).all (fun q => ringDeadline q s || (dmaOf q s).cur.isNone)
      && (((List.range 16).map (fun i => (s.fab.port1 + 1 + i) % 16)).find? (fun q => !ringDeadline q s && ringWork q s))
        == some r))

/-- A chain of a PROGRAM ring meets a descriptor that is not owned: it ends, or checks again after a GO (R305). -/
def chainEnd (r : Nat) (s : State) : State :=
  let x := dmaOf r s
  setDma r { x with chain := x.again, again := false } s

/-- The burst that fetches the descriptor at the head (R307, R308, R314). -/
def fetchBurst (r : Nat) (s : State) : State :=
  if !ringTurn r s then s
  else
    let x := dmaOf r s
    let i := ringHead r s
    let a := descAt r i s
    let w (k : Nat) : Nat := ldN (a + 4 * k) 4 s
    let (start, late) := x.starts.headD (nowF s, false)
    let x := { x with starts := x.starts.drop 1, done := false }
    if !(w 0).testBit 0 then
      if ringHe r s then record 116 0 r none (setDma r x s) else chainEnd r (setDma r x s)
    else
      let len := if w 3 % 2 ^ 25 = 0 then 2 ^ 24 else w 3 % 2 ^ 25
      let c : Xfer := { start := start, index := i, w0 := w 0, src := w 1, dst := w 2, len := len, wrap := w 4, buf := [],
                        got := 0, put := 0, piece := (0, []), repeated := false, ended := none }
      let s := setDma r { x with cur := some c } s
      let s := setF (Reg.DMA_RSTAT r) Reg.DMA_RSTAT_HEAD ((i + 1) % ringSizeD r s)
        (setB (Reg.DMA_RSTAT r) Reg.DMA_RSTAT_BUSY true s)
      let s := if ringDeadline r s then s else { s with fab := { s.fab with port1 := r } }
      let bad := decide (rd (Reg.DMA_RMAXLEN r) s % 2 ^ 25 < len) || decide (2 ^ 24 < len)
        || sideBad (w 1) (w 4 % 32) len s || sideBad (w 2) (w 4 / 2 ^ 8 % 32) len s
      if bad then record 116 0 r none (dmaFlag r Reg.DMA_REVT_FAULT (xferEnd r stBaddesc s))
      else if late then xferEnd r stLate s
      else s

/-! Transfers (R309-R312). -/

/-- The bytes from `i` on that the next piece of a side takes: to the end of the 64-byte block. -/
def pieceLen (a i len : Nat) : Nat := min (len - i) (64 - a % 64)

/-- The next burst of a transfer: whether it writes, its address and its length; none once every byte is written. -/
def nextBurst (x : Xfer) : Option (Bool × Nat × Nat) :=
  if x.ended.isSome || x.len ≤ x.put then none
  else
    let n := pieceLen (xferDstAt x x.put) x.put x.len
    if n ≤ x.buf.length then some (true, xferDstAt x x.put, n)
    else some (false, xferSrcAt x x.got, pieceLen (xferSrcAt x x.got) x.got x.len)

/-- Kinds of burst of a DMA port: descriptor fetch, data, read-back, descriptor return. -/
def bkFetch : Nat := 0
def bkData : Nat := 1
def bkReadback : Nat := 2
def bkReturn : Nat := 3

/-- The next burst of a ring: its kind and its target (R305-R312); a descriptor is returned from the FCLK of its pulse on. -/
def ringNext (r : Nat) (s : State) : Option (Nat × Nat) :=
  match (dmaOf r s).cur with
  | none => if ringTurn r s then some (bkFetch, 1) else none
  | some x =>
    if x.ended.isSome then (if x.ended.any (fun e => decide (e.2 ≤ s.lt)) then some (bkReturn, 1) else none)
    else match nextBurst x with
      | some b => some (bkData, targetOf b.2.1)
      | none => some (bkReadback, targetOf x.piece.1)

/-- The ring whose burst a port performs next: the earliest deadline on port 0 (R305). -/
def portRing (port0 : Bool) (s : State) : Option Nat :=
  let rs := (List.range 16).filter (fun r => ringDeadline r s == port0 && (ringNext r s).isSome)
  let start (r : Nat) : Nat := match (dmaOf r s).cur with
    | some x => x.start
    | none => ((dmaOf r s).starts.map (·.1)).headD (nowF s)
  let key (r : Nat) : Nat := start r + rd (Reg.DMA_RDL r) s
  if port0 then rs.find? (fun r => rs.all (fun q => decide (key r ≤ key q))) else rs.head?

/-- MEMERR: the transfer stops with EV116 graded G1 (R312). -/
def memErr (r : Nat) (s : State) : State :=
  ringUpset r (record 116 1 r none (dmaFlag r Reg.DMA_REVT_FAULT (xferEnd r stMemerr s)))

/-- One data burst of a ring; `bad`: uncorrectable source data or a DRAM error. -/
def dmaBurst (r : Nat) (bad : Bool) (s : State) : State :=
  match (dmaOf r s).cur with
  | none => s
  | some x =>
    match nextBurst x with
    | none => s
    | some (write, a, n) =>
      if bad || (targetOf a == tgtDram && on Reg.MEM_STAT Reg.MEM_STAT_DRAMRET s) then memErr r s
      else if write then
        let l := x.buf.take n
        setDma r { dmaOf r s with cur := some { x with buf := x.buf.drop n, put := x.put + n, piece := (a, l) } }
          (stBytes a l s)
      else setDma r { dmaOf r s with cur := some { x with buf := x.buf ++ ldBytes a n s, got := x.got + n } } s

/-- A descriptor of a deadline ring ends LATE: EV117 graded G1, and the ring's counter (R314). -/
def xferLate (r : Nat) (s : State) : State :=
  ringUpset r (record 117 1 r none (dmaFlag r Reg.DMA_REVT_LATE (xferEnd r stLate s)))

/-- The read-back of the last block (R311, R312): complete in the FCLK after its burst, repeated once, or RBFAIL; with an error of
the memory (`bad`) or a retired DRAM, MEMERR; of a deadline ring never complete later than its start + D (R314). -/
def readBack (r : Nat) (ok bad : Bool) (s : State) : State :=
  match (dmaOf r s).cur with
  | none => s
  | some x =>
    let t := targetOf x.piece.1
    if x.ended.isSome || x.put < x.len then s
    else if bad || (t == tgtDram && on Reg.MEM_STAT Reg.MEM_STAT_DRAMRET s) then memErr r s
    else if ok && ldBytes x.piece.1 x.piece.2.length s == x.piece.2 then
      if ringDeadline r s && decide (x.start + rd (Reg.DMA_RDL r) s % 2 ^ 24 < nowF s + burstLen t) then xferLate r s
      else xferEndAt r stDone (fclk * (nowF s + burstLen t)) s
    else if x.repeated then ringUpset r (dmaFlag r Reg.DMA_REVT_FAULT (xferEnd r stRbfail s))
    else
      let s := record 116 1 r none s
      if ringDeadline r s && decide (x.start + rd (Reg.DMA_RDL r) s % 2 ^ 24 < nowF s + rd (Reg.DMA_RCOST r) s % 2 ^ 24) then
        xferLate r s
      else
        setDma r { dmaOf r s with cur := some { x with repeated := true, got := 0, put := 0, buf := [] } }
          (dmaFlag r Reg.DMA_REVT_REPEAT s)

/-- The completion pulses of this FCLK (R312). -/
def dmaPulses (s : State) : State :=
  each ((List.range 16).filterMap (fun r => (dmaOf r s).cur.bind (fun x =>
    if x.ended == some (stDone, s.lt) then xferChe x else none))) cheAssert s

/-- The burst that returns a descriptor (R307). -/
def returnBurst (r : Nat) (s : State) : State :=
  match (dmaOf r s).cur with
  | none => s
  | some x =>
    match x.ended with
    | none => s
    | some (status, lt) =>
      if s.lt < lt then s else
      let a := descAt r x.index s
      let w0 := x.w0 / 16 * 16 + 2 * status
      let s := stN a 4 w0 (stN (a + 24) 4 (lt % 2 ^ 32) (stN (a + 28) 4 x.put s))
      setB (Reg.DMA_RSTAT r) Reg.DMA_RSTAT_BUSY false (setDma r { dmaOf r s with cur := none, done := status == stDone } s)

/-- A deadline descriptor not complete by its start + D (R314). -/
def dmaDeadline (r : Nat) (s : State) : State :=
  let x := dmaOf r s
  let d := rd (Reg.DMA_RDL r) s % 2 ^ 24
  let late (s : State) : State := ringUpset r (record 117 1 r none (dmaFlag r Reg.DMA_REVT_LATE s))
  if !ringDeadline r s then s
  else match x.cur with
    | some c => if c.ended.isNone && decide (c.start + d ≤ nowF s) then xferLate r s else s
    | none =>
      match x.starts with
      | (f, false) :: t =>
        if f + d ≤ nowF s then late (setDma r { x with starts := (f, true) :: t } s) else s
      | _ => s

/-! Commands of a ring (R305, R315). -/

def dmaResult (r n : Nat) (s : State) : State := setF (Reg.DMA_RSTAT r) Reg.DMA_RSTAT_RESULT n s

def dmaGo (r : Nat) (s : State) : State :=
  let x := dmaOf r s
  if !ringUsed r s || ringHe r s || ringRetired r s then dmaResult r 2 s
  else if x.chain then dmaResult r 1 (setDma r { x with again := true } s)
  else dmaResult r 1 (setDma r { x with chain := true } s)

def dmaAbort (r : Nat) (s : State) : State :=
  let x := dmaOf r s
  let stop (s : State) : State := setDma r { dmaOf r s with starts := [], chain := false, again := false } s
  match x.cur with
  | some c =>
    match c.ended with
    | some (1, lt) => if s.lt < lt then dmaResult r 1 (stop (xferEnd r stAborted s)) else dmaResult r 3 s
    | some _ => dmaResult r 2 s
    | none => dmaResult r 1 (stop (xferEnd r stAborted s))
  | none => if x.starts.isEmpty && !x.chain then dmaResult r (if x.done then 3 else 2) s else dmaResult r 1 (stop s)

/-! The arbiter (R299, R300, R303). -/

/-- The next of a class in round-robin order after the one granted last. -/
def robin (last : Nat) (qs : List Nat) : Option Nat :=
  ((List.range 12).map (fun i => (last + 1 + i) % 12)).find? (fun q => qs.contains q)

/-- A wait above its bound (R303). -/
def waitCheck (q t wait : Nat) (s : State) : State :=
  let s := setF (Reg.MEM_WB q) Reg.MEM_WB_WMAX (max (fl (Reg.MEM_WB q) Reg.MEM_WB_WMAX s) (min wait (2 ^ 16 - 1))) s
  let bound := if t = tgtDram then fl (Reg.MEM_WB q) Reg.MEM_WB_DRAMB s else fl (Reg.MEM_WB q) Reg.MEM_WB_SRAMB s
  if bound < wait then
    upsetThen (ctrId 12 q 3) (overflowG4 115 q none) (record 115 1 q none (setB Reg.MEM_EVT Reg.MEM_EVT_WAIT true s))
  else s

/-- A requester may raise a request to a target: it reaches it, is not masked, and the target is present (R295, R296, R301). The
test port of an UNCONFIGURED device reaches no memory (R301). A DMA port's access to a retired DRAM ends as MEMERR (R316). -/
def mayRequest (q t : Nat) (s : State) : Bool :=
  (reaches t).contains q && !masked q s && !(q == 11 && unconfigured s)
    && !(t == tgtDram && on Reg.MEM_STAT Reg.MEM_STAT_DRAMRET s && !(q == 2 || q == 3))

/-- A target is free in this FCLK (R299). -/
def targetFree (t : Nat) (s : State) : Bool :=
  decide ((Tbl.get .reset s.fab.arb t).free ≤ nowF s) && (t != tgtDram || on Reg.MEM_STAT Reg.MEM_STAT_DRAMRDY s)

/-- The extra FCLK for which Tumble holds a grant: once every PER µs (R218, R220, R303). -/
def stallOf (q : Nat) (s : State) : Nat :=
  let w := rd Reg.TMB_ARB s
  let due := match s.fab.stall with
    | some f => decide (f + 500 * (w / 2 ^ 16) ≤ nowF s)
    | none => true
  if on Reg.TMB_CTL Reg.TMB_CTL_ARB s && w % 16 == q && due && w / 2 ^ 16 != 0 then w / 2 ^ 8 % 2 ^ 8 else 0

/-- The FCLK for which the request of a DMA port or the Hamper writer to a target has waited (R303). -/
def waitOf (q t : Nat) (s : State) : Nat := match Tbl.get none s.fab.asked (8 * q + t) with
  | some f => nowF s - f
  | none => 0

/-- A read burst of a DMA port is in progress: it asks for no other. -/
def portBusy (q : Nat) (s : State) : Bool := match Tbl.get none s.fab.reads q with
  | some x => decide (nowF s < x.ends)
  | none => false

/-- The target of the Hamper's region of a channel (R284). -/
def hmpTarget (c : Nat) (s : State) : Nat := if dramBase ≤ rd (Reg.HMP_CBASE c) s then tgtDram else 3

/-- A DMA port or the Hamper writer asks for a target. -/
def asks (q t : Nat) (s : State) : Bool :=
  mayRequest q t s && (if q = 4 then (List.range 64).any (fun c => !(chanOf c s).fifo.isEmpty && hmpTarget c s == t)
    else !portBusy q s && match portRing (q == 2) s with
      | some r => (ringNext r s).map (·.2) == some t
      | none => false)

/-- The request of each other unit that stands first in its order, where it is for a target: with its wait. -/
def unitAsks (t : Nat) (s : State) : List (Nat × Nat) :=
  (List.range 12).filterMap (fun q => (s.fab.wq.find? (fun r => r.q == q)).bind (fun r =>
    if r.t == t then some (q, nowF s - r.raised) else none))

/-- The requests for a target that the state holds, with their waits. -/
def standing (t : Nat) (s : State) : List (Nat × Nat) :=
  unitAsks t s ++ ([2, 3, 4].filter (fun q => asks q t s)).map (fun q => (q, waitOf q t s))

/-- One burst of a unit's first request is granted; its next one is raised with it. -/
def takeAsk (q now : Nat) : List BusReq → List BusReq
  | [] => []
  | r :: l =>
    if r.q = q then
      (if r.n ≤ 1 then [] else [{ r with n := r.n - 1, raised := now }])
        ++ l.map (fun x => if x.q = q then { x with raised := max x.raised now } else x)
    else r :: takeAsk q now l

/-- The requester that an arbiter grants among those that ask, and whether it is of the best-effort class (R300). -/
def arbWin (t : Nat) (ps : List Nat) (s : State) : Option (Nat × Bool) :=
  let a := Tbl.get .reset s.fab.arb t
  let ds := ps.filter reqDeadline
  let bs := ps.filter (fun q => !reqDeadline q)
  if !bs.isEmpty && (a.count == 3 || ds.isEmpty) then (robin a.lastB bs).map (fun q => (q, true))
  else (robin a.lastD ds).map (fun q => (q, false))

/-- A grant to a requester of the class that `best` names: its target is occupied to the end of the burst, and its wait is
measured (R299, R300, R303). -/
def grantTo (q t wait : Nat) (best others : Bool) (s : State) : State :=
  let a := Tbl.get .reset s.fab.arb t
  let k := stallOf q s
  let a := { a with free := nowF s + burstLen t + k,
                    count := if best then 0 else if others then a.count + 1 else a.count,
                    lastB := if best then q else a.lastB, lastD := if best then a.lastD else q }
  waitCheck q t wait { s with fab := { s.fab with arb := Tbl.put t a s.fab.arb, asked := Tbl.put (8 * q + t) none s.fab.asked,
                                                  stall := if k = 0 then s.fab.stall else some (nowF s) } }

/-- A request of a DMA port or the Hamper writer would be granted now: its target is free, and no other request that stands there
comes before it (R299, R300). -/
def burstMay (q t : Nat) (s : State) : Bool :=
  mayRequest q t s && targetFree t s
    && (arbWin t (q :: ((standing t s).map (·.1)).filter (fun p => p != q)) s).any (fun w => w.1 == q)

/-- A burst of a DMA port or the Hamper writer by itself, where it would be granted. -/
def burstAlone (q t : Nat) (f : State → State) (s : State) : State :=
  if burstMay q t s then
    f (grantTo q t (waitOf q t s) (!reqDeadline q) ((standing t s).any (fun p => !reqDeadline p.1)) s)
  else s

/-- The bursts of the units that an arbiter grants in the FCLK that ends, one on each target still free (R299, R300). -/
def arbTick (s : State) : State :=
  if s.fab.wq.isEmpty then s
  else each (List.range 5) (fun t s =>
    let us := unitAsks t s
    match (if targetFree t s then arbWin t (us.map (·.1)) s else none) with
    | none => s
    | some (q, best) =>
      let wait := ((us.find? (fun p => p.1 == q)).map (·.2)).getD 0
      grantTo q t wait best ((standing t s).any (fun p => !reqDeadline p.1))
        { s with fab := { s.fab with wq := takeAsk q (nowF s) s.fab.wq } }) s

/-- A read burst of a DMA port, remembered until its end (R301). -/
def reading (q t r : Nat) (f : State → State) (s : State) : State :=
  let u := f s
  let open_ := match (dmaOf r u).cur with
    | some c => c.ended.isNone
    | none => false
  let x : ReadSt := ⟨nowF s + burstLen t, r, dmaOf r s, rdW (Reg.DMA_RSTAT r) s, s.fab.port1⟩
  when open_ (fun u => { u with fab := { u.fab with reads := Tbl.put q (some x) u.fab.reads } }) u

/-- The descriptor in progress of a deadline ring has reached its start + D: no further burst of it is begun (R314). -/
def overdue (r : Nat) (s : State) : Bool := ringDeadline r s
  && (dmaOf r s).cur.any (fun c => c.ended.isNone && decide (c.start + rd (Reg.DMA_RDL r) s % 2 ^ 24 ≤ nowF s))

/-- The next burst of a ring on its port; `err` is 2 for uncorrectable data or a DRAM error. -/
def portBurst (q r : Nat) (err : Nat) (s : State) : State :=
  match ringNext r s with
  | none => s
  | some (k, t) =>
    if k = bkFetch then reading q t r (fetchBurst r) s
    else if k = bkData && overdue r s then xferLate r s
    else if k = bkData then
      match (dmaOf r s).cur.bind nextBurst with
      | some (false, _, _) => reading q t r (dmaBurst r (err == 2)) s
      | _ => dmaBurst r (err == 2) s
    else if k = bkReadback then readBack r true (err == 2) s
    else returnBurst r s

/-- A burst of a kind of a ring, where it is the next of its port and its target is free (R299, R305). -/
def ringBurst (r kind : Nat) (f : Nat → Nat → State → State) (s : State) : State :=
  let q := if ringDeadline r s then 2 else 3
  match ringNext r s with
  | some (k, t) => if k = kind && !portBusy q s && portRing (ringDeadline r s) s == some r then burstAlone q t (f q t) s else s
  | none => s

def descFetch (r : Nat) (s : State) : State := ringBurst r bkFetch (fun q t => reading q t r (fetchBurst r)) s
def xferComplete (r : Nat) (ok : Bool) (s : State) : State := ringBurst r bkReadback (fun _ _ => readBack r ok false) s
def descReturn (r : Nat) (s : State) : State := ringBurst r bkReturn (fun _ _ => returnBurst r) s

/-- What the burst granted to a requester does: a DMA port performs its next burst, the Hamper writer drains the first FIFO that waits
for the target, another unit's request has its burst; `err` is 1 for a corrected error, 2 for an
uncorrectable or DRAM error, at an address. -/
def burstDone (q t err addr : Nat) (s : State) : State :=
  let s := if t = tgtDram then s
    else if err = 1 then sramCorrected t s
    else if err = 2 then sramUncorrectable t addr s
    else s
  if q = 2 || q = 3 then
    match portRing (q == 2) s with
    | some r => portBurst q r err s
    | none => s
  else if q = 4 then
    match (List.range 64).find? (fun c => !(chanOf c s).fifo.isEmpty && hmpTarget c s == t) with
    | some c => chReduce c (chDrain c s)
    | none => s
  else if (unitAsks t s).any (fun p => p.1 == q) then { s with fab := { s.fab with wq := takeAsk q (nowF s) s.fab.wq } }
  else s

/-- One grant on a free target, among the requests named with their waits in FCLK and those of the units that the state holds. A
DMA port requests only the target of its next burst. -/
def arbGrant (t : Nat) (pend : List (Nat × Nat)) (err addr : Nat) (s : State) : State :=
  let mine := pend.filter (fun p => mayRequest p.1 t s && (!(p.1 == 2 || p.1 == 3) || asks p.1 t s))
  let ps := mine ++ (unitAsks t s).filter (fun p => !(mine.map (·.1)).contains p.1)
  match arbWin t (ps.map (·.1)) s with
  | none => s
  | some (q, best) =>
    if !targetFree t s then s
    else
      burstDone q t err addr (grantTo q t (((ps.find? (fun p => p.1 == q)).map (·.2)).getD 0) best
        (ps.any (fun p => !reqDeadline p.1)) s)

/-- The requests of the DMA ports and the Hamper writer that stand at the end of an FCLK: the FCLK in which each was raised. -/
def asksRun (s : State) : State :=
  each ([2, 3, 4].flatMap (fun q => [1, 2, 3, 4].map (fun t => (q, t)))) (fun p s =>
    let k := 8 * p.1 + p.2
    let now := Tbl.get none s.fab.asked k
    if asks p.1 p.2 s && now.isNone then { s with fab := { s.fab with asked := Tbl.put k (some (nowF s)) s.fab.asked } }
    else if !asks p.1 p.2 s && now.isSome then { s with fab := { s.fab with asked := Tbl.put k none s.fab.asked } }
    else s) s

/-! Commands. -/

def execAssertHe (slot : Fin 4096) (s : State) : Host.Outcome State Fault Refusal :=
  .next (firing slot actHe (fun x s => heAssert (slTarget x % 32) (slArg x % 256) s) s)

def execArbiterGrant (target : Fin 5) (pend : List (Fin 12 × BitVec 16)) (err : Fin 3) (addr : BitVec 32) (s : State) :
    Host.Outcome State Fault Refusal :=
  .next (arbGrant target (pend.map (fun p => (p.1.val, p.2.toNat))) err addr.toNat s)

def execDramRefreshWindow (ok : Bool) (s : State) : Host.Outcome State Fault Refusal := .next (dramWindow ok s)

def execRequesterSideband (requester : Fin 12) (asserted : Bool) (s : State) : Host.Outcome State Fault Refusal :=
  .next (setMask requester (asserted || (requester.val == 9 && s.configured)
    || (requester.val == 11 && !testMode s && !unconfigured s)) s)

def execDmaGo (ring : Fin 16) (by_ : Fin 19) (s : State) : Host.Outcome State Fault Refusal :=
  .next (when (mayStore (Reg.DMA_RCMD ring) by_ s) (fun s => dmaGo ring (endHold (Reg.DMA_RCMD ring) s)) s)

def execDmaAbort (ring : Fin 16) (by_ : Fin 19) (s : State) : Host.Outcome State Fault Refusal :=
  .next (when (mayStore (Reg.DMA_RCMD ring) by_ s) (fun s => dmaAbort ring (endHold (Reg.DMA_RCMD ring) s)) s)

def execDescriptorFetch (ring : Fin 16) (s : State) : Host.Outcome State Fault Refusal := .next (descFetch ring s)

def execDmaTransferComplete (ring : Fin 16) (ok : Bool) (s : State) : Host.Outcome State Fault Refusal :=
  .next (xferComplete ring ok s)

def execDescriptorReturn (ring : Fin 16) (s : State) : Host.Outcome State Fault Refusal := .next (descReturn ring s)

def execDmaDeadlineExpiry (ring : Fin 16) (s : State) : Host.Outcome State Fault Refusal := .next (dmaDeadline ring s)

end Sys2Proof.Machine
end

