-- ==== Sys2Proof/Machine/SpanCore.lean ====
section
/-! DEFINITION. The span ports: transmission, reception, streams, the manager, and IEEE 1588 (Clusters, Regions and the Span
Ports, R339-R364, R368). Tier 0 is the cluster, tier 1 the region. -/

namespace Sys2Proof.Machine

def setSpn (f : SpnSt → SpnSt) (s : State) : State := { s with spn := f s.spn }
def spnFlag (F : Fld) (s : State) : State := setB Reg.SPN_EVT F true s

/-! Ports (R339, R340, R368). -/

/-- A discarded frame is counted on its port. -/
def portDiscard (p : Nat) (s : State) : State := bump (Reg.SPN_PCNT p) ⟨16, 16⟩ 1 s

/-! The port that takes Sync (R347). -/

/-- The dataset of this device's own clock: priority1, clockClass 248, quality, priority2, identity. -/
def ownClock (s : State) : Nat :=
  fl Reg.SPN_PTP Reg.SPN_PTP_PRIO1 s * 2 ^ 104 + 248 * 2 ^ 96 + Config.clockQuality.toNat * 2 ^ 72
    + fl Reg.SPN_PTP Reg.SPN_PTP_PRIO2 s * 2 ^ 64 + Config.clockIdentity.toNat

def annsOf (p : Nat) (s : State) : List Ann := Tbl.get [] s.spn.ann p

/-- The slave port: the port with the best qualified Announce that beats the own clock; fewer steps, then the lower number. -/
def slaveChoice (s : State) : Option Nat :=
  let l := (List.range 4).flatMap (fun p => (annsOf p s).filterMap (fun a =>
    if a.qualified && portUp p s && decide (a.gm < ownClock s) then some (p, a.gm, a.steps) else none))
  (l.find? (fun a => l.all (fun b => decide (a.2.1 < b.2.1) || (a.2.1 == b.2.1 &&
    (decide (a.2.2 < b.2.2) || (a.2.2 == b.2.2 && decide (a.1 ≤ b.1))))))).map (·.1)

def selectSlave (s : State) : State :=
  let c := slaveChoice s
  each (List.range 4) (fun p => setBitAt (Reg.SPN_PSTAT p) 2 (c == some p)) (setSpn (fun x => { x with slave := c }) s)

/-- A port is retired: EV118 graded G2, before it stops. -/
def portRetire (p : Nat) (s : State) : State :=
  selectSlave (setBitAt (Reg.SPN_PSTAT p) 1 true (setBitAt (Reg.SPN_PEVT p) 2 true (record 118 2 (0x4000 + p) none s)))

/-- A received frame is discarded: an FCS error, or another fault of its headers. -/
def frameDiscard (p : Nat) (fcs : Bool) (s : State) : State :=
  if !portUp p s then s
  else if fcs then
    upsetThen (ctrId 14 p 0) (portRetire p) (setBitAt (Reg.SPN_PEVT p) 1 true (bump (Reg.SPN_PCNT p) ⟨0, 16⟩ 1 s))
  else portDiscard p s

/-- A header CTS extended to the value nearest CT (R342), in ns. -/
def ctsExtend (cts : Nat) (s : State) : Nat :=
  let ct := ctNow s
  let b := ct / 2 ^ 32 * 2 ^ 32 + 16 * cts
  if ct + 2 ^ 31 < b then b - 2 ^ 32 else if b + 2 ^ 31 < ct then b + 2 ^ 32 else b

/-! Tiers (R358-R364). -/

def tierOf (t : Nat) (s : State) : Tier := Tbl.get .reset s.spn.tier t

def ownMember (s : State) : Nat := ownAddr s % 256
def ownCluster (s : State) : Nat := ownAddr s / 256
def rStage (s : State) : Nat := fl Reg.SPN_CFG Reg.SPN_CFG_RSTAGE s
def bLoss (s : State) : Nat := fl Reg.SPN_CFG Reg.SPN_CFG_BLOSS s
def rMult (s : State) : Nat := max 1 (fl Reg.SPN_CFG Reg.SPN_CFG_RMULT s)
def regionOn (s : State) : Bool := on Reg.SPN_CFG Reg.SPN_CFG_REGION s

/-- DF, DV and BSEN of the cluster's beacon: those of the cluster tier, into which a manager in the region tier folds the region's
(R361, R364). -/
def folded (s : State) : Int × Int × Nat :=
  let x := tierOf 0 s
  let y := if x.mgr && regionOn s then tierOf 1 s else .reset
  (x.df + y.df, x.dv + y.dv, max x.bsen y.bsen)

/-- The registers show the cluster tier, DF, DV and BSEN as its beacon carries them, and RMGR the region's. -/
def setTier (t : Nat) (x : Tier) (s : State) : State :=
  let s := setSpn (fun p => { p with tier := Tbl.put t x p.tier }) s
  let (df, dv, bsen) := folded s
  let s := wrI Reg.SPN_DFOFS df (wrI Reg.SPN_DVOFS dv (wr Reg.SPN_DBSEN bsen s))
  if t = 0 then
    wr Reg.SPN_MEPOCH x.mepoch (wr Reg.SPN_MADDR (x.manager.getD 0) (setB Reg.SPN_STAT Reg.SPN_STAT_MGR x.mgr
      (setB Reg.SPN_STAT Reg.SPN_STAT_CLAIMING x.claim.isSome s)))
  else setB Reg.SPN_STAT Reg.SPN_STAT_RMGR x.mgr s

/-- This device's position in a tier's succession list. -/
def ownPos (t : Nat) (s : State) : Option Nat :=
  if t = 0 then (List.range 8).find? (fun i =>
    let b := rd (if i < 4 then Reg.SPN_SUCC0 else Reg.SPN_SUCC1) s / 256 ^ (i % 4) % 256
    b == ownMember s && b != 0xFF)
  else if !regionOn s then none
  else (List.range 4).find? (fun i =>
    rd (if i < 2 then Reg.SPN_RSUCC0 else Reg.SPN_RSUCC1) s / 2 ^ (16 * (i % 2)) % 2 ^ 10 == ownCluster s)

/-- The tier of a frame: that of the role of its port. -/
def tierPort (p : Nat) (s : State) : Nat := if spanRole p s = 2 then 1 else 0

/-- A serial comparison of 32-bit numbers: A is newer than B. -/
def serialAfter (a b : Nat) : Bool := (let d := (a + 2 ^ 32 - b % 2 ^ 32) % 2 ^ 32; decide (0 < d) && decide (d < 2 ^ 31))
def serialAfter16 (a b : Nat) : Bool := (let d := (a + 2 ^ 16 - b % 2 ^ 16) % 2 ^ 16; decide (0 < d) && decide (d < 2 ^ 15))

/-- A claim or beacon (MEPOCH, position) is preferred to another (R363). -/
def preferred (a b : Nat × Nat) : Bool := serialAfter a.1 b.1 || (a.1 == b.1 && decide (a.2 < b.2))

/-- The manager followed in a tier changes: SUCC and EV120. -/
def follow (t addr : Nat) (s : State) : State :=
  let x := tierOf t s
  if x.manager = some addr then s
  else record 120 0 (if t = 0 then addr % 256 else addr / 256) none (spnFlag Reg.SPN_EVT_SUCC (setTier t { x with manager := some addr } s))

/-- A device that meets something preferred to its own claim or role stops claiming or managing, and adopts the MEPOCH. -/
def yieldTo (t : Nat) (a : Nat × Nat) (s : State) : State :=
  let x := tierOf t s
  let pos := (ownPos t s).getD 8
  let claim := match x.claim with
    | some (e, n) => if preferred a (e, pos) then none else some (e, n)
    | none => none
  let mgr := x.mgr && !preferred a (x.mepoch, pos)
  let lost := (x.mgr && !mgr) || (x.claim.isSome && claim.isNone)
  let me := if lost && serialAfter a.1 x.mepoch then a.1 else x.mepoch
  let s := setTier t { x with claim := claim, mgr := mgr, mepoch := me, bmiss := if lost then 0 else x.bmiss } s
  when (t == 0 && x.mgr && !mgr && (tierOf 1 s).mgr) (fun s => setTier 1 { tierOf 1 s with mgr := false } s) s

/-- A bit vector of bytes, most significant first. -/
def numBE (l : List Nat) : Nat := l.foldl (fun a b => 256 * a + b) 0
def be (l : List Nat) (i n : Nat) : Nat := numBE ((l.drop i).take n)

/-- LT at the start of a cluster cycle number (R17, R359). -/
def cycleLt (n : Nat) (s : State) : Nat := ltOfCt (n * cycleNs s) s

/-- The cycle number of a tier. -/
def tierCycle (t : Nat) (s : State) : Nat := if t = 0 then cycleNow s else cycleNow s / rMult s

/-- A BEACON (R359, R363; log entry 171): one whose SCHID differs is no valid one, and serves for reference and succession only. -/
def beaconIn (t src : Nat) (d : List Nat) (s : State) : State :=
  let x := tierOf t s
  let me := be d 0 4
  let n := tierCycle t s
  let pos := be d 27 1
  let pref := preferred (me, pos) (x.mepoch, (ownPos t s).getD 8)
  if serialAfter x.mepoch me || be d 4 4 != n % 2 ^ 32 || (x.mgr && !pref) then s
  else
    let s := yieldTo t (me, pos) s
    let sch := be d 28 4 == rd Reg.SPN_SCHID s
    let s := when (!sch && !on Reg.SPN_STAT Reg.SPN_STAT_SCHBAD s) (record 118 0 0xC000 none) s
    let s := setB Reg.SPN_STAT Reg.SPN_STAT_SCHBAD (!sch) s
    let s := when (t == 0) (fun s =>
      setB Reg.SPN_STAT Reg.SPN_STAT_REFOK true
        (setSpn (fun p => { p with tb := cycleLt n s, atb := be d 8 4, wb := be d 12 6 }) (when sch (fun s =>
          setSpn (fun p => { p with mc := { p.mc with beacon := s.lt, stop := p.mc.tx.isSome } })
            (setB Reg.SPN_STAT Reg.SPN_STAT_UNLINKED false s)) s))) s
    let x := tierOf t s
    let x := { x with mepoch := me, seen := true, bmiss := 0 }
    let x := if sch then { x with df := signed 32 (be d 18 4), dv := signed 32 (be d 22 4), bsen := be d 26 1 } else x
    follow t src (setTier t x s)

/-- A CLAIM (R363). -/
def claimIn (t : Nat) (d : List Nat) (s : State) : State := yieldTo t (be d 0 4, be d 4 1) s

/-- A REPORT to the manager (R360, R364). -/
def reportIn (t src : Nat) (d : List Nat) (s : State) : State :=
  let x := tierOf t s
  if !x.mgr then s
  else
    let live := be d 16 1 == 4 || be d 16 1 == 5
    let s := setTier t { x with reports := x.reports ++ [(live, signed 32 (be d 4 4))],
                                members := if t = 0 then x.members else Tbl.put (src / 256) (0, d) x.members } s
    if t ≠ 0 then s
    else
      let m := src % 256
      wr (Reg.SPN_MRST m) (be d 16 1 % 16 + 16 + 32 * (be d 17 1 % 2) + 256 * be d 18 1)
        (wr (Reg.SPN_MRW m) (be d 0 4) (wr (Reg.SPN_MRV m) (be d 4 4) (wr (Reg.SPN_MRP m) (be d 8 4) (wr (Reg.SPN_MRQ m) (be d 12 4) s))))

/-- A DISPATCH: a member takes its own entry (R362). -/
def dispatchIn (t : Nat) (d : List Nat) (s : State) : State :=
  let i := if t = 0 then ownMember s else ownCluster s
  let first := be d 4 2
  if serialAfter (tierOf t s).mepoch (be d 0 4) || i < first || first + be d 6 2 ≤ i then s
  else
    let e := d.drop (8 + 12 * (i - first))
    wr Reg.SPN_DP (be e 0 4) (wr Reg.SPN_DQ (be e 4 4) (wr Reg.SPN_DBS (be e 8 1) s))

/-! Reception (R340, R345, R353-R357). -/

/-- The HSP header as sixteen bytes (R342). -/
def headerBytes (f : Frame) : List Nat := hspBytes f.kind [1, f.cls, f.dir, f.dstk, f.src, f.dst, f.seq, f.epoch, f.cts]

/-- A DATA frame goes to the receive ring (R357). -/
def ringFrame (i : Nat) (f : Frame) (s : State) : State :=
  let size := 2 ^ (rd Reg.SPN_RXCFG s % 16)
  let w := rd Reg.SPN_RXWIDX s
  if size ≤ (w + 2 ^ 32 - rd Reg.SPN_RXRIDX s) % 2 ^ 32 then
    bump Reg.SPN_RXDROP whole 1 (spnFlag Reg.SPN_EVT_RXFULL s)
  else
    let a := rd Reg.SPN_RXBASE s + 2048 * (w % size)
    let h := [f.data.length % 2 ^ 11 + 2 ^ 12 * f.port + 2 ^ 14 * f.kind, f.lt % 2 ^ 32, i, 0].flatMap (bytesLE 4)
    busUse 6 a (32 + f.data.length) (fun s =>
      wr Reg.SPN_RXWIDX (w + 1) (stBytes a (h ++ (headerBytes f ++ f.data).map (BitVec.ofNat 8)) s)) s

/-- The words of a payload, least significant byte first (log entry 10). -/
def payloadWords (d : List Nat) : List Nat :=
  (List.range (d.length / 4)).map (fun i => numBE ((d.drop (4 * i)).take 4).reverse)

/-- A tier's manager logic runs: the region's only on a cluster manager with REGION (R364). -/
def tierOn (t : Nat) (s : State) : Bool := t == 0 || (regionOn s && (tierOf 0 s).mgr)

/-- A frame delivered in its stream's order goes to the part that consumes it (R344). -/
def deliverFrame (i : Nat) (f : Frame) (s : State) : State :=
  let t := tierPort f.port s
  if decide (3 ≤ f.kind) && !tierOn t s then s
  else match f.kind with
  | 1 => ringFrame i f s
  | 2 => each ((List.range 64).filter (fun n => stnUsed n s && stnAddr n s == f.src)) (fun n => stationFrame n (payloadWords f.data)) s
  | 3 => beaconIn t f.src f.data s
  | 4 => claimIn t f.data s
  | 5 => reportIn t f.src f.data s
  | 6 => dispatchIn t f.data s
  | _ => s

def streamOf (i : Nat) (s : State) : Option Stream := Tbl.get none s.spn.streams i
def setStream (i : Nat) (x : Option Stream) (s : State) : State := setSpn (fun p => { p with streams := Tbl.put i x p.streams }) s

/-- g = SEQ − E, 0 to 2^32 − 1. -/
def seqGap (q e : Nat) : Nat := (q + 2 ^ 32 - e % 2 ^ 32) % 2 ^ 32

/-- A loss declared in a stream (R355); late frames among the lost make it G1 (R353). -/
def streamLoss (i : Nat) (lost : List Nat) (late : Bool) (s : State) : State :=
  if lost.isEmpty then s
  else
    let s := setStream i ((streamOf i s).map (fun x => { x with lost := (lost.reverse ++ x.lost).take 64 })) s
    recordAtf 118 (if late then 1 else 0) i (min 65535 lost.length) none (spnFlag Reg.SPN_EVT_LOSS s)

/-- Held frames that now follow in order are delivered. -/
def streamRun : Nat → Nat → State → State
  | 0, _, s => s
  | n + 1, i, s =>
    match streamOf i s with
    | none => s
    | some x =>
      match x.held.find? (fun p => p.1 == x.expect) with
      | none => setStream i (some { x with deadline := if x.held.isEmpty then none else x.deadline }) s
      | some (q, f) =>
        let s := setStream i (some { x with held := x.held.filter (fun p => p.1 != q), expect := (q + 1) % 2 ^ 32 }) s
        let s := match f with
          | some f => deliverFrame i f s
          | none => streamLoss i [q] true s
        streamRun n i s

/-- The hold of a stream ends (R355): the missing SEQ are lost, then the held frames are delivered. -/
def streamFlush (i : Nat) (s : State) : State :=
  match streamOf i s with
  | none => s
  | some x =>
    if x.held.isEmpty then s
    else
      let top := x.held.foldl (fun a p => max a (seqGap p.1 x.expect)) 0
      let seqs := (List.range (top + 1)).map (fun k => (x.expect + k) % 2 ^ 32)
      let here (q : Nat) : Option Frame := (x.held.find? (fun p => p.1 == q)).bind (·.2)
      let lost := seqs.filter (fun q => (here q).isNone)
      let s := setStream i (some { x with held := [], deadline := none, expect := (x.expect + top + 1) % 2 ^ 32 }) s
      let s := streamLoss i lost (x.held.any (fun p => p.2.isNone)) s
      each (seqs.filterMap here) (deliverFrame i) s

/-- Frames held across all streams: a frame that arrived late is discarded and takes no place. -/
def heldCount (s : State) : Nat := s.spn.streams.foldl (fun a p => a + (match p.2 with
  | some x => (x.held.filter (fun q => q.2.isSome)).length
  | none => 0)) 0

/-- The stream whose hold began first. -/
def oldestHold (s : State) : Option Nat :=
  let l := s.spn.streams.filterMap (fun p => (p.2.bind (·.deadline)).map (fun d => (p.1, d)))
  (l.find? (fun p => l.all (fun q => decide (p.2 ≤ q.2)))).map (·.1)

/-- A SEQ against E (R355): a frame (none: it arrived late) is delivered with those that follow it, held, or, from g = 64 on, ends
the hold with all below it. -/
def streamPlace (i q : Nat) (f : Option Frame) (port : Nat) (s : State) : State :=
  match streamOf i s with
  | none => s
  | some x =>
    let g := seqGap q x.expect
    if g = 0 then
      streamRun 65 i (setStream i (some { x with held := x.held.filter (fun p => p.1 != q) ++ [(q, f)] }) s)
    else if g < 2 ^ 31 then
      if x.held.any (fun p => p.1 == q) then portDiscard port s
      else
        let d := x.deadline.getD (s.lt + us * (rd Reg.SPN_HOLD s % 2 ^ 14))
        let s := setStream i (some { x with held := x.held ++ [(q, f)], deadline := some d }) s
        if 64 ≤ g then streamFlush i s else s
    else if x.lost.contains q then record 119 0 i none s
    else portDiscard port s

/-- The frame would be held while the hold memory is full (R355). -/
def holdFull (i q : Nat) (f : Option Frame) (s : State) : Bool := match streamOf i s with
  | none => false
  | some x =>
    let g := seqGap q x.expect
    f.isSome && decide (0 < g) && decide (g < 64) && !x.held.any (fun p => p.1 == q) && decide (64 ≤ heldCount s)

/-- A frame with its SEQ in a stream (R353, R355): one that finds the hold memory full ends the oldest hold first (log entries 169,
170). -/
def streamIn (i q : Nat) (f : Option Frame) (port : Nat) (s : State) : State :=
  let s := setStream i ((streamOf i s).map (fun x => { x with last := s.lt })) s
  let s := when (holdFull i q f s) (fun s => match oldestHold s with
    | some j => streamFlush j s
    | none => s) s
  streamPlace i q f port s

/-- The context of a stream, opened by its first frame (R354). -/
def streamFind (src dst dstk seq : Nat) (s : State) : Option Nat × State :=
  match s.spn.streams.find? (fun p => match p.2 with
    | some x => x.src == src && x.dst == dst && x.dstk == dstk
    | none => false) with
  | some (i, _) => (some i, s)
  | none =>
    match (List.range 1024).find? (fun i => (streamOf i s).isNone) with
    | none => (none, spnFlag Reg.SPN_EVT_NOSTREAM s)
    | some i => (some i, setStream i (some ⟨src, dst, dstk, seq, s.lt, [], none, []⟩) s)

/-- Every stream of a source is closed: its held frames are handled as at a deadline (R356). -/
def streamsClose (src : Nat) (s : State) : State :=
  each ((s.spn.streams.filter (fun p => match p.2 with
    | some x => x.src == src
    | none => false)).map (·.1)) (fun i s => setStream i none (streamFlush i s)) s

/-- The EPOCH test of R345: whether the frame goes on, and the state with the newest EPOCH; a newer one closes the source's
streams. -/
def epochTest (f : Frame) (s : State) : Bool × State :=
  match s.spn.epochs.find? (fun p => p.1 == f.src) with
  | none => (true, setSpn (fun p => { p with epochs := Tbl.put f.src f.epoch p.epochs }) s)
  | some (_, e) =>
    if serialAfter16 e f.epoch then (false, portDiscard f.port (spnFlag Reg.SPN_EVT_STALE s))
    else if serialAfter16 f.epoch e then
      (true, streamsClose f.src (setSpn (fun p => { p with epochs := Tbl.put f.src f.epoch p.epochs }) s))
    else (true, s)

/-- A frame is for this device (R343). -/
def forUs (f : Frame) (s : State) : Bool :=
  match f.dstk with
  | 0 => f.dst == ownAddr s
  | 1 => f.dst / 256 == ownCluster s
  | 2 => true
  | _ => f.dst / 256 == ownCluster s && (tierOf 0 s).mgr

/-! Forwarding (R340, R347, R351). -/

/-- A best-effort frame of a payload length may start on a port: in the free part of the cycle, if it ends in it (R351). -/
def bestTime (p n : Nat) (s : State) : Bool :=
  portFree p s && ctAnchored s && decide (freeNs s ≤ cycleOfs s) && decide (cycleOfs s + wireNs n < cycleNs s)

/-- The frame that a port forwards now: a scheduled one when the port is free, else an urgent or PTP one, else a best-effort one, each
where R351 lets its class start. -/
def fwdNext (p : Nat) (s : State) : Option Fwd :=
  let l := Tbl.get [] s.spn.fwd p
  let of (c : Nat) : Option Fwd := l.find? (fun x => x.cls == c)
  match (if portFree p s then of 0 else none), (if urgentMay p s then of 1 else none) with
  | some x, _ => some x
  | none, some x => some x
  | none, none => (of 2).filter (fun x => bestTime p x.len s)

/-- A forwarded frame starts; a Sync takes its residence time (R347). -/
def fwdStart (p : Nat) (x : Fwd) (s : State) : State :=
  let s := setSpn (fun y => { y with fwd := Tbl.put p ((Tbl.get [] y.fwd p).erase x) y.fwd }) s
  emit (.fwd p x.kind (x.fields ++ (if x.kind = 16 then [(s.lt - x.at_) / 8] else []))) (portTaken p x.len (x.cls == 1) s)

/-- The frame that a port forwards now starts. -/
def fwdGo (p : Nat) (s : State) : State := match fwdNext p s with
  | some x => fwdStart p x s
  | none => s

/-- A frame goes to the other ports of its port's role, at once where it may. -/
def fwdOut (p : Nat) (x : Fwd) (s : State) : State :=
  each ((List.range 4).filter (fun q => q != p && spanRole q s == spanRole p s && portUp q s)) (fun q s =>
    fwdGo q (setSpn (fun y => { y with fwd := Tbl.put q (Tbl.get [] y.fwd q ++ [x]) y.fwd }) s)) s

/-- A received frame is forwarded, unless it is for this device alone. -/
def forward (f : Frame) (s : State) : State :=
  if f.dstk = 0 && f.dst == ownAddr s then s
  else fwdOut f.port ⟨min 2 f.cls, f.kind, [1, f.cls, f.dir, f.dstk, f.src, f.dst, f.seq, f.epoch, f.cts] ++ f.data, f.data.length,
    s.lt⟩ s

/-- A frame of this device's own address has come round the ring, or shows a newer authority (R340, R385). -/
def ownFrame (f : Frame) (s0 : State) : State :=
  let s := when (paired s0) (epochSeen 16 f.epoch) s0
  if paired s && serialAfter16 f.epoch (rd Reg.PAR_EPOCH s % 2 ^ 16) then
    fence (setSpn (fun p => { p with epochs := Tbl.put f.src f.epoch p.epochs }) s)
  else s

/-- A received frame behind TMB_SPAN: the last of every INTV on its port is dropped (R220; log entry 151). -/
def spanLost (p : Nat) (s : State) : Bool :=
  on Reg.TMB_CTL Reg.TMB_CTL_SPAN s && fl Reg.TMB_SPAN Reg.TMB_SPAN_PORT s == p && fl Reg.TMB_SPAN Reg.TMB_SPAN_INTV s != 0
    && decide (fl Reg.TMB_SPAN Reg.TMB_SPAN_INTV s ≤ s.spn.drops + 1)

/-- A frame is received on a port in service, unless it is dropped there. -/
def portTakes (p : Nat) (f : State → State) (s : State) : State :=
  if !portUp p s || !s.configured then s
  else if spanLost p s then setSpn (fun x => { x with drops := 0 }) s
  else
    f (when (on Reg.TMB_CTL Reg.TMB_CTL_SPAN s && fl Reg.TMB_SPAN Reg.TMB_SPAN_PORT s == p)
      (setSpn (fun x => { x with drops := x.drops + 1 })) s)

/-- A frame beyond the payload of R341, which the MAC's length limit discards (R339). -/
def frameLong (f : Frame) : Bool := decide (1488 < f.data.length)

/-- A frame of a type that streams carry (R344, R345, R349, R353-R356). -/
def frameIn (f : Frame) (s : State) : State := portTakes f.port (fun s =>
  if frameLong f then portDiscard f.port s
  else if f.src = ownAddr s then ownFrame f s
  else
    let s := forward f s
    let (ok, s) := epochTest f s
    if !ok || !forUs f s || (f.cls == 0 && !ctAnchored s) then s
    else
      let (i, s) := streamFind f.src f.dst f.dstk f.seq s
      match i with
      | none => s
      | some i =>
        let late := f.cls == 0 && decide (ctsExtend f.cts s / cycleNs s * cycleNs s + freeNs s < ctNow s)
        if late then streamIn i f.seq none f.port (spnFlag Reg.SPN_EVT_LATE s)
        else streamIn i f.seq (some f) f.port s) s

/-- An urgent frame outside the streams, with what consumes it; its second copy, with the serial number of the last from its
source, is not consumed (R346). -/
def urgentIn (f : Frame) (serial : Option Nat) (use : State → State) (s : State) : State := portTakes f.port (fun s =>
  if frameLong f then portDiscard f.port s
  else if f.src = ownAddr s then ownFrame f s
  else
    let s := forward f s
    let (ok, s) := epochTest f s
    let key := f.kind * 2 ^ 18 + f.src
    let seen := match serial with
      | some n => (s.spn.serial.find? (fun p => p.1 == key)).any (fun p => p.2 == n)
      | none => false
    if !ok || seen || !forUs f s then s
    else use (match serial with
      | some n => setSpn (fun p => { p with serial := Tbl.put key n p.serial }) s
      | none => s)) s

/-! Transmission (R350, R351). -/

def enW (e k : Nat) (s : State) : Word := rdW (Reg.SPN_EW e k) s
def enOn (e : Nat) (s : State) : Bool := fldGet Reg.SPN_EW_EN (enW e 0 s) != 0
def enKind (e : Nat) (s : State) : Nat := fldGet Reg.SPN_EW_TYPE (enW e 0 s)
def enDstk (e : Nat) (s : State) : Nat := fldGet Reg.SPN_EW_DSTK (enW e 0 s)
def enDst (e : Nat) (s : State) : Nat := fldGet Reg.SPN_EW_DST (enW e 0 s)
def enMgr (e : Nat) (s : State) : Bool := fldGet Reg.SPN_EW_MGRONLY (enW e 0 s) != 0
def enPorts (e : Nat) (s : State) : List Nat := bitsOf 4 (fldGet Reg.SPN_EW_PORTS (enW e 0 s))
def enBe (e : Nat) (s : State) : Bool := fldGet Reg.SPN_EW_BE (enW e 1 s) != 0
def enStart (e : Nat) (s : State) : Nat := 16 * fldGet Reg.SPN_EW_WSTART (enW e 1 s)
def enEnd (e : Nat) (s : State) : Nat := 16 * fldGet Reg.SPN_EW_WEND (enW e 2 s)
def enRel (e : Nat) (s : State) : Option Nat :=
  if fldGet Reg.SPN_EW_RELEN (enW e 2 s) != 0 then some (fldGet Reg.SPN_EW_RELHE (enW e 2 s)) else none
def enBuf (e : Nat) (s : State) : Nat := fldGet Reg.SPN_EW_BUF (enW e 3 s)

/-- The tier of an entry: DSTK 0b10, or a port of region role. -/
def enTier (e : Nat) (s : State) : Nat := if (enPorts e s).any (fun p => spanRole p s == 2) then 1 else 0

/-- The type that an entry sends now: none where only the manager or a claimant sends it and this device is neither, or has been
manager for less than a cycle, where the manager has no report to make, or where the schedule digest is wrong (R350, R358-R360, R363,
R364). -/
def enSends (e : Nat) (s : State) : Option Nat :=
  let x := tierOf (enTier e s) s
  if !acting s || on Reg.SPN_STAT Reg.SPN_STAT_SCHBAD s || s.spn.retired.contains e || !tierOn (enTier e s) s then none
  else if enMgr e s then
    (if x.mgr && enKind e s != 4 then
      (if enKind e s == 3 && decide (tierCycle (enTier e s) s < x.sendFrom) then none else some (enKind e s))
     else if x.claim.isSome && (enKind e s == 3 || enKind e s == 4) then some 4 else none)
  else if enKind e s = 5 && x.mgr then none
  else some (enKind e s)

/-- V_pos, P_f, Q_f, state and HEMACT of the reference Stage, as a REPORT carries them, with sums and a count (R360, R364). -/
def reportBytes (t : Nat) (s : State) : List Nat :=
  let r := rStage s
  let dw := BitVec.ofInt 32 ((wordOf r s : Int) - fnomOf r s)
  let ms := (List.range 256).filter (fun m => bitAt (Reg.SPN_MRST m) 4 s)
  let sum (f : Nat → Nat) : Nat := (BitVec.ofInt 32 (ms.foldl (fun a m => a + rdI (f m) s) 0)).toNat
  bytesBE 4 dw.toNat ++ bytesBE 4 (rd (Reg.DRM_VPOS r) s)
    ++ bytesBE 4 (if t = 0 then rd (Reg.DRM_PF r) s else sum Reg.SPN_MRP)
    ++ bytesBE 4 (if t = 0 then rd (Reg.DRM_QF r) s else sum Reg.SPN_MRQ)
    ++ [fl (Reg.DRM_SSTAT r) Reg.DRM_SSTAT_STATE s, fl (Reg.DRM_STAT r) Reg.DRM_STAT_HEMACT s, rd Reg.SPN_DBS s % 256,
        if t = 0 then 0 else ms.length % 256]
    ++ bytesBE 4 (tierCycle t s) ++ bytesBE 4 (tierOf t s).mepoch ++ [0, 0, 0, 0]

/-- A BEACON's payload (R358): the cluster manager folds the region's offsets into its own (R364). -/
def beaconBytes (t : Nat) (s : State) : List Nat :=
  let x := tierOf t s
  let (df, dv, bsen) := if t = 0 then folded s else (x.df, x.dv, x.bsen)
  let r := rStage s
  let t0 := cycleLt (cycleNow s) s
  let (_, _, w) := anchorAt r t0 s
  bytesBE 4 x.mepoch ++ bytesBE 4 (tierCycle t s) ++ bytesBE 4 (phaseAt r (64 * t0) s / 2 ^ 16 % 2 ^ 32) ++ bytesBE 6 w
    ++ bytesBE 4 (BitVec.ofInt 32 df).toNat ++ bytesBE 4 (BitVec.ofInt 32 dv).toNat
    ++ [bsen, (ownPos t s).getD 0] ++ bytesBE 4 (rd Reg.SPN_SCHID s)

/-- A DISPATCH's payload (R362). -/
def dispatchBytes (t e : Nat) (s : State) : List Nat :=
  let first := enBuf e s % 256
  let n := enBuf e s / 256 % 256
  bytesBE 4 (tierOf t s).mepoch ++ bytesBE 2 first ++ bytesBE 2 n
    ++ ((List.range n).map (fun i => (first + i) % 256)).flatMap (fun m =>
      bytesBE 4 (rd (Reg.SPN_DTP m) s) ++ bytesBE 4 (rd (Reg.SPN_DTQ m) s) ++ [rd (Reg.SPN_DTBS m) s % 256, 0, 0, 0])

/-- The payload of a frame of a type from an entry. -/
def enPayload (e kind : Nat) (s : State) : List Nat :=
  let t := enTier e s
  match kind with
  | 3 => beaconBytes t s
  | 4 => (match (tierOf t s).claim with
    | some (m, _) => bytesBE 4 m ++ [(ownPos t s).getD 0]
    | none => [])
  | 5 => reportBytes t s
  | 6 => dispatchBytes t e s
  | _ => (ldBytes (enBuf e s + 8) (min 1488 (ldN (enBuf e s) 2 s % 2 ^ 11)) s).map (·.toNat)

/-- The next SEQ of a transmit stream (R354). -/
def nextSeq (dstk dst : Nat) (s : State) : Nat × State :=
  let k := dstk * 2 ^ 18 + dst
  let q := Tbl.get 0 s.spn.txSeq k
  (q, setSpn (fun p => { p with txSeq := Tbl.put k ((q + 1) % 2 ^ 32) p.txSeq }) s)

/-- A frame of an entry starts on a port with its SEQ. -/
def frameSend (p e kind cls q : Nat) (s : State) : State :=
  let d := enPayload e kind s
  let h := hspHeader cls (enDstk e s) (enDst e s) q p s
  let s := when (kind == 1 || kind == 2) (fun s =>
    busAsk 7 (enBuf e s) 8 (busAsk 7 (enBuf e s) (8 + d.length)
      (stN (enBuf e s + 4) 4 (ctNow s / 16 % 2 ^ 28) (stN (enBuf e s + 2) 2 0 s)))) s
  let s := portTaken p d.length false (setSpn (fun x => { x with sent := Tbl.put e s.lt x.sent }) s)
  emit (.span p kind (etherFrame kind h d s)) s

/-- A scheduled frame starts on a port: both copies of one firing carry one SEQ (R354). -/
def frameStart (p e kind fired : Nat) (s : State) : State :=
  let (q, s) := match s.spn.shared.find? (fun x => x.1 == e && x.2.1 == fired) with
    | some (_, _, q) => (q, s)
    | none => nextSeq (enDstk e s) (enDst e s) s
  let waits (x : Nat × Nat × Nat) : Bool := s.spn.queue.any (fun l => l.2.any (fun y => y.entry == x.1 && y.fired == x.2.1))
  let others := s.spn.shared.filter (fun x => waits x && !(x.1 == e && x.2.1 == fired))
  frameSend p e kind 0 q (setSpn (fun x => { x with shared := (e, fired, q) :: others,
                                                    urgGone := x.urgGone.filter (fun y => y != p) }) s)

def queueOf (p : Nat) (s : State) : List Tx := Tbl.get [] s.spn.queue p
def setQueue (p : Nat) (l : List Tx) (s : State) : State := setSpn (fun x => { x with queue := Tbl.put p l x.queue }) s

/-- A release line has risen since the entry's last send before the firing. -/
def released (x : Tx) (s : State) : Bool :=
  match enRel x.entry s with
  | none => true
  | some n => decide (x.prior < Tbl.get 0 s.fab.rose n)

/-- A REPORT of a cluster manager to the region manager, of which each region cycle has one (R364). -/
def regionReport (e : Nat) (s : State) : Bool := enKind e s == 5 && enTier e s == 1

/-- A SPAN_TX firing hands an entry to the queues of its ports, those without a link too: what they cannot send misses its window
(R350). -/
def spanTx (e : Nat) (s : State) : State :=
  let n := tierCycle 1 s
  if !enOn e s || enBe e s || !ctAnchored s || (enSends e s).isNone || (regionReport e s && (tierOf 1 s).reported == some n) then s
  else
    let s := when (regionReport e s) (setTier 1 { tierOf 1 s with reported := some n }) s
    let x : Tx := ⟨e, s.lt, Tbl.get 0 s.spn.sent e⟩
    each ((enPorts e s).filter (fun p => spanRole p s != 0 && !portRetired p s)) (fun p s => setQueue p (queueOf p s ++ [x]) s) s

/-- The firing of a waiting frame lies in a cluster cycle that has ended. -/
def firedBefore (x : Tx) (s : State) : Bool := decide (x.fired / 8 + cycleOfs s < s.lt / 8)

/-- The waiting frame that a port starts now, in the cycle of its firing (R12, R350); a masked span transmit reads no payload (R301). -/
def startable (p : Nat) (s : State) : Option Tx :=
  if !portFree p s || masked 7 s then none
  else (queueOf p s).find? (fun x => !firedBefore x s && decide (enStart x.entry s ≤ cycleOfs s) && decide (cycleOfs s < enEnd x.entry s) && released x s)

/-- The best-effort frame of a port that may start, on a unit that acts (R351, R372). -/
def bestMay (p : Nat) (s : State) : Option (Nat × Nat) :=
  match (Tbl.get [] s.spn.best p).head? with
  | some (e, q) => if acting s && !masked 7 s && bestTime p (enPayload e (enKind e s) s).length s then some (e, q) else none
  | none => none

/-- A waiting frame starts: a scheduled one, one to be forwarded first, else an urgent one, else a best-effort one, the device's own
first (R350, R351; log entry 204). -/
def portStart (p : Nat) (s : State) : State :=
  if (fwdNext p s).any (fun x => x.cls == 0) then fwdGo p s
  else match startable p s with
  | some x =>
    let s := setQueue p ((queueOf p s).erase x) s
    (match enSends x.entry s with
      | some k => frameStart p x.entry k x.fired s
      | none => s)
  | none =>
    if urgentMay p s && !(urgentWait p s).isEmpty then urgentGo p s
    else if (fwdNext p s).any (fun x => x.cls == 1) then fwdGo p s
    else match bestMay p s with
      | some (e, q) =>
        frameSend p e (enKind e s) 2 q (setSpn (fun x => { x with best := Tbl.put p (Tbl.get [] x.best p).tail x.best }) s)
      | none => fwdGo p s

/-- An entry is retired (R368). -/
def entryRetire (e : Nat) (s : State) : State :=
  setSpn (fun x => { x with retired := x.retired ++ [e] }) (record 118 2 (0x4100 + e) none s)

/-- A frame that has not started by WEND: held back by its release line it is counted in the buffer header, else TXMISS. -/
def txMiss (p : Nat) (s : State) : State :=
  match (queueOf p s).find? (fun x => decide (enEnd x.entry s ≤ cycleOfs s) || firedBefore x s) with
  | none => s
  | some x =>
    let e := x.entry
    let s := setQueue p ((queueOf p s).erase x) s
    if released x s then
      upsetThen (ctrId 14 e 2) (entryRetire e) (record 118 1 (0x8000 + e) none (spnFlag Reg.SPN_EVT_TXMISS s))
    else if Tbl.get 0 s.spn.held e = x.fired || !(enKind e s == 1 || enKind e s == 2) then s
    else
      let a := enBuf e s + 2
      stN a 2 (min 65535 (ldN a 2 s + 1)) (setSpn (fun y => { y with held := Tbl.put e x.fired y.held }) s)

/-- SPN_BECMD: an entry with BE joins the best-effort queue of its ports; its copies carry one SEQ (R351, R354; log entry
167). -/
def bestEffort (e : Nat) (s : State) : State :=
  if !enOn e s || !enBe e s || !acting s then s
  else
    let (q, s) := nextSeq (enDstk e s) (enDst e s) s
    each ((enPorts e s).filter (fun p => portUp p s))
      (fun p => setSpn (fun x => { x with best := Tbl.put p (Tbl.get [] x.best p ++ [(e, q)]) x.best })) s

/-! Cycles and succession (R349, R359-R364). -/

/-- Secondary control of a tier at the start of its cycle (R361). -/
def secondary (t : Nat) (s : State) : State :=
  let x := tierOf t s
  let r := rStage s
  let w := rd Reg.SPN_SEC s
  let ok := x.prior.filter (·.1)
  let df := if w.testBit 0 then
      let lim : Int := rd (Reg.DRM_FSETMAX r) s
      clampI (-lim) lim (x.df + mulQ 16 (w / 2 ^ 16 : Nat) ((fnomOf r s : Int) - wordOf r s))
    else x.df
  let dv := if w.testBit 1 then
      let ev := if ok.isEmpty then 0 else rdI (Reg.DRM_VSET r) s - roundDiv (ok.foldl (fun a p => a + p.2) 0) ok.length
      let lim := rdI Reg.SPN_VRMAX s
      clampI (-lim) lim (x.dv + mulQ 16 (rd Reg.SPN_SECV s % 2 ^ 16 : Nat) ev)
    else x.dv
  setTier t { x with df := df, dv := dv } s

/-- A tier's cycle begins: beacons missed are counted, claims wait, reports turn over, and the manager runs R361. -/
def tierStart (t n : Nat) (s : State) : State :=
  let x := tierOf t s
  let x := { x with bmiss := if x.seen then 0 else x.bmiss + 1, seen := false,
                    claim := x.claim.map (fun c => (c.1, c.2 + 1)), prior := x.reports, reports := [], cyc := some n }
  let s := setTier t x s
  when x.mgr (secondary t) s

/-- Members that have reported age by a cycle: PRESENT falls after BLOSS cycles without a report (DESIGN CHOICE, log entry 172). -/
def memberAge (s : State) : State :=
  each ((List.range 256).filter (fun m => rd (Reg.SPN_MRST m) s != 0)) (fun m s =>
    let s := bump (Reg.SPN_MRST m) ⟨16, 16⟩ 1 s
    setBitAt (Reg.SPN_MRST m) 4 (decide (fl (Reg.SPN_MRST m) ⟨16, 16⟩ s ≤ bLoss s)) s) s

/-- The highest stage number that the manager's program has enabled by its mains-code message (R362, R366; DEDUCED, log entry 203). -/
def raiseBsen (s : State) : State :=
  let x := tierOf 0 s
  if x.mgr && fl Reg.SPN_MCTX Reg.SPN_MCTX_MSG s == 1 then
    setTier 0 { x with bsen := max x.bsen (fl Reg.SPN_MCTX Reg.SPN_MCTX_VALUE s / 2 ^ 8) } s
  else s

/-- A cluster cycle starts at its CT boundary (R349). -/
def cycleStart (s : State) : State :=
  let n := cycleNow s
  if !s.configured || !ctAnchored s || (tierOf 0 s).cyc == some n then s
  else
    let s := when (tierOf 0 s).cyc.isSome stationCycle s
    let s := when (paired s) (refereeFrame 1) s
    memberAge (raiseBsen (tierStart 0 n (setSpn (fun p => { p with urgGone := [] }) (wr Reg.SPN_CYCNO n s))))

/-- A region cycle starts (R364): the region manager runs R361, and its member table ages. -/
def regionStart (s : State) : State :=
  let n := cycleNow s / rMult s
  if !s.configured || !ctAnchored s || !regionOn s || !(tierOf 0 s).mgr || (tierOf 1 s).cyc == some n then s
  else
    let s := tierStart 1 n s
    let x := tierOf 1 s
    setTier 1 { x with members := x.members.map (fun m => (m.1, m.2.1 + 1, m.2.2)) } s

/-- BLOSS cycles without a valid beacon lose the cluster reference (R359). -/
def beaconLoss (s : State) : State :=
  if on Reg.SPN_STAT Reg.SPN_STAT_REFOK s && decide (bLoss s ≤ (tierOf 0 s).bmiss) then
    setB Reg.SPN_STAT Reg.SPN_STAT_REFOK false s
  else s

/-- A device at position p claims after BLOSS + 2p cycles without a valid beacon (R363). -/
def claimStart (t : Nat) (s : State) : State :=
  let x := tierOf t s
  match ownPos t s with
  | none => s
  | some p =>
    if x.mgr || x.claim.isSome || x.bmiss < bLoss s + 2 * p || (t == 1 && !(tierOf 0 s).mgr) then s
    else setTier t { x with claim := some ((x.mepoch + 1) % 2 ^ 32, 0) } s

/-- A claimant that has met nothing preferred for two cycles becomes manager (R363). -/
def roleTake (t : Nat) (s : State) : State :=
  let x := tierOf t s
  match x.claim with
  | some (e, n) =>
    if n < 2 then s else follow t (ownAddr s) (setTier t { x with mgr := true, claim := none, mepoch := e, bmiss := 0, sendFrom := tierCycle t s + 1 } s)
  | none => s

/-! Time (R347, R348). -/

/-- TRACKING ends without a master (R348). -/
def trackLost (s : State) : State :=
  if on Reg.BOB_CTSTAT Reg.BOB_CTSTAT_TRACKING s then record 20 0 0 none (setB Reg.BOB_CTSTAT Reg.BOB_CTSTAT_TRACKING false s)
  else s

/-- The announce receipt timeout of three intervals, of every grandmaster of a port. -/
def announceTimeout (p : Nat) (s : State) : State :=
  let l := annsOf p s
  let live := l.filter (fun a => decide (s.lt < a.at_ + 3000 * ms))
  if live.length = l.length then s
  else
    let s := selectSlave (setSpn (fun x => { x with ann := Tbl.put p live x.ann }) s)
    when s.spn.slave.isNone trackLost s

/-- The transparent clock passes a PTP message on to the other ports of a port's role, as the urgent frames go (R347, R351). -/
def ptpForward (p kind : Nat) (fields : List Nat) (s : State) : State := fwdOut p ⟨1, kind, fields, 0, s.lt⟩ s

/-- An Announce: it is passed on, and a second one of the same grandmaster within four intervals qualifies it; each grandmaster of a
port has its own record. -/
def announceIn (p gm steps : Nat) (s : State) : State := portTakes p (fun s =>
    let s := ptpForward p 17 [fl Reg.SPN_PTP Reg.SPN_PTP_DOMAIN s, gm, steps] s
    let q := (annsOf p s).any (fun a => a.gm == gm && (a.qualified || decide (s.lt ≤ a.at_ + 4000 * ms)))
    let l := ⟨gm, steps, s.lt, q⟩ :: (annsOf p s).filter (fun a => a.gm != gm)
    selectSlave (setSpn (fun x => { x with ann := Tbl.put p l x.ann }) s)) s

/-- A Sync, passed on with its residence time; one accepted on the slave port with its corrected origin time gives the anchor,
BOB_CTERR and the discipline. -/
def syncIn (p origin : Nat) (s : State) : State := portTakes p (fun s =>
    let s := ptpForward p 16 [origin] s
    if s.spn.slave ≠ some p then s
    else
      let ct := (origin + rd (Reg.SPN_PDLY p) s % 2 ^ 20) % 2 ^ 64
      let s := if ctAnchored s then s
        else record 19 0 0 none (setB Reg.BOB_CTSTAT Reg.BOB_CTSTAT_ANCHORED true
          (wr64 Reg.BOB_CTOFS_LO Reg.BOB_CTOFS_HI ((ct + 2 ^ 64 - s.lt / 8 % 2 ^ 64) % 2 ^ 64) s))
      let e := clampI (-(2 ^ 31 - 1)) (2 ^ 31 - 1) (8 * signed 64 (ct + 2 ^ 64 - ctNow s))
      discSample 1 e (wrI Reg.BOB_CTERR e (setB Reg.BOB_CTSTAT Reg.BOB_CTSTAT_TRACKING true s))) s

/-- A peer-delay exchange: ((t4 − t1) − (t3 − t2)) / 2. -/
def peerDelay (p : Nat) (t1 t2 t3 t4 : Nat) (s : State) : State :=
  if !portUp p s then s
  else
    let d : Int := (((t4 : Int) - t1) - ((t3 : Int) - t2)) / 2
    wr (Reg.SPN_PDLY p) (clampI 0 (2 ^ 20 - 1) d).toNat s

/-- The Pdelay_Req of a port, once in a second (R347). -/
def pdelayReq (p : Nat) (s : State) : State :=
  if Tbl.get 0 s.spn.pdAt p + 1000 * ms ≤ s.lt then
    urgentPut p ⟨18, 0, 0, []⟩ (setSpn (fun x => { x with pdAt := Tbl.put p s.lt x.pdAt }) s)
  else s

/-- Pdelay_Req of a port, and its Sync and Announce in the master state, when their intervals have passed: the ordinary clock is
master on its ports while it follows none (R347: no boundary clock; log entry 166). -/
def ptpInterval (p : Nat) (s0 : State) : State :=
  if !portUp p s0 || !s0.configured || !acting s0 then s0
  else
    let s := pdelayReq p s0
    if s.spn.slave.isSome then s else
    let iv := 1000 * ms / 2 ^ fl Reg.SPN_PTP Reg.SPN_PTP_SYNCIV s
    let s := if ctAnchored s && decide (Tbl.get 0 s.spn.syncAt p + iv ≤ s.lt) then
        urgentPut p ⟨16, 0, 0, []⟩ (setSpn (fun x => { x with syncAt := Tbl.put p s.lt x.syncAt }) s) else s
    if Tbl.get 0 s.spn.annAt p + 1000 * ms ≤ s.lt then
      urgentPut p ⟨17, 0, 0, [ownClock s, 0]⟩
        (setSpn (fun x => { x with annAt := Tbl.put p s.lt x.annAt }) s)
    else s

/-! Links (R339, R368). -/

def portLinkUp (p : Nat) (s : State) : State :=
  if spanRole p s = 0 || portRetired p s || !s.configured then s
  else setBitAt (Reg.SPN_PSTAT p) 0 true { s with clk := { s.clk with spLost := setBit s.clk.spLost p false } }

def portLinkLoss (p : Nat) (s : State) : State :=
  if !portLink p s then s
  else
    let s := bump (Reg.SPN_PSTAT p) ⟨16, 16⟩ 1 (setBitAt (Reg.SPN_PSTAT p) 0 false (setBitAt (Reg.SPN_PEVT p) 0 true s))
    upsetThen (ctrId 14 p 1) (portRetire p) (selectSlave s)

end Sys2Proof.Machine
end

