-- ==== Sys2Proof/Machine/Stitch.lean ====
section
/-! DEFINITION. The Stitch array: sources, the difference equation, the hem on the group totals, modes, the following-error
supervisor, the cycle and its deadline, MAC lanes and coefficient sets (R45, R52, R53, R92-R116). -/

namespace Sys2Proof.Machine

/-! The reference expander (R45). -/

/-- The phase references of a Stage at an angle, Q4.28. -/
def expand (v : VRef) (theta : Nat) : List Int :=
  let p := rotate theta (v.dp * 2 ^ 20, v.qp * 2 ^ 20)
  let n := rotate (2 ^ 32 - theta % 2 ^ 32) (v.dn * 2 ^ 20, v.qn * 2 ^ 20)
  let a := p.1 + n.1
  let b := mul64 (p.2 + n.2) sqrt3Half
  [roundDiv a (2 ^ 20), roundDiv (-a + 2 * b) (2 ^ 21), roundDiv (-a - 2 * b) (2 ^ 21)]

/-- The phase references at the first FCLK of the control tick (R45). -/
def expander (st : Nat) (s : State) : List Int :=
  if hasDrum st s then
    expand (drmOf st s).vuse
      (Int.emod ((fracOf st s : Int) + rdI (Reg.DRM_ANGADV st) s + mainsOffset st s) (2 ^ 32)).toNat
  else [0, 0, 0]

/-! Sources (R96). -/

def laneIsValid (l : Nat) (s : State) : Bool := on (Reg.RNS_LSTAT l) Reg.RNS_LSTAT_VALID s

/-- The newest sample of a lane in 2^-28, before the saturation of Q4.28; 0 where it has delivered none (R93, R96, R110). -/
def laneWide (l : Nat) (s : State) : Int := match (laneOf l s).last with
  | some x => x.v * 2 ^ 9
  | none => 0

/-- The newest sample of a lane as Q4.28. -/
def laneQ28 (l : Nat) (s : State) : Int := satBits 32 (laneWide l s)

def refSel (n : Nat) (s : State) : Nat := fl (Reg.STI_ISRC n) Reg.STI_ISRC_REFSEL s
def refIdx (n : Nat) (s : State) : Nat := fl (Reg.STI_ISRC n) Reg.STI_ISRC_REFIDX s

/-- The instance reports no valid sample on its feedback lane or on a LANE reference (R110). -/
def laneMissing (n : Nat) (s : State) : Bool :=
  (on (Reg.STI_ISRC n) Reg.STI_ISRC_FBEN s && !laneIsValid (fl (Reg.STI_ISRC n) Reg.STI_ISRC_FBLANE s) s)
    || (refSel n s == 5 && !laneIsValid (refIdx n s) s)

def sinkKind (n : Nat) (s : State) : Nat := fl (Reg.STI_SINK n) Reg.STI_SINK_KIND s
def sinkGroup (n : Nat) (s : State) : Nat := fl (Reg.STI_SINK n) Reg.STI_SINK_HEMGRP s

/-! The hem (R52, R53, R97, R98). -/

def totalOf (st g : Nat) (s : State) : Int := Tbl.get 0 (stiOf st s).total g
def isVector (st : Nat) (s : State) : Bool := hasDrum st s && on (Reg.DRM_CFG st) Reg.DRM_CFG_HEMMODE s

/-- The group totals after the hem of a Stage with an active Drum. -/
def boundTotals (st : Nat) (s : State) : List Int :=
  let i := hemEff st s
  let t := (List.range 4).map (fun g => totalOf st g s)
  if isVector st s then
    let (a, b, c) := (t.getD 0 0, t.getD 1 0, t.getD 2 0)
    let z := clarke2 a b c
    let m := magnitude z.1 z.2
    let sc (x : Int) : Int := if i * 2 ^ 20 < m then roundDiv (x * i * 2 ^ 20) m.toNat else x
    [sc a, sc b, sc c, clampI (-i) i (t.getD 3 0)]
  else t.map (clampI (-i) i)
where
  /-- αβ of three references with 20 more fraction bits. -/
  clarke2 (a b c : Int) : Int × Int :=
    (roundDiv ((2 * a - b - c) * 2 ^ 20) 3, mul64 ((b - c) * 2 ^ 20) invSqrt3)

/-- The weight of a leg among those that still share the group's total: numerator and denominator (R97, R113). -/
def legWeight (st n : Nat) (s : State) : Int × Nat :=
  let w (k : Nat) : Int := rdI (Reg.STI_LEGW k) s
  match hemLeg n s with
  | none => (0, 1)
  | some g =>
    let legs := groupLegs st g s
    if legs.any (fun k => (instOf k s).gone) then
      let sum := (legs.filter (fun k => !(instOf k s).gone)).foldl (fun a k => a + w k) 0
      (if (instOf n s).gone then 0 else w n, sum.toNat)
    else (w n, 2 ^ 30)

/-- The leg shares at the start of a cycle: instance, weight. -/
def shares (st : Nat) (s : State) : Tbl (Int × Nat) := (instsOf st s).map (fun n => (n, legWeight st n s))

/-- The reference of a HEMLEG instance before saturation, and whether the hem clamped it (R97). -/
def legRef (st n : Nat) (sh : Tbl (Int × Nat)) (s : State) : Int × Bool :=
  let g := refIdx n s % 4
  let (w, d) := Tbl.get (0, 1) sh n
  if hasDrum st s then (roundDiv ((boundTotals st s).getD g 0 * w) d, false)
  else
    let i := hemEff st s
    let r := roundDiv (totalOf st g s * w) d
    (clampI (-i) i r, clampI (-i) i r != r)

/-! One execution (R92, R93, R106-R110). -/

/-- r of an instance, before saturation, Q4.28. -/
def instRef (st n : Nat) (ph : List Int) (sh : Tbl (Int × Nat)) (s : State) : Int :=
  match refSel n s with
  | 1 => ph.getD (refIdx n s) 0
  | 2 => rdI (Reg.STI_OUT (refIdx n s)) s
  | 3 => (legRef st n sh s).1
  | 4 => rdI (Reg.STI_SETP n) s
  | 5 => laneWide (refIdx n s) s
  | _ => 0

/-- A lane that the instance reads as feedback or feed-forward saturates in Q4.28 (R93). -/
def laneSat (n : Nat) (s : State) : Bool :=
  (on (Reg.STI_ISRC n) Reg.STI_ISRC_FBEN s && satd 32 (laneWide (fl (Reg.STI_ISRC n) Reg.STI_ISRC_FBLANE s) s))
    || (fl (Reg.STI_ISRC n) Reg.STI_ISRC_FFSEL s == 2 && satd 32 (laneWide (fl (Reg.STI_ISRC n) Reg.STI_ISRC_FFIDX s) s))

/-- f of an instance, before saturation, Q4.28. -/
def instFf (n : Nat) (ph : List Int) (s : State) : Int :=
  let i := fl (Reg.STI_ISRC n) Reg.STI_ISRC_FFIDX s
  let x := match fl (Reg.STI_ISRC n) Reg.STI_ISRC_FFSEL s with
    | 1 => ph.getD i 0
    | 2 => laneQ28 i s
    | _ => 0
  roundDiv (rdI (Reg.STI_FFK n) s * x) (2 ^ 28) + rdI (Reg.STI_FFC n) s

/-- e of an instance, before saturation, Q4.44. -/
def instErr (n : Nat) (r : Int) (s : State) : Int :=
  if on (Reg.STI_ISRC n) Reg.STI_ISRC_FBEN s then
    roundDiv (r * 2 ^ 30 - rdI (Reg.STI_MSCL n) s * laneQ28 (fl (Reg.STI_ISRC n) Reg.STI_ISRC_FBLANE s) s) (2 ^ 14)
  else r * 2 ^ 16

/-- A product rounded to the accumulator format, and a sum of products (R93). -/
def prodSum (k : List Int) (v : List Int) : Int :=
  (List.zipWith (fun a b => roundDiv (a * b) (2 ^ 28)) k v).foldl (· + ·) 0

/-- y of an instance (R92): accumulators saturate at 64 bits. Answers y and whether a node saturated. -/
def instY (n set : Nat) (e : List Int) (y : List Int) (s : State) : Int × Bool :=
  let c (f : Nat → Nat → Nat) : Int := rdI (f n set) s
  let three := on (Reg.STI_ICFG n) Reg.STI_ICFG_TYPE s
  let b := [c Reg.STI_B0, c Reg.STI_B1, c Reg.STI_B2] ++ (if three then [c Reg.STI_B3] else [])
  let a := [c Reg.STI_A1, c Reg.STI_A2] ++ (if three then [c Reg.STI_A3] else [])
  let sb := prodSum b e * 2 ^ fl (Reg.STI_CTL n set) Reg.STI_CTL_BSHIFT s
  let sy := satBits 64 sb - prodSum a y
  (satBits 64 sy, satd 64 sb || satd 64 sy)

/-- The output of an instance that does not run R92 (R108): TRACK follows f; else STI_MAN or the last u. -/
def heldOut (n mode : Nat) (f lo hi : Int) (s : State) : Int :=
  if mode = 3 then clampI lo hi f
  else if on (Reg.STI_ICFG n) Reg.STI_ICFG_MANSRC s then rdI (Reg.STI_MAN n) s
  else (instOf n s).u

/-- An instance enters or leaves FALLBACK (R110): EV53. -/
def fallbackCheck (n : Nat) (miss : Bool) (s : State) : State :=
  let mode := fl (Reg.STI_ISTAT n) Reg.STI_ISTAT_MODE s
  if mode = 0 && miss then
    let s := setInst n { instOf n s with good := 0 } (setF (Reg.STI_ISTAT n) Reg.STI_ISTAT_MODE 2 s)
    record 53 0 n none (setB (Reg.STI_IEVT n) Reg.STI_IEVT_FALLBACK true s)
  else s

/-- One execution of an instance with the set in force (R92, R106-R109). -/
def runInst (st n set : Nat) (ph : List Int) (sh : Tbl (Int × Nat)) (s : State) : State :=
  let miss := laneMissing n s
  let s := fallbackCheck n miss s
  let x := instOf n s
  let mode := fl (Reg.STI_ISTAT n) Reg.STI_ISTAT_MODE s
  let (lo, hi) := (rdI (Reg.STI_UMIN n) s, rdI (Reg.STI_UMAX n) s)
  let r0 := instRef st n ph sh s
  let r := satBits 32 r0
  let f0 := instFf n ph s
  let f := satBits 32 f0
  let e0 := instErr n r s
  let e := satBits 48 e0
  let hist := if x.preset then ([e, e, e], List.replicate 3 (satBits 48 ((x.u - x.f) * 2 ^ 16))) else (x.e, x.y)
  let (y, ysat) := instY n set (e :: hist.1) hist.2 s
  let u0 := roundDiv (y + f * 2 ^ 16) (2 ^ 16)
  let auto := mode == 0
  let u := if auto then clampI lo hi u0 else heldOut n mode f lo hi s
  let clamped := (auto && u != u0) || (mode == 3 && u != f)
  let used := satBits 48 ((u - f) * 2 ^ 16)
  let hist_ := on (Reg.STI_ICFG n) Reg.STI_ICFG_AWMODE s
  let yh := if hist_ then used else satBits 48 y
  let sat := laneSat n s || satd 32 r0 || satd 32 f0 || satd 48 e0 || (auto && ysat)
    || (x.preset && satd 48 ((x.u - x.f) * 2 ^ 16))
    || (if auto && !hist_ then satd 48 y else satd 48 ((u - f) * 2 ^ 16))
  let good := if miss then 0 else x.good + 1
  let back := mode == 2 && on (Reg.STI_ICFG n) Reg.STI_ICFG_AUTORET s && decide (16 ≤ good)
  let s := setInst n
    { x with e := if auto then (e :: hist.1).take 3 else [e, e, e],
             y := if auto then (yh :: hist.2).take 3 else [used, used, used],
             f := f, u := u, good := good, preset := false, limited := clamped, ran := auto } s
  let s := when back (setF (Reg.STI_ISTAT n) Reg.STI_ISTAT_MODE 0) s
  let s := setB (Reg.STI_ISTAT n) Reg.STI_ISTAT_CLAMPED clamped
    (setB (Reg.STI_ISTAT n) Reg.STI_ISTAT_SAT sat (setF (Reg.STI_ISTAT n) Reg.STI_ISTAT_SETACT set s))
  let s := when sat (setB (Reg.STI_IEVT n) Reg.STI_IEVT_SAT true) s
  let s := wrI (Reg.STI_OUT n) u (wrI (Reg.STI_ERR n) (satBits 32 (roundDiv e (2 ^ 16))) s)
  if sinkKind n s = 2 then
    setSti st { stiOf st s with total := Tbl.put (sinkGroup n s) u (stiOf st s).total } s
  else s

/-- The leg output reaches the compare shadow of its half-bridge, with the |r| that it was formed from (R102, R148, R194). -/
def writeCompare (n : Nat) (r : Int) (s : State) : State :=
  let h := fl (Reg.STI_SINK n) Reg.STI_SINK_HB s
  wr (Reg.PGN_CMPS h) (compareOf (rdI (Reg.STI_OUT n) s)) (setHb h { hbOf h s with refS := r.natAbs } s)

/-! After the executions: the hem's effect on a HEM instance, and the following-error supervisor (R106, R107, R112). -/

/-- The total of a group after the hem: on a Stage without a Drum, whose total R97 does not bound, the sum of the clamped leg
references (DESIGN CHOICE, log entry 190). -/
def hemOut (st g : Nat) (sh : Tbl (Int × Nat)) (s : State) : Int :=
  if hasDrum st s then (boundTotals st s).getD g 0
  else
    let legs := groupLegs st g s
    if legs.isEmpty then totalOf st g s
    else if legs.any (fun n => (legRef st n sh s).2) then legs.foldl (fun a n => a + (legRef st n sh s).1) 0
    else totalOf st g s

/-- A node of an instance saturated in its last execution (R93). -/
def satFlag (n : Nat) (s : State) : State :=
  setB (Reg.STI_IEVT n) Reg.STI_IEVT_SAT true (setB (Reg.STI_ISTAT n) Reg.STI_ISTAT_SAT true s)

/-- A HEM instance after the hem of a tick (R98, R106, R107): CLAMPED shows whether its total is limited, by UMIN, UMAX or the
hem; in the cycle in which it executes, the history under HIST holds the bounded total less f. -/
def finishHem (st n : Nat) (sh : Tbl (Int × Nat)) (ran : Bool) (s : State) : State :=
  if sinkKind n s = 2 then
    let g := sinkGroup n s
    let b := hemOut st g sh s
    let x := instOf n s
    let s := setB (Reg.STI_ISTAT n) Reg.STI_ISTAT_CLAMPED (x.limited || b != totalOf st g s) s
    if b = totalOf st g s then s
    else if ran && on (Reg.STI_ICFG n) Reg.STI_ICFG_AWMODE s && x.ran then
      let y := (b - x.f) * 2 ^ 16
      when (satd 48 y) (satFlag n) (setInst n { x with y := satBits 48 y :: x.y.drop 1 } s)
    else s
  else s

/-- The following-error timer holds (R112). -/
def feHolds (st n : Nat) (hemAct : Bool) (s : State) : Bool :=
  let m := fl (Reg.STI_ICFG n) Reg.STI_ICFG_FEMASK s
  (m.testBit 0 && hemAct) || (m.testBit 1 && on (Reg.STI_ISTAT n) Reg.STI_ISTAT_CLAMPED s)
    || (m.testBit 2 && hasDrum st s && fl (Reg.DRM_SSTAT st) Reg.DRM_SSTAT_STATE s != 4) || laneMissing n s

def setFe (n t : Nat) (s : State) : State :=
  setB (Reg.STI_ISTAT n) Reg.STI_ISTAT_FEACT (t != 0) (wr (Reg.STI_FECNT n) (min t 0xFFFF) s)

/-- What an expiry does, by FEGRADE (R112, R113). -/
def feExpire (st n : Nat) (s : State) : State :=
  let s := setB (Reg.STI_IEVT n) Reg.STI_IEVT_FEEXP true s
  match fl (Reg.STI_ICFG n) Reg.STI_ICFG_FEGRADE s with
  | 1 =>
    let s := setFe n 0 s
    if (instOf n s).over_ then
      gradeG3 st none (record 52 3 n (some st) (setInst n { instOf n s with over_ := false } s))
    else upsetThen (ctrId 4 n 1) (fun s => setInst n { instOf n s with over_ := true } s) (record 52 1 n (some st) s)
  | 2 => retireHb (fl (Reg.STI_SINK n) Reg.STI_SINK_HB s) (record 52 0 n (some st) s)
  | _ => gradeG3 st (some ⟨52, n⟩) (record 52 3 n (some st) s)

/-- A timer that stands at the end of its 16 bits has expired and has not been set to 0 since: its G3 cause is active, or its
leg is retired. -/
def feStays (st n : Nat) (s : State) : Bool := (g3Of st s).contains ⟨52, n⟩ || legRetired n s

/-- The error is beyond its limit and the timer runs (R112). -/
def feOver (st n : Nat) (hemAct : Bool) (s : State) : Bool :=
  !feHolds st n hemAct s && decide (rdI (Reg.STI_FELIM n) s * 2 ^ 16 < (((instOf n s).e.headD 0).natAbs : Int))

/-- The value of the timer after an evaluation in which it runs: without a grade it stops at FETIME, and so never expires
(R112; log entry 187). -/
def feNext (n : Nat) (s : State) : Nat :=
  let t := rd (Reg.STI_FECNT n) s
  if fl (Reg.STI_ICFG n) Reg.STI_ICFG_FEGRADE s = 0 then min (rd (Reg.STI_FETIME n) s) (t + 1) else t + 1

/-- The timer expires in an evaluation (R112). -/
def feDue (st n : Nat) (hemAct : Bool) (s : State) : Bool :=
  let lim := rd (Reg.STI_FETIME n) s
  feOver st n hemAct s && decide (rd (Reg.STI_FECNT n) s ≤ lim) && decide (lim < feNext n s)
    && !(lim == 0xFFFF && feStays st n s)

/-- One evaluation of the timer (R112). -/
def feRun (st n : Nat) (hemAct : Bool) (s : State) : State :=
  if feHolds st n hemAct s then s
  else if feOver st n hemAct s then
    let t := setFe n (feNext n s) s
    if feDue st n hemAct s then feExpire st n t else t
  else dropG3 st ⟨52, n⟩ (setFe n 0 s)

/-! The cycle (R99-R105). -/

def divOf (n : Nat) (s : State) : Nat := fl (Reg.STI_ICFG n) Reg.STI_ICFG_DIV s + 1

/-- The instance executes in the cycle in hand (R99). -/
def executes (n : Nat) (s : State) : Bool := (instOf n s).cnt == fl (Reg.STI_ICFG n) Reg.STI_ICFG_DPH s

def macLanes (s : State) : Nat := (bitsOf 4 (fl Reg.STI_GSTAT Reg.STI_GSTAT_LANES s)).length

/-- The issue slot of an instance (R94, R104). -/
def issueSlot (lanes n : Nat) (s : State) : Nat :=
  if decide (lanes < 4) && on (Reg.STI_ICFG n) Reg.STI_ICFG_TYPE s then 3 else 2

/-- The instances that feed a group of a Stage. -/
def feeders (st g : Nat) (s : State) : List Nat :=
  (instsOf st s).filter (fun n => sinkKind n s == 2 && sinkGroup n s == g)

/-- The instances that an instance's reference waits for (R100). -/
def waitsFor (st n : Nat) (s : State) : List Nat :=
  match refSel n s with
  | 2 => [refIdx n s]
  | 3 =>
    let g := refIdx n s % 4
    if isVector st s && decide (g < 3) then feeders st 0 s ++ feeders st 1 s ++ feeders st 2 s else feeders st g s
  | _ => []

/-- The instances that an instance takes its INST or HEMLEG reference from (R96, R99). -/
def refFrom (st n : Nat) (s : State) : List Nat :=
  match refSel n s with
  | 2 => [refIdx n s]
  | 3 => feeders st (refIdx n s % 4) s
  | _ => []

/-- The level of an instance in its cascade (R99). -/
def level : Nat → Nat → Nat → State → Nat
  | 0, _, _, _ => 1
  | fuel + 1, st, n, s => 1 + ((refFrom st n s).map (fun k => level fuel st k s)).foldl max 0

/-- The FCLK from which an instance may issue; none while a source has not been issued (R100). -/
def readyAt (st n : Nat) (run : List Nat) (av : Tbl Nat) (s : State) : Option Nat :=
  let extra := if refSel n s = 3 then 2 else 0
  (waitsFor st n s).foldl (fun a k =>
    if run.contains k then
      match a, av.find? (fun p => p.1 == k) with
      | some m, some p => some (max m (p.2 + extra))
      | _, _ => none
    else a) (some 2)

/-- A product fails its residue check on a lane (R103): UPSET, EV48 graded G1, and the lane's counter. -/
def residueFail (lane : Nat) (s : State) : State :=
  upsetThen (ctrId 4 lane 0) (fun s => { s with macRetire := s.macRetire ++ [lane] })
    (record 48 1 lane none (setB Reg.STI_GEVT Reg.STI_GEVT_UPSET true s))

/-- The slot of a pending cycle that starts in FCLK after `a` and before `u`, with its Stage. -/
def slotMet (a u : Nat) (s : State) : Option (Nat × Nat × Nat) :=
  (List.range 4).findSome? (fun k => ((stiOf k s).issues.find? (fun b => decide (a < b.1) && decide (b.1 < u))).map (fun b => (k, b)))

/-- An issued slot that lasts from FCLK `a` to FCLK `u` runs to completion: the slots that pending cycles planned within it, or
within one that waits for it, come later (R101). -/
def slotsWait : Nat → Nat → Nat → State → State
  | 0, _, _, s => s
  | fuel + 1, a, u, s =>
    match slotMet a u s with
    | none => s
    | some (k, b) =>
      let s := slotsWait fuel b.1 (u + b.2) s
      setSti k { stiOf k s with issues := (stiOf k s).issues.map (fun c => if c.1 = b.1 then (u, c.2) else c) } s

/-- An issue slot that the cycle takes (R101). -/
def takeSlot (st t len : Nat) (s : State) : State :=
  let x := stiOf st s
  let n := ((List.range 4).map (fun k => (stiOf k s).issues.length)).foldl (· + ·) 0
  slotsWait n (nowF s + t) (nowF s + t + len) (setSti st { x with issues := x.issues ++ [(nowF s + t, len)] } s)

/-- The FCLK in which the slot of an earlier cycle that is in progress at `t` ends (R101). -/
def slotAfter (busy : List (Nat × Nat)) (t : Nat) : Option Nat :=
  (busy.find? (fun b => decide (b.1 ≤ t) && decide (t < b.1 + b.2))).map (fun b => b.1 + b.2)

/-- The issue slots that pending cycles of other Stages, which started earlier, take: FCLK after this cycle's start (R101). Those
in progress at a later instant are read from the state of that instant. -/
def slotsTaken (st : Nat) (s : State) : List (Nat × Nat) :=
  (List.range 4).flatMap (fun k => if k = st then [] else
    (stiOf k s).issues.filterMap (fun b => if nowF s < b.1 + b.2 then some (b.1 - nowF s, b.2 - (nowF s - b.1)) else none))

/-- The issue of a cycle (R100-R103, R105; log entry 127): `t` the next slot, `todo` the instances left in
order of level, `fails` the issues that fail on a lane, `av` when each output is available. A failed issue is repeated, but on a
Stage that a G5 of the recovery in progress has locked (R214). Answers the state and whether an output came after CDL, which is
not written. -/
def issueGo (st set cdl : Nat) (ph : List Int) (sh : Tbl (Int × Nat)) (run : List Nat) :
    Nat → Nat → List Nat → List (Nat × Nat) → Tbl Nat → Bool → State → State × Bool
  | 0, _, _, _, _, late, s => (s, late)
  | fuel + 1, t, todo, fails, av, late, s =>
    let ready := todo.filterMap (fun n => (readyAt st n run av s).map (fun r => (n, r)))
    match ready.find? (fun p => decide (p.2 ≤ t)) with
    | some (n, _) =>
      let len := issueSlot (macLanes s) n s
      match slotAfter (slotsTaken st s) t with
      | some u => issueGo st set cdl ph sh run fuel u todo fails av late s
      | none =>
        let s := takeSlot st t len s
        match fails.find? (fun p => p.1 == n) with
        | some p =>
          let s := residueFail p.2 s
          let skip := s.evt.recov.contains st
          issueGo st set cdl ph sh run fuel (t + len) (if skip then todo.filter (· != n) else todo) (fails.erase p)
            (if skip then Tbl.put n (t + 6) av else av) late s
        | none =>
          let r := satBits 32 (instRef st n ph sh s)
          let s := runInst st n set ph sh s
          let leg := sinkKind n s == 3
          let slow := leg && decide (cdl < t + 10)
          let s := when (leg && !slow) (writeCompare n r) s
          issueGo st set cdl ph sh run fuel (t + len) (todo.filter (· != n)) fails (Tbl.put n (t + 6) av) (late || slow) s
    | none =>
      match ready.foldl (fun a p => min a p.2) (2 ^ 32) with
      | r => if r = 2 ^ 32 then (s, late || todo.any (fun n => sinkKind n s == 3))
        else issueGo st set cdl ph sh run fuel r todo fails av late s

/-- Of a value that waits since `at_` and the one that waited as it came, the one whose complement word came before this FCLK;
as a new value comes, this one waits behind it (R111). -/
def waited (at_ : Nat) (v prev : Option Nat) (s : State) : Option Nat := if at_ < s.lt then v else prev

/-- Commands and set-points whose complement word came before this FCLK apply from this cycle (R111). -/
def takeUnit (n : Nat) (s : State) : State :=
  let x := instOf n s
  let man := waited x.manAt x.man x.manPrev s
  let setp := waited x.setpAt x.setp x.setpPrev s
  let cmd := waited x.cmdAt x.cmd x.cmdPrev s
  let s := match man with
    | some v => wr (Reg.STI_MAN n) v s
    | none => s
  let s := match setp with
    | some v => wr (Reg.STI_SETP n) v s
    | none => s
  let s := match cmd with
    | some m =>
      if fl (Reg.STI_ISTAT n) Reg.STI_ISTAT_MODE s = 3 then setInst n { instOf n s with prev := m } s
      else setF (Reg.STI_ISTAT n) Reg.STI_ISTAT_MODE m s
    | none => s
  let keep (at_ : Nat) (v : Option Nat) : Option Nat := if at_ < s.lt then none else v
  setInst n { instOf n s with man := keep x.manAt x.man, setp := keep x.setpAt x.setp, cmd := keep x.cmdAt x.cmd,
                              manPrev := none, setpPrev := none, cmdPrev := none } s

/-- A cycle ends late or in time (R105): MISSCNT, EV50 graded G1, and G5 at MISSMAX. -/
def cycleEnd (st : Nat) (late : Bool) (s : State) : State :=
  let s := setB (Reg.STI_SSTAT st) Reg.STI_SSTAT_LATE late s
  if late then
    let n := min 15 (fl (Reg.STI_SSTAT st) Reg.STI_SSTAT_MISSCNT s + 1)
    let s := setF (Reg.STI_SSTAT st) Reg.STI_SSTAT_MISSCNT n (setB (Reg.STI_SEVT st) Reg.STI_SEVT_LATE true s)
    let s := record 50 1 st (some st) s
    if fl (Reg.STI_SCFG st) Reg.STI_SCFG_MISSMAX s ≤ n then gradeG5 st (some ⟨50, st⟩) (record 50 5 st (some st) s) else s
  else dropG5 st ⟨50, st⟩ (setF (Reg.STI_SSTAT st) Reg.STI_SSTAT_MISSCNT 0 s)

/-- HEMACT of the control tick: some reference was clamped (R53). -/
def hemActs (st : Nat) (sh : Tbl (Int × Nat)) (s : State) : Bool :=
  if hasDrum st s then boundTotals st s != (List.range 4).map (fun g => totalOf st g s)
  else (instsOf st s).any (fun n => refSel n s == 3 && (legRef st n sh s).2)

/-- The front of a cycle: its start, the control tick of a Stage without a Drum, I_eff, and what waited for it (R33, R54, R111). -/
def cycleFront (st : Nat) (s : State) : State :=
  let s := setSti st { stiOf st s with start := some (nowF s), issues := [] } s
  let s := each (instsOf st s) (fun n s => setInst n { instOf n s with eWas := (instOf n s).e, yWas := (instOf n s).y } s) s
  let s := if hasDrum st s then s else applyHemRest st (applyCommit st s)
  let s := hemTick st s
  each (instsOf st s) takeUnit s

/-- The instances that execute in a cycle, in order of level (R99). -/
def cycleOrder (st : Nat) (s : State) : List Nat :=
  let run := (instsOf st s).filter (fun n => executes n s)
  (List.range 9).flatMap (fun l => run.filter (fun n => level 8 st n s == l + 1))

/-- The issue of a cycle from its front (R100, R101): the state it leaves, and whether the cycle is late (R105). -/
def cycleIssue (st : Nat) (fails : List (Nat × Nat)) (s : State) : State × Bool :=
  let run := (instsOf st s).filter (fun n => executes n s)
  let order := cycleOrder st s
  let busy := slotsTaken st s
  issueGo st (fl (Reg.STI_SSTAT st) Reg.STI_SSTAT_SETACT s) (fl (Reg.STI_SCFG st) Reg.STI_SCFG_CDL s) (expander st s)
    (shares st s) run (3 * order.length + fails.length + busy.length + 2) 2 order fails [] false s

/-- HEMACT as the following-error timers see it: set before the cycle or by it (R112). -/
def cycleHemAct (st : Nat) (fails : List (Nat × Nat)) (s : State) : Bool :=
  on (Reg.DRM_STAT st) Reg.DRM_STAT_HEMACT s || hemActs st (shares st s) (cycleIssue st fails s).1

/-- The hem of a control tick over the totals in force, after the executions of `order` with the leg shares `sh`: HEMACT, and the
HEM instances (R53, R98, R106, R107). -/
def hemEnd (st : Nat) (sh : Tbl (Int × Nat)) (order : List Nat) (s : State) : State :=
  setB (Reg.DRM_STAT st) Reg.DRM_STAT_HEMACT (hemActs st sh s)
    (each (instsOf st s) (fun n => finishHem st n sh (order.contains n)) s)

/-- The hem's effect after the issue of a cycle (R53). -/
def cycleHem (st : Nat) (fails : List (Nat × Nat)) (s : State) : State :=
  hemEnd st (shares st s) (cycleOrder st s) (cycleIssue st fails s).1

/-- The following-error timers of a list of instances are evaluated (R112). -/
def cycleFe (st : Nat) (fails : List (Nat × Nat)) (l : List Nat) (s : State) : State :=
  each l (fun n => feRun st n (cycleHemAct st fails s)) (cycleHem st fails s)

/-- The executions of a cycle; once two lanes are retired the array issues nothing, and the hem acts on the held totals (R98,
R104). -/
def cycleRun (st : Nat) (fails : List (Nat × Nat)) (s : State) : State :=
  if macLanes s < 3 then hemEnd st (shares st s) [] s
  else cycleEnd st (cycleIssue st fails s).2 (cycleFe st fails (cycleOrder st s) s)

/-- A Stitch cycle of a Stage (R100): the front, the executions, and the divisors and the cycle count, which counts the cycles
begun (log entry 189). -/
def stitchCycle (st : Nat) (fails : List (Nat × Nat)) (s0 : State) : State :=
  let s := cycleRun st fails (cycleFront st s0)
  let s := each (instsOf st s0) (fun n s => setInst n { instOf n s with cnt := ((instOf n s).cnt + 1) % divOf n s } s) s
  wr (Reg.STI_CYC st) (rd (Reg.STI_CYC st) s + 1) s

/-! MAC lanes (R103, R104). -/

/-- L_s of a Stage for a number of lanes in service (R102). -/
def lBound (st lanes : Nat) (s : State) : Nat :=
  let all := (List.range 128).filter (fun n => instUsed n s)
  let slots := all.map (fun n => issueSlot lanes n s)
  8 + slots.foldl (· + ·) 0 + 8 * ((instsOf st s).map (fun n => level 8 st n s)).foldl max 0 + slots.foldl max 0

/-- The control tick of a Stage in FCLK: the period of its START_STITCH slot (R100). -/
def controlTick (st : Nat) (s : State) : Option Nat :=
  (s.tack.slots.find? (fun p => slValid p.2 && slAction p.2 == actStitch && slTarget p.2 == st)).map (fun p => slPeriod p.2)

/-- STI_LOAD: the issue slots of every Stage over its control tick, as UQ0.16, rounded down (R116; log entry 71). -/
def stiLoad (s : State) : Nat :=
  let q := (List.range 4).foldl (fun (a : Nat × Nat) st =>
    match controlTick st s with
    | some (t + 1) =>
      let n := ((instsOf st s).map (fun n => issueSlot (macLanes s) n s)).foldl (· + ·) 0
      (a.1 * (t + 1) + n * a.2, a.2 * (t + 1))
    | _ => a) (0, 1)
  min 0xFFFF (q.1 * 2 ^ 16 / q.2)

/-- STI_LBOUND and DEG3OK of every Stage, each by its own bound (log entry 188), and STI_LOAD (R102, R104, R116). -/
def lBoundShow (s : State) : State :=
  wr Reg.STI_LOAD (stiLoad s) <| each (List.range 4) (fun st s =>
    setB (Reg.STI_SSTAT st) Reg.STI_SSTAT_DEG3OK
      (decide (lBound st 3 s ≤ fl (Reg.STI_SCFG st) Reg.STI_SCFG_CDL s))
      (wr (Reg.STI_LBOUND st) (lBound st (macLanes s) s) s)) s

/-- A lane that waits for the end of the cycle in progress is retired (R104). -/
def macRetire (lane : Nat) (s : State) : State :=
  if s.macRetire.contains lane then
    let s := { s with macRetire := s.macRetire.filter (· != lane) }
    if bitAt Reg.STI_GSTAT lane s then
      let s := record 49 2 lane none (setB Reg.STI_GEVT Reg.STI_GEVT_LANERET true s)
      let s := lBoundShow (setBitAt Reg.STI_GSTAT lane false s)
      let sts := if macLanes s < 3 then (List.range 4).filter (fun st => !(instsOf st s).isEmpty)
        else (List.range 4).filter (fun st => !(instsOf st s).isEmpty
          && decide (fl (Reg.STI_SCFG st) Reg.STI_SCFG_CDL s < rd (Reg.STI_LBOUND st) s))
      gradeG5All sts (some (permanent 49 lane)) s
    else s
  else s

/-! Unit-tier commands (R111, R114). -/

/-- A refused Unit-tier write: STI_REFUSE, REFUSED and EV51. -/
def stiRefuse (st code n : Nat) (s : State) : State :=
  record 51 0 n (some st) (setB (Reg.STI_SEVT st) Reg.STI_SEVT_REFUSED true
    (wr (Reg.STI_REFUSE st) (code + 16 * n) s))

/-- STI_MODECMD (R111). -/
def modeCommand (st n mode : Nat) (s : State) : State :=
  if !(instUsed n s && instStage n s == st) then stiRefuse st 1 n s
  else if mode == 0 && laneMissing n s then stiRefuse st 2 n s
  else setInst n { instOf n s with cmd := some mode, cmdAt := s.lt, cmdPrev := waited (instOf n s).cmdAt (instOf n s).cmd (instOf n s).cmdPrev s } s

/-- STI_MAN and STI_SETP (R111). -/
def manWrite (n : Nat) (v : Word) (s : State) : State :=
  let st := instStage n s
  if !instUsed n s then stiRefuse st 1 n s
  else if v.toInt < rdI (Reg.STI_UMIN n) s || rdI (Reg.STI_UMAX n) s < v.toInt then stiRefuse st 3 n s
  else setInst n { instOf n s with man := some v.toNat, manAt := s.lt, manPrev := waited (instOf n s).manAt (instOf n s).man (instOf n s).manPrev s } s

def setpWrite (n : Nat) (v : Word) (s : State) : State :=
  let st := instStage n s
  if !instUsed n s then stiRefuse st 1 n s
  else if v.toInt < rdI (Reg.STI_SPMIN n) s || rdI (Reg.STI_SPMAX n) s < v.toInt then stiRefuse st 4 n s
  else setInst n { instOf n s with setp := some v.toNat, setpAt := s.lt, setpPrev := waited (instOf n s).setpAt (instOf n s).setp (instOf n s).setpPrev s } s

/-- STI_SETREQ (R114): refused, staged under its lock, or waiting for the hand-over. The register shows a refused request too, and
a reserved bit makes the request an undefined one (log entry 186). -/
def setRequest (st : Nat) (v : Word) (by_ : Nat) (s : State) : State :=
  let set := fldGet Reg.STI_SETREQ_SET v
  let preset := fldGet Reg.STI_SETREQ_PRESET v != 0
  let lock := shadowLock 1 st s
  let s := wr (Reg.STI_SETREQ st) (v.toNat &&& 0x13) s
  if v.toNat &&& 0xFFFFFFEC != 0 then stiRefuse st 7 0 s
  else if !((instsOf st s).all (fun n => on (Reg.STI_CTL n set) Reg.STI_CTL_VALID s)) then stiRefuse st 5 0 s
  else if lockedFor lock by_ s then stiRefuse st 6 0 s
  else match lock with
    | some i => stage i (.stitch st set preset) s
    | none => setB (Reg.STI_SSTAT st) Reg.STI_SSTAT_SETPEND true (setSti st { stiOf st s with req := some (set, preset) } s)

/-- The hand-over of the Stitch sets of a Stage (R115): EV55. -/
def stitchHandover (st : Nat) (s : State) : State :=
  match (stiOf st s).req with
  | none => s
  | some (set, preset) =>
    let s := setSti st { stiOf st s with req := none } s
    let s := when preset (each (instsOf st s) (fun n s => setInst n { instOf n s with preset := true } s)) s
    record 55 0 0 (some st) (setB (Reg.STI_SEVT st) Reg.STI_SEVT_HANDOVER true
      (setF (Reg.STI_SSTAT st) Reg.STI_SSTAT_SETACT set (setB (Reg.STI_SSTAT st) Reg.STI_SSTAT_SETPEND false s)))

/-! Commands. -/

/-- The storage found mismatched as a cycle of a Stage starts (R213). -/
def stitchStorage (st : Nat) (bad : List (BitVec 32)) (s : State) : State :=
  stepStores (fun a => a / 2 ^ 16 == 0x4004 && storeOwner a s == some st) (bad.map (·.toNat)) s

/-- The issues that fail on a lane, as numbers. -/
def failList (fails : List (Fin 128 × Fin 4)) : List (Nat × Nat) := fails.map (fun p => (p.1.val, p.2.val))

/-- The cycle that the firing of a START_STITCH slot starts, with the issues that fail on a MAC lane and the storage found
mismatched (R100, R103, R213). -/
def stitchFire (n : Nat) (fails : List (Fin 128 × Fin 4)) (bad : List (BitVec 32)) (s : State) : State :=
  firing n actStitch (fun x s => stitchCycle (slTarget x % 4) (failList fails) (stitchStorage (slTarget x % 4) bad s)) s

/-- The Stage of a START_STITCH slot. -/
def stitchStage (n : Nat) (s : State) : Nat := slTarget (slotOf n s) % 4

/-- The front of the cycle that a slot's firing starts. -/
def stitchFront (n : Nat) (bad : List (BitVec 32)) (s : State) : State :=
  cycleFront (stitchStage n s) (stitchStorage (stitchStage n s) bad (tackFired n s))

/-- The cycle of the slot is late (R105). -/
def lateDue (n : Nat) (fails : List (Fin 128 × Fin 4)) (bad : List (BitVec 32)) (s : State) : Bool :=
  let f := stitchFront n bad s
  decide (3 ≤ macLanes f) && (cycleIssue (stitchStage n s) (failList fails) f).2

/-- The instance returns from FALLBACK in the cycle of the slot (R110). -/
def returnDue (n inst : Nat) (fails : List (Fin 128 × Fin 4)) (bad : List (BitVec 32)) (s : State) : Bool :=
  let f := stitchFront n bad s
  decide (3 ≤ macLanes f) && fl (Reg.STI_ISTAT inst) Reg.STI_ISTAT_MODE f == 2
    && fl (Reg.STI_ISTAT inst) Reg.STI_ISTAT_MODE (cycleIssue (stitchStage n s) (failList fails) f).1 == 0

/-- The following-error timer of the instance expires in the cycle of the slot (R112). -/
def expiryDue (n inst : Nat) (fails : List (Fin 128 × Fin 4)) (bad : List (BitVec 32)) (s : State) : Bool :=
  let st := stitchStage n s
  let f := stitchFront n bad s
  let l := cycleOrder st f
  decide (3 ≤ macLanes f) && l.contains inst
    && feDue st inst (cycleHemAct st (failList fails) f) (cycleFe st (failList fails) (l.takeWhile (fun k => k != inst)) f)

/-- The firing, taken only where what the command names comes about in it (log entry 12). -/
def stitchWhen (due : Bool) (n : Nat) (fails : List (Fin 128 × Fin 4)) (bad : List (BitVec 32)) (s : State) : State :=
  if tackReady n actStitch s && due then stitchFire n fails bad s else s

def execStartStitch (slot : Fin 4096) (fails : List (Fin 128 × Fin 4)) (bad : List (BitVec 32)) (s : State) :
    Host.Outcome State Fault Refusal := .next (stitchFire slot fails bad s)

/-- A retired MAC lane at the end of the cycle in progress (R104). -/
def execMacLaneRetire (mac : Fin 4) (s : State) : Host.Outcome State Fault Refusal := .next (macRetire mac s)

/-- A cycle that is not complete by CDL (R105). -/
def execStitchCycleLate (slot : Fin 4096) (fails : List (Fin 128 × Fin 4)) (bad : List (BitVec 32)) (s : State) :
    Host.Outcome State Fault Refusal :=
  .next (stitchWhen (lateDue slot fails bad s) slot fails bad s)

/-- A cycle in which an instance returns from FALLBACK (R110). -/
def execFallbackAutoReturn (slot : Fin 4096) (inst : Fin 128) (fails : List (Fin 128 × Fin 4)) (bad : List (BitVec 32))
    (s : State) : Host.Outcome State Fault Refusal :=
  .next (stitchWhen (returnDue slot inst fails bad s) slot fails bad s)

/-- A cycle in which an instance's following-error timer expires (R112). -/
def execFollowingErrorExpiry (slot : Fin 4096) (inst : Fin 128) (fails : List (Fin 128 × Fin 4))
    (bad : List (BitVec 32)) (s : State) : Host.Outcome State Fault Refusal :=
  .next (stitchWhen (expiryDue slot inst fails bad s) slot fails bad s)

def execStiModeAuto (st : Fin 4) (inst : Fin 128) (s : State) : Host.Outcome State Fault Refusal :=
  .next (pairStore (Reg.STI_MODECMD st) (modeCommand st inst 0) s)

def execStiModeManual (st : Fin 4) (inst : Fin 128) (s : State) : Host.Outcome State Fault Refusal :=
  .next (pairStore (Reg.STI_MODECMD st) (modeCommand st inst 1) s)

def execStiManWrite (inst : Fin 128) (value : BitVec 32) (s : State) : Host.Outcome State Fault Refusal :=
  .next (pairStore (Reg.STI_MAN inst) (manWrite inst value) s)

def execStiSetpWrite (inst : Fin 128) (value : BitVec 32) (s : State) : Host.Outcome State Fault Refusal :=
  .next (pairStore (Reg.STI_SETP inst) (setpWrite inst value) s)

def execStiSetRequest (st : Fin 4) (value : BitVec 32) (by_ : Fin 19) (s : State) : Host.Outcome State Fault Refusal :=
  .next (pairFrom (Reg.STI_SETREQ st) by_ (setRequest st value by_) s)

end Sys2Proof.Machine
end

