-- ==== Sys2Proof/Machine/PairCore.lean ====
section
/-! DEFINITION. Paired controllers at a Drum-step firing of CSTAGE: the state copy and its installation, the health word, the
entry into TAKING (Paired Controllers and Takeover, R372-R385). -/

namespace Sys2Proof

/-- The bytes 0 to 7,519 of a state copy: the manual gives its sections and their content (R375), not the place of each value in
its section. -/
opaque Config.copyByte : Machine.Copy → Nat → BitVec 8

/-- What a receiver reads from those bytes. -/
opaque Config.copyRead : List Nat → Machine.Copy

namespace Machine

def setPar (f : ParSt → ParSt) (s : State) : State := { s with par := f s.par }
def cStage (s : State) : Nat := fl Reg.PAR_CFG Reg.PAR_CFG_CSTAGE s
def isPrimary (s : State) : Bool := on Reg.PAR_CFG Reg.PAR_CFG_PRIMARY s
def installs (s : State) : Bool := roleOf s == roleSyncing || roleOf s == roleStandby
def parFlag (F : Fld) (s : State) : State := setB Reg.PAR_EVT F true s
def healthy (s : State) : Bool := on Reg.PAR_STAT Reg.PAR_STAT_HEALTHY s

/-- CSTAGE's outer tick in eu. -/
def outerEu (s : State) : Nat := fclk * outerOf (cStage s) s

/-! The pair link (R374). -/

/-- A frame of the pair link, which waits for its lane: header block, data and the CRC block. -/
def pairFrame (type seg cno : Nat) (data : List Nat) (s : State) : State :=
  let h := bytesBE 8 (2 ^ 60 * type + 2 ^ 56 + 2 ^ 48 * seg + 2 ^ 32 * (cno % 2 ^ 16) + rd Reg.PAR_EPOCH s) ++ data
  when (on Reg.PAR_STAT Reg.PAR_STAT_PLINK s)
    (setPar (fun p => { p with tx := p.tx ++ [⟨type, seg, h ++ bytesBE 8 (crc32 h)⟩] })) s

/-- The lane of a COPY segment: even ones on lane 0, odd ones on lane 1, every one on a lane that is alone. -/
def segLane (i : Nat) (s : State) : Nat :=
  if s.par.lanes % 4 = 1 then 0 else if s.par.lanes % 4 = 2 then 1 else i % 2

/-- The lane of a frame, and its place in the order of R374. -/
def txLane (x : PairTx) (s : State) : Nat := if x.kind = 1 then segLane x.seg s else segLane 0 s
def txRank (k : Nat) : Nat :=
  match k with
  | 5 => 0
  | 6 => 1
  | 7 => 1
  | 3 => 2
  | 4 => 2
  | 2 => 3
  | _ => 4

/-- The frame that a lane sends next. -/
def txNext (l : Nat) (s : State) : Option PairTx :=
  (s.par.tx.filter (fun x => txLane x s == l)).foldl (fun (a : Option PairTx) x => match a with
    | some y => if txRank x.kind < txRank y.kind then some x else a
    | none => some x) none

/-- A block of 8 bytes takes 66 bits at 6.25 Gbaud: 84.48 eu, in hundredths. -/
def pairBlock : Nat := 8448

/-- A lane over one FCLK: a frame in transmission completes; then the next one goes. A lane that is down sends nothing. -/
def laneRun (l : Nat) (s : State) : State :=
  let t := max (Tbl.get 0 s.par.laneFree l) (100 * s.lt)
  if !s.par.lanes.testBit l || decide (100 * (s.lt + fclk) ≤ t) then s
  else match txNext l s with
    | none => s
    | some x =>
      emit (.pair x.kind l x.bytes)
        (setPar (fun p => { p with tx := p.tx.erase x, laneFree := Tbl.put l (t + x.bytes.length / 8 * pairBlock) p.laneFree }) s)

/-- The pair link over one FCLK: what waits goes lane by lane, and is lost with the link. -/
def pairRun (s : State) : State :=
  if on Reg.PAR_STAT Reg.PAR_STAT_PLINK s then laneRun 1 (laneRun 0 s) else setPar (fun p => { p with tx := [] }) s

/-- PLINK and ONELANE as the lanes stand. -/
def lanesShow (s : State) : State :=
  let up := bitsOf 2 (s.par.lanes % 4)
  setB Reg.PAR_STAT Reg.PAR_STAT_PLINK (!up.isEmpty) (setB Reg.PAR_STAT Reg.PAR_STAT_ONELANE (up.length == 1) s)

/-! The state copy (R375). -/

/-- The registers that hold a Drum's states. -/
def copyRegs (st : Nat) : List Nat :=
  [Reg.DRM_PF st, Reg.DRM_QF st, Reg.DRM_E st, Reg.DRM_DELTA st, Reg.DRM_G st, Reg.DRM_UR st, Reg.DRM_VD st, Reg.DRM_VQ st,
   Reg.DRM_HEMEFF st, Reg.DRM_DERN st, Reg.DRM_SCAUSE st, Reg.DRM_HOLDW st, Reg.DRM_REPCNT st]

/-- The paired registers whose values a copy carries as words (R375). -/
def copyUnit : List Nat :=
  (List.range 4).flatMap (fun st => [Reg.DRM_PSET st, Reg.DRM_QSET st, Reg.DRM_VSET st, Reg.DRM_FSET st, Reg.DRM_MP st,
    Reg.DRM_NQ st, Reg.DRM_HEM st, Reg.DRM_MODE st, Reg.DRM_KPD st])
  ++ (List.range 128).flatMap (fun n => [Reg.STI_MAN n, Reg.STI_SETP n]) ++ (List.range 64).map Reg.HMP_CTRIM
  ++ [Reg.SPN_MCTX] ++ (List.range 256).flatMap (fun m => [Reg.SPN_DTP m, Reg.SPN_DTQ m])

/-- Bits of DRM_SSTAT that belong to the state machine. -/
def copyFlags : List Fld :=
  [Reg.DRM_SSTAT_STATE, Reg.DRM_SSTAT_SYNCOK, Reg.DRM_SSTAT_DEADOK, Reg.DRM_SSTAT_JOIN, Reg.DRM_SSTAT_ADMIT]

def copyStage (st : Nat) (s : State) : CopyStage :=
  { phase := (bobOf st s).phase, word := wordOf st s, bob := rdW (Reg.BOB_STAT st) s,
    drum := { drmOf st s with pb := .reset, bus := .reset },
    regs := rdW (Reg.DRM_SSTAT st) s :: (copyRegs st).map (rdW · s) }

/-- The last cycle of a Stage is not yet complete (R102). -/
def cycleOpen (st : Nat) (s : State) : Bool := (stiOf st s).issues.any (fun b => decide (nowF s < b.1 + 10))

/-- The histories of an instance after the last completed cycle of its Stage. -/
def doneHist (n : Nat) (s : State) : List Int × List Int :=
  let x := instOf n s
  if cycleOpen (instStage n s) s then (x.eWas, x.yWas) else (x.e, x.y)

def copyInst (n : Nat) (s : State) : CopyInst :=
  let x := instOf n s
  let (e, y) := doneHist n s
  { y := y, e := e, mode := fl (Reg.STI_ISTAT n) Reg.STI_ISTAT_MODE s, prev := x.prev,
    set := fl (Reg.STI_ISTAT n) Reg.STI_ISTAT_SETACT s, fe := rd (Reg.STI_FECNT n) s, retired := legRetired n s, man := x.man,
    setp := x.setp, cmd := x.cmd }

def copyTake (cno : Nat) (s : State) : Copy :=
  { epoch := rd Reg.PAR_EPOCH s, cno := cno, lt := s.lt, stages := (List.range 4).map (copyStage · s),
    insts := (List.range 128).map (copyInst · s), unit := copyUnit.map (rdW · s),
    sets := (List.range 4).map (fun st => fl (Reg.STI_SSTAT st) Reg.STI_SSTAT_SETACT s),
    carSets := (List.range 16).map (carSet · s), setReqs := (List.range 4).map (fun st => (stiOf st s).req),
    carReqs := (List.range 4).map (fun st => (pgnOf st s).req), journal := s.par.journal.take 4, evSeq := rd Reg.EVT_NSEQ s,
    retired := s.par.power }

/-- The address and length of the RETAIN chunk of a copy number: 512 bytes of the segment, the chunks in turn, each once in 256
copies; none past its end. -/
def chunkAt (cno : Nat) (s : State) : Option (Nat × Nat) :=
  match retainSeg s with
  | some g => if 512 * (cno % 256) < g.len then some (g.base + 512 * (cno % 256), min 512 (g.len - 512 * (cno % 256))) else none
  | none => none

/-- The 8,192 bytes of a copy. -/
def copyBytes (c : Copy) (s : State) : List Nat :=
  (List.range 7520).map (fun i => (Config.copyByte c i).toNat)
    ++ (match chunkAt c.cno s with
      | some (a, n) => (ldBytes a n s).map (·.toNat) ++ List.replicate (512 - n) 0
      | none => List.replicate 512 0)
    ++ List.replicate 160 0

/-- FCLK 480 of a Drum-step firing of CSTAGE (R375-R377): a standby takes its own snapshot, the ACTIVE unit sends its copy; with
one lane, at every second firing. -/
def pairSnapshot (s : State) : State :=
  if !paired s || s.par.snapped || s.par.firedAt != some (nowF s - 480) || nowF s < 480 then s
  else
    let s := setPar (fun p => { p with snapped := true }) s
    if installs s then
      setPar (fun p => { p with own := (⟨s.lt, (List.range 4).map (fun st => (st, (bobOf st s).phase)),
        (List.range 128).map (fun n => (n, (doneHist n s).2))⟩ :: p.own).take 4 }) s
    else if roleOf s = roleActive then
      if s.par.skip then setPar (fun p => { p with skip := false }) s
      else if masked 8 s then s
      else
        let cno := (rd Reg.PAR_COPYNO s + 1) % 2 ^ 32
        let b := copyBytes (copyTake cno s) s
        let s := match chunkAt cno s with
          | some (a, n) => busAsk 8 a n s
          | none => s
        let s := each (List.range 32) (fun i s => pairFrame 1 i cno ((b.drop (256 * i)).take 256) s) s
        wr Reg.PAR_COPYNO cno
          (capCopy <| setPar (fun p => { p with journal := p.journal.drop 4, skip := on Reg.PAR_STAT Reg.PAR_STAT_ONELANE s }) s)
    else s

/-! Installation (R377). -/

/-- The own snapshot at the LT of a copy: of the firings an outer tick apart, the one that its LT names (log entry 175). -/
def ownSnap (c : Copy) (s : State) : Option OwnSnap :=
  s.par.own.find? (fun o => decide (2 * ((o.lt : Int) - c.lt).natAbs ≤ outerEu s))

/-- The copied AT of a Stage less its own at the snapshot, in a-counts, as a signed 64-bit value. -/
def atGap (c : Copy) (o : OwnSnap) (st : Nat) : Int :=
  match c.stages[st]? with
  | some x => signed 64 ((x.phase / 2 ^ 16 + 2 ^ 64 - Tbl.get 0 o.phase st / 2 ^ 16) % 2 ^ 64)
  | none => 0

/-- Bobbin word and Drum of a Stage; the AT once in SYNCING, from the own snapshot of the copy's LT. -/
def installStage (c : Copy) (o : Option OwnSnap) (st : Nat) (s : State) : State :=
  match c.stages[st]? with
  | none => s
  | some x =>
    if !hasAngle st s then s
    else
      let s := match (if s.par.aligned then none else o) with
        | none => setWord st x.word (fixReached st s)
        | some o => alignBy st (atGap c o st) x.word s
      let s := wrW (Reg.BOB_STAT st) x.bob s
      if !hasDrum st s then s
      else
        let d := drmOf st s
        let ss := (x.regs.headD 0)
        let s := each copyFlags (fun F s => setF (Reg.DRM_SSTAT st) F (fldGet F ss) s) s
        let s := each ((copyRegs st).zip x.regs.tail) (fun p s => wrW p.1 p.2 s) s
        setDrm st { x.drum with pb := d.pb, bus := d.bus, pendOn := d.pendOn, pendOff := d.pendOff, brkPrev := d.brkPrev,
                                dbusPrev := d.dbusPrev, busFirst := d.busFirst } s

/-- Copied less own y of an instance at the snapshot; no correction without one. -/
def yGaps (n : Nat) (x : CopyInst) (o : Option OwnSnap) : List Int :=
  match o with
  | some o => List.zipWith (· - ·) x.y (Tbl.get [0, 0, 0] o.y n)
  | none => [0, 0, 0]

/-- Stitch histories, modes and the rest of an instance, before the next cycle of its Stage issues. -/
def installInst (n : Nat) (x : CopyInst) (o : Option OwnSnap) (s : State) : State :=
  if !instUsed n s then s
  else
    let i := instOf n s
    let y := List.zipWith (fun a g => satBits 48 (a + g)) i.y (yGaps n x o)
    let s := setInst n { i with y := y, e := x.e, prev := x.prev, man := x.man, setp := x.setp, cmd := x.cmd } s
    let s := if legRetired n s then s else setF (Reg.STI_ISTAT n) Reg.STI_ISTAT_MODE x.mode s
    setFe n x.fe (setF (Reg.STI_ISTAT n) Reg.STI_ISTAT_SETACT x.set s)

/-- A carrier takes the copied set. -/
def installCarSet (c set : Nat) (s : State) : State :=
  if !carUsed c s || carSet c s == set then s
  else carShow c (carPlace c s.lt (setF (Reg.PGN_CSTAT c) Reg.PGN_CSTAT_SETACT set s))

/-- The set requests that wait for their hand-over. -/
def installReqs (c : Copy) (s : State) : State :=
  let s := each ((List.range 4).zip c.setReqs) (fun p s =>
    setB (Reg.STI_SSTAT p.1) Reg.STI_SSTAT_SETPEND p.2.isSome (setSti p.1 { stiOf p.1 s with req := p.2 } s)) s
  each ((List.range 4).zip c.carReqs) (fun p s =>
    setB (Reg.PGN_SSTAT p.1) Reg.PGN_SSTAT_SETPEND p.2.isSome (setPgn p.1 { pgnOf p.1 s with req := p.2 } s)) s

/-- A retirement that the ACTIVE unit has recorded (R159). -/
def installRetired (h : Nat) (s : State) : State :=
  if !hbUsed h s || hbState h s == 2 then s
  else
    let s := setPar (fun p => { p with power := p.power ++ [h] }) s
    if lastLeg h s then gradeG5 (hbStage h s) (some (permanent 60 h)) (retireState h s)
    else redistribute h (retireState h s)

/-- A journalled slot write: into force at its S, or now with JLATE. -/
def installSlotAt (j : Nat × Option Slot × Nat) (s : State) : State :=
  if s.lt < j.2.2 then { s with tack := { s.tack with switch := s.tack.switch ++ [j] } }
  else loadShow (installSlot j.1 j.2.1 s.lt (setB Reg.PAR_STAT Reg.PAR_STAT_JLATE true s))

/-- The last complete copy replaces the standby's own results. Answers bits 3 to 5 of the health word (R377, R379; log
entry 175). -/
def copyInstall (c : Copy) (chunk : List Nat) (s : State) : Nat × State :=
  let drums := (List.range 4).filter (fun st => hasDrum st s)
  let tolA : Nat := 2 ^ fl Reg.PAR_TOL Reg.PAR_TOL_ATTOL s
  let tolE : Nat := fl Reg.PAR_TOL Reg.PAR_TOL_ETOL s * 2 ^ 28
  let tolY : Nat := fl Reg.PAR_TOL Reg.PAR_TOL_STITOL s * 2 ^ 44
  let eOf (st : Nat) : Int := match c.stages[st]? with
    | some x => (x.regs.getD 3 0).toInt
    | none => 0
  let o := ownSnap c s
  let atOk := o.any (fun o => drums.all (fun st => decide ((atGap c o st).natAbs ≤ tolA)))
  let eOk := drums.all (fun st => decide ((eOf st - rdI (Reg.DRM_E st) s).natAbs * 1000 ≤ tolE))
  let insts := (List.range 128).zip c.insts
  let stiOk := o.isSome
    && insts.all (fun p => !instUsed p.1 s || (yGaps p.1 p.2 o).all (fun g => decide (g.natAbs * 1000 ≤ tolY)))
  let s := each (List.range 4) (installStage c o) s
  let s := each (copyUnit.zip c.unit) (fun p s => wrW p.1 p.2 s) s
  let s := each ((List.range 4).zip c.sets) (fun p s => setF (Reg.STI_SSTAT p.1) Reg.STI_SSTAT_SETACT p.2 s) s
  let s := each ((List.range 16).zip c.carSets) (fun p s => installCarSet p.1 p.2 s) s
  let s := installReqs c (each insts (fun p s => installInst p.1 p.2 o s) s)
  let s := each c.retired installRetired s
  let s := each c.journal installSlotAt s
  let s := match chunkAt c.cno s with
    | some (a, n) => busUse 8 a n (stBytes a ((chunk.take n).map (BitVec.ofNat 8))) s
    | none => s
  let b (x : Bool) (k : Nat) : Nat := if x then 2 ^ k else 0
  (b atOk 3 + b eOk 4 + b stiOk 5,
    wr Reg.PAR_COPYNO c.cno (wr Reg.PAR_EPOCH c.epoch
      (setPar (fun p => { p with ready := none, aligned := p.aligned || o.isSome, copyEpoch := some c.epoch, evSeq := c.evSeq }) s)))

/-! Health (R379, R380). -/

/-- The last 16 copies due were complete, and no overflow of the counter holds the bit (R388). -/
def copyOk (s : State) : Bool := decide (16 ≤ s.par.good) && match s.par.copyHeld with
  | some t => decide (t + 1000 * ms < s.lt)
  | none => true

/-- The lanes that a Drum or an enabled Stitch instance names. -/
def namedLanes (s : State) : List Nat :=
  let three (w : Word) : List Nat := [fldGet Reg.DRM_LANE0_LA w, fldGet Reg.DRM_LANE0_LB w, fldGet Reg.DRM_LANE0_LC w]
  (List.range 4).flatMap (fun st => if hasDrum st s then
      three (rdW (Reg.DRM_LANE0 st) s) ++ three (rdW (Reg.DRM_LANE1 st) s) ++ three (rdW (Reg.DRM_BUSLANE st) s) else [])
    ++ (List.range 128).flatMap (fun n => if instUsed n s then
      (if on (Reg.STI_ISRC n) Reg.STI_ISRC_FBEN s then [fl (Reg.STI_ISRC n) Reg.STI_ISRC_FBLANE s] else [])
        ++ (if refSel n s == 5 then [refIdx n s] else [])
        ++ (if fl (Reg.STI_ISRC n) Reg.STI_ISRC_FFSEL s == 2 then [fl (Reg.STI_ISRC n) Reg.STI_ISRC_FFIDX s] else []) else [])

/-- The health word; `own` holds bits 3 to 5 as a copy gave them. -/
def healthWord (own : Nat) (s : State) : Nat :=
  let b (x : Bool) (k : Nat) : Nat := if x then 2 ^ k else 0
  let r := roleOf s
  let wait := r == roleWait
  let one := wait || r == roleActive || r == roleTaking
  b (!halted s) 0 + b (wait || decide ((rdI Reg.PAR_LTERR s).natAbs ≤ 8)) 1
    + (if one then 0x3C else b (if r == roleFenced then bitAt Reg.PAR_HEALTH 2 s else copyOk s) 2 + own)
    + b ((List.range 24).all (fun n => !on (Reg.LLK_LCFG n) Reg.LLK_LCFG_ENABLE s || linkState n s == lkReady)) 6
    + b ((List.range 4).all (fun k => !bankEnabled k s || on (Reg.ADC_BSTAT k) Reg.ADC_BSTAT_READY s)
        && (namedLanes s).all (fun l => laneIsValid l s)) 7
    + b s.par.selftest 8 + b (on Reg.SAF_STAT Reg.SAF_STAT_ARMED s && !on Reg.SAF_STAT Reg.SAF_STAT_LOCKOUT s) 9

/-- The word is formed: PAR_HEALTH, HEALTHY and its fall, the return of a FENCED unit, REF_ALIVE and the HEALTH frame (R374, R379,
R381, R385). -/
def healthForm (own : Nat) (s : State) : State :=
  let w := healthWord own s
  let was := healthy s
  let now := w == 0x3FF && !s.par.g4
  let s := setB Reg.PAR_STAT Reg.PAR_STAT_HEALTHY now (wr Reg.PAR_HEALTH w s)
  let s := when (was && !now) (fun s => record 125 0 w none (parFlag Reg.PAR_EVT_HEALTHFALL s)) s
  let s := when (roleOf s == roleFenced && now && s.par.restarted) enterSyncing s
  let s := when (was && !now && roleOf s == roleStandby) (setB Reg.PAR_STAT Reg.PAR_STAT_HBPEND false) s
  let s := if roleOf s == roleStandby && now then setPar (fun p => { p with since := some (p.since.getD s.lt) }) s
    else setPar (fun p => { p with since := none }) s
  let s := if now && !s.par.aliveStop then
      emit (.pin "REF_ALIVE" 0 (if s.par.alive then 0 else 1) s.lt) (setPar (fun p => { p with alive := !p.alive }) s) else s
  pairFrame 2 0 0 (bytesBE 8 (2 ^ 32 * roleOf s + w)) s

/-! Taking over (R384, R387). -/

/-- A unit enters TAKING with an epoch and the instant H: AUTH, an EPOCH block on every READY link, and its own edges from here
on, the first of each half-bridge with RESUME. -/
def takeAuthority (epoch h : Nat) (s : State) : State :=
  let s := wr64 Reg.PAR_HAND_LO Reg.PAR_HAND_HI h (wr Reg.PAR_EPOCH epoch s)
  let s := setPar (fun p => { p with grant := none, ready := none, aliveStop := false, seen := epoch % 2 ^ 32 }) s
  let s := setRole roleTaking (setB Reg.PAR_STAT Reg.PAR_STAT_HBPEND false s)
  let s := pairFrame 5 0 0 (bytesBE 8 h) s
  let s := each ((List.range 24).filter (fun n => linkState n s == lkReady)) (fun n s => sendTwice n 1 (epochBlock h s) s) s
  let s := each ((List.range 104).filter (fun b => hbUsed b s)) (fun b s => setHb b { hbOf b s with resume := true } s) s
  each (List.range 4) (fun st s =>
    if hasDrum st s then when (dsPulses (drumState st s)) (pulsesEnable st) s else pulsesAuto st s) s

/-- F: the first Drum-step firing of CSTAGE after an accepted grant (R384). -/
def takeover (s : State) : State :=
  let fromWait := roleOf s == roleWait
  let e := if fromWait then s.par.seen else s.par.copyEpoch.getD (rd Reg.PAR_EPOCH s)
  let epoch := (e + 1) % 2 ^ 32
  let s := when (!fromWait) (wr Reg.EVT_NSEQ (s.par.evSeq + 65536)) s
  let h := s.lt + outerEu s
  takeAuthority epoch h (record 123 0 (epoch % 2 ^ 16) none (parFlag Reg.PAR_EVT_TAKEOVER s))

/-- The first firing of an FCLK at which a grant accepted before it takes effect (R384). -/
def takeoverDue (s : State) : Bool :=
  paired s && s.par.firedAt != some (nowF s) && roleOf s != roleTaking && s.par.grant.any (fun g => decide (g < nowF s))

/-- A Drum-step firing of CSTAGE, before its step: the takeover of a grant accepted before it, or the installation of the last
complete copy; then the health word. Every Drum step of a paired device falls on CSTAGE's firing (R370). -/
def pairFiring (s : State) : State :=
  if !paired s || s.par.firedAt == some (nowF s) then s
  else
    let s := setPar (fun p => { p with firedAt := some (nowF s), snapped := false }) s
    let keep := rd Reg.PAR_HEALTH s / 8 % 8 * 8
    match s.par.grant with
    | some g => if g < nowF s then healthForm keep (takeover s) else healthForm keep s
    | none =>
      match (if installs s then s.par.ready else none) with
      | some (c, chunk) =>
        let (own, s) := copyInstall c chunk s
        let s := healthForm own s
        setPar (fun p => { p with run := if healthy s then p.run + 1 else 0 }) s
      | none => healthForm keep s

end Machine
end Sys2Proof
end

