-- ==== Sys2Proof/Machine/StepDrum.lean ====
section
/-! DEFINITION. The commands of the Drum: the firing of a Drum-step slot, what it holds named one by one, the commit and
hem pairs, and the Stage commands (R20, R27, R41, R48, R55, R65-R88). -/

namespace Sys2Proof.Machine

/-- A Drum-step slot fires for the Stage it names; `gpi` holds the levels of the GPIO pins at this FCLK, `bad` the storage
that fails its check (R41, R213). -/
def drumFire (n : Nat) (gpi : BitVec 32) (bad : List (BitVec 32)) (s : State) : State :=
  firing n actDrum (fun x s =>
    let st := slTarget x % 4
    let s := pairFiring s
    if hasDrum st s then mcStep st (drumStep st bad { s with gpioIn := gpi.toNat }) else s) s

/-- The Stage of a Drum-step slot. -/
def drumStage (n : Nat) (s : State) : Nat := slTarget (slotOf n s) % 4

/-- The state in which the step of a slot's firing starts. -/
def stepStart (n : Nat) (gpi : BitVec 32) (s : State) : State := { pairFiring (tackFired n s) with gpioIn := gpi.toNat }

/-- The front of the step of a slot's firing. -/
def stepFront (n : Nat) (gpi : BitVec 32) (bad : List (BitVec 32)) (s : State) : DrumIn × List (Nat × Nat) × State :=
  drumFront (drumStage n s) bad (stepStart n gpi s)

/-- A Drum-step slot fires, and the step is that of a Stage with a Drum. -/
def stepRuns (n : Nat) (s : State) : Bool := tackReady n actDrum s && hasDrum (drumStage n s) (pairFiring (tackFired n s))

/-- The automatic transition of the step: the state it leads from, the state it leads to, and its cause (R60, R66). -/
def stepMoves (n : Nat) (gpi : BitVec 32) (bad : List (BitVec 32)) (s : State) : Option (Nat × Nat × Nat) :=
  let st := drumStage n s
  let f := stepFront n gpi bad s
  (autoTransition st f.1 f.2.2).map (fun p => (drumState st f.2.2, p))

/-- A bit of SSTAT before the step and after its front. -/
def stepBit (F : Fld) (n : Nat) (gpi : BitVec 32) (bad : List (BitVec 32)) (s : State) : Bool × Bool :=
  let a := Reg.DRM_SSTAT (drumStage n s)
  (on a F (stepStart n gpi s), on a F (stepFront n gpi bad s).2.2)

/-- The firing, taken only where what the command names comes about in it (log entry 12). -/
def drumWhen (n : Nat) (gpi : BitVec 32) (bad : List (BitVec 32)) (due : Bool) (s : State) : State :=
  if stepRuns n s && due then drumFire n gpi bad s else s

def execStepDrum (slot : Fin 4096) (gpi : BitVec 32) (bad : List (BitVec 32)) (s : State) :
    Host.Outcome State Fault Refusal := .next (drumFire slot gpi bad s)

/-- The end of the step computation (R61, R78). -/
def execStepDrumEnd (st : Fin 4) (s : State) : Host.Outcome State Fault Refusal := .next (drumStepEnd st s)

/-- A pending switch at the next word update (R20): the Drum step's, or the outer tick's of a Stage without a Drum. -/
def execSourceSwitchApply (st : Fin 4) (slot : Fin 4096) (gpi : BitVec 32) (bad : List (BitVec 32)) (s : State) :
    Host.Outcome State Fault Refusal :=
  let due := match (bobOf st s).req with
    | some r => !srcIsLost st r.1 s
    | none => false
  .next (if !due then s
    else if hasDrum st s then drumWhen slot gpi bad (drumStage slot s == st.val) s
    else outerTick st s)

/-- The fallback at the next update after a loss, where no pending request applies (R27). -/
def execFallbackApply (st : Fin 4) (slot : Fin 4096) (gpi : BitVec 32) (bad : List (BitVec 32)) (s : State) :
    Host.Outcome State Fault Refusal :=
  let due := ((bobOf st s).lost || srcIsLost st (actSrc st s) s) && !(match (bobOf st s).req with
    | some r => !srcIsLost st r.1 s
    | none => false)
  .next (if !due then s
    else if hasDrum st s then drumWhen slot gpi bad (drumStage slot s == st.val) s
    else outerTick st s)

/-- No new sample set for two outer ticks (R37). -/
def execPowerBlockTimeout (st : Fin 4) (s : State) : Host.Outcome State Fault Refusal := .next (blockTimeout st false s)

/-- A commit waits for its step (R48). -/
def commitRequest (st : Nat) (s : State) : State :=
  let d := drmOf st s
  setB (Reg.DRM_STAT st) Reg.DRM_STAT_COMPEND true
    (setDrm st { d with commit := true, commitAt := if d.commit then d.commitAt else s.lt } s)

/-- A hem restore: refused, at once, or at the next control tick (R55, R33). -/
def hemRestore (st : Nat) (s : State) : State :=
  if on (Reg.DRM_STAT st) Reg.DRM_STAT_DERCAUSE s then
    record 35 0 8 (some st) (setF (Reg.DRM_REFUSE st) Reg.DRM_REFUSE_CODE 8 s)
  else if hasDrum st s then wr (Reg.DRM_DERN st) 0 s
  else setDrm st { drmOf st s with hemRest := true, hemRestAt := if (drmOf st s).hemRest then (drmOf st s).hemRestAt else s.lt } s

/-- DRM_COMMIT (R48); on a Stage without an active Drum, R33. -/
def execCommit (st : Fin 4) (s : State) : Host.Outcome State Fault Refusal :=
  .next (pairStore (Reg.DRM_COMMIT st) (commitRequest st) s)

/-- DRM_HEMREST (R55): refused while DERCAUSE reads 1; without an active Drum it applies at the next control tick (R33). -/
def execHemRestore (st : Fin 4) (s : State) : Host.Outcome State Fault Refusal :=
  .next (pairStore (Reg.DRM_HEMREST st) (hemRestore st) s)

/-- A curve point expires (R75). -/
def execCurvePointExpiry (slot : Fin 4096) (gpi : BitVec 32) (bad : List (BitVec 32)) (s : State) :
    Host.Outcome State Fault Refusal :=
  .next (drumWhen slot gpi bad ((stepMoves slot gpi bad s).any (fun m => m.2 == (dsCeased, 6) || m.2 == (dsCeased, 7))) s)

/-- HOLD longer than THMAX (R66, cause 8). -/
def execHoldTimeLimit (slot : Fin 4096) (gpi : BitVec 32) (bad : List (BitVec 32)) (s : State) :
    Host.Outcome State Fault Refusal :=
  .next (drumWhen slot gpi bad ((stepMoves slot gpi bad s).any (fun m => m.2 == (dsCeased, 8))) s)

/-- PVALID = 0 for PVMAX steps (R66, cause 11). -/
def execPvalidStepLimit (slot : Fin 4096) (gpi : BitVec 32) (bad : List (BitVec 32)) (s : State) :
    Host.Outcome State Fault Refusal :=
  .next (drumWhen slot gpi bad ((stepMoves slot gpi bad s).any (fun m => m.2 == (dsCeased, 11))) s)

/-- ENERGISE longer than 3 × TRAMP (R80, cause 12). -/
def execEnergiseTimeLimit (slot : Fin 4096) (gpi : BitVec 32) (bad : List (BitVec 32)) (s : State) :
    Host.Outcome State Fault Refusal :=
  .next (drumWhen slot gpi bad ((stepMoves slot gpi bad s).any (fun m => m.2 == (dsCeased, 12))) s)

/-- E_ramp reaches V* (R80). -/
def execEnergiseRampComplete (slot : Fin 4096) (gpi : BitVec 32) (bad : List (BitVec 32)) (s : State) :
    Host.Outcome State Fault Refusal :=
  .next (drumWhen slot gpi bad (stepMoves slot gpi bad s == some (dsEnergise, dsForm, 5)) s)

/-- HEMACT = 1 for NHEM steps (R67, cause 3). -/
def execNhemCountReached (slot : Fin 4096) (gpi : BitVec 32) (bad : List (BitVec 32)) (s : State) :
    Host.Outcome State Fault Refusal :=
  .next (drumWhen slot gpi bad (stepMoves slot gpi bad s == some (dsHem, dsHold, 3)) s)

/-- The voltage has recovered for NREC steps (R66, cause 4). -/
def execNrecCountReached (slot : Fin 4096) (gpi : BitVec 32) (bad : List (BitVec 32)) (s : State) :
    Host.Outcome State Fault Refusal :=
  .next (drumWhen slot gpi bad (stepMoves slot gpi bad s == some (dsHold, dsRecover, 4)) s)

/-- Both ramps of R71 are complete. -/
def execRecoverRampsComplete (slot : Fin 4096) (gpi : BitVec 32) (bad : List (BitVec 32)) (s : State) :
    Host.Outcome State Fault Refusal :=
  .next (drumWhen slot gpi bad (stepMoves slot gpi bad s == some (dsRecover, dsForm, 5)) s)

/-- DEADOK is set (R77). -/
def execDeadokCountReached (slot : Fin 4096) (gpi : BitVec 32) (bad : List (BitVec 32)) (s : State) :
    Host.Outcome State Fault Refusal :=
  .next (drumWhen slot gpi bad (stepBit Reg.DRM_SSTAT_DEADOK slot gpi bad s == (false, true)) s)

/-- SYNCOK is set (R83). -/
def execSyncokCountReached (slot : Fin 4096) (gpi : BitVec 32) (bad : List (BitVec 32)) (s : State) :
    Host.Outcome State Fault Refusal :=
  .next (drumWhen slot gpi bad (stepBit Reg.DRM_SSTAT_SYNCOK slot gpi bad s == (false, true)) s)

/-- BRKFB changes (R64). -/
def execBreakerFeedbackChange (slot : Fin 4096) (gpi : BitVec 32) (bad : List (BitVec 32)) (s : State) :
    Host.Outcome State Fault Refusal :=
  .next (drumWhen slot gpi bad
    ((stepBit Reg.DRM_SSTAT_BRKFB slot gpi bad s).1 != (stepBit Reg.DRM_SSTAT_BRKFB slot gpi bad s).2) s)

/-- A DRM_SCMD pair (R65): the last command written before a step's FCLK 0 applies to it. -/
def scmdWrite (st code : Nat) (s : State) : State :=
  if hasDrum st s then
    let d := drmOf st s
    setDrm st { d with cmd := some code, cmdAt := s.lt, cmdPrev := if d.cmdAt < s.lt then d.cmd else d.cmdPrev } s
  else s
def stageCommand (st code : Nat) (s : State) : State := pairStore (Reg.DRM_SCMD st) (scmdWrite st code) s

def execStop (st : Fin 4) (s : State) : Host.Outcome State Fault Refusal := .next (stageCommand st 1 s)
def execEnergise (st : Fin 4) (s : State) : Host.Outcome State Fault Refusal := .next (stageCommand st 2 s)
def execSync (st : Fin 4) (s : State) : Host.Outcome State Fault Refusal := .next (stageCommand st 3 s)
def execJoin (st : Fin 4) (s : State) : Host.Outcome State Fault Refusal := .next (stageCommand st 4 s)
def execClear (st : Fin 4) (s : State) : Host.Outcome State Fault Refusal := .next (stageCommand st 5 s)

end Sys2Proof.Machine
end

