-- ==== Sys2Proof/Machine/Pair.lean ====
section
/-! DEFINITION. The commands of the pair: roles, the pair link, copies, the referee, takeover and hand-back (Paired Controllers
and Takeover, R370-R389). -/

namespace Sys2Proof.Machine

/-! Start-up (R373). -/

/-- The primary takes authority at start-up. -/
def startActive (epoch : Nat) (s : State) : State :=
  let s := setPar (fun p => { p with seen := epoch }) (wr64 Reg.PAR_HAND_LO Reg.PAR_HAND_HI s.lt (wr Reg.PAR_EPOCH epoch s))
  let s := setRole roleActive s
  let s := each ((List.range 24).filter (fun n => linkState n s == lkReady)) (fun n s => sendTwice n 1 (epochBlock s.lt s) s) s
  each (List.range 4) (fun st s => pulsesAuto st s) s

/-- The pair link comes up with a peer of this role and epoch. -/
def pairLinkUp (prole pepoch : Nat) (s : State) : State :=
  let can := 3 - s.par.laneRet % 4
  if !s.configured || !paired s || can == 0 then s
  else
    let s := lanesShow (setPar (fun p => { p with lanes := if p.lanes % 4 = 0 then can else p.lanes }) s)
    let s := epochSeen 32 pepoch (setF Reg.PAR_STAT Reg.PAR_STAT_PROLE prole s)
    if roleOf s != roleWait then s
    else if prole = roleActive then enterSyncing s
    else if s.par.waitOut then s
    else if isPrimary s then startActive ((max (rd Reg.PAR_EPOCH s) pepoch + 1) % 2 ^ 32) s
    else enterSyncing s

/-- 10 ms without a pair link. -/
def pairWaitOut (s : State) : State :=
  if s.configured && paired s && roleOf s == roleWait && !on Reg.PAR_STAT Reg.PAR_STAT_PLINK s && decide (s.cc + 10 * ms ≤ s.lt)
  then setPar (fun p => { p with waitOut := true }) s else s

/-! Lanes (R374, R376, R388). -/

/-- A lane is retired: EV122 graded G2 (log entry 36); the last one retires the pair link. -/
def laneRetire (l : Nat) (s : State) : State :=
  let s := record 122 2 l none s
  let s := lanesShow (setPar (fun p => { p with lanes := setBit p.lanes l false, laneRet := setBit p.laneRet l true }) s)
  if s.par.laneRet % 4 = 3 then setB Reg.PAR_STAT Reg.PAR_STAT_PHEALTHY false s else s

def laneLoss (l : Nat) (s : State) : State :=
  if paired s && s.par.lanes.testBit l then
    upsetThen (ctrId 15 l 2) (laneRetire l) (lanesShow (setPar (fun p => { p with lanes := setBit p.lanes l false }) s))
  else s

def laneUp (l : Nat) (s : State) : State :=
  if s.configured && paired s && !s.par.laneRet.testBit l then
    let s := lanesShow (setPar (fun p => { p with lanes := setBit p.lanes l true }) s)
    if on Reg.PAR_STAT Reg.PAR_STAT_ONELANE s then s else setPar (fun p => { p with skip := false }) s
  else s

/-- A frame that fails its CRC. -/
def pairCrc (l : Nat) (s : State) : State :=
  upsetThen (ctrId 15 l 1) (laneRetire l) (bump Reg.PAR_CNT ⟨16, 16⟩ 1 s)

/-! Copies (R376, R379, R388). -/

/-- An incomplete copy: EV122 graded G1 and its counter, whose overflow holds COPYOK at 0. -/
def copyFault (s : State) : State :=
  let s := setPar (fun p => { p with good := 0, copyHeld := p.copyHeld.map (fun t => if t + 1000 * ms < s.lt then t else s.lt) }) s
  let s := record 122 1 0 none (bump Reg.PAR_CNT ⟨0, 16⟩ 1 (parFlag Reg.PAR_EVT_COPYFAULT s))
  upsetThen (ctrId 15 0 0) (fun s => setPar (fun p => { p with copyHeld := some s.lt }) s) s

/-- The segments of one copy, with those that failed their CRC. -/
def copyReceive (epoch : Nat) (segs : Tbl (List Nat)) (bad : List Nat) (s : State) : State :=
  if !s.configured || !paired s || !on Reg.PAR_STAT Reg.PAR_STAT_PLINK s then s
  else
    let s := each bad (fun i s => pairCrc (segLane i s) s) s
    if !installs s then s
    else
      let seg (i : Nat) : Option (List Nat) := if bad.contains i then none else (segs.find? (fun p => p.1 == i)).map (·.2)
      if (List.range 32).all (fun i => (seg i).any (fun d => d.length == 256)) then
        let b := (List.range 32).flatMap (fun i => (seg i).getD [])
        setPar (fun p => { p with ready := some ({ Config.copyRead (b.take 7520) with epoch := epoch }, (b.drop 7520).take 512),
                                  good := min 16 (p.good + 1) }) s
      else copyFault s

/-- 16 copies in a row with HEALTHY (R372). -/
def toStandby (s : State) : State :=
  if paired s && roleOf s == roleSyncing && decide (16 ≤ s.par.run) then setRole roleStandby s else s

/-! Frames of the peer (R374, R378, R385). -/

/-- A unit is fenced in the FCLK in which it meets the claim that beats it. -/
def fenceTaking (s : State) : State :=
  setB Reg.PAR_EVT Reg.PAR_EVT_FENCED true (record 125 0 0x200 none (setRole roleFenced (setPar (fun p => { p with restarted := false }) s)))

/-- A newer epoch fences an ACTIVE unit, unless it is that of the hand-back it has answered. -/
def peerEpoch (epoch : Nat) (s : State) : State :=
  let own := rd Reg.PAR_EPOCH s
  let s := epochSeen 32 epoch s
  if serialAfter epoch own && !(s.par.answered && epoch == (own + 1) % 2 ^ 32) then fence s else s

def healthIn (epoch word prole : Nat) (s : State) : State :=
  if !s.configured || !paired s || !on Reg.PAR_STAT Reg.PAR_STAT_PLINK s then s
  else
    let s := setB Reg.PAR_STAT Reg.PAR_STAT_PHEALTHY (word % 2 ^ 10 == 0x3FF)
      (setF Reg.PAR_STAT Reg.PAR_STAT_PROLE prole (wr Reg.PAR_PHEALTH word s))
    let s := when (roleOf s == roleWait && prole == roleActive) enterSyncing s
    peerEpoch epoch s

def authIn (epoch : Nat) (s : State) : State :=
  if !s.configured || !paired s then s
  else if roleOf s == roleTaking && epoch == rd Reg.PAR_EPOCH s && !isPrimary s then fenceTaking s
  else peerEpoch epoch s

/-- A TIMEQ/TIMEA exchange: a SYNCING or STANDBY unit takes PAR_LTERR and an error sample, once in 1 ms; the ACTIVE unit answers with
t2 and its turnaround. -/
def timeExchange (t1 t2 t3 t4 : Nat) (s : State) : State :=
  if !s.configured || !paired s || !on Reg.PAR_STAT Reg.PAR_STAT_PLINK s then s
  else if roleOf s = roleActive then pairFrame 4 0 0 (bytesBE 8 t2 ++ bytesBE 8 ((t3 + 2 ^ 64 - t2) % 2 ^ 64)) s
  else if !installs s || s.par.exch.any (fun t => decide (s.lt < t + ms)) then s
  else
    let s := setPar (fun p => { p with exch := some s.lt }) s
    let e := roundUp (((t2 : Int) - t1) - ((t4 : Int) - t3) - signed 16 (rd Reg.PAR_ASYM s)) 2
    let e := satBits 32 e
    discSample 2 e (wrI Reg.PAR_LTERR e (pairFrame 3 0 0 (bytesBE 8 t1) s))

/-! Grants (R381-R383). -/

def grantIn (s : State) : State :=
  if !s.configured || !paired s || (roleOf s == roleTaking && s.par.handback) then s
  else if healthy s && (roleOf s == roleStandby || (roleOf s == roleWait && s.par.waitOut)) then
    setB Reg.PAR_STAT Reg.PAR_STAT_HBPEND false (setPar (fun p => { p with grant := some (p.grant.getD (nowF s)) }) s)
  else record 125 0 0x100 none (parFlag Reg.PAR_EVT_GRANTREF s)

/-- PAR_CFG.REFSRC accepts the pin (0) or the span (1). -/
def refAccepts (path : Nat) (s : State) : Bool :=
  let r := fl Reg.PAR_CFG Reg.PAR_CFG_REFSRC s
  r == path || r == 2

/-! The referee (R382). -/

def refUnit (i u : Nat) (s : State) : RefUnit := Tbl.get .reset s.par.units (2 * i + u)
def refereeOn (i : Nat) (s : State) : Bool := on Reg.PAR_RCFG Reg.PAR_RCFG_REFEREE s && bitAt (Reg.PAR_RPAIR i) 18 s
def refAddr (i : Nat) (s : State) : Nat := fl (Reg.PAR_RPAIR i) ⟨0, 18⟩ s
def refHealthy (x : RefUnit) : Bool := x.word % 2 ^ 10 == 0x3FF
def refActs (x : RefUnit) : Bool := x.role == roleActive || x.role == roleTaking

/-- What the referee knows of a unit, shown in PAR_RSTAT. -/
def setRefUnit (i u : Nat) (x : RefUnit) (s : State) : State :=
  let s := setPar (fun p => { p with units := Tbl.put (2 * i + u) x p.units }) s
  setBitAt (Reg.PAR_RSTAT i) (1 + u) (refHealthy x)
    (if x.role = roleActive then setBitAt (Reg.PAR_RSTAT i) 0 (u == 1) s else s)

/-- A HEALTH or REQUEST frame of a pair that this device referees. -/
def refereeNote (f : Frame) (kind u : Nat) (s : State) : State :=
  each ((List.range 16).filter (fun i => refereeOn i s && refAddr i s == f.src)) (fun i s =>
    let c := cycleNow s
    let x := refUnit i u s
    let x := { x with word := be f.data 4 4, role := be f.data 2 1, epoch := be f.data 8 4 }
    let x := if kind = 3 then { x with req := true } else { x with cycle := some c }
    setRefUnit i u { x with act := if refActs x then some c else some (x.act.getD c) } s) s

/-- A unit has been silent, or has not acted, for TREF cluster cycles. -/
def refSilent (t : Option Nat) (s : State) : Bool := match t with
  | some c => decide (c + fl Reg.PAR_RCFG Reg.PAR_RCFG_TREF s ≤ cycleNow s)
  | none => false

/-- The rule of R382 for a grant to unit `u` of pair `i`. -/
def grantDue (i u : Nat) (s : State) : Bool :=
  let x := refUnit i u s
  let y := refUnit i (1 - u) s
  refereeOn i s && refHealthy x && x.role != roleActive && Tbl.get none s.par.granted i != some x.epoch
    && ((y.role == roleActive && (refSilent y.cycle s || y.req || !refHealthy y)) || (refSilent x.act s && (y.act.isNone || refSilent y.act s)))

/-- A GRANT to a unit, as an urgent REFEREE frame to its pair address. -/
def grantIssue (i u : Nat) (s : State) : State :=
  if !s.configured || !grantDue i u s then s
  else
    let x := refUnit i u s
    let pay := [2, u, 0, 0] ++ bytesBE 4 0 ++ bytesBE 4 x.epoch
    let s := urgentOut ⟨9, 0, refAddr i s, pay⟩ s
    let s := setPar (fun p => { p with granted := Tbl.put i (some x.epoch) p.granted }) s
    bump (Reg.PAR_RSTAT i) ⟨16, 16⟩ 1 (setRefUnit i (1 - u) { refUnit i (1 - u) s with req := false } s)

/-- A REFEREE frame (R381): consumed in arrival order, outside the streams. -/
def refereeIn (f : Frame) (s : State) : State := urgentIn f none (fun s =>
  let kind := be f.data 0 1
  let u := be f.data 1 1
  if kind = 2 then
    if paired s && refAccepts 1 s && u == fl Reg.PAR_CFG Reg.PAR_CFG_UNIT s && be f.data 8 4 == rd Reg.PAR_EPOCH s then grantIn s
    else s
  else if (kind = 1 || kind = 3) && decide (u < 2) then refereeNote f kind u s
  else s) s

/-! Hand-back (R387). -/

def handbackOn (s : State) : Bool := on Reg.PAR_CFG Reg.PAR_CFG_HBEN s && !on Reg.PAR_STAT Reg.PAR_STAT_HBINH s

/-- THBACK of a STANDBY and HEALTHY primary has passed: HBREQ. One that is ignored goes again after another THBACK (log entry
199). -/
def handbackRequest (s : State) : State :=
  let due := match s.par.since with
    | some t => decide (t + 1000 * ms * fl Reg.PAR_CFG Reg.PAR_CFG_THBACK s ≤ s.lt)
    | none => false
  if s.configured && paired s && isPrimary s && roleOf s == roleStandby && healthy s && handbackOn s && due && s.par.grant.isNone then
    pairFrame 6 0 0 [] (setB Reg.PAR_STAT Reg.PAR_STAT_HBPEND true (setPar (fun p => { p with since := some s.lt }) s))
  else s

/-- The first period start of a carrier at or after an LT, from period `k` on. -/
def startFrom (c t : Nat) : Nat → Int → Int → Nat → State → Nat
  | 0, _, _, _, _ => t
  | fuel + 1, k, n, x, s =>
    let p := posTime c (startPos c k n x s) s
    if (t : Int) ≤ p then p.toNat else startFrom c t fuel (k + 1) (n + 1) (prbsAt n x) s

/-- H: the first period start of CSTAGE's lead carrier at or after the second Drum-step firing from now. -/
def handbackAt (s : State) : Nat :=
  let t := fclk * s.par.firedAt.getD (nowF s) + 2 * outerEu s
  match leadCarrier (cStage s) s with
  | none => t
  | some c => startFrom c t 4096 ((carOf c s).k + 1) ((carOf c s).n + 1) (carOf c s).prbs s

/-- The ACTIVE unit answers. -/
def hbreqIn (s : State) : State :=
  if s.configured && paired s && roleOf s == roleActive && handbackOn s && !s.par.answered then
    let h := handbackAt s
    pairFrame 7 0 0 (bytesBE 8 h) (wr64 Reg.PAR_HAND_LO Reg.PAR_HAND_HI h
      (setB Reg.PAR_STAT Reg.PAR_STAT_HBPEND true (setPar (fun p => { p with answered := true }) s)))
  else s

/-- The primary takes authority from H on: EV124. -/
def hbackIn (h : Nat) (s : State) : State :=
  if s.configured && paired s && isPrimary s && roleOf s == roleStandby && s.par.grant.isNone
      && on Reg.PAR_STAT Reg.PAR_STAT_HBPEND s && handbackOn s then
    let epoch := (s.par.copyEpoch.getD (rd Reg.PAR_EPOCH s) + 1) % 2 ^ 32
    setB Reg.PAR_STAT Reg.PAR_STAT_HBPEND true (setPar (fun p => { p with handback := true })
      (takeAuthority epoch h (record 124 0 (epoch % 2 ^ 16) none s)))
  else s

/-- H: the TAKING unit is ACTIVE; the unit that answered a hand-back is SYNCING (R384, R387). -/
def handoffReached (s : State) : State :=
  if !s.configured || !paired s || decide (s.lt < handOf s) then s
  else if roleOf s == roleTaking then
    let s := when s.par.handback (fun s => parFlag Reg.PAR_EVT_HANDBACK (setB Reg.PAR_STAT Reg.PAR_STAT_HBPEND false s)) s
    setRole roleActive (setPar (fun p => { p with handback := false }) s)
  else if roleOf s == roleActive && s.par.answered then
    enterSyncing (parFlag Reg.PAR_EVT_HANDBACK (setB Reg.PAR_STAT Reg.PAR_STAT_HBPEND false s))
  else s

/-- PAR_CMD: REQUEST, INHIBIT, PERMIT. -/
def pairRequest (s : State) : State :=
  if roleOf s == roleActive && on Reg.PAR_STAT Reg.PAR_STAT_PHEALTHY s then
    refereeFrame 3 (setPar (fun p => { p with aliveStop := true }) s)
  else parFlag Reg.PAR_EVT_GRANTREF s
def pairInhibit (on_ : Bool) (s : State) : State := setB Reg.PAR_STAT Reg.PAR_STAT_HBINH on_ s

/-! Self-test (R379). -/

/-- Overflows of the counters of the continuous checks. -/
def checkOverflows (s : State) : Nat :=
  s.evt.ctr.foldl (fun a p => if p.1 / 2048 = 4 || p.1 / 2048 = 7 || p.1 / 2048 = 8 then a + p.2.2 else a) 0

/-- A self-test cycle: the loopback's outcome, SRAM with a corrected error, and SRAM words with an uncorrectable one
(R379; log entry 177). -/
def selfTest (ok : Bool) (sbe : List Nat) (ue : List (Nat × Nat)) (s : State) : State :=
  if !s.configured || !paired s then s
  else
    let s := each sbe sramCorrected s
    let s := each ue (fun p s => sramUncorrectable p.1 p.2 s) s
    let o := checkOverflows s
    setPar (fun p => { p with selftest := ok && ue.isEmpty && o == p.overflows, overflows := o }) s

/-! Commands. -/

def execPairLinkUp (prole : BitVec 3) (pepoch : BitVec 32) (s : State) : Host.Outcome State Fault Refusal :=
  .next (pairLinkUp prole.toNat pepoch.toNat s)

def execPairWaitTimeout (s : State) : Host.Outcome State Fault Refusal := .next (pairWaitOut s)

def execPairSnapshot (s : State) : Host.Outcome State Fault Refusal := .next (pairSnapshot s)

def execCopyFrameReceive (epoch : BitVec 32) (segs : List (Fin 32 × List (BitVec 8))) (bad : List (Fin 32)) (s : State) :
    Host.Outcome State Fault Refusal :=
  .next (copyReceive epoch.toNat (segs.map (fun p => (p.1.val, p.2.map (·.toNat)))) (bad.map (·.val)) s)

def execSyncingToStandby (s : State) : Host.Outcome State Fault Refusal := .next (toStandby s)

def execPairTimeExchange (t1 t2 t3 t4 : BitVec 64) (s : State) : Host.Outcome State Fault Refusal :=
  .next (timeExchange t1.toNat t2.toNat t3.toNat t4.toNat s)

def execHealthFrameReceive (epoch word : BitVec 32) (prole : BitVec 3) (s : State) : Host.Outcome State Fault Refusal :=
  .next (healthIn epoch.toNat word.toNat prole.toNat s)

def execAuthReceive (epoch : BitVec 32) (s : State) : Host.Outcome State Fault Refusal := .next (authIn epoch.toNat s)

/-- A grant on the pin path. -/
def execRefGrantInput (s : State) : Host.Outcome State Fault Refusal := .next (if refAccepts 0 s then grantIn s else s)

/-- A Drum-step firing at which the unit enters TAKING. -/
def execTakeoverEnter (slot : Fin 4096) (gpi : BitVec 32) (bad : List (BitVec 32)) (s : State) :
    Host.Outcome State Fault Refusal :=
  .next (if tackReady slot actDrum s && takeoverDue (tackFired slot s) then drumFire slot gpi bad s else s)

def execHandoffReached (s : State) : Host.Outcome State Fault Refusal := .next (handoffReached s)
def execHandbackRequest (s : State) : Host.Outcome State Fault Refusal := .next (handbackRequest s)
def execHbreqReceive (s : State) : Host.Outcome State Fault Refusal := .next (hbreqIn s)
def execHbackReceive (h : BitVec 64) (s : State) : Host.Outcome State Fault Refusal := .next (hbackIn h.toNat s)

def execPairCmdRequest (by_ : Fin 19) (s : State) : Host.Outcome State Fault Refusal :=
  .next (pairFrom Reg.PAR_CMD by_ pairRequest s)
def execPairCmdInhibit (by_ : Fin 19) (s : State) : Host.Outcome State Fault Refusal :=
  .next (pairFrom Reg.PAR_CMD by_ (pairInhibit true) s)
def execPairCmdPermit (by_ : Fin 19) (s : State) : Host.Outcome State Fault Refusal :=
  .next (pairFrom Reg.PAR_CMD by_ (pairInhibit false) s)

def execRefereeFrameReceive (port : Fin 4) (tag : FrameTag) (dstk : Fin 4) (src dst : BitVec 18) (seq : BitVec 32) (epoch : BitVec 16) (cts : BitVec 28)
    (data : List (BitVec 8)) (s : State) : Host.Outcome State Fault Refusal :=
  .next (refereeIn ⟨port, 9, tag.cls, tag.dir, dstk, src.toNat, dst.toNat, seq.toNat, epoch.toNat, cts.toNat, data.map (·.toNat), s.lt⟩ s)

def execRefereeGrantIssue (pair : Fin 16) (unit : Fin 2) (s : State) : Host.Outcome State Fault Refusal :=
  .next (grantIssue pair unit s)

def execPairLaneLoss (plane : Fin 2) (s : State) : Host.Outcome State Fault Refusal := .next (laneLoss plane s)
def execPairLaneUp (plane : Fin 2) (s : State) : Host.Outcome State Fault Refusal := .next (laneUp plane s)

def execSelfTestCycleComplete (ok : Bool) (sbe : List (Fin 3)) (ue : List (Fin 3 × BitVec 32)) (s : State) :
    Host.Outcome State Fault Refusal :=
  .next (selfTest ok (sbe.map (·.val)) (ue.map (fun p => (p.1.val, p.2.toNat))) s)

end Sys2Proof.Machine
end

