-- ==== Sys2Proof/Machine/Clock.lean ====
section
/-! DEFINITION. The commands of the clock synthesizer (Clock Synthesis and Time Discipline, R408-R420). -/

namespace Sys2Proof.Machine

/-- A PLL (in the order of R408) loses lock: EV9 with its grade, and what the clocks derived from it carried (R418). -/
def pllUnlock (n : Nat) (s : State) : State :=
  if !bitAt Reg.CLK_STAT n s then s
  else
    let s := clkFlag Reg.CLK_EVT_UNLOCK (setBitAt Reg.CLK_STAT n false s)
    let s := record 9 (if n < 2 then 5 else 1) n none s
    under 9 n (fun s => match n with
      | 0 | 1 => gradeG5All ((List.range 4).filter (fun st => !(hbsOf st s).isEmpty)) (some ⟨9, n⟩) s
      | 2 => each ((List.range 24).filter (fun l => linkState l s == lkReady)) syncLost s
      | 3 => each (List.range 4) portLinkLoss s
      | 4 => each (List.range 2) laneLoss s
      | _ => dramFail s) s

def pllRelock (n : Nat) (s : State) : State :=
  if bitAt Reg.CLK_STAT n s || !s.ltRun then s else dropCause ⟨9, n⟩ (setBitAt Reg.CLK_STAT n true s)

/-- The LT of the whole CT second that an FCLK holds, if it holds one (R419). -/
def ppsAt (s : State) : Option Nat :=
  let ct := ceilDiv (ctNow s) 1000000000 * 1000000000
  let t := ltOfCt ct s
  if s.lt ≤ t && t < s.lt + fclk then some t else none

/-- CTPPS on an output: a pulse of PW µs. -/
def ppsPulse (n : Nat) (s : State) : State :=
  match ppsAt s with
  | none => s
  | some t =>
    if s.configured && outOn n s && outSrc n s == 2 && ctAnchored s then
      outLevel n 0 (t + us * fl (Reg.CLK_OCFG n) ⟨18, 10⟩ s) (outLevel n 1 t s)
    else s

/-! Commands. `refs` says which of XTAL (bit 0) and REFIN (bit 1) is present at its entry's nominal frequency (R411). -/

def execReferenceLoss (refs : BitVec 2) (s : State) : Host.Outcome State Fault Refusal :=
  .next (when s.ltRun (referenceLoss refs.toNat) s)

def execHopRequest (entry : Fin 16) (refs : BitVec 2) (by_ : Fin 19) (s : State) : Host.Outcome State Fault Refusal :=
  .next (pairFrom Reg.CLK_HOPREQ by_ (hopRequest entry refs.toNat) s)

def execHopComplete (s : State) : Host.Outcome State Fault Refusal := .next (hopComplete s)

def execBandSearchComplete (entry : Fin 16) (band : BitVec 7) (s : State) : Host.Outcome State Fault Refusal :=
  .next (searchEnd entry band.toNat s)

def execYRampStep (s : State) : Host.Outcome State Fault Refusal := .next (when (rampDue s) yRamp s)

def execPllUnlock (pll : Fin 6) (s : State) : Host.Outcome State Fault Refusal := .next (pllUnlock pll s)

def execPllRelock (pll : Fin 6) (s : State) : Host.Outcome State Fault Refusal := .next (pllRelock pll s)

def execCtppsPulse (output : Fin 6) (s : State) : Host.Outcome State Fault Refusal := .next (ppsPulse output s)

end Sys2Proof.Machine
end

