-- ==== Sys2Proof/Machine/Cycle.lean ====
section
/-! DEFINITION. The commands of the cycle engine (R319-R337) but the end of a task's run, which issues register writes. -/

namespace Sys2Proof.Machine

def execStartTask (slot : Fin 4096) (s : State) : Host.Outcome State Fault Refusal :=
  .next (firing slot actTask (fun x s => taskStart (slTarget x % 16) s) s)

def execTaskDeadlineExpiry (task : Fin 17) (writes : List (BitVec 32 × BitVec 32)) (s : State) :
    Host.Outcome State Fault Refusal := .next (taskDeadline task writes s)

def execTaskException (task : Fin 17) (writes : List (BitVec 32 × BitVec 32)) (s : State) :
    Host.Outcome State Fault Refusal := .next (taskException task writes s)

def execErrorTaskCall (s : State) : Host.Outcome State Fault Refusal := .next (errorCall s)

def execLockstepMismatch (s : State) : Host.Outcome State Fault Refusal := .next (when s.configured lockstepMismatch s)

def execLockstepAutoRestart (s : State) : Host.Outcome State Fault Refusal := .next (lockstepRestart s)

def execStationDrop (station : Fin 64) (s : State) : Host.Outcome State Fault Refusal := .next (stationDrop station s)

def execRestartWarm (by_ : Fin 19) (s : State) : Host.Outcome State Fault Refusal :=
  .next (pairFrom Reg.CYC_RCMD by_ (restartRequest kWarm by_) s)

def execRestartCold (by_ : Fin 19) (s : State) : Host.Outcome State Fault Refusal :=
  .next (pairFrom Reg.CYC_RCMD by_ (restartRequest kCold by_) s)

def execRestartBegin (s : State) : Host.Outcome State Fault Refusal := .next (restartBegin s)

def execRestartComplete (s : State) : Host.Outcome State Fault Refusal := .next (restartComplete s)

def execRetainSnapshot (s : State) : Host.Outcome State Fault Refusal := .next (retainSnapshot s)

def execPatchSubmit (by_ : Fin 19) (s : State) : Host.Outcome State Fault Refusal :=
  .next (pairFrom Reg.CYC_PCMD by_ patchSubmit s)

def execPatchValidated (s : State) : Host.Outcome State Fault Refusal := .next (patchValidated s)

def execPatchApply (s : State) : Host.Outcome State Fault Refusal := .next (patchApply s)

def execPatchTimeout (s : State) : Host.Outcome State Fault Refusal := .next (patchTimeout s)

def execForceSet (value : BitVec 32) (by_ : Fin 19) (s : State) : Host.Outcome State Fault Refusal :=
  .next (pairFrom Reg.CYC_FCMD by_ (forceCommand (value.toNat / 4 * 4 + 1)) s)

def execForceRelease (value : BitVec 32) (by_ : Fin 19) (s : State) : Host.Outcome State Fault Refusal :=
  .next (pairFrom Reg.CYC_FCMD by_ (forceCommand (value.toNat / 4 * 4 + 2)) s)

def execForceSetApply (index : Fin 64) (s : State) : Host.Outcome State Fault Refusal := .next (forceSetNow index s)

def execForceReleaseApply (index : Fin 64) (s : State) : Host.Outcome State Fault Refusal := .next (forceReleaseNow index s)

end Sys2Proof.Machine
end

