-- ==== Sys2Proof/Machine/Endpoint.lean ====
section
/-! DEFINITION. The leg endpoint of a link as the manual obliges it: commands and their SEQ, execution at the stamp, OFF,
epochs and ownership, port time, and its reports (R172-R178, R180-R182, R187-R192, R197, R200). -/

namespace Sys2Proof.Machine

def epPort (n p : Nat) (s : State) : EpPort := Tbl.get .reset (epOf n s).ports p
def setEpPort (n p : Nat) (x : EpPort) (s : State) : State :=
  setEp n { epOf n s with ports := Tbl.put p x (epOf n s).ports } s

/-- The class of what an endpoint sends: ALARM before OC before NACK before RTA, and a block after them (R174). -/
def upClass (chars : List Nat) : Nat :=
  match chars.headD 0 with
  | 476 => 0
  | 412 => 1
  | 348 => 2
  | 316 => 3
  | _ => 4

/-- Characters wait for the uplink of a port (R174), or for that of every port in sync. -/
def upOn (n p : Nat) (chars : List Nat) (s : State) : State :=
  let x := epPort n p s
  setEpPort n p { x with wait := x.wait ++ [(upClass chars, chars)] } s
def upAll (n : Nat) (chars : List Nat) (s : State) : State :=
  each ((List.range 2).filter (fun p => (epPort n p s).rx)) (fun p s => upOn n p chars s) s

/-- Characters enter the uplink of a port at `t`. -/
def upOut (n p t : Nat) (chars : List Nat) (s : State) : State :=
  emit (.up n p chars) (setEpPort n p { epPort n p s with free := t + chars.length * charT } s)

/-- What the uplink takes at a character boundary: the ordered set of the lowest class, also between two characters of a frame;
then the frame in transmission, a frame of the next block, or IDLE with the last SEQ accepted (R173-R175). -/
def upStep (n p : Nat) (s : State) : State :=
  let x := epPort n p s
  let t := max x.free (10 * s.lt)
  let next := x.wait.foldl (fun (a : Option (Nat × List Nat)) w => match a with
    | some b => if w.1 < b.1 then some w else a
    | none => some w) none
  let block (l : List Nat) (w : List (Nat × List Nat)) (s : State) : State :=
    match l with
    | c :: l => upOut n p t [c] (setEpPort n p { x with frame := l, wait := w } s)
    | [] => upOut n p t (setIdle x.last) s
  if clkEnd s ≤ t then s
  else match next with
    | some (k, l) =>
      if k < 4 then upOut n p t l (setEpPort n p { x with wait := x.wait.erase (k, l) } s)
      else if x.frame.isEmpty then block ((256 + 0xFB) :: (l ++ [256 + 0xFD])) (x.wait.erase (k, l)) s
      else block x.frame x.wait s
    | none => block x.frame x.wait s

/-- The uplinks of the links in use over one FCLK; a port B exists where the endpoint has two. -/
def uplinksRun (s : State) : State :=
  each ((List.range 24).filter (fun n => linkEnabled n s)) (fun n s =>
    each ((List.range 2).filter (fun p => p == 0 || (Config.endpointFit n).toNat.testBit 4))
      (fun p s => upStep n p (upStep n p s)) s) s

/-- A block that goes twice, in separate frames (R178). -/
def upTwice (n p : Nat) (chars : List Nat) (s : State) : State := upOn n p chars (upOn n p chars s)

/-- A block or ordered set that failed its check, for CRCN (R178). -/
def epFail (n p : Nat) (s : State) : State :=
  let x := epPort n p s
  setEpPort n p { x with crcn := min 0xFFFF (x.crcn + 1) } s

/-- What passed its check has its effect; what failed counts. -/
def epTakes (n p : Nat) (ok : Bool) (f : State → State) (s : State) : State := if ok then f s else epFail n p s

/-- Port time at an LT (R181). -/
def portTime (n p t : Nat) (s : State) : Nat := (t + (epPort n p s).offset) % 2 ^ 40

/-- A stamp has been reached at a port time (R181). -/
def stampReached (t stamp : Nat) : Bool := (t + 2 ^ 40 - stamp % 2 ^ 40) % 2 ^ 40 < 2 ^ 39

/-- An EVENT of the endpoint on a port (R178). -/
def epEvent (n p kind seq epoch : Nat) (s : State) : State := upTwice n p (eventBlock kind seq epoch p) s

/-! SEQ (R187). -/

/-- SEQ a to the one before b, modulo 256. -/
def seqsFrom (a b : Nat) : List Nat := (List.range ((b + 256 - a % 256) % 256)).map (fun i => (a + i) % 256)

/-- SEQ found missing, each with a NACK. -/
def epMissing (n p : Nat) (l : List Nat) (s : State) : State :=
  let new := l.filter (fun q => !(epPort n p s).missing.any (fun m => m.1 == q))
  each new (fun q s =>
    let x := epPort n p s
    upOn n p (setNack q) (setEpPort n p { x with missing := x.missing ++ [(q, s.lt, 1)] } s)) s

/-- The SEQ of a block: accepted in the window or as a missing one; a further copy of one accepted is discarded; any other lies
outside the window and counts in CRCN (log entry 25). Answers whether it is accepted. -/
def epSeq (n p seq : Nat) (s : State) : State × Bool :=
  let x := epPort n p s
  let d := (seq + 256 - x.last) % 256
  if 1 ≤ d ∧ d ≤ 64 then
    let s := epMissing n p (seqsFrom (x.last + 1) seq) s
    let y := epPort n p s
    (setEpPort n p { y with last := seq, missing := y.missing.filter (fun m => m.1 != seq
                              && (m.2.2 != 3 || decide ((seq + 256 - m.1) % 256 < 128))),
                            taken := (seq :: y.taken).take 64 } s, true)
  else if x.missing.any (fun m => m.1 == seq) then
    (setEpPort n p { x with missing := x.missing.filter (fun m => m.1 != seq), taken := (seq :: x.taken).take 64 } s, true)
  else if d = 0 || x.taken.contains seq then (s, false)
  else (epFail n p s, false)

/-- A command from a port is of the owning port and epoch, or of a claim whose HANDOFF it does not precede (R197). -/
def epOwned (n : Nat) (c : EpCmd) (s : State) : Bool :=
  let x := epOf n s
  (c.port == x.owner && c.epoch == x.epoch % 256 && match x.claim with
    | some (_, q, h) => q == c.port || !stampReached (c.stamp + (epPort n q s).offset + 2 ^ 40 - (epPort n c.port s).offset) h
    | none => true)
  || match x.claim with
    | some (e, q, h) => q == c.port && c.epoch == e % 256 && stampReached c.stamp h
    | none => false

/-- An accepted EDGE block (R187, R190, R197, R200). -/
def epCommand (n : Nat) (c : EpCmd) (resume : Bool) (s : State) : State :=
  let x := epOf n s
  if !x.hben.testBit c.hb then s
  else if !epOwned n c s then epEvent n c.port 4 c.seq c.epoch s
  else if x.wait.testBit c.hb && !resume then s
  else
    let s := setEp n { x with wait := setBit x.wait c.hb false } s
    let lead := (c.stamp + 2 ^ 40 - portTime n c.port s.lt s) % 2 ^ 40
    if 2 ^ 39 ≤ lead ∨ lead < 256 then epEvent n c.port 2 c.seq c.epoch s
    else if 2 ^ 20 < lead then epEvent n c.port 5 c.seq c.epoch s
    else setEp n { epOf n s with cmds := (epOf n s).cmds ++ [c] } s

/-- The REPORT of a transition (R178): plateau start and duration as measured. -/
def reportBlock (c : EpCmd) (td tm : Nat) (early noplat : Bool) : List Nat :=
  let b (x : Bool) (k : Nat) : Nat := if x then 2 ^ k else 0
  blockOf16 0xA ([c.seq % 256, 64 * c.hb + b c.hi 5 + b c.on 4 + c.bin] ++ bytesBE 2 td ++ bytesBE 2 tm
    ++ [b early 0 + b noplat 1])

/-- An edge drives its switch in the three phases of its profile from its stamp on (R193, R200). -/
def epDrive (n : Nat) (c : EpCmd) (s : State) : State :=
  let x := epOf n s
  let k := 2 * c.hb + (if c.hi then 1 else 0)
  emit (.drive n c.hb c.hi c.on c.pre c.plat c.ilev)
    (setEp n { x with gates := setBit x.gates k c.on, drive := Tbl.put k (c.pre, c.plat, c.ilev, c.stamp) x.drive } s)

/-- The phase of a switch's drive at a port time: 0 the pre-charge for PRE, 1 the weak drive at ILEV for PLAT, 2 the strong hold
until the next edge (R193). -/
def drivePhase (n k t : Nat) (s : State) : Nat :=
  let (pre, plat, _, t0) := Tbl.get (0, 0, 0, 0) (epOf n s).drive k
  let d := (t + 2 ^ 40 - t0 % 2 ^ 40) % 2 ^ 40
  if d < 8 * pre then 0 else if d < 8 * (pre + plat) then 1 else 2

/-- A command at its stamp (R200): a turn-off executes; a turn-on only if the complementary switch is measured off, and
else it is skipped with EVENT SKIP. -/
def epExecute (n p seq td tm : Nat) (early noplat : Bool) (s : State) : State :=
  let x := epOf n s
  match x.cmds.find? (fun c => c.port == p && c.seq == seq) with
  | none => s
  | some c =>
    if stampReached (portTime n p (s.lt + 15) s) c.stamp then
      let bitOther := 2 * c.hb + (if c.hi then 0 else 1)
      let x := { x with cmds := x.cmds.erase c }
      if c.on && (!x.off.testBit bitOther || x.gates.testBit bitOther) then epEvent n p 1 c.seq c.epoch (setEp n x s)
      else
        let s := epDrive n c (setEp n x s)
        if c.report then upOn n p (reportBlock c td tm early noplat) s else s
    else s

/-- OFF from either port, whatever the epoch (R189, R190). -/
def epOff (n m : Nat) (s : State) : State :=
  let x := epOf n s
  let hs := bitsOf 4 m
  let gates := hs.foldl (fun g k => setBit (setBit g (2 * k) false) (2 * k + 1) false) x.gates
  setEp n { x with gates := gates, cmds := x.cmds.filter (fun c => !m.testBit c.hb), wait := x.wait ||| (m % 16) } s

/-- A CONFIG block: standing orders and SEQ0 are taken, and CFGACK answers; a repeat is ignored (R177, R187). -/
def epConfig (n p cseq hben lossto stativ epid seq0 : Nat) (s : State) : State :=
  let x := epPort n p s
  let own := (Config.endpointId n).toNat
  if x.cseq == some cseq || !(epid == 0 || epid == own) then s
  else
    let s := setEpPort n p { x with cseq := some cseq, last := seq0, missing := [], taken := [] } s
    upTwice n p (cfgackBlock cseq own) (setEp n { epOf n s with hben := hben, lossto := lossto, stativ := stativ } s)

/-- Serial-number order modulo 2^32 (R197). -/
def newer32 (a b : Nat) : Bool := 0 < (a + 2 ^ 32 - b % 2 ^ 32) % 2 ^ 32 && (a + 2 ^ 32 - b % 2 ^ 32) % 2 ^ 32 < 2 ^ 31

/-- An EPOCH block (R197): a newer one is a claim that takes effect at HANDOFF; one equal from the other port is a CONFLICT;
an older one is STALE; the repeat of the port that holds it changes nothing. -/
def epEpoch (n p epochf handoff : Nat) (s : State) : State :=
  let x := epOf n s
  let (cur, who) := match x.claim with
    | some (e, q, _) => (e, q)
    | none => (x.epoch, x.owner)
  if newer32 epochf cur then
    setEp n { x with claim := some (epochf, p, handoff), epochs := Tbl.put p epochf x.epochs } s
  else if epochf = cur then
    if p = who then setEp n { x with epochs := Tbl.put p epochf x.epochs } s else epEvent n p 6 0 (epochf % 256) s
  else epEvent n p 4 0 (epochf % 256) s

/-- HANDOFF is reached: the claiming port owns the endpoint, and commands of the other port from HANDOFF on are cancelled
(R197). -/
def epHandoff (n : Nat) (s : State) : State :=
  let x := epOf n s
  match x.claim with
  | none => s
  | some (e, p, h) =>
    if stampReached (portTime n p s.lt s) h then
      let keep (c : EpCmd) : Bool := c.port == p ||
        !stampReached ((c.stamp + (epPort n p s).offset + 2 ^ 40 - (epPort n c.port s).offset) % 2 ^ 40) h
      setEp n { x with epoch := e, owner := p, claim := none, cmds := x.cmds.filter keep } s
    else s

/-- TIME (R181): at the delivery of its start character, at LT `t`, the port time becomes LTTX + DFWD. -/
def epTime (n p lttx dfwd t : Nat) (s : State) : State :=
  let x := epPort n p s
  let off := (lttx + dfwd + 2 ^ 40 - t % 2 ^ 40) % 2 ^ 40
  setEpPort n p { x with offset := off, tcorr := clampI (-32768) 32767 (signed 40 (off + 2 ^ 40 - x.offset)) } s

/-- STATUS on every port in sync (R178, R192). -/
def epStatus (n temps : Nat) (s : State) : State :=
  let one (p : Nat) (s : State) : State :=
    let x := epOf n s
    let y := epPort n p s
    let b := blockOf16 9 ([x.uv + 16 * x.alm, x.off] ++ (List.range 4).map (fun k => temps / 256 ^ k % 256)
      ++ [Tbl.get 0 x.epochs p % 256, if x.owner = p then 1 else 0] ++ bytesBE 2 (codeOf 16 y.tcorr) ++ bytesBE 2 y.crcn)
    upOn n p b (setEpPort n p { y with crcn := 0 } s)
  let s := each ((List.range 2).filter (fun p => (epPort n p s).rx)) one s
  setEp n { epOf n s with statAt := s.lt } s

/-- HELLO of the endpoint on a port (R178). -/
def epHello (n p : Nat) (s : State) : State :=
  let f := (Config.endpointFit n).toNat
  upTwice n p (blockOf16 8 (bytesBE 4 (Config.endpointId n).toNat ++ [f % 32 + 32 * p, 1])) s

/-! Commands. -/

/-- A receiver gains sync (R172): 0 the device's, 1 and 2 the endpoint's on port A and B, which then sends HELLO. -/
def execLinkRxSync (link : Fin 24) (who : Fin 3) (s : State) : Host.Outcome State Fault Refusal :=
  .next (match who with
    | 0 => setLnk link { lnkOf link s with rx := true, idles := 0 } s
    | k => syncDone link (epHello link (k.val - 1) (setEpPort link (k.val - 1)
        { epPort link (k.val - 1) s with rx := true, lostAt := none, cseq := none } s)))

/-- IDLE at the device, or at a port of the endpoint, where L shows SEQ not yet accepted (R173, R187); one that fails its check
is ignored. -/
def execIdleReceived (link : Fin 24) (who : Fin 3) (ok : Bool) (l : BitVec 8) (s : State) :
    Host.Outcome State Fault Refusal :=
  .next (match who with
    | 0 => if linkEnabled link s then (if ok then idleAtDevice link s else crcFail link s) else s
    | k =>
      let p := k.val - 1
      epTakes link p ok (fun s =>
        let d := (l.toNat + 256 - (epPort link p s).last) % 256
        if 1 ≤ d ∧ d ≤ 64 then epMissing link p (seqsFrom ((epPort link p s).last + 1) (l.toNat + 1)) s else s) s)

def execEpEdgeBlock (link : Fin 24) (port : Fin 2) (ok : Bool) (seq epoch : BitVec 8) (k : Fin 4) (hi turnOn report resume : Bool)
    (stamp : BitVec 40) (pre : BitVec 8) (plat : BitVec 10) (ilev : BitVec 4) (bin : Fin 8) (s : State) :
    Host.Outcome State Fault Refusal :=
  .next (epTakes link port ok (fun s =>
    let (s, yes) := epSeq link port seq.toNat s
    if yes then
      epCommand link { port := port, seq := seq.toNat, epoch := epoch.toNat, hb := k, hi := hi, on := turnOn,
                       stamp := stamp.toNat, pre := pre.toNat, plat := plat.toNat, ilev := ilev.toNat, bin := bin,
                       report := report } resume s
    else s) s)

def execEpEdgeStamp (link : Fin 24) (port : Fin 2) (seq : BitVec 8) (td tm : BitVec 16) (early noplat : Bool) (s : State) :
    Host.Outcome State Fault Refusal := .next (epExecute link port seq.toNat td.toNat tm.toNat early noplat s)

def execEpOff (link : Fin 24) (port : Fin 2) (ok : Bool) (m : BitVec 4) (s : State) : Host.Outcome State Fault Refusal :=
  .next (epTakes link port ok (epOff link m.toNat) s)

def execEpConfigBlock (link : Fin 24) (port : Fin 2) (ok : Bool) (cseq : BitVec 8) (hben : BitVec 4) (lossto : BitVec 16)
    (stativ : BitVec 8) (epid : BitVec 32) (seq0 : BitVec 8) (s : State) : Host.Outcome State Fault Refusal :=
  .next (epTakes link port ok
    (epConfig link port cseq.toNat hben.toNat lossto.toNat stativ.toNat epid.toNat seq0.toNat) s)

def execEpEpochBlock (link : Fin 24) (port : Fin 2) (ok : Bool) (epochf : BitVec 32) (handoff : BitVec 40) (s : State) :
    Host.Outcome State Fault Refusal := .next (epTakes link port ok (epEpoch link port epochf.toNat handoff.toNat) s)

def execEpHandoff (link : Fin 24) (s : State) : Host.Outcome State Fault Refusal := .next (epHandoff link s)

/-- TIME; the repeat of one acted on is ignored (R177). -/
def execEpTimeBlock (link : Fin 24) (port : Fin 2) (ok again : Bool) (lttx : BitVec 40) (dfwd : BitVec 16) (t : BitVec 64)
    (s : State) : Host.Outcome State Fault Refusal :=
  .next (epTakes link port ok (fun s => if again then s else epTime link port lttx.toNat dfwd.toNat t.toNat s) s)

/-- RTQ is answered by RTA with the turnaround as measured (R182). -/
def execEpRtq (link : Fin 24) (port : Fin 2) (ok : Bool) (num : BitVec 4) (ta : BitVec 20) (s : State) :
    Host.Outcome State Fault Refusal := .next (epTakes link port ok (upOn link port (setRta num.toNat ta.toNat)) s)

/-- The second NACK of a SEQ still missing 512 eu after the first (R187). -/
def execEpNackRepeat (link : Fin 24) (port : Fin 2) (seq : BitVec 8) (s : State) : Host.Outcome State Fault Refusal :=
  .next (let x := epPort link port s
    if x.missing.any (fun m => m.1 == seq.toNat && m.2.2 == 1 && decide (m.2.1 + 512 ≤ s.lt)) then
      upOn link port (setNack seq.toNat) (setEpPort link port
        { x with missing := x.missing.map (fun m => if m.1 = seq.toNat then (m.1, s.lt, 2) else m) } s)
    else s)

/-- A missing SEQ that was never resent is reported after its stamp, once (R187). -/
def execEpMissingReport (link : Fin 24) (port : Fin 2) (seq : BitVec 8) (s : State) : Host.Outcome State Fault Refusal :=
  .next (let x := epPort link port s
    if x.missing.any (fun m => m.1 == seq.toNat && m.2.2 != 3) then
      epEvent link port 3 seq.toNat (Tbl.get 0 (epOf link s).epochs port % 256)
        (setEpPort link port { x with missing := x.missing.map (fun m => if m.1 = seq.toNat then (m.1, m.2.1, 3) else m) } s)
    else s)

/-- The receiver of a port loses sync (R180): the CONFIG of the next bring-up is no repeat (R177). -/
def execEpRxSyncLost (link : Fin 24) (port : Fin 2) (s : State) : Host.Outcome State Fault Refusal :=
  .next (setEpPort link port { epPort link port s with rx := false, lostAt := some s.lt, cseq := none } s)

/-- The owning port has been out of sync for LOSSTO: every half-bridge off, every command cancelled (R180). -/
def execEpLossTimeout (link : Fin 24) (port : Fin 2) (s : State) : Host.Outcome State Fault Refusal :=
  .next (let x := epOf link s
    match (epPort link port s).lostAt with
    | some t => if x.owner = port.val ∧ t + x.lossto ≤ s.lt then setEp link { x with gates := 0, cmds := [] } s else s
    | none => s)

/-- A shunt comparator rises: ALARM three times (R191). -/
def execEpShuntAlarm (link : Fin 24) (mask : BitVec 4) (high low : Bool) (s : State) : Host.Outcome State Fault Refusal :=
  .next (let a := mask.toNat + (if high then 16 else 0) + (if low then 32 else 0)
    let f := upAll link (setAlarm a)
    f (f (f (setEp link { epOf link s with alm := (epOf link s).alm ||| mask.toNat } s))))

/-- A measured gate state changes: OC (R192). -/
def execEpGateStateChange (link : Fin 24) (oc : BitVec 8) (s : State) : Host.Outcome State Fault Refusal :=
  .next (upAll link (setOc oc.toNat) (setEp link { epOf link s with off := oc.toNat } s))

/-- Every STATIV µs (R192). -/
def execEpStatusInterval (link : Fin 24) (temps : BitVec 32) (s : State) : Host.Outcome State Fault Refusal :=
  .next (if (epOf link s).statAt + (epOf link s).stativ * us ≤ s.lt then epStatus link temps.toNat s else s)

/-- A change of UV or ALM (R192). -/
def execEpStatusConditionChange (link : Fin 24) (uv alm : BitVec 4) (temps : BitVec 32) (s : State) :
    Host.Outcome State Fault Refusal :=
  .next (epStatus link temps.toNat (setEp link { epOf link s with uv := uv.toNat, alm := alm.toNat } s))

end Sys2Proof.Machine
end

