-- ==== Sys2Proof/Machine/EventUnit.lean ====
section
/-! DEFINITION. The commands of the event unit: the ring and its read index, the loss record, the unlock of a Stage, the
leak of an upset counter, and the Tumble registers (R205, R206, R210, R211, R217, R218). -/

namespace Sys2Proof.Machine

/-- The ring's size in records (R205). -/
def ringSize (s : State) : Nat := 2 ^ (rd Reg.EVT_RSIZE s % 32)

/-- The four words of a record (R202). -/
def recordWords (r : EvRec) : List Nat :=
  [r.seq % 2 ^ 32,
   r.source + (if r.tumble then 2 ^ 7 else 0) + 2 ^ 8 * r.grade + (if r.stgv then 2 ^ 11 else 0) + 2 ^ 12 * r.stage
     + 2 ^ 16 * r.detail,
   r.atf + 2 ^ 16 * (r.lt / 2 ^ 32 % 2 ^ 16),
   r.lt % 2 ^ 32]

/-- The oldest waiting record goes to slot k mod 2^RSIZE, and EVT_WIDX advances, while the ring has room (R205). -/
def ringWrite (s : State) : State :=
  let w := rd Reg.EVT_WIDX s
  let used := (w + 2 ^ 32 - rd Reg.EVT_RIDX s) % 2 ^ 32
  match s.evt.queue with
  | [] => s
  | r :: q =>
    if s.configured && used < ringSize s then
      let a := rd Reg.EVT_RBASE s + 16 * (w % ringSize s)
      busUse 10 a 16 (fun s => evtShow (wr Reg.EVT_WIDX (w + 1)
        (stBytes a ((recordWords r).flatMap (bytesLE 4)) { s with evt := { s.evt with queue := q } }))) s
    else s

/-- An EVT_RIDX write (R206): ahead of EVT_WIDX or more than the ring behind it, it is ignored and sets BADIDX. -/
def ridxWrite (v : Nat) (s : State) : State :=
  if ringSize s < (rd Reg.EVT_WIDX s + 2 ^ 32 - v % 2 ^ 32) % 2 ^ 32 then setB Reg.EVT_EVT Reg.EVT_EVT_BADIDX true s
  else evtShow (wr Reg.EVT_RIDX v s)

/-- The refusal of an EVT_UNLOCK pair, in the order of R470; 0 where it is accepted. A pair without GO, or with a reserved
bit set, is an undefined request (DEDUCED, log entry 30). -/
def unlockCause (v : Nat) (s : State) : Nat :=
  let st := v % 4
  if v &&& 0xFFFFFFFC ≠ 0x100 then 5
  else if !locked st s then 4
  else if !(g5Of st s).isEmpty then 1
  else if bitAt Reg.PGN_GSTAT 0 s then 2
  else if on Reg.SAF_STAT Reg.SAF_STAT_LOCKOUT s then 3
  else 0

/-- An EVT_UNLOCK pair (R210). -/
def stageUnlock (v : Nat) (s : State) : State :=
  let st := v % 4
  let c := unlockCause v s
  if c = 0 then pulsesAuto st (record 15 0 0 (some st) (setBitAt Reg.EVT_G5CAUSE st false s))
  else
    record 15 0 (0x100 + c) (some st)
      (setB Reg.EVT_EVT Reg.EVT_EVT_UNLOCKREF true (setF Reg.EVT_G5CAUSE Reg.EVT_G5CAUSE_REFUSE c s))

/-- A leak instant of a counter: L falls by 1 if it is above 0 (R211). -/
def counterLeak (id : Nat) (s : State) : State :=
  let k := (Tbl.get (0, 0, 0) s.evt.leaks id).1
  if s.configured && (k + 1) * leakPeriod id s ≤ nowF s - s.cc / fclk then
    let (l, o) := ctrOf id s
    ucShow (setCtr id (l - 1, o) { s with evt := { s.evt with leaks := Tbl.put id (k + 1, s.lt, min l 1) s.evt.leaks } })
  else s

/-! Tumble. -/

/-- The bits of the TMB registers that a write reaches (R220). -/
def tmbMask (a : Nat) : Nat :=
  if a = Reg.TMB_CTL then 0x1F
  else if a = Reg.TMB_LLERR then 0xFFFF003F
  else if a = Reg.TMB_LLDLY then 0xFFFF001F
  else if a = Reg.TMB_ARB then 0xFFFFFF0F
  else if a = Reg.TMB_SLICE then 0xFFFF007F
  else if a = Reg.TMB_SPAN then 0xFFFF0003
  else 0

/-- A write of a TMB register (R217): in test mode while the evaluator is not armed, and no refused KIND of TMB_SLICE; else
ignored with EV95. -/
def tmbWrite (a v : Nat) (s : State) : State :=
  if tmbMask a = 0 then s
  else if !testMode s || on Reg.SAF_STAT Reg.SAF_STAT_ARMED s || (a = Reg.TMB_SLICE && v / 2 ^ 5 % 4 = 3) then
    record 95 0 0 none s
  else
    let s := wr a (v &&& tmbMask a) s
    setB Reg.TMB_STAT Reg.TMB_STAT_ACTIVE (rd Reg.TMB_CTL s != 0) s

/-- The evaluator arms (R217): every perturbation stops, TMB_CTL reads 0, and EV95 is recorded. -/
def tumbleStop (s : State) : State :=
  record 95 0 0 none
    (setB Reg.TMB_STAT Reg.TMB_STAT_SAFLOCK true (setB Reg.TMB_STAT Reg.TMB_STAT_ACTIVE false (wr Reg.TMB_CTL 0 s)))

/-! Commands. -/

def execEventRingWrite (s : State) : Host.Outcome State Fault Refusal := .next (ringWrite s)

def execLossRecordEnqueue (s : State) : Host.Outcome State Fault Refusal := .next (evtShow (flushLoss s))

def execEvtRidxWrite (value : BitVec 32) (by_ : Fin 19) (s : State) : Host.Outcome State Fault Refusal :=
  .next (when (mayStore Reg.EVT_RIDX by_ s) (ridxWrite value.toNat) s)

def execStageUnlock (value : BitVec 32) (by_ : Fin 19) (s : State) : Host.Outcome State Fault Refusal :=
  .next (when (mayStore Reg.EVT_UNLOCK by_ s) (fun s => stageUnlock value.toNat (endHold Reg.EVT_UNLOCK s)) s)

def execUpsetCounterLeak (counter : BitVec 16) (s : State) : Host.Outcome State Fault Refusal :=
  .next (counterLeak counter.toNat s)

def execTmbWrite (addr value : BitVec 32) (by_ : Fin 19) (s : State) : Host.Outcome State Fault Refusal :=
  .next (when (mayStore addr.toNat by_ s) (tmbWrite addr.toNat value.toNat) s)

end Sys2Proof.Machine
end

