-- ==== Sys2Proof/Machine/Hamper.lean ====
section
/-! DEFINITION. The commands of the Hamper (R279-R292). -/

namespace Sys2Proof.Machine

/-- A write of HMP_CMD that reaches it ends the hold of its value word. -/
def hmpCmd (by_ : Nat) (f : State → State) (s : State) : State :=
  when (mayStore Reg.HMP_CMD by_ s) (fun s => f (endHold Reg.HMP_CMD s)) s

/-- A Tack HAMPER action with an argument. -/
def hmpAction (n arg : Nat) (f : State → State) (s : State) : State :=
  if slArg (slotOf n s) = arg then firing n actHamper (fun _ s => f s) s else s

def execHamperActionArm (slot : Fin 4096) (s : State) : Host.Outcome State Fault Refusal :=
  .next (hmpAction slot 0 (fun s => (hmpArm s).1) s)

def execHamperActionTrigger (slot : Fin 4096) (s : State) : Host.Outcome State Fault Refusal :=
  .next (hmpAction slot 1 (fun s => hmpPulse 4 s.lt s) s)

def execHamperArm (by_ : Fin 19) (s : State) : Host.Outcome State Fault Refusal := .next (hmpCmd by_ hmpArmCmd s)
def execHamperForce (by_ : Fin 19) (s : State) : Host.Outcome State Fault Refusal := .next (hmpCmd by_ hmpForce s)
def execHamperAbort (by_ : Fin 19) (s : State) : Host.Outcome State Fault Refusal := .next (hmpCmd by_ hmpAbort s)
def execHamperRelease (by_ : Fin 19) (s : State) : Host.Outcome State Fault Refusal := .next (hmpCmd by_ hmpRelease s)
def execHamperCal (by_ : Fin 19) (s : State) : Host.Outcome State Fault Refusal := .next (hmpCmd by_ hmpCal s)

def execHamperTimerExpiry (timer : Fin 4) (s : State) : Host.Outcome State Fault Refusal := .next (timerExpire timer s)

def execHamperGapMarker (channel : Fin 64) (s : State) : Host.Outcome State Fault Refusal := .next (chGap channel s)

/-- A burst of the writer, where its target is free (R299); rate reduction is judged again (R286). -/
def hmpDrain (c : Nat) (s : State) : State :=
  let t := hmpTarget c s
  if (chanOf c s).fifo.isEmpty then s else burstAlone 4 t (fun s => chReduce c (chDrain c s)) s

def execHamperFifoDrain (channel : Fin 64) (s : State) : Host.Outcome State Fault Refusal := .next (hmpDrain channel s)

def execTriggerPinPulse (pin : Fin 2) (s : State) : Host.Outcome State Fault Refusal := .next (pinPulse pin s)

def execTriggerPinInput (pin : Fin 2) (s : State) : Host.Outcome State Fault Refusal := .next (pinArrive pin s)

end Sys2Proof.Machine
end

