-- ==== Sys2Proof/Machine/Handover.lean ====
section
/-! DEFINITION. The firings of a HANDOVER slot: the Stitch sets, the Pulse-generator shadows, or both (R115, R164). -/

namespace Sys2Proof.Machine

/-- A HANDOVER slot whose target names the kind fires for its Stage. -/
def handoverFiring (n kind : Nat) (f : Nat → State → State) (s : State) : State :=
  if slTarget (slotOf n s) / 16 = kind then firing n actHandover (fun x s => f (slTarget x % 4) s) s else s

/-- Target 0x00 + s (R115). -/
def execHandoverStitch (slot : Fin 4096) (s : State) : Host.Outcome State Fault Refusal :=
  .next (handoverFiring slot 0 stitchHandover s)

/-- Target 0x10 + s (R164). -/
def execHandoverPulse (slot : Fin 4096) (s : State) : Host.Outcome State Fault Refusal :=
  .next (handoverFiring slot 1 handoverFire s)

/-- Target 0x20 + s (R164). -/
def execHandoverBoth (slot : Fin 4096) (s : State) : Host.Outcome State Fault Refusal :=
  .next (handoverFiring slot 2 (fun st s => handoverFire st (stitchHandover st s)) s)

/-- A deferred hand-over at c + CDL (R164). -/
def execHandoverDeferred (st : Fin 4) (s : State) : Host.Outcome State Fault Refusal :=
  .next (match (pgnOf st s).deferAt with
    | some f => if f ≤ nowF s then pulseHandover st s else s
    | none => s)

end Sys2Proof.Machine
end

