-- ==== Sys2Proof/Machine/SafetyEval.lean ====
section
/-! DEFINITION. The safety evaluator: functions, paths, lock-out, arming and the reset (The Safety Evaluator, R390-R407). Channel
A is 0, channel B 1. -/

namespace Sys2Proof.Machine

def setSaf (f : SafSt → SafSt) (s : State) : State := { s with saf := f s.saf }
def pairOf (ch n : Nat) (s : State) : SafPair := Tbl.get .reset s.saf.pairs (8 * ch + n)
def safFunc (n : Nat) (s : State) : Nat := fl (Reg.SAF_PCFG n) Reg.SAF_PCFG_FUNC s
def safStop (n : Nat) (s : State) : Bool := [1, 2, 3, 5].contains (safFunc n s)
def safHand (n : Nat) (s : State) : Bool := safFunc n s == 4
def safOn (s : State) : Bool := s.configured && bitAt Reg.SAF_CFG 0 s

/-! The two configuration copies (R390): channel A reads the registers, channel B its own copy. -/

def safCopyRegs : List Nat :=
  (List.range 8).flatMap (fun n => [Reg.SAF_PCFG n, Reg.SAF_PTIME n]) ++ [Reg.SAF_CFG, Reg.SAF_TP, Reg.SAF_PB]

/-- A configuration word as a channel holds it. -/
def cfgOf (ch a : Nat) (s : State) : Nat := if ch = 0 then rd a s else Tbl.get 0 s.saf.copyB a
def cfgFl (ch a : Nat) (F : Fld) (s : State) : Nat := cfgOf ch a s / 2 ^ F.lo % 2 ^ F.width

/-- The configuration loader writes channel B's copy. -/
def safCopyWrite (s : State) : State :=
  setSaf (fun p => { p with copyB := safCopyRegs.foldl (fun t a => Tbl.put a (rd a s) t) [], differ := false }) s

/-- The copies agree bit for bit. -/
def copiesSame (s : State) : Bool := safCopyRegs.all (fun a => cfgOf 0 a s == cfgOf 1 a s)

def fnOf (ch n : Nat) (s : State) : Nat := cfgFl ch (Reg.SAF_PCFG n) Reg.SAF_PCFG_FUNC s
def stopFn (ch n : Nat) (s : State) : Bool := [1, 2, 3, 5].contains (fnOf ch n s)
def handFn (ch n : Nat) (s : State) : Bool := fnOf ch n s == 4
def armed (s : State) : Bool := on Reg.SAF_STAT Reg.SAF_STAT_ARMED s
def lockedOut (s : State) : Bool := on Reg.SAF_STAT Reg.SAF_STAT_LOCKOUT s
def safFlag (F : Fld) (s : State) : State := setB Reg.SAF_EVT F true s
def tfbEu (s : State) : Nat := ms * (cfgOf 1 Reg.SAF_PB s % 2 ^ 8)
def tpperEu (s : State) : Nat := ms * (rd Reg.SAF_TP s % 2 ^ 10)
def tpwEu (s : State) : Nat := us * (rd Reg.SAF_TP s / 2 ^ 10 % 2 ^ 10)
def tpsetEu (s : State) : Nat := us * (rd Reg.SAF_TP s / 2 ^ 20 % 2 ^ 8)
def tdiscEu (ch n : Nat) (s : State) : Nat := ms * cfgFl ch (Reg.SAF_PTIME n) Reg.SAF_PTIME_TDISC s
def tstopEu (ch n : Nat) (s : State) : Nat := ms * cfgFl ch (Reg.SAF_PTIME n) Reg.SAF_PTIME_TSTOP s

/-- A time has passed by a channel's own clock: channel B's is within 5 % (R390). -/
def elapsed (ch since t : Nat) (s : State) : Bool :=
  if ch = 0 then decide (since + t ≤ s.lt) else decide (105 * since + 100 * t ≤ 105 * s.lt)

/-- A pair of a channel, shown in SAF_PSTAT from channel A. No actuation is reported before arming and during a lock-out (R396). -/
def setPair (ch n : Nat) (x : SafPair) (s : State) : State :=
  let s := setSaf (fun p => { p with pairs := Tbl.put (8 * ch + n) x p.pairs }) s
  if ch ≠ 0 then s
  else setF (Reg.SAF_PSTAT n) Reg.SAF_PSTAT_STATE x.state (setB (Reg.SAF_PSTAT n) Reg.SAF_PSTAT_INA x.a
    (setB (Reg.SAF_PSTAT n) Reg.SAF_PSTAT_INB x.b (setB (Reg.SAF_PSTAT n) Reg.SAF_PSTAT_DISCRUN x.disc.isSome
      (setB (Reg.SAF_PSTAT n) Reg.SAF_PSTAT_STOPRUN x.stop.isSome
      (setB (Reg.SAF_PSTAT n) Reg.SAF_PSTAT_THACT (x.thact && armed s && !lockedOut s) s)))))

/-- Every pair shown again, after arming, a lock-out or a reset. -/
def pairsShow (s : State) : State := each (List.range 8) (fun n s => setPair 0 n (pairOf 0 n s) s) s

/-! Paths (R398, R399). -/

/-- OFF with mask 0b1111 on every enabled link; the repeats of the first microsecond are one entry. -/
def offAll (s : State) : State :=
  each (List.range 24) (fun n s =>
    let s := sendOff n 15 s
    setLnk n { lnkOf n s with offUntil := s.lt + us } s)
    (setSaf (fun p => { p with offAt := s.lt }) s)

/-- Every Stage's state machine sees the path off at its next step (R66, cause 16). -/
def sawOff (s : State) : State := each (List.range 4) (fun st s => setDrm st { drmOf st s with sawOff := true } s) s

/-- Path A turns off: every LEGn_EN is low, the links carry OFF, and no Stage has pulses (R398). -/
def pathAOff (s : State) : State :=
  let was := on Reg.SAF_STAT Reg.SAF_STAT_PATHA s
  let s := setB Reg.SAF_STAT Reg.SAF_STAT_PATHA false (when was (each (List.range 8) legOff) s)
  if was then each ((List.range 4).filter (fun st => pulsesOn st s)) (fun st s => pulsesOff st 3 s)
    (offAll (sawOff (safFlag Reg.SAF_EVT_OFF s)))
  else s

/-! The SAFE_OFF pins: 20 kHz in antiphase while Path B permits, low from the next half-period boundary after it turns off (R399).
The half-periods are those of channel B's oscillator at 20 MHz (log entry 205). -/

def offPinsSet (a b : Bool) (s : State) : State :=
  emit (.pin "SAFE_OFF_B" 0 b.toNat s.lt) (emit (.pin "SAFE_OFF_A" 0 a.toNat s.lt) s)

/-- The pins start to toggle, unless they still do. -/
def offPinsStart (s : State) : State :=
  if s.saf.offNext.isSome then s
  else offPinsSet true false (setSaf (fun p => { p with offNext := some (s.lt + 25 * us), offHigh := true }) s)

/-- A half-period boundary. -/
def offPinsTick (s : State) : State :=
  match s.saf.offNext with
  | none => s
  | some t =>
    if s.lt < t then s
    else if on Reg.SAF_STAT Reg.SAF_STAT_PATHB s then
      offPinsSet (!s.saf.offHigh) s.saf.offHigh
        (setSaf (fun p => { p with offNext := some (t + 25 * us), offHigh := !s.saf.offHigh }) s)
    else offPinsSet false false (setSaf (fun p => { p with offNext := none, offHigh := false }) s)

/-- Path B turns off: both pins go low at the next boundary, EV91, and the feedback is awaited. -/
def pathBOff (s : State) : State :=
  if on Reg.SAF_STAT Reg.SAF_STAT_PATHB s then
    let s := setSaf (fun p => { p with fbPend := some s.lt, fbDis := none }) (setB Reg.SAF_STAT Reg.SAF_STAT_PATHB false (sawOff s))
    record 91 0 0 none (safFlag Reg.SAF_EVT_OFF s)
  else s

def pathOff (ch : Nat) (s : State) : State := if ch = 0 then pathAOff s else pathBOff s

/-- Nothing holds a path off: no function in DEMAND, WAITRESET or a TSTOP delay, and no lock-out. -/
def pathClear (ch : Nat) (s : State) : Bool :=
  armed s && !lockedOut s && (List.range 8).all (fun n =>
    !stopFn ch n s || ((pairOf ch n s).state == 0 && (pairOf ch n s).stop.isNone))

/-- A path turns on where nothing holds it off. It enables no pulses (R398; log entry 22). -/
def pathOn (ch : Nat) (s : State) : State :=
  if !pathClear ch s then s
  else if ch = 0 then setB Reg.SAF_STAT Reg.SAF_STAT_PATHA true s
  else if on Reg.SAF_STAT Reg.SAF_STAT_PATHB s then s
  else offPinsStart (setSaf (fun p => { p with fbPend := some s.lt, fbDis := none }) (setB Reg.SAF_STAT Reg.SAF_STAT_PATHB true s))

/-! Lock-out (R401, R402). -/

/-- A cause of a lock-out: its detection's record stands already. -/
def lockOut (cause pair : Nat) (s : State) : State :=
  let first := !lockedOut s
  let s := when first (fun s =>
    let s := setB Reg.SAF_STAT Reg.SAF_STAT_LOCKOUT true (wr Reg.SAF_LOCK (cause + 16 * pair) (safFlag Reg.SAF_EVT_LOCKOUT s))
    pathBOff (pathAOff (pairsShow s))) s
  let s := record 92 5 cause none s
  when first (gradeG5All ((List.range 4).filter (fun st => !(hbsOf st s).isEmpty)) (some ⟨92, 0⟩)) s

/-- A detection with a record of its own, before EV92. -/
def detect (src detail cause pair : Nat) (s : State) : State :=
  under src detail (lockOut cause pair) (record src 0 detail none s)

/-! Functions (R394-R396). -/

/-- A stop function enters DEMAND: EV88 from channel A, and the path turns off at once, or after TSTOP. -/
def demand (ch n : Nat) (s : State) : State :=
  let x := pairOf ch n s
  let x := { x with state := 1, both := !x.a && !x.b }
  let delay := fnOf ch n s == 2
  let s := setPair ch n (if delay then { x with stop := some s.lt } else x) s
  let s := when (ch == 0) (fun s =>
    record 88 0 n none (safFlag Reg.SAF_EVT_DEMAND (setB (Reg.SAF_PEVT n) Reg.SAF_PEVT_DEMAND true s))) s
  if delay then s else pathOff ch s

/-- Both inputs of a pair are in their permitting state. -/
def bothClosed (x : SafPair) : Bool := x.a && x.b

/-- The discrepancy time after a change of an input: it runs while the inputs differ, and goes on over a partial reclose. -/
def discAfter (x : SafPair) (stop : Bool) (s : State) : Option Nat :=
  if x.a != x.b then some (x.disc.getD s.lt)
  else if bothClosed x && stop && x.state == 1 && !x.both then x.disc
  else none

/-- The actuation of an even pair and the next (R396); whether it is reported, setPair decides. -/
def twoHandCheck (ch m : Nat) (s : State) : State :=
  let e := m / 2 * 2
  let x := pairOf ch e s
  let y := pairOf ch (e + 1) s
  let rel := x.rel ||| (if x.act.isNone then 1 else 0) ||| (if y.act.isNone then 2 else 0)
  match x.act, y.act with
  | some t, some u =>
    let ok := x.thact || (rel == 3 && decide (max t u ≤ min t u + 500 * ms))
    setPair ch e { x with thact := ok, rel := rel } s
  | _, _ =>
    setPair ch e { x with thact := false, rel := if x.thact then (if x.act.isNone then 1 else 0) ||| (if y.act.isNone then 2 else 0) else rel } s

/-- The samples of a letter's inputs are masked: a pulse of its test output, and TPSET after it; those of an OSSD pair never are
(R393, R397). -/
def sampleMasked (ch n o : Nat) (s : State) : Bool :=
  fnOf ch n s != 5 && (s.saf.tpLow.testBit o ||
    match s.saf.tpEnd.find? (fun p => p.1 == o) with
    | some p => decide (s.lt < p.2 + tpsetEu s)
    | none => false)

/-- TFILT samples fit between the input's last change of count, or configuration completion, and now (R392). -/
def filtered (ch n : Nat) (second : Bool) (s : State) : Bool :=
  let k := cfgFl ch (Reg.SAF_PTIME n) Reg.SAF_PTIME_TFILT s
  match if second then (pairOf ch n s).atB else (pairOf ch n s).atA with
  | some t => elapsed ch t (20 * us * k) s
  | none => elapsed ch s.cc (20 * us * (k - 1)) s

/-- The pair with an input's count. -/
def counted (second closed : Bool) (x : SafPair) (s : State) : SafPair :=
  if second then { x with b := closed, atB := some s.lt } else { x with a := closed, atA := some s.lt }

/-- A count that a channel takes: of a sample that is not masked, after TFILT samples. -/
def countTaken (ch n : Nat) (second : Bool) (s : State) : Bool :=
  safOn s && !sampleMasked ch n second.toNat s && filtered ch n second s

/-- An input of a pair counts open in a channel (R392, R395): open is not in its permitting state. -/
def inputOpen (ch n : Nat) (second : Bool) (s : State) : State :=
  if !countTaken ch n second s then s
  else
    let x := counted second false (pairOf ch n s) s
    if fnOf ch n s = 0 then setPair ch n x s
    else if handFn ch n s then
      let x := { x with act := none, disc := if armed s then discAfter x false s else none }
      twoHandCheck ch n (setPair ch n x s)
    else
      let s := setPair ch n x s
      let s := if x.state = 0 then demand ch n s else s
      let x := pairOf ch n s
      let x := { x with both := x.both || (!x.a && !x.b) }
      setPair ch n { x with disc := if armed s then discAfter x true s else none } s

/-- An input of a pair counts closed in a channel (R392, R395). -/
def inputClosed (ch n : Nat) (second : Bool) (s : State) : State :=
  if !countTaken ch n second s then s
  else
    let x := counted second true (pairOf ch n s) s
    if fnOf ch n s = 0 then setPair ch n x s
    else if handFn ch n s then
      let x := { x with act := if bothClosed x then some (x.act.getD s.lt) else none,
                        disc := if armed s then discAfter x false s else none }
      twoHandCheck ch n (setPair ch n x s)
    else
      let x := { x with disc := if armed s then discAfter x true s else none }
      if x.state = 1 && bothClosed x && x.both then
        let auto_ := cfgFl ch (Reg.SAF_PCFG n) Reg.SAF_PCFG_RESET s != 0
        let s := setPair ch n { x with state := if auto_ then 0 else 2 } s
        pathOn ch s
      else setPair ch n x s

/-- The other input has not followed within TDISC: EV89. -/
def discrepancy (ch n : Nat) (s : State) : State :=
  let x := pairOf ch n s
  match x.disc with
  | none => s
  | some t =>
    if safOn s && elapsed ch t (tdiscEu ch n s) s then
      detect 89 n 1 n (setB (Reg.SAF_PEVT n) Reg.SAF_PEVT_DISC true (setPair ch n { x with disc := none } s))
    else s

/-- The TSTOP delay of an ESTOP1 demand ends: the path turns off, and on again where the delay alone held it (R395, R398). -/
def stopExpiry (ch n : Nat) (s : State) : State :=
  let x := pairOf ch n s
  match x.stop with
  | none => s
  | some t => if safOn s && elapsed ch t (tstopEu ch n s) s then pathOn ch (pathOff ch (setPair ch n { x with stop := none } s)) else s

/-! Test pulses (R393). -/

/-- A unit whose test outputs drive the contacts (R406); an unpaired device drives them. -/
def drivesTest (s : State) : Bool := !paired s || bitAt Reg.SAF_CFG 2 s

def tpName (o : Nat) : String := if o = 0 then "SAFE_TPA" else "SAFE_TPB"

/-- The test outputs are high but for their pulses. -/
def tpHigh (s : State) : State := emit (.pin "SAFE_TPB" 0 1 s.lt) (emit (.pin "SAFE_TPA" 0 1 s.lt) s)

/-- A test pulse starts, once every TPPER; those of SAFE_TPB fall TPPER / 2 after those of SAFE_TPA. -/
def pulseStart (o : Nat) (s : State) : State :=
  let at_ (k : Nat) : Option Nat := (s.saf.tpAt.find? (fun p => p.1 == k)).map (·.2)
  let due := match at_ 0, if o = 0 then none else at_ 1 with
    | none, _ => o == 0
    | some t, none => decide (t + (if o = 0 then tpperEu s else tpperEu s / 2) ≤ s.lt)
    | some t, some u => decide (t + tpperEu s / 2 ≤ s.lt) && decide (u < t + tpperEu s / 2)
  if safOn s && due && !s.saf.tpLow.testBit o then
    emit (.pin (tpName o) 0 0 s.lt)
      (setSaf (fun p => { p with tpAt := Tbl.put o s.lt p.tpAt, tpLow := setBit p.tpLow o true }) s)
  else s

/-- An input reads closed: its pin is high. In ANTIV mode channel b permits with its pin low (R392). -/
def readsClosed (ch n o : Nat) (s : State) : Bool :=
  let x := pairOf ch n s
  if o = 0 then x.a else if cfgFl ch (Reg.SAF_PCFG n) Reg.SAF_PCFG_CMODE s = 0 then x.b else !x.b

/-- The pairs whose input of a letter a pulse tests: those that read closed in a channel, but for OSSD and for pairs without a
function (log entry 206). -/
def pulsePairs (o : Nat) (s : State) : List Nat :=
  (List.range 8).filter (fun n => safFunc n s != 0 && safFunc n s != 5 && [0, 1].any (fun ch => readsClosed ch n o s))

/-- An input that a pulse finds open passes where it need not be closed to permit: of a hand, or channel b of an ANTIV pair. -/
def passesOpen (o n : Nat) (s : State) : Bool :=
  safHand n s || (o == 1 && on (Reg.SAF_PCFG n) Reg.SAF_PCFG_CMODE s)

/-- The cause of a lock-out for a failed test pulse: of a stop input while the evaluator arms, the arming test's (R401, R404; log
entry 178). -/
def tpCause (n : Nat) (s : State) : Nat := if s.saf.armAt.isSome && !armed s && safStop n s then 7 else 2

/-- A pulse ends; `high` are the pairs whose input did not read low: EV90. -/
def pulseEnd (o high : Nat) (s : State) : State :=
  if safOn s && s.saf.tpLow.testBit o && decide (Tbl.get 0 s.saf.tpAt o + tpwEu s ≤ s.lt) then
    let s := emit (.pin (tpName o) 0 1 s.lt) (setSaf (fun p => { p with tpLow := setBit p.tpLow o false,
                                                                              tpEnd := Tbl.put o s.lt p.tpEnd }) s)
    let open_ := (List.range 8).filter (fun n => passesOpen o n s && !(pulsePairs o s).contains n)
    let s := setSaf (fun p => { p with pass := open_.foldl (fun m n => setBit m (2 * n + o) true) p.pass }) s
    if !drivesTest s then s
    else each (pulsePairs o s) (fun n s =>
      let bad := high.testBit n
      let s := setSaf (fun p => { p with pass := setBit p.pass (2 * n + o) (!bad) }) s
      if bad then detect 90 n (tpCause n s) n (setB (Reg.SAF_PEVT n) Reg.SAF_PEVT_TPFAULT true s) else s) s
  else s

/-- An input has passed its most recent test pulse; OSSD inputs, and a unit that does not drive the contacts, have none. -/
def passed (n o : Nat) (s : State) : Bool := safFunc n s == 5 || !drivesTest s || s.saf.pass.testBit (2 * n + o)

/-! The channels (R391). -/

/-- The states of the functions and the lock-out state as a channel's state word carries them. -/
def stateWord (ch : Nat) (s : State) : List Nat :=
  (lockedOut s).toNat :: (List.range 8).map (fun n =>
    let x := pairOf ch n s; if fnOf ch n s = 0 then 3 else x.state + (if x.thact then 4 else 0))

/-- The other channel sends a word every 20 µs of its own clock. -/
def wordDue (ch : Nat) (s : State) : Bool :=
  match s.saf.wordAt.find? (fun p => p.1 == ch) with
  | some p => elapsed (1 - ch) p.2 (20 * us) s
  | none => true

/-- The other channel's state word with its heartbeat, which toggles in each that it sends, reaches channel `ch`. -/
def exchange (ch : Nat) (s : State) : State :=
  if !safOn s || !wordDue ch s then s
  else
    let n := if stateWord 0 s = stateWord 1 s then 0 else Tbl.get 0 s.saf.mis ch + 1
    let b := s.saf.hbOut.testBit (1 - ch)
    let s := setSaf (fun p => { p with mis := Tbl.put ch n p.mis, wordAt := Tbl.put ch s.lt p.wordAt,
                                       hbOut := setBit p.hbOut (1 - ch) (!b), hbIn := setBit p.hbIn ch b,
                                       beat := if b = p.hbIn.testBit ch then p.beat else Tbl.put ch s.lt p.beat,
                                       beatBad := if b = p.hbIn.testBit ch then p.beatBad else setBit p.beatBad ch false }) s
    if n = 9 then lockOut 4 0 s else s

/-- No toggle has arrived for 100 µs. -/
def beatTimeout (ch : Nat) (s : State) : State :=
  if safOn s && !s.saf.beatBad.testBit ch && elapsed ch (max s.cc (Tbl.get s.cc s.saf.beat ch)) (100 * us) s then
    lockOut 5 0 (setSaf (fun p => { p with beatBad := setBit p.beatBad ch true }) s)
  else s

/-- A channel's measurement of the other's clock, taken over 1 ms: its deviation in parts per million. -/
def clockCheck (ch : Nat) (ppm : Int) (s : State) : State :=
  if !safOn s || !elapsed ch (Tbl.get s.cc s.saf.clkAt ch) ms s then s
  else
    let bad := decide (100000 < ppm.natAbs)
    let s := setSaf (fun p => { p with clkBad := setBit p.clkBad ch bad, clkAt := Tbl.put ch s.lt p.clkAt }) s
    if bad then lockOut 6 0 s else s

/-! Path B feedback (R400). -/

def fbLow (s : State) : Bool := !on Reg.SAF_STAT Reg.SAF_STAT_FBA s && !on Reg.SAF_STAT Reg.SAF_STAT_FBB s

/-- Both pins are as Path B requires. -/
def fbRight (s : State) : Bool :=
  let b := on Reg.SAF_STAT Reg.SAF_STAT_PATHB s
  on Reg.SAF_STAT Reg.SAF_STAT_FBA s == b && on Reg.SAF_STAT Reg.SAF_STAT_FBB s == b

/-- The first pin that is wrong: 0 SAFE_FBA, 1 SAFE_FBB (the coding of DETAIL is open: DESIGN CHOICE, log entry 37). -/
def fbWrong (s : State) : Nat := if on Reg.SAF_STAT Reg.SAF_STAT_FBA s != on Reg.SAF_STAT Reg.SAF_STAT_PATHB s then 0 else 1

def fbFault (s : State) : State :=
  let p := fbWrong s
  under 94 p (lockOut 3 0) (record 94 0 p none (safFlag Reg.SAF_EVT_FBFAULT s))

/-- The proof count: hours since the last verified off. -/
def proofShow (s : State) : State :=
  let h := min 0xFFFF ((s.lt - s.saf.proofAt) / (3600000 * ms))
  if s.configured && h != rd Reg.SAF_PROOF s then wr Reg.SAF_PROOF h s else s

/-- Both pins have come to read as Path B requires: a verified turn-off restarts the proof count (R400). -/
def fbVerified (s : State) : State :=
  let s := setSaf (fun p => { p with fbPend := none, fbDis := none }) s
  if on Reg.SAF_STAT Reg.SAF_STAT_PATHB s then s
  else setB Reg.SAF_STAT Reg.SAF_STAT_PROOFDUE false (wr Reg.SAF_PROOF 0 (setSaf (fun p => { p with proofAt := s.lt }) s))

/-- Step 3 of arming begins: the feedback is low, and every stop input is to pass a pulse of each letter (R404). -/
def armStep3 (s : State) : State :=
  let free := (List.range 8).flatMap (fun n => ([0, 1].filter (fun o => passesOpen o n s)).map (2 * n + ·))
  setSaf (fun p => { p with armLow := some s.lt, pass := maskOf free }) s

/-- A feedback pin changes level. During arming it is first awaited low (step 2). -/
def fbChange (second level : Bool) (s : State) : State :=
  let s := setB Reg.SAF_STAT (if second then Reg.SAF_STAT_FBB else Reg.SAF_STAT_FBA) level s
  if !safOn s then s
  else match s.saf.fbPend with
    | some _ =>
      if fbRight s then fbVerified s else s
    | none =>
      if s.saf.armAt.isSome && s.saf.armLow.isNone then when (fbLow s) armStep3 s
      else setSaf (fun p => { p with fbDis := if fbRight s then none else some (p.fbDis.getD s.lt) }) s

def fbTimeout (s : State) : State :=
  match s.saf.fbPend with
  | some t =>
    if !safOn s || !elapsed 1 t (tfbEu s) s then s
    else if fbRight s then fbVerified s
    else fbFault (setSaf (fun p => { p with fbPend := none }) s)
  | none => s

def fbDisagree (s : State) : State :=
  match s.saf.fbDis with
  | some t => if safOn s && elapsed 1 t ms s then fbFault (setSaf (fun p => { p with fbDis := none }) s) else s
  | none => s

def proofDue (s : State) : State :=
  let s := proofShow s
  let t := rd Reg.SAF_PB s / 2 ^ 8 % 2 ^ 16
  if safOn s && t != 0 && decide (t ≤ rd Reg.SAF_PROOF s) && !on Reg.SAF_STAT Reg.SAF_STAT_PROOFDUE s then
    record 94 0 0x100 none (safFlag Reg.SAF_EVT_PROOFDUE (setB Reg.SAF_STAT Reg.SAF_STAT_PROOFDUE true s))
  else s

/-- A boundary-scan instruction that drives outputs ends when the evaluator arms (R457). -/
def jtagDrives : JtagInstr → Bool
  | .bypass | .sample | .preload => false
  | .extest | .intest | .clamp | .highz => true
def jtagArmed (s : State) : State :=
  if jtagDrives s.jtag.instr then { s with jtag := { s.jtag with instr := .bypass } } else s

/-! Arming and the reset (R403, R404). -/

/-- Arming begins: both paths are off. With EN = 0 both permit instead. -/
def armStart (s : State) : State :=
  if bitAt Reg.SAF_CFG 0 s then
    let s := setSaf (fun p => { p with armAt := some s.lt, armLow := none }) s
    when (fbLow s) armStep3 s
  else offPinsStart (setB Reg.SAF_STAT Reg.SAF_STAT_PATHA true (setB Reg.SAF_STAT Reg.SAF_STAT_PATHB true s))

/-- Configuration completion starts the evaluator: the second copy is written, the test outputs of an evaluator in use are driven
high, and arming begins. -/
def safStart (s : State) : State := armStart (when (bitAt Reg.SAF_CFG 0 s) tpHigh (safCopyWrite s))

/-- A stop input counts closed in both channels and has passed its pulses. -/
def armReady (n : Nat) (s : State) : Bool :=
  bothClosed (pairOf 0 n s) && bothClosed (pairOf 1 n s) && passed n 0 s && passed n 1 s

/-- The steps of arming, with whether a storage fault has left the copies equal: not yet through, failed, or armed. -/
def armComplete (same : Bool) (s : State) : State :=
  match s.saf.armAt with
  | none => s
  | some t =>
    if !safOn s || armed s || lockedOut s then s
    else if !same || !copiesSame s then lockOut 7 0 (setSaf (fun p => { p with differ := true }) s)
    else match s.saf.armLow with
    | none => if elapsed 1 t (tfbEu s) s then lockOut 7 0 s else s
    | some u =>
      let over_ := decide (u + tpperEu s ≤ s.lt)
      let stops := (List.range 8).filter (fun n => safStop n s)
      let wait := stops.filter (fun n => !armReady n s)
      if !wait.isEmpty && !over_ then s
      else
        let opened (n : Nat) : Bool := !bothClosed (pairOf 0 n s) || !bothClosed (pairOf 1 n s)
        if wait.any (fun n => !opened n) then lockOut 7 0 s
        else
          let first := if bitAt Reg.SAF_CFG 1 s then 2 else 0
          let s := each ((List.range 16).filter (fun i => safFunc (i % 8) s != 0)) (fun i s =>
            let x := pairOf (i / 8) (i % 8) s
            setPair (i / 8) (i % 8) { x with state := if safHand (i % 8) s then 0 else first,
                                             disc := if x.a != x.b then some s.lt else none } s) s
          let s := jtagArmed (tumbleStop (setB Reg.SAF_STAT Reg.SAF_STAT_ARMED true (setSaf (fun p => { p with armAt := none }) s)))
          let s := each wait (fun n s => demand 1 n (demand 0 n s)) s
          pathOn 1 (pathOn 0 (pairsShow s))

/-- A channel accepts a reset request (R403). -/
def resetOk (ch : Nat) (s : State) : Bool :=
  fbLow s && !s.saf.differ && s.saf.beatBad == 0 && s.saf.clkBad == 0 && stateWord 0 s == stateWord 1 s
    && (List.range 8).all (fun n => (!stopFn ch n s || bothClosed (pairOf ch n s)) && (pairOf ch n s).a == (pairOf ch n s).b
      && (safFunc n s == 0 || (passed n 0 s && passed n 1 s)))

/-- SRST_N is released after a press of this length in µs, as each channel measured it (R403; log entry 179). -/
def srstRelease (pa pb : Nat) (s : State) : State :=
  let asked (p : Nat) : Bool := decide (100000 ≤ p) && decide (p ≤ 2000000)
  if !safOn s || !asked pa && !asked pb then s
  else if asked pa && asked pb && resetOk 0 s && resetOk 1 s then
    let s := setB Reg.SAF_STAT Reg.SAF_STAT_LOCKOUT false (wr Reg.SAF_LOCK 0 (dropCause ⟨92, 0⟩ s))
    let s := each (List.range 16) (fun i s =>
      let x := pairOf (i / 8) (i % 8) s
      when (x.state == 2) (setPair (i / 8) (i % 8) { x with state := 0 }) s) s
    let s := pairsShow s
    let s := record 93 0 0 none (safFlag Reg.SAF_EVT_RESET s)
    if armed s then pathOn 1 (pathOn 0 s) else armStart s
  else record 93 0 0x100 none (safFlag Reg.SAF_EVT_RSTREF s)

/-- Path A stays off: OFF once every 10 µs. -/
def pathARepeat (s : State) : State :=
  if safOn s && !on Reg.SAF_STAT Reg.SAF_STAT_PATHA s && decide (s.saf.offAt + 10 * us ≤ s.lt) then
    each (List.range 24) (fun n s => sendOff n 15 s) (setSaf (fun p => { p with offAt := s.lt }) s)
  else s

/-! Commands. The input of a pair is SIna (false) or SInb (true). -/

def execSafetyInputOpen (ch : Fin 2) (spair : Fin 8) (second : Bool) (s : State) : Host.Outcome State Fault Refusal :=
  .next (inputOpen ch spair second s)
def execSafetyInputClosed (ch : Fin 2) (spair : Fin 8) (second : Bool) (s : State) : Host.Outcome State Fault Refusal :=
  .next (inputClosed ch spair second s)
def execDiscrepancyTimeout (ch : Fin 2) (spair : Fin 8) (s : State) : Host.Outcome State Fault Refusal :=
  .next (discrepancy ch spair s)
def execEstop1DelayExpiry (ch : Fin 2) (spair : Fin 8) (s : State) : Host.Outcome State Fault Refusal :=
  .next (stopExpiry ch spair s)
def execTestPulseStart (output : Fin 2) (s : State) : Host.Outcome State Fault Refusal := .next (pulseStart output s)
def execTestPulseEnd (output : Fin 2) (high : BitVec 8) (s : State) : Host.Outcome State Fault Refusal :=
  .next (pulseEnd output high.toNat s)
def execChannelStateExchange (ch : Fin 2) (s : State) : Host.Outcome State Fault Refusal := .next (exchange ch s)
def execHeartbeatTimeout (ch : Fin 2) (s : State) : Host.Outcome State Fault Refusal := .next (beatTimeout ch s)
def execClockDeviationCheck (ch : Fin 2) (ppm : BitVec 32) (s : State) : Host.Outcome State Fault Refusal :=
  .next (clockCheck ch ppm.toInt s)
def execFeedbackTimeout (s : State) : Host.Outcome State Fault Refusal := .next (fbTimeout s)
def execFeedbackDisagreement (s : State) : Host.Outcome State Fault Refusal := .next (fbDisagree s)
def execProofDue (s : State) : Host.Outcome State Fault Refusal := .next (proofDue s)
def execSrstRelease (pressA pressB : BitVec 32) (s : State) : Host.Outcome State Fault Refusal :=
  .next (srstRelease pressA.toNat pressB.toNat s)
def execSafetyArmComplete (same : Bool) (s : State) : Host.Outcome State Fault Refusal := .next (armComplete same s)
def execPathAOffRepeat (s : State) : Host.Outcome State Fault Refusal := .next (pathARepeat s)
def execPathBFeedbackChange (second level : Bool) (s : State) : Host.Outcome State Fault Refusal :=
  .next (fbChange second level s)

end Sys2Proof.Machine
end

