-- ==== Sys2Proof/Machine/Jtag.lean ====
section
/-! DEFINITION. The JTAG port (R457): its reset, and which boundary-scan instructions it accepts. No instruction reaches a
half-bridge output or a SAFE_OFF pin (R169). -/

namespace Sys2Proof.Machine

/-- The level of JTAG_TRST_N: low holds the TAP in reset. -/
def tapReset (level : Bool) (s : State) : State :=
  if level then { s with jtag := { s.jtag with held := false } } else { s with jtag := .reset }

/-- An instruction is accepted: one that drives outputs only in test mode, and never while the evaluator is armed. -/
def tapInstr (i : JtagInstr) (s : State) : State :=
  if s.jtag.held || (jtagDrives i && (!testMode s || armed s)) then s else { s with jtag := { s.jtag with instr := i } }

def execJtagTapReset (level : Bool) (s : State) : Host.Outcome State Fault Refusal := .next (tapReset level s)

def execJtagInstruction (instr : JtagInstr) (s : State) : Host.Outcome State Fault Refusal := .next (tapInstr instr s)

end Sys2Proof.Machine
end

