-- ==== Sys2Proof/Machine/Crypto.lean ====
section
/-! DEFINITION. SHA-256 (FIPS 180-4) and the verification of ECDSA P-256 signatures (FIPS 186-5), which R428 names. -/

namespace Sys2Proof.Machine

/-! SHA-256. -/

def shaH0 : List (BitVec 32) :=
  [0x6A09E667, 0xBB67AE85, 0x3C6EF372, 0xA54FF53A, 0x510E527F, 0x9B05688C, 0x1F83D9AB, 0x5BE0CD19]

def shaK : List (BitVec 32) :=
  [0x428A2F98, 0x71374491, 0xB5C0FBCF, 0xE9B5DBA5, 0x3956C25B, 0x59F111F1, 0x923F82A4, 0xAB1C5ED5, 0xD807AA98,
   0x12835B01, 0x243185BE, 0x550C7DC3, 0x72BE5D74, 0x80DEB1FE, 0x9BDC06A7, 0xC19BF174, 0xE49B69C1, 0xEFBE4786,
   0x0FC19DC6, 0x240CA1CC, 0x2DE92C6F, 0x4A7484AA, 0x5CB0A9DC, 0x76F988DA, 0x983E5152, 0xA831C66D, 0xB00327C8,
   0xBF597FC7, 0xC6E00BF3, 0xD5A79147, 0x06CA6351, 0x14292967, 0x27B70A85, 0x2E1B2138, 0x4D2C6DFC, 0x53380D13,
   0x650A7354, 0x766A0ABB, 0x81C2C92E, 0x92722C85, 0xA2BFE8A1, 0xA81A664B, 0xC24B8B70, 0xC76C51A3, 0xD192E819,
   0xD6990624, 0xF40E3585, 0x106AA070, 0x19A4C116, 0x1E376C08, 0x2748774C, 0x34B0BCB5, 0x391C0CB3, 0x4ED8AA4A,
   0x5B9CCA4F, 0x682E6FF3, 0x748F82EE, 0x78A5636F, 0x84C87814, 0x8CC70208, 0x90BEFFFA, 0xA4506CEB, 0xBEF9A3F7,
   0xC67178F2]

/-- The message with its padding: 0x80, zeros to 56 modulo 64, and the length in bits as 64 bits. -/
def shaPad (m : List Nat) : List Nat :=
  m ++ [0x80] ++ List.replicate ((119 - m.length % 64) % 64) 0
    ++ (List.range 8).map (fun i => 8 * m.length / 256 ^ (7 - i) % 256)

/-- The next word of the message schedule, from the sixteen before it, newest first. -/
def shaNext (w : List (BitVec 32)) : BitVec 32 :=
  let g (k : Nat) : BitVec 32 := w.getD k 0
  let s0 := (g 14).rotateRight 7 ^^^ (g 14).rotateRight 18 ^^^ (g 14 >>> 3)
  let s1 := (g 1).rotateRight 17 ^^^ (g 1).rotateRight 19 ^^^ (g 1 >>> 10)
  g 15 + s0 + g 6 + s1

/-- The 64 words of the schedule of a block. -/
def shaSchedule (b : List Nat) : List (BitVec 32) :=
  let w16 := (List.range 16).map (fun i =>
    BitVec.ofNat 32 (((b.drop (4 * i)).take 4).foldl (fun a x => 256 * a + x) 0))
  ((List.range 48).foldl (fun w _ => shaNext (w.take 16) :: w) w16.reverse).reverse

/-- One round on the eight working variables. -/
def shaRound (v : List (BitVec 32)) (kw : BitVec 32 × BitVec 32) : List (BitVec 32) :=
  let g (k : Nat) : BitVec 32 := v.getD k 0
  let s1 := (g 4).rotateRight 6 ^^^ (g 4).rotateRight 11 ^^^ (g 4).rotateRight 25
  let ch := (g 4 &&& g 5) ^^^ (~~~(g 4) &&& g 6)
  let t1 := g 7 + s1 + ch + kw.1 + kw.2
  let s0 := (g 0).rotateRight 2 ^^^ (g 0).rotateRight 13 ^^^ (g 0).rotateRight 22
  let maj := (g 0 &&& g 1) ^^^ (g 0 &&& g 2) ^^^ (g 1 &&& g 2)
  [t1 + s0 + maj, g 0, g 1, g 2, g 3 + t1, g 4, g 5, g 6]

/-- The compression of the blocks of a padded message. -/
def shaBlocks : Nat → List Nat → List (BitVec 32) → List (BitVec 32)
  | 0, _, h => h
  | n + 1, m, h =>
    let v := (shaK.zip (shaSchedule (m.take 64))).foldl shaRound h
    shaBlocks n (m.drop 64) (h.zipWith (· + ·) v)

/-- The digest of a message of bytes, as 32 bytes. -/
def sha256 (m : List Nat) : List Nat :=
  let p := shaPad m
  (shaBlocks (p.length / 64) p shaH0).flatMap (fun w => (List.range 4).map (fun i => w.toNat / 256 ^ (3 - i) % 256))

/-! P-256. -/

def ecP : Nat := 0xFFFFFFFF00000001000000000000000000000000FFFFFFFFFFFFFFFFFFFFFFFF
def ecN : Nat := 0xFFFFFFFF00000000FFFFFFFFFFFFFFFFBCE6FAADA7179E84F3B9CAC2FC632551
def ecB : Nat := 0x5AC635D8AA3A93E7B3EBBD55769886BC651D06B0CC53B0F63BCE3C3E27D2604B
def ecG : Nat × Nat :=
  (0x6B17D1F2E12C4247F8BCE6E563A440F277037D812DEB33A0F4A13945D898C296,
   0x4FE342E2FE1A7F9B8EE7EB4A7C0F9E162BCE33576B315ECECBB6406837BF51F5)

/-- b^e modulo m, for e below 2^256. -/
def modPow (b e m : Nat) : Nat :=
  (List.range 256).foldl (fun r i => let r := r * r % m; if e.testBit (255 - i) then r * b % m else r) 1

/-- The inverse modulo a prime. -/
def modInv (a m : Nat) : Nat := modPow a (m - 2) m

/-- The sum of two points; none is the point at infinity. -/
def ecAdd : Option (Nat × Nat) → Option (Nat × Nat) → Option (Nat × Nat)
  | none, q => q
  | p, none => p
  | some (x1, y1), some (x2, y2) =>
    if x1 = x2 && (y1 + y2) % ecP == 0 then none
    else
      let l := if x1 = x2 then (3 * x1 * x1 + ecP - 3) * modInv (2 * y1 % ecP) ecP % ecP
        else (y2 + ecP - y1) * modInv ((x2 + ecP - x1) % ecP) ecP % ecP
      let x := (l * l + 2 * ecP - x1 - x2) % ecP
      some (x, (l * (x1 + ecP - x) + ecP - y1) % ecP)

/-- A multiple of a point, by a number below 2^256. -/
def ecMul (k : Nat) (p : Option (Nat × Nat)) : Option (Nat × Nat) :=
  (List.range 256).foldl (fun r i => let r := ecAdd r r; if k.testBit (255 - i) then ecAdd r p else r) none

def ecOn (x y : Nat) : Bool :=
  decide (x < ecP) && decide (y < ecP) && (y * y % ecP == (x * x * x + (ecP - 3) * x + ecB) % ecP)

/-- A signature (r, s) of a digest under a public key verifies. -/
def ecdsaVerify (x y : Nat) (digest : List Nat) (r s : Nat) : Bool :=
  let z := digest.foldl (fun a b => 256 * a + b) 0
  if !ecOn x y || r = 0 || ecN ≤ r || s = 0 || ecN ≤ s then false
  else
    let w := modInv s ecN
    match ecAdd (ecMul (z * w % ecN) (some ecG)) (ecMul (r * w % ecN) (some (x, y))) with
    | none => false
    | some (u, _) => u % ecN == r

end Sys2Proof.Machine
end

