-- ==== Sys2Proof/Machine/Image.lean ====
section
/-! DEFINITION. The configuration image (R427): its header, its sections, and what they stage. An image is a list of byte
values; a byte that it does not have reads as 0xFF. -/

namespace Sys2Proof.Machine

/-- The little-endian number of `n` bytes at an offset. -/
def imN (img : List Nat) (k n : Nat) : Nat := (List.range n).foldl (fun a i => a + img.getD (k + i) 0xFF * 256 ^ i) 0

def imMagic : Nat := 0x46484C48
def imNsect (img : List Nat) : Nat := imN img 6 2
def imLen (img : List Nat) : Nat := imN img 8 4
def imSigofs (img : List Nat) : Nat := imN img 12 4
def imSvn (img : List Nat) : Nat := imN img 16 1
def imKeyslot (img : List Nat) : Nat := imN img 17 1
def imRevmask (img : List Nat) : Nat := imN img 18 1 % 16
def imTestmode (img : List Nat) : Bool := (imN img 19 1).testBit 0
def imAdvance (img : List Nat) : Bool := (imN img 19 1).testBit 1
def imBuild (img : List Nat) : Nat := imN img 20 4

/-- Bytes of the image from an offset. -/
def imBytes (img : List Nat) (k n : Nat) : List Nat := (List.range n).map (fun i => img.getD (k + i) 0xFF)

/-- An entry of the section table. -/
structure ImSect where
  kind : Nat
  ofs : Nat
  len : Nat
  dest : Nat
  deriving DecidableEq, Repr

def secCfgw : Nat := 1
def secCode : Nat := 2
def secInit : Nat := 3
def secSegtab : Nat := 4
def secTack : Nat := 5
def secNvmmap : Nat := 6
def secDraminit : Nat := 7
def secNote : Nat := 0xFF

def imSects (img : List Nat) : List ImSect :=
  (List.range (imNsect img)).map (fun i =>
    let p := 128 + 16 * i
    ⟨imN img p 2, imN img (p + 4) 4, imN img (p + 8) 4, imN img (p + 12) 4⟩)

/-- The pairs of a CFGW section, in order. -/
def imPairs (img : List Nat) (x : ImSect) : List (Nat × Nat) :=
  (List.range (x.len / 8)).map (fun i => (imN img (x.ofs + 8 * i) 4, imN img (x.ofs + 8 * i + 4) 4))

/-- Every CFGW pair in order, and the CFG staging copy: the last value of each address. -/
def imWrites (img : List Nat) : List (Nat × Nat) :=
  ((imSects img).filter (fun x => x.kind == secCfgw)).flatMap (imPairs img)
def imStaged (img : List Nat) : Tbl Nat := (imWrites img).foldl (fun t p => Tbl.put p.1 p.2 t) []

/-- The Tack staging: slots of the TACK sections, with PROT as the image has it and the loader as WRITER (R117, R138). -/
def imSlots (img : List Nat) : Tbl Slot :=
  ((imSects img).filter (fun x => x.kind == secTack)).foldl (fun t x =>
    (List.range (x.len / 36)).foldl (fun t i =>
      let p := x.ofs + 36 * i
      let w (k : Nat) : Nat := imN img (p + 4 + 4 * k) 4
      Tbl.put (imN img p 4) (slotWords (w 0 % 2 ^ 16 + 2 ^ 16 * 16) (w 1) (w 2) (w 3) (w 4) (w 5) (w 6)) t) t) []

/-- The bytes of the first section of a kind. -/
def imSection (img : List Nat) (kind : Nat) : List Nat :=
  match (imSects img).find? (fun x => x.kind == kind) with
  | some x => imBytes img x.ofs x.len
  | none => []

/-- DRAM bytes that a value of MEM_DRAMCFG fits. -/
def dramFits (w : Nat) : Nat := if w % 8 = 0 || 4 < w % 8 then 0 else 2 ^ (27 + w % 8)

/-- Whether section `i` stands as R427 requires: a known type, its place after the section before it, its length, and its
destination. -/
def imSectOk (img : List Nat) (i : Nat) : Bool :=
  let l := imSects img
  match l.drop i with
  | [] => true
  | x :: _ =>
    let before := match (l.take i).reverse with
      | p :: _ => p.ofs + p.len
      | [] => 128 + 16 * imNsect img
    let dram := (l.take i).foldl (fun a p =>
      if p.kind = secCfgw then (imPairs img p).foldl (fun a q => if q.1 = Reg.MEM_DRAMCFG then some q.2 else a) a else a) none
    [1, 2, 3, 4, 5, 6, 7, 0xFF].contains x.kind && x.ofs % 64 == 0 && decide (before ≤ x.ofs)
      && decide (x.ofs + x.len ≤ imSigofs img)
      && (if x.kind = secCode || x.kind = secInit then inProg x.dest x.len
          else if x.kind = secDraminit then match dram with
            | some w => inRange dramBase (dramFits w) x.dest x.len
            | none => false
          else if x.kind = secCfgw then x.len % 8 == 0
          else if x.kind = secTack then x.len % 36 == 0
          else true)

/-- The first refusal of the checks 0x01 to 0x07 of R430: cause and SYS_CFGREF. -/
def imHeaderCheck (flash : Bool) (img : List Nat) (s : State) : Option (Nat × Nat) :=
  let k := imKeyslot img
  let sig := imSigofs img
  if !flash then some (0x01, 0)
  else if imN img 0 4 ≠ imMagic || imN img 4 2 ≠ 1 then some (0x02, 0)
  else if imNsect img = 0 || 256 < imNsect img || 67108864 < imLen img || sig % 64 ≠ 0 || imLen img ≠ sig + 64
      || sig < 128 + 16 * imNsect img then some (0x03, 0)
  else if imN img 24 4 ≠ 0x07260001 then some (0x04, 0)
  else
    let key := (s.nv.keys.find? (fun p => p.1 == k)).map (·.2)
    match decide (k < 4), key with
    | true, some h =>
      if s.nv.revoked.testBit k || (imRevmask img).testBit k then some (0x05, k)
      else if sha256 (imBytes img 28 64) ≠ h then some (0x06, k)
      else ((List.range (imNsect img)).find? (fun i => !imSectOk img i)).map (fun i => (0x07, i))
    | _, _ => some (0x05, k)

end Sys2Proof.Machine
end

