-- ==== Sys2Proof/Machine/Startup.lean ====
section
/-! DEFINITION. Resets, the first steps of start-up, the supply supervisor, the retain save, user NVM writes, OTP burns and
the die temperature (Start-Up, Supplies and the Configuration Image, R421-R442). The configuration loader's checks and
configuration completion are in Loader.lean. -/

namespace Sys2Proof.Machine

/-! PWR_STAT, PWR_EVT, PWR_SAVESTAT and PWR_NVMSTAT (R441). -/

def supGood (s : State) : Bool := bitAt Reg.PWR_STAT 9 s
def saving (s : State) : Bool := bitAt Reg.PWR_STAT 10 s
def pwrFlag (k : Nat) (s : State) : State := setBitAt Reg.PWR_EVT k true s

/-- The SEC registers show OTP as read in step 2 of R423. -/
def otpRead (s : State) : State :=
  let prog := maskOf ((List.range 4).filter (fun k => s.nv.keys.any (fun p => p.1 == k)))
  wr Reg.SEC_OTP (prog + 16 * (s.nv.revoked % 16) + (if s.nv.testlock then 256 else 0)) (wr Reg.SEC_ARB s.nv.arb s)

/-! Device reset (R422, R440). -/

/-- A listed user byte in [a, a + n) whose content is open: it takes a free value. -/
def openBytes (a n : Nat) (s : State) : State :=
  each (List.range n) (fun i s =>
    let (v, s) := fresh s
    { s with nv := { s.nv with user := Tbl.put (a + i) (v.toNat % 256) s.nv.user } }) s

/-- The bytes of the user sector of a flash address that are not erased. -/
def userSector (a : Nat) (s : State) : List Nat :=
  (s.nv.user.filter (fun p => p.1 / Config.sectorBytes == a / Config.sectorBytes)).map (·.1)

/-- The sector that is not current. -/
def setTarget (x : Sector) (s : State) : State :=
  { s with nv := if curB s then { s.nv with sectA := x } else { s.nv with sectB := x } }
def targetSector (s : State) : Sector := if curB s then s.nv.sectA else s.nv.sectB

/-- What a reset leaves of a flash or OTP operation in progress: the target of a save without a header, a sector whose erase
has not ended, user bytes that may hold anything, ARB between its old and its new value (R429, R436). -/
def nvInterrupted (s : State) : State :=
  let s := match s.pwr.saveAt with
    | some (_, true) => setTarget .partial_ s
    | _ => s
  let s := if s.pwr.erasing then setTarget .partial_ s else s
  if s.pwr.busy then
    match s.pwr.queue with
    | .write _ d n :: _ => openBytes d n s
    | .erase d :: _ => each (userSector d s) (fun a s => openBytes a 1 s) s
    | _ => s
  else s

/-- The output pins in their reset state (R449). -/
def pinsLow (s : State) : State :=
  let low (n : String) (k : Nat) (s : State) : State := emit (.pin n k 0 s.lt) s
  let s := each (List.range 8) (fun k s => low "LEG_P" k (low "LEG_EN" k s)) (low "SAFE_OFF_B" 0 (low "SAFE_OFF_A" 0 s))
  let s := each (List.range 2) (low "TRIG") (each (List.range 32) (low "GPIO") (low "SAFE_TPB" 0 (low "SAFE_TPA" 0 s)))
  let s := low "GFRDY" 0 (low "REF_ACT" 0 (low "REF_ALIVE" 0 (low "XSPI_RST_N" 0 s)))
  let s := emit (.pin "XSPI_CS_N" 0 1 s.lt) (low "XSPI_CLK" 0 (low "DDR_RESET_N" 0 s))
  let s := each (List.range 2) (fun k s => low "DDR_CK" k (low "DDR_CKE" k (low "DDR_CS" k s))) (each (List.range 12) (low "DDR_CA") s)
  each (List.range 6) (fun k s => low "CLKOUT_N" k (low "CLKOUT" k s)) s

/-- A device reset discards everything but OTP and flash, and holds the device in reset until power-good. The commands that
wait, the record of what was sent, the endpoints, the level of input pins and JTAG_TRST_N are not the device's own. -/
def devReset (cause rail : Nat) (s : State) : State :=
  let s := pinsLow (nvInterrupted s)
  let r : State :=
    { State.reset with pending := s.pending, free := s.free, out := s.out, nv := s.nv, ep := s.ep, gpioIn := s.gpioIn,
                       jtag := { s.jtag with instr := .bypass } }
  wr Reg.SYS_RSTCAUSE (cause + 16 * rail) r

/-- Every rail is good and PORST_N high for 1 ms. -/
def powerGood (s : State) : State := { s with pwr := { s.pwr with held := false } }

/-- A PORST_N pulse: a device already in reset starts its sequence again, with the cause it has. -/
def porstPulse (s : State) : State := if s.pwr.held then s else devReset 1 0 s

/-- A rail below its reset level, with the rails that are. -/
def railReset (rail below : Nat) (s : State) : State :=
  devReset (if s.pwr.saveAt.isSome then 4 else if below % 512 = 511 then 0 else 2) rail s

def testPortReset (s : State) : State := if s.pwr.held then s else devReset 3 0 s

def execPowerGood (s : State) : Host.Outcome State Fault Refusal := .next (powerGood s)
def execPorstPulse (s : State) : Host.Outcome State Fault Refusal := .next (porstPulse s)
def execRailReset (rail : Fin 9) (below : BitVec 9) (s : State) : Host.Outcome State Fault Refusal :=
  .next (railReset rail (below.toNat ||| 2 ^ rail.val) s)
def execTestPortReset (s : State) : Host.Outcome State Fault Refusal := .next (testPortReset s)

/-! From the first lock to the signature (R14, R423, R428-R430). -/

/-- Loader states of SYS_CFGSTAT. -/
def setLoad (k : Nat) (s : State) : State := setF Reg.SYS_CFGSTAT Reg.SYS_CFGSTAT_STATE k s
def loadState (s : State) : Nat := fl Reg.SYS_CFGSTAT Reg.SYS_CFGSTAT_STATE s

/-- SYSPLL locks: LT starts at 0 in this FCLK, the PLLs are locked, OTP is read, and XSPI_RST_N is pulsed low for 10 µs. -/
def firstLock (s : State) : State :=
  if s.pwr.held || s.ltRun then s
  else
    emit (.pin "XSPI_RST_N" 0 1 (10 * us)) (emit (.pin "XSPI_RST_N" 0 0 0)
      (setLoad 1 (setF Reg.CLK_STAT Reg.CLK_STAT_LOCK 0x3F (otpRead { s with ltRun := true, lt := 0 }))))

/-- An image is refused: the memories and the staging are cleared, nothing is recorded, and the device is UNCONFIGURED. -/
def refuse (cause ref : Nat) (s : State) : State :=
  let keep (c : Host.Cell) : Bool := !(inProg c.1 1 || inData c.1 1)
  let s := { s with mem := s.mem.filter keep, pwr := { s.pwr with img := none },
                    evt := { s.evt with queue := [], pendLoss := none } }
  evtShow (setLoad 5 (setF Reg.SYS_CFGSTAT Reg.SYS_CFGSTAT_CAUSE cause (wr Reg.SYS_CFGREF ref s)))

/-- SEC_DIGESTn. -/
def digestShow (d : List Nat) (s : State) : State :=
  each (List.range 8) (fun n s => wr (Reg.SEC_DIGEST n) (imN d (4 * n) 4) s) s

/-- The image has been streamed to SIGOFS: a header or section that fails its check refuses it; else the digest is formed and
CODE and INIT are written. DRAM is trained for an image with a DRAMINIT section (R423, R427). -/
def streamComplete (img : List Nat) (flash : Bool) (s : State) : State :=
  if !s.ltRun || loadState s != 1 then s
  else match imHeaderCheck flash img s with
    | some (c, r) => refuse c r s
    | none =>
      let d := sha256 (imBytes img 0 (imSigofs img))
      let s := each ((imSects img).filter (fun x => x.kind == secCode || x.kind == secInit))
        (fun x s => stBytes x.dest ((imBytes img x.ofs x.len).map (BitVec.ofNat 8)) s) s
      let train := (imSects img).any (fun x => x.kind == secDraminit)
      setLoad 2 (digestShow d { s with pwr := { s.pwr with img := some img, digest := d, train := train, trainBad := false } })

/-- DRAM training ends: DRAMINIT is written, or the load is refused once every check before cause 0x0D has passed (R430). -/
def trained_ (ok : Bool) (s : State) : State :=
  match s.pwr.train, s.pwr.img with
  | true, some img =>
    let s := { s with pwr := { s.pwr with train := false } }
    if ok then
      setB Reg.MEM_STAT Reg.MEM_STAT_DRAMRDY true
        (each ((imSects img).filter (fun x => x.kind == secDraminit))
          (fun x s => stBytes x.dest ((imBytes img x.ofs x.len).map (BitVec.ofNat 8)) s) s)
    else { s with pwr := { s.pwr with trainBad := true } }
  | _, _ => s

/-- The signature of an image over a digest. -/
def signed_ (img d : List Nat) : Bool :=
  let g := imSigofs img
  ecdsaVerify (imN img 28 32) (imN img 60 32) d (imN img g 32) (imN img (g + 32) 32)

/-- The signature has been verified, and the rollback counter and TESTLOCK compared. The first failure of the signature
repeats the load. An SVN above 64, which no counter can reach, is refused with the counter's cause (DESIGN CHOICE, log entry 209). -/
def signatureVerified (s : State) : State :=
  match s.pwr.img with
  | none => s
  | some img =>
    if loadState s != 2 || s.pwr.train then s
    else if !signed_ img s.pwr.digest then
      if on Reg.SYS_CFGSTAT Reg.SYS_CFGSTAT_REPEAT s then refuse 0x08 0 s
      else setB Reg.SYS_CFGSTAT Reg.SYS_CFGSTAT_REPEAT true (setLoad 1 { s with pwr := { s.pwr with img := none } })
    else
      let k := imKeyslot img
      let s := setF Reg.SEC_STAT ⟨0, 3⟩ (1 + 2 * k) s
      if imSvn img < s.nv.arb || 64 < imSvn img then refuse 0x09 s.nv.arb s
      else if imTestmode img && s.nv.testlock then refuse 0x0A 0 s
      else
        let s := wr Reg.SYS_IMGINFO (imSvn img % 128 + 256 * k + (if imTestmode img then 1024 else 0)) s
        setLoad 3 (wr Reg.SYS_BUILDID (imBuild img) s)

def execSyspllFirstLock (s : State) : Host.Outcome State Fault Refusal := .next (firstLock s)
def execImageStreamComplete (image : List (BitVec 8)) (flash : Bool) (s : State) : Host.Outcome State Fault Refusal :=
  .next (streamComplete (image.map (·.toNat)) flash s)
def execDramTrainingComplete (ok : Bool) (s : State) : Host.Outcome State Fault Refusal := .next (trained_ ok s)
def execSignatureVerified (s : State) : Host.Outcome State Fault Refusal := .next (signatureVerified s)

/-! Grid-forming-ready (R425). -/

/-- The conditions of SYS_GFSTAT but GFREADY, as they stand. -/
def gfShow (s : State) : State :=
  let links := (List.range 24).all (fun n => !on (Reg.LLK_LCFG n) Reg.LLK_LCFG_ENABLE s || linkState n s == lkReady)
  let banks := (List.range 4).all (fun b => !bankEnabled b s || bitAt (Reg.ADC_BSTAT b) 0 s)
  let dram := dramSize s == 0 || on Reg.MEM_STAT Reg.MEM_STAT_DRAMRDY s
  let pv := (List.range 4).all (fun st => !hasDrum st s || on (Reg.DRM_STAT st) Reg.DRM_STAT_PVALID s)
  let saf := armed s || (!safOn s && testMode s)
  if s.configured then
    setB Reg.SYS_GFSTAT Reg.SYS_GFSTAT_CFG true (setB Reg.SYS_GFSTAT Reg.SYS_GFSTAT_LINKS links
      (setB Reg.SYS_GFSTAT Reg.SYS_GFSTAT_BANKS banks (setB Reg.SYS_GFSTAT Reg.SYS_GFSTAT_DRAM dram
        (setB Reg.SYS_GFSTAT Reg.SYS_GFSTAT_PVALID pv (setB Reg.SYS_GFSTAT Reg.SYS_GFSTAT_SAFETY saf s)))))
  else s

/-- Every condition holds: GFREADY, SYS_TGF and the GFRDY pin, once. -/
def gfReady (s : State) : State :=
  let s := gfShow s
  if rd Reg.SYS_GFSTAT s % 256 = 0x7F then
    emit (.pin "GFRDY" 0 1 s.lt)
      (wr64 Reg.SYS_TGF_LO Reg.SYS_TGF_HI s.lt (setB Reg.SYS_GFSTAT Reg.SYS_GFSTAT_GFREADY true s))
  else s

def execGridFormingReady (s : State) : Host.Outcome State Fault Refusal := .next (gfReady s)

/-! The NVM queue (R435, R437). -/

def isBurn : NvmOp → Bool
  | .arb _ => true
  | .revoke _ => true
  | .write _ _ _ => false
  | .erase _ => false

/-- PWR_NVMSTAT, PWR_STAT and SEC_STAT as the queue stands: the head of the queue is in progress while NVMBUSY. -/
def nvmShow (s : State) : State :=
  let waits := s.pwr.queue.length - (if s.pwr.busy then 1 else 0)
  let s := setBitAt Reg.PWR_STAT 12 s.pwr.busy (setBitAt Reg.PWR_NVMSTAT 2 s.pwr.busy s)
  setF Reg.PWR_NVMSTAT ⟨4, 4⟩ waits
    (setBitAt Reg.PWR_NVMSTAT 3 (waits != 0 && (!s.pwr.busy || !supGood s)) (setBitAt Reg.SEC_STAT 3 (s.pwr.queue.any isBurn) s))

/-- Flash is free for a write: supply good, no save, no erase owed or in progress. -/
def nvmFree (s : State) : Bool :=
  s.configured && supGood s && !saving s && !s.pwr.eraseOwed && !s.pwr.erasing && !s.pwr.busy

/-- The next request begins. -/
def nvmNext (s : State) : State :=
  nvmShow (if nvmFree s && !s.pwr.queue.isEmpty then { s with pwr := { s.pwr with busy := true } } else s)

def nvmResult (k : Nat) (s : State) : State := setF Reg.PWR_NVMSTAT ⟨0, 2⟩ k s

/-- A request: refused outside the user area, with a full queue or during a save; deferred, with EV8, while SUPGOOD reads
0. -/
def nvmRequest (inside : Bool) (op : NvmOp) (s : State) : State :=
  let waits := s.pwr.queue.length - (if s.pwr.busy then 1 else 0)
  if !inside || 8 ≤ waits || saving s then nvmResult 2 s
  else
    let s := { s with pwr := { s.pwr with queue := s.pwr.queue ++ [op] } }
    nvmNext (if supGood s then s else record 8 0 waits none (pwrFlag 4 s))

/-- PWR_NVMCMD. -/
def nvmCommand (op : Nat) (s : State) : State :=
  let d := rd Reg.PWR_NVMDST s
  let n := rd Reg.PWR_NVMLEN s % 2 ^ 13
  let src := rd Reg.PWR_NVMSRC s
  let size := rd Reg.PWR_USRSIZE s
  let a := rd Reg.PWR_USRBASE s + d
  if op = 1 then
    nvmRequest (decide (1 ≤ n) && decide (n ≤ 4096) && decide (d + n ≤ size) && inData src n) (.write src a n) s
  else if op = 2 then nvmRequest (decide (d < size)) (.erase a) s
  else nvmResult 2 s

/-- One byte programmed: flash only clears bits (PRESUMED, log entry 39). Answers whether it reads as asked. -/
def programByte (a v : Nat) (s : State) : State × Bool :=
  let old := Tbl.get 0xFF s.nv.user a
  ({ s with nv := { s.nv with user := Tbl.put a (old &&& v) s.nv.user } }, (old &&& v) == v)

/-- The write or erase in progress ends. -/
def nvmComplete (ok : Bool) (s : State) : State :=
  if !s.pwr.busy then s
  else match s.pwr.queue with
    | [] => s
    | op :: t => if isBurn op then s else
      let s := { s with pwr := { s.pwr with queue := t, busy := false } }
      let (s, good) : State × Bool := match op with
        | .write src d n =>
          if ok then (List.range n).foldl (fun (p : State × Bool) i =>
            let (q, g) := programByte (d + i) (ldB (src + i) p.1).toNat p.1
            (q, p.2 && g)) (s, true)
          else (openBytes d n s, false)
        | .erase d =>
          if ok then
            ({ s with nv := { s.nv with
              user := s.nv.user.filter (fun p => p.1 / Config.sectorBytes != d / Config.sectorBytes) } }, true)
          else (each (userSector d s) (fun a s => openBytes a 1 s) s, false)
        | _ => (s, ok)
      nvmNext (nvmResult (if good then 1 else 3) s)

def execNvmWrite (by_ : Fin 19) (s : State) : Host.Outcome State Fault Refusal :=
  .next (pairFrom Reg.PWR_NVMCMD by_ (nvmCommand 1) s)
def execNvmErase (by_ : Fin 19) (s : State) : Host.Outcome State Fault Refusal :=
  .next (pairFrom Reg.PWR_NVMCMD by_ (nvmCommand 2) s)
def execNvmOperationComplete (ok : Bool) (s : State) : Host.Outcome State Fault Refusal := .next (nvmComplete ok s)

/-! Supplies and the retain save (R432-R436). -/

/-- The NVMMAP section has named retain sectors. -/
def hasSectors (s : State) : Bool := rd Reg.PWR_SECTA s != rd Reg.PWR_SECTB s

/-- An erase in progress is aborted: its request waits again, and its sector may hold anything (R434). -/
def eraseAbort (s : State) : State :=
  match s.pwr.busy, s.pwr.queue with
  | true, .erase d :: _ =>
    each (userSector d s) (fun a s => openBytes a 1 s) { s with pwr := { s.pwr with busy := false } }
  | _, _ => s

/-- The warning on a rail. The first one starts the retain save, aborts an erase in progress and defers NVM writes. -/
def supplyWarning (rail : Nat) (s : State) : State :=
  if !s.ltRun then s
  else
    let first := supGood s
    let s := record 4 0 rail none (pwrFlag 0 (setBitAt Reg.PWR_STAT rail true (setBitAt Reg.PWR_STAT 9 false s)))
    let start := first && s.configured && hasSectors s && !saving s && !s.pwr.eraseOwed && !s.pwr.erasing
    nvmShow <| if start then
      let s := eraseAbort s
      setBitAt Reg.PWR_STAT 10 true { s with pwr := { s.pwr with warnAt := some s.lt, snap := none, saveAt := none } }
    else s

/-- Every rail has been good for 1 ms. -/
def supplyGood (s : State) : State :=
  if !s.ltRun || supGood s then s
  else nvmNext (record 5 0 0 none (pwrFlag 1 (setF Reg.PWR_STAT ⟨0, 9⟩ 0 (setBitAt Reg.PWR_STAT 9 true s))))

/-- Once the snapshot is taken and no page program runs, the save begins. A user write of several pages goes on after it. -/
def saveStart (s : State) : State :=
  match s.pwr.snap, s.pwr.saveAt with
  | some _, none =>
    if saving s then
      nvmShow { s with pwr := { s.pwr with saveAt := some (s.lt, targetSector s == .erased), busy := false } }
    else s
  | _, _ => s

/-- PWR_SAVESTAT and PWR_SAVESEQ show the sectors. -/
def sectorShow (s : State) : State :=
  let ok (x : Sector) : Bool := match x with
    | .saved .. => true
    | _ => false
  let (seq, inc) := match curSector s with
    | .saved n _ i _ => (n, i)
    | _ => (0, false)
  wr Reg.PWR_SAVESEQ seq (setBitAt Reg.PWR_SAVESTAT 3 inc
    (setBitAt Reg.PWR_SAVESTAT 2 (ok s.nv.sectB) (setBitAt Reg.PWR_SAVESTAT 1 (ok s.nv.sectA) s)))

/-- The save ends: its sector becomes current, or the previous image stays. The erase of the other sector is owed. -/
def saveComplete (ok : Bool) (s : State) : State :=
  match s.pwr.saveAt, s.pwr.snap with
  | some (_, erased), some (_, data) =>
    let took := min 0xFFFF ((s.lt - (s.pwr.warnAt.getD s.lt)) / us)
    let s := setF Reg.PWR_SAVESTAT ⟨16, 16⟩ took s
    let good := erased && ok
    let s := if good then
        let b := curB s
        let s := setTarget (.saved ((rd Reg.PWR_SAVESEQ s + 1) % 2 ^ 32) (rd Reg.CYC_BUILDID s)
          (on Reg.CYC_STAT Reg.CYC_STAT_SNAPINC s) data) s
        record 6 0 0 none (pwrFlag 2 (setF Reg.PWR_SAVESTAT ⟨4, 2⟩ 1 (setBitAt Reg.PWR_SAVESTAT 0 (!b) s)))
      else
        let s := if erased then setTarget .partial_ s else s
        record 7 0 (if erased then 2 else 1) none (pwrFlag 3 (setF Reg.PWR_SAVESTAT ⟨4, 2⟩ 2 s))
    let s := { s with pwr := { s.pwr with warnAt := none, snap := none, saveAt := none, eraseOwed := true } }
    nvmShow (sectorShow (setBitAt Reg.PWR_STAT 10 false s))
  | _, _ => s

/-- With SUPGOOD and no save, the erase that is owed begins. -/
def eraseStart (s : State) : State :=
  if s.pwr.eraseOwed && !s.pwr.erasing && supGood s && !saving s && !s.pwr.busy then
    setBitAt Reg.PWR_STAT 11 true { s with pwr := { s.pwr with erasing := true } }
  else s

/-- The erase ends, and the deferred writes begin. -/
def eraseComplete (s : State) : State :=
  if s.pwr.erasing then
    nvmNext (sectorShow (setBitAt Reg.PWR_STAT 11 false
      (setTarget .erased { s with pwr := { s.pwr with erasing := false, eraseOwed := false } })))
  else s

def execSupplyWarning (rail : Fin 9) (s : State) : Host.Outcome State Fault Refusal := .next (supplyWarning rail s)
def execSupplyGood (s : State) : Host.Outcome State Fault Refusal := .next (supplyGood s)
def execRetainSaveStart (s : State) : Host.Outcome State Fault Refusal := .next (saveStart s)
def execRetainSaveComplete (ok : Bool) (s : State) : Host.Outcome State Fault Refusal := .next (saveComplete ok s)
def execRetainSectorErase (s : State) : Host.Outcome State Fault Refusal := .next (eraseStart s)
def execRetainSectorEraseComplete (s : State) : Host.Outcome State Fault Refusal := .next (eraseComplete s)

/-! OTP (R429, R442). -/

/-- One fuse of the burn in progress: a step of ARB, or the revocation of a slot. A fuse that fails its verification ends
its burn. The next fuse, or the next request, begins where flash is free (R437). -/
def otpBurn (ok : Bool) (s : State) : State :=
  if !s.pwr.busy then s
  else
    let done (t : List NvmOp) (s : State) : State := { s with pwr := { s.pwr with queue := t } }
    let next (s : State) : State :=
      nvmNext (nvmResult (if ok then 1 else 3) (otpRead { s with pwr := { s.pwr with busy := false } }))
    match s.pwr.queue with
    | .arb n :: t =>
      if !ok || n ≤ s.nv.arb then next (done t s)
      else
        let s := { s with nv := { s.nv with arb := s.nv.arb + 1 } }
        next (if n ≤ s.nv.arb then done t s else s)
    | .revoke k :: t =>
      next (done t (if ok then { s with nv := { s.nv with revoked := setBit s.nv.revoked k true } } else s))
    | _ => s

/-- SEC_KCMD: KRESULT. -/
def kResult (k : Nat) (s : State) : State := setF Reg.SEC_STAT ⟨4, 2⟩ k s

/-- GO: the staged hash goes into a slot. A burn that fails its verification leaves a hash that is open. -/
def keyBurn (slot : Nat) (ok : Bool) (s : State) : State :=
  if s.nv.keys.any (fun p => p.1 == slot) || s.nv.revoked.testBit slot then kResult 2 s
  else
    let hash := (List.range 32).map (fun i => rd (Reg.SEC_KHASH (i / 4)) s / 256 ^ (i % 4) % 256)
    if ok then kResult 1 { s with nv := { s.nv with keys := Tbl.put slot hash s.nv.keys } }
    else
      let (h, s) := (List.range 32).foldl (fun p _ => let (v, q) := fresh p.2; (p.1 ++ [v.toNat % 256], q)) ([], s)
      kResult 3 { s with nv := { s.nv with keys := Tbl.put slot h s.nv.keys } }

/-- LOCK: the TESTLOCK fuse. -/
def testlockBurn (ok : Bool) (s : State) : State :=
  if ok then kResult 1 { s with nv := { s.nv with testlock := true } } else kResult 3 s

/-- The writer that reaches SEC_KHASH and SEC_KCMD: the test port of an UNCONFIGURED device. -/
def keyWriter (by_ : Nat) (s : State) : Bool := by_ == 18 && unconfigured s

/-- SEC_KCMD with its two commands. -/
def keyCommand (v : Nat) (ok : Bool) (s : State) : State :=
  when (v.testBit 5) (testlockBurn ok) (when (v.testBit 4) (keyBurn (v % 4) ok) s)

def execOtpBurn (ok : Bool) (s : State) : Host.Outcome State Fault Refusal := .next (otpBurn ok s)
def execKeyBurn (slot : Fin 4) (ok : Bool) (by_ : Fin 19) (s : State) : Host.Outcome State Fault Refusal :=
  .next (when (keyWriter by_ s) (keyBurn slot ok) s)
def execTestlockBurn (ok : Bool) (by_ : Fin 19) (s : State) : Host.Outcome State Fault Refusal :=
  .next (when (keyWriter by_ s) (testlockBurn ok) s)

/-! Die temperature (R438). -/

/-- A temperature of PWR_TJCFG in 1/16 °C. -/
def tjLimit (k : Nat) (s : State) : Int := 16 * ((rd Reg.PWR_TJCFG s / 256 ^ k % 256 : Nat) - 40 : Int)

def tjCause : Cause := ⟨12, 0⟩

/-- Stages with an enabled half-bridge. -/
def hbStages (s : State) : List Nat := (List.range 4).filter (fun st => !(hbsOf st s).isEmpty)

/-- A reading of the junction sensor (R438; log entry 182). -/
def tjRead (tj : BitVec 16) (s : State) : State :=
  if !s.ltRun then s
  else
    let s := ageCache (wr Reg.PWR_TJ tj.toNat s)
    if !s.configured then s
    else
      let t := tj.toInt
      let s := when (decide (tjLimit 0 s < t)) (fun s => record 12 0 0 none (pwrFlag 5 s)) s
      let over_ := if tjLimit 1 s < t then some (s.pwr.overAt.getD s.lt) else none
      let s := { s with pwr := { s.pwr with overAt := over_ } }
      when (decide (t ≤ tjLimit 1 s - 80)) (dropCause tjCause) s

/-- Above TJMAX for 1 ms: G3 against every Stage with an enabled half-bridge, once while the cause is active. -/
def tjOver (s : State) : State :=
  match s.pwr.overAt with
  | none => s
  | some t =>
    let sts := (hbStages s).filter (fun st => !(g3Of st s).contains tjCause)
    if s.lt < t + ms || sts.isEmpty then s
    else under 12 0 (gradeG3All sts (some tjCause)) (record 12 3 0 none (pwrFlag 5 s))

def execTjRead (tj : BitVec 16) (s : State) : Host.Outcome State Fault Refusal := .next (tjRead tj s)
def execTjOvertemp (s : State) : Host.Outcome State Fault Refusal := .next (tjOver s)

end Sys2Proof.Machine
end

