-- ==== Sys2Proof/Machine/LoaderRules.lean ====
section
/-! DEFINITION. What the configuration loader checks of one field and what an image does not write holds: the ranges and
the Vuhoid defaults that the register maps and R57 state (R57, R444, R468), and the staged register values. -/

namespace Sys2Proof.Machine

/-- A field of a register or of a register array: whether it is signed, the intervals its value may lie in (none listed: any),
and the code of its default. -/
structure FRule where
  base : Nat
  dims : List (Nat × Nat)
  fld : Fld
  sgn : Bool
  ok : List (Int × Int)
  dflt : Nat
  deriving Repr

/-- A whole word: unsigned and signed. -/
def uw (base : Nat) (dims : List (Nat × Nat)) (lo hi dflt : Nat) : FRule := ⟨base, dims, whole, false, [(lo, hi)], dflt⟩
def sw (base : Nat) (dims : List (Nat × Nat)) (lo hi : Int) (dflt : Nat) : FRule := ⟨base, dims, whole, true, [(lo, hi)], dflt⟩
/-- A field. -/
def uf (base : Nat) (dims : List (Nat × Nat)) (F : Fld) (lo hi dflt : Nat) : FRule := ⟨base, dims, F, false, [(lo, hi)], dflt⟩
/-- A value whose default alone is stated. -/
def df (base : Nat) (dims : List (Nat × Nat)) (F : Fld) (dflt : Nat) : FRule := ⟨base, dims, F, false, [], dflt⟩

/-- n/d in a format with `f` fraction bits: the least code not below it, the greatest not above it, and the nearest. -/
def qLo (f n d : Nat) : Nat := ceilDiv (n * 2 ^ f) d
def qHi (f n d : Nat) : Nat := n * 2 ^ f / d
def qAt (f n d : Nat) : Nat := (roundDiv (n * 2 ^ f : Nat) d).toNat
/-- A Q4.28 word between n/1000 and m/1000, with a default in thousandths. -/
def pu (base : Nat) (dims : List (Nat × Nat)) (n m k : Nat) : FRule :=
  sw base dims (qLo 28 n 1000) (qHi 28 m 1000) (qAt 28 k 1000)
/-- A UQ2.30 word between 0 and 1, with a default in hundredths. -/
def imp (base : Nat) (dims : List (Nat × Nat)) (k : Nat) : FRule := uw base dims 0 (2 ^ 30) (qAt 30 k 100)

def dStage (n : Nat) : List (Nat × Nat) := [(n, 4)]

/-- Angle time (R19, R23, R32); the word limits of R19 are combinations. -/
def rulesBob : List FRule :=
  [uf (Reg.BOB_SRCCFG 0) (dStage 0x100) Reg.BOB_SRCCFG_SLEWN 0 63 20]

/-- The Drum (R57, R58). -/
def rulesDrum : List FRule :=
  let d := dStage 0x400
  [uw (Reg.DRM_H 0) d 50 20000 2000, uw (Reg.DRM_D 0) d 0 (200 * 2 ^ 16) 0,
   ⟨Reg.DRM_TG 0, d, whole, false, [(0, 0), (1000, 10000000)], 200000⟩,
   ⟨Reg.DRM_TP 0, d, whole, false, [(0, 0), (100, 100000)], 5000⟩,
   uw (Reg.DRM_TD 0) d 1000 1000000 20000, uw (Reg.DRM_MP 0) d 500 10000 2000,
   uw (Reg.DRM_NQ 0) d 0 (qHi 30 1 5) (qAt 30 5 100), uw (Reg.DRM_KR 0) d 0 (100 * 2 ^ 16) (2 ^ 16),
   pu (Reg.DRM_URMAX 0) d 0 200 50, uw (Reg.DRM_KPV 0) d 0 (100 * 2 ^ 16) 0,
   uw (Reg.DRM_KIV 0) d 0 (10000 * 2 ^ 16) 0, pu (Reg.DRM_EMIN 0) d 0 1500 0] ++
  [pu (Reg.DRM_EMAX 0) d 0 1500 1200, sw (Reg.DRM_EDMAX 0) d 1 (qHi 28 1 10) (qAt 28 1 1000),
   sw (Reg.DRM_PRATE 0) d 1 (2 ^ 28) (qAt 28 1 10000),
   imp (Reg.DRM_RV 0) d 2, imp (Reg.DRM_XV 0) d 10, imp (Reg.DRM_RVN 0) d 2, imp (Reg.DRM_XVN 0) d 5,
   pu (Reg.DRM_HEMMAX 0) d 100 4000 1200, uf (Reg.DRM_DERATE 0) d ⟨0, 17⟩ 16384 65536 49152,
   df (Reg.DRM_HEMFLOOR 0) d whole (qAt 28 3 10), sw (Reg.DRM_ANGADV 0) d (-(2 ^ 24)) (2 ^ 24) 0,
   df (Reg.DRM_VSET 0) d whole (2 ^ 28)]

/-- Ride-through (R91). -/
def rulesRide : List FRule :=
  let d := dStage 0x400
  [uf (Reg.DRM_SMCFG 0) d Reg.DRM_SMCFG_NHEM 1 255 20, uf (Reg.DRM_SMCFG 0) d Reg.DRM_SMCFG_NREC 1 255 40,
   uf (Reg.DRM_SMCFG 0) d Reg.DRM_SMCFG_NREP 1 15 4, pu (Reg.DRM_VDIP 0) d 500 950 850,
   pu (Reg.DRM_VREC 0) d 500 980 900, pu (Reg.DRM_VANGMIN 0) d 20 500 100, pu (Reg.DRM_VDEAD 0) d 10 200 50,
   uw (Reg.DRM_TDEAD 0) d 20 60000 500, uw (Reg.DRM_TRAMP 0) d 100 10000 2000, uw (Reg.DRM_TREC 0) d 1 1000 20,
   sw (Reg.DRM_PRECRATE 0) d 1 (2 ^ 28) (qAt 28 1 1000), uw (Reg.DRM_THMAX 0) d 10 60000 3000] ++
  [uw (Reg.DRM_TREP 0) d 100 600000 10000, uw (Reg.DRM_KAH 0) d 0 (100 * 2 ^ 16) (10 * 2 ^ 16),
   uw (Reg.DRM_DELMAX 0) d (2 ^ 28) (2 ^ 31 - 1) (2 ^ 30), imp (Reg.DRM_RVF 0) d 5, imp (Reg.DRM_XVF 0) d 50,
   imp (Reg.DRM_RVNF 0) d 2, imp (Reg.DRM_XVNF 0) d 20, uf (Reg.DRM_BRKCFG 0) d Reg.DRM_BRKCFG_TBRK 0 500 0,
   pu (Reg.DRM_SYNCV 0) d 10 200 50, uw (Reg.DRM_SYNCPH 0) d 0 (2 ^ 29) 119304647,
   uw (Reg.DRM_SYNCSLIP 0) d 0 562950 56295, uw (Reg.DRM_TSYNC 0) d 1 10000 100] ++
  [pu (Reg.DRM_VHYS 0) d 0 100 20, uw (Reg.DRM_PVMAX 0) d 1 65535 400]

/-- Stitch (R94, R116): a coefficient in Q3.28 has bit 31 equal to bit 30. -/
def rulesStitch : List FRule :=
  let i := [(0x40, 128)]
  let k := [(0x80, 128), (0x20, 4)]
  let coeff (a : Nat) : FRule := sw a k (-(2 ^ 30)) (2 ^ 30 - 1) 0
  [uf (Reg.STI_ISRC 0) i Reg.STI_ISRC_REFSEL 0 5 0, uf (Reg.STI_ISRC 0) i Reg.STI_ISRC_FFSEL 0 2 0,
   uw (Reg.STI_FETIME 0) i 1 65535 0, uf (Reg.STI_SCFG 0) (dStage 0x40) Reg.STI_SCFG_MISSMAX 1 15 2,
   coeff (Reg.STI_B0 0 0), coeff (Reg.STI_B1 0 0), coeff (Reg.STI_B2 0 0), coeff (Reg.STI_B3 0 0),
   coeff (Reg.STI_A1 0 0), coeff (Reg.STI_A2 0 0), coeff (Reg.STI_A3 0 0)]

/-- Pulses (R171). -/
def rulesPulse : List FRule :=
  let h := [(0x40, 104)]
  [uf (Reg.PGN_KDITH 0 0) [(0x40, 16), (0x10, 4)] Reg.PGN_KDITH_DAMP 0 5242 0,
   uf (Reg.PGN_HCFG 0) h Reg.PGN_HCFG_MODE 0 2 0, uf (Reg.PGN_HCFG 96) [(0x40, 8)] Reg.PGN_HCFG_ACKQ 1 15 2,
   uf (Reg.PGN_DTH 0) h ⟨0, 17⟩ 80 80000 0, uf (Reg.PGN_DTL 0) h ⟨0, 17⟩ 80 80000 0,
   uf (Reg.PGN_MINP 0) h ⟨0, 16⟩ 160 40000 0, uf (Reg.PGN_ACKTO 0) h ⟨0, 17⟩ 80 80000 16000,
   uf (Reg.PGN_BSW 0) h ⟨0, 16⟩ 160 40000 0, uf (Reg.PGN_BSREC 0) h ⟨0, 17⟩ 800 80000 0,
   uf (Reg.PGN_SCFG 0) (dStage 0x40) ⟨0, 16⟩ 1024 40000 0]

/-- Leg links (R201). -/
def rulesLink : List FRule :=
  let n := [(0x80, 24)]
  [uf (Reg.LLK_LCFG 0) n Reg.LLK_LCFG_DUP 0 1 1, uf (Reg.LLK_LCFG 0) n Reg.LLK_LCFG_STATIV 1 255 10,
   uf (Reg.LLK_LCFG 0) n Reg.LLK_LCFG_LOSSTO 400 16000 1600, uf (Reg.LLK_LEAD 0) n ⟨0, 16⟩ 3200 32000 6400,
   uf (Reg.LLK_DMAX 0) n ⟨0, 16⟩ 0 16000 800, uf (Reg.LLK_TRN 0) n Reg.LLK_TRN_NTRAIN 1 255 64,
   uf (Reg.LLK_TRN 0) n Reg.LLK_TRN_TRAINIV 0 15 10, uf (Reg.LLK_TRN 0) n Reg.LLK_TRN_PRETOL 1 255 4,
   uf (Reg.LLK_TRN 0) n Reg.LLK_TRN_PLATMARG 2 255 8, uf (Reg.LLK_DJUMP 0) n ⟨0, 8⟩ 4 255 16]

/-- Events and power-stage protection (R219, R237). -/
def rulesProtect : List FRule :=
  let c := [(0x20, 48)]
  [uf Reg.EVT_RSIZE [] ⟨0, 5⟩ 6 16 0, uf (Reg.PRT_TCFG 0) [(0x20, 8)] Reg.PRT_TCFG_TGRADE 0 2 2,
   uf (Reg.PRT_CCFG 0) c Reg.PRT_CCFG_MODE 0 2 0, uf (Reg.PRT_CCFG 0) c Reg.PRT_CCFG_ACT 0 2 0,
   uf (Reg.PRT_CBLANK 0) c ⟨0, 15⟩ 0 16000 0, uf Reg.PRT_SCCFG [] Reg.PRT_SCCFG_SCGRADE 0 2 1,
   uf Reg.PRT_SCCFG [] Reg.PRT_SCCFG_SCWIN 2 50000 500, uf Reg.PRT_TEMPCFG [] Reg.PRT_TEMPCFG_THYS 1 20 5]

/-- Measurement banks (R260). -/
def rulesAdc : List FRule :=
  let b := dStage 0x400
  [uf (Reg.ADC_BCAL0 0) b ⟨0, 16⟩ 256 16384 4096, uf (Reg.ADC_BCAL0 0) b ⟨16, 16⟩ 64 16384 2048,
   uf (Reg.ADC_BCAL1 0) b ⟨0, 8⟩ 1 255 10, uf (Reg.ADC_BCAL1 0) b ⟨8, 8⟩ 1 255 8,
   df (Reg.ADC_BCAL1 0) b ⟨16, 16⟩ 2097, df (Reg.ADC_BLIM 0) b ⟨0, 8⟩ 64, df (Reg.ADC_BLIM 0) b ⟨8, 8⟩ 82,
   df (Reg.ADC_BLIM 0) b ⟨16, 8⟩ 32]

/-- The Hamper and memory (R294, R318): condition codes 7 and 0x50 to 0x7F are undefined (R289). -/
def rulesHamper : List FRule :=
  let c (a : Nat) : FRule := ⟨a, [(8, 8)], Reg.HMP_STA_COND, false, [(0, 6), (8, 0x4F), (0x80, 0xFF)], 0⟩
  [uf Reg.HMP_TBCFG [] Reg.HMP_TBCFG_PW 1 255 8, uf Reg.HMP_TBCFG [] Reg.HMP_TBCFG_TBTOL 1 65535 16,
   c (Reg.HMP_STA 0), c (Reg.HMP_STB 0), uf (Reg.HMP_THCFG 0) [(0x10, 16)] ⟨7, 2⟩ 0 2 0,
   df (Reg.HMP_CCFG 0) [(0x40, 64)] Reg.HMP_CCFG_RATEEN 1, uf Reg.MEM_DRAMCFG [] Reg.MEM_DRAMCFG_SIZE 0 4 0,
   df Reg.MEM_DRAMCFG [] Reg.MEM_DRAMCFG_HMPSHARE 60, df Reg.MEM_DRAMCFG [] Reg.MEM_DRAMCFG_DMASHARE 20,
   uf (Reg.CYC_SCFG 0) [(0x10, 64)] ⟨19, 4⟩ 1 15 3, uf (Reg.CYC_SCFG 0) [(0x10, 64)] ⟨23, 4⟩ 1 15 4]

/-- Span ports and the pair (R369, R389). -/
def rulesSpan : List FRule :=
  [df Reg.SPN_ETYPE [] ⟨0, 16⟩ 0x88B5, uf Reg.SPN_CFG [] Reg.SPN_CFG_BLOSS 1 15 3, uf Reg.SPN_CFG [] Reg.SPN_CFG_RMULT 1 127 10,
   uf Reg.SPN_CCYC [] ⟨0, 17⟩ 250 100000 1000, uf Reg.SPN_CCYC [] ⟨24, 8⟩ 1 255 0, uf Reg.SPN_HOLD [] ⟨0, 14⟩ 10 10000 200,
   pu Reg.SPN_VRMAX [] 0 200 0, df Reg.SPN_PTP [] Reg.SPN_PTP_PRIO1 128, df Reg.SPN_PTP [] Reg.SPN_PTP_PRIO2 128,
   df Reg.SPN_PTP [] Reg.SPN_PTP_SYNCIV 4, uf Reg.SPN_RXCFG [] ⟨0, 4⟩ 2 9 0, df Reg.SPN_MCTHR [] ⟨0, 24⟩ 20000] ++
  [uf Reg.SPN_MCFG [] Reg.SPN_MCFG_MCWAIT 1 255 10, uf Reg.SPN_MCFG [] Reg.SPN_MCFG_MCLOSS 1 255 2,
   uf Reg.SPN_MCTX [] ⟨0, 4⟩ 1 4 0, uf Reg.PAR_CFG [] Reg.PAR_CFG_REFSRC 0 2 0, uf Reg.PAR_CFG [] Reg.PAR_CFG_THBACK 1 255 10,
   uf Reg.PAR_TOL [] Reg.PAR_TOL_ATTOL 16 22 20, uf Reg.PAR_TOL [] Reg.PAR_TOL_ETOL 1 10 5,
   uf Reg.PAR_TOL [] Reg.PAR_TOL_STITOL 1 1000 50, uf Reg.PAR_RCFG [] Reg.PAR_RCFG_TREF 1 15 2]

/-- Safety, clocks and supplies (R407, R420, R441). -/
def rulesSafety : List FRule :=
  let n := [(0x20, 8)]
  [uf (Reg.SAF_PCFG 0) n Reg.SAF_PCFG_FUNC 0 5 0, uf (Reg.SAF_PTIME 0) n Reg.SAF_PTIME_TFILT 1 64 5,
   uf (Reg.SAF_PTIME 0) n Reg.SAF_PTIME_TDISC 1 3000 100, uf Reg.SAF_TP [] ⟨0, 10⟩ 10 1000 100,
   uf Reg.SAF_TP [] ⟨10, 10⟩ 100 1000 400, uf Reg.SAF_TP [] ⟨20, 8⟩ 20 200 100, uf Reg.SAF_PB [] ⟨0, 8⟩ 1 255 20,
   uf Reg.SAF_PB [] ⟨8, 16⟩ 0 8760 0, df Reg.CLK_CFG [] ⟨0, 2⟩ 3, uf Reg.CLK_SLEW [] ⟨0, 10⟩ 1 1000 50,
   uf Reg.CLK_SLEW [] ⟨10, 6⟩ 1 50 20, df Reg.CLK_SLEW [] ⟨16, 8⟩ 8] ++
  [uf Reg.CLK_SLEW [] ⟨24, 8⟩ 1 255 64, uf (Reg.CLK_CKEY 0) [(8, 16)] Reg.CLK_CKEY_SRC 0 5 0,
   uf (Reg.CLK_OCFG 0) [(0x10, 6)] ⟨3, 2⟩ 0 2 0, uf Reg.PWR_SAVECFG [] ⟨0, 5⟩ 1 20 2, df Reg.PWR_TJCFG [] ⟨0, 8⟩ 160,
   df Reg.PWR_TJCFG [] ⟨8, 8⟩ 170]

def fieldRules : List FRule :=
  rulesBob ++ rulesDrum ++ rulesRide ++ rulesStitch ++ rulesPulse ++ rulesLink ++ rulesProtect ++ rulesAdc ++ rulesHamper
    ++ rulesSpan ++ rulesSafety

/-- An address that the CFGW section may name: a CFG field, or the value word of a PW field whose reset is Image, but not
BOB_SRCREQ (R468). -/
def imageMay (a : Nat) : Bool :=
  match rowOf a with
  | some r => r.acc == .cfg || (r.acc == .pw && r.image && !(List.range 4).any (fun st => a == Reg.BOB_SRCREQ st))
  | none => false

/-! The staged values. -/

/-- Whether a word meets a rule. -/
def FRule.holds (r : FRule) (w : Word) : Bool :=
  let v := fldGet r.fld w
  let x : Int := if r.sgn then signed r.fld.width v else v
  r.ok.isEmpty || r.ok.any (fun p => decide (p.1 ≤ x) && decide (x ≤ p.2))

/-- The rules of an address. -/
def rulesAt (a : Nat) : List FRule := fieldRules.filter (fun r => decide (r.base ≤ a) && arrayHas r.dims (a - r.base))

def rangeOk (a : Nat) (w : Word) : Bool := (rulesAt a).all (fun r => r.holds w)

/-- The registers of a Drum, the hem apart, which do not operate on a Stage without an active Drum (R33); DRM_CFG waits for the
checks (`drumStart`). -/
def drumOnly (st : Nat) : List Nat :=
  let hem := [Reg.DRM_HEM st, Reg.DRM_HEMMAX st, Reg.DRM_DERATE st, Reg.DRM_HEMFLOOR st, Reg.DRM_CFG st]
  (Reg.rowsDRM.filter (fun r => r.acc == .cfg || (r.acc == .pw && r.image))).flatMap (fun r =>
    ((arrayOfs (r.dims.drop 1)).map (fun o => r.base + 0x400 * st + o)).filter (fun a => !hem.contains a))

/-- The state with every default in place. -/
def defaults (s : State) : State :=
  each fieldRules (fun r s => each (arrayOfs r.dims) (fun o s => setF (r.base + o) r.fld r.dflt s) s) s

/-- A value the image writes, without its reserved bits (R9). -/
def stageWrite (p : Nat × Nat) (s : State) : State :=
  match rowOf p.1 with
  | some r => wr p.1 (p.2 &&& r.mask) s
  | none => s

/-- The PWR registers as the NVMMAP section gives them (R433, R437). -/
def nvmMapRegs : List Nat := [Reg.PWR_SECTA, Reg.PWR_SECTB, Reg.PWR_USRBASE, Reg.PWR_USRSIZE, Reg.PWR_FLASH]

/-- The register file as the image gives it: the defaults, the NVM map, the writes, I_HEM at I_MAX where it is not written, and
no Drum registers on a Stage without an active Drum. -/
def imageRegs (img : List Nat) (s : State) : State :=
  let w := imStaged img
  let map := if (imSects img).any (fun x => x.kind == secNvmmap) then Config.nvmMap (imSection img secNvmmap) else []
  let s := each (nvmMapRegs.zip map) (fun p s => wr p.1 p.2 s) (defaults s)
  let s := each w stageWrite s
  let s := each (List.range 4) (fun st s =>
    when (!w.any (fun p => p.1 == Reg.DRM_HEM st)) (wrW (Reg.DRM_HEM st) (rdW (Reg.DRM_HEMMAX st) s)) s) s
  let s := each (List.range 4) (fun st s =>
    if hasDrum st s then s else each (drumOnly st) (fun a s => wrW a 0#32 s) s) s
  wr Reg.CYC_BUILDID (if w.any (fun p => p.1 == Reg.CYC_BUILDID) then rd Reg.CYC_BUILDID s else imBuild img) s

/-- The first failing write, in rising address. -/
def writeCheck (img : List Nat) : Option Nat :=
  ((imStaged img).find? (fun p => !imageMay p.1 || !rangeOk p.1 (BitVec.ofNat 32 p.2))).map (·.1)

end Sys2Proof.Machine
end

