-- ==== Sys2Proof/Machine/LoaderCheck.lean ====
section
/-! DEFINITION. The combinations of CFG values that the configuration loader refuses with cause 0x0B, chapter by chapter. Each
check reads the state as the image's values would leave it, and answers what it finds bad with the register address that
SYS_CFGREF then shows. Beside the loads and margins that the loader computes from the same figures. -/

namespace Sys2Proof.Machine

/-- Something bad, and the register named. -/
abbrev Chk := Bool × Nat

/-- The first bad finding. -/
def firstBad (l : List Chk) : Option Nat := (l.find? (·.1)).map (·.2)

def stages4 : List Nat := List.range 4

/-! Exact sums of rates: numerator and denominator. -/

def qAdd (a b : Nat × Nat) : Nat × Nat := (a.1 * b.2 + b.1 * a.2, a.2 * b.2)
def qSum (l : List (Nat × Nat)) : Nat × Nat := l.foldl qAdd (0, 1)
def qMul (k : Nat) (a : Nat × Nat) : Nat × Nat := (k * a.1, a.2)
/-- a ≤ n/d. -/
def qLe (a : Nat × Nat) (n d : Nat) : Bool := decide (a.1 * d ≤ n * a.2)

/-! Angle time (R19, R22). -/

/-- INITSRC or FALLBACK would be refused (R22). -/
def initRefused (st src : Nat) (s : State) : Bool :=
  let f := fl (Reg.BOB_SRCCFG st) Reg.BOB_SRCCFG_FOLLOW s
  decide (4 < src) || (decide (src < 2) && !hasDrum st s)
    || (src == 2 && (f == st || fl (Reg.BOB_SRCCFG f) Reg.BOB_SRCCFG_INITSRC s == 2 || !hasAngle f s))

def angleChecks (st : Nat) (s : State) : List Chk :=
  if !hasAngle st s then []
  else
    let out (x : Nat) : Bool := decide (x < 562950) || decide (1125899907 < x)
    let i := fl (Reg.BOB_SRCCFG st) Reg.BOB_SRCCFG_INITSRC s
    let f := fl (Reg.BOB_SRCCFG st) Reg.BOB_SRCCFG_FALLBACK s
    [(out (fnomOf st s) || decide (fnomOf st s < fminOf st s) || decide (fmaxOf st s < fnomOf st s), Reg.BOB_FNOM_LO st),
     (out (fminOf st s), Reg.BOB_FMIN_LO st), (out (fmaxOf st s), Reg.BOB_FMAX_LO st),
     (rd (Reg.BOB_DWMAX st) s == 0, Reg.BOB_DWMAX st),
     (fl (Reg.BOB_SRCCFG st) Reg.BOB_SRCCFG_SLEWN s == 0 || initRefused st i s || initRefused st f s, Reg.BOB_SRCCFG st)]

/-- What may not name a Stage without angle time. -/
def noAngleChecks (s : State) : List Chk :=
  let no (st : Nat) : Bool := !hasAngle st s
  stages4.map (fun st => (hasDrum st s && no st, Reg.DRM_CFG st)) ++
  stages4.map (fun st => ((fl (Reg.BOB_SRCCFG st) Reg.BOB_SRCCFG_INITSRC s == srcStage || fallbackOf st s == srcStage)
    && no (followOf st s), Reg.BOB_SRCCFG st)) ++
  (List.range 16).flatMap (fun c => (List.range 4).map (fun k =>
    let w := rdW (Reg.PGN_KMODE c k) s
    (carUsed c s && fldGet Reg.PGN_KMODE_VALID w != 0 && fldGet Reg.PGN_KMODE_FOLLOW w == 0
      && fldGet Reg.PGN_KMODE_BASIS w != 0 && no (carStage c s), Reg.PGN_KMODE c k))) ++
  (List.range 64).map (fun l => (laneUsed l s && laneMode l s == 1 && no (laneStage l s), Reg.RNS_LCFG l)) ++
  (List.range 64).map (fun c => (chUsed c s && chRaw c s && chWide c s
    && no (fl (Reg.HMP_CCFG c) Reg.HMP_CCFG_STAGE s), Reg.HMP_CCFG c)) ++
  [(on Reg.SPN_MCFG Reg.SPN_MCFG_EN s && no (fl Reg.SPN_MCFG Reg.SPN_MCFG_MCSTAGE s), Reg.SPN_MCFG),
   (paired s && no (fl Reg.PAR_CFG Reg.PAR_CFG_CSTAGE s), Reg.PAR_CFG),
   ((List.range 4).any (fun p => spanRole p s != 0) && no (rStage s), Reg.SPN_CFG)]

/-! The Drum (R35, R44, R46, R52, R57, R63, R87). -/

/-- Lanes that carry one sample set of a Stage: enabled, in ANGLE mode on this Stage, with one N, a multiple of 4, and one
phase (R35). -/
def laneSetOk (st : Nat) (ls : List Nat) (s : State) : Bool :=
  let n := laneGridN (ls.headD 0) s
  n % 4 == 0 && ls.all (fun l => laneUsed l s && laneMode l s == 1 && laneStage l s == st && laneGridN l s == n
    && rd (Reg.RNS_RPH l) s == rd (Reg.RNS_RPH (ls.headD 0)) s)

/-- The lanes of DRM_LANE0 or DRM_BUSLANE: without LC under VMEAS. -/
def voltLanes (a st : Nat) (s : State) : List Nat :=
  let l := [fl a Reg.DRM_LANE0_LA s, fl a Reg.DRM_LANE0_LB s]
  if on (Reg.DRM_CFG st) Reg.DRM_CFG_VMEAS s then l else l ++ [fl a Reg.DRM_LANE0_LC s]

/-- K_H in UQ32.16: FNOM × T_o / 2H (R42, R51). -/
def khOf (st to_ : Nat) (s : State) : Nat :=
  (roundDiv (fnomOf st s * to_ * 65536 : Nat) (max 1 (rd (Reg.DRM_H st) s * 1000000))).toNat

/-- The checks of an active Drum; T_o in FCLK, if the image has the Stage's one Drum-step slot. -/
def drumChecks (st : Nat) (to_ : Option Nat) (written : Nat → Bool) (s : State) : List Chk :=
  let hem : List Chk :=
    [(decide (rdI (Reg.DRM_HEMMAX st) s < rdI (Reg.DRM_HEMFLOOR st) s) || decide (rdI (Reg.DRM_HEMFLOOR st) s < 0),
      Reg.DRM_HEMFLOOR st),
     (on (Reg.DRM_CFG st) Reg.DRM_CFG_HEMMODE s && on (Reg.DRM_CFG st) Reg.DRM_CFG_WIRE4 s, Reg.DRM_CFG st)]
  if !hasDrum st s then
    hem ++ (commitRows st s).filterMap (fun r =>
      if r.2.1 = Reg.DRM_HEM st && written r.2.1 then some (!r.2.2 (rdW r.2.1 s), r.2.1) else none)
  else
    let volts := voltLanes (Reg.DRM_LANE0 st) st s
    let amps := [fl (Reg.DRM_LANE1 st) Reg.DRM_LANE1_LA s, fl (Reg.DRM_LANE1 st) Reg.DRM_LANE1_LB s,
      fl (Reg.DRM_LANE1 st) Reg.DRM_LANE1_LC s]
    let bus := voltLanes (Reg.DRM_BUSLANE st) st s
    let t := to_.getD 0
    let short (a : Nat) : Chk := let x := rd a s; (x != 0 && decide (x * 500 < 10 * t), a)
    let big (a : Nat) : Chk := (decide (500000000 * 65536 ≤ rd a s * t), a)
    hem ++
    [(to_.isNone, Reg.DRM_CFG st), (!laneSetOk st volts s, Reg.DRM_LANE0 st),
     (!laneSetOk st (volts.take 1 ++ amps) s, Reg.DRM_LANE1 st), (!laneSetOk st bus s, Reg.DRM_BUSLANE st),
     (!bus.contains (fl (Reg.BOB_SRCCFG st) Reg.BOB_SRCCFG_BUSLANE s), Reg.BOB_SRCCFG st),
     (decide (rd (Reg.DRM_H st) s * 500 < t), Reg.DRM_H st), short (Reg.DRM_TG st), short (Reg.DRM_TP st), short (Reg.DRM_TD st),
     (decide (2 ^ 48 ≤ khOf st t s), Reg.DRM_H st), big (Reg.DRM_KR st), big (Reg.DRM_KIV st)] ++
    [(decide (rdI (Reg.DRM_VREC st) s ≤ rdI (Reg.DRM_VDIP st) s), Reg.DRM_VREC st)] ++
    (commitRows st s).filterMap (fun r =>
      if written r.2.1 then some (!r.2.2 (rdW r.2.1 s), r.2.1) else none)

/-! Stitch (R95-R99, R102, R111, R113, R116). -/

/-- STI_CTL.VALID and the coefficient sum of R95. -/
def setValid (n k : Nat) (s : State) : Bool := on (Reg.STI_CTL n k) Reg.STI_CTL_VALID s
def setPoleBad (n k : Nat) (s : State) : Bool :=
  let a3 : Int := if on (Reg.STI_ICFG n) Reg.STI_ICFG_TYPE s then rdI (Reg.STI_A3 n k) s else 0
  let x := 2 ^ 28 + rdI (Reg.STI_A1 n k) s + rdI (Reg.STI_A2 n k) s + a3
  x != 0 && decide (x.natAbs ≤ 8)

def instChecks (n : Nat) (written : Nat → Bool) (s : State) : List Chk :=
  let pairs : List Chk :=
    [(written (Reg.STI_MAN n) && (decide (rdI (Reg.STI_MAN n) s < rdI (Reg.STI_UMIN n) s)
        || decide (rdI (Reg.STI_UMAX n) s < rdI (Reg.STI_MAN n) s)), Reg.STI_MAN n),
     (written (Reg.STI_SETP n) && (decide (rdI (Reg.STI_SETP n) s < rdI (Reg.STI_SPMIN n) s)
        || decide (rdI (Reg.STI_SPMAX n) s < rdI (Reg.STI_SETP n) s)), Reg.STI_SETP n)]
  if !instUsed n s then pairs
  else
    let st := instStage n s
    let sel := refSel n s
    let idx := refIdx n s
    let ff := fl (Reg.STI_ISRC n) Reg.STI_ISRC_FFSEL s
    let fi := fl (Reg.STI_ISRC n) Reg.STI_ISRC_FFIDX s
    let others := (instsOf st s).filter (fun k => k != n)
    let leg := sinkKind n s == 3
    let hb := fl (Reg.STI_SINK n) Reg.STI_SINK_HB s
    let src := refFrom st n s
    let divs (k : Nat) : Bool := divOf k s % divOf n s == 0
      && fl (Reg.STI_ICFG k) Reg.STI_ICFG_DPH s % divOf n s == fl (Reg.STI_ICFG n) Reg.STI_ICFG_DPH s
    let grp := groupLegs st idx s
    let sum := grp.foldl (fun a k => a + rdI (Reg.STI_LEGW k) s) 0
    [(decide (divOf n s ≤ fl (Reg.STI_ICFG n) Reg.STI_ICFG_DPH s)
        || (fl (Reg.STI_ICFG n) Reg.STI_ICFG_FEGRADE s == 2 && !(leg && sel == 3 && decide (2 ≤ grp.length))), Reg.STI_ICFG n),
     ((sel == 1 && decide (2 < idx)) || (sel == 2 && !others.contains idx) || (sel == 3 && decide (3 < idx))
        || (sel == 5 && decide (63 < idx)) || (ff == 1 && decide (2 < fi))
        || (ff == 2 && laneStage fi s != st)
        || (sel == 3 && decide (idx < 4) && (feeders st idx s).isEmpty)
        || decide (8 < level 9 st n s) || !src.all divs, Reg.STI_ISRC n)] ++
    [(decide (rdI (Reg.STI_UMAX n) s ≤ rdI (Reg.STI_UMIN n) s), Reg.STI_UMAX n),
     (rd (Reg.STI_FETIME n) s == 0 && fl (Reg.STI_ICFG n) Reg.STI_ICFG_FEGRADE s != 0, Reg.STI_FETIME n),
     ((leg && (decide (103 < hb) || (List.range n).any (fun k => instUsed k s && sinkKind k s == 3
        && fl (Reg.STI_SINK k) Reg.STI_SINK_HB s == hb)))
      || (sinkKind n s == 2 && (List.range n).any (fun k => instUsed k s && instStage k s == st && sinkKind k s == 2
        && sinkGroup k s == sinkGroup n s)), Reg.STI_SINK n),
     (leg && sel == 3 && decide ((grp.length : Int) * 4 < (sum - 2 ^ 30).natAbs), Reg.STI_LEGW n),
     (!setValid n 0 s, Reg.STI_CTL n 0)] ++
    (List.range 4).map (fun k => (setValid n k s && setPoleBad n k s, Reg.STI_A1 n k)) ++ pairs

/-- L_s ≤ CDL ≤ the control tick, on a Stage with instances (R102); the control tick is the period of its one slot. -/
def stitchChecks (st : Nat) (tick : Option Nat) (s : State) : List Chk :=
  if (instsOf st s).isEmpty then []
  else
    let cdl := fl (Reg.STI_SCFG st) Reg.STI_SCFG_CDL s
    [(decide (cdl < lBound st 4 s) || (match tick with
      | some t => decide (t < cdl)
      | none => true), Reg.STI_SCFG st)]

/-! Pulses (R139-R146). -/

/-- T_short of a carrier under a set, in eu: numerator and denominator (R145). -/
def tShort (c k : Nat) (s : State) : Nat × Nat :=
  let w := rdW (Reg.PGN_KMODE c k) s
  let p := if fldGet Reg.PGN_KMODE_FOLLOW w != 0 then fldGet Reg.PGN_KMODE_PARENT w else c
  let v := rdW (Reg.PGN_KMODE p k) s
  let damp := if fldGet Reg.PGN_KMODE_DMODE v = 0 then 0 else fl (Reg.PGN_KDITH p k) Reg.PGN_KDITH_DAMP s
  if fldGet Reg.PGN_KMODE_BASIS v = 0 then ((65536 - damp) * rd (Reg.PGN_KPER p k) s, 65536)
  else ((65536 - damp) * 2 ^ 52, 65536 * max 1 (rd (Reg.PGN_KPER p k) s % 2 ^ 16 * fmaxOf (carStage c s) s))

/-- The sets of a carrier that the image makes usable. -/
def setsOf (c : Nat) (s : State) : List Nat := (List.range 4).filter (fun k => on (Reg.PGN_KMODE c k) Reg.PGN_KMODE_VALID s)

/-- A carrier's sets (R139-R145, R171): each usable set of a carrier in use, and what the image writes of any other. -/
def carChecks (c : Nat) (written : Nat → Bool) (s : State) : List Chk :=
    (carUsed c s && !(setsOf c s).contains 0, Reg.PGN_KMODE c 0) :: (List.range 4).flatMap (fun k =>
      let live := carUsed c s && (setsOf c s).contains k
      let w := rdW (Reg.PGN_KMODE c k) s
      let p := fldGet Reg.PGN_KMODE_PARENT w
      let shape := fldGet Reg.PGN_KMODE_SHAPE w
      let load := fldGet Reg.PGN_KMODE_LOAD w
      let foll := fldGet Reg.PGN_KMODE_FOLLOW w != 0
      let per := rd (Reg.PGN_KPER c k) s
      [(((live || written (Reg.PGN_KMODE c k))
          && (shape == 3 || load == 0 || (decide (1 < load) && shape != 2) || fldGet Reg.PGN_KMODE_DMODE w == 3))
        || (live && foll && (!carUsed p s || carStage p s != carStage c s || !(setsOf p s).contains k
          || on (Reg.PGN_KMODE p k) Reg.PGN_KMODE_FOLLOW s)), Reg.PGN_KMODE c k),
       (((live && !foll) || written (Reg.PGN_KPER c k))
          && (if fldGet Reg.PGN_KMODE_BASIS w = 0 then decide (per < 4000) || decide (16000000 < per)
            else per % 2 ^ 16 == 0), Reg.PGN_KPER c k),
       ((live || written (Reg.PGN_KDITH c k)) && fldGet Reg.PGN_KMODE_DMODE w == 2
          && fl (Reg.PGN_KDITH c k) Reg.PGN_KDITH_SEED s == 0, Reg.PGN_KDITH c k)])

def hbChecks (h : Nat) (s : State) : List Chk :=
  if !hbUsed h s then []
  else
    let c := hbCarrier h s
    let need := dthOf h s + dtlOf h s + 2 * minpOf h s
    let ack := rd (Reg.PGN_ACKTO h) s % 2 ^ 17
    [(!carUsed c s, Reg.PGN_HCFG h), (!rangeOk (Reg.PGN_DTH h) (rdW (Reg.PGN_DTH h) s), Reg.PGN_DTH h),
     (!rangeOk (Reg.PGN_DTL h) (rdW (Reg.PGN_DTL h) s), Reg.PGN_DTL h),
     (!rangeOk (Reg.PGN_MINP h) (rdW (Reg.PGN_MINP h) s), Reg.PGN_MINP h),
     (decide (ack < max (dthOf h s) (dtlOf h s)), Reg.PGN_ACKTO h)] ++
    (setsOf c s).map (fun k =>
      let tri := fl (Reg.PGN_KMODE c k) Reg.PGN_KMODE_SHAPE s == 2
      (decide ((tShort c k s).1 < (if tri then 2 else 1) * need * (tShort c k s).2), Reg.PGN_MINP h))

/-- PLEAD of a Stage with half-bridges (R146). -/
def pleadChecks (st : Nat) (s : State) : List Chk :=
  let hs := hbsOf st s
  let p := pleadOf st s
  let low := hs.any (fun h => !isDirect h && decide (p < rd (Reg.LLK_LEAD (h / 4)) s % 2 ^ 16 + 512))
  [(!hs.isEmpty && (decide (p < 1024) || decide (40000 < p) || low), Reg.PGN_SCFG st)]

/-! Leg links (R185, R201). -/

/-- Half-bridges of a link in use. -/
def linkHbsHere (n : Nat) (s : State) : List Nat := ((List.range 4).map (fun k => 4 * n + k)).filter (fun h => hbUsed h s)

/-- T_short of a half-bridge under each usable set of its carrier, as a fraction, and whether that set is TRI (R145). -/
def hbSets (h : Nat) (s : State) : List ((Nat × Nat) × Bool) :=
  (setsOf (hbCarrier h s) s).map (fun k =>
    (tShort (hbCarrier h s) k s, fl (Reg.PGN_KMODE (hbCarrier h s) k) Reg.PGN_KMODE_SHAPE s == 2))

/-- The smaller and the larger of two fractions with positive denominators. -/
def qMin (a b : Nat × Nat) : Nat × Nat := if a.1 * b.2 ≤ b.1 * a.2 then a else b
def qMax (a b : Nat × Nat) : Nat × Nat := if a.1 * b.2 ≤ b.1 * a.2 then b else a

/-- The shortest T_short of a half-bridge over its carrier's sets. -/
def hbShort (h : Nat) (s : State) : Nat × Nat :=
  match (hbSets h s).map (·.1) with
  | [] => (1, 1)
  | x :: t => t.foldl qMin x

/-- T_half under a set, as a fraction (R185); at least one unit of it, where MINP leaves none. -/
def tHalf (h : Nat) (x : (Nat × Nat) × Bool) (s : State) : Nat × Nat :=
  let d := if x.2 then 2 * x.1.2 else x.1.2
  (max 1 (x.1.1 - d * minpOf h s), d)

/-- c_h and k_h(X) (R185), X as a fraction: the most crossings under any set that the carrier may run (DESIGN CHOICE, log entry
155). -/
def cOf (h : Nat) (s : State) : Nat := max 1 (min (dthOf h s) (dtlOf h s) + minpOf h s)
def kOf (h : Nat) (x : Nat × Nat) (s : State) : Nat :=
  let one (y : (Nat × Nat) × Bool) : Nat :=
    let t := tHalf h y s
    min (x.1 / (x.2 * cOf h s) + 1) ((if y.2 then 2 else 3) * (x.1 * t.2 / (x.2 * t.1) + 1))
  ((hbSets h s).map one).foldl max 0

/-- The step points of k_h up to `top`, a fraction (R185). -/
def stepPoints (h : Nat) (top : Nat × Nat) (s : State) : List (Nat × Nat) :=
  (List.range (top.1 / (top.2 * cOf h s) + 1)).map (fun i => (i * cOf h s, 1)) ++ (hbSets h s).flatMap (fun y =>
    let t := tHalf h y s
    (List.range (top.1 * t.2 / (top.2 * t.1) + 1)).map (fun i => (i * t.1, t.2)))

/-- The demand test of a link on first copies (R185), in tenths of an eu. -/
def linkAdmitted (n : Nat) (s : State) : Bool :=
  let hs := linkHbsHere n s
  let room : Int := (rd (Reg.LLK_LEAD n) s % 2 ^ 16 : Nat) - (rd (Reg.LLK_DMAX n) s % 2 ^ 16 : Nat) - 512
  let long := (hs.flatMap (fun h => (hbSets h s).map (·.1))).foldl qMax (0, 1)
  let top := qMul 4 long
  ((0, 1) :: hs.flatMap (fun h => stepPoints h top s)).all (fun x =>
      decide (((hs.foldl (fun a h => a + 2 * kOf h x s) 0 * 4608 * x.2 : Nat) : Int) ≤ 10 * ((x.1 : Int) + room * x.2)))
    && qLe (qSum (hs.map (fun h => (4 * 4608 * (hbShort h s).2, 10 * max 1 (hbShort h s).1)))) 1 2

def linkChecks (n : Nat) (s : State) : List Chk :=
  let ben := maskOf ((List.range 4).filter (fun k => hbUsed (4 * n + k) s))
  let used := on (Reg.LLK_LCFG n) Reg.LLK_LCFG_ENABLE s
  let edges := (List.range 4).map (fun k => rd (Reg.LLK_BINLO n) s / 256 ^ k % 256)
    ++ (List.range 3).map (fun k => rd (Reg.LLK_BINHI n) s / 256 ^ k % 256)
  let bad := fl (Reg.LLK_LCFG n) Reg.LLK_LCFG_HBEN s != ben
  if !used then [(bad || ben != 0, Reg.LLK_LCFG n)]
  else
    [(bad, Reg.LLK_LCFG n),
     (!(edges.zip (edges.drop 1)).all (fun p => decide (p.1 < p.2)), Reg.LLK_BINLO n),
     (decide (rd (Reg.LLK_LEAD n) s % 2 ^ 16 < rd (Reg.LLK_DMAX n) s % 2 ^ 16 + 1024) || !linkAdmitted n s, Reg.LLK_LEAD n)]

/-! Events and protection (R205, R226, R229, R237). -/

def eventChecks (s : State) : List Chk :=
  let size := 16 * 2 ^ (rd Reg.EVT_RSIZE s % 32)
  [(!rangeOk Reg.EVT_RSIZE (rdW Reg.EVT_RSIZE s), Reg.EVT_RSIZE),
   (rd Reg.EVT_RBASE s % size != 0 || !inData (rd Reg.EVT_RBASE s) size, Reg.EVT_RBASE)]

def protectChecks (written : Nat → Bool) (s : State) : List Chk :=
  let warn := fl Reg.PRT_TEMPCFG Reg.PRT_TEMPCFG_TWARN s
  let top := fl Reg.PRT_TEMPCFG Reg.PRT_TEMPCFG_TMAX s
  (written Reg.PRT_TEMPCFG && decide (top ≤ warn), Reg.PRT_TEMPCFG) ::
  (List.range 48).flatMap (fun c =>
    let mode := fl (Reg.PRT_CCFG c) Reg.PRT_CCFG_MODE s
    let hb := fl (Reg.PRT_CCFG c) Reg.PRT_CCFG_HB s
    [(mode != 0 && decide (103 < hb), Reg.PRT_CCFG c),
     ((mode != 0 || written (Reg.PRT_CTHR c) || written (Reg.PRT_CCFG c)) && decide (fl (Reg.PRT_CTHR c) Reg.PRT_CTHR_VHI s
        ≤ fl (Reg.PRT_CTHR c) Reg.PRT_CTHR_VLO s + 2 * fl (Reg.PRT_CCFG c) Reg.PRT_CCFG_HYST s), Reg.PRT_CTHR c),
     (mode == 2 && decide (minpOf hb s ≤ rd (Reg.PRT_CBLANK c) s % 2 ^ 15), Reg.PRT_CBLANK c)])

/-! Measurement banks (R242). -/

def entryChecks (b e : Nat) (written : Nat → Bool) (s : State) : List Chk :=
  let n := entNin b e s
  let ins := (List.range n).map (fun i => entIn b e i s)
  let sts := (List.range n).map (fun i => entStream b e i s)
  let cnt := entCount b e s
  let code (a k : Nat) : Bool := written a && decide (11 < rd a s / 2 ^ (16 * k) % 32) && decide (rd a s / 2 ^ (16 * k) % 32 < 16)
  let words := [Reg.ADC_SEQ_B b e, Reg.ADC_SEQ_C b e].map (fun a => (code a 0 || code a 1, a))
  if !written (Reg.ADC_SEQ_A b e) then words
  else
    [(decide (1 < fl (Reg.ADC_SEQ_A b e) Reg.ADC_SEQ_A_MODE s) || (entIntlv b e s && n != 1)
        || (entAvg b e s && !(List.range 9).any (fun k => cnt == 2 ^ k)), Reg.ADC_SEQ_A b e),
     (ins.any (fun c => decide (11 < c) && decide (c < 16)) || sts.eraseDups.length != n, Reg.ADC_SEQ_B b e)] ++ words

/-- A diagnostic channel in the tables of two banks; an entry that the image leaves out names bank input 0 alone. -/
def diagChecks (s : State) : List Chk :=
  let used (b : Nat) : List Nat := (List.range 32).flatMap (fun e =>
    ((List.range (entNin b e s)).map (fun i => entIn b e i s)).filter (fun c => decide (16 ≤ c)))
  (List.range 4).map (fun b => ((used b).any (fun c => (List.range b).any (fun a => (used a).contains c)), Reg.ADC_SEQ_B b 0))

/-! The Rinse chain (R261-R276). -/

/-- Growth of a response in bits (R263). -/
def growthOf (code : Nat) : Nat :=
  match cicOf code with
  | some (k, r) => k * Nat.log2 r
  | none => 0

/-- G_net (R264). -/
def gNet (l : Nat) (s : State) : Int :=
  (List.range (laneStages l s)).foldl (fun a i => a + (growthOf (stageCode l i s) : Int) - stageShift l i s) 0

/-- Outputs of a lane per eu, at FMAX in ANGLE mode. -/
def laneRate (l : Nat) (s : State) : Nat × Nat :=
  match laneMode l s with
  | 1 => (laneGridN l s * fmaxOf (laneStage l s) s, 2 ^ 52)
  | 2 => (1, max 1 (laneGridN l s))
  | _ => (1, max 1 (rd (Reg.RNS_ISPC l) s * decBefore l (laneStages l s) s))

/-- Multiply-accumulates per eu of a lane (R265). -/
def laneLoad (l : Nat) (s : State) : Nat × Nat :=
  let sp := max 1 (rd (Reg.RNS_ISPC l) s)
  let stg (i : Nat) : Nat × Nat :=
    let c := stageCode l i s
    match cicOf c with
    | some (k, _) => (k, sp * decBefore l i s)
    | none => if c = 0 then (0, 1) else (ceilDiv (respSettle c + 1) 2, sp * decBefore l (i + 1) s)
  qAdd (qSum ((List.range (laneStages l s)).map stg)) (if laneMode l s = 0 then (0, 1) else qMul 16 (laneRate l s))

def lanesUsed (s : State) : List Nat := (List.range 64).filter (fun l => laneUsed l s)
def rinseLoad (ls : List Nat) (s : State) : Nat × Nat := qSum (ls.map (fun l => laneLoad l s))

def laneChecks (l : Nat) (written : Nat → Bool) (s : State) : List Chk :=
  let n := laneStages l s
  let sp := rd (Reg.RNS_ISPC l) s
  let mode := laneMode l s
  let per := rd (Reg.RNS_RPER l) s
  let size := 16 * 2 ^ fl (Reg.RNS_RCFG l) Reg.RNS_RCFG_RSIZE s
  let rs := fl (Reg.RNS_RCFG l) Reg.RNS_RCFG_RSIZE s
  let ring := on (Reg.RNS_RCFG l) Reg.RNS_RCFG_WREN s
  let perBad := (mode == 1 && (decide (per % 2 ^ 13 < 63))) || (mode == 2 && decide (per < 160))
  if !laneUsed l s then
    [(written (Reg.RNS_LCFG l) && (n == 0 || decide (5 < n) || mode == 3), Reg.RNS_LCFG l),
     ((List.range (min n 3)).any (fun i => stageCode l i s == 31), Reg.RNS_STGA l),
     ((List.range n).any (fun i => decide (3 ≤ i) && stageCode l i s == 31), Reg.RNS_STGB l),
     (written (Reg.RNS_ISPC l) && decide (sp < 80), Reg.RNS_ISPC l),
     (written (Reg.RNS_RPER l) && perBad, Reg.RNS_RPER l),
     (written (Reg.RNS_RPH l) && mode == 2 && decide (per ≤ rd (Reg.RNS_RPH l) s), Reg.RNS_RPH l),
     (written (Reg.RNS_RCFG l) && (decide (rs < 4) || decide (16 < rs)), Reg.RNS_RCFG l)]
  else
    [(n == 0 || decide (5 < n) || mode == 3, Reg.RNS_LCFG l),
     ((List.range (min n 3)).any (fun i => stageCode l i s == 31) || decide (4 < gNet l s) || decide (gNet l s < -8),
      Reg.RNS_STGA l),
     ((List.range n).any (fun i => decide (3 ≤ i) && stageCode l i s == 31), Reg.RNS_STGB l),
     (decide (sp < 80), Reg.RNS_ISPC l),
     (perBad, Reg.RNS_RPER l),
     (mode == 2 && decide (per ≤ rd (Reg.RNS_RPH l) s), Reg.RNS_RPH l),
     (decide (rd (Reg.RNS_RDLY l) s % 2 ^ 24 < minDly l sp false s), Reg.RNS_RDLY l),
     ((ring || written (Reg.RNS_RCFG l)) && (decide (rs < 4) || decide (16 < rs)), Reg.RNS_RCFG l),
     (ring && (rd (Reg.RNS_RBASE l) s % size != 0 || !inData (rd (Reg.RNS_RBASE l) s) size), Reg.RNS_RBASE l)]

def rinseChecks (written : Nat → Bool) (s : State) : List Chk :=
  let ls := lanesUsed s
  (List.range 64).flatMap (fun l => laneChecks l written s) ++
    ls.map (fun l => (!qLe (rinseLoad (ls.filter (fun k => decide (k ≤ l))) s) 9 10, Reg.RNS_LCFG l))

/-! The Hamper and memory (R284, R287, R298). -/

/-- Entries of a sequence from `e` on; none where it loops. -/
def seqChain (b : Nat) : Nat → List Nat → Nat → State → Option (List Nat)
  | 0, _, _, _ => none
  | fuel + 1, seen, e, s =>
    if seen.contains e then none
    else if entEnd b e s then some (seen ++ [e])
    else seqChain b fuel (seen ++ [e]) (entNext b e s) s

/-- Entries of a sequence, each once. -/
def seqEntries (b : Nat) : Nat → List Nat → Nat → State → List Nat
  | 0, seen, _, _ => seen
  | fuel + 1, seen, e, s =>
    if seen.contains e then seen
    else if entEnd b e s then seen ++ [e]
    else seqEntries b fuel (seen ++ [e]) (entNext b e s) s

/-- Samples that one pass through an entry gives a raw stream, with four active slices (R239, R243). -/
def entSamples (b e r : Nat) (s : State) : Nat :=
  if (List.range (entNin b e s)).any (fun i => entStream b e i s == r && decide (entIn b e i s < 32)) then
    (if entAvg b e s then 1 else entCount b e s * (if entIntlv b e s then 4 else 1))
  else 0

/-- FCLK that an entry's rounds take in a loop. -/
def entTime (b e : Nat) (s : State) : Nat :=
  let i := entIntlv b e s
  (entCount b e s) * (if i then 20 else roundLen false i (entNin b e s))

/-- Firings of a slot per eu, at FMAX on an AT basis. -/
def slotRate (x : Slot) (s : State) : Nat × Nat :=
  if slOne x then (0, 1)
  else if slLt x then (1, max 1 (16 * slPeriod x))
  else (slN x * fmaxOf (slStage x) s, slM x * 2 ^ 52)

/-- Samples of a raw stream per eu: what its bank's START_ADC slots start; a looping sequence gives what one turn gives per
its length. -/
def rawRate (r : Nat) (slots : List Slot) (s : State) : Nat × Nat :=
  let b := r / 16
  qSum ((slots.filter (fun x => slAction x == actAdc && slTarget x == b)).map (fun x =>
    let e := slArg x % 32
    let l := seqEntries b 32 [] e s
    let k := l.foldl (fun a e => a + entSamples b e r s) 0
    match seqChain b 32 [] e s with
    | some _ => qMul k (slotRate x s)
    | none => (k, max 1 (16 * l.foldl (fun a e => a + entTime b e s) 0))))

/-- Bytes per eu of a Hamper channel (R287). -/
def chDemand (c : Nat) (slots : List Slot) (s : State) : Nat × Nat :=
  qMul (chRec c s) (if chRaw c s then rawRate (chSrc c s) slots s else laneRate (chSrc c s) s)

def chBase (c : Nat) (s : State) : Nat := rd (Reg.HMP_CBASE c) s
def chSize (c : Nat) (s : State) : Nat := 2 ^ fl (Reg.HMP_CCFG c) Reg.HMP_CCFG_RSZ s
def chDram (c : Nat) (s : State) : Bool := decide (dramBase ≤ chBase c s)

/-- Demand into Hamper SRAM or DRAM. -/
def hmpDemand (dram : Bool) (slots : List Slot) (s : State) : Nat × Nat :=
  qSum (((chans s).filter (fun c => chDram c s == dram)).map (fun c => chDemand c slots s))

def hamperChecks (slots : List Slot) (written : Nat → Bool) (s : State) : List Chk :=
  ((List.range 64).filter (fun c => !chUsed c s)).flatMap (fun c =>
    [(written (Reg.HMP_CCFG c) && decide (fl (Reg.HMP_CCFG c) Reg.HMP_CCFG_RSZ s < 12), Reg.HMP_CCFG c),
     (written (Reg.HMP_CPOST c) && rd (Reg.HMP_CPOST c) s == 0, Reg.HMP_CPOST c)]) ++
  (chans s).flatMap (fun c =>
    let a := chBase c s
    let n := chSize c s
    let rs := fl (Reg.HMP_CCFG c) Reg.HMP_CCFG_RSZ s
    [(decide (rs < 12), Reg.HMP_CCFG c),
     (a % n != 0 || !(inHamp a n || inRange dramBase (dramSize s) a n)
        || (chans s).any (fun d => decide (d < c) && decide (chBase d s < a + n) && decide (a < chBase d s + chSize d s)),
      Reg.HMP_CBASE c),
     (decide (chRing c s < rd (Reg.HMP_CPRE c) s + rd (Reg.HMP_CPOST c) s + 64), Reg.HMP_CPRE c),
     (rd (Reg.HMP_CPOST c) s == 0, Reg.HMP_CPOST c)]) ++
  [(!qLe (hmpDemand false slots s) 1 4, Reg.HMP_CCFG ((chans s).headD 0)),
   (!qLe (hmpDemand true slots s) (fl Reg.MEM_DRAMCFG Reg.MEM_DRAMCFG_HMPSHARE s * 2500) (100 * 8000),
    Reg.HMP_CCFG ((chans s).headD 0)),
   (decide (80 < fl Reg.MEM_DRAMCFG Reg.MEM_DRAMCFG_HMPSHARE s + fl Reg.MEM_DRAMCFG Reg.MEM_DRAMCFG_DMASHARE s), Reg.MEM_DRAMCFG)]

/-! DMA (R305, R313). -/

/-- DMA port 0 and its target classes. -/
def reqDma0 : Nat := 2
/-- The targets of a ring's bursts: source and destination. -/
def ringTargets (r : Nat) : Nat × Nat := ((Config.dmaTargets r).1 % 5, (Config.dmaTargets r).2 % 5)

def maxLenOf (r : Nat) (s : State) : Nat := rd (Reg.DMA_RMAXLEN r) s % 2 ^ 25
def minIvOf (r : Nat) (s : State) : Nat := rd (Reg.DMA_RMINIV r) s
def rdlOf (r : Nat) (s : State) : Nat := rd (Reg.DMA_RDL r) s % 2 ^ 24

/-- C_r (R313). -/
def ringCost (r : Nat) (s : State) : Nat :=
  let w (t : Nat) : Nat := waitBound reqDma0 t s + burstLen t
  let n := ceilDiv (maxLenOf r s) 64 + 1
  2 * w 1 + n * w (ringTargets r).1 + n * w (ringTargets r).2 + w (ringTargets r).2 + 16

def deadlineRings (s : State) : List Nat := (List.range 16).filter (fun r => ringUsed r s && ringDeadline r s)

/-- D_r less what the first test of R313 sums. -/
def ringSlack (r : Nat) (s : State) : Int :=
  let others := (deadlineRings s).filter (fun q => q != r)
  (rdlOf r s : Int) - (ringCost r s + others.foldl (fun a q => a + (ceilDiv (rdlOf r s) (max 1 (minIvOf q s)) + 1) * ringCost q s) 0 : Nat)

/-- DRAM bytes of the deadline rings per FCLK (R313). -/
def dmaDram (s : State) : Nat × Nat :=
  qSum ((deadlineRings s).map (fun r =>
    let n := ceilDiv (maxLenOf r s) 64 + 1
    let k := (if (ringTargets r).1 = tgtDram then n else 0) + (if (ringTargets r).2 = tgtDram then n + 1 else 0)
    (64 * k, max 1 (minIvOf r s))))

/-- The rings (R305, R313, R318): each in use, and the configuration that the image writes of any other. -/
def dmaChecks (written : Nat → Bool) (s : State) : List Chk :=
  ((List.range 16).filter (fun r => !ringUsed r s && written (Reg.DMA_RCFG r))).map (fun r =>
    let rs := fl (Reg.DMA_RCFG r) Reg.DMA_RCFG_RSZ s
    (rs == 0 || decide (8 < rs) || (ringDeadline r s && !ringHe r s), Reg.DMA_RCFG r)) ++
  ((List.range 16).filter (fun r => ringUsed r s)).flatMap (fun r =>
    let rs := fl (Reg.DMA_RCFG r) Reg.DMA_RCFG_RSZ s
    let size := 32 * 2 ^ rs
    let dl := ringDeadline r s
    [(rs == 0 || decide (8 < rs) || (dl && !ringHe r s), Reg.DMA_RCFG r),
     (rd (Reg.DMA_RBASE r) s % size != 0 || !inData (rd (Reg.DMA_RBASE r) s) size, Reg.DMA_RBASE r),
     (dl && (decide (rdlOf r s < 16) || decide (minIvOf r s < rdlOf r s) || decide (ringSlack r s < 0)), Reg.DMA_RDL r),
     (dl && decide (65536 < maxLenOf r s), Reg.DMA_RMAXLEN r)]) ++
  [(!qLe (dmaDram s) (fl Reg.MEM_DRAMCFG Reg.MEM_DRAMCFG_DMASHARE s * 5) 100, Reg.MEM_DRAMCFG)]

/-! The cycle program (R321, R325, R450). -/

/-- The GPIOs that are outputs (R450). -/
def gpioOutputs (s : State) : List Nat :=
  (List.range 32).filter (fun g => bitAt Reg.TCK_GPIOOWN g s
    || stages4.any (fun st => hasDrum st s && on (Reg.DRM_BRKCFG st) Reg.DRM_BRKCFG_CLOSEEN s
        && fl (Reg.DRM_BRKCFG st) Reg.DRM_BRKCFG_CLOSEGPIO s == g)
    || s.cyc.prog.outs.any (fun p => p.2.any (fun e => e.1 == .gpio g)))

def cycleChecks (s : State) : List Chk :=
  let outs := gpioOutputs s
  let ins := s.cyc.prog.ins.any (fun p => p.2.any (fun e => match e.1 with
    | .gpio g => outs.contains g
    | _ => false))
  let retain := (segsOf s).any (fun g => g.kind == .retain && !inRange retainBase 0x20000 g.base g.len)
  let long := (s.cyc.prog.ins.any (fun p => 256 < p.2.length)) || s.cyc.prog.outs.any (fun p => 256 < p.2.length)
  (retain || ins || long, Reg.CYC_CFG) ::
  ((List.range 16).map (fun t => (decide (rd (Reg.CYC_TDL t) s % 2 ^ 24 < rd (Reg.CYC_TWCET t) s % 2 ^ 24), Reg.CYC_TWCET t)) ++
   stages4.map (fun st => (hasDrum st s && outs.contains (fl (Reg.DRM_BRKCFG st) Reg.DRM_BRKCFG_FBGPIO s), Reg.DRM_BRKCFG st)))

/-! Span ports and the pair (R352, R369, R370). -/

/-- The longest wire time of an entry: the hardware's own frames by their length, else a full payload (R341). -/
def entWire (e : Nat) (s : State) : Nat :=
  let k := enKind e s
  wireNs (if k = 3 || k = 4 || k = 5 || k = 6 then (enPayload e k s).length else 1488)

/-- The span ports (R352, R369): the enabled entries always, the receive ring where a port is used or the image writes it. -/
def spanChecks (written : Nat → Bool) (s : State) : List Chk :=
  let used := (List.range 4).any (fun p => spanRole p s != 0)
  let free := rd Reg.SPN_FREE s % 2 ^ 24
  let hmax := rd Reg.SPN_CCYC s / 2 ^ 24
  let es := (List.range 256).filter (fun e => enOn e s)
  let sched := es.filter (fun e => !enBe e s)
  let rx := 2048 * 2 ^ (rd Reg.SPN_RXCFG s % 16)
  let claim (a b : Nat) : Bool := (enKind a s == 3 && enKind b s == 4) || (enKind a s == 4 && enKind b s == 3)
  [(used && !rangeOk Reg.SPN_CCYC (rdW Reg.SPN_CCYC s), Reg.SPN_CCYC),
     (decide (1000 * (rd Reg.SPN_CCYC s % 2 ^ 17) ≤ 16 * free), Reg.SPN_FREE),
     (used && !rangeOk Reg.SPN_RXCFG (rdW Reg.SPN_RXCFG s), Reg.SPN_RXCFG),
     ((used || written Reg.SPN_RXBASE) && (rd Reg.SPN_RXBASE s % rx != 0 || !inData (rd Reg.SPN_RXBASE s) rx),
      Reg.SPN_RXBASE)] ++
    sched.map (fun e => (decide (16 * free < enEnd e s + hmax * 1400 + entWire e s)
      || sched.any (fun d => decide (d < e) && (enPorts e s).any (fun p => (enPorts d s).contains p) && !claim d e
        && decide (enStart e s < enEnd d s) && decide (enStart d s < enEnd e s)), Reg.SPN_EW e 2)) ++
    es.map (fun e => (enKind e s == 6 && decide (120 < enBuf e s / 256 % 256), Reg.SPN_EW e 3)) ++
    es.map (fun e => ((decide (enKind e s < 3) || decide (6 < enKind e s)) && (enBuf e s % 8 != 0 || !inData (enBuf e s) 1496), Reg.SPN_EW e 3))

/-- A paired image (R370); `other`: UNIT and PRIMARY of the other unit, as the image identity recorded for it gives them. -/
def pairChecks (tos : List (Nat × Nat × Nat)) (other : Bool × Bool) (s : State) : List Chk :=
  if !paired s then []
  else
    (on Reg.PAR_CFG Reg.PAR_CFG_UNIT s == other.1 || on Reg.PAR_CFG Reg.PAR_CFG_PRIMARY s == other.2, Reg.PAR_CFG) ::
    (List.range 8).map (fun k => (hbUsed (96 + k) s, Reg.PGN_HCFG (96 + k))) ++
    tos.map (fun t => ((tos.headD t).2 != t.2, Reg.DRM_CFG t.1)) ++
    [(tos.any (fun t => t.1 == fl Reg.PAR_CFG Reg.PAR_CFG_CSTAGE s && decide (t.2.1 < 5000)), Reg.PAR_CFG)]

/-! Safety, clocks and supplies (R394-R396, R404, R405, R411, R420, R433, R437, R438). -/

/-- T_B without the TSTOP term, in 0.01 µs, and 1.05 × TSTOP in 0.01 ms (R405). -/
def respB (n : Nat) (s : State) : Nat :=
  let m := if safFunc n s = 5 then 0 else rd Reg.SAF_TP s / 2 ^ 10 % 2 ^ 10 + rd Reg.SAF_TP s / 2 ^ 20 % 2 ^ 8
  105 * (m + 20 * fl (Reg.SAF_PTIME n) Reg.SAF_PTIME_TFILT s) + 2500
def stopTerm (n : Nat) (s : State) : Nat :=
  if safFunc n s = 2 then 105 * fl (Reg.SAF_PTIME n) Reg.SAF_PTIME_TSTOP s else 0

def safetyChecks (test : Bool) (s : State) : List Chk :=
  (!bitAt Reg.SAF_CFG 0 s && !test, Reg.SAF_CFG) ::
  (List.range 8).flatMap (fun n =>
    let f := safFunc n s
    let stop := fl (Reg.SAF_PTIME n) Reg.SAF_PTIME_TSTOP s
    let anti (k : Nat) : Bool := on (Reg.SAF_PCFG k) Reg.SAF_PCFG_CMODE s
    [(((f == 1 || f == 2) && on (Reg.SAF_PCFG n) Reg.SAF_PCFG_RESET s)
        || (f == 4 && (!anti n || safFunc (if n % 2 = 0 then n + 1 else n - 1) s != 4)), Reg.SAF_PCFG n),
     (f == 2 && (decide (stop < 10) || decide (4000 < stop)), Reg.SAF_PTIME n),
     (safStop n s && decide (200000 < respB n s), Reg.SAF_PCFG n)])

/-- The references and the clock outputs (R411, R419, R420), in use or written by the image. -/
def clockChecks (written : Nat → Bool) (s : State) : List Chk :=
  (List.range 16).map (fun k =>
    let src := fl (Reg.CLK_CKEY k) Reg.CLK_CKEY_SRC s
    let f := fl (Reg.CLK_CKEY k) Reg.CLK_CKEY_FREQ s
    ((on (Reg.CLK_CKEY k) Reg.CLK_CKEY_EN s || written (Reg.CLK_CKEY k)) && !(if src = 0 then f == 25000
      else if src = 1 then decide (10000 ≤ f) && decide (f ≤ 100000) else f == 125000), Reg.CLK_CKEY k)) ++
  (List.range 6).map (fun n =>
    let w := rd (Reg.CLK_OCFG n) s
    let fmt := w / 2 % 4
    let src := w / 8 % 4
    let div := w / 32 % 2 ^ 13
    let pw := w / 2 ^ 18 % 2 ^ 10
    ((w % 2 == 1 || written (Reg.CLK_OCFG n)) && ((src == 0 && (decide (div < 8) || decide (4096 < div) || (fmt == 3 && decide (div < 32))
        || (fmt == 2 && decide (div < 20)))) || (src == 2 && (pw == 0 || decide (1000 < pw)))), Reg.CLK_OCFG n))

/-- TSV in µs (R433). -/
def tsvOf (s : State) : Nat :=
  let page := 2 ^ (rd Reg.PWR_FLASH s / 2 ^ 12 % 16)
  (ceilDiv (match retainSeg s with
    | some g => g.len
    | none => 0) page + 1) * (rd Reg.PWR_FLASH s % 2 ^ 12)

/-- The NVM map and the supplies (R433, R437, R438); `map`: the image gives the map. -/
def supplyChecks (imgLen : Nat) (map : Bool) (s : State) : List Chk :=
  let tpp := rd Reg.PWR_FLASH s % 2 ^ 12
  let page := rd Reg.PWR_FLASH s / 2 ^ 12 % 16
  let tj := rd Reg.PWR_TJCFG s
  let sec := Config.sectorBytes
  let bad (a : Nat) : Bool := decide (rd a s < imgLen) || rd a s % sec != 0
  (decide (tj / 256 % 256 ≤ tj % 256), Reg.PWR_TJCFG) ::
  (rd Reg.PWR_USRSIZE s != 0 && (rd Reg.PWR_USRBASE s % sec != 0 || rd Reg.PWR_USRSIZE s % sec != 0
    || decide (rd Reg.PWR_USRBASE s < imgLen)), Reg.PWR_USRBASE) ::
  (if !hasSectors s && !map then []
   else
    [(hasSectors s && bad Reg.PWR_SECTA, Reg.PWR_SECTA), (hasSectors s && bad Reg.PWR_SECTB, Reg.PWR_SECTB),
     (decide (tpp < 2) || decide (page < 8) || decide (10 < page), Reg.PWR_FLASH),
     (decide (1000 * (rd Reg.PWR_SAVECFG s % 32) < tsvOf s + tpp + 200), Reg.PWR_SAVECFG)])

end Sys2Proof.Machine
end

