-- ==== Sys2Proof/Machine/Loader.lean ====
section
/-! DEFINITION. Configuration completion (R424): the value checks (R430 cause 0x0B), Tack admission (cause 0x0C), and the one
FCLK in which every field and slot takes effect. -/

namespace Sys2Proof.Machine

/-! The image's slots. -/

/-- Valid slots of the image, by number. -/
def imValid (img : List Nat) : Tbl Slot := (imSlots img).filter (fun p => slValid p.2)

/-- The period of the one slot that carries an action for a Stage; none where there is not exactly one. -/
def stageSlot (img : List Nat) (act st : Nat) : Option Nat :=
  match (imValid img).filter (fun p => slAction p.2 == act && slTarget p.2 == st) with
  | [p] => some (slPeriod p.2)
  | _ => none

/-- What a SEGTAB section says; an image without one has no program. -/
def programOf (b : List Nat) : Program := if b.isEmpty then ⟨[], [], []⟩ else Config.program b

/-- A counter of the image outside N 1-255 or W 1 ms-1,000 s (R211); it is reported at EVT_UCSEL (DESIGN CHOICE, log entry 183). -/
def counterBad (img : List Nat) : Bool := (Config.counters img).any (fun p =>
  p.2.1 == 0 || decide (255 < p.2.1) || decide (p.2.2 < 1000) || decide (1000000000 < p.2.2))

/-- Every combination of values (cause 0x0B), in the order of the chapters. -/
def allChecks (img : List Nat) (s : State) : List Chk :=
  let w := imStaged img
  let written (a : Nat) : Bool := w.any (fun p => p.1 == a)
  let slots := (imValid img).map (·.2)
  let tos := (stages4.filter (fun st => hasDrum st s)).filterMap (fun st =>
    ((imValid img).find? (fun p => slAction p.2 == actDrum && slTarget p.2 == st)).map (fun p => (st, slPeriod p.2, slPhase p.2)))
  stages4.flatMap (fun st => angleChecks st s) ++ noAngleChecks s ++
  stages4.flatMap (fun st => drumChecks st (stageSlot img actDrum st) written s) ++
  (List.range 128).flatMap (fun n => instChecks n written s) ++
  stages4.flatMap (fun st => stitchChecks st (stageSlot img actStitch st) s) ++
  (List.range 16).flatMap (fun c => carChecks c written s) ++ (List.range 104).flatMap (fun h => hbChecks h s) ++
  stages4.flatMap (fun st => pleadChecks st s) ++ (List.range 24).flatMap (fun n => linkChecks n s) ++
  (counterBad img, Reg.EVT_UCSEL) :: eventChecks s ++ protectChecks written s ++
  (List.range 4).flatMap (fun b => (List.range 32).flatMap (fun e => entryChecks b e written s)) ++ diagChecks s ++
  rinseChecks written s ++ hamperChecks slots written s ++ dmaChecks written s ++ cycleChecks s ++ spanChecks written s ++ pairChecks tos (Config.otherUnit img) s ++
  safetyChecks (imTestmode img) s ++ clockChecks written s ++
  supplyChecks (imLen img) ((imSects img).any (fun x => x.kind == secNvmmap) || written Reg.PWR_FLASH) s

/-! Tack admission (R128, R131, R245). -/

/-- FCLK from a firing to the busy end of a sequence; none for a looping one (R239, R245). -/
def seqBusy (b e : Nat) (three : Bool) (s : State) : Option Nat :=
  (seqChain b 32 [] e s).map (fun l =>
    let go := l.foldl (fun (p : Nat × Option (Bool × Nat)) e =>
      let i := entIntlv b e s
      let n := entNin b e s
      let first := match p.2 with
        | none => 4
        | some (was, m) => p.1 + roundStep (roundLen three was m) was i
      (first + (entCount b e s - 1) * roundStep (roundLen three i n) i i, some (i, n))) (0, none)
    match go.2 with
    | some (i, n) => go.1 + busyLen three i n
    | none => 0)

/-- Protected normal START_ADC slots of a bank (R245). -/
def adcSlots (b : Nat) (l : Tbl Slot) : Tbl Slot :=
  l.filter (fun p => slAction p.2 == actAdc && slTarget p.2 == b && slProt p.2 && !(slArg p.2).testBit 8)

/-- Due points of an AT slot over `c` cycles. -/
def atDues (x : Slot) (c : Nat) : List Nat :=
  let go (p : List Nat × Nat) : List Nat × Nat :=
    match slotDueFrom x p.2 with
    | some d => if d < c * 2 ^ 32 then (p.1 ++ [d], d + 1) else (p.1, c * 2 ^ 32)
    | none => p
  ((List.range (c * slN x)).foldl (fun p _ => go p) ([], 0)).1

/-- The least distance in eu from an occurrence of the LT slot `x` to the next one of `y` (of itself, where `same`); a one-shot
occurs once (log entry 159). -/
def dueGapLt (same : Bool) (x y : Slot) : Option Nat :=
  let p (z : Slot) : Nat := fclk * slPeriod z
  let ahead (g : Nat) : Nat := (slPhase y % g + g - slPhase x % g) % g
  match slOne x, slOne y with
  | true, true => if same || slPhase y < slPhase x then none else some (slPhase y - slPhase x)
  | true, false => some (ahead (p y))
  | false, true => some (ahead (p x))
  | false, false => some (if same then p x else ahead (Nat.gcd (p x) (p y)))

/-- The least distance in a-counts from an occurrence of the AT slot `x`, whose pattern repeats in `c` cycles, to the next one of
`y`. -/
def dueGapAt (same : Bool) (c : Nat) (x y : Slot) : Option Nat :=
  let to_ (d : Nat) : Option Nat := (slotDueFrom y (if same then d + 1 else d)).map (· - d)
  let least (l : List Nat) : Option Nat := l.foldl (fun a d => match a with
    | none => some d
    | some k => some (min k d)) none
  match slOne x, slOne y with
  | true, true => if same || slPhase y < slPhase x then none else some (slPhase y - slPhase x)
  | true, false => to_ (slPhase x)
  | false, true => least ((atDues x c).map (fun d => (slPhase y % (c * 2 ^ 32) + c * 2 ^ 32 - d) % (c * 2 ^ 32)))
  | false, false => least ((atDues x c).filterMap to_)

/-- The smallest spacing of a slot's occurrences in FCLK; none where no occurrence follows (R245). -/
def slotSpacing (n : Nat) (x : Slot) (l : Tbl Slot) (s : State) : Option Nat :=
  let c := l.foldl (fun a p => Nat.lcm a (if slOne p.2 then 1 else slM p.2)) 1
  (l.filterMap (fun p =>
    if slLt x then (dueGapLt (p.1 == n) x p.2).map (· / fclk)
    else (dueGapAt (p.1 == n) c x p.2).map (fun d => d * 2 ^ 16 / max 1 (fmaxOf (slStage x) s)))).min?

/-- The margin of a slot: spacing less busy time and 8 FCLK; none for a looping sequence, or where nothing follows. -/
def slotMargin (b n : Nat) (x : Slot) (l : Tbl Slot) (three : Bool) (s : State) : Option Int :=
  match seqBusy b (slArg x % 32) three s, slotSpacing n x l s with
  | some t, some d => some ((d : Int) - (t + 8 : Nat))
  | _, _ => none

/-- The smallest margin of a bank. -/
def bankMargin (b : Nat) (l : Tbl Slot) (three : Bool) (s : State) : Option Int :=
  (adcSlots b l).foldl (fun a p =>
    match slotMargin b p.1 p.2 (adcSlots b l) three s, a with
    | some m, some k => some (min m k)
    | some m, none => some m
    | none, _ => a) none

/-- The cause of R138 that a slot's own words give a slot of the image, with R41 and R131. Its AT counts from 0 at FNOM. -/
def imageSlotBad (n : Nat) (x : Slot) (s : State) : Bool :=
  decide (4096 ≤ n) || slotBasisBad x s || slotActionBad x || slotTargetBad x s || slotPeriodBad x s || slotPhaseBad x
    || (slAction x == actDrum && decide (slPeriod x < 2500)) || slotLateFrom x 0 (fnomOf (slStage x) s) s

/-- The first slot refused (cause 0x0C): in ascending number by its words and by the loads, then by R245. -/
def slotCheck (img : List Nat) (s : State) : Option Nat :=
  let l := imValid img
  let sum (k : Nat) : Nat := (loadsOf ((l.take k).map (·.2)) s).foldl (· + ·) 0
  match (List.range l.length).find? (fun i =>
      match l.drop i with
      | p :: _ => imageSlotBad p.1 p.2 s || decide (32 < sum (i + 1))
      | [] => false) with
  | some i => (l.drop i).head?.map (·.1)
  | none =>
    ((List.range 4).flatMap (fun b => (adcSlots b l).filter (fun p =>
        slBasis p.2 != slBasis ((adcSlots b l).headD p).2
          || (match slotMargin b p.1 p.2 (adcSlots b l) false s with
            | some m => decide (m < 0)
            | none => false)))).head?.map (·.1)

/-! What the loader computes (R424; Computed of R444). -/

def drumComputed (st : Nat) (s : State) : State :=
  if !hasDrum st s then s
  else
    let to_ := outerOf st s
    let kh := khOf st to_ s
    let kaw := (roundDiv (rd (Reg.DRM_KAH st) s * 2 ^ 32 : Nat) 500000000).toNat
    let a (t : Nat) : Nat := oneMinusExp 31 to_ (500 * t)
    wr64 (Reg.DRM_KH_LO st) (Reg.DRM_KH_HI st) kh <| wr (Reg.DRM_KPD st) (kpdOf (max 1 (rd (Reg.DRM_MP st) s))) <|
      wr (Reg.DRM_AG st) (a (rd (Reg.DRM_TG st) s)) <| wr (Reg.DRM_AP st) (a (rd (Reg.DRM_TP st) s)) <|
      wr (Reg.DRM_AD st) (a (rd (Reg.DRM_TD st) s)) <| wr (Reg.DRM_KS st) (ksOf st s / 2 ^ 16).toNat <|
      wr (Reg.DRM_KAW st) kaw s

def laneComputed (l : Nat) (s : State) : State :=
  if !laneUsed l s then s
  else
    wr (Reg.RNS_SETTLE l) (laneSettle l s) (wr (Reg.RNS_MINDLY l) (minDly l (rd (Reg.RNS_ISPC l) s) false s)
      (wr (Reg.RNS_DLYUSE l) (rd (Reg.RNS_RDLY l) s % 2 ^ 24) s))

def bankComputed (b : Nat) (l : Tbl Slot) (s : State) : State :=
  let m (three : Bool) : Option Int := bankMargin b l three s
  let half (x : Option Int) : Nat := match x with
    | some m => codeOf 16 (clampI (-32768) 32767 m)
    | none => 0x7FFF
  setB (Reg.ADC_BSTAT b) Reg.ADC_BSTAT_DEG3OK (match m true with
      | some x => decide (0 ≤ x)
      | none => true)
    (wr (Reg.ADC_BMARG b) (half (m false) + 2 ^ 16 * half (m true)) s)

def safetyComputed (s : State) : State :=
  let us_ (n : Nat) : Nat := ceilDiv (respB n s) 100
  let ms_ (n : Nat) : Nat := ceilDiv (respB n s + 1000 * stopTerm n s) 100000
  let stops := (List.range 8).filter (fun n => safStop n s)
  let s := each stops (fun n s => wr (Reg.SAF_PRESP n) (us_ n % 2 ^ 12 + 2 ^ 16 * ms_ n) s) s
  wr Reg.SAF_RESP (stops.foldl (fun a n => max a (us_ n)) 0 % 2 ^ 12 + 2 ^ 16 * stops.foldl (fun a n => max a (ms_ n)) 0) s

/-- Loads of the Rinse datapath, of the Hamper and of the deadline rings. -/
def loadsComputed (slots : List Slot) (s : State) : State :=
  let r := rinseLoad (lanesUsed s) s
  let h := qAdd (hmpDemand false slots s) (hmpDemand true slots s)
  let d := dmaDram s
  let s := wr Reg.RNS_GLOAD (min 0xFFFF (r.1 * 2 ^ 16 / r.2)) (wr Reg.HMP_GLOAD (min 0xFFFFFF (h.1 * 800000 / h.2)) s)
  let s := each (deadlineRings s) (fun r s => wrI (Reg.DMA_RSLACK r) (ringSlack r s) (wr (Reg.DMA_RCOST r) (ringCost r s) s)) s
  wr Reg.DMA_GLOAD (min 255 (ceilDiv (d.1 * 20) d.2)) s

/-! The FCLK of completion. -/

/-- The records take their numbers: EV13, EV14 under test mode, then those that waited (R471). -/
def numberRecords (test : Bool) (s : State) : State :=
  let w := s.evt.queue
  let lost := s.evt.pendLoss
  let s := { s with evt := { s.evt with queue := [], pendLoss := none } }
  let s := when test (record 14 0 0 none) (record 13 0 (rd Reg.SYS_RSTCAUSE s % 16) none s)
  let n := rd Reg.EVT_NSEQ s
  let q := (w.zip (List.range w.length)).map (fun p => { p.1 with seq := (n + p.2) % 2 ^ 32 })
  let s := wr Reg.EVT_NSEQ (n + w.length) { s with evt := { s.evt with queue := s.evt.queue ++ q } }
  evtShow (match lost with
    | some (_, k) => wr Reg.EVT_NSEQ (rd Reg.EVT_NSEQ s + k) { s with evt := { s.evt with pendLoss := some (rd Reg.EVT_NSEQ s, k) } }
    | none => s)

/-- A Bobbin starts: AT 0, the word FNOM, the source INITSRC (R15, R19, R32). -/
def bobStart (img : List Nat) (st : Nat) (s : State) : State :=
  let src := fl (Reg.BOB_SRCCFG st) Reg.BOB_SRCCFG_INITSRC s
  let s := wr (Reg.BOB_SRCREQ st) src s
  if !hasAngle st s then s
  else
    let outer := match hasDrum st s, stageSlot img actDrum st with
      | true, some t => t
      | _, _ => max 1 (Config.outerTick img st)
    setWord st (fnomOf st s) (setF (Reg.BOB_STAT st) Reg.BOB_STAT_ACTSRC src
      (setBob st { BobSt.reset with outer := outer, anchors := [(s.lt, 0, fnomOf st s)] } s))

/-- A Drum starts in OFF with its integrator at the word and the image's P* in use; I_eff is I_MAX (R42, R48, R59, R91, R468).
On a Stage without one DRM_CFG reads 0 once the checks have used it (R33). -/
def drumStart (st : Nat) (s : State) : State :=
  wrW (Reg.DRM_HEMEFF st) (rdW (Reg.DRM_HEMMAX st) s)
    (if hasDrum st s then
      setDrm st { DrumSt.reset with wacc := fnomOf st s * 2 ^ 16, wout := fnomOf st s,
                                    pUse := rdI (Reg.DRM_PSET st) s } s
     else wr (Reg.DRM_CFG st) 0 s)

/-- Half-bridges in use are held with cause STAGE; instances in use are in AUTO, which TRACK covers (R108, R162). -/
def pulseStart_ (s : State) : State :=
  let s := each ((List.range 104).filter (fun h => hbUsed h s)) (fun h s =>
    setF (Reg.PGN_HSTAT h) Reg.PGN_HSTAT_HOLDCAUSE holdStage (setF (Reg.PGN_HSTAT h) Reg.PGN_HSTAT_STATE 1
      (setHb h .reset s))) s
  let s := each ((List.range 128).filter (fun n => instUsed n s)) trackIn s
  each ((List.range 16).filter (fun c => carUsed c s)) (fun c s => carShow c (carPlace c (planAt c s) (setCar c .reset s))) s

/-- Enabled links begin with SYNC, the others are unused (R179). -/
def linkStart (s : State) : State :=
  each (List.range 24) (fun n s =>
    if on (Reg.LLK_LCFG n) Reg.LLK_LCFG_ENABLE s then setLinkState n lkSync (setF (Reg.LLK_STAT n) Reg.LLK_STAT_ATTEMPT 1
      (setLnk n { LnkSt.reset with firstTry := s.lt, free := 10 * s.lt, idleAt := 10 * s.lt } s))
    else setF (Reg.LLK_STAT n) Reg.LLK_STAT_STATE lkUnused s) s

/-- Slices 0 to 3 of an enabled bank are active at their positions, the fifth is the spare, and every one starts ABS (R249, R250). -/
def bankStart (s : State) : State :=
  each ((List.range 4).filter (fun b => bankEnabled b s)) (fun b s =>
    bankShow b (each (List.range 5) (fun k s =>
      startAbs b k (wr (Reg.ADC_SSTAT b k) (if k = 4 then roleSpare else 4 * k) s)) s)) s

/-- The image's slots go into force at S = completion + 64 FCLK (R131). -/
def slotsStart (img : List Nat) (s : State) : State :=
  let at_ := switchAt s
  let s := each (imValid img) (fun p s => installSlot p.1 (some p.2) at_ s) s
  loadShow (each (stages4.filter (fun st => hasAngle st s)) (fun st s => wr (Reg.TCK_AW st) (awOf st s) s) s)

/-- The retain sectors as found: the current one is the valid one with the later number; a partial one has cost a save and
is erased (R433, R435, R436). -/
def retainStart (s : State) : State :=
  let b := match s.nv.sectA, s.nv.sectB with
    | .saved x _ _ _, .saved y _ _ _ => serialAfter y x
    | .saved _ _ _ _, _ => false
    | _, .saved _ _ _ _ => true
    | _, _ => false
  let s := sectorShow (setBitAt Reg.PWR_SAVESTAT 0 b s)
  let t := targetSector s
  if !hasSectors s then s else { s with pwr := { s.pwr with eraseOwed := t != .erased } }

/-- A sector found partial gives reset cause 4 (R436; log entry 184). -/
def retainCause (s : State) : State :=
  if s.nv.sectA = .partial_ ∨ s.nv.sectB = .partial_ then wr Reg.SYS_RSTCAUSE (rd Reg.SYS_RSTCAUSE s / 16 * 16 + 4) s else s

/-- The OTP changes of an accepted image; while SUPGOOD reads 0 they are deferred, with EV8 (R429, R437; log
entry 184). -/
def burnsStart (img : List Nat) (s : State) : State :=
  let arb := if imAdvance img && decide (s.nv.arb < imSvn img) then [.arb (imSvn img)] else []
  let b := arb ++ (bitsOf 4 (imRevmask img)).map .revoke
  let s := nvmNext { s with pwr := { s.pwr with queue := s.pwr.queue ++ b } }
  if supGood s then s else each (List.range b.length) (fun i s => record 8 0 i none (pwrFlag 4 s)) s

/-- The cluster and region tiers: the device at position 0 takes the role with MEPOCH 0 (R363); the region's is one for the manager
of its cluster (R364). -/
def spanStart (s : State) : State :=
  let s := setSpn (fun p => { p with mc := { p.mc with rx := s.lt, beacon := s.lt } }) s
  each [0, 1] (fun t s => if ownPos t s = some 0 && tierOn t s then follow t (ownAddr s) (setTier t { Tier.reset with mgr := true } s) else s) s

/-- The output GPIOs drive low (R450). -/
def gpioStart (s : State) : State :=
  each (gpioOutputs s) (fun g s => emit (.pin "GPIO" g 0 s.lt) s) { s with gpioOut := 0 }

/-- Everything that takes effect in the FCLK of completion; `s` holds the image's register values. -/
def complete (img : List Nat) (s : State) : State :=
  let test := imTestmode img
  let s := retainCause { s with configured := true, cc := s.lt, pwr := { s.pwr with img := none },
                                evt := { s.evt with ctrCfg := Config.counters img } }
  let s := setLoad 4 (wr64 Reg.SYS_TCOMP_LO Reg.SYS_TCOMP_HI s.lt s)
  let s := numberRecords test (setB Reg.TMB_STAT Reg.TMB_STAT_TESTMODE test s)
  let s := wr Reg.PAR_EPOCH (Config.imageEpoch img).toNat
    { s with par := { s.par with seen := (Config.imageEpoch img).toNat } }
  let s := each stages4 (bobStart img) s
  let s := each stages4 drumComputed (each stages4 drumStart s)
  let s := slotsStart img s
  let s := lBoundShow (each (lanesUsed s) laneComputed s)
  let s := each (List.range 4) (fun b => bankComputed b (imValid img)) s
  let s := wr Reg.PWR_TSV (tsvOf s % 2 ^ 16) (safetyComputed s)
  let s := linkStart (pulseStart_ (bankStart s))
  let s := setMask 9 true s
  let s := boundsShow (if test then s else setMask 11 true s)
  let s := loadsComputed ((imValid img).map (·.2)) s
  let s := { s with cyc := { s.cyc with due := some (if on Reg.CYC_CFG Reg.CYC_CFG_STARTKIND s then 2 else 1) } }
  let s := burnsStart img (retainStart (gpioStart s))
  let s := spanStart (safStart s)
  let s := tripsStart (ucShow s)
  gfShow (each stages4 pulsesAuto s)

/-- Configuration completion: the checks of causes 0x0B, 0x0C and 0x0D, then the one FCLK. -/
def configurationCompletion (s : State) : State :=
  match s.pwr.img with
  | none => s
  | some img =>
    if loadState s != 3 then s
    else
      let prog := programOf (imSection img secSegtab)
      let t := imageRegs img { s with cyc := { s.cyc with prog := prog } }
      match writeCheck img with
      | some a => refuse 0x0B a s
      | none =>
        match firstBad (allChecks img t) with
        | some a => refuse 0x0B a s
        | none =>
          match slotCheck img t with
          | some n => refuse 0x0C n s
          | none => if s.pwr.trainBad then refuse 0x0D 0 s else complete img t

def execConfigurationCompletion (s : State) : Host.Outcome State Fault Refusal := .next (configurationCompletion s)

end Sys2Proof.Machine
end

