-- ==== Sys2Proof/Machine/Flags.lean ====
section
/-! DEFINITION. Clearing W1C flags (R7, R446). -/

namespace Sys2Proof.Machine

/-- The index of a register array that an address is, with its register's name. -/
def indexOf (n : Nat) (f : Nat → Nat) (a : Nat) : Option Nat := (List.range n).find? (fun i => f i == a)

/-- Writing 1 to flags of a W1C register, in an FCLK in which the hardware sets the flags `hw`: those stay set. The holding
flags of the protection are cleared through its own rules, with `hw` showing the inputs that are active. -/
def w1cWrite (a mask v hw : Nat) (s : State) : State :=
  let bits := bitsOf 32 (v &&& mask)
  if a = Reg.PRT_TFLAG then each bits (fun n s => tripClear n (hw.testBit n || bitAt Reg.PRT_TLEVEL n s) s) s
  else if a = Reg.PRT_CFLAG0 ∨ a = Reg.PRT_CFLAG1 then
    each (bits.map (fun k => (k, k + (if a = Reg.PRT_CFLAG1 then 32 else 0)))) (fun p s =>
      cmpClear p.2 (hw.testBit p.1 || on (Reg.PRT_CSTAT p.2) Reg.PRT_CSTAT_OUT s) s) s
  else if a = Reg.PRT_AFLAG0 ∨ a = Reg.PRT_AFLAG1 ∨ a = Reg.PRT_AFLAG2 then
    each (bits.filter (fun k => !hw.testBit k)) (fun k s => alarmClear (k + 32 * ((a - Reg.PRT_AFLAG0) / 4)) s) s
  else
    let s := wrW a (rdW a s &&& ~~~ BitVec.ofNat 32 (maskOf (bits.filter (fun k => !hw.testBit k)))) s
    if a / 2 ^ 16 = 0x4009 then
      match indexOf 64 Reg.RNS_LEVT a with
      | some l => laneSum l s
      | none => s
    else if a / 2 ^ 16 = 0x400B then
      match indexOf 16 Reg.DMA_REVT a with
      | some r => dmaSum r s
      | none => s
    else s

end Sys2Proof.Machine
end

