-- ==== Sys2Proof/Machine/Span.lean ====
section
/-! DEFINITION. The commands of the span ports, the manager, IEEE 1588 and the mains code (R339-R368). -/

namespace Sys2Proof.Machine

/-- A SPAN_TX slot fires (R121, R350). -/
def execSpanTx (slot : Fin 4096) (s : State) : Host.Outcome State Fault Refusal :=
  .next (firing slot actSpan (fun x s => spanTx (slTarget x % 256) s) s)

def execSpanFrameStart (port : Fin 4) (s : State) : Host.Outcome State Fault Refusal := .next (portStart port s)

def execTxWindowMiss (port : Fin 4) (s : State) : Host.Outcome State Fault Refusal := .next (txMiss port s)

def execBestEffortSend (value : BitVec 32) (by_ : Fin 19) (s : State) : Host.Outcome State Fault Refusal :=
  .next (pairFrom Reg.SPN_BECMD by_ (bestEffort (value.toNat % 256)) s)

def execClusterCycleStart (s : State) : Host.Outcome State Fault Refusal := .next (cycleStart s)

def execRegionCycleStart (s : State) : Host.Outcome State Fault Refusal := .next (regionStart s)

/-- The frame that a receive command describes. -/
def frameOf (port : Fin 4) (kind : Nat) (tag : FrameTag) (dstk : Fin 4) (src dst : BitVec 18) (seq : BitVec 32) (epoch : BitVec 16)
    (cts : BitVec 28) (data : List (BitVec 8)) (s : State) : Frame :=
  ⟨port, kind, tag.cls, tag.dir, dstk, src.toNat, dst.toNat, seq.toNat, epoch.toNat, cts.toNat, data.map (·.toNat), s.lt⟩

def execDataFrameReceive (port : Fin 4) (tag : FrameTag) (dstk : Fin 4) (src dst : BitVec 18) (seq : BitVec 32) (epoch : BitVec 16)
    (cts : BitVec 28) (data : List (BitVec 8)) (s : State) : Host.Outcome State Fault Refusal :=
  .next (frameIn (frameOf port 1 tag dstk src dst seq epoch cts data s) s)

def execStationFrameReceive (port : Fin 4) (tag : FrameTag) (dstk : Fin 4) (src dst : BitVec 18) (seq : BitVec 32) (epoch : BitVec 16)
    (cts : BitVec 28) (data : List (BitVec 8)) (s : State) : Host.Outcome State Fault Refusal :=
  .next (frameIn (frameOf port 2 tag dstk src dst seq epoch cts data s) s)

def execBeaconReceive (port : Fin 4) (tag : FrameTag) (dstk : Fin 4) (src dst : BitVec 18) (seq : BitVec 32) (epoch : BitVec 16)
    (cts : BitVec 28) (data : List (BitVec 8)) (s : State) : Host.Outcome State Fault Refusal :=
  .next (frameIn (frameOf port 3 tag dstk src dst seq epoch cts data s) s)

def execClaimReceive (port : Fin 4) (tag : FrameTag) (dstk : Fin 4) (src dst : BitVec 18) (seq : BitVec 32) (epoch : BitVec 16)
    (cts : BitVec 28) (data : List (BitVec 8)) (s : State) : Host.Outcome State Fault Refusal :=
  .next (frameIn (frameOf port 4 tag dstk src dst seq epoch cts data s) s)

def execReportFrameReceive (port : Fin 4) (tag : FrameTag) (dstk : Fin 4) (src dst : BitVec 18) (seq : BitVec 32) (epoch : BitVec 16)
    (cts : BitVec 28) (data : List (BitVec 8)) (s : State) : Host.Outcome State Fault Refusal :=
  .next (frameIn (frameOf port 5 tag dstk src dst seq epoch cts data s) s)

def execDispatchReceive (port : Fin 4) (tag : FrameTag) (dstk : Fin 4) (src dst : BitVec 18) (seq : BitVec 32) (epoch : BitVec 16)
    (cts : BitVec 28) (data : List (BitVec 8)) (s : State) : Host.Outcome State Fault Refusal :=
  .next (frameIn (frameOf port 6 tag dstk src dst seq epoch cts data s) s)

/-- A TRIGGER frame satisfies condition 0x05 of the Hamper with its instant (R291, R346). -/
def execTriggerFrameReceive (port : Fin 4) (tag : FrameTag) (dstk : Fin 4) (src dst : BitVec 18) (seq : BitVec 32) (epoch : BitVec 16)
    (cts : BitVec 28) (data : List (BitVec 8)) (s : State) : Host.Outcome State Fault Refusal :=
  let f := frameOf port 7 tag dstk src dst seq epoch cts data s
  .next (urgentIn f (some (be f.data 8 4)) (trigReceived (be f.data 0 8)) s)

/-- A TCAL frame supplies T_c (R292, R346). -/
def execTcalReceive (port : Fin 4) (tag : FrameTag) (dstk : Fin 4) (src dst : BitVec 18) (seq : BitVec 32) (epoch : BitVec 16)
    (cts : BitVec 28) (data : List (BitVec 8)) (s : State) : Host.Outcome State Fault Refusal :=
  let f := frameOf port 8 tag dstk src dst seq epoch cts data s
  .next (urgentIn f (some (be f.data 8 4)) (fun t => when (ctAnchored t) (calReceived (ltOfCt (be f.data 0 8) t)) t) s)

/-- The deadline of a hold has passed (R355). -/
def execStreamHoldDeadline (stream : Fin 1024) (s : State) : Host.Outcome State Fault Refusal :=
  .next (match (streamOf stream s).bind (·.deadline) with
    | some d => if d ≤ s.lt then streamFlush stream s else s
    | none => s)

/-- A context without a frame for 10 s is freed (R354). -/
def execStreamContextExpire (stream : Fin 1024) (s : State) : Host.Outcome State Fault Refusal :=
  .next (match streamOf stream s with
    | some x => if x.last + 10000 * ms ≤ s.lt then setStream stream none (streamFlush stream s) else s
    | none => s)

def execPtpSyncReceive (port : Fin 4) (origin : BitVec 64) (s : State) : Host.Outcome State Fault Refusal :=
  .next (syncIn port origin.toNat s)

def execPtpPdelayExchange (port : Fin 4) (t1 t2 t3 t4 : BitVec 64) (s : State) : Host.Outcome State Fault Refusal :=
  .next (peerDelay port t1.toNat t2.toNat t3.toNat t4.toNat s)

def execPtpAnnounceTimeout (port : Fin 4) (s : State) : Host.Outcome State Fault Refusal := .next (announceTimeout port s)

def execPtpAnnounceReceive (port : Fin 4) (gm : BitVec 112) (steps : BitVec 16) (s : State) :
    Host.Outcome State Fault Refusal := .next (announceIn port gm.toNat steps.toNat s)

def execPtpMessageInterval (port : Fin 4) (s : State) : Host.Outcome State Fault Refusal := .next (ptpInterval port s)

def execBeaconLoss (s : State) : Host.Outcome State Fault Refusal := .next (beaconLoss s)

def execSuccessionClaim (region : Bool) (s : State) : Host.Outcome State Fault Refusal :=
  .next (claimStart (if region then 1 else 0) s)

def execManagerRoleTake (region : Bool) (s : State) : Host.Outcome State Fault Refusal :=
  .next (roleTake (if region then 1 else 0) s)

/-- No valid beacon for MCLOSS seconds in FORM or HEM (R365). -/
def execMainsCodeUnlinked (s : State) : Host.Outcome State Fault Refusal :=
  .next (if mcOn s && mcLive s
      && decide (s.spn.mc.beacon + 1000 * ms * fl Reg.SPN_MCFG Reg.SPN_MCFG_MCLOSS s ≤ s.lt) then
    setB Reg.SPN_STAT Reg.SPN_STAT_UNLINKED true s else s)

/-- An unlinked device starts sending (R365): its first frame begins at the next cycle count divisible by 4. -/
def execMainsCodeSendStart (s : State) : Host.Outcome State Fault Refusal :=
  .next (if on Reg.SPN_STAT Reg.SPN_STAT_UNLINKED s && s.spn.mc.tx.isNone && mcLive s
      && decide (s.spn.mc.rx + 1000 * ms * (mcPos s + 1) * fl Reg.SPN_MCFG Reg.SPN_MCFG_MCWAIT s ≤ s.lt) then
    let c0 := (atOf (mcStage s) s / 2 ^ 32 / 4 + 1) * 4 % 2 ^ 32
    setB Reg.SPN_MCSTAT Reg.SPN_MCSTAT_TX true
      (setMc (fun x => { x with tx := some (c0, mcFrame s), stop := false, ramp := none }) s)
  else s)

/-- A valid frame that the detector has read (R365, R367): one of the own position is ignored while the device is unlinked; one of a
lower position that comes in a sender's gap stops it. -/
def execMainsCodeFrameReceive (s : State) : Host.Outcome State Fault Refusal :=
  .next (match s.spn.mc.done with
    | none => s
    | some (kind, val, q) =>
      let s := setMc (fun x => { x with done := none }) s
      if kind / 16 = mcPos s && on Reg.SPN_STAT Reg.SPN_STAT_UNLINKED s then s
      else
        let gap := match s.spn.mc.tx with
          | some (c0, _) => decide (192 ≤ mcCycles c0 (atOf (mcStage s) s)) && decide (mcCycles c0 (atOf (mcStage s) s) < 256)
          | none => false
        let s := setMc (fun x => { x with rx := s.lt, stop := x.stop || (gap && decide (kind / 16 < mcPos s)) }) s
        let s := bump Reg.SPN_MCSTAT Reg.SPN_MCSTAT_FRAMES 1 (wr Reg.SPN_MCRX (kind + 256 * val)
          (wr Reg.SPN_MCQUAL (min (2 ^ 24 - 1) q) s))
        record 121 0 kind none (spnFlag Reg.SPN_EVT_MCRX s))

def execSpanLinkLoss (port : Fin 4) (s : State) : Host.Outcome State Fault Refusal := .next (portLinkLoss port s)

def execSpanLinkUp (port : Fin 4) (s : State) : Host.Outcome State Fault Refusal := .next (portLinkUp port s)

def execSpanFrameDiscarded (port : Fin 4) (fcs : Bool) (s : State) : Host.Outcome State Fault Refusal :=
  .next (frameDiscard port fcs s)

end Sys2Proof.Machine
end

