-- ==== Sys2Proof/Machine/Registers.lean ====
section
/-! DEFINITION. A write of a register under its access code (R7-R9, R446), the paired words, and the output copy of a task
(R323). -/

namespace Sys2Proof.Machine

/-! Pairs (R8). Bits of a pair that its register reserves are ignored, but where its unit refuses an undefined request
(log entry 13). -/

/-- The pairs of a Drum set: set-points are staged (R48), on a Stage without an active Drum only the hem (R33). Until the commit
applies, a set-point reads as the pair still in use, as STI_MAN and STI_SETP do until their cycle (DESIGN CHOICE, log entry 191). -/
def drumPair (st : Nat) (a : Nat) (v : Word) (s : State) : State :=
  if a = Reg.DRM_COMMIT st then when (v == 1#32) (commitRequest st) s
  else if a = Reg.DRM_HEMREST st then when (v == 1#32) (hemRestore st) s
  else if a = Reg.DRM_SCMD st then scmdWrite st (min v.toNat 15) s
  else if hasDrum st s || a == Reg.DRM_HEM st then
    let w := if a = Reg.DRM_MODE st then v.toNat % 2 else v.toNat
    setDrm st { drmOf st s with staged := Tbl.put a w (drmOf st s).staged } s
  else s

/-- The pairs of the Stitch array (R111, R114). -/
def stitchPair (a : Nat) (v : Word) (by_ : Nat) (s : State) : State :=
  match indexOf 128 Reg.STI_MAN a, indexOf 128 Reg.STI_SETP a, indexOf 4 Reg.STI_SETREQ a, indexOf 4 Reg.STI_MODECMD a with
  | some n, _, _, _ => manWrite n v s
  | _, some n, _, _ => setpWrite n v s
  | _, _, some st, _ => setRequest st v by_ s
  | _, _, _, some st => modeCommand st (v.toNat % 128) (v.toNat / 256 % 2) s
  | _, _, _, _ => s

/-- TCK_WCMD and TCK_LCMD (R129, R133-R136). -/
def tackPair (a v by_ : Nat) (s : State) : State :=
  if a = Reg.TCK_WCMD then slotCommand (v / 2 ^ 12 % 4) (v % 2 ^ 12) by_ s
  else
    let i := v % 8
    match v / 16 % 4 with
    | 0 => lockRenew i by_ s
    | 1 => lockAcquire i (v / 64 % 4) (v / 256 % 4) by_ s
    | 2 => lockCommit i by_ s
    | _ => lockAbort i by_ s

/-- HMP_CMD and HMP_CTRIM (R282, R289). -/
def hamperPair (a v : Nat) (s : State) : State :=
  if a = Reg.HMP_CMD then
    match v % 8 with
    | 1 => hmpArmCmd s
    | 2 => hmpForce s
    | 3 => hmpAbort s
    | 4 => hmpRelease s
    | 5 => hmpCal s
    | _ => s
  else wr a (v % 2 ^ 24) s

/-- The pairs of the cycle engine (R331, R334, R337). A CYC_FCMD with another OP is refused, with a cause that is not stated
(log entry 14). -/
def cyclePair (a v by_ : Nat) (s : State) : State :=
  if a = Reg.CYC_RCMD then
    match v % 4 with
    | 1 => restartRequest kWarm by_ s
    | 2 => restartRequest kCold by_ s
    | _ => s
  else if a = Reg.CYC_PCMD then when (v.testBit 0) patchSubmit s
  else if v % 4 = 1 ∨ v % 4 = 2 then forceCommand v s
  else
    let (d, s) := fresh s
    forceResult (d.toNat % 8) s

/-- The pairs of the span ports: a best-effort send, the mains-code message (an undefined MSG is refused), the dispatch
(R351, R366, R361). -/
def spanPair (a v : Nat) (s : State) : State :=
  if a = Reg.SPN_BECMD then bestEffort (v % 256) s
  else if a = Reg.SPN_MCTX then when (decide (1 ≤ v % 16) && decide (v % 16 ≤ 4)) (wr a (v &&& 0xFFFF0F)) s
  else wr a v s

/-- A pair takes effect (R8). Which references are present at a hop request is not the pair's to say. -/
def pairTake (a : Nat) (v : Word) (by_ : Nat) (s : State) : State :=
  let n := v.toNat
  match a / 2 ^ 16 with
  | 0x4001 => sourceWrite (a % 2 ^ 16 / 0x100) (n % 8) (n / 16 % 2) s
  | 0x4003 => drumPair (a % 2 ^ 16 / 0x400) a v s
  | 0x4004 => stitchPair a v by_ s
  | 0x4002 => tackPair a n by_ s
  | 0x4005 =>
    if a = Reg.PGN_DISABLE then when (v == 1#32) moduleDisable s
    else match indexOf 4 Reg.PGN_CSETREQ a with
      | some st => carrierRequest st n by_ s
      | none => s
  | 0x4013 => stageUnlock n s
  | 0x400A => hamperPair a n s
  | 0x400B =>
    match indexOf 16 Reg.DMA_RCMD a, n % 4 with
    | some r, 1 => dmaGo r s
    | some r, 2 => dmaAbort r s
    | _, _ => s
  | 0x400D => cyclePair a n by_ s
  | 0x400E => spanPair a n s
  | 0x400F =>
    match n % 4 with
    | 1 => pairRequest s
    | 2 => pairInhibit true s
    | 3 => pairInhibit false s
    | _ => s
  | 0x4011 =>
    let (refs, s) := fresh s
    hopRequest (n % 16) (refs.toNat % 2 ^ 16) s
  | 0x4012 => nvmCommand (n % 4) s
  | _ => s

/-- The value word is held, in place of one held before. -/
def pairHold (a : Nat) (v : Word) (s : State) : State := { s with pwHeld := Tbl.put a (some v) s.pwHeld }

/-- The complement word of the pair at `a` ends the hold: the pair takes effect, or EV1 is graded G1 with the value word's
address and the block number. -/
def pairCheck (a : Nat) (c : Word) (by_ : Nat) (s : State) : State :=
  match Tbl.get none s.pwHeld a with
  | some v =>
    if c = ~~~ v then pairTake a v by_ (endHold a s)
    else recordAtf 1 1 (a % 2 ^ 16) (a / 2 ^ 16 % 32) none { s with pwHeld := Tbl.put a none s.pwHeld }
  | none => recordAtf 1 1 (a % 2 ^ 16) (a / 2 ^ 16 % 32) none s

/-! RW registers. -/

/-- An index by which software consumes a ring of `size` records: ahead of the writer, or more than the ring behind it, it is
ignored (R276, R356). -/
def indexWrite (a widx size v : Nat) (s : State) : State :=
  if size < (widx + 2 ^ 32 - v % 2 ^ 32) % 2 ^ 32 then s else wr a v s

/-- A write of an RW register, with the bits that it reaches. -/
def rwWrite (a mask v by_ : Nat) (s : State) : State :=
  if a = Reg.TCK_RIDX then slotLatch (v % 2 ^ 12) s
  else if a = Reg.TCK_WS 0 then wr a (v &&& 0xF1F) s
  else if a = Reg.TCK_WS 7 then s
  else if a = Reg.EVT_RIDX then ridxWrite v s
  else if a = Reg.EVT_UCSEL then ucShow (wr a (v &&& mask) s)
  else if a = Reg.SPN_RXRIDX then
    indexWrite a (rd Reg.SPN_RXWIDX s) (2 ^ (rd Reg.SPN_RXCFG s % 16)) v s
  else if a / 2 ^ 16 = 0x4009 then
    match indexOf 64 Reg.RNS_RRIDX a with
    | some l => rridxWrite l v s
    | none => s
  else if a / 2 ^ 16 = 0x4014 then tmbWrite a v s
  else if a = Reg.SEC_KCMD then
    if keyWriter by_ s then
      let (d, s) := fresh s
      keyCommand v (d.getLsbD 0) s
    else s
  else if a / 2 ^ 16 = 0x4015 then when (keyWriter by_ s) (wr a (v &&& mask)) s
  else wr a (v &&& mask) s

/-! Any register. -/

/-- The memories that the test port reaches in test mode (R295, R301). -/
def testReaches (a : Nat) (s : State) : Bool :=
  s.configured && testMode s && !masked 11 s
    && (inProg a 4 || inData a 4 || (inRetain a 4 && acting s) || inHamp a 4 || inDram a 4 s)

/-- A write of a word under the access code of its register; of the test port also one to a memory (R295). -/
def storeWord (a : Nat) (w : Word) (hw by_ : Nat) (s : State) : State :=
  if by_ = 18 && testReaches a s then stN a 4 w.toNat s
  else when (mayStore a by_ s) (fun s =>
    match rowOf a with
    | none => if decide (4 ≤ a) && isPair (a - 4) then pairCheck (a - 4) w by_ s else s
    | some r =>
      match r.acc with
      | .ro => s
      | .cfg => record 0 0 0 none s
      | .pw => pairHold a w s
      | .rw => rwWrite a r.mask w.toNat by_ s
      | .w1c => w1cWrite a r.mask w.toNat hw s) s

/-- A write whose register has an access code. -/
def storeAs (acc : Access) (a : Nat) (w : Word) (hw by_ : Nat) (s : State) : State :=
  match rowOf a with
  | some r => if r.acc = acc then storeWord a w hw by_ s else s
  | none => s

/-! The output copy (R323). -/

/-- A word of a station's output block goes to the transmit buffers of the STATION entries addressed to it, from which the
frames take it (R323, R350; DEDUCED, log entry 202). -/
def stnOutput (sn w v : Nat) (s : State) : State :=
  each ((List.range 256).filter (fun e => enOn e s && enKind e s == 2 && enDstk e s == 0 && enDst e s == stnAddr sn s
    && inData (enBuf e s + 8 + 4 * w) 4))
    (fun e s => stN (enBuf e s + 8 + 4 * w) 4 v s) s

/-- An entry of an output list, issued from its image word at `e.2`. -/
def outputEntry (t : Nat) (e : OutDst × Nat) (s : State) : State :=
  let v := ldN e.2 4 s
  let w_ := if t = errTask then 17 else t
  match e.1 with
  | .reg a => storeWord a (BitVec.ofNat 32 v) 0 w_ s
  | .pair a =>
    let w := BitVec.ofNat 32 v
    storeWord (a + 4) (~~~ w) 0 w_ (storeWord a w 0 w_ s)
  | .gpio n =>
    if acting s && decide (n < 32) && !bitAt Reg.TCK_GPIOOWN n s then { s with gpioOut := setBit s.gpioOut n (v != 0) } else s
  | .station sn w => stnOutput sn w v { s with cyc := { s.cyc with stnOut := Tbl.put (stnKey sn w) v s.cyc.stnOut } }

def outputCopy (t : Nat) (s : State) : State := each (Tbl.get [] s.cyc.prog.outs t) (outputEntry t) s

/-- A task executes its last instruction, with the memory words its run has stored; its outputs are issued. A run that ends
past its deadline misses it first (R12, R324). -/
def taskEnd (t : Nat) (writes : List (BitVec 32 × BitVec 32)) (s : State) : State :=
  if (taskOf t s).state != 2 || halted s then s
  else
    let late := decide (taskLimit t s < nowF s) && !(taskOf t s).missed
    let s := when late (taskDeadline t writes) s
    if (late && t < 16 && on (Reg.CYC_TCFG t) ⟨0, 1⟩ s) || halted s then s
    else taskFinish t (outputCopy t (taskWrites writes s))

/-! Commands. -/

def execPwValueWordWrite (addr value : BitVec 32) (by_ : Fin 19) (s : State) : Host.Outcome State Fault Refusal :=
  .next (storeAs .pw addr.toNat value 0 by_ s)

/-- `addr` is the complement word's. -/
def execPwComplementWordWrite (addr value : BitVec 32) (by_ : Fin 19) (s : State) : Host.Outcome State Fault Refusal :=
  .next (if (rowOf addr.toNat).isNone then storeWord addr.toNat value 0 by_ s else s)

def execRegisterWrite (addr value : BitVec 32) (by_ : Fin 19) (s : State) : Host.Outcome State Fault Refusal :=
  .next (storeWord addr.toNat value 0 by_ s)

def execW1cWrite (addr value hw : BitVec 32) (by_ : Fin 19) (s : State) : Host.Outcome State Fault Refusal :=
  .next (storeAs .w1c addr.toNat value hw.toNat by_ s)

def execTaskEnd (task : Fin 17) (writes : List (BitVec 32 × BitVec 32)) (s : State) : Host.Outcome State Fault Refusal :=
  .next (taskEnd task writes s)

end Sys2Proof.Machine
end

