-- ==== Sys2Proof/Machine/Dispatch.lean ====
section
/-! DEFINITION. One arm per command of spec/opcode_table.json, each one direct call of that command's meaning. -/

namespace Sys2Proof.Machine

def exec (i : Instr) (s : State) : Host.Outcome State Fault Refusal :=
  match i with
  | .powerGood => Sys2Proof.Machine.execPowerGood s
  | .porstPulse => Sys2Proof.Machine.execPorstPulse s
  | .railReset rail below => Sys2Proof.Machine.execRailReset rail below s
  | .testPortReset => Sys2Proof.Machine.execTestPortReset s
  | .syspllFirstLock => Sys2Proof.Machine.execSyspllFirstLock s
  | .imageStreamComplete image flash => Sys2Proof.Machine.execImageStreamComplete image flash s
  | .dramTrainingComplete ok => Sys2Proof.Machine.execDramTrainingComplete ok s
  | .signatureVerified => Sys2Proof.Machine.execSignatureVerified s
  | .configurationCompletion => Sys2Proof.Machine.execConfigurationCompletion s
  | .gridFormingReady => Sys2Proof.Machine.execGridFormingReady s
  | .otpBurn ok => Sys2Proof.Machine.execOtpBurn ok s
  | .supplyWarning rail => Sys2Proof.Machine.execSupplyWarning rail s
  | .supplyGood => Sys2Proof.Machine.execSupplyGood s
  | .retainSaveStart => Sys2Proof.Machine.execRetainSaveStart s
  | .retainSaveComplete ok => Sys2Proof.Machine.execRetainSaveComplete ok s
  | .retainSectorErase => Sys2Proof.Machine.execRetainSectorErase s
  | .retainSectorEraseComplete => Sys2Proof.Machine.execRetainSectorEraseComplete s
  | .nvmWrite by_ => Sys2Proof.Machine.execNvmWrite by_ s
  | .nvmErase by_ => Sys2Proof.Machine.execNvmErase by_ s
  | .nvmOperationComplete ok => Sys2Proof.Machine.execNvmOperationComplete ok s
  | .tjRead tj => Sys2Proof.Machine.execTjRead tj s
  | .tjOvertemp => Sys2Proof.Machine.execTjOvertemp s
  | .keyBurn slot ok by_ => Sys2Proof.Machine.execKeyBurn slot ok by_ s
  | .testlockBurn ok by_ => Sys2Proof.Machine.execTestlockBurn ok by_ s
  | .referenceLoss refs => Sys2Proof.Machine.execReferenceLoss refs s
  | .hopRequest entry refs by_ => Sys2Proof.Machine.execHopRequest entry refs by_ s
  | .hopComplete => Sys2Proof.Machine.execHopComplete s
  | .bandSearchComplete entry band => Sys2Proof.Machine.execBandSearchComplete entry band s
  | .yRampStep => Sys2Proof.Machine.execYRampStep s
  | .pllUnlock pll => Sys2Proof.Machine.execPllUnlock pll s
  | .pllRelock pll => Sys2Proof.Machine.execPllRelock pll s
  | .slewRequest st src => Sys2Proof.Machine.execSlewRequest st src s
  | .alignRequest st src => Sys2Proof.Machine.execAlignRequest st src s
  | .sourceSwitchApply st slot gpi bad => Sys2Proof.Machine.execSourceSwitchApply st slot gpi bad s
  | .sourceLost st => Sys2Proof.Machine.execSourceLost st s
  | .fallbackApply st slot gpi bad => Sys2Proof.Machine.execFallbackApply st slot gpi bad s
  | .ltLatchRead => Sys2Proof.Machine.execLtLatchRead s
  | .atLatchRead st => Sys2Proof.Machine.execAtLatchRead st s
  | .stepDrum slot gpi bad => Sys2Proof.Machine.execStepDrum slot gpi bad s
  | .stepDrumEnd st => Sys2Proof.Machine.execStepDrumEnd st s
  | .powerBlockTimeout st => Sys2Proof.Machine.execPowerBlockTimeout st s
  | .commit st => Sys2Proof.Machine.execCommit st s
  | .hemRestore st => Sys2Proof.Machine.execHemRestore st s
  | .curvePointExpiry slot gpi bad => Sys2Proof.Machine.execCurvePointExpiry slot gpi bad s
  | .holdTimeLimit slot gpi bad => Sys2Proof.Machine.execHoldTimeLimit slot gpi bad s
  | .pvalidStepLimit slot gpi bad => Sys2Proof.Machine.execPvalidStepLimit slot gpi bad s
  | .energiseTimeLimit slot gpi bad => Sys2Proof.Machine.execEnergiseTimeLimit slot gpi bad s
  | .energiseRampComplete slot gpi bad => Sys2Proof.Machine.execEnergiseRampComplete slot gpi bad s
  | .nhemCountReached slot gpi bad => Sys2Proof.Machine.execNhemCountReached slot gpi bad s
  | .nrecCountReached slot gpi bad => Sys2Proof.Machine.execNrecCountReached slot gpi bad s
  | .recoverRampsComplete slot gpi bad => Sys2Proof.Machine.execRecoverRampsComplete slot gpi bad s
  | .deadokCountReached slot gpi bad => Sys2Proof.Machine.execDeadokCountReached slot gpi bad s
  | .syncokCountReached slot gpi bad => Sys2Proof.Machine.execSyncokCountReached slot gpi bad s
  | .stop st => Sys2Proof.Machine.execStop st s
  | .energise st => Sys2Proof.Machine.execEnergise st s
  | .sync st => Sys2Proof.Machine.execSync st s
  | .join st => Sys2Proof.Machine.execJoin st s
  | .clear st => Sys2Proof.Machine.execClear st s
  | .breakerFeedbackChange slot gpi bad => Sys2Proof.Machine.execBreakerFeedbackChange slot gpi bad s
  | .startStitch slot fails bad => Sys2Proof.Machine.execStartStitch slot fails bad s
  | .macLaneRetire mac => Sys2Proof.Machine.execMacLaneRetire mac s
  | .stitchCycleLate slot fails bad => Sys2Proof.Machine.execStitchCycleLate slot fails bad s
  | .fallbackAutoReturn slot inst fails bad => Sys2Proof.Machine.execFallbackAutoReturn slot inst fails bad s
  | .followingErrorExpiry slot inst fails bad => Sys2Proof.Machine.execFollowingErrorExpiry slot inst fails bad s
  | .stiModeAuto st inst => Sys2Proof.Machine.execStiModeAuto st inst s
  | .stiModeManual st inst => Sys2Proof.Machine.execStiModeManual st inst s
  | .stiManWrite inst value => Sys2Proof.Machine.execStiManWrite inst value s
  | .stiSetpWrite inst value => Sys2Proof.Machine.execStiSetpWrite inst value s
  | .stiSetRequest st value by_ => Sys2Proof.Machine.execStiSetRequest st value by_ s
  | .slotWrite slot by_ => Sys2Proof.Machine.execSlotWrite slot by_ s
  | .slotDelete slot by_ => Sys2Proof.Machine.execSlotDelete slot by_ s
  | .admissionComplete => Sys2Proof.Machine.execAdmissionComplete s
  | .slotSwitch slot => Sys2Proof.Machine.execSlotSwitch slot s
  | .slotReadLatch slot => Sys2Proof.Machine.execSlotReadLatch slot s
  | .lockAcquire lock kind st by_ => Sys2Proof.Machine.execLockAcquire lock kind st by_ s
  | .lockRenew lock by_ => Sys2Proof.Machine.execLockRenew lock by_ s
  | .lockCommit lock by_ => Sys2Proof.Machine.execLockCommit lock by_ s
  | .lockCommitRelease lock => Sys2Proof.Machine.execLockCommitRelease lock s
  | .lockAbort lock by_ => Sys2Proof.Machine.execLockAbort lock by_ s
  | .lockLeaseExpiry lock => Sys2Proof.Machine.execLockLeaseExpiry lock s
  | .lockOwnerSideband owner => Sys2Proof.Machine.execLockOwnerSideband owner s
  | .occurrenceDropped slot => Sys2Proof.Machine.execOccurrenceDropped slot s
  | .startAdc slot => Sys2Proof.Machine.execStartAdc slot s
  | .startAdcUrgent slot => Sys2Proof.Machine.execStartAdcUrgent slot s
  | .handoverStitch slot => Sys2Proof.Machine.execHandoverStitch slot s
  | .handoverPulse slot => Sys2Proof.Machine.execHandoverPulse slot s
  | .handoverBoth slot => Sys2Proof.Machine.execHandoverBoth slot s
  | .handoverDeferred st => Sys2Proof.Machine.execHandoverDeferred st s
  | .startTask slot => Sys2Proof.Machine.execStartTask slot s
  | .hamperActionArm slot => Sys2Proof.Machine.execHamperActionArm slot s
  | .hamperActionTrigger slot => Sys2Proof.Machine.execHamperActionTrigger slot s
  | .assertHe slot => Sys2Proof.Machine.execAssertHe slot s
  | .gpioLow slot => Sys2Proof.Machine.execGpioLow slot s
  | .gpioHigh slot => Sys2Proof.Machine.execGpioHigh slot s
  | .gpioToggle slot => Sys2Proof.Machine.execGpioToggle slot s
  | .spanTx slot => Sys2Proof.Machine.execSpanTx slot s
  | .edgePlan hb => Sys2Proof.Machine.execEdgePlan hb s
  | .carrierLoadPoint c => Sys2Proof.Machine.execCarrierLoadPoint c s
  | .edgeExecute leg => Sys2Proof.Machine.execEdgeExecute leg s
  | .ackInputChange leg level => Sys2Proof.Machine.execAckInputChange leg level s
  | .ackTimeout hb => Sys2Proof.Machine.execAckTimeout hb s
  | .bootstrapRefresh hb => Sys2Proof.Machine.execBootstrapRefresh hb s
  | .bsrecTimeout hb => Sys2Proof.Machine.execBsrecTimeout hb s
  | .halfBridgeResume hb => Sys2Proof.Machine.execHalfBridgeResume hb s
  | .carrierSetRequest st value by_ => Sys2Proof.Machine.execCarrierSetRequest st value by_ s
  | .carrierSetSwitch st => Sys2Proof.Machine.execCarrierSetSwitch st s
  | .moduleDisable => Sys2Proof.Machine.execModuleDisable s
  | .linkRxSync link who => Sys2Proof.Machine.execLinkRxSync link who s
  | .linkRxSyncLost link => Sys2Proof.Machine.execLinkRxSyncLost link s
  | .linkStateTimeout link => Sys2Proof.Machine.execLinkStateTimeout link s
  | .helloReceived link ok epid nhb dual port epver => Sys2Proof.Machine.execHelloReceived link ok epid nhb dual port epver s
  | .cfgackReceived link ok cseq epid => Sys2Proof.Machine.execCfgackReceived link ok cseq epid s
  | .calibrationStart link => Sys2Proof.Machine.execCalibrationStart link s
  | .rtaReceived link num ta t4 => Sys2Proof.Machine.execRtaReceived link num ta t4 s
  | .statusReceived link ok uv alm ocb temps epoch owner tcorr crcn => Sys2Proof.Machine.execStatusReceived link ok uv alm ocb temps epoch owner tcorr crcn s
  | .ocReceived link ok oc => Sys2Proof.Machine.execOcReceived link ok oc s
  | .alarmReceived link ok a => Sys2Proof.Machine.execAlarmReceived link ok a s
  | .nackReceived link ok seq => Sys2Proof.Machine.execNackReceived link ok seq s
  | .reportReceived link ok seq k hi turnOn bin td tm early noplat => Sys2Proof.Machine.execReportReceived link ok seq k hi turnOn bin td tm early noplat s
  | .eventSkip link ok seq => Sys2Proof.Machine.execEventSkip link ok seq s
  | .eventLate link ok seq => Sys2Proof.Machine.execEventLate link ok seq s
  | .eventMissing link ok seq => Sys2Proof.Machine.execEventMissing link ok seq s
  | .eventStale link ok seq epoch port => Sys2Proof.Machine.execEventStale link ok seq epoch port s
  | .eventFar link ok seq => Sys2Proof.Machine.execEventFar link ok seq s
  | .eventConflict link ok seq epoch port => Sys2Proof.Machine.execEventConflict link ok seq epoch port s
  | .edgeUndeliverable link seq => Sys2Proof.Machine.execEdgeUndeliverable link seq s
  | .missedCauseClear hb => Sys2Proof.Machine.execMissedCauseClear hb s
  | .epEdgeBlock link port ok seq epoch k hi turnOn report resume stamp pre plat ilev bin => Sys2Proof.Machine.execEpEdgeBlock link port ok seq epoch k hi turnOn report resume stamp pre plat ilev bin s
  | .epEdgeStamp link port seq td tm early noplat => Sys2Proof.Machine.execEpEdgeStamp link port seq td tm early noplat s
  | .epOff link port ok m => Sys2Proof.Machine.execEpOff link port ok m s
  | .epConfigBlock link port ok cseq hben lossto stativ epid seq0 => Sys2Proof.Machine.execEpConfigBlock link port ok cseq hben lossto stativ epid seq0 s
  | .epEpochBlock link port ok epochf handoff => Sys2Proof.Machine.execEpEpochBlock link port ok epochf handoff s
  | .epHandoff link => Sys2Proof.Machine.execEpHandoff link s
  | .epTimeBlock link port ok again lttx dfwd t => Sys2Proof.Machine.execEpTimeBlock link port ok again lttx dfwd t s
  | .epRtq link port ok num ta => Sys2Proof.Machine.execEpRtq link port ok num ta s
  | .epNackRepeat link port seq => Sys2Proof.Machine.execEpNackRepeat link port seq s
  | .epMissingReport link port seq => Sys2Proof.Machine.execEpMissingReport link port seq s
  | .epLossTimeout link port => Sys2Proof.Machine.execEpLossTimeout link port s
  | .epShuntAlarm link mask high low => Sys2Proof.Machine.execEpShuntAlarm link mask high low s
  | .epGateStateChange link oc => Sys2Proof.Machine.execEpGateStateChange link oc s
  | .epStatusInterval link temps => Sys2Proof.Machine.execEpStatusInterval link temps s
  | .pwValueWordWrite addr value by_ => Sys2Proof.Machine.execPwValueWordWrite addr value by_ s
  | .pwComplementWordWrite addr value by_ => Sys2Proof.Machine.execPwComplementWordWrite addr value by_ s
  | .registerWrite addr value by_ => Sys2Proof.Machine.execRegisterWrite addr value by_ s
  | .w1cWrite addr value hw by_ => Sys2Proof.Machine.execW1cWrite addr value hw by_ s
  | .eventRingWrite => Sys2Proof.Machine.execEventRingWrite s
  | .lossRecordEnqueue => Sys2Proof.Machine.execLossRecordEnqueue s
  | .evtRidxWrite value by_ => Sys2Proof.Machine.execEvtRidxWrite value by_ s
  | .stageUnlock value by_ => Sys2Proof.Machine.execStageUnlock value by_ s
  | .upsetCounterLeak counter => Sys2Proof.Machine.execUpsetCounterLeak counter s
  | .tmbWrite addr value by_ => Sys2Proof.Machine.execTmbWrite addr value by_ s
  | .tripInputAssert trip => Sys2Proof.Machine.execTripInputAssert trip s
  | .tripClear trip active => Sys2Proof.Machine.execTripClear trip active s
  | .comparatorAssert cmp => Sys2Proof.Machine.execComparatorAssert cmp s
  | .blankingEnd cmp active => Sys2Proof.Machine.execBlankingEnd cmp active s
  | .comparatorFlagClear cmp active => Sys2Proof.Machine.execComparatorFlagClear cmp active s
  | .alarmFlagClear hb => Sys2Proof.Machine.execAlarmFlagClear hb s
  | .dacCheck diffs => Sys2Proof.Machine.execDacCheck diffs s
  | .entryDelivery bank codes => Sys2Proof.Machine.execEntryDelivery bank codes s
  | .sequenceBusyEnd bank => Sys2Proof.Machine.execSequenceBusyEnd bank s
  | .absComplete bank slice low zero high => Sys2Proof.Machine.execAbsComplete bank slice low zero high s
  | .relComplete bank sxy sxx sm gain => Sys2Proof.Machine.execRelComplete bank sxy sxx sm gain s
  | .relTimeout bank => Sys2Proof.Machine.execRelTimeout bank s
  | .spareRotate bank => Sys2Proof.Machine.execSpareRotate bank s
  | .referenceCheck ref mon => Sys2Proof.Machine.execReferenceCheck ref mon s
  | .laneInput lane ok => Sys2Proof.Machine.execLaneInput lane ok s
  | .laneInputTimeout lane => Sys2Proof.Machine.execLaneInputTimeout lane s
  | .laneRelease lane => Sys2Proof.Machine.execLaneRelease lane s
  | .rnsRridxWrite lane value by_ => Sys2Proof.Machine.execRnsRridxWrite lane value by_ s
  | .hamperArm by_ => Sys2Proof.Machine.execHamperArm by_ s
  | .hamperForce by_ => Sys2Proof.Machine.execHamperForce by_ s
  | .hamperAbort by_ => Sys2Proof.Machine.execHamperAbort by_ s
  | .hamperRelease by_ => Sys2Proof.Machine.execHamperRelease by_ s
  | .hamperCal by_ => Sys2Proof.Machine.execHamperCal by_ s
  | .hamperTimerExpiry timer => Sys2Proof.Machine.execHamperTimerExpiry timer s
  | .hamperGapMarker channel => Sys2Proof.Machine.execHamperGapMarker channel s
  | .hamperFifoDrain channel => Sys2Proof.Machine.execHamperFifoDrain channel s
  | .triggerPinPulse pin => Sys2Proof.Machine.execTriggerPinPulse pin s
  | .triggerPinInput pin => Sys2Proof.Machine.execTriggerPinInput pin s
  | .arbiterGrant target pend err addr => Sys2Proof.Machine.execArbiterGrant target pend err addr s
  | .dramRefreshWindow ok => Sys2Proof.Machine.execDramRefreshWindow ok s
  | .requesterSideband requester asserted => Sys2Proof.Machine.execRequesterSideband requester asserted s
  | .dmaGo ring by_ => Sys2Proof.Machine.execDmaGo ring by_ s
  | .dmaAbort ring by_ => Sys2Proof.Machine.execDmaAbort ring by_ s
  | .descriptorFetch ring => Sys2Proof.Machine.execDescriptorFetch ring s
  | .dmaTransferComplete ring ok => Sys2Proof.Machine.execDmaTransferComplete ring ok s
  | .descriptorReturn ring => Sys2Proof.Machine.execDescriptorReturn ring s
  | .dmaDeadlineExpiry ring => Sys2Proof.Machine.execDmaDeadlineExpiry ring s
  | .taskEnd task writes => Sys2Proof.Machine.execTaskEnd task writes s
  | .taskDeadlineExpiry task writes => Sys2Proof.Machine.execTaskDeadlineExpiry task writes s
  | .taskException task writes => Sys2Proof.Machine.execTaskException task writes s
  | .errorTaskCall => Sys2Proof.Machine.execErrorTaskCall s
  | .lockstepMismatch => Sys2Proof.Machine.execLockstepMismatch s
  | .lockstepAutoRestart => Sys2Proof.Machine.execLockstepAutoRestart s
  | .stationDrop station => Sys2Proof.Machine.execStationDrop station s
  | .restartWarm by_ => Sys2Proof.Machine.execRestartWarm by_ s
  | .restartCold by_ => Sys2Proof.Machine.execRestartCold by_ s
  | .restartBegin => Sys2Proof.Machine.execRestartBegin s
  | .restartComplete => Sys2Proof.Machine.execRestartComplete s
  | .retainSnapshot => Sys2Proof.Machine.execRetainSnapshot s
  | .patchSubmit by_ => Sys2Proof.Machine.execPatchSubmit by_ s
  | .patchValidated => Sys2Proof.Machine.execPatchValidated s
  | .patchApply => Sys2Proof.Machine.execPatchApply s
  | .patchTimeout => Sys2Proof.Machine.execPatchTimeout s
  | .forceSet value by_ => Sys2Proof.Machine.execForceSet value by_ s
  | .forceRelease value by_ => Sys2Proof.Machine.execForceRelease value by_ s
  | .forceSetApply index => Sys2Proof.Machine.execForceSetApply index s
  | .forceReleaseApply index => Sys2Proof.Machine.execForceReleaseApply index s
  | .spanFrameStart port => Sys2Proof.Machine.execSpanFrameStart port s
  | .txWindowMiss port => Sys2Proof.Machine.execTxWindowMiss port s
  | .bestEffortSend value by_ => Sys2Proof.Machine.execBestEffortSend value by_ s
  | .clusterCycleStart => Sys2Proof.Machine.execClusterCycleStart s
  | .regionCycleStart => Sys2Proof.Machine.execRegionCycleStart s
  | .dataFrameReceive port tag dstk src dst seq epoch cts data => Sys2Proof.Machine.execDataFrameReceive port tag dstk src dst seq epoch cts data s
  | .streamHoldDeadline stream => Sys2Proof.Machine.execStreamHoldDeadline stream s
  | .streamContextExpire stream => Sys2Proof.Machine.execStreamContextExpire stream s
  | .stationFrameReceive port tag dstk src dst seq epoch cts data => Sys2Proof.Machine.execStationFrameReceive port tag dstk src dst seq epoch cts data s
  | .beaconReceive port tag dstk src dst seq epoch cts data => Sys2Proof.Machine.execBeaconReceive port tag dstk src dst seq epoch cts data s
  | .claimReceive port tag dstk src dst seq epoch cts data => Sys2Proof.Machine.execClaimReceive port tag dstk src dst seq epoch cts data s
  | .reportFrameReceive port tag dstk src dst seq epoch cts data => Sys2Proof.Machine.execReportFrameReceive port tag dstk src dst seq epoch cts data s
  | .dispatchReceive port tag dstk src dst seq epoch cts data => Sys2Proof.Machine.execDispatchReceive port tag dstk src dst seq epoch cts data s
  | .triggerFrameReceive port tag dstk src dst seq epoch cts data => Sys2Proof.Machine.execTriggerFrameReceive port tag dstk src dst seq epoch cts data s
  | .tcalReceive port tag dstk src dst seq epoch cts data => Sys2Proof.Machine.execTcalReceive port tag dstk src dst seq epoch cts data s
  | .refereeFrameReceive port tag dstk src dst seq epoch cts data => Sys2Proof.Machine.execRefereeFrameReceive port tag dstk src dst seq epoch cts data s
  | .ptpSyncReceive port origin => Sys2Proof.Machine.execPtpSyncReceive port origin s
  | .ptpPdelayExchange port t1 t2 t3 t4 => Sys2Proof.Machine.execPtpPdelayExchange port t1 t2 t3 t4 s
  | .ptpAnnounceTimeout port => Sys2Proof.Machine.execPtpAnnounceTimeout port s
  | .beaconLoss => Sys2Proof.Machine.execBeaconLoss s
  | .successionClaim region => Sys2Proof.Machine.execSuccessionClaim region s
  | .managerRoleTake region => Sys2Proof.Machine.execManagerRoleTake region s
  | .mainsCodeUnlinked => Sys2Proof.Machine.execMainsCodeUnlinked s
  | .mainsCodeSendStart => Sys2Proof.Machine.execMainsCodeSendStart s
  | .mainsCodeFrameReceive => Sys2Proof.Machine.execMainsCodeFrameReceive s
  | .spanLinkLoss port => Sys2Proof.Machine.execSpanLinkLoss port s
  | .pairLinkUp prole pepoch => Sys2Proof.Machine.execPairLinkUp prole pepoch s
  | .pairWaitTimeout => Sys2Proof.Machine.execPairWaitTimeout s
  | .pairSnapshot => Sys2Proof.Machine.execPairSnapshot s
  | .copyFrameReceive epoch segs bad => Sys2Proof.Machine.execCopyFrameReceive epoch segs bad s
  | .syncingToStandby => Sys2Proof.Machine.execSyncingToStandby s
  | .pairTimeExchange t1 t2 t3 t4 => Sys2Proof.Machine.execPairTimeExchange t1 t2 t3 t4 s
  | .healthFrameReceive epoch word prole => Sys2Proof.Machine.execHealthFrameReceive epoch word prole s
  | .authReceive epoch => Sys2Proof.Machine.execAuthReceive epoch s
  | .refGrantInput => Sys2Proof.Machine.execRefGrantInput s
  | .takeoverEnter slot gpi bad => Sys2Proof.Machine.execTakeoverEnter slot gpi bad s
  | .handoffReached => Sys2Proof.Machine.execHandoffReached s
  | .handbackRequest => Sys2Proof.Machine.execHandbackRequest s
  | .hbreqReceive => Sys2Proof.Machine.execHbreqReceive s
  | .hbackReceive h => Sys2Proof.Machine.execHbackReceive h s
  | .pairCmdRequest by_ => Sys2Proof.Machine.execPairCmdRequest by_ s
  | .pairCmdInhibit by_ => Sys2Proof.Machine.execPairCmdInhibit by_ s
  | .pairCmdPermit by_ => Sys2Proof.Machine.execPairCmdPermit by_ s
  | .refereeGrantIssue pair unit => Sys2Proof.Machine.execRefereeGrantIssue pair unit s
  | .pairLaneLoss plane => Sys2Proof.Machine.execPairLaneLoss plane s
  | .safetyInputOpen ch spair second => Sys2Proof.Machine.execSafetyInputOpen ch spair second s
  | .safetyInputClosed ch spair second => Sys2Proof.Machine.execSafetyInputClosed ch spair second s
  | .discrepancyTimeout ch spair => Sys2Proof.Machine.execDiscrepancyTimeout ch spair s
  | .estop1DelayExpiry ch spair => Sys2Proof.Machine.execEstop1DelayExpiry ch spair s
  | .testPulseStart output => Sys2Proof.Machine.execTestPulseStart output s
  | .testPulseEnd output high => Sys2Proof.Machine.execTestPulseEnd output high s
  | .channelStateExchange ch => Sys2Proof.Machine.execChannelStateExchange ch s
  | .heartbeatTimeout ch => Sys2Proof.Machine.execHeartbeatTimeout ch s
  | .clockDeviationCheck ch ppm => Sys2Proof.Machine.execClockDeviationCheck ch ppm s
  | .feedbackTimeout => Sys2Proof.Machine.execFeedbackTimeout s
  | .feedbackDisagreement => Sys2Proof.Machine.execFeedbackDisagreement s
  | .proofDue => Sys2Proof.Machine.execProofDue s
  | .srstRelease pressA pressB => Sys2Proof.Machine.execSrstRelease pressA pressB s
  | .safetyArmComplete same => Sys2Proof.Machine.execSafetyArmComplete same s
  | .jtagTapReset level => Sys2Proof.Machine.execJtagTapReset level s
  | .jtagInstruction instr => Sys2Proof.Machine.execJtagInstruction instr s
  | .bobbinOuterTick st => Sys2Proof.Machine.execBobbinOuterTick st s
  | .idleReceived link who ok l => Sys2Proof.Machine.execIdleReceived link who ok l s
  | .epRxSyncLost link port => Sys2Proof.Machine.execEpRxSyncLost link port s
  | .epStatusConditionChange link uv alm temps => Sys2Proof.Machine.execEpStatusConditionChange link uv alm temps s
  | .pathAOffRepeat => Sys2Proof.Machine.execPathAOffRepeat s
  | .pathBFeedbackChange second level => Sys2Proof.Machine.execPathBFeedbackChange second level s
  | .selfTestCycleComplete ok sbe ue => Sys2Proof.Machine.execSelfTestCycleComplete ok sbe ue s
  | .spanLinkUp port => Sys2Proof.Machine.execSpanLinkUp port s
  | .spanFrameDiscarded port fcs => Sys2Proof.Machine.execSpanFrameDiscarded port fcs s
  | .pairLaneUp plane => Sys2Proof.Machine.execPairLaneUp plane s
  | .ptpAnnounceReceive port gm steps => Sys2Proof.Machine.execPtpAnnounceReceive port gm steps s
  | .ptpMessageInterval port => Sys2Proof.Machine.execPtpMessageInterval port s
  | .ctppsPulse output => Sys2Proof.Machine.execCtppsPulse output s

end Sys2Proof.Machine
end

