-- ==== Sys2Proof/Machine/Idle.lean ====
section
/-! DEFINITION. What one FCLK brings without a command (log entry 15): what the FCLK that ends still sends and decides, then LT and
angle time advance, and every output and status bit that follows time alone is shown as it then stands. What the manual's table
names as a step stays a command. -/

namespace Sys2Proof.Machine

/-- LEFT of every lock that is held (R133, R138). -/
def locksLeft (s : State) : State :=
  each ((List.range 8).filter (fun i => lockStages i s)) lockLeft s

/-- The end of an FCLK: the Hamper evaluates it, the turn-ons that it brought and the OFFs decided in it go out, the leg links carry
their characters, the pair link its frames, the locks whose end it brought are rolled back, the arbiters grant the bursts of the
units, and the requests that stand are counted from it. -/
def fclkEnds (s : State) : State := asksRun (arbTick (locksEnd (uplinksRun (linesRun (pairRun (offsOut (legRises (hmpEval s))))))))

/-- The start of an FCLK: the records that waited are accepted, and the reactions recorded in the FCLK before are executed, and the
cycle engine goes on after a boundary. -/
def fclkStarts (s : State) : State := cycResume (executeReactions (acceptWaiting (tick s)))

/-- One FCLK while LT runs: the FCLK that ends is closed, LT and the Bobbins advance, and the new FCLK shows. -/
def idle (s : State) : State :=
  if s.ltRun then
    offPinsTick (clkOuts (proofShow (gfShow (locksLeft (dmaPulses (heTick (mainsTick (hmpTick (blankingTick (inputsTick (ackTick (adcTick (pulseTick (linkTick
      (fclkStarts (fclkEnds s))))))))))))))))
  else s

end Sys2Proof.Machine
end

