-- ==== Sys2Proof/WellFormed.lean ====
section
/-! DEFINITION. What a command's operands must satisfy beyond their types. A command that is not well formed still has a
meaning; no sender that the manual describes produces one. -/

namespace Sys2Proof

/-- A register address names a 32-bit word (R7). -/
def wordAddr (a : BitVec 32) : Bool := a.toNat % 4 == 0

/-- The words that a run stores lie at word addresses. -/
def wordWrites (l : List (BitVec 32 × BitVec 32)) : Bool := l.all (fun p => wordAddr p.1)

/-- A span payload is at most 1,488 bytes, in whole words (R341, R342). -/
def framePayload (l : List (BitVec 8)) : Bool := decide (l.length ≤ 1488)

def Instr.wf : Instr → Bool
  | .pwValueWordWrite a _ _ | .pwComplementWordWrite a _ _ | .registerWrite a _ _ | .w1cWrite a _ _ _ | .tmbWrite a _ _ =>
    wordAddr a
  | .taskEnd _ l | .taskDeadlineExpiry _ l | .taskException _ l => wordWrites l
  | .entryDelivery _ l => decide (l.length ≤ 5)
  | .dacCheck l => decide (l.length ≤ 96)
  | .imageStreamComplete l _ => !l.isEmpty
  | .dataFrameReceive _ _ _ _ _ _ _ _ l | .stationFrameReceive _ _ _ _ _ _ _ _ l
  | .beaconReceive _ _ _ _ _ _ _ _ l | .claimReceive _ _ _ _ _ _ _ _ l
  | .reportFrameReceive _ _ _ _ _ _ _ _ l | .dispatchReceive _ _ _ _ _ _ _ _ l
  | .triggerFrameReceive _ _ _ _ _ _ _ _ l | .tcalReceive _ _ _ _ _ _ _ _ l
  | .refereeFrameReceive _ _ _ _ _ _ _ _ l =>
    framePayload l
  | _ => true

end Sys2Proof
end

