-- ==== Sys2Proof/Safety.lean ====
section
/-! DEFINITION. What counts as a safe run of the device, and what every step keeps. -/

namespace Sys2Proof.Machine

/-- The register file lists addresses strictly rising. -/
def rising {α : Type} : Tbl α → Bool
  | [] => true
  | [_] => true
  | (a, _) :: (b, y) :: t => decide (a < b) && rising ((b, y) :: t)

/-- What every step keeps: memory in its canonical form (R295), and the register file without a double address. -/
def Inv (s : State) : Prop := Memory.wf s.mem = true ∧ rising s.regs = true

/-- No pulses: every half-bridge is off. The state the manual calls safe (R158). -/
def quiet (s : State) : Prop := ∀ st : Fin 4, pulsesOn st s = false

/-- A run is safe while no Stage that is locked off has its pulses enabled (R208). -/
def safe (s : State) : Prop := ∀ st : Fin 4, locked st s = true → pulsesOn st s = false

/-! Words of the statements about commands. -/

/-- Every register but the listed ones reads as before. -/
def regsKept (l : List Nat) (s t : State) : Prop := ∀ a, a ∉ l → rdW a t = rdW a s

/-- Every byte of memory reads as before. -/
def memKept (s t : State) : Prop := ∀ a, ldB a t = ldB a s

/-- The registers that accepting records may change (R205, R211, R219). -/
def evtRegs : List Nat := [Reg.EVT_NSEQ, Reg.EVT_STAT, Reg.EVT_EVT, Reg.EVT_LOST, Reg.EVT_UCVAL, Reg.EVT_UCWIN]

/-- Records of a source, grade, DETAIL and Stage that wait in the queue, or for an FCLK to be accepted in (R204). -/
def recs (src grade detail : Nat) (stg : Option Nat) (s : State) : Nat :=
  (s.evt.queue ++ s.evt.wait).countP (fun r => r.source == src && r.grade == grade && r.detail == detail % 2 ^ 16
    && r.stgv == stg.isSome && r.stage == stg.getD 0)

/-- The queue has room, and a paired device has numbers left before the next state copy (R205, R215). -/
def roomy (s : State) : Bool :=
  decide (s.evt.queue.length + 32 ≤ queueSize)
    && s.evt.cap.all (fun n => decide ((rd Reg.EVT_NSEQ s + 2 ^ 32 - n) % 2 ^ 32 + 32 ≤ 65535))

/-- A step from `s` to `t` records a source: where there is room, one more such record waits. -/
abbrev recorded (src grade detail : Nat) (stg : Option Nat) (s t : State) : Prop :=
  roomy s = true → recs src grade detail stg s < recs src grade detail stg t

/-- A frame comes next in the open stream `i`, on time and for this device (R343, R345, R349, R354, R355). -/
def inOrder (i : Nat) (f : Frame) (s : State) : Bool :=
  portUp f.port s && s.configured && f.src != ownAddr s && forUs f s
    && (f.cls != 0 || (ctAnchored s && decide (ctNow s ≤ ctsExtend f.cts s / cycleNs s * cycleNs s + freeNs s)))
    && ((s.spn.epochs.find? (fun p => p.1 == f.src)).map (·.2)) == some f.epoch
    && match s.spn.streams.find? (fun p => match p.2 with
        | some x => x.src == f.src && x.dst == f.dst && x.dstk == f.dstk
        | none => false) with
      | some (j, some x) => j == i && x.expect == f.seq && x.held.isEmpty
      | _ => false

/-- An urgent frame for this device with a serial number other than the last one from its source (R346). -/
def urgentNew (f : Frame) (serial : Nat) (s : State) : Bool :=
  portUp f.port s && s.configured && f.src != ownAddr s && forUs f s
    && ((s.spn.epochs.find? (fun p => p.1 == f.src)).map (·.2)) == some f.epoch
    && !(s.spn.serial.find? (fun p => p.1 == f.kind * 2 ^ 18 + f.src)).any (fun p => p.2 == serial)

end Sys2Proof.Machine
end

