-- ==== Sys2Proof/Certificates/Slice0/Obligations.lean ====
section
/-! DEFINITION. The statements about the model. -/

open Sys2Proof Sys2Proof.Machine

/-- With command c at the front of the queue, step is exec of c on the state with the rest of the queue. The queue is the
model's own (log entry 15). -/
def Obligations.StepRunsFront : Prop :=
  ∀ (c : Instr) (rest : List Instr) (s : State), s.pending = c :: rest → step s = exec c { s with pending := rest }

/-- On an empty queue step answers a next state: while LT runs, LT has advanced by 16 eu (R14) and no command's effect
happens; while it does not run, the state is unchanged. That an empty queue is one FCLK is the model's choice (log
entry 15). -/
def Obligations.StepIdles : Prop :=
  ∀ s : State, s.pending = [] → ∃ t, step s = .next t ∧ t.pending = [] ∧ t.configured = s.configured ∧ t.ltRun = s.ltRun
    ∧ (s.ltRun = false → t = s) ∧ (s.ltRun = true → t.lt = (s.lt + 16) % 2 ^ 64)

/-- Every state has a next state: no command of the table stops the block. -/
def Obligations.StepNeverStops : Prop :=
  ∀ s : State, ∃ t, step s = .next t

/-- Whatever a command does, the commands that wait behind it are as before. -/
def Obligations.ExecKeepsQueue : Prop :=
  ∀ (c : Instr) (s t : State), exec c s = .next t → t.pending = s.pending

/-- In every state whose memory is in its canonical form (addresses strictly rising, no cell equal to what an unlisted
address reads as) and whose register file lists each address once in rising order, every step leaves both so. -/
def Obligations.StepKeepsForms : Prop :=
  ∀ s t : State, Inv s → step s = .next t → Inv t

/-- The invariant that every step keeps holds in the reset state. -/
def Obligations.ResetMeetsForms : Prop :=
  Inv State.reset

/-- Whatever step is taken, a device reset included, the rollback counter ARB never falls, a revoked key slot stays
revoked and a burned TESTLOCK stays burned. -/
def Obligations.FusesStayBurned : Prop :=
  ∀ s t : State, step s = .next t → s.nv.arb ≤ t.nv.arb
    ∧ (∀ k, s.nv.revoked.testBit k = true → t.nv.revoked.testBit k = true)
    ∧ (s.nv.testlock = true → t.nv.testlock = true)

/-- Every step only appends to the record of what the device and the endpoints have sent and driven (log entry 3). -/
def Obligations.SentStaysSent : Prop :=
  ∀ s t : State, step s = .next t → s.out <+: t.out

/-- In the reset state no command waits, LT does not run and is 0, the device is not configured, memory lists nothing, and
the registers that the maps give a reset value other than 0 hold it: SYS_ID, STI_GSTAT, ADC_GSTAT, CYC_STAT, PWR_STAT,
PGN_HSTAT, LLK_STAT, SAF_PSTAT and the slice gains; a few registers with reset 0 read 0. -/
def Obligations.ResetValues : Prop :=
  State.reset.pending = [] ∧ State.reset.lt = 0 ∧ State.reset.ltRun = false ∧ State.reset.configured = false
    ∧ State.reset.mem = []
    ∧ rd Reg.SYS_ID State.reset = 0x72600001 ∧ rd Reg.STI_GSTAT State.reset = 0xF ∧ rd Reg.ADC_GSTAT State.reset = 0x100
    ∧ rd Reg.CYC_STAT State.reset = 0x1F ∧ rd Reg.PWR_STAT State.reset = 0x200
    ∧ (∀ h : Fin 104, rd (Reg.PGN_HSTAT h) State.reset = 3) ∧ (∀ n : Fin 24, rd (Reg.LLK_STAT n) State.reset = 7)
    ∧ (∀ n : Fin 8, rd (Reg.SAF_PSTAT n) State.reset = 3)
    ∧ (∀ b : Fin 4, ∀ k : Fin 5, rd (Reg.ADC_SGAIN b k) State.reset = 0x100000)
    ∧ rd Reg.EVT_G5CAUSE State.reset = 0 ∧ (∀ st : Fin 4, rd (Reg.DRM_SSTAT st) State.reset = 0)
    ∧ rd Reg.SEC_ARB State.reset = 0 ∧ rd Reg.PAR_STAT State.reset = 0

/-- Power-good with PORST_N high ends the reset. A PORST_N pulse, a rail below its reset level and a test-port reset
return every register to its reset value, empty memory and the event queue, stop LT, keep the OTP bits, and leave the
cause in SYS_RSTCAUSE: 1, 2 (0 with all nine rails below, 4 during a retain save) and 3; RAIL names the rail. The
choice of cause among 0, 2 and 4 is the model's reading (DEDUCED). A device that is already held in reset keeps its
cause. Each clause concludes that exec answers the next state it describes, under hypotheses on the state and the
operands alone. -/
def Obligations.DeviceResets : Prop :=
  (∀ (s : State), exec .powerGood s = .next ({ s with pwr := { s.pwr with held := false } }))
  ∧ (∀ (s : State), s.pwr.held = false → ∃ t, exec .porstPulse s = .next t ∧ rd Reg.SYS_RSTCAUSE t = 1 ∧ t.configured
      = false ∧ t.ltRun = false ∧ t.pwr.held = true ∧ t.mem = [] ∧ t.evt.queue = [] ∧ t.pending = s.pending ∧ t.nv.arb
      = s.nv.arb ∧ t.nv.keys = s.nv.keys ∧ t.nv.revoked = s.nv.revoked ∧ t.nv.testlock = s.nv.testlock ∧ (∀ a, a ≠
      Reg.SYS_RSTCAUSE → rdW a t = resetValue a))
  ∧ (∀ (s : State), s.pwr.held = true → exec .porstPulse s = .next s)
  ∧ (∀ (rail : Fin 9) (below : BitVec 9) (s : State), s.pwr.saveAt = none → below.toNat ||| 2 ^ rail.val ≠ 511 → ∃ t,
      exec (.railReset rail below) s = .next t ∧ rd Reg.SYS_RSTCAUSE t = 2 + 16 * rail ∧ t.configured = false ∧ t.ltRun
      = false ∧ t.pwr.held = true ∧ t.mem = [] ∧ t.evt.queue = [] ∧ t.pending = s.pending ∧ t.nv.arb = s.nv.arb
      ∧ t.nv.keys = s.nv.keys ∧ t.nv.revoked = s.nv.revoked ∧ t.nv.testlock = s.nv.testlock ∧ (∀ a, a ≠
      Reg.SYS_RSTCAUSE → rdW a t = resetValue a))
  ∧ (∀ (rail : Fin 9) (below : BitVec 9) (s : State), s.pwr.saveAt = none → below.toNat ||| 2 ^ rail.val = 511 → ∃ t,
      exec (.railReset rail below) s = .next t ∧ rd Reg.SYS_RSTCAUSE t = 16 * rail ∧ t.configured = false ∧ t.ltRun
      = false ∧ t.pwr.held = true ∧ t.mem = [] ∧ t.evt.queue = [] ∧ t.pending = s.pending ∧ t.nv.arb = s.nv.arb
      ∧ t.nv.keys = s.nv.keys ∧ t.nv.revoked = s.nv.revoked ∧ t.nv.testlock = s.nv.testlock ∧ (∀ a, a ≠
      Reg.SYS_RSTCAUSE → rdW a t = resetValue a))
  ∧ (∀ (rail : Fin 9) (below : BitVec 9) (s : State), s.pwr.saveAt.isSome = true → ∃ t, exec (.railReset rail below) s
      = .next t ∧ rd Reg.SYS_RSTCAUSE t = 4 + 16 * rail ∧ t.configured = false ∧ t.ltRun = false ∧ t.pwr.held = true
      ∧ t.mem = [] ∧ t.evt.queue = [] ∧ t.pending = s.pending ∧ t.nv.arb = s.nv.arb ∧ t.nv.keys = s.nv.keys
      ∧ t.nv.revoked = s.nv.revoked ∧ t.nv.testlock = s.nv.testlock ∧ (∀ a, a ≠ Reg.SYS_RSTCAUSE → rdW a t = resetValue
      a))
  ∧ (∀ (s : State), s.pwr.held = false → ∃ t, exec .testPortReset s = .next t ∧ rd Reg.SYS_RSTCAUSE t = 3
      ∧ t.configured = false ∧ t.ltRun = false ∧ t.pwr.held = true ∧ t.mem = [] ∧ t.evt.queue = [] ∧ t.pending
      = s.pending ∧ t.nv.arb = s.nv.arb ∧ t.nv.keys = s.nv.keys ∧ t.nv.revoked = s.nv.revoked ∧ t.nv.testlock
      = s.nv.testlock ∧ (∀ a, a ≠ Reg.SYS_RSTCAUSE → rdW a t = resetValue a))

/-- At the first lock LT starts at 0, the SEC registers show OTP and the loader is in state 1. An image that passes the
header checks is held with its SHA-256 digest in SEC_DIGEST0-7, the loader goes to state 2, and only the destinations
of its sections change in memory; one that fails them is refused with its cause, its SYS_CFGREF and state 5, and no
record stays. DRAM training that ends well sets DRAMRDY; one that fails is held against the image, which configuration
completion then refuses with cause 0x0D. A verified signature not below ARB gives state 3 with SYS_IMGINFO and the
build; the first failure repeats the load, the second refuses it with 0x08; a version below ARB is refused with 0x09,
and so is one above 64 (the model's choice, log entry 209). Each clause concludes that exec answers the next state it
describes, under hypotheses on the state and the operands alone. -/
def Obligations.ImageLoadSteps : Prop :=
  (∀ (s : State), s.pwr.held = false → s.ltRun = false → ∃ t, exec .syspllFirstLock s = .next t ∧ t.ltRun = true ∧ t.lt
      = 0 ∧ loadState t = 1 ∧ rd Reg.SEC_ARB t = s.nv.arb % 2 ^ 32 ∧ bitAt Reg.SEC_OTP 8 t = s.nv.testlock ∧ t.out
      = s.out ++ [Out.pin "XSPI_RST_N" 0 0 0, Out.pin "XSPI_RST_N" 0 1 (10 * us)] ∧ t.nv = s.nv ∧ t.mem = s.mem
      ∧ t.configured = s.configured ∧ regsKept [Reg.SEC_ARB, Reg.SEC_OTP, Reg.CLK_STAT, Reg.SYS_CFGSTAT] s t)
  ∧ (∀ (image : List (BitVec 8)) (flash : Bool) (s : State), s.ltRun = true → loadState s = 1 → imHeaderCheck flash
      (image.map BitVec.toNat) s = none → ∃ t, exec (.imageStreamComplete image flash) s = .next t ∧ loadState t = 2
      ∧ t.pwr.img = some (image.map BitVec.toNat) ∧ t.pwr.digest = sha256 (imBytes (image.map BitVec.toNat) 0 (imSigofs
      (image.map BitVec.toNat))) ∧ (∀ n : Fin 8, rd (Reg.SEC_DIGEST n) t = imN t.pwr.digest (4 * n) 4 % 2 ^ 32) ∧ (∀ a,
      (∀ x ∈ imSects (image.map BitVec.toNat), (x.kind = secCode ∨ x.kind = secInit) → a < x.dest ∨ x.dest + x.len ≤ a)
      → ldB a t = ldB a s) ∧ t.nv = s.nv ∧ regsKept (Reg.SYS_CFGSTAT :: (List.range 8).map Reg.SEC_DIGEST) s t)
  ∧ (∀ (image : List (BitVec 8)) (flash : Bool) (c r : Nat) (s : State), s.ltRun = true → loadState s = 1
      → imHeaderCheck flash (image.map BitVec.toNat) s = some (c, r) → ∃ t, exec (.imageStreamComplete image flash) s
      = .next t ∧ loadState t = 5 ∧ fl Reg.SYS_CFGSTAT Reg.SYS_CFGSTAT_CAUSE t = c % 256 ∧ rd Reg.SYS_CFGREF t = r % 2
      ^ 32 ∧ t.evt.queue = [] ∧ t.pwr.img = none ∧ t.nv = s.nv ∧ (∀ a, ldB a t = if inProg a 1 || inData a 1 then
      Memory.unlisted else ldB a s))
  ∧ (∀ (ok : Bool) (img : List Nat) (s : State), s.pwr.train = true → s.pwr.img = some img → ok = true → ∃ t, exec
      (.dramTrainingComplete ok) s = .next t ∧ on Reg.MEM_STAT Reg.MEM_STAT_DRAMRDY t = true ∧ t.pwr.train = false
      ∧ t.pwr.img = some img ∧ regsKept [Reg.MEM_STAT] s t ∧ t.nv = s.nv)
  ∧ (∀ (ok : Bool) (img : List Nat) (s : State), s.pwr.train = true → s.pwr.img = some img → ok = false → exec
      (.dramTrainingComplete ok) s = .next ({ s with pwr := { s.pwr with train := false, trainBad := true } }))
  ∧ (∀ (img : List Nat) (s : State), s.pwr.img = some img → loadState s = 2 → s.pwr.train = false → signed_ img
      s.pwr.digest = true → s.nv.arb ≤ imSvn img → imSvn img ≤ 64 → (imTestmode img && s.nv.testlock) = false → ∃ t,
      exec .signatureVerified s = .next t ∧ loadState t = 3 ∧ rd Reg.SYS_IMGINFO t = imSvn img % 128 + 256 * imKeyslot
      img + (if imTestmode img then 1024 else 0) ∧ rd Reg.SYS_BUILDID t = imBuild img ∧ t.pwr = s.pwr ∧ t.mem = s.mem
      ∧ t.nv = s.nv ∧ regsKept [Reg.SYS_IMGINFO, Reg.SYS_BUILDID, Reg.SEC_STAT, Reg.SYS_CFGSTAT] s t)
  ∧ (∀ (img : List Nat) (s : State), s.pwr.img = some img → loadState s = 2 → s.pwr.train = false → signed_ img
      s.pwr.digest = false → on Reg.SYS_CFGSTAT Reg.SYS_CFGSTAT_REPEAT s = false → ∃ t, exec .signatureVerified s
      = .next t ∧ loadState t = 1 ∧ on Reg.SYS_CFGSTAT Reg.SYS_CFGSTAT_REPEAT t = true ∧ t.pwr.img = none ∧ t.mem
      = s.mem ∧ regsKept [Reg.SYS_CFGSTAT] s t)
  ∧ (∀ (img : List Nat) (s : State), s.pwr.img = some img → loadState s = 2 → s.pwr.train = false → signed_ img
      s.pwr.digest = false → on Reg.SYS_CFGSTAT Reg.SYS_CFGSTAT_REPEAT s = true → ∃ t, exec .signatureVerified s
      = .next t ∧ loadState t = 5 ∧ fl Reg.SYS_CFGSTAT Reg.SYS_CFGSTAT_CAUSE t = 8 ∧ t.pwr.img = none ∧ t.nv = s.nv)
  ∧ (∀ (img : List Nat) (s : State), s.pwr.img = some img → loadState s = 2 → s.pwr.train = false → signed_ img
      s.pwr.digest = true → (imSvn img < s.nv.arb ∨ 64 < imSvn img) → ∃ t, exec .signatureVerified s = .next t
      ∧ loadState t = 5 ∧ fl Reg.SYS_CFGSTAT Reg.SYS_CFGSTAT_CAUSE t = 9 ∧ rd Reg.SYS_CFGREF t = s.nv.arb % 2 ^ 32
      ∧ t.nv = s.nv)

/-- A verified image that passes the value checks and Tack admission configures the device in one FCLK: the loader state
is 4, SYS_TCOMP and the device's own completion instant are this FCLK, every Stage with angle time starts at AT 0 on
the word FNOM, the GPIO outputs are low and EV13 is recorded with the reset cause. Any other image leaves the device
UNCONFIGURED, state 5, with cause 0x0B, 0x0C, or 0x0D after a training that failed. When every condition of R425
holds, GFREADY is set, SYS_TGF holds LT and GFRDY goes high; else nothing is driven. Each clause concludes that exec
answers the next state it describes, under hypotheses on the state and the operands alone. -/
def Obligations.ConfigurationTakesEffect : Prop :=
  (∀ (img : List Nat) (s : State), s.pwr.img = some img → loadState s = 3 → s.configured = false → ∃ t, exec
      .configurationCompletion s = .next t ∧ (t.configured = true ↔ writeCheck img = none ∧ firstBad (allChecks img
      (imageRegs img { s with cyc := { s.cyc with prog := programOf (imSection img secSegtab) } })) = none ∧ slotCheck
      img (imageRegs img { s with cyc := { s.cyc with prog := programOf (imSection img secSegtab) } }) = none
      ∧ s.pwr.trainBad = false) ∧ (t.configured = true → loadState t = 4 ∧ t.cc = s.lt ∧ rd64 Reg.SYS_TCOMP_LO
      Reg.SYS_TCOMP_HI t = s.lt % 2 ^ 64 ∧ t.gpioOut = 0 ∧ (∀ st : Fin 4, hasAngle st t = true → atOf st t = 0 ∧ wordOf
      st t = fnomOf st t % 2 ^ 48) ∧ recorded 13 0 (rd Reg.SYS_RSTCAUSE t % 16) none s t) ∧ (t.configured = false
      → loadState t = 5 ∧ t.evt.queue = [] ∧ (fl Reg.SYS_CFGSTAT Reg.SYS_CFGSTAT_CAUSE t = 0x0B ∨ fl Reg.SYS_CFGSTAT
      Reg.SYS_CFGSTAT_CAUSE t = 0x0C ∨ s.pwr.trainBad = true ∧ fl Reg.SYS_CFGSTAT Reg.SYS_CFGSTAT_CAUSE t = 0x0D)))
  ∧ (∀ (s : State), rd Reg.SYS_GFSTAT (gfShow s) % 256 = 0x7F → ∃ t, exec .gridFormingReady s = .next t ∧ on
      Reg.SYS_GFSTAT Reg.SYS_GFSTAT_GFREADY t = true ∧ rd64 Reg.SYS_TGF_LO Reg.SYS_TGF_HI t = s.lt % 2 ^ 64 ∧ t.out
      = s.out ++ [Out.pin "GFRDY" 0 1 s.lt] ∧ t.mem = s.mem ∧ t.evt = s.evt ∧ regsKept [Reg.SYS_GFSTAT, Reg.SYS_TGF_LO,
      Reg.SYS_TGF_HI] s t)
  ∧ (∀ (s : State), rd Reg.SYS_GFSTAT (gfShow s) % 256 ≠ 0x7F → exec .gridFormingReady s = .next (gfShow s))

/-- A rail below its warning level clears SUPGOOD, shows the rail and records EV4 with its index; the first warning of a
configured device with retain sectors, no save and no erase starts the save. With every rail good SUPGOOD is set and
EV5 recorded. The save begins once the snapshot is taken; a verified header makes the target sector current with the
next number, the build and the bytes of the snapshot, and EV6; a failed save leaves the current sector as it was, its
target partial, and records EV7 with DETAIL 2. The erase that is then owed begins with SUPGOOD, and its end leaves the
non-current sector erased. Each clause concludes that exec answers the next state it describes, under hypotheses on
the state and the operands alone. -/
def Obligations.SuppliesAndRetainSave : Prop :=
  (∀ (rail : Fin 9) (s : State), s.ltRun = true → ∃ t, exec (.supplyWarning rail) s = .next t ∧ bitAt Reg.PWR_STAT rail
      t = true ∧ bitAt Reg.PWR_STAT 9 t = false ∧ bitAt Reg.PWR_EVT 0 t = true ∧ recorded 4 0 rail none s t ∧ t.mem
      = s.mem ∧ t.nv.sectA = s.nv.sectA ∧ t.nv.sectB = s.nv.sectB ∧ t.nv.arb = s.nv.arb ∧ t.nv.keys = s.nv.keys
      ∧ t.nv.revoked = s.nv.revoked ∧ (s.pwr.busy = false → t.nv = s.nv))
  ∧ (∀ (rail : Fin 9) (s : State), s.ltRun = true → supGood s = true → s.configured = true → hasSectors s = true
      → saving s = false → s.pwr.eraseOwed = false → s.pwr.erasing = false → ∃ t, exec (.supplyWarning rail) s = .next
      t ∧ saving t = true ∧ t.pwr.warnAt = some s.lt ∧ t.pwr.snap = none ∧ t.pwr.saveAt = none)
  ∧ (∀ (s : State), s.ltRun = true → supGood s = false → ∃ t, exec .supplyGood s = .next t ∧ supGood t = true ∧ (∀ k :
      Fin 9, bitAt Reg.PWR_STAT k t = false) ∧ bitAt Reg.PWR_EVT 1 t = true ∧ recorded 5 0 0 none s t ∧ t.mem = s.mem
      ∧ t.nv = s.nv)
  ∧ (∀ (s : State), s.pwr.snap.isSome = true → s.pwr.saveAt = none → saving s = true → ∃ t, exec .retainSaveStart s
      = .next t ∧ t.pwr.saveAt = some (s.lt, targetSector s == Sector.erased) ∧ t.pwr.busy = false ∧ t.nv = s.nv
      ∧ t.mem = s.mem ∧ t.evt = s.evt)
  ∧ (∀ (ok : Bool) (w n : Nat) (d : List Byte) (s : State), s.pwr.saveAt = some (w, true) → s.pwr.snap = some (n, d)
      → ok = true → ∃ t, exec (.retainSaveComplete ok) s = .next t ∧ curB t = !curB s ∧ curSector t = Sector.saved ((rd
      Reg.PWR_SAVESEQ s + 1) % 2 ^ 32) (rd Reg.CYC_BUILDID s) (on Reg.CYC_STAT Reg.CYC_STAT_SNAPINC s) d ∧ targetSector
      t = curSector s ∧ saving t = false ∧ t.pwr.eraseOwed = true ∧ recorded 6 0 0 none s t ∧ t.mem = s.mem ∧ t.nv.user
      = s.nv.user)
  ∧ (∀ (ok : Bool) (w n : Nat) (d : List Byte) (s : State), s.pwr.saveAt = some (w, true) → s.pwr.snap = some (n, d)
      → ok = false → ∃ t, exec (.retainSaveComplete ok) s = .next t ∧ curSector t = curSector s ∧ targetSector t
      = Sector.partial_ ∧ saving t = false ∧ t.pwr.eraseOwed = true ∧ recorded 7 0 2 none s t ∧ t.mem = s.mem
      ∧ t.nv.user = s.nv.user)
  ∧ (∀ (s : State), s.pwr.eraseOwed = true → s.pwr.erasing = false → supGood s = true → saving s = false → s.pwr.busy
      = false → exec .retainSectorErase s = .next (setBitAt Reg.PWR_STAT 11 true
      { s with pwr := { s.pwr with erasing := true } }))
  ∧ (∀ (s : State), s.pwr.erasing = true → ∃ t, exec .retainSectorEraseComplete s = .next t ∧ targetSector t
      = Sector.erased ∧ curSector t = curSector s ∧ t.pwr.erasing = false ∧ t.pwr.eraseOwed = false ∧ bitAt
      Reg.PWR_STAT 11 t = false ∧ t.nv.user = s.nv.user ∧ t.mem = s.mem)

/-- A WRITE inside the user area and data SRAM, or an ERASE inside the user area, joins the queue of requests while fewer
than eight wait and no save runs; a request outside shows result 2 and queues nothing. An erase that ends well leaves
every byte of its sector at 0xFF and the others as they were. One step of the burn in progress, at the head of the
queue, raises ARB by 1 towards its target, or revokes one slot. A key burn by the test port of an UNCONFIGURED device
puts the staged hash into an empty slot (result 1) and is refused for a programmed or revoked slot (result 2); LOCK
burns TESTLOCK. Each clause concludes that exec answers the next state it describes, under hypotheses on the state and
the operands alone. -/
def Obligations.FlashAndFuses : Prop :=
  (∀ (by_ : Fin 19) (s : State), mayStore Reg.PWR_NVMCMD by_ s = true → 1 ≤ rd Reg.PWR_NVMLEN s % 2 ^ 13 → rd
      Reg.PWR_NVMLEN s % 2 ^ 13 ≤ 4096 → rd Reg.PWR_NVMDST s + rd Reg.PWR_NVMLEN s % 2 ^ 13 ≤ rd Reg.PWR_USRSIZE s
      → inData (rd Reg.PWR_NVMSRC s) (rd Reg.PWR_NVMLEN s % 2 ^ 13) = true → s.pwr.queue.length < 8 → saving s = false
      → ∃ t, exec (.nvmWrite by_) s = .next t ∧ t.pwr.queue = s.pwr.queue ++ [NvmOp.write (rd Reg.PWR_NVMSRC s) (rd
      Reg.PWR_USRBASE s + rd Reg.PWR_NVMDST s) (rd Reg.PWR_NVMLEN s % 2 ^ 13)] ∧ t.nv = s.nv ∧ t.mem = s.mem)
  ∧ (∀ (by_ : Fin 19) (s : State), mayStore Reg.PWR_NVMCMD by_ s = true → rd Reg.PWR_USRSIZE s < rd Reg.PWR_NVMDST s
      + rd Reg.PWR_NVMLEN s % 2 ^ 13 → ∃ t, exec (.nvmWrite by_) s = .next t ∧ t.pwr.queue = s.pwr.queue ∧ fl
      Reg.PWR_NVMSTAT ⟨0, 2⟩ t = 2 ∧ t.nv = s.nv ∧ t.mem = s.mem)
  ∧ (∀ (by_ : Fin 19) (s : State), mayStore Reg.PWR_NVMCMD by_ s = true → rd Reg.PWR_NVMDST s < rd Reg.PWR_USRSIZE s
      → s.pwr.queue.length < 8 → saving s = false → ∃ t, exec (.nvmErase by_) s = .next t ∧ t.pwr.queue = s.pwr.queue
      ++ [NvmOp.erase (rd Reg.PWR_USRBASE s + rd Reg.PWR_NVMDST s)] ∧ t.nv = s.nv ∧ t.mem = s.mem)
  ∧ (∀ (ok : Bool) (d : Nat) (q : List NvmOp) (s : State), s.pwr.busy = true → s.pwr.queue = NvmOp.erase d :: q → ok
      = true → ∃ t, exec (.nvmOperationComplete ok) s = .next t ∧ t.pwr.queue = q ∧ fl Reg.PWR_NVMSTAT ⟨0, 2⟩ t = 1
      ∧ (∀ a, Tbl.get 0xFF t.nv.user a = if a / Config.sectorBytes = d / Config.sectorBytes then 0xFF else Tbl.get 0xFF
      s.nv.user a) ∧ t.nv.arb = s.nv.arb ∧ t.nv.keys = s.nv.keys ∧ t.mem = s.mem)
  ∧ (∀ (ok : Bool) (n : Nat) (q : List NvmOp) (s : State), s.pwr.busy = true → s.pwr.queue = NvmOp.arb n :: q → ok
      = true → s.nv.arb < n → ∃ t, exec (.otpBurn ok) s = .next t ∧ t.nv = { s.nv with arb := s.nv.arb + 1 } ∧ rd
      Reg.SEC_ARB t = (s.nv.arb + 1) % 2 ^ 32 ∧ t.pwr.queue = (if s.nv.arb + 1 = n then q else s.pwr.queue) ∧ t.mem
      = s.mem)
  ∧ (∀ (ok : Bool) (k : Nat) (q : List NvmOp) (s : State), s.pwr.busy = true → s.pwr.queue = NvmOp.revoke k :: q → ok
      = true → ∃ t, exec (.otpBurn ok) s = .next t ∧ t.nv = { s.nv with revoked := setBit s.nv.revoked k true }
      ∧ t.pwr.queue = q ∧ t.mem = s.mem)
  ∧ (∀ (slot : Fin 4) (ok : Bool) (by_ : Fin 19) (s : State), by_ = 18 → unconfigured s = true → s.nv.keys.any (fun p
      => p.1 == slot) = false → s.nv.revoked.testBit slot = false → ok = true → ∃ t, exec (.keyBurn slot ok by_) s
      = .next t ∧ Tbl.get [] t.nv.keys slot = (List.range 32).map (fun i => rd (Reg.SEC_KHASH (i / 4)) s / 256 ^ (i %
      4) % 256) ∧ fl Reg.SEC_STAT ⟨4, 2⟩ t = 1 ∧ t.nv.arb = s.nv.arb ∧ t.nv.testlock = s.nv.testlock ∧ (∀ k, k ≠
      slot.val → Tbl.get [] t.nv.keys k = Tbl.get [] s.nv.keys k) ∧ regsKept [Reg.SEC_STAT] s t ∧ t.mem = s.mem)
  ∧ (∀ (slot : Fin 4) (ok : Bool) (by_ : Fin 19) (s : State), by_ = 18 → unconfigured s = true → (s.nv.keys.any (fun p
      => p.1 == slot) = true ∨ s.nv.revoked.testBit slot = true) → ∃ t, exec (.keyBurn slot ok by_) s = .next t ∧ fl
      Reg.SEC_STAT ⟨4, 2⟩ t = 2 ∧ t.nv = s.nv ∧ regsKept [Reg.SEC_STAT] s t)
  ∧ (∀ (ok : Bool) (by_ : Fin 19) (s : State), by_ = 18 → unconfigured s = true → ∃ t, exec (.testlockBurn ok by_) s
      = .next t ∧ (ok = true → t.nv = { s.nv with testlock := true }) ∧ (ok = false → t.nv = s.nv) ∧ fl Reg.SEC_STAT
      ⟨4, 2⟩ t = (if ok then 1 else 3) ∧ regsKept [Reg.SEC_STAT] s t)

/-- A reading goes to PWR_TJ; above TJWARN a configured device records EV12. Above TJMAX for 1 ms every Stage with an
enabled half-bridge takes a G3 cause and EV12 grade 3 is recorded. A lost reference puts SYSPLL into holdover and hops
to the first present fallback entry; without one EV10 with 0x200 is recorded. A hop request to a present entry starts
a hop, another shows HOPREF. A completed hop takes the entry into use and records EV10. A band search marks its entry
VALID with the band. The ramp moves y by at most RATE × 1 µs, once every microsecond. A PLL that unlocks records EV9
(grade 5 for the first two) and one that locks again shows its bit. Each clause concludes that exec answers the next
state it describes, under hypotheses on the state and the operands alone. -/
def Obligations.DieTemperatureAndClocks : Prop :=
  (∀ (tj : BitVec 16) (s : State), s.ltRun = true → ∃ t, exec (.tjRead tj) s = .next t ∧ rd Reg.PWR_TJ t = tj.toNat
      ∧ t.mem = s.mem ∧ t.nv = s.nv)
  ∧ (∀ (tj : BitVec 16) (s : State), s.ltRun = true → s.configured = true → tjLimit 0 s < tj.toInt → ∃ t, exec (.tjRead
      tj) s = .next t ∧ recorded 12 0 0 none s t ∧ bitAt Reg.PWR_EVT 5 t = true)
  ∧ (∀ (u : Nat) (st : Fin 4) (s : State), s.pwr.overAt = some u → u + ms ≤ s.lt → hbsOf st s ≠ [] → tjCause ∉ g3Of st
      s → ∃ t, exec .tjOvertemp s = .next t ∧ tjCause ∈ g3Of st t ∧ recorded 12 3 0 none s t ∧ t.mem = s.mem ∧ t.nv
      = s.nv)
  ∧ (∀ (refs : BitVec 2) (k : Nat) (s : State), s.ltRun = true → s.clk.hop = none → (fallbacks s).head? = some k
      → entryOn k s = true → (entryRef k s).1 ≠ s.clk.ref.1 → refPresent k refs.toNat s = true → ∃ t, exec
      (.referenceLoss refs) s = .next t ∧ on Reg.CLK_STAT Reg.CLK_STAT_HOLD t = true ∧ on Reg.CLK_STAT
      Reg.CLK_STAT_HOPPING t = true ∧ t.clk.hop = some (k, true) ∧ t.clk.lossAt = some s.lt ∧ on Reg.CLK_EVT
      Reg.CLK_EVT_REFLOSS t = true ∧ t.mem = s.mem ∧ t.evt = s.evt)
  ∧ (∀ (refs : BitVec 2) (s : State), s.ltRun = true → fallbacks s = [] → ∃ t, exec (.referenceLoss refs) s = .next t
      ∧ on Reg.CLK_STAT Reg.CLK_STAT_HOLD t = true ∧ t.clk.hop = none ∧ recorded 10 1 0x200 none s t ∧ t.mem = s.mem)
  ∧ (∀ (entry : Fin 16) (refs : BitVec 2) (by_ : Fin 19) (s : State), mayStore Reg.CLK_HOPREQ by_ s = true → hopping s
      = false → entryOn entry s = true → refPresent entry refs.toNat s = true → s.clk.lossAt ≠ some s.lt → ∃ t, exec
      (.hopRequest entry refs by_) s = .next t ∧ t.clk.hop = some (entry.val, false) ∧ t.clk.hopAt = some s.lt ∧ on
      Reg.CLK_STAT Reg.CLK_STAT_HOPPING t = true ∧ on Reg.CLK_STAT Reg.CLK_STAT_HOLD t = true ∧ t.mem = s.mem)
  ∧ (∀ (entry : Fin 16) (refs : BitVec 2) (by_ : Fin 19) (s : State), mayStore Reg.CLK_HOPREQ by_ s = true → hopping s
      = true → ∃ t, exec (.hopRequest entry refs by_) s = .next t ∧ t.clk.hop = s.clk.hop ∧ on Reg.CLK_EVT
      Reg.CLK_EVT_HOPREF t = true ∧ t.mem = s.mem)
  ∧ (∀ (k : Nat) (a : Bool) (s : State), s.clk.hop = some (k, a) → entryValid k s = true → k < 16 → ∃ t, exec
      .hopComplete s = .next t ∧ t.clk.hop = none ∧ fl Reg.CLK_STAT Reg.CLK_STAT_ENTRY t = k ∧ on Reg.CLK_STAT
      Reg.CLK_STAT_HOLD t = false ∧ on Reg.CLK_STAT Reg.CLK_STAT_HOPPING t = false ∧ recorded 10 0 (if a then 0x100 + k
      else k) none s t ∧ t.mem = s.mem)
  ∧ (∀ (entry : Fin 16) (band : BitVec 7) (s : State), s.configured = true → entryOn entry s = true → entryValid entry
      s = false → ∃ t, exec (.bandSearchComplete entry band) s = .next t ∧ entryValid entry t = true ∧ fl
      (Reg.CLK_CSTAT entry) Reg.CLK_CSTAT_BAND t = band.toNat ∧ fl (Reg.CLK_CSTAT entry) Reg.CLK_CSTAT_TSRCH t = tjCode
      s % 2 ^ Reg.CLK_CSTAT_TSRCH.width ∧ t.mem = s.mem ∧ t.evt = s.evt)
  ∧ (∀ (s : State), rampDue s = false → exec .yRampStep s = .next s)
  ∧ (∀ (s : State), rampDue s = true → ∃ t, exec .yRampStep s = .next t ∧ t.clk.y ≤ s.clk.y + slewRate s * 2 ^ 36
      ∧ s.clk.y - slewRate s * 2 ^ 36 ≤ t.clk.y ∧ rdI Reg.CLK_Y t = (BitVec.ofInt 32 (roundDiv t.clk.y (10 ^
      12))).toInt ∧ fl Reg.CLK_STAT Reg.CLK_STAT_ESRC t = freshSource s ∧ regsKept [Reg.CLK_STAT, Reg.CLK_YTGT,
      Reg.CLK_Y] s t ∧ t.mem = s.mem ∧ t.evt = s.evt)
  ∧ (∀ (pll : Fin 6) (s : State), bitAt Reg.CLK_STAT pll s = true → ∃ t, exec (.pllUnlock pll) s = .next t ∧ recorded 9
      (if pll.val < 2 then 5 else 1) pll none s t ∧ bitAt Reg.CLK_STAT pll t = false ∧ t.nv = s.nv)
  ∧ (∀ (pll : Fin 6) (s : State), bitAt Reg.CLK_STAT pll s = false → s.ltRun = true → ∃ t, exec (.pllRelock pll) s
      = .next t ∧ bitAt Reg.CLK_STAT pll t = true ∧ (∀ st : Fin 4, (⟨9, pll⟩ : Cause) ∉ g5Of st t) ∧ t.mem = s.mem
      ∧ t.nv = s.nv)
  ∧ (∀ (output : Fin 6) (u : Nat) (s : State), ppsAt s = some u → s.configured = true → outOn output s = true → outSrc
      output s = 2 → ctAnchored s = true → exec (.ctppsPulse output) s = .next (outLevel output 0 (u + us * fl
      (Reg.CLK_OCFG output) ⟨18, 10⟩ s) (outLevel output 1 u s)))

/-- A BOB_SRCREQ pair that R22 accepts waits as the Stage's one request, with its KIND; one that it refuses leaves the
waiting request, sets REFUSED and records EV16 with the code. A read of BOB_LT_LO latches LT; a read of BOB_AT_LO
latches the AT of the Stage, or 0 without angle time, and LT with it. Nothing else changes by a latch. Each clause
concludes that exec answers the next state it describes, under hypotheses on the state and the operands alone. -/
def Obligations.SourceRequests : Prop :=
  (∀ (st : Fin 4) (src : BitVec 3) (s : State), stores s = true → srcRefusal st src.toNat 0 s = 0 → ∃ t, exec
      (.slewRequest st src) s = .next t ∧ (bobOf st t).req = some (src.toNat, 0) ∧ rd (Reg.BOB_SRCREQ st) t = src.toNat
      ∧ (bobOf st t).phase = (bobOf st s).phase ∧ t.mem = s.mem ∧ t.nv = s.nv)
  ∧ (∀ (st : Fin 4) (src : BitVec 3) (s : State), stores s = true → srcRefusal st src.toNat 0 s ≠ 0 → ∃ t, exec
      (.slewRequest st src) s = .next t ∧ (bobOf st t).req = (bobOf st s).req ∧ on (Reg.BOB_EVT st) Reg.BOB_EVT_REFUSED
      t = true ∧ recorded 16 0 (srcRefusal st src.toNat 0 s) (some st) s t ∧ t.mem = s.mem)
  ∧ (∀ (st : Fin 4) (src : BitVec 3) (s : State), stores s = true → srcRefusal st src.toNat 1 s = 0 → ∃ t, exec
      (.alignRequest st src) s = .next t ∧ (bobOf st t).req = some (src.toNat, 1) ∧ rd (Reg.BOB_SRCREQ st) t
      = src.toNat + 16 ∧ (bobOf st t).phase = (bobOf st s).phase ∧ t.mem = s.mem ∧ t.nv = s.nv)
  ∧ (∀ (st : Fin 4) (src : BitVec 3) (s : State), stores s = true → srcRefusal st src.toNat 1 s ≠ 0 → ∃ t, exec
      (.alignRequest st src) s = .next t ∧ (bobOf st t).req = (bobOf st s).req ∧ on (Reg.BOB_EVT st)
      Reg.BOB_EVT_REFUSED t = true ∧ recorded 16 0 (srcRefusal st src.toNat 1 s) (some st) s t ∧ t.mem = s.mem)
  ∧ (∀ (s : State), ∃ t, exec .ltLatchRead s = .next t ∧ rd64 Reg.BOB_LT_LO Reg.BOB_LT_HI t = s.lt % 2 ^ 64 ∧ regsKept
      [Reg.BOB_LT_LO, Reg.BOB_LT_HI] s t ∧ t = { s with regs := t.regs })
  ∧ (∀ (st : Fin 4) (s : State), ∃ t, exec (.atLatchRead st) s = .next t ∧ rd64 (Reg.BOB_AT_LO st) (Reg.BOB_AT_HI st) t
      = (if hasAngle st s then atOf st s else 0) % 2 ^ 64 ∧ rd64 (Reg.BOB_ATLT_LO st) (Reg.BOB_ATLT_HI st) t = s.lt % 2
      ^ 64 ∧ regsKept [Reg.BOB_AT_LO st, Reg.BOB_AT_HI st, Reg.BOB_ATLT_LO st, Reg.BOB_ATLT_HI st] s t ∧ t
      = { s with regs := t.regs })

/-- On a Stage without a Drum, an outer tick that is due takes a pending request whose source is not lost: its source is
in force and no request waits, FALLBACK reads 0, and the word lies in [FMIN, FMAX]. After a loss without such a
request the Stage follows FALLBACK (FIXED where that is lost) and FALLBACK reads 1. On a Stage with a Drum the same
happens at the firing of its Drum-step slot, which is the whole step. A source found lost is marked once, with SRCLOST
and EV17 naming it and the source that follows. An outer tick that is not due changes nothing. Each clause concludes
that exec answers the next state it describes, under hypotheses on the state and the operands alone. -/
def Obligations.SourceSwitches : Prop :=
  (∀ (st : Fin 4) (slot : Fin 4096) (gpi : BitVec 32) (bad : List (BitVec 32)) (src kind : Nat) (s : State), (bobOf st
      s).req = some (src, kind) → srcIsLost st src s = false → hasDrum st s = false → outerTickDue st s = true → src
      < 8 → fminOf st s ≤ fmaxOf st s → fmaxOf st s < 2 ^ 48 → ∃ t, exec (.sourceSwitchApply st slot gpi bad) s = .next
      t ∧ actSrc st t = src ∧ (bobOf st t).req = none ∧ on (Reg.BOB_STAT st) Reg.BOB_STAT_FALLBACK t = false ∧ fminOf
      st s ≤ wordOf st t ∧ wordOf st t ≤ fmaxOf st s ∧ t.mem = s.mem ∧ t.nv = s.nv)
  ∧ (∀ (st : Fin 4) (slot : Fin 4096) (gpi : BitVec 32) (bad : List (BitVec 32)) (src kind : Nat) (s : State), (bobOf
      st s).req = some (src, kind) → srcIsLost st src s = false → hasDrum st s = true → tackReady slot actDrum s = true
      → drumStage slot s = st → exec (.sourceSwitchApply st slot gpi bad) s = .next (drumFire slot gpi bad s))
  ∧ (∀ (st : Fin 4) (s : State), s.configured = true → hasAngle st s = true → srcIsLost st (actSrc st s) s = true
      → (bobOf st s).lost = false → (bobOf st s).req = none → ∃ t, exec (.sourceLost st) s = .next t ∧ (bobOf st
      t).lost = true ∧ on (Reg.BOB_EVT st) Reg.BOB_EVT_SRCLOST t = true ∧ recorded 17 0 (actSrc st s + 16 * afterLoss
      st s) (some st) s t ∧ actSrc st t = actSrc st s ∧ regsKept (Reg.BOB_EVT st :: evtRegs) s t ∧ t.mem = s.mem)
  ∧ (∀ (st : Fin 4) (slot : Fin 4096) (gpi : BitVec 32) (bad : List (BitVec 32)) (s : State), (bobOf st s).lost = true
      → (bobOf st s).req = none → hasDrum st s = false → outerTickDue st s = true → ∃ t, exec (.fallbackApply st slot
      gpi bad) s = .next t ∧ actSrc st t = afterLoss st s ∧ (bobOf st t).lost = false ∧ on (Reg.BOB_STAT st)
      Reg.BOB_STAT_FALLBACK t = true ∧ t.mem = s.mem ∧ t.nv = s.nv)
  ∧ (∀ (st : Fin 4) (slot : Fin 4096) (gpi : BitVec 32) (bad : List (BitVec 32)) (s : State), (bobOf st s).lost = true
      → (bobOf st s).req = none → hasDrum st s = true → tackReady slot actDrum s = true → drumStage slot s = st → exec
      (.fallbackApply st slot gpi bad) s = .next (drumFire slot gpi bad s))
  ∧ (∀ (st : Fin 4) (s : State), outerTickDue st s = true → ∃ t, exec (.bobbinOuterTick st) s = .next t ∧ t
      = wordUpdate st s ∧ (bobOf st t).req = none ∧ (bobOf st t).lost = false ∧ ((bobOf st t).anchors.head? = some
      (s.lt, (bobOf st t).phase, wordOf st t)) ∧ t.lt = s.lt ∧ t.mem = s.mem)
  ∧ (∀ (st : Fin 4) (s : State), outerTickDue st s = false → exec (.bobbinOuterTick st) s = .next s)

/-- A DRM_SCMD pair of a unit that acts, on a configured device and a Stage with a Drum, waits as the Stage's one pending
command with its code (1 STOP, 2 ENERGISE, 3 SYNC, 4 JOIN, 5 CLEAR), in place of one that waited; the pair ends the
hold of its value word, and nothing else changes. A device that is not configured, or a unit that does not act, takes
none. Each clause concludes that exec answers the next state it describes, under hypotheses on the state and the
operands alone. -/
def Obligations.StageCommands : Prop :=
  (∀ (st : Fin 4) (s : State), stores s = true → hasDrum st s = true → exec (.stop st) s = .next (setDrm st
      { drmOf st (endHold (Reg.DRM_SCMD st) s) with cmd := some 1, cmdAt := s.lt, cmdPrev := if (drmOf st (endHold (Reg.DRM_SCMD st) s)).cmdAt < s.lt then (drmOf st (endHold (Reg.DRM_SCMD st) s)).cmd else (drmOf st (endHold (Reg.DRM_SCMD st) s)).cmdPrev }
      (endHold (Reg.DRM_SCMD st) s)))
  ∧ (∀ (st : Fin 4) (s : State), stores s = true → hasDrum st s = true → exec (.energise st) s = .next (setDrm st
      { drmOf st (endHold (Reg.DRM_SCMD st) s) with cmd := some 2, cmdAt := s.lt, cmdPrev := if (drmOf st (endHold (Reg.DRM_SCMD st) s)).cmdAt < s.lt then (drmOf st (endHold (Reg.DRM_SCMD st) s)).cmd else (drmOf st (endHold (Reg.DRM_SCMD st) s)).cmdPrev }
      (endHold (Reg.DRM_SCMD st) s)))
  ∧ (∀ (st : Fin 4) (s : State), stores s = true → hasDrum st s = true → exec (.sync st) s = .next (setDrm st
      { drmOf st (endHold (Reg.DRM_SCMD st) s) with cmd := some 3, cmdAt := s.lt, cmdPrev := if (drmOf st (endHold (Reg.DRM_SCMD st) s)).cmdAt < s.lt then (drmOf st (endHold (Reg.DRM_SCMD st) s)).cmd else (drmOf st (endHold (Reg.DRM_SCMD st) s)).cmdPrev }
      (endHold (Reg.DRM_SCMD st) s)))
  ∧ (∀ (st : Fin 4) (s : State), stores s = true → hasDrum st s = true → exec (.join st) s = .next (setDrm st
      { drmOf st (endHold (Reg.DRM_SCMD st) s) with cmd := some 4, cmdAt := s.lt, cmdPrev := if (drmOf st (endHold (Reg.DRM_SCMD st) s)).cmdAt < s.lt then (drmOf st (endHold (Reg.DRM_SCMD st) s)).cmd else (drmOf st (endHold (Reg.DRM_SCMD st) s)).cmdPrev }
      (endHold (Reg.DRM_SCMD st) s)))
  ∧ (∀ (st : Fin 4) (s : State), stores s = true → hasDrum st s = true → exec (.clear st) s = .next (setDrm st
      { drmOf st (endHold (Reg.DRM_SCMD st) s) with cmd := some 5, cmdAt := s.lt, cmdPrev := if (drmOf st (endHold (Reg.DRM_SCMD st) s)).cmdAt < s.lt then (drmOf st (endHold (Reg.DRM_SCMD st) s)).cmd else (drmOf st (endHold (Reg.DRM_SCMD st) s)).cmdPrev }
      (endHold (Reg.DRM_SCMD st) s)))
  ∧ (∀ (st : Fin 4) (s : State), stores s = false → exec (.stop st) s = .next s)
  ∧ (∀ (st : Fin 4) (s : State), stores s = false → exec (.energise st) s = .next s)
  ∧ (∀ (st : Fin 4) (s : State), stores s = false → exec (.sync st) s = .next s)
  ∧ (∀ (st : Fin 4) (s : State), stores s = false → exec (.join st) s = .next s)
  ∧ (∀ (st : Fin 4) (s : State), stores s = false → exec (.clear st) s = .next s)

/-- A commit waits, with COMPEND, and the staged pairs stay staged until its step. A hem restore sets n to 0 on a Stage
with a Drum, waits for the control tick without one, and is refused with code 8 and EV35 while a G3 cause is active.
At the end of a step a disable decided by it takes effect and CLOSEPERM is 1 exactly in DEADCHK with DEADOK or SYNC
with SYNCOK. A power block without a new set for two outer ticks, whose lanes are valid, becomes invalid. Each clause
concludes that exec answers the next state it describes, under hypotheses on the state and the operands alone. -/
def Obligations.CommitAndHemRestore : Prop :=
  (∀ (st : Fin 4) (s : State), stores s = true → ∃ t, exec (.commit st) s = .next t ∧ (drmOf st t).commit = true ∧ on
      (Reg.DRM_STAT st) Reg.DRM_STAT_COMPEND t = true ∧ (drmOf st t).staged = (drmOf st s).staged ∧ t.mem = s.mem
      ∧ t.nv = s.nv)
  ∧ (∀ (st : Fin 4) (s : State), stores s = true → on (Reg.DRM_STAT st) Reg.DRM_STAT_DERCAUSE s = false → s.evt.mism
      = [] → hasDrum st s = true → ∃ t, exec (.hemRestore st) s = .next t ∧ rd (Reg.DRM_DERN st) t = 0 ∧ regsKept
      [Reg.DRM_DERN st] s t ∧ t.drm = s.drm ∧ t.evt = s.evt ∧ t.mem = s.mem)
  ∧ (∀ (st : Fin 4) (s : State), stores s = true → on (Reg.DRM_STAT st) Reg.DRM_STAT_DERCAUSE s = false → s.evt.mism
      = [] → hasDrum st s = false → ∃ t, exec (.hemRestore st) s = .next t ∧ (drmOf st t).hemRest = true ∧ regsKept []
      s t ∧ t.evt = s.evt ∧ t.mem = s.mem)
  ∧ (∀ (st : Fin 4) (s : State), stores s = true → on (Reg.DRM_STAT st) Reg.DRM_STAT_DERCAUSE s = true → s.evt.mism
      = [] → ∃ t, exec (.hemRestore st) s = .next t ∧ rd (Reg.DRM_DERN st) t = rd (Reg.DRM_DERN st) s ∧ fl
      (Reg.DRM_REFUSE st) Reg.DRM_REFUSE_CODE t = 8 ∧ recorded 35 0 8 (some st) s t ∧ regsKept (Reg.DRM_REFUSE st ::
      evtRegs) s t ∧ t.mem = s.mem)
  ∧ (∀ (st : Fin 4) (s : State), s.configured = true → hasDrum st s = true → ∃ t, exec (.stepDrumEnd st) s = .next t
      ∧ on (Reg.DRM_SSTAT st) Reg.DRM_SSTAT_CLOSEPERM t = closePerm st s ∧ ((drmOf st s).pendOff = true → pulsesOn st t
      = false) ∧ (drmOf st t).pendOff = false ∧ drumState st t = drumState st s ∧ t.mem = s.mem)
  ∧ (∀ (st : Fin 4) (s : State), blockStale st false s = true → ∃ t, exec (.powerBlockTimeout st) s = .next t
      ∧ blockValid st false t = false ∧ (blockOf st false t).hist = [] ∧ (blockOf st false t).res = [] ∧ (pulsesOn st s
      = true → causeMeas st ∈ g3Of st t ∧ recorded 34 3 0 (some st) s t) ∧ t.mem = s.mem)

/-- A ready Drum-step slot of a Stage with a Drum runs the whole step on the pin levels given; without a pending command
the Stage is then in the state of the automatic transition, or where it was. Without a Drum only the slot goes on to
its next due point. Each command that names one thing of a step (a limit that ends in CEASED with its cause, a
transition, DEADOK, SYNCOK, a change of BRKFB) runs that same step whenever the inputs and counts at its front meet
the condition of the rule; the cause is then in LASTCAUSE and the transition recorded as EV37. Where the condition is
not met, the command changes nothing (log entry 12). Each clause concludes that exec answers the next state it
describes, under hypotheses on the state and the operands alone. -/
def Obligations.DrumStepTransitions : Prop :=
  (∀ (slot : Fin 4096) (gpi : BitVec 32) (bad : List (BitVec 32)) (s : State), tackReady slot actDrum s = true
      → hasDrum (drumStage slot s) s = true → paired s = false → ∃ t, exec (.stepDrum slot gpi bad) s = .next t ∧ t
      = mcStep (drumStage slot s) (drumStep (drumStage slot s) bad { tackFired slot s with gpioIn := gpi.toNat })
      ∧ t.gpioIn = gpi.toNat ∧ (drmOf (drumStage slot s) t).steps = (drmOf (drumStage slot s) s).steps + 1 ∧ (drmOf
      (drumStage slot s) t).srcWr = false ∧ t.mem = s.mem)
  ∧ (∀ (slot : Fin 4096) (gpi : BitVec 32) (bad : List (BitVec 32)) (st : Nat) (x : DrumIn) (f : State) (s : State),
      stepRuns slot s = true → st = drumStage slot s → x = (stepFront slot gpi bad s).1 → f = (stepFront slot gpi bad
      s).2.2 → commandDue st f = none → ∃ t, exec (.stepDrum slot gpi bad) s = .next t ∧ t = mcStep st (drumStep st bad
      (stepStart slot gpi s)) ∧ t.gpioIn = gpi.toNat ∧ (drmOf st t).srcWr = false ∧ drumState st t = ((stepMoves slot
      gpi bad s).map (fun m : Nat × Nat × Nat => m.2.1)).getD (drumState st f))
  ∧ (∀ (slot : Fin 4096) (gpi : BitVec 32) (bad : List (BitVec 32)) (s : State), tackReady slot actDrum s = true
      → hasDrum (drumStage slot s) s = false → paired s = false → exec (.stepDrum slot gpi bad) s = .next (tackFired
      slot s))
  ∧ (∀ (slot : Fin 4096) (gpi : BitVec 32) (bad : List (BitVec 32)) (st : Nat) (x : DrumIn) (f : State) (s : State),
      stepRuns slot s = true → st = drumStage slot s → x = (stepFront slot gpi bad s).1 → f = (stepFront slot gpi bad
      s).2.2 → locked st f = false → (drmOf st f).sawLock = false → dsCurves (drumState st f) = true → ((curveExpired
      st (Reg.DRM_UVC st) (drmOf st f).uv f).isSome = true ∨ (curveExpired st (Reg.DRM_OVC st) (drmOf st f).ov
      f).isSome = true) → ∃ t, exec (.curvePointExpiry slot gpi bad) s = .next t ∧ t = mcStep st (drumStep st bad
      (stepStart slot gpi s)) ∧ fl (Reg.DRM_SCAUSE st) Reg.DRM_SCAUSE_LASTCAUSE t = (if (curveExpired st (Reg.DRM_UVC
      st) (drmOf st f).uv f).isSome then 6 else 7) ∧ (commandDue st f = none → drumState st t = dsCeased) ∧ (bad = []
      → recorded 37 0 (dsCeased + 256 * (if (curveExpired st (Reg.DRM_UVC st) (drmOf st f).uv f).isSome then 6 else 7))
      (some st) s t))
  ∧ (∀ (slot : Fin 4096) (gpi : BitVec 32) (bad : List (BitVec 32)) (st : Nat) (x : DrumIn) (f : State) (s : State),
      stepRuns slot s = true → st = drumStage slot s → x = (stepFront slot gpi bad s).1 → f = (stepFront slot gpi bad
      s).2.2 → locked st f = false → (drmOf st f).sawLock = false → ceasedCause st x f = 8 → ∃ t, exec (.holdTimeLimit
      slot gpi bad) s = .next t ∧ t = mcStep st (drumStep st bad (stepStart slot gpi s)) ∧ fl (Reg.DRM_SCAUSE st)
      Reg.DRM_SCAUSE_LASTCAUSE t = 8 ∧ (commandDue st f = none → drumState st t = dsCeased) ∧ (bad = [] → recorded 37 0
      (dsCeased + 256 * 8) (some st) s t))
  ∧ (∀ (slot : Fin 4096) (gpi : BitVec 32) (bad : List (BitVec 32)) (st : Nat) (x : DrumIn) (f : State) (s : State),
      stepRuns slot s = true → st = drumStage slot s → x = (stepFront slot gpi bad s).1 → f = (stepFront slot gpi bad
      s).2.2 → locked st f = false → (drmOf st f).sawLock = false → drumState st f = dsHold → curveExpired st
      (Reg.DRM_UVC st) (drmOf st f).uv f = none → curveExpired st (Reg.DRM_OVC st) (drmOf st f).ov f = none → rd
      (Reg.DRM_THMAX st) f * msF < (drmOf st f).nHold * outerOf st f → ∃ t, exec (.holdTimeLimit slot gpi bad) s
      = .next t ∧ t = mcStep st (drumStep st bad (stepStart slot gpi s)) ∧ fl (Reg.DRM_SCAUSE st)
      Reg.DRM_SCAUSE_LASTCAUSE t = 8 ∧ (commandDue st f = none → drumState st t = dsCeased) ∧ (bad = [] → recorded 37 0
      (dsCeased + 256 * 8) (some st) s t))
  ∧ (∀ (slot : Fin 4096) (gpi : BitVec 32) (bad : List (BitVec 32)) (st : Nat) (x : DrumIn) (f : State) (s : State),
      stepRuns slot s = true → st = drumStage slot s → x = (stepFront slot gpi bad s).1 → f = (stepFront slot gpi bad
      s).2.2 → locked st f = false → (drmOf st f).sawLock = false → ceasedCause st x f = 11 → ∃ t, exec
      (.pvalidStepLimit slot gpi bad) s = .next t ∧ t = mcStep st (drumStep st bad (stepStart slot gpi s)) ∧ fl
      (Reg.DRM_SCAUSE st) Reg.DRM_SCAUSE_LASTCAUSE t = 11 ∧ (commandDue st f = none → drumState st t = dsCeased) ∧ (bad
      = [] → recorded 37 0 (dsCeased + 256 * 11) (some st) s t))
  ∧ (∀ (slot : Fin 4096) (gpi : BitVec 32) (bad : List (BitVec 32)) (st : Nat) (x : DrumIn) (f : State) (s : State),
      stepRuns slot s = true → st = drumStage slot s → x = (stepFront slot gpi bad s).1 → f = (stepFront slot gpi bad
      s).2.2 → locked st f = false → (drmOf st f).sawLock = false → ceasedCause st x f = 12 → ∃ t, exec
      (.energiseTimeLimit slot gpi bad) s = .next t ∧ t = mcStep st (drumStep st bad (stepStart slot gpi s)) ∧ fl
      (Reg.DRM_SCAUSE st) Reg.DRM_SCAUSE_LASTCAUSE t = 12 ∧ (commandDue st f = none → drumState st t = dsCeased) ∧ (bad
      = [] → recorded 37 0 (dsCeased + 256 * 12) (some st) s t))
  ∧ (∀ (slot : Fin 4096) (gpi : BitVec 32) (bad : List (BitVec 32)) (st : Nat) (x : DrumIn) (f : State) (s : State),
      stepRuns slot s = true → st = drumStage slot s → x = (stepFront slot gpi bad s).1 → f = (stepFront slot gpi bad
      s).2.2 → locked st f = false → (drmOf st f).sawLock = false → drumState st f = dsEnergise → (drmOf st f).nPv < rd
      (Reg.DRM_PVMAX st) f → 3 * (rd (Reg.DRM_TRAMP st) f * msF) < (drmOf st f).nEnerg * outerOf st f → ∃ t, exec
      (.energiseTimeLimit slot gpi bad) s = .next t ∧ t = mcStep st (drumStep st bad (stepStart slot gpi s)) ∧ fl
      (Reg.DRM_SCAUSE st) Reg.DRM_SCAUSE_LASTCAUSE t = 12 ∧ (commandDue st f = none → drumState st t = dsCeased) ∧ (bad
      = [] → recorded 37 0 (dsCeased + 256 * 12) (some st) s t))
  ∧ (∀ (slot : Fin 4096) (gpi : BitVec 32) (bad : List (BitVec 32)) (st : Nat) (x : DrumIn) (f : State) (s : State),
      stepRuns slot s = true → st = drumStage slot s → x = (stepFront slot gpi bad s).1 → f = (stepFront slot gpi bad
      s).2.2 → locked st f = false → (drmOf st f).sawLock = false → drumState st f = dsEnergise → ceasedCause st x f
      = 0 → x.opened = false → pathsOn f = true → (drmOf st f).sawOff = false → rd (Reg.DRM_TRAMP st) f * msF ≤ (drmOf
      st f).ke * outerOf st f → ∃ t, exec (.energiseRampComplete slot gpi bad) s = .next t ∧ t = mcStep st (drumStep st
      bad (stepStart slot gpi s)) ∧ fl (Reg.DRM_SCAUSE st) Reg.DRM_SCAUSE_LASTCAUSE t = 5 ∧ (commandDue st f = none
      → drumState st t = dsForm) ∧ (bad = [] → recorded 37 0 (dsForm + 256 * 5) (some st) s t))
  ∧ (∀ (slot : Fin 4096) (gpi : BitVec 32) (bad : List (BitVec 32)) (st : Nat) (x : DrumIn) (f : State) (s : State),
      stepRuns slot s = true → st = drumStage slot s → x = (stepFront slot gpi bad s).1 → f = (stepFront slot gpi bad
      s).2.2 → locked st f = false → (drmOf st f).sawLock = false → drumState st f = dsHem → ceasedCause st x f = 0
      → x.opened = false → pathsOn f = true → (drmOf st f).sawOff = false → rdI (Reg.DRM_VDIP st) f ≤ max 0 (x.vpos -
      x.vneg) → fl (Reg.DRM_SMCFG st) Reg.DRM_SMCFG_NHEM f ≤ (drmOf st f).nHem → ∃ t, exec (.nhemCountReached slot gpi
      bad) s = .next t ∧ t = mcStep st (drumStep st bad (stepStart slot gpi s)) ∧ fl (Reg.DRM_SCAUSE st)
      Reg.DRM_SCAUSE_LASTCAUSE t = 3 ∧ (commandDue st f = none → drumState st t = dsHold) ∧ (bad = [] → recorded 37 0
      (dsHold + 256 * 3) (some st) s t) ∧ (commandDue st f = none → rd (Reg.DRM_HOLDW st) t = wordOf st f % 2 ^ 32))
  ∧ (∀ (slot : Fin 4096) (gpi : BitVec 32) (bad : List (BitVec 32)) (st : Nat) (x : DrumIn) (f : State) (s : State),
      stepRuns slot s = true → st = drumStage slot s → x = (stepFront slot gpi bad s).1 → f = (stepFront slot gpi bad
      s).2.2 → locked st f = false → (drmOf st f).sawLock = false → drumState st f = dsHold → ceasedCause st x f = 0
      → x.opened = false → pathsOn f = true → (drmOf st f).sawOff = false → fl (Reg.DRM_SMCFG st) Reg.DRM_SMCFG_NREC f
      ≤ (drmOf st f).nRec → ∃ t, exec (.nrecCountReached slot gpi bad) s = .next t ∧ t = mcStep st (drumStep st bad
      (stepStart slot gpi s)) ∧ fl (Reg.DRM_SCAUSE st) Reg.DRM_SCAUSE_LASTCAUSE t = 4 ∧ (commandDue st f = none
      → drumState st t = dsRecover) ∧ (bad = [] → recorded 37 0 (dsRecover + 256 * 4) (some st) s t))
  ∧ (∀ (slot : Fin 4096) (gpi : BitVec 32) (bad : List (BitVec 32)) (st : Nat) (x : DrumIn) (f : State) (s : State),
      stepRuns slot s = true → st = drumStage slot s → x = (stepFront slot gpi bad s).1 → f = (stepFront slot gpi bad
      s).2.2 → locked st f = false → (drmOf st f).sawLock = false → drumState st f = dsRecover → ceasedCause st x f = 0
      → holdCauseOf st x f = 0 → x.opened = false → pathsOn f = true → (drmOf st f).sawOff = false → stepsOf st (rd
      (Reg.DRM_TREC st) f) f ≤ (drmOf st f).kRec → (drmOf st f).pUse = rdI (Reg.DRM_PSET st) f → ∃ t, exec
      (.recoverRampsComplete slot gpi bad) s = .next t ∧ t = mcStep st (drumStep st bad (stepStart slot gpi s)) ∧ fl
      (Reg.DRM_SCAUSE st) Reg.DRM_SCAUSE_LASTCAUSE t = 5 ∧ (commandDue st f = none → drumState st t = dsForm) ∧ (bad
      = [] → recorded 37 0 (dsForm + 256 * 5) (some st) s t))
  ∧ (∀ (slot : Fin 4096) (gpi : BitVec 32) (bad : List (BitVec 32)) (st : Nat) (x : DrumIn) (f : State) (s : State),
      stepRuns slot s = true → st = drumStage slot s → x = (stepFront slot gpi bad s).1 → f = (stepFront slot gpi bad
      s).2.2 → stepBit Reg.DRM_SSTAT_DEADOK slot gpi bad s = (false, true) → ∃ t, exec (.deadokCountReached slot gpi
      bad) s = .next t ∧ t = mcStep st (drumStep st bad (stepStart slot gpi s)) ∧ (stepMoves slot gpi bad s = none
      → commandDue st f = none → on (Reg.DRM_SSTAT st) Reg.DRM_SSTAT_DEADOK t = true))
  ∧ (∀ (slot : Fin 4096) (gpi : BitVec 32) (bad : List (BitVec 32)) (st : Nat) (x : DrumIn) (f : State) (s : State),
      stepRuns slot s = true → st = drumStage slot s → x = (stepFront slot gpi bad s).1 → f = (stepFront slot gpi bad
      s).2.2 → stepBit Reg.DRM_SSTAT_SYNCOK slot gpi bad s = (false, true) → ∃ t, exec (.syncokCountReached slot gpi
      bad) s = .next t ∧ t = mcStep st (drumStep st bad (stepStart slot gpi s)) ∧ on (Reg.DRM_SSTAT st)
      Reg.DRM_SSTAT_SYNCOK t = true ∧ (bad = [] → recorded 44 0 0 (some st) s t))
  ∧ (∀ (slot : Fin 4096) (gpi : BitVec 32) (bad : List (BitVec 32)) (st : Nat) (x : DrumIn) (f : State) (a b : Bool) (s
      : State), stepRuns slot s = true → st = drumStage slot s → x = (stepFront slot gpi bad s).1 → f = (stepFront slot
      gpi bad s).2.2 → stepBit Reg.DRM_SSTAT_BRKFB slot gpi bad s = (a, b) → a ≠ b → ∃ t, exec (.breakerFeedbackChange
      slot gpi bad) s = .next t ∧ t = mcStep st (drumStep st bad (stepStart slot gpi s)) ∧ on (Reg.DRM_SSTAT st)
      Reg.DRM_SSTAT_BRKFB t = b ∧ (bad = [] → recorded 43 0 0 (some st) s t))
  ∧ (∀ (slot : Fin 4096) (gpi : BitVec 32) (bad : List (BitVec 32)) (s : State), tackReady slot actDrum s = false
      → exec (.stepDrum slot gpi bad) s = .next s)
  ∧ (∀ (slot : Fin 4096) (gpi : BitVec 32) (bad : List (BitVec 32)) (s : State), tackReady slot actDrum s = false
      → exec (.curvePointExpiry slot gpi bad) s = .next s)
  ∧ (∀ (slot : Fin 4096) (gpi : BitVec 32) (bad : List (BitVec 32)) (s : State), tackReady slot actDrum s = false
      → exec (.holdTimeLimit slot gpi bad) s = .next s)
  ∧ (∀ (slot : Fin 4096) (gpi : BitVec 32) (bad : List (BitVec 32)) (s : State), tackReady slot actDrum s = false
      → exec (.breakerFeedbackChange slot gpi bad) s = .next s)

/-- A ready Stitch-cycle slot runs one cycle of its Stage: the cycle count rises by 1, the cycle's start is this FCLK,
every instance of the Stage has taken its waiting command and set-points and its divider has advanced, and memory is
untouched. A late cycle shows LATE and one more consecutive miss; a return from FALLBACK leaves the instance in AUTO;
an expiry sets FEEXP. Where the named thing does not come about, nothing changes (log entry 12). At the end of a cycle
a waiting MAC lane goes out of service with EV49. Each clause concludes that exec answers the next state it describes,
under hypotheses on the state and the operands alone. -/
def Obligations.StitchCycles : Prop :=
  (∀ (slot : Fin 4096) (fails : List (Fin 128 × Fin 4)) (bad : List (BitVec 32)) (s : State), tackReady slot actStitch
      s = true → ∃ t, exec (.startStitch slot fails bad) s = .next t ∧ rd (Reg.STI_CYC (slTarget (slotOf slot s) % 4))
      t = (rd (Reg.STI_CYC (slTarget (slotOf slot s) % 4)) s + 1) % 2 ^ 32 ∧ (stiOf (slTarget (slotOf slot s) % 4)
      t).start = some (nowF s) ∧ (∀ n : Fin 128, instUsed n s = true → instStage n s = (slTarget (slotOf slot s) % 4)
      → ((instOf n s).manAt < s.lt → (instOf n t).man = none) ∧ ((instOf n s).setpAt < s.lt → (instOf n t).setp = none)
      ∧ ((instOf n s).cmdAt < s.lt → (instOf n t).cmd = none) ∧ (instOf n t).cnt = ((instOf n s).cnt + 1) % divOf n s)
      ∧ t.mem = s.mem ∧ t.nv = s.nv)
  ∧ (∀ (slot : Fin 4096) (fails : List (Fin 128 × Fin 4)) (bad : List (BitVec 32)) (s : State), tackReady slot
      actStitch s = false → exec (.startStitch slot fails bad) s = .next s)
  ∧ (∀ (slot : Fin 4096) (fails : List (Fin 128 × Fin 4)) (bad : List (BitVec 32)) (s : State), tackReady slot
      actStitch s = true → lateDue slot fails bad s = true → ∃ t, exec (.stitchCycleLate slot fails bad) s = .next t
      ∧ t = stitchFire slot fails bad s ∧ on (Reg.STI_SSTAT (slTarget (slotOf slot s) % 4)) Reg.STI_SSTAT_LATE t = true
      ∧ fl (Reg.STI_SSTAT (slTarget (slotOf slot s) % 4)) Reg.STI_SSTAT_MISSCNT t = min 15 (fl (Reg.STI_SSTAT (slTarget
      (slotOf slot s) % 4)) Reg.STI_SSTAT_MISSCNT s + 1) ∧ on (Reg.STI_SEVT (slTarget (slotOf slot s) % 4))
      Reg.STI_SEVT_LATE t = true ∧ t.mem = s.mem)
  ∧ (∀ (slot : Fin 4096) (inst : Fin 128) (fails : List (Fin 128 × Fin 4)) (bad : List (BitVec 32)) (s : State),
      tackReady slot actStitch s = true → returnDue slot inst fails bad s = true → lateDue slot fails bad s = false → ∃
      t, exec (.fallbackAutoReturn slot inst fails bad) s = .next t ∧ t = stitchFire slot fails bad s ∧ fl
      (Reg.STI_ISTAT inst) Reg.STI_ISTAT_MODE t = 0 ∧ t.mem = s.mem)
  ∧ (∀ (slot : Fin 4096) (inst : Fin 128) (fails : List (Fin 128 × Fin 4)) (bad : List (BitVec 32)) (s : State),
      tackReady slot actStitch s = true → returnDue slot inst fails bad s = true → exec (.fallbackAutoReturn slot inst
      fails bad) s = .next (stitchFire slot fails bad s))
  ∧ (∀ (slot : Fin 4096) (inst : Fin 128) (fails : List (Fin 128 × Fin 4)) (bad : List (BitVec 32)) (s : State),
      tackReady slot actStitch s = true → expiryDue slot inst fails bad s = true → ∃ t, exec (.followingErrorExpiry
      slot inst fails bad) s = .next t ∧ t = stitchFire slot fails bad s ∧ on (Reg.STI_IEVT inst) Reg.STI_IEVT_FEEXP t
      = true ∧ t.mem = s.mem)
  ∧ (∀ (slot : Fin 4096) (fails : List (Fin 128 × Fin 4)) (bad : List (BitVec 32)) (s : State), tackReady slot
      actStitch s = true → lateDue slot fails bad s = false → exec (.stitchCycleLate slot fails bad) s = .next s)
  ∧ (∀ (slot : Fin 4096) (inst : Fin 128) (fails : List (Fin 128 × Fin 4)) (bad : List (BitVec 32)) (s : State),
      tackReady slot actStitch s = true → returnDue slot inst fails bad s = false → exec (.fallbackAutoReturn slot inst
      fails bad) s = .next s)
  ∧ (∀ (slot : Fin 4096) (inst : Fin 128) (fails : List (Fin 128 × Fin 4)) (bad : List (BitVec 32)) (s : State),
      tackReady slot actStitch s = true → expiryDue slot inst fails bad s = false → exec (.followingErrorExpiry slot
      inst fails bad) s = .next s)
  ∧ (∀ (mac : Fin 4) (s : State), s.macRetire.contains mac.val = true → bitAt Reg.STI_GSTAT mac s = true → ∃ t, exec
      (.macLaneRetire mac) s = .next t ∧ bitAt Reg.STI_GSTAT mac t = false ∧ t.macRetire = s.macRetire.filter (· !=
      mac.val) ∧ recorded 49 2 mac none s t ∧ on Reg.STI_GEVT Reg.STI_GEVT_LANERET t = true ∧ t.mem = s.mem ∧ t.nv
      = s.nv)

/-- A mode command for an enabled instance of its Stage, a STI_MAN within [UMIN, UMAX] and a STI_SETP within [SPMIN,
SPMAX] wait for the next cycle of the instance, and nothing else changes but the end of the pair's hold; a set request
whose sets are valid, under no other owner's lock, waits for the hand-over. Another instance, an AUTO without valid
samples and a value outside its limits are refused: STI_REFUSE shows the code and the instance, EV51 is recorded and
no command waits. Each clause concludes that exec answers the next state it describes, under hypotheses on the state
and the operands alone. -/
def Obligations.UnitCommands : Prop :=
  (∀ (st : Fin 4) (inst : Fin 128) (s : State), stores s = true → instUsed inst s = true → instStage inst s = st
      → laneMissing inst s = false → exec (.stiModeAuto st inst) s = .next (setInst inst
      { instOf inst s with cmd := some 0, cmdAt := s.lt, cmdPrev := waited (instOf inst s).cmdAt (instOf inst s).cmd (instOf inst s).cmdPrev s }
      (endHold (Reg.STI_MODECMD st) s)))
  ∧ (∀ (st : Fin 4) (inst : Fin 128) (s : State), stores s = true → instUsed inst s = true → instStage inst s = st
      → laneMissing inst s = true → ∃ t, exec (.stiModeAuto st inst) s = .next t ∧ rd (Reg.STI_REFUSE st) t = 2 + 16
      * inst ∧ recorded 51 0 inst (some st) s t ∧ (instOf inst t).cmd = (instOf inst s).cmd ∧ t.mem = s.mem)
  ∧ (∀ (st : Fin 4) (inst : Fin 128) (s : State), stores s = true → instUsed inst s = true → instStage inst s = st
      → exec (.stiModeManual st inst) s = .next (setInst inst
      { instOf inst s with cmd := some 1, cmdAt := s.lt, cmdPrev := waited (instOf inst s).cmdAt (instOf inst s).cmd (instOf inst s).cmdPrev s }
      (endHold (Reg.STI_MODECMD st) s)))
  ∧ (∀ (st : Fin 4) (inst : Fin 128) (s : State), stores s = true → instUsed inst s = false → ∃ t, exec (.stiModeManual
      st inst) s = .next t ∧ rd (Reg.STI_REFUSE st) t = 1 + 16 * inst ∧ recorded 51 0 inst (some st) s t ∧ (instOf inst
      t).cmd = (instOf inst s).cmd ∧ t.mem = s.mem)
  ∧ (∀ (inst : Fin 128) (value : BitVec 32) (s : State), stores s = true → instUsed inst s = true → rdI (Reg.STI_UMIN
      inst) s ≤ value.toInt → value.toInt ≤ rdI (Reg.STI_UMAX inst) s → exec (.stiManWrite inst value) s = .next
      (setInst inst
      { instOf inst s with man := some value.toNat, manAt := s.lt, manPrev := waited (instOf inst s).manAt (instOf inst s).man (instOf inst s).manPrev s }
      (endHold (Reg.STI_MAN inst) s)))
  ∧ (∀ (inst : Fin 128) (value : BitVec 32) (s : State), stores s = true → instUsed inst s = true → (value.toInt < rdI
      (Reg.STI_UMIN inst) s ∨ rdI (Reg.STI_UMAX inst) s < value.toInt) → ∃ t, exec (.stiManWrite inst value) s = .next
      t ∧ rd (Reg.STI_REFUSE (instStage inst s)) t = 3 + 16 * inst ∧ recorded 51 0 inst (some (instStage inst s)) s t
      ∧ (instOf inst t).man = (instOf inst s).man ∧ t.mem = s.mem)
  ∧ (∀ (inst : Fin 128) (value : BitVec 32) (s : State), stores s = true → instUsed inst s = true → rdI (Reg.STI_SPMIN
      inst) s ≤ value.toInt → value.toInt ≤ rdI (Reg.STI_SPMAX inst) s → exec (.stiSetpWrite inst value) s = .next
      (setInst inst
      { instOf inst s with setp := some value.toNat, setpAt := s.lt, setpPrev := waited (instOf inst s).setpAt (instOf inst s).setp (instOf inst s).setpPrev s }
      (endHold (Reg.STI_SETP inst) s)))
  ∧ (∀ (inst : Fin 128) (value : BitVec 32) (s : State), stores s = true → instUsed inst s = true → (value.toInt < rdI
      (Reg.STI_SPMIN inst) s ∨ rdI (Reg.STI_SPMAX inst) s < value.toInt) → ∃ t, exec (.stiSetpWrite inst value) s
      = .next t ∧ rd (Reg.STI_REFUSE (instStage inst s)) t = 4 + 16 * inst ∧ recorded 51 0 inst (some (instStage inst
      s)) s t ∧ (instOf inst t).setp = (instOf inst s).setp ∧ t.mem = s.mem)
  ∧ (∀ (st : Fin 4) (value : BitVec 32) (by_ : Fin 19) (s : State), mayStore (Reg.STI_SETREQ st) by_ s = true → value
      &&& 0xFFFFFFEC#32 = 0#32 → (instsOf st s).all (fun n => on (Reg.STI_CTL n (fldGet Reg.STI_SETREQ_SET value))
      Reg.STI_CTL_VALID s) = true → shadowLock 1 st s = none → ∃ t, exec (.stiSetRequest st value by_) s = .next t
      ∧ (stiOf st t).req = some (fldGet Reg.STI_SETREQ_SET value, fldGet Reg.STI_SETREQ_PRESET value != 0) ∧ on
      (Reg.STI_SSTAT st) Reg.STI_SSTAT_SETPEND t = true ∧ fl (Reg.STI_SSTAT st) Reg.STI_SSTAT_SETACT t = fl
      (Reg.STI_SSTAT st) Reg.STI_SSTAT_SETACT s ∧ t.mem = s.mem)
  ∧ (∀ (st : Fin 4) (value : BitVec 32) (by_ : Fin 19) (s : State), mayStore (Reg.STI_SETREQ st) by_ s = true → value
      &&& 0xFFFFFFEC#32 = 0#32 → (instsOf st s).all (fun n => on (Reg.STI_CTL n (fldGet Reg.STI_SETREQ_SET value))
      Reg.STI_CTL_VALID s) = false → ∃ t, exec (.stiSetRequest st value by_) s = .next t ∧ rd (Reg.STI_REFUSE st) t = 5
      ∧ recorded 51 0 0 (some st) s t ∧ (stiOf st t).req = (stiOf st s).req ∧ t.mem = s.mem)

/-- A HANDOVER slot with target 0x00 + s puts the waiting set of Stage s into force, with EV55, and with nothing waiting
only the slot goes on. With target 0x10 + s, outside a Stitch cycle of the Stage, every compare shadow of the Stage
becomes its ready compare and HODEF reads 0; inside a cycle that started at c the hand-over is deferred to c + CDL and
no ready compare changes. Target 0x20 + s does both. A deferred hand-over is performed from its FCLK on. Each clause
concludes that exec answers the next state it describes, under hypotheses on the state and the operands alone. -/
def Obligations.HandOvers : Prop :=
  (∀ (slot : Fin 4096) (k : Nat) (p : Bool) (s : State), tackReady slot actHandover s = true → slTarget (slotOf slot s)
      / 16 = 0 → (stiOf (slTarget (slotOf slot s) % 4) s).req = some (k, p) → k < 4 → ∃ t, exec (.handoverStitch slot)
      s = .next t ∧ fl (Reg.STI_SSTAT (slTarget (slotOf slot s) % 4)) Reg.STI_SSTAT_SETACT t = k ∧ on (Reg.STI_SSTAT
      (slTarget (slotOf slot s) % 4)) Reg.STI_SSTAT_SETPEND t = false ∧ (stiOf (slTarget (slotOf slot s) % 4) t).req
      = none ∧ recorded 55 0 0 (some (slTarget (slotOf slot s) % 4)) s t ∧ (p = true → ∀ n ∈ instsOf (slTarget (slotOf
      slot s) % 4) s, (instOf n t).preset = true) ∧ t.mem = s.mem)
  ∧ (∀ (slot : Fin 4096) (s : State), tackReady slot actHandover s = true → slTarget (slotOf slot s) / 16 = 0 → (stiOf
      (slTarget (slotOf slot s) % 4) s).req = none → exec (.handoverStitch slot) s = .next (tackFired slot s))
  ∧ (∀ (slot : Fin 4096) (s : State), tackReady slot actHandover s = true → slTarget (slotOf slot s) / 16 = 1
      → stitchDueNow (slTarget (slotOf slot s) % 4) (tackFired slot s) = false → (stiOf (slTarget (slotOf slot s) % 4)
      s).start = none → ∃ t, exec (.handoverPulse slot) s = .next t ∧ (∀ h ∈ hbsOf (slTarget (slotOf slot s) % 4) s,
      (hbOf h t).ready = rd (Reg.PGN_CMPS h) s) ∧ on (Reg.PGN_SSTAT (slTarget (slotOf slot s) % 4)) Reg.PGN_SSTAT_HODEF
      t = false ∧ (pgnOf (slTarget (slotOf slot s) % 4) t).req = none ∧ (∀ v, (pgnOf (slTarget (slotOf slot s) % 4)
      s).req = some v → (pgnOf (slTarget (slotOf slot s) % 4) t).ready = some v) ∧ (pgnOf (slTarget (slotOf slot s) %
      4) t).deferAt = none ∧ t.mem = s.mem ∧ t.evt = (tackFired slot s).evt)
  ∧ (∀ (slot : Fin 4096) (c : Nat) (s : State), tackReady slot actHandover s = true → slTarget (slotOf slot s) / 16 = 1
      → stitchDueNow (slTarget (slotOf slot s) % 4) (tackFired slot s) = false → (stiOf (slTarget (slotOf slot s) % 4)
      s).start = some c → nowF s < c + cdlOf (slTarget (slotOf slot s) % 4) s → ∃ t, exec (.handoverPulse slot) s
      = .next t ∧ (pgnOf (slTarget (slotOf slot s) % 4) t).deferAt = some (c + cdlOf (slTarget (slotOf slot s) % 4) s)
      ∧ on (Reg.PGN_SSTAT (slTarget (slotOf slot s) % 4)) Reg.PGN_SSTAT_HODEF t = true ∧ t.hb = (tackFired slot s).hb
      ∧ t.mem = s.mem ∧ t.evt = (tackFired slot s).evt)
  ∧ (∀ (slot : Fin 4096) (k : Nat) (p : Bool) (s : State), tackReady slot actHandover s = true → slTarget (slotOf slot
      s) / 16 = 2 → (stiOf (slTarget (slotOf slot s) % 4) s).req = some (k, p) → k < 4 → stitchDueNow (slTarget (slotOf
      slot s) % 4) (tackFired slot s) = false → (stiOf (slTarget (slotOf slot s) % 4) s).start = none → ∃ t, exec
      (.handoverBoth slot) s = .next t ∧ fl (Reg.STI_SSTAT (slTarget (slotOf slot s) % 4)) Reg.STI_SSTAT_SETACT t = k
      ∧ (stiOf (slTarget (slotOf slot s) % 4) t).req = none ∧ (∀ h ∈ hbsOf (slTarget (slotOf slot s) % 4) s, (hbOf h
      t).ready = rd (Reg.PGN_CMPS h) s) ∧ (pgnOf (slTarget (slotOf slot s) % 4) t).deferAt = none ∧ t.mem = s.mem)
  ∧ (∀ (st : Fin 4) (f : Nat) (s : State), (pgnOf st s).deferAt = some f → f ≤ nowF s → ∃ t, exec (.handoverDeferred
      st) s = .next t ∧ (∀ h ∈ hbsOf st s, (hbOf h t).ready = rd (Reg.PGN_CMPS h) s) ∧ (pgnOf st t).deferAt = none ∧ on
      (Reg.PGN_SSTAT st) Reg.PGN_SSTAT_HODEF t = false ∧ t.mem = s.mem ∧ t.evt = s.evt)
  ∧ (∀ (st : Fin 4) (f : Nat) (s : State), (pgnOf st s).deferAt = some f → nowF s < f → exec (.handoverDeferred st) s
      = .next s)

/-- Where the planner has reached the next point of a running half-bridge, a point that commands the side already planned
only marks it planned; from no side, a point whose interval has no requested end on a direct leg plans the turn-on of
its side after its dead time; an interval too short to execute sets SHORT and plans no edge. A sawtooth carrier's
period start with load code 1 puts the ready compare of each of its half-bridges into use. A refresh that is due while
the high side conducts plans its first crossing once the planner reaches it, keeps the second for the planner, and
sets REFRESH; with the high side off it lapses. A HELD half-bridge without a cause resumes at its period start. Each
clause concludes that exec answers the next state it describes, under hypotheses on the state and the operands alone. -/
def Obligations.Planning : Prop :=
  (∀ (hb : Fin 104) (pos : Int) (to_ : Bool) (s : State), hbRuns hb s = true → nextPoint hb s = some (pos, to_)
      → posTime (hbCarrier hb s) pos s ≤ planAt (hbCarrier hb s) s → (hbOf hb s).back = none → (hbOf hb s).side = some
      to_ → (hbOf hb s).drop = false → exec (.edgePlan hb) s = .next (carShow (hbCarrier hb s) (setHb hb
      { hbOf hb s with planned := pos } s)))
  ∧ (∀ (hb : Fin 104) (pos : Int) (to_ : Bool) (s : State), 96 ≤ hb.val → hbRuns hb s = true → nextPoint hb s = some
      (pos, to_) → posTime (hbCarrier hb s) pos s ≤ planAt (hbCarrier hb s) s → (hbOf hb s).back = none → (hbOf hb
      s).side = none → (hbOf hb s).lowFirst = false → requestedEnd hb pos to_ s = none → ∃ t, exec (.edgePlan hb) s
      = .next t ∧ (hbOf hb t).edges = (hbOf hb s).edges ++ [Edge.mk (posTime (hbCarrier hb s) pos s + deadTime hb to_
      s).toNat to_ true (2 ^ 32)] ∧ (hbOf hb t).side = some to_ ∧ (hbOf hb t).planned = pos ∧ (hbOf hb t).drop = false
      ∧ t.mem = s.mem ∧ t.evt = s.evt)
  ∧ (∀ (hb : Fin 104) (pos e : Int) (to_ : Bool) (s : State), hbRuns hb s = true → nextPoint hb s = some (pos, to_)
      → posTime (hbCarrier hb s) pos s ≤ planAt (hbCarrier hb s) s → (hbOf hb s).back = none → (hbOf hb s).side = none
      → (hbOf hb s).lowFirst = false → requestedEnd hb pos to_ s = some e → accOf hb s = 0 → fl (Reg.PGN_HCFG hb)
      Reg.PGN_HCFG_MODE s = 2 → e - posTime (hbCarrier hb s) pos s - deadTime hb to_ s < minpOf hb s → ∃ t, exec
      (.edgePlan hb) s = .next t ∧ on (Reg.PGN_HEVT hb) Reg.PGN_HEVT_SHORT t = true ∧ (hbOf hb t).edges = (hbOf hb
      s).edges ∧ (hbOf hb t).drop = true ∧ (hbOf hb t).side = none ∧ t.out = s.out ∧ t.mem = s.mem)
  ∧ (∀ (c : Fin 16) (s : State), s.configured = true → carUsed c s = true → posTime c (carBoundary c s) s ≤ planAt c s
      → setDue c s = false → carTri c s = false → carLoad c s = 1 → ∃ t, exec (.carrierLoadPoint c) s = .next t
      ∧ (carOf c t).k = (carOf c s).k + 1 ∧ (carOf c t).start = (carOf c s).stop ∧ (∀ h ∈ hbsOfCar c s, (hbOf h t).dr
      = (hbOf h s).ready ∧ (hbOf h t).df = (hbOf h s).ready ∧ rd (Reg.PGN_CMPA h) t = (hbOf h s).ready % 2 ^ 32)
      ∧ t.mem = s.mem)
  ∧ (∀ (hb : Fin 104) (s : State), hbRuns hb s = true → (hbOf hb s).refresh = true → refreshStart hb s ≤ planAt
      (hbCarrier hb s) s → (hbOf hb s).side = some true → ∃ t, exec (.bootstrapRefresh hb) s = .next t ∧ (hbOf hb t).rf
      = some (refreshStart hb s, refreshStart hb s + dtlOf hb s + bswOf hb s + dthOf hb s) ∧ (hbOf hb t).back = some
      (refreshStart hb s + dtlOf hb s + bswOf hb s, false) ∧ (hbOf hb t).lowRan = true ∧ (hbOf hb t).refresh = false
      ∧ on (Reg.PGN_HEVT hb) Reg.PGN_HEVT_REFRESH t = true ∧ t.mem = s.mem)
  ∧ (∀ (hb : Fin 104) (s : State), hbRuns hb s = true → (hbOf hb s).refresh = true → refreshStart hb s ≤ planAt
      (hbCarrier hb s) s → (hbOf hb s).side ≠ some true → exec (.bootstrapRefresh hb) s = .next (setHb hb
      { hbOf hb s with refresh := false } s))
  ∧ (∀ (hb : Fin 104) (s : State), s.configured = true → hbUsed hb s = true → hbState hb s = 1 → hbCause hb s = 0
      → pulsesOn (hbStage hb s) s = true → (isDirect hb = true ∨ linkState (hb / 4) s = lkReady) → (carOf (hbCarrier hb
      s) s).half = false → ((hbOf hb s).clearAt + pleadOf (hbStage hb s) s : Nat) ≤ posTime (hbCarrier hb s) (carOf
      (hbCarrier hb s) s).start s → posTime (hbCarrier hb s) (carOf (hbCarrier hb s) s).start s ≤ planAt (hbCarrier hb
      s) s → ∃ t, exec (.halfBridgeResume hb) s = .next t ∧ hbState hb t = 0 ∧ (hbOf hb t).side = none ∧ (hbOf hb
      t).planned = (carOf (hbCarrier hb s) s).start - 1 ∧ (hbOf hb t).edges = (hbOf hb s).edges ∧ rdI (Reg.PGN_ACC hb)
      t = 0 ∧ t.mem = s.mem ∧ t.evt = s.evt ∧ regsKept [Reg.PGN_HSTAT hb, Reg.PGN_ACC hb] s t)

/-- At its stamp a turn-off drives LEGn_EN low and LEGn_P, 1 ns later, to the level of the next switch, and awaits its
acknowledgement for ACKTO; a turn-on whose acknowledgement is qualified drives LEGn_EN high at its stamp, shown at the
end of the FCLK unless the trip gate is closed; one that is not is skipped, with SKIP and EV56, and drives nothing; an
edge of an earlier FCLK is missed: its half-bridge enters the safe state with EV66 (the model's choice, log entry
201). An acknowledgement that rises qualifies 2 + ACKQ FCLK later; one that falls unqualifies when the synchroniser
reads it, 2 FCLK later. A turn-off without acknowledgement by ACKTO (on a link, one that the off-confirmed status as
last reported does not answer) records EV57 and puts the half-bridge into retirement; an undervoltage still reported
BSREC after a forced refresh does the same. Each clause concludes that exec answers the next state it describes, under
hypotheses on the state and the operands alone. -/
def Obligations.DirectLegs : Prop :=
  (∀ (leg : Fin 8) (e : Edge) (s : State), dueEdge (hbOf (96 + leg) s).edges (s.lt + fclk) = some e → e.stamp < fclk
      * nowF s → hbUsed (96 + leg) s = true → ∃ t, exec (.edgeExecute leg) s = .next t ∧ recorded 66 1 (96 + leg) none
      s t ∧ (hbOf (96 + leg) t).edges = [] ∧ on (Reg.PGN_HEVT (96 + leg)) Reg.PGN_HEVT_SAFE t = true ∧ t.legEn.testBit
      leg = false ∧ t.mem = s.mem)
  ∧ (∀ (leg : Fin 8) (e : Edge) (s : State), dueEdge (hbOf (96 + leg) s).edges (s.lt + fclk) = some e → fclk * nowF s
      ≤ e.stamp → e.on = false → (hbOf (96 + leg) s).pAt = none → (hbOf (96 + leg) s).rise = none → ∃ t, exec
      (.edgeExecute leg) s = .next t ∧ t.legEn = setBit s.legEn leg false ∧ t.legP = setBit s.legP leg (!e.hi) ∧ t.out
      = s.out ++ [Out.pin "LEG_EN" leg 0 e.stamp, Out.pin "LEG_P" leg (if e.hi then 0 else 1) (e.stamp + 8)] ∧ (hbOf
      (96 + leg) t).edges = (hbOf (96 + leg) s).edges.erase e ∧ (e.stamp, e.stamp + rd (Reg.PGN_ACKTO (96 + leg)) s % 2
      ^ 17, e.hi) ∈ (hbOf (96 + leg) t).ackBy ∧ t.mem = s.mem ∧ t.evt = s.evt)
  ∧ (∀ (leg : Fin 8) (e : Edge) (s : State), dueEdge (hbOf (96 + leg) s).edges (s.lt + fclk) = some e → fclk * nowF s
      ≤ e.stamp → e.on = true → (hbOf (96 + leg) s).pAt = none → (hbOf (96 + leg) s).rise = none → qualifiedAt (96
      + leg) ((e.stamp - 16) / fclk) s = true → ∃ t, exec (.edgeExecute leg) s = .next t ∧ t.legEn = setBit s.legEn leg
      true ∧ t.legP = setBit s.legP leg e.hi ∧ t.out = s.out ∧ (legRise leg t).out = (if tripGate (96 + leg) s then
      s.out else s.out ++ [Out.pin "LEG_EN" leg 1 e.stamp]) ∧ (hbOf (96 + leg) t).edges = (hbOf (96 + leg)
      s).edges.erase e ∧ t.mem = s.mem ∧ t.evt = s.evt)
  ∧ (∀ (leg : Fin 8) (e : Edge) (s : State), dueEdge (hbOf (96 + leg) s).edges (s.lt + fclk) = some e → fclk * nowF s
      ≤ e.stamp → e.on = true → (hbOf (96 + leg) s).pAt = none → qualifiedAt (96 + leg) ((e.stamp - 16) / fclk) s
      = false → ∃ t, exec (.edgeExecute leg) s = .next t ∧ on (Reg.PGN_HEVT (96 + leg)) Reg.PGN_HEVT_SKIP t = true
      ∧ recorded 56 1 (96 + leg) none s t ∧ (t.legEn.testBit leg = true → s.legEn.testBit leg = true) ∧ t.legP = s.legP
      ∧ t.mem = s.mem)
  ∧ (∀ (leg : Fin 8) (level : Bool) (s : State), level = true → (hbOf (96 + leg) s).ackAt = none → exec
      (.ackInputChange leg level) s = .next (setHb (96 + leg)
      { hbOf (96 + leg) s with ackAt := some (nowF s + 2 + fl (Reg.PGN_HCFG (96 + leg)) Reg.PGN_HCFG_ACKQ s) } s))
  ∧ (∀ (leg : Fin 8) (level : Bool) (s : State), level = false → ∃ t, exec (.ackInputChange leg level) s = .next t
      ∧ (hbOf (96 + leg) t).ackAt = none ∧ (∀ f, nowF s + 2 ≤ f → (∀ a b, (hbOf (96 + leg) s).ackPrev = some (a, b) → b
      ≤ nowF s + 2) → qualifiedAt (96 + leg) f t = false) ∧ t.regs = s.regs ∧ t.mem = s.mem ∧ t.evt = s.evt)
  ∧ (∀ (hb : Fin 104) (s : State), hbUsed hb s = true → hb.val < 96 → (hbOf hb s).ackBy.any (fun p => decide (p.2.1
      ≤ s.lt) && (decide (s.lt < p.1) || !ocOff (lnkOf (hb / 4) s).oc hb p.2.2)) = true → ∃ t, exec (.ackTimeout hb) s
      = .next t ∧ (hbState hb t = 2 ∨ retiring hb t = true) ∧ on (Reg.PGN_HEVT hb) Reg.PGN_HEVT_ACKMISS t = true
      ∧ recorded 57 0 hb none s t ∧ (hbOf hb t).ackBy = [] ∧ t.mem = s.mem ∧ t.nv = s.nv)
  ∧ (∀ (hb : Fin 104) (s : State), hbUsed hb s = true → 96 ≤ hb.val → (hbOf hb s).ackAt = none → (hbOf hb s).ackPrev
      = none → (hbOf hb s).ackBy.any (fun p => decide (p.2.1 ≤ s.lt)) = true → ∃ t, exec (.ackTimeout hb) s = .next t
      ∧ (hbState hb t = 2 ∨ retiring hb t = true) ∧ on (Reg.PGN_HEVT hb) Reg.PGN_HEVT_ACKMISS t = true ∧ recorded 57 0
      hb none s t ∧ (hbOf hb t).ackBy = [] ∧ t.mem = s.mem ∧ t.nv = s.nv)
  ∧ (∀ (hb : Fin 104) (u : Nat) (s : State), (hbOf hb s).uvBy = some u → u ≤ s.lt → hb.val < 96 → (lnkOf (hb / 4)
      s).uv.testBit (hb % 4) = true → ∃ t, exec (.bsrecTimeout hb) s = .next t ∧ (hbState hb t = 2 ∨ retiring hb t
      = true) ∧ (hbOf hb t).uvBy = none ∧ t.mem = s.mem ∧ t.nv = s.nv)
  ∧ (∀ (hb : Fin 104) (u : Nat) (s : State), (hbOf hb s).uvBy = some u → u ≤ s.lt → (96 ≤ hb.val ∨ (lnkOf (hb / 4)
      s).uv.testBit (hb % 4) = false) → exec (.bsrecTimeout hb) s = .next (setHb hb { hbOf hb s with uvBy := none } s))

/-- A carrier-set request whose set every carrier of the Stage holds valid, under no other owner's lock, is held in
PGN_CSETREQ and waits for the hand-over, and nothing else changes but the end of the pair's hold; one without a valid
set is refused with code 1 and EV62. At the lead carrier's period start t_s every carrier of the Stage switches to the
set handed over, with SETSW. A module disable sets DISABLED, holds every half-bridge in use with that cause, grades G5
against every Stage with pulses and records EV63. Each clause concludes that exec answers the next state it describes,
under hypotheses on the state and the operands alone. -/
def Obligations.CarrierSetsAndDisable : Prop :=
  (∀ (st : Fin 4) (value : BitVec 32) (by_ : Fin 19) (s : State), mayStore (Reg.PGN_CSETREQ st) by_ s = true
      → value.toNat < 4 → (carsOf st s).all (fun c => on (Reg.PGN_KMODE c value.toNat) Reg.PGN_KMODE_VALID s) = true
      → shadowLock 2 st s = none → exec (.carrierSetRequest st value by_) s = .next (setB (Reg.PGN_SSTAT st)
      Reg.PGN_SSTAT_SETPEND true (setPgn st { pgnOf st s with req := some value.toNat } (wr (Reg.PGN_CSETREQ st)
      value.toNat (endHold (Reg.PGN_CSETREQ st) s)))))
  ∧ (∀ (st : Fin 4) (value : BitVec 32) (by_ : Fin 19) (s : State), mayStore (Reg.PGN_CSETREQ st) by_ s = true
      → value.toNat < 4 → (carsOf st s).all (fun c => on (Reg.PGN_KMODE c value.toNat) Reg.PGN_KMODE_VALID s) = false
      → ∃ t, exec (.carrierSetRequest st value by_) s = .next t ∧ fl (Reg.PGN_REFUSE st) Reg.PGN_REFUSE_CODE t = 1
      ∧ recorded 62 0 1 (some st) s t ∧ t.pgn = s.pgn ∧ t.mem = s.mem)
  ∧ (∀ (st : Fin 4) (c k : Nat) (s : State), leadCarrier st s = some c → setDue c s = true → s.configured = true
      → posTime c (carBoundary c s) s ≤ planAt c s → (pgnOf st s).ready = some k → k < 4 → ∃ t, exec (.carrierSetSwitch
      st) s = .next t ∧ fl (Reg.PGN_SSTAT st) Reg.PGN_SSTAT_SETACT t = k ∧ (pgnOf st t).ready = none ∧ on (Reg.PGN_SEVT
      st) Reg.PGN_SEVT_SETSW t = true ∧ (∀ d ∈ carsOf st s, carSet d t = k) ∧ t.mem = s.mem)
  ∧ (∀ (s : State), stores s = true → ∃ t, exec .moduleDisable s = .next t ∧ bitAt Reg.PGN_GSTAT 0 t = true ∧ (∀ h :
      Fin 104, hbUsed h s = true → (hbCause h t).testBit 3 = true) ∧ (∀ st : Fin 4, pulsesOn st s = true → locked st t
      = true ∧ pulsesOn st t = false) ∧ recorded 63 (if (List.range 4).any (fun st => pulsesOn st s) then 5 else 0) 0
      none s t ∧ t.mem = s.mem ∧ t.nv = s.nv)

/-- A slot command starts its admission: TCK_WSTAT shows BUSY and no slot in force changes; during another admission it is
refused with EV21. At the end of an admission an accepted write waits for S, 64 FCLK on, which TCK_WSW shows, or is
staged under the lock that covers its slot; a refused one shows its cause and EV21, and nothing waits. At S the new
words, or the delete, are in force and every other slot is as before. A write of TCK_RIDX latches the words in force.
An occurrence that has not fired within 7 FCLK is dropped with EV22 and the late count, and the slot goes on. Each
clause concludes that exec answers the next state it describes, under hypotheses on the state and the operands alone. -/
def Obligations.SlotCommands : Prop :=
  (∀ (slot : Fin 4096) (by_ : Fin 19) (s : State), mayStore Reg.TCK_WCMD by_ s = true → on Reg.TCK_WSTAT
      Reg.TCK_WSTAT_BUSY s = false → ∃ t, exec (.slotWrite slot by_) s = .next t ∧ t.tack
      = { s.tack with adm := some (slot.val, some (stagedSlot by_ s), by_.val) } ∧ on Reg.TCK_WSTAT Reg.TCK_WSTAT_BUSY
      t = true ∧ t.mem = s.mem)
  ∧ (∀ (slot : Fin 4096) (by_ : Fin 19) (s : State), mayStore Reg.TCK_WCMD by_ s = true → on Reg.TCK_WSTAT
      Reg.TCK_WSTAT_BUSY s = true → ∃ t, exec (.slotWrite slot by_) s = .next t ∧ t.tack = s.tack ∧ fl Reg.TCK_WSTAT
      Reg.TCK_WSTAT_RESULT t = 2 ∧ recorded 21 0 slot none s t ∧ t.mem = s.mem)
  ∧ (∀ (slot : Fin 4096) (by_ : Fin 19) (s : State), mayStore Reg.TCK_WCMD by_ s = true → on Reg.TCK_WSTAT
      Reg.TCK_WSTAT_BUSY s = false → ∃ t, exec (.slotDelete slot by_) s = .next t ∧ t.tack
      = { s.tack with adm := some (slot.val, none, by_.val) } ∧ on Reg.TCK_WSTAT Reg.TCK_WSTAT_BUSY t = true ∧ t.mem
      = s.mem)
  ∧ (∀ (n b : Nat) (x : Slot) (s : State), s.tack.adm = some (n, some x, b) → writeCause n x b s = 0 → slotLock n s
      = none → ∃ t, exec .admissionComplete s = .next t ∧ t.tack.switch = s.tack.switch ++ [(n, some x, switchAt s)]
      ∧ t.tack.adm = none ∧ t.tack.slots = s.tack.slots ∧ fl Reg.TCK_WSTAT Reg.TCK_WSTAT_RESULT t = 1 ∧ on
      Reg.TCK_WSTAT Reg.TCK_WSTAT_BUSY t = false ∧ rd64 Reg.TCK_WSW_LO Reg.TCK_WSW_HI t = switchAt s % 2 ^ 64 ∧ t.mem
      = s.mem ∧ t.evt = s.evt)
  ∧ (∀ (n b i : Nat) (x : Slot) (s : State), s.tack.adm = some (n, some x, b) → writeCause n x b s = 0 → slotLock n s
      = some i → ∃ t, exec .admissionComplete s = .next t ∧ t.tack.switch = s.tack.switch ∧ t.tack.adm = none
      ∧ t.tack.slots = s.tack.slots ∧ (lockOf i t).staged = (lockOf i s).staged ++ [Staged.slot n x] ∧ fl Reg.TCK_WSTAT
      Reg.TCK_WSTAT_RESULT t = 1 ∧ t.mem = s.mem)
  ∧ (∀ (n b : Nat) (x : Slot) (s : State), s.tack.adm = some (n, some x, b) → writeCause n x b s ≠ 0 → ∃ t, exec
      .admissionComplete s = .next t ∧ t.tack = { s.tack with adm := none } ∧ fl Reg.TCK_WSTAT Reg.TCK_WSTAT_RESULT t
      = 2 ∧ fl Reg.TCK_WSTAT Reg.TCK_WSTAT_CAUSE t = writeCause n x b s % 2 ^ Reg.TCK_WSTAT_CAUSE.width ∧ recorded 21 0
      n none s t ∧ t.mem = s.mem)
  ∧ (∀ (n b : Nat) (s : State), s.tack.adm = some (n, none, b) → slProt (slotOf n s) = false → slotLock n s = none
      → slOne (slotOf n s) = false → ∃ t, exec .admissionComplete s = .next t ∧ t.tack.switch = s.tack.switch ++ [(n,
      none, switchAt s)] ∧ t.tack.adm = none ∧ t.tack.slots = s.tack.slots ∧ fl Reg.TCK_WSTAT Reg.TCK_WSTAT_RESULT t
      = 1 ∧ t.mem = s.mem)
  ∧ (∀ (slot : Fin 4096) (x : Slot) (a : Nat) (s : State), s.tack.switch.find? (fun p : Nat × Option Slot × Nat => p.1
      == slot.val) = some (slot.val, some x, a) → a ≤ s.lt → oldWaits slot a s = false → ∃ t, exec (.slotSwitch slot) s
      = .next t ∧ slotOf slot t = x ∧ Tbl.get none t.tack.due slot = slotFirst x a s ∧ t.tack.switch
      = s.tack.switch.eraseP (fun p : Nat × Option Slot × Nat => p.1 == slot.val) ∧ (∀ k, k ≠ slot.val → slotOf k t
      = slotOf k s ∧ Tbl.get none t.tack.due k = Tbl.get none s.tack.due k) ∧ t.mem = s.mem ∧ t.evt
      = { s.evt with torn := t.evt.torn, mism := t.evt.mism })
  ∧ (∀ (slot : Fin 4096) (a : Nat) (s : State), s.tack.switch.find? (fun p : Nat × Option Slot × Nat => p.1 ==
      slot.val) = some (slot.val, none, a) → a ≤ s.lt → oldWaits slot a s = false → ∃ t, exec (.slotSwitch slot) s
      = .next t ∧ slValid (slotOf slot t) = false ∧ Tbl.get none t.tack.due slot = none ∧ (∀ k, k ≠ slot.val → slotOf k
      t = slotOf k s) ∧ t.mem = s.mem ∧ t.evt = { s.evt with torn := t.evt.torn, mism := t.evt.mism })
  ∧ (∀ (slot : Fin 4096) (s : State), stores s = true → ∃ t, exec (.slotReadLatch slot) s = .next t ∧ rd (Reg.TCK_RD 0)
      t = (slotOf slot s).w0 % 2 ^ 32 ∧ rd (Reg.TCK_RD 1) t = (slotOf slot s).w1 % 2 ^ 32 ∧ rd (Reg.TCK_RD 6) t
      = (slotOf slot s).w6 % 2 ^ 32 ∧ rd Reg.TCK_RIDX t = slot ∧ regsKept (Reg.TCK_RIDX :: (List.range 8).map
      Reg.TCK_RD) s t ∧ t = { s with regs := t.regs })
  ∧ (∀ (slot : Fin 4096) (e : Nat) (s : State), eligibleAt slot s = some e → e + 7 < nowF s → slValid (slotOf slot s)
      = true → ∃ t, exec (.occurrenceDropped slot) s = .next t ∧ recorded 22 1 slot none s t ∧ on Reg.TCK_EVT
      Reg.TCK_EVT_LATE t = true ∧ rd Reg.TCK_LATECNT t = min (2 ^ 32 - 1) (rd Reg.TCK_LATECNT s + 1) ∧ t.tack.due
      = (tackFired slot s).tack.due ∧ t.tack.slots = s.tack.slots ∧ t.mem = s.mem)

/-- An ACQUIRE of a free lock on a domain that no other lock holds, with a lease of 1 µs to 1 s, makes the writer its
owner with that lease; RENEW by the owner reloads the lease; COMMIT schedules the staged work for S, 64 FCLK on, and
changes no slot; at S the staged work is in force and the lock free and marked committed. ABORT frees the lock and
discards the staged work; a lease that runs out and the owner's sideband do so at the end of the FCLK (at once where
the lease ended in an earlier FCLK), so that a COMMIT of that FCLK still counts; an ABORT after a commit answers
"already complete" and changes no lock. Each clause concludes that exec answers the next state it describes, under
hypotheses on the state and the operands alone. -/
def Obligations.SequenceLocks : Prop :=
  (∀ (lock : Fin 8) (kind st : Fin 4) (by_ : Fin 19) (s : State), mayStore Reg.TCK_LCMD by_ s = true → kind ≠ 3
      → lockHeld lock s = false → domainTaken lock kind st s = false → 1 ≤ leaseAsked s → leaseAsked s ≤ 1000000
      → (kind ≠ 0 ∨ rd Reg.TCK_LRANGE s % 2 ^ 12 ≤ rd Reg.TCK_LRANGE s / 2 ^ 16 % 2 ^ 12) → ∃ t, exec (.lockAcquire
      lock kind st by_) s = .next t ∧ lockHeld lock t = true ∧ lockOwner lock t = by_ ∧ lockKind lock t = kind
      ∧ lockStage lock t = st ∧ (lockOf lock t).until_ = s.lt + leaseAsked s * us ∧ (lockOf lock t).commitAt = none
      ∧ fl Reg.TCK_LSTAT Reg.TCK_LSTAT_RESULT t = 1 ∧ t.tack.slots = s.tack.slots ∧ t.mem = s.mem)
  ∧ (∀ (lock : Fin 8) (kind st : Fin 4) (by_ : Fin 19) (s : State), mayStore Reg.TCK_LCMD by_ s = true → kind ≠ 3
      → lockHeld lock s = true → lockOwner lock s ≠ by_ → ∃ t, exec (.lockAcquire lock kind st by_) s = .next t
      ∧ t.tack = s.tack ∧ fl Reg.TCK_LSTAT Reg.TCK_LSTAT_RESULT t = 2 ∧ fl Reg.TCK_LSTAT Reg.TCK_LSTAT_CAUSE t = 1
      ∧ recorded 21 0 lock none s t ∧ rdW (Reg.TCK_LOCK lock) t = rdW (Reg.TCK_LOCK lock) s ∧ t.mem = s.mem)
  ∧ (∀ (lock : Fin 8) (by_ : Fin 19) (s : State), mayStore Reg.TCK_LCMD by_ s = true → lockCause lock by_ s = 0 → 1
      ≤ leaseAsked s → leaseAsked s ≤ 1000000 → ∃ t, exec (.lockRenew lock by_) s = .next t ∧ t.tack
      = { s.tack with locks := Tbl.put lock { lockOf lock s with until_ := s.lt + leaseAsked s * us, doom := (lockOf lock s).doom.filter (· == rbSideband) } s.tack.locks }
      ∧ lockHeld lock t = true ∧ lockOwner lock t = by_ ∧ fl Reg.TCK_LSTAT Reg.TCK_LSTAT_RESULT t = 1 ∧ t.mem = s.mem
      ∧ t.nv = s.nv)
  ∧ (∀ (lock : Fin 8) (by_ : Fin 19) (s : State), mayStore Reg.TCK_LCMD by_ s = true → lockCause lock by_ s = 0 → ∃ t,
      exec (.lockCommit lock by_) s = .next t ∧ (lockOf lock t).commitAt = some (switchAt s) ∧ (lockOf lock t).staged
      = (lockOf lock s).staged ∧ t.tack.slots = s.tack.slots ∧ fl Reg.TCK_LSTAT Reg.TCK_LSTAT_RESULT t = 1 ∧ t.mem
      = s.mem)
  ∧ (∀ (lock : Fin 8) (a n : Nat) (w : Slot) (s : State), (lockOf lock s).commitAt = some a → a ≤ s.lt → (lockOf lock
      s).staged = [Staged.slot n w] → oldWaits n a s = false → ∃ t, exec (.lockCommitRelease lock) s = .next t ∧ slotOf
      n t = w ∧ (∀ k, k ≠ n → slotOf k t = slotOf k s) ∧ lockHeld lock t = false ∧ (lockOf lock t).committed = true
      ∧ (lockOf lock t).staged = [] ∧ t.mem = s.mem ∧ t.evt = { s.evt with torn := t.evt.torn, mism := t.evt.mism })
  ∧ (∀ (lock : Fin 8) (a k v : Nat) (s : State), (lockOf lock s).commitAt = some a → a ≤ s.lt → (lockOf lock s).staged
      = [Staged.stitch k v true, Staged.carrier k v] → k < 4 → ∃ t, exec (.lockCommitRelease lock) s = .next t ∧ (stiOf
      k t).req = some (v, true) ∧ (pgnOf k t).req = some v ∧ lockHeld lock t = false ∧ t.tack.slots = s.tack.slots
      ∧ t.mem = s.mem)
  ∧ (∀ (lock : Fin 8) (by_ : Fin 19) (s : State), mayStore Reg.TCK_LCMD by_ s = true → lockCause lock by_ s = 0
      → (lockOf lock s).committed = false → ∃ t, exec (.lockAbort lock by_) s = .next t ∧ lockHeld lock t = false
      ∧ lockOf lock t = Lock.reset ∧ on Reg.TCK_EVT Reg.TCK_EVT_ROLLBACK t = true ∧ fl Reg.TCK_LSTAT
      Reg.TCK_LSTAT_RESULT t = 1 ∧ t.tack.slots = s.tack.slots ∧ t.mem = s.mem)
  ∧ (∀ (lock : Fin 8) (by_ : Fin 19) (s : State), mayStore Reg.TCK_LCMD by_ s = true → (lockOf lock s).commitAt.isSome
      = true → ∃ t, exec (.lockAbort lock by_) s = .next t ∧ t.tack = s.tack ∧ fl Reg.TCK_LSTAT Reg.TCK_LSTAT_RESULT t
      = 3 ∧ t.mem = s.mem)
  ∧ (∀ (lock : Fin 8) (s : State), lockHeld lock s = true → (lockOf lock s).commitAt = none → (lockOf lock s).until_
      < s.lt → ∃ t, exec (.lockLeaseExpiry lock) s = .next t ∧ lockHeld lock t = false ∧ lockOf lock t = Lock.reset
      ∧ on Reg.TCK_EVT Reg.TCK_EVT_ROLLBACK t = true ∧ t.tack.slots = s.tack.slots ∧ t.mem = s.mem)
  ∧ (∀ (lock : Fin 8) (s : State), lockHeld lock s = true → (lockOf lock s).commitAt = none → (lockOf lock s).until_
      = s.lt → ∃ t, exec (.lockLeaseExpiry lock) s = .next t ∧ (lockOf lock t).doom.isSome = true ∧ lockHeld lock
      (locksEnd t) = false ∧ lockOf lock (locksEnd t) = Lock.reset ∧ on Reg.TCK_EVT Reg.TCK_EVT_ROLLBACK (locksEnd t)
      = true ∧ (locksEnd t).tack.slots = s.tack.slots ∧ t.regs = s.regs ∧ t.mem = s.mem)
  ∧ (∀ (owner : Fin 19) (s : State), ∃ t, exec (.lockOwnerSideband owner) s = .next t ∧ (∀ i : Fin 8, lockHeld i s
      = true → (lockOf i s).commitAt = none → lockOwner i s = owner → (lockOf i t).doom.isSome = true ∧ lockHeld i
      (locksEnd t) = false ∧ lockOf i (locksEnd t) = Lock.reset) ∧ (∀ i : Fin 8, lockOwner i s ≠ owner → lockOf i t
      = lockOf i s ∧ rdW (Reg.TCK_LOCK i) t = rdW (Reg.TCK_LOCK i) s) ∧ t.tack.slots = s.tack.slots ∧ (locksEnd
      t).tack.slots = s.tack.slots ∧ t.regs = s.regs ∧ t.mem = s.mem)

/-- A ready GPIO slot with ARG 0, 1 or 2 drives its GPIO low, high, or to the other level on a unit that acts, and the
slot goes on; nothing else changes. Where the slot's ARG is another one, or the slot is not ready, the command changes
nothing (log entry 11). Each clause concludes that exec answers the next state it describes, under hypotheses on the
state and the operands alone. -/
def Obligations.GpioActions : Prop :=
  (∀ (slot : Fin 4096) (s : State), tackReady slot actGpio s = true → slArg (slotOf slot s) = 0 → acting s = true
      → exec (.gpioLow slot) s = .next
      ({ tackFired slot s with gpioOut := setBit s.gpioOut (slTarget (slotOf slot s) % 32) false }))
  ∧ (∀ (slot : Fin 4096) (s : State), tackReady slot actGpio s = true → slArg (slotOf slot s) = 1 → acting s = true
      → exec (.gpioHigh slot) s = .next
      ({ tackFired slot s with gpioOut := setBit s.gpioOut (slTarget (slotOf slot s) % 32) true }))
  ∧ (∀ (slot : Fin 4096) (s : State), tackReady slot actGpio s = true → slArg (slotOf slot s) = 2 → acting s = true
      → exec (.gpioToggle slot) s = .next
      ({ tackFired slot s with gpioOut := setBit s.gpioOut (slTarget (slotOf slot s) % 32) (!s.gpioOut.testBit (slTarget (slotOf slot s) % 32)) }))
  ∧ (∀ (slot : Fin 4096) (s : State), tackReady slot actGpio s = false → exec (.gpioLow slot) s = .next s)
  ∧ (∀ (slot : Fin 4096) (s : State), tackReady slot actGpio s = false → exec (.gpioHigh slot) s = .next s)
  ∧ (∀ (slot : Fin 4096) (s : State), tackReady slot actGpio s = false → exec (.gpioToggle slot) s = .next s)

/-- A START_ADC on an idle bank starts its entry with its first round at the fourth FCLK; a normal start during a normal
sequence whose chain ends is an overrun, dropped with EV100 and counted; an urgent start interrupts a normal sequence,
whose entry is held with EV99. At its busy end a sequence frees the bank, and after an urgent one the held entry
starts again. Each clause concludes that exec answers the next state it describes, under hypotheses on the state and
the operands alone. -/
def Obligations.SequenceStarts : Prop :=
  (∀ (slot : Fin 4096) (b e : Nat) (s : State), tackReady slot actAdc s = true → b = slTarget (slotOf slot s) % 4 → e
      = slArg (slotOf slot s) % 32 → (slArg (slotOf slot s)).testBit 8 = false → bankRetired b s = false → (bankOf b
      s).run = none → ∃ t, exec (.startAdc slot) s = .next t ∧ (bankOf b t).run = some (Run.mk false e [] (entCount b e
      s) (nowF s + 4) false) ∧ (bankOf b t).deliver = (bankOf b s).deliver ∧ on (Reg.ADC_BSTAT b) Reg.ADC_BSTAT_URGENT
      t = false ∧ on (Reg.ADC_BSTAT b) Reg.ADC_BSTAT_RUN t = true ∧ fl (Reg.ADC_BSTAT b) Reg.ADC_BSTAT_ENTRY t = e
      ∧ regsKept [Reg.ADC_BSTAT b] (tackFired slot s) t ∧ t.tack = (tackFired slot s).tack ∧ t.mem = s.mem ∧ t.evt
      = (tackFired slot s).evt)
  ∧ (∀ (slot : Fin 4096) (b e : Nat) (s : State), tackReady slot actAdc s = true → b = slTarget (slotOf slot s) % 4 → e
      = slArg (slotOf slot s) % 32 → (slArg (slotOf slot s)).testBit 8 = true → bankRetired b s = false → (bankOf b
      s).run = none → ∃ t, exec (.startAdcUrgent slot) s = .next t ∧ (bankOf b t).run = some (Run.mk true e []
      (entCount b e s) (nowF s + 4) false) ∧ (bankOf b t).deliver = (bankOf b s).deliver ∧ on (Reg.ADC_BSTAT b)
      Reg.ADC_BSTAT_URGENT t = true ∧ on (Reg.ADC_BSTAT b) Reg.ADC_BSTAT_RUN t = false ∧ fl (Reg.ADC_BSTAT b)
      Reg.ADC_BSTAT_ENTRY t = e ∧ regsKept [Reg.ADC_BSTAT b] (tackFired slot s) t ∧ t.tack = (tackFired slot s).tack
      ∧ t.mem = s.mem ∧ t.evt = (tackFired slot s).evt)
  ∧ (∀ (slot : Fin 4096) (b : Nat) (r : Run) (s : State), tackReady slot actAdc s = true → b = slTarget (slotOf slot s)
      % 4 → (slArg (slotOf slot s)).testBit 8 = false → bankRetired b s = false → (bankOf b s).run = some r → r.urgent
      = false → seqLoops b 33 r.entry s = false → ∃ t, exec (.startAdc slot) s = .next t ∧ (bankOf b t).run = some r
      ∧ recorded 100 1 b none s t ∧ on (Reg.ADC_BEVT b) Reg.ADC_BEVT_OVERRUN t = true ∧ fl (Reg.ADC_OVRCNT b) ⟨0, 16⟩ t
      = min (2 ^ 16 - 1) (fl (Reg.ADC_OVRCNT b) ⟨0, 16⟩ s + 1) ∧ t.mem = s.mem)
  ∧ (∀ (slot : Fin 4096) (b e : Nat) (r : Run) (s : State), tackReady slot actAdc s = true → b = slTarget (slotOf slot
      s) % 4 → e = slArg (slotOf slot s) % 32 → (slArg (slotOf slot s)).testBit 8 = true → bankRetired b s = false
      → (bankOf b s).run = some r → r.urgent = false → r.done = false → nowF s + 4 ≤ r.next → ∃ t, exec
      (.startAdcUrgent slot) s = .next t ∧ (bankOf b t).held = some r.entry ∧ (bankOf b t).run.map (fun q : Run =>
      (q.urgent, q.entry, q.left)) = some (true, e, entCount b e s) ∧ recorded 99 0 (32 * b + r.entry) none s t ∧ on
      (Reg.ADC_BEVT b) Reg.ADC_BEVT_PREEMPT t = true ∧ on (Reg.ADC_BSTAT b) Reg.ADC_BSTAT_HELD t = true ∧ t.mem
      = s.mem)
  ∧ (∀ (bank : Fin 4) (r : Run) (s : State), (bankOf bank s).run = some r → r.done = true → busyEnd bank s ≤ nowF s
      → r.urgent = false → ∃ t, exec (.sequenceBusyEnd bank) s = .next t ∧ (bankOf bank t).run = none ∧ on
      (Reg.ADC_BSTAT bank) Reg.ADC_BSTAT_RUN t = false ∧ (bankOf bank t).deliver = (bankOf bank s).deliver ∧ regsKept
      [Reg.ADC_BSTAT bank] s t ∧ t.mem = s.mem ∧ t.evt = s.evt)
  ∧ (∀ (bank : Fin 4) (r : Run) (h : Nat) (s : State), (bankOf bank s).run = some r → r.done = true → busyEnd bank s
      ≤ nowF s → r.urgent = true → (bankOf bank s).held = some h → ∃ t, exec (.sequenceBusyEnd bank) s = .next t
      ∧ (bankOf bank t).run = some (runFrom bank h false (roundAfter bank h s) s) ∧ (bankOf bank t).held = none
      ∧ regsKept [Reg.ADC_BSTAT bank] s t ∧ t.mem = s.mem ∧ t.evt = s.evt)

/-- A due delivery takes the oldest entry, and one conversion of an input leaves its value corrected by the offset and
gain of its slice. A good ABS, with any mismatch that Tumble forces on the slice in its sums, writes the slice's
offset and gain, and a spare goes on to REL; a bad one leaves both and records EV96. A good REL writes the spare's
trim and makes its rotation due, and one without its pairs within CALTO makes it due with the skip counter. A rotation
gives the spare the shadowed position and its slice becomes the spare, in ABS. The reference check clears or sets
GSTAT.REFOK, the latter with EV111. Each clause concludes that exec answers the next state it describes, under
hypotheses on the state and the operands alone. -/
def Obligations.BankCalibration : Prop :=
  (∀ (bank : Fin 4) (codes : List (BitVec 16)) (e due : Nat) (rounds : List Round) (rest : List (Nat × List Round ×
      Nat)) (s : State), (bankOf bank s).deliver = (e, rounds, due) :: rest → due ≤ 64 * s.lt → (entConvs bank e rounds
      s).length = codes.length → ∃ t, exec (.entryDelivery bank codes) s = .next t ∧ (bankOf bank t).deliver = rest
      ∧ (bankOf bank t).run = (bankOf bank s).run ∧ t.mem = s.mem)
  ∧ (∀ (bank : Fin 4) (c : BitVec 16) (e due i at_ : Nat) (v : Int) (cal : Int × Nat) (rounds : List Round) (rest :
      List (Nat × List Round × Nat)) (s : State), (bankOf bank s).deliver = (e, rounds, due) :: rest → due ≤ 64 * s.lt
      → entConvs bank e rounds s = [(i, cal, at_)] → entRaw bank e rounds [c.toInt] s = [v] → entIn bank e i s < 12 → ∃
      t, exec (.entryDelivery bank [c]) s = .next t ∧ rd (Reg.ADC_ILAST (12 * bank + entIn bank e i s)) t = codeOf 20
      (correct cal v))
  ∧ (∀ (bank : Fin 4) (slice : Fin 5) (low zero high : BitVec 32) (z d : Int) (s : State), bankUsed bank s = true → z
      = sumMis (sliceMis bank slice s) (nabsOf bank s) zero.toInt → d = sumMis (sliceMis bank slice s) (nabsOf bank s)
      high.toInt - sumMis (sliceMis bank slice s) (nabsOf bank s) low.toInt → slicePhase bank slice s = phAbs → Tbl.get
      0 (bankOf bank s).absAt slice + fclk * (60 * nabsOf bank s) ≤ s.lt → z.natAbs ≤ rd (Reg.ADC_BLIM bank) s % 2 ^ 8
      * nabsOf bank s → 0 < d → ((163840 * (nabsOf bank s : Int) - 3 * d).natAbs * 2 ^ 14 : Int) ≤ (rd (Reg.ADC_BLIM
      bank) s / 2 ^ 8 % 2 ^ 8 : Nat) * (3 * d) → bankReady bank s = true → sliceRole bank slice s ≠ roleSpare → ∃ t,
      exec (.absComplete bank slice low zero high) s = .next t ∧ rd (Reg.ADC_SOFS bank slice) t = codeOf 20 (roundDiv
      (16 * z) (nabsOf bank s)) ∧ rd (Reg.ADC_SGAIN bank slice) t = (roundDiv (163840 * (nabsOf bank s : Int) * 2 ^ 20)
      (3 * d).toNat).toNat % 2 ^ 32 ∧ t.mem = s.mem ∧ t.evt = s.evt ∧ slicePhase bank slice t = phNone)
  ∧ (∀ (bank : Fin 4) (slice : Fin 5) (low zero high : BitVec 32) (z d : Int) (s : State), bankUsed bank s = true → z
      = sumMis (sliceMis bank slice s) (nabsOf bank s) zero.toInt → d = sumMis (sliceMis bank slice s) (nabsOf bank s)
      high.toInt - sumMis (sliceMis bank slice s) (nabsOf bank s) low.toInt → slicePhase bank slice s = phAbs → Tbl.get
      0 (bankOf bank s).absAt slice + fclk * (60 * nabsOf bank s) ≤ s.lt → z.natAbs ≤ rd (Reg.ADC_BLIM bank) s % 2 ^ 8
      * nabsOf bank s → 0 < d → ((163840 * (nabsOf bank s : Int) - 3 * d).natAbs * 2 ^ 14 : Int) ≤ (rd (Reg.ADC_BLIM
      bank) s / 2 ^ 8 % 2 ^ 8 : Nat) * (3 * d) → bankReady bank s = true → sliceRole bank slice s = roleSpare → ∃ t,
      exec (.absComplete bank slice low zero high) s = .next t ∧ rd (Reg.ADC_SOFS bank slice) t = codeOf 20 (roundDiv
      (16 * z) (nabsOf bank s)) ∧ rd (Reg.ADC_SGAIN bank slice) t = (roundDiv (163840 * (nabsOf bank s : Int) * 2 ^ 20)
      (3 * d).toNat).toNat % 2 ^ 32 ∧ t.mem = s.mem ∧ t.evt = s.evt ∧ slicePhase bank slice t = phRel ∧ (bankOf bank
      t).relAt = s.lt)
  ∧ (∀ (bank : Fin 4) (slice : Fin 5) (low zero high : BitVec 32) (z d : Int) (s : State), bankUsed bank s = true → z
      = sumMis (sliceMis bank slice s) (nabsOf bank s) zero.toInt → d = sumMis (sliceMis bank slice s) (nabsOf bank s)
      high.toInt - sumMis (sliceMis bank slice s) (nabsOf bank s) low.toInt → slicePhase bank slice s = phAbs → Tbl.get
      0 (bankOf bank s).absAt slice + fclk * (60 * nabsOf bank s) ≤ s.lt → d ≤ 0 → ∃ t, exec (.absComplete bank slice
      low zero high) s = .next t ∧ recorded 96 1 (5 * bank + slice) none s t ∧ rdW (Reg.ADC_SOFS bank slice) t = rdW
      (Reg.ADC_SOFS bank slice) s ∧ rdW (Reg.ADC_SGAIN bank slice) t = rdW (Reg.ADC_SGAIN bank slice) s ∧ t.mem
      = s.mem)
  ∧ (∀ (bank : Fin 4) (sxy sxx sm : BitVec 64) (gain : BitVec 32) (k : Nat) (s : State), spareOf bank s = some k
      → slicePhase bank k s = phRel → 2 * nrelOf bank s ≤ (bankOf bank s).relCount → 1024 * (nrelOf bank s : Int)
      ≤ sxx.toInt → 0 < sxx.toInt → (roundDiv (256 * sxy.toInt) sxx.toInt.toNat).natAbs ≤ 8 * (rd (Reg.ADC_BLIM bank) s
      / 2 ^ 16 % 2 ^ 8) → sm.toInt.natAbs ≤ 32 * (rd (Reg.ADC_BCAL1 bank) s / 2 ^ 8 % 2 ^ 8) * nrelOf bank s
      → (gain.toInt - 2 ^ 20).natAbs ≤ rd (Reg.ADC_BCAL1 bank) s / 2 ^ 16 → ∃ t, exec (.relComplete bank sxy sxx sm
      gain) s = .next t ∧ rd (Reg.ADC_STRIM bank k) t = codeOf 16 (satBits 16 (signed 16 (rd (Reg.ADC_STRIM bank
      (sliceAt bank (fl (Reg.ADC_BSTAT bank) Reg.ADC_BSTAT_SHADOW s) s)) s) - roundDiv (256 * sxy.toInt)
      sxx.toInt.toNat)) ∧ slicePhase bank k t = phNone ∧ (bankOf bank t).rotAt = some (nowF s) ∧ t.mem = s.mem ∧ t.evt
      = s.evt)
  ∧ (∀ (bank : Fin 4) (k : Nat) (s : State), spareOf bank s = some k → slicePhase bank k s = phRel → (bankOf bank
      s).relCount < 2 * nrelOf bank s → (bankOf bank s).relAt + rd (Reg.ADC_BCAL1 bank) s % 2 ^ 8 * 1000 * ms ≤ s.lt
      → ∃ t, exec (.relTimeout bank) s = .next t ∧ fl (Reg.ADC_RELSKIP bank) ⟨0, 16⟩ t = min (2 ^ 16 - 1) (fl
      (Reg.ADC_RELSKIP bank) ⟨0, 16⟩ s + 1) ∧ rdW (Reg.ADC_STRIM bank k) t = rdW (Reg.ADC_STRIM bank k) s ∧ slicePhase
      bank k t = phNone ∧ (bankOf bank t).rotAt = some (nowF s) ∧ t.mem = s.mem ∧ t.evt = s.evt)
  ∧ (∀ (bank : Fin 4) (k j p f : Nat) (s : State), spareOf bank s = some k → (bankOf bank s).rotAt = some f → (bankOf
      bank s).run = none → p = fl (Reg.ADC_BSTAT bank) Reg.ADC_BSTAT_SHADOW s → j = sliceAt bank p s → sliceRole bank j
      s = roleActive_ → ∃ t, exec (.spareRotate bank) s = .next t ∧ sliceRole bank k t = roleActive_ ∧ fl
      (Reg.ADC_SSTAT bank k) slPos t = p ∧ sliceRole bank j t = roleSpare ∧ slicePhase bank j t = phAbs ∧ fl
      (Reg.ADC_BSTAT bank) Reg.ADC_BSTAT_SHADOW t = (p + 1) % 4 ∧ (bankOf bank t).rotAt = none ∧ t.mem = s.mem ∧ t.evt
      = s.evt)
  ∧ (∀ (ref mon : BitVec 16) (s : State), ((ref.toNat : Int) - mon.toNat).natAbs * 200 ≤ mon.toNat → ∃ t, exec
      (.referenceCheck ref mon) s = .next t ∧ bitAt Reg.ADC_GSTAT 8 t = true ∧ t.evt.queue = s.evt.queue ∧ t.mem
      = s.mem)
  ∧ (∀ (ref mon : BitVec 16) (s : State), mon.toNat < ((ref.toNat : Int) - mon.toNat).natAbs * 200 → ∃ t, exec
      (.referenceCheck ref mon) s = .next t ∧ bitAt Reg.ADC_GSTAT 8 t = false ∧ bitAt Reg.ADC_GEVT 0 t = true
      ∧ recorded 111 3 0 none s t ∧ t.mem = s.mem)

/-- The first input of a stopped lane starts it and sets its settling count; one more than a quarter of the spacing off
stops it with EV104 and is the first of the restart; no input within two spacings stops it. An output is released at
its release FCLK, the first making the lane VALID with EV103, into the ring where that has room; one that was not
ready is dropped and counted. A read index out of range is ignored. Each clause concludes that exec answers the next
state it describes, under hypotheses on the state and the operands alone. -/
def Obligations.LaneCommands : Prop :=
  (∀ (lane : Fin 64) (v : Int) (x : Nat) (rest : List (Int × Nat)) (s : State), (laneOf lane s).inq = (v, x) :: rest
      → laneUsed lane s = true → s.configured = true → laneRetired lane s = false → (laneOf lane s).count = 0 → ∃ t,
      exec (.laneInput lane true) s = .next t ∧ (laneOf lane t).count = 1 ∧ (laneOf lane t).inq = rest ∧ (laneOf lane
      t).stamp = x ∧ (laneOf lane t).arrived = s.lt ∧ on (Reg.RNS_LSTAT lane) Reg.RNS_LSTAT_STOPPED t = false ∧ on
      (Reg.RNS_LSTAT lane) Reg.RNS_LSTAT_SETTLING t = (!laneValid lane s && decide (1 < rd (Reg.RNS_SETTLE lane) s))
      ∧ t.mem = s.mem)
  ∧ (∀ (lane : Fin 64) (v : Int) (x : Nat) (rest : List (Int × Nat)) (s : State), (laneOf lane s).inq = (v, x) :: rest
      → laneUsed lane s = true → s.configured = true → laneRetired lane s = false → (laneOf lane s).count ≠ 0 → (4
      * ((x : Int) - (laneOf lane s).stamp) < 3 * (64 * laneIspc lane s) ∨ 5 * (64 * (laneIspc lane s : Int)) < 4 * ((x
      : Int) - (laneOf lane s).stamp)) → ∃ t, exec (.laneInput lane true) s = .next t ∧ recorded 104 0 lane none s t
      ∧ on (Reg.RNS_LEVT lane) Reg.RNS_LEVT_STOP t = true ∧ (laneOf lane t).count = 1 ∧ (laneOf lane t).inq = rest
      ∧ (laneOf lane t).stamp = x ∧ laneValid lane t = false)
  ∧ (∀ (lane : Fin 64) (v : Int) (x : Nat) (rest : List (Int × Nat)) (s : State), (laneOf lane s).inq = (v, x) :: rest
      → laneUsed lane s = true → s.configured = true → laneRetired lane s = false → (laneOf lane s).count ≠ 0 → 3 * (64
      * (laneIspc lane s : Int)) ≤ 4 * ((x : Int) - (laneOf lane s).stamp) → 4 * ((x : Int) - (laneOf lane s).stamp)
      ≤ 5 * (64 * laneIspc lane s) → ∃ t, exec (.laneInput lane true) s = .next t ∧ (laneOf lane t).count = (laneOf
      lane s).count + 1 ∧ (laneOf lane t).inq = rest ∧ (laneOf lane t).stamp = x ∧ t.mem = s.mem)
  ∧ (∀ (lane : Fin 64) (s : State), laneUsed lane s = true → (laneOf lane s).count ≠ 0 → (laneOf lane s).arrived + 2
      * laneIspc lane s ≤ s.lt → ∃ t, exec (.laneInputTimeout lane) s = .next t ∧ recorded 104 0 lane none s t
      ∧ (laneOf lane t).count = 0 ∧ laneValid lane t = false ∧ on (Reg.RNS_LSTAT lane) Reg.RNS_LSTAT_STOPPED t = true
      ∧ on (Reg.RNS_LEVT lane) Reg.RNS_LEVT_STOP t = true)
  ∧ (∀ (lane : Fin 64) (s : State), s.lt < (laneOf lane s).arrived + 2 * laneIspc lane s → exec (.laneInputTimeout
      lane) s = .next s)
  ∧ (∀ (lane : Fin 64) (x : Smp) (ready : Nat) (rest : List (Smp × Nat)) (s : State), (laneOf lane s).wait = (x, ready)
      :: rest → ceilDiv (x.lt + fclk * (rd (Reg.RNS_DLYUSE lane) s % 2 ^ 24)) fclk ≤ nowF s → ceilDiv ready fclk
      ≤ ceilDiv (x.lt + fclk * (rd (Reg.RNS_DLYUSE lane) s % 2 ^ 24)) fclk → laneValid lane s = false → on
      (Reg.RNS_RCFG lane) Reg.RNS_RCFG_WREN s = false → ∃ t, exec (.laneRelease lane) s = .next t ∧ rd (Reg.RNS_LAST
      lane) t = codeOf 24 x.v ∧ (laneOf lane t).wait = rest ∧ (laneOf lane t).last = some x ∧ laneValid lane t = true
      ∧ recorded 103 0 lane none s t ∧ t.mem = s.mem)
  ∧ (∀ (lane : Fin 64) (x : Smp) (ready n : Nat) (rest : List (Smp × Nat)) (s : State), (laneOf lane s).wait = (x,
      ready) :: rest → ceilDiv (x.lt + fclk * (rd (Reg.RNS_DLYUSE lane) s % 2 ^ 24)) fclk ≤ nowF s → ceilDiv ready fclk
      ≤ ceilDiv (x.lt + fclk * (rd (Reg.RNS_DLYUSE lane) s % 2 ^ 24)) fclk → laneValid lane s = true → masked 5 s
      = false → on (Reg.RNS_RCFG lane) Reg.RNS_RCFG_WREN s = true → n = 2 ^ fl (Reg.RNS_RCFG lane) Reg.RNS_RCFG_RSIZE s
      → (rd (Reg.RNS_RWIDX lane) s + 2 ^ 32 - rd (Reg.RNS_RRIDX lane) s) % 2 ^ 32 ≠ n → ∃ t, exec (.laneRelease lane) s
      = .next t ∧ rd (Reg.RNS_LAST lane) t = codeOf 24 x.v ∧ rd (Reg.RNS_RWIDX lane) t = (rd (Reg.RNS_RWIDX lane) s
      + 1) % 2 ^ 32 ∧ ldN (rd (Reg.RNS_RBASE lane) s + 16 * (rd (Reg.RNS_RWIDX lane) s % n)) 4 t = (codeOf 24 x.v + 2 ^
      24 * lane) % 2 ^ 32 ∧ ldN (rd (Reg.RNS_RBASE lane) s + 16 * (rd (Reg.RNS_RWIDX lane) s % n) + 8) 4 t = x.lt % 2 ^
      32 ∧ (∀ a, a < rd (Reg.RNS_RBASE lane) s + 16 * (rd (Reg.RNS_RWIDX lane) s % n) ∨ rd (Reg.RNS_RBASE lane) s + 16
      * (rd (Reg.RNS_RWIDX lane) s % n) + 16 ≤ a → ldB a t = ldB a s))
  ∧ (∀ (lane : Fin 64) (x : Smp) (ready : Nat) (rest : List (Smp × Nat)) (s : State), (laneOf lane s).wait = (x, ready)
      :: rest → ceilDiv (x.lt + fclk * (rd (Reg.RNS_DLYUSE lane) s % 2 ^ 24)) fclk ≤ nowF s → ceilDiv (x.lt + fclk
      * (rd (Reg.RNS_DLYUSE lane) s % 2 ^ 24)) fclk < ceilDiv ready fclk → ∃ t, exec (.laneRelease lane) s = .next t
      ∧ fl (Reg.RNS_CNT lane) ⟨16, 16⟩ t = min (2 ^ 16 - 1) (fl (Reg.RNS_CNT lane) ⟨16, 16⟩ s + 1) ∧ on (Reg.RNS_LEVT
      lane) Reg.RNS_LEVT_LATE t = true ∧ (laneOf lane t).wait = rest ∧ rdW (Reg.RNS_LAST lane) t = rdW (Reg.RNS_LAST
      lane) s ∧ t.mem = s.mem ∧ t.evt = s.evt)
  ∧ (∀ (lane : Fin 64) (value : BitVec 32) (by_ : Fin 19) (s : State), mayStore (Reg.RNS_RRIDX lane) by_ s = true → (rd
      (Reg.RNS_RWIDX lane) s + 2 ^ 32 - value.toNat) % 2 ^ 32 ≤ 2 ^ fl (Reg.RNS_RCFG lane) Reg.RNS_RCFG_RSIZE s → exec
      (.rnsRridxWrite lane value by_) s = .next (wrW (Reg.RNS_RRIDX lane) value s))
  ∧ (∀ (lane : Fin 64) (value : BitVec 32) (by_ : Fin 19) (s : State), 2 ^ fl (Reg.RNS_RCFG lane) Reg.RNS_RCFG_RSIZE s
      < (rd (Reg.RNS_RWIDX lane) s + 2 ^ 32 - value.toNat) % 2 ^ 32 → exec (.rnsRridxWrite lane value by_) s = .next s)

/-- ARM in IDLE arms the Hamper: its sequencer, counters, timers and channels start afresh and EV105 is recorded;
otherwise it is ignored and counted. FORCE in ARMED is a pulse condition of the sequencer, as is the TRIGGER action;
ABORT discards a capture in progress and RELEASE a complete one. HMP_STAT.RESULT shows what a command did; a timer
expires at its start plus its limit. Each clause concludes that exec answers the next state it describes, under
hypotheses on the state and the operands alone. -/
def Obligations.HamperCapture : Prop :=
  (∀ (slot : Fin 4096) (s : State), tackReady slot actHamper s = true → slArg (slotOf slot s) = 0 → hmpState s
      = hmpIdle → ∃ t, exec (.hamperActionArm slot) s = .next t ∧ hmpState t = hmpArmed ∧ fl Reg.HMP_STAT
      Reg.HMP_STAT_SEQ t = 0 ∧ (∀ i : Fin 4, rd (Reg.HMP_CNT i) t = 0) ∧ t.hmp.timers = [] ∧ recorded 105 0 0 none s t
      ∧ t.tack = (tackFired slot s).tack ∧ t.mem = s.mem)
  ∧ (∀ (slot : Fin 4096) (s : State), tackReady slot actHamper s = true → slArg (slotOf slot s) = 0 → hmpState s ≠
      hmpIdle → exec (.hamperActionArm slot) s = .next (bump Reg.HMP_ARMIGN ⟨0, 16⟩ 1 (tackFired slot s)))
  ∧ (∀ (slot : Fin 4096) (s : State), tackReady slot actHamper s = true → slArg (slotOf slot s) = 1 → exec
      (.hamperActionTrigger slot) s = .next
      ({ tackFired slot s with hmp := { (tackFired slot s).hmp with pulses := Tbl.put 4 s.lt (tackFired slot s).hmp.pulses } }))
  ∧ (∀ (by_ : Fin 19) (s : State), mayStore Reg.HMP_CMD by_ s = true → hmpState s = hmpIdle → ∃ t, exec (.hamperArm
      by_) s = .next t ∧ hmpState t = hmpArmed ∧ fl Reg.HMP_STAT Reg.HMP_STAT_RESULT t = 1 ∧ recorded 105 0 0 none s t
      ∧ t.mem = s.mem)
  ∧ (∀ (by_ : Fin 19) (s : State), mayStore Reg.HMP_CMD by_ s = true → hmpState s ≠ hmpIdle → ∃ t, exec (.hamperArm
      by_) s = .next t ∧ hmpState t = hmpState s ∧ fl Reg.HMP_STAT Reg.HMP_STAT_RESULT t = 2 ∧ fl Reg.HMP_ARMIGN ⟨0,
      16⟩ t = min (2 ^ 16 - 1) (fl Reg.HMP_ARMIGN ⟨0, 16⟩ s + 1) ∧ t.hmp = s.hmp ∧ t.mem = s.mem)
  ∧ (∀ (by_ : Fin 19) (s : State), mayStore Reg.HMP_CMD by_ s = true → hmpState s = hmpArmed → ∃ t, exec (.hamperForce
      by_) s = .next t ∧ t.hmp = { s.hmp with pulses := Tbl.put 6 s.lt s.hmp.pulses } ∧ hmpState t = hmpArmed ∧ fl
      Reg.HMP_STAT Reg.HMP_STAT_RESULT t = 1 ∧ t.mem = s.mem)
  ∧ (∀ (by_ : Fin 19) (s : State), mayStore Reg.HMP_CMD by_ s = true → hmpState s ≠ hmpArmed → ∃ t, exec (.hamperForce
      by_) s = .next t ∧ t.hmp = s.hmp ∧ fl Reg.HMP_STAT Reg.HMP_STAT_RESULT t = 2 ∧ hmpState t = hmpState s ∧ t.mem
      = s.mem)
  ∧ (∀ (by_ : Fin 19) (s : State), mayStore Reg.HMP_CMD by_ s = true → (hmpState s = hmpArmed ∨ hmpState s
      = hmpTriggered) → ∃ t, exec (.hamperAbort by_) s = .next t ∧ hmpState t = hmpIdle ∧ fl Reg.HMP_STAT
      Reg.HMP_STAT_RESULT t = 1 ∧ (∀ c : Fin 64, chUsed c s = true → (chanOf c t).fifo = [] ∧ (chanOf c t).lost = 0)
      ∧ t.mem = s.mem ∧ t.evt.queue = s.evt.queue)
  ∧ (∀ (by_ : Fin 19) (s : State), mayStore Reg.HMP_CMD by_ s = true → hmpState s = hmpComplete → ∃ t, exec
      (.hamperAbort by_) s = .next t ∧ hmpState t = hmpComplete ∧ fl Reg.HMP_STAT Reg.HMP_STAT_RESULT t = 3 ∧ t.hmp
      = s.hmp ∧ t.mem = s.mem)
  ∧ (∀ (by_ : Fin 19) (s : State), mayStore Reg.HMP_CMD by_ s = true → hmpState s = hmpComplete → ∃ t, exec
      (.hamperRelease by_) s = .next t ∧ hmpState t = hmpIdle ∧ fl Reg.HMP_STAT Reg.HMP_STAT_RESULT t = 1 ∧ t.hmp
      = s.hmp ∧ t.mem = s.mem)
  ∧ (∀ (by_ : Fin 19) (s : State), mayStore Reg.HMP_CMD by_ s = true → hmpState s ≠ hmpComplete → ∃ t, exec
      (.hamperRelease by_) s = .next t ∧ hmpState t = hmpState s ∧ fl Reg.HMP_STAT Reg.HMP_STAT_RESULT t = 2 ∧ t.hmp
      = s.hmp ∧ t.mem = s.mem)
  ∧ (∀ (timer : Fin 4) (t0 : Nat) (s : State), s.hmp.timers.find? (fun p : Nat × Nat => p.1 == timer.val) = some
      (timer.val, t0) → t0 + rd (Reg.HMP_TLIM timer) s ≤ s.lt → s.hmp.expired.contains timer.val = false → exec
      (.hamperTimerExpiry timer) s = .next ({ s with hmp := { s.hmp with expired := s.hmp.expired ++ [timer.val] } }))

/-- A burst of the writer, granted the memory of its ring, stores the oldest records of a channel's FIFO in its ring and
nothing else, and advances HMP_CWIDX; the end of a run of lost samples puts one gap marker into the FIFO with EV108. A
due output pulse drives its pin high now and low a pulse width later, a late one only sets PINLATE. An edge on a
calibrated input pin is a condition of the sequencer with its delay taken off, one on an uncalibrated pin is counted.
CAL makes a pulse due on every output pin 64 FCLK after T_c. Each clause concludes that exec answers the next state it
describes, under hypotheses on the state and the operands alone. -/
def Obligations.HamperRecordsAndPins : Prop :=
  (∀ (channel : Fin 64) (tg w n : Nat) (s : State), (tg = (if dramBase ≤ rd (Reg.HMP_CBASE channel) s then tgtDram else
      3)) → burstMay 4 tg s = true → Tbl.get none s.fab.asked (32 + tg) = none → (chanOf channel s).marks = [] → w = rd
      (Reg.HMP_CWIDX channel) s → n = min (chanOf channel s).fifo.length (64 / chRec channel s - w % (64 / chRec
      channel s)) → (chanOf channel s).fifo.length ≤ 48 → ∃ t, exec (.hamperFifoDrain channel) s = .next t ∧ (chanOf
      channel t).fifo = (chanOf channel s).fifo.drop n ∧ rd (Reg.HMP_CWIDX channel) t = (w + n) % 2 ^ 32 ∧ (∀ a, (∀ i,
      i < n → a < rd (Reg.HMP_CBASE channel) s + chRec channel s * ((w + i) % chRing channel s) ∨ rd (Reg.HMP_CBASE
      channel) s + chRec channel s * ((w + i) % chRing channel s) + chRec channel s ≤ a) → ldB a t = ldB a s)
      ∧ regsKept [Reg.HMP_CWIDX channel, Reg.MEM_WB 4] s t ∧ t.evt = s.evt)
  ∧ (∀ (channel : Fin 64) (tg : Nat) (e : HEnt) (s : State), (tg = (if dramBase ≤ rd (Reg.HMP_CBASE channel) s then
      tgtDram else 3)) → burstMay 4 tg s = true → (chanOf channel s).marks = [] → (chanOf channel s).fifo = [e]
      → e.mark = false → chWide channel s = false → ∃ t, exec (.hamperFifoDrain channel) s = .next t ∧ ldN (rd
      (Reg.HMP_CBASE channel) s + 8 * (rd (Reg.HMP_CWIDX channel) s % chRing channel s)) 4 t = codeOf 24 e.v + 2 ^ 24
      * (e.lt / 2 ^ 32 % 2 ^ 7) ∧ ldN (rd (Reg.HMP_CBASE channel) s + 8 * (rd (Reg.HMP_CWIDX channel) s % chRing
      channel s) + 4) 4 t = e.lt % 2 ^ 32 ∧ (chanOf channel t).fifo = [])
  ∧ (∀ (channel : Fin 64) (s : State), 0 < (chanOf channel s).lost → chLive channel s = true → chRoom channel s = true
      → ∃ t, exec (.hamperGapMarker channel) s = .next t ∧ recorded 108 0 (0x100 + channel) none s t ∧ (chanOf channel
      t).lost = 0 ∧ (chanOf channel t).count = (chanOf channel s).count + 1 ∧ (chanOf channel t).fifo.map (fun e : HEnt
      => (e.mark, e.v, e.lt)) = (chanOf channel s).fifo.map (fun e : HEnt => (e.mark, e.v, e.lt)) ++ [(true, ((0xF + 16
      * min (chanOf channel s).lost (2 ^ 20 - 1) : Nat) : Int), (chanOf channel s).lostAt)] ∧ t.mem = s.mem)
  ∧ (∀ (pin : Fin 2) (a d : Nat) (s : State), s.hmp.pinOut.find? (fun p : Nat × Nat × Nat => p.1 == pin.val) = some
      (pin.val, a, d) → d ≤ a → a ≤ s.lt → ∃ t, exec (.triggerPinPulse pin) s = .next t ∧ t.out = s.out ++ [Out.pin
      "TRIG" pin 1 s.lt, Out.pin "TRIG" pin 0 (s.lt + fclk * fl Reg.HMP_TBCFG Reg.HMP_TBCFG_PW s)] ∧ t.hmp
      = { s.hmp with pinOut := s.hmp.pinOut.eraseP (fun p : Nat × Nat × Nat => p.1 == pin.val) } ∧ t.regs = s.regs
      ∧ t.mem = s.mem)
  ∧ (∀ (pin : Fin 2) (a d : Nat) (s : State), s.hmp.pinOut.find? (fun p : Nat × Nat × Nat => p.1 == pin.val) = some
      (pin.val, a, d) → a < d → ∃ t, exec (.triggerPinPulse pin) s = .next t ∧ t.out = s.out ∧ on Reg.HMP_EVT
      Reg.HMP_EVT_PINLATE t = true ∧ regsKept [Reg.HMP_EVT] s t ∧ t.hmp.pinOut = s.hmp.pinOut.eraseP (fun p : Nat × Nat
      × Nat => p.1 == pin.val) ∧ t.mem = s.mem)
  ∧ (∀ (pin : Fin 2) (s : State), pinIsOut pin s = false → s.configured = true → bitAt Reg.HMP_TBSTAT pin s = true
      → s.hmp.calTc.find? (fun p : Nat × Nat => p.1 == pin.val) = none → exec (.triggerPinInput pin) s = .next
      ({ s with hmp := { s.hmp with pinIn := Tbl.put pin.val s.lt s.hmp.pinIn, pulses := Tbl.put (2 + pin) ((s.lt + 2 ^ 64 - rd (dlyReg pin) s % 2 ^ 16) % 2 ^ 64) s.hmp.pulses } }))
  ∧ (∀ (pin : Fin 2) (s : State), pinIsOut pin s = false → s.configured = true → bitAt Reg.HMP_TBSTAT pin s = false
      → s.hmp.calTc.find? (fun p : Nat × Nat => p.1 == pin.val) = none → ∃ t, exec (.triggerPinInput pin) s = .next t
      ∧ fl Reg.HMP_TBSTAT ⟨16 + 8 * pin, 8⟩ t = min (2 ^ 8 - 1) (fl Reg.HMP_TBSTAT ⟨16 + 8 * pin, 8⟩ s + 1)
      ∧ t.hmp.pulses = s.hmp.pulses ∧ regsKept [Reg.HMP_TBSTAT] s t ∧ t.mem = s.mem)
  ∧ (∀ (by_ : Fin 19) (tc : Nat) (s : State), mayStore Reg.HMP_CMD by_ s = true → tc = s.lt / 2 ^ 32 * 2 ^ 32 + rd
      Reg.HMP_CALT s → ∃ t, exec (.hamperCal by_) s = .next t ∧ t.hmp.pinOut = s.hmp.pinOut ++ ((List.range 2).filter
      (fun n => pinIsOut n s)).map (fun n => (n, tc + 64 * fclk, s.lt)) ∧ fl Reg.HMP_STAT Reg.HMP_STAT_RESULT t = 1
      ∧ hmpState t = hmpState s ∧ t.mem = s.mem)

/-- A START_TASK for an enabled idle task while nothing runs starts its run; one for a task that has not finished is an
overrun, with EV24 and the counter, and the run goes on. The end of a run stores what it has written and nothing else,
leaves the task idle and shows its response time. A deadline passed is recorded once as EV24, and aborts the run of a
task that asks for it; an exception is recorded as EV31 and aborts the run. The device calls the error task with its
next cause. Each clause concludes that exec answers the next state it describes, under hypotheses on the state and the
operands alone. -/
def Obligations.TaskRuns : Prop :=
  (∀ (slot : Fin 4096) (n : Nat) (s : State), tackReady slot actTask s = true → n = slTarget (slotOf slot s) % 16
      → restarting s = false → halted s = false → s.cyc.due = none → taskEnabled n s = true → runOf s = runNone → (∀ k
      : Fin 17, (taskOf k s).state = 0) → ∃ t, exec (.startTask slot) s = .next t ∧ (taskOf n t).state = 2 ∧ (taskOf n
      t).start = nowF s ∧ runOf t = n ∧ fl (Reg.CYC_TSTAT n) ⟨0, 2⟩ t = 2 ∧ (∀ k, k ≠ n → taskOf k t = taskOf k s)
      ∧ t.tack = (tackFired slot s).tack)
  ∧ (∀ (slot : Fin 4096) (n : Nat) (s : State), tackReady slot actTask s = true → n = slTarget (slotOf slot s) % 16
      → restarting s = false → halted s = false → s.cyc.due = none → taskEnabled n s = true → (taskOf n s).state ≠ 0
      → ∃ t, exec (.startTask slot) s = .next t ∧ taskOf n t = taskOf n s ∧ runOf t = runOf s ∧ recorded 24 1 n none s
      t ∧ on Reg.CYC_EVT Reg.CYC_EVT_OVERRUN t = true ∧ fl (Reg.CYC_TOVR n) ⟨0, 16⟩ t = min (2 ^ 16 - 1) (fl
      (Reg.CYC_TOVR n) ⟨0, 16⟩ s + 1) ∧ t.mem = s.mem)
  ∧ (∀ (task : Fin 17) (writes : List (BitVec 32 × BitVec 32)) (s : State), halted s = false → (taskOf task s).state
      = 2 → task.val < 16 → (nowF s ≤ taskLimit task s ∨ (taskOf task s).missed = true) → ∃ t, exec (.taskEnd task
      writes) s = .next t ∧ (taskOf task t).state = 0 ∧ runOf t ≠ task ∧ fl (Reg.CYC_TLAST task) ⟨0, 24⟩ t = min (2 ^
      24 - 1) (nowF s - (taskOf task s).start) ∧ fl (Reg.CYC_TLAST task) ⟨0, 24⟩ t ≤ fl (Reg.CYC_TMAX task) ⟨0, 24⟩ t)
  ∧ (∀ (task : Fin 17) (a v : BitVec 32) (s : State), halted s = false → (taskOf task s).state = 2 → (∀ k : Fin 17, k ≠
      task → (taskOf k s).state = 0) → Tbl.get [] s.cyc.prog.outs task = [] → progData a.toNat 4 s = true → acting s
      = true → masked 1 s = false → s.cyc.forces = [] → nowF s ≤ taskLimit task s → ∃ t, exec (.taskEnd task [(a, v)])
      s = .next t ∧ ldN a.toNat 4 t = v.toNat ∧ (∀ b, b < a.toNat ∨ a.toNat + 4 ≤ b → ldB b t = ldB b s) ∧ (taskOf task
      t).state = 0 ∧ t.evt = s.evt)
  ∧ (∀ (task : Fin 17) (writes : List (BitVec 32 × BitVec 32)) (s : State), halted s = false → (taskOf task s).state
      = 2 → task.val < 16 → taskLimit task s < nowF s → (taskOf task s).missed = false → on (Reg.CYC_TCFG task) ⟨0, 1⟩
      s = true → ∃ t, exec (.taskEnd task writes) s = .next t ∧ (taskOf task t).state = 0 ∧ runOf t ≠ task ∧ recorded
      24 1 (0x100 + task) none s t ∧ on Reg.CYC_EVT Reg.CYC_EVT_OVERRUN t = true ∧ t.gpioOut = s.gpioOut)
  ∧ (∀ (task : Fin 17) (writes : List (BitVec 32 × BitVec 32)) (s : State), (taskOf task s).state ≠ 0 → (taskOf task
      s).missed = false → task.val < 16 → (taskOf task s).start + rd (Reg.CYC_TDL task) s % 2 ^ 24 ≤ nowF s → on
      (Reg.CYC_TCFG task) ⟨0, 1⟩ s = false → ∃ t, exec (.taskDeadlineExpiry task writes) s = .next t ∧ taskOf task t
      = { taskOf task s with missed := true } ∧ recorded 24 1 (0x100 + task) none s t ∧ on Reg.CYC_EVT
      Reg.CYC_EVT_OVERRUN t = true ∧ fl (Reg.CYC_TOVR task) ⟨16, 16⟩ t = min (2 ^ 16 - 1) (fl (Reg.CYC_TOVR task) ⟨16,
      16⟩ s + 1) ∧ t.mem = s.mem)
  ∧ (∀ (task : Fin 17) (writes : List (BitVec 32 × BitVec 32)) (s : State), (taskOf task s).state ≠ 0 → (taskOf task
      s).missed = false → task.val < 16 → (taskOf task s).start + rd (Reg.CYC_TDL task) s % 2 ^ 24 ≤ nowF s → on
      (Reg.CYC_TCFG task) ⟨0, 1⟩ s = true → ∃ t, exec (.taskDeadlineExpiry task writes) s = .next t ∧ (taskOf task
      t).state = 0 ∧ runOf t ≠ task ∧ recorded 24 1 (0x100 + task) none s t)
  ∧ (∀ (task : Fin 17) (writes : List (BitVec 32 × BitVec 32)) (s : State), (taskOf task s).state ≠ 0 → (taskOf task
      s).missed = true → exec (.taskDeadlineExpiry task writes) s = .next s)
  ∧ (∀ (task : Fin 17) (writes : List (BitVec 32 × BitVec 32)) (s : State), halted s = false → (taskOf task s).state
      = 2 → task.val < 16 → ∃ t, exec (.taskException task writes) s = .next t ∧ (taskOf task t).state = 0 ∧ runOf t ≠
      task ∧ recorded 31 1 task none s t ∧ on Reg.CYC_EVT Reg.CYC_EVT_EXCEPT t = true)
  ∧ (∀ (k i : Nat) (rest : List (Nat × Nat)) (s : State), s.cyc.causes = (k, i) :: rest → (taskOf errTask s).state = 0
      → runOf s ≠ errTask → restarting s = false → halted s = false → s.cyc.due = none → ∃ t, exec .errorTaskCall s
      = .next t ∧ t.cyc.causes = rest ∧ fl Reg.CYC_ECAUSE Reg.CYC_ECAUSE_KIND t = k % 2 ^ Reg.CYC_ECAUSE_KIND.width
      ∧ fl Reg.CYC_ECAUSE Reg.CYC_ECAUSE_INDEX t = i % 2 ^ Reg.CYC_ECAUSE_INDEX.width ∧ fl Reg.CYC_ECAUSE
      Reg.CYC_ECAUSE_QUEUED t = min 15 rest.length ∧ (taskOf errTask t).state = 2 ∧ runOf t = errTask)

/-- A lockstep mismatch halts the cores with EV28; 1 ms later a warm restart is due. A restart command of a task waits for
the end of its run, one of the test port is due at once. A restart that begins leaves no task, no force and no pending
patch; one that completes is warm with EV29 where the retain image can be used and else cold with EV30. The snapshot
copies RETAIN. A station without a frame for WDOG cycles is dropped with EV25. Each clause concludes that exec answers
the next state it describes, under hypotheses on the state and the operands alone. -/
def Obligations.RestartAndStations : Prop :=
  (∀ (s : State), s.configured = true → halted s = false → ∃ t, exec .lockstepMismatch s = .next t ∧ halted t = true
      ∧ t.cyc.halted = some s.lt ∧ recorded 28 4 0 none s t ∧ t.cyc.tasks = s.cyc.tasks ∧ t.mem = s.mem)
  ∧ (∀ (h : Nat) (s : State), s.cyc.halted = some h → s.cyc.stays = false → h + ms ≤ s.lt → exec .lockstepAutoRestart s
      = .next ({ s with cyc := { s.cyc with halted := none, due := some kWarm } }))
  ∧ (∀ (h : Nat) (s : State), s.cyc.halted = some h → s.lt < h + ms → exec .lockstepAutoRestart s = .next s)
  ∧ (∀ (station : Fin 64) (s : State), stnUsed station s = true → stnPresent station s = true → rd (Reg.CYC_SCFG
      station) s / 2 ^ 19 % 16 ≤ Tbl.get 0 s.cyc.missed station → ∃ t, exec (.stationDrop station) s = .next t
      ∧ stnPresent station t = false ∧ recorded 25 0 station none s t ∧ on Reg.CYC_EVT Reg.CYC_EVT_STATION t = true
      ∧ fl (Reg.CYC_SSTAT station) ⟨16, 16⟩ t = min (2 ^ 16 - 1) (fl (Reg.CYC_SSTAT station) ⟨16, 16⟩ s + 1) ∧ (bitAt
      (if station.val < 32 then Reg.CYC_STNSTAT0 else Reg.CYC_STNSTAT1) (station % 32) t = false) ∧ t.cyc.stnIn
      = s.cyc.stnIn ∧ t.mem = s.mem)
  ∧ (∀ (by_ : Fin 19) (s : State), mayStore Reg.CYC_RCMD by_ s = true → by_.val < 16 → ∃ t, exec (.restartWarm by_) s
      = .next t ∧ t.cyc = { s.cyc with rcmd := some (kWarm, by_.val) } ∧ t.mem = s.mem ∧ t.out = s.out)
  ∧ (∀ (by_ : Fin 19) (s : State), mayStore Reg.CYC_RCMD by_ s = true → by_.val < 16 → ∃ t, exec (.restartCold by_) s
      = .next t ∧ t.cyc = { s.cyc with rcmd := some (kCold, by_.val) } ∧ t.mem = s.mem ∧ t.out = s.out)
  ∧ (∀ (by_ : Fin 19) (s : State), mayStore Reg.CYC_RCMD by_ s = true → by_.val = 18 → ∃ t, exec (.restartWarm by_) s
      = .next t ∧ t.cyc = { s.cyc with due := some kWarm } ∧ t.mem = s.mem ∧ t.out = s.out)
  ∧ (∀ (by_ : Fin 19) (s : State), mayStore Reg.CYC_RCMD by_ s = true → by_.val = 18 → ∃ t, exec (.restartCold by_) s
      = .next t ∧ t.cyc = { s.cyc with due := some kCold } ∧ t.mem = s.mem ∧ t.out = s.out)
  ∧ (∀ (k : Nat) (s : State), s.cyc.due = some k → (s.cyc.stays = false ∨ halted s = false) → ∃ t, exec .restartBegin s
      = .next t ∧ restarting t = true ∧ halted t = false ∧ runOf t = runNone ∧ t.cyc.due = none ∧ t.cyc.rcmd = none
      ∧ t.cyc.kind = k ∧ t.cyc.tasks = [] ∧ t.cyc.patch = none ∧ (∀ i : Fin 64, forceOf i t = none))
  ∧ (∀ (s : State), restarting s = true → s.cyc.kind = kWarm → (warmImage s).1 = 0 → ∃ t, exec .restartComplete s
      = .next t ∧ restarting t = false ∧ on Reg.CYC_STAT Reg.CYC_STAT_COLD t = false ∧ on Reg.SYS_GFSTAT
      Reg.SYS_GFSTAT_CYC t = true)
  ∧ (∀ (s : State), restarting s = true → s.cyc.kind = kWarm → (warmImage s).1 = 0 → paired s = false → ∃ t, exec
      .restartComplete s = .next t ∧ recorded 29 0 0 none s t)
  ∧ (∀ (k : Nat) (s : State), restarting s = true → s.cyc.kind = kWarm → (warmImage s).1 = k → k ≠ 0 → ∃ t, exec
      .restartComplete s = .next t ∧ restarting t = false ∧ on Reg.CYC_STAT Reg.CYC_STAT_COLD t = true ∧ on
      Reg.SYS_GFSTAT Reg.SYS_GFSTAT_CYC t = true ∧ recorded 30 0 k none s t)
  ∧ (∀ (w : Nat) (g : Seg) (s : State), s.pwr.warnAt = some w → s.pwr.snap = none → cycIdle s = true → retainSeg s
      = some g → ∃ t, exec .retainSnapshot s = .next t ∧ t.pwr.snap = some (s.lt, ldBytes g.base g.len s) ∧ on
      Reg.CYC_STAT Reg.CYC_STAT_SNAPINC t = false ∧ (∀ i, i < g.len → ldB (g.base - retainBase + snapBase + i) t = ldB
      (g.base + i) s) ∧ (∀ a, a < g.base - retainBase + snapBase ∨ g.base - retainBase + snapBase + g.len ≤ a → ldB a t
      = ldB a s) ∧ t.evt = s.evt)

/-- SUBMIT starts the validation of a record, or is refused with cause 5 and EV26 during another. A valid record waits as
the pending patch, another is refused with its cause and EV26; at its boundary the patch is stored and counted, and
after 100 ms without it discarded with cause 6. A force SET or RELEASE accepted waits for its boundary and changes no
memory; a SET that takes effect keeps the variable's value and stores its own, a RELEASE frees its entry and gives a
patched variable its value back; each is recorded as EV27. Each clause concludes that exec answers the next state it
describes, under hypotheses on the state and the operands alone. -/
def Obligations.PatchesAndForces : Prop :=
  (∀ (by_ : Fin 19) (s : State), mayStore Reg.CYC_PCMD by_ s = true → s.cyc.sub = none → ∃ t, exec (.patchSubmit by_) s
      = .next t ∧ t.cyc = { s.cyc with sub := some (s.lt, rd Reg.CYC_PADDR s) } ∧ on Reg.CYC_PSTAT Reg.CYC_PSTAT_BUSY t
      = true ∧ t.mem = s.mem)
  ∧ (∀ (by_ : Fin 19) (s : State), mayStore Reg.CYC_PCMD by_ s = true → s.cyc.sub.isSome = true → ∃ t, exec
      (.patchSubmit by_) s = .next t ∧ t.cyc = s.cyc ∧ fl Reg.CYC_PSTAT Reg.CYC_PSTAT_CAUSE t = 5 ∧ recorded 26 0
      0x8005 none s t ∧ t.mem = s.mem)
  ∧ (∀ (x a : Nat) (s : State), s.cyc.sub = some (x, a) → ∃ t, exec .patchValidated s = .next t ∧ t.cyc.sub = none ∧ on
      Reg.CYC_PSTAT Reg.CYC_PSTAT_BUSY t = false ∧ ((patchCheck a s).1 = 0 → t.cyc.patch = some (Patch.mk s.lt
      (patchCheck a s).2.1 (patchCheck a s).2.2 false) ∧ on Reg.CYC_PSTAT Reg.CYC_PSTAT_PEND t = true) ∧ ((patchCheck a
      s).1 ≠ 0 → t.cyc.patch = s.cyc.patch ∧ recorded 26 0 (0x8000 + (patchCheck a s).1) none s t) ∧ t.mem = s.mem)
  ∧ (∀ (x a c task : Nat) (es : List (Nat × Nat × Nat)) (s : State), s.cyc.sub = some (x, a) → patchCheck a s = (c,
      task, es) → c ≠ 0 → ∃ t, exec .patchValidated s = .next t ∧ t.cyc = { s.cyc with sub := none } ∧ fl Reg.CYC_PSTAT
      Reg.CYC_PSTAT_CAUSE t = c % 2 ^ Reg.CYC_PSTAT_CAUSE.width ∧ recorded 26 0 (0x8000 + c) none s t ∧ t.mem = s.mem)
  ∧ (∀ (p : Patch) (a v : Nat) (s : State), s.cyc.patch = some p → p.ripe = true → p.task ≠ bTaskAll → p.entries = [(a,
      4, v)] → s.cyc.forces = [] → acting s = true → ∃ t, exec .patchApply s = .next t ∧ ldN a 4 t = v % 2 ^ 32 ∧ (∀ b,
      b < a ∨ a + 4 ≤ b → ldB b t = ldB b s) ∧ t.cyc.patch = none ∧ on Reg.CYC_PSTAT Reg.CYC_PSTAT_PEND t = false
      ∧ recorded 26 0 p.task none s t)
  ∧ (∀ (p : Patch) (s : State), s.cyc.patch = some p → p.since + 100 * ms ≤ s.lt → ∃ t, exec .patchTimeout s = .next t
      ∧ t.cyc = { s.cyc with patch := none } ∧ on Reg.CYC_PSTAT Reg.CYC_PSTAT_PEND t = false ∧ fl Reg.CYC_PSTAT
      Reg.CYC_PSTAT_CAUSE t = 6 ∧ recorded 26 0 0x8006 none s t ∧ t.mem = s.mem)
  ∧ (∀ (value : BitVec 32) (by_ : Fin 19) (a n k i : Nat) (s : State), mayStore Reg.CYC_FCMD by_ s = true → on
      Reg.CYC_CFG Reg.CYC_CFG_FORCEEN s = true → a = rd Reg.CYC_FADDR s → n = 2 ^ (value.toNat / 4 % 4) → k
      = value.toNat / 16 % 32 → forceCheck a n k s = 0 → forceNamed a s = none → freeForce s = some i → ∃ t, exec
      (.forceSet value by_) s = .next t ∧ forceOf i t = some (Force.mk a n (rd64 Reg.CYC_FVAL_LO Reg.CYC_FVAL_HI s %
      256 ^ n) k false 0 false true none false) ∧ (∀ j, j ≠ i → forceOf j t = forceOf j s) ∧ fl Reg.CYC_FSTAT
      Reg.CYC_FSTAT_REFUSE t = 0 ∧ t.mem = s.mem)
  ∧ (∀ (value : BitVec 32) (by_ : Fin 19) (s : State), mayStore Reg.CYC_FCMD by_ s = true → on Reg.CYC_CFG
      Reg.CYC_CFG_FORCEEN s = false → ∃ t, exec (.forceSet value by_) s = .next t ∧ t.cyc = s.cyc ∧ fl Reg.CYC_FSTAT
      Reg.CYC_FSTAT_REFUSE t = 5 ∧ t.mem = s.mem)
  ∧ (∀ (value : BitVec 32) (by_ : Fin 19) (a n k i : Nat) (f : Force) (s : State), mayStore Reg.CYC_FCMD by_ s = true
      → on Reg.CYC_CFG Reg.CYC_CFG_FORCEEN s = true → a = rd Reg.CYC_FADDR s → n = 2 ^ (value.toNat / 4 % 4) → k
      = value.toNat / 16 % 32 → forceCheck a n k s = 0 → forceNamed a s = some i → forceOf i s = some f → ∃ t, exec
      (.forceRelease value by_) s = .next t ∧ forceOf i t = some { f with release := some k, ripe := false } ∧ (∀ j, j
      ≠ i → forceOf j t = forceOf j s) ∧ fl Reg.CYC_FSTAT Reg.CYC_FSTAT_REFUSE t = 0 ∧ t.mem = s.mem)
  ∧ (∀ (value : BitVec 32) (by_ : Fin 19) (s : State), mayStore Reg.CYC_FCMD by_ s = true → on Reg.CYC_CFG
      Reg.CYC_CFG_FORCEEN s = true → forceCheck (rd Reg.CYC_FADDR s) (2 ^ (value.toNat / 4 % 4)) (value.toNat / 16 %
      32) s = 0 → forceNamed (rd Reg.CYC_FADDR s) s = none → ∃ t, exec (.forceRelease value by_) s = .next t ∧ t.cyc
      = s.cyc ∧ fl Reg.CYC_FSTAT Reg.CYC_FSTAT_REFUSE t = 4 ∧ t.mem = s.mem)
  ∧ (∀ (index : Fin 64) (f : Force) (s : State), forceOf index s = some f → f.setting = true → f.active = false
      → startsNext f.task s = true → ∃ t, exec (.forceSetApply index) s = .next t ∧ forceOf index t = some
      { f with active := true, setting := false, uval := ldN f.addr f.len s } ∧ ldN f.addr f.len t = f.fval % 256 ^
      f.len ∧ (∀ b, b < f.addr ∨ f.addr + f.len ≤ b → ldB b t = ldB b s) ∧ recorded 27 0 index none s t ∧ on
      Reg.CYC_EVT Reg.CYC_EVT_FORCE t = true)
  ∧ (∀ (index : Fin 64) (f : Force) (k : Nat) (s : State), forceOf index s = some f → f.release = some k → f.ripe
      = true → f.active = true → f.patched = true → ∃ t, exec (.forceReleaseApply index) s = .next t ∧ forceOf index t
      = none ∧ ldN f.addr f.len t = f.uval % 256 ^ f.len ∧ (∀ b, b < f.addr ∨ f.addr + f.len ≤ b → ldB b t = ldB b s)
      ∧ recorded 27 0 (0x100 + index) none s t ∧ on Reg.CYC_EVT Reg.CYC_EVT_FORCE t = true)
  ∧ (∀ (index : Fin 64) (f : Force) (k : Nat) (s : State), forceOf index s = some f → f.release = some k → f.ripe
      = true → f.patched = false → ∃ t, exec (.forceReleaseApply index) s = .next t ∧ forceOf index t = none ∧ t.mem
      = s.mem ∧ recorded 27 0 (0x100 + index) none s t)

/-- An ASSERT_HE raises its line for its FCLK, or lengthens and counts the assertion of a high one. A grant to a requester
other than a DMA port occupies the target for a burst and keeps its longest wait; one to a DMA port stores the bytes
of the next burst of its ring and no other byte. A refresh window occupies the DRAM for 90 FCLK, and a failed check is
recorded as EV114. A sideband masks or unmasks its requester alone; read data of a burst in progress of a requester
masked are discarded, its requests withdrawn, and what the ring has been commanded since stays. Each clause concludes
that exec answers the next state it describes, under hypotheses on the state and the operands alone. -/
def Obligations.EventLinesAndArbiter : Prop :=
  (∀ (slot : Fin 4096) (n len : Nat) (s : State), tackReady slot actHe s = true → n = slTarget (slotOf slot s) % 32
      → len = slArg (slotOf slot s) % 256 → heHigh n s = false → ∃ t, exec (.assertHe slot) s = .next t ∧ Tbl.get 0
      t.fab.he n = max (nowF s + len) (Tbl.get 0 s.fab.he n) ∧ Tbl.get 0 t.fab.rose n = s.lt ∧ (∀ k, k ≠ n → Tbl.get 0
      t.fab.he k = Tbl.get 0 s.fab.he k) ∧ t.tack = (tackFired slot s).tack ∧ t.mem = s.mem)
  ∧ (∀ (slot : Fin 4096) (n len : Nat) (s : State), tackReady slot actHe s = true → n = slTarget (slotOf slot s) % 32
      → len = slArg (slotOf slot s) % 256 → heHigh n s = true → ∃ t, exec (.assertHe slot) s = .next t ∧ Tbl.get 0
      t.fab.he n = max (nowF s + len) (Tbl.get 0 s.fab.he n) ∧ t.fab.rose = s.fab.rose ∧ fl Reg.MEM_HEMERGE ⟨0, 16⟩ t
      = min (2 ^ 16 - 1) (fl Reg.MEM_HEMERGE ⟨0, 16⟩ s + 1) ∧ on Reg.MEM_EVT Reg.MEM_EVT_HEMERGE t = true ∧ t.mem
      = s.mem ∧ t.evt = (tackFired slot s).evt)
  ∧ (∀ (target : Fin 5) (q : Fin 12) (wait : BitVec 16) (addr : BitVec 32) (s : State), mayRequest q target s = true
      → unitAsks target s = [] → stallOf q s = 0 → q ≠ 2 → q ≠ 3 → q ≠ 4 → target ≠ 4 → (Tbl.get ArbSt.reset s.fab.arb
      target).free ≤ nowF s → wait.toNat ≤ fl (Reg.MEM_WB q) Reg.MEM_WB_SRAMB s → ∃ t, exec (.arbiterGrant target [(q,
      wait)] 0 addr) s = .next t ∧ (Tbl.get ArbSt.reset t.fab.arb target).free = nowF s + 4 ∧ fl (Reg.MEM_WB q)
      Reg.MEM_WB_WMAX t = max (fl (Reg.MEM_WB q) Reg.MEM_WB_WMAX s) wait.toNat ∧ regsKept [Reg.MEM_WB q] s t
      ∧ t.fab.dma = s.fab.dma ∧ t.mem = s.mem ∧ t.evt = s.evt)
  ∧ (∀ (target : Fin 5) (addr : BitVec 32) (r a n : Nat) (x : Xfer) (s : State), (reaches target).contains 2 = true
      → masked 2 s = false → target ≠ 4 → (Tbl.get ArbSt.reset s.fab.arb target).free ≤ nowF s → portBusy 2 s = false
      → portRing true s = some r → (dmaOf r s).cur = some x → nextBurst x = some (true, a, n) → targetOf a = target
      → unitAsks target s = [] → nowF s < x.start + rd (Reg.DMA_RDL r) s % 2 ^ 24 → ∃ t, exec (.arbiterGrant target
      [(2, 0)] 0 addr) s = .next t ∧ t.mem = Memory.putAll a (x.buf.take n) s.mem ∧ (∀ b, b < a ∨ a + n ≤ b → ldB b t
      = ldB b s) ∧ (dmaOf r t).cur = some { x with buf := x.buf.drop n, put := x.put + n, piece := (a, x.buf.take n) }
      ∧ t.evt = s.evt)
  ∧ (∀ (s : State), on Reg.MEM_STAT Reg.MEM_STAT_DRAMRDY s = true → s.fab.refresh + 1950 ≤ nowF s → ∃ t, exec
      (.dramRefreshWindow true) s = .next t ∧ t.fab.refresh = nowF s ∧ (Tbl.get ArbSt.reset t.fab.arb tgtDram).free
      = max (Tbl.get ArbSt.reset s.fab.arb tgtDram).free (nowF s) + 90 ∧ t = { s with fab := t.fab })
  ∧ (∀ (s : State), on Reg.MEM_STAT Reg.MEM_STAT_DRAMRDY s = true → s.fab.refresh + 1950 ≤ nowF s → ∃ t, exec
      (.dramRefreshWindow false) s = .next t ∧ recorded 114 1 0 none s t ∧ on Reg.MEM_EVT Reg.MEM_EVT_DRAMERR t = true
      ∧ t.fab.refresh = nowF s ∧ t.mem = s.mem)
  ∧ (∀ (requester : Fin 12) (asserted : Bool) (s : State), ∃ t, exec (.requesterSideband requester asserted) s = .next
      t ∧ masked requester t = (asserted || (requester.val == 9 && s.configured) || (requester.val == 11 && !testMode s
      && !unconfigured s)) ∧ (∀ k : Fin 12, k ≠ requester → masked k t = masked k s) ∧ t.fab
      = { s.fab with reads := t.fab.reads, asked := t.fab.asked, dma := t.fab.dma, port1 := t.fab.port1 } ∧ t.mem
      = s.mem ∧ t.evt = s.evt)
  ∧ (∀ (requester : Fin 12) (x : ReadSt) (c c0 : Xfer) (s : State), Tbl.get none s.fab.reads requester = some x → nowF
      s < x.ends → (dmaOf x.ring s).cur = some c → c.ended = none → x.dma.cur = some c0 → ∃ t, exec (.requesterSideband
      requester true) s = .next t ∧ dmaOf x.ring t
      = { dmaOf x.ring s with cur := some { c with got := c0.got, buf := c.buf.take (c.buf.length - (c.got - c0.got)) } }
      ∧ Tbl.get none t.fab.reads requester = none ∧ t.fab.wq = s.fab.wq.filter (fun r : BusReq => r.q != requester.val)
      ∧ t.mem = s.mem ∧ t.evt = s.evt)
  ∧ (∀ (requester : Fin 12) (x : ReadSt) (c : Xfer) (s : State), Tbl.get none s.fab.reads requester = some x → nowF s
      < x.ends → (dmaOf x.ring s).cur = some c → c.ended = none → x.dma.cur = none → ∃ t, exec (.requesterSideband
      requester true) s = .next t ∧ dmaOf x.ring t
      = { dmaOf x.ring s with cur := none, starts := x.dma.starts.take 1 ++ (dmaOf x.ring s).starts, done := x.dma.done }
      ∧ t.fab.port1 = x.port1 ∧ on (Reg.DMA_RSTAT x.ring) Reg.DMA_RSTAT_BUSY t = false ∧ fl (Reg.DMA_RSTAT x.ring)
      Reg.DMA_RSTAT_HEAD t = fldGet Reg.DMA_RSTAT_HEAD x.stat % 2 ^ Reg.DMA_RSTAT_HEAD.width ∧ Tbl.get none t.fab.reads
      requester = none ∧ t.mem = s.mem ∧ t.evt = s.evt)

/-- GO on a usable PROGRAM ring starts its chain, and on another ring is refused; ABORT ends a transfer that has not ended
and its chain, and answers "already complete" of one that is done. The fetch of an owned descriptor takes it as the
transfer in progress and advances the head; of one that is not owned, an event ring records EV116. A good read-back
completes the transfer, at the end of its burst, but one of a deadline ring whose burst ends past start + D ends as
late with EV117; a bad one repeats it once with EV116 and fails it the second time. Each burst here is the next of its
port, granted on a target that is free. The return writes status, time and length into the descriptor and nothing
else. A deadline passed ends the transfer as late with EV117. Each clause concludes that exec answers the next state
it describes, under hypotheses on the state and the operands alone. -/
def Obligations.DmaRings : Prop :=
  (∀ (ring : Fin 16) (by_ : Fin 19) (s : State), mayStore (Reg.DMA_RCMD ring) by_ s = true → ringUsed ring s = true
      → ringHe ring s = false → ringRetired ring s = false → (dmaOf ring s).chain = false → ∃ t, exec (.dmaGo ring by_)
      s = .next t ∧ dmaOf ring t = { dmaOf ring s with chain := true } ∧ fl (Reg.DMA_RSTAT ring) Reg.DMA_RSTAT_RESULT t
      = 1 ∧ t.mem = s.mem)
  ∧ (∀ (ring : Fin 16) (by_ : Fin 19) (s : State), mayStore (Reg.DMA_RCMD ring) by_ s = true → ringUsed ring s = true
      → ringHe ring s = false → ringRetired ring s = false → (dmaOf ring s).chain = true → ∃ t, exec (.dmaGo ring by_)
      s = .next t ∧ dmaOf ring t = { dmaOf ring s with again := true } ∧ fl (Reg.DMA_RSTAT ring) Reg.DMA_RSTAT_RESULT t
      = 1 ∧ t.mem = s.mem)
  ∧ (∀ (ring : Fin 16) (by_ : Fin 19) (s : State), mayStore (Reg.DMA_RCMD ring) by_ s = true → ringHe ring s = true → ∃
      t, exec (.dmaGo ring by_) s = .next t ∧ t.fab = s.fab ∧ fl (Reg.DMA_RSTAT ring) Reg.DMA_RSTAT_RESULT t = 2
      ∧ t.mem = s.mem)
  ∧ (∀ (ring : Fin 16) (by_ : Fin 19) (x : Xfer) (s : State), mayStore (Reg.DMA_RCMD ring) by_ s = true → (dmaOf ring
      s).cur = some x → x.ended = none → ∃ t, exec (.dmaAbort ring by_) s = .next t ∧ dmaOf ring t
      = { dmaOf ring s with starts := [], chain := false, again := false, cur := some { x with ended := some (stAborted, s.lt) } }
      ∧ fl (Reg.DMA_RSTAT ring) Reg.DMA_RSTAT_RESULT t = 1 ∧ t.mem = s.mem)
  ∧ (∀ (ring : Fin 16) (by_ : Fin 19) (x : Xfer) (l : Nat) (s : State), mayStore (Reg.DMA_RCMD ring) by_ s = true
      → (dmaOf ring s).cur = some x → x.ended = some (stDone, l) → ∃ t, exec (.dmaAbort ring by_) s = .next t ∧ t.fab
      = s.fab ∧ fl (Reg.DMA_RSTAT ring) Reg.DMA_RSTAT_RESULT t = 3 ∧ t.mem = s.mem)
  ∧ (∀ (ring : Fin 16) (by_ : Fin 19) (s : State), mayStore (Reg.DMA_RCMD ring) by_ s = true → (dmaOf ring s).cur
      = none → (dmaOf ring s).starts = [] → (dmaOf ring s).chain = false → ∃ t, exec (.dmaAbort ring by_) s = .next t
      ∧ t.fab = s.fab ∧ fl (Reg.DMA_RSTAT ring) Reg.DMA_RSTAT_RESULT t = 2 ∧ t.mem = s.mem)
  ∧ (∀ (ring : Fin 16) (a st : Nat) (late : Bool) (rest : List (Nat × Bool)) (s : State), ringNext ring s = some
      (bkFetch, 1) → (portBusy (if ringDeadline ring s then 2 else 3) s = false) → portRing (ringDeadline ring s) s
      = some ring.val → (burstMay (if ringDeadline ring s then 2 else 3) 1 s = true) → ringTurn ring s = true → a
      = descAt ring (ringHead ring s) s → (dmaOf ring s).starts = (st, late) :: rest → (ldN a 4 s).testBit 0 = true → ∃
      t, exec (.descriptorFetch ring) s = .next t ∧ (dmaOf ring t).cur.map (fun c : Xfer => (c.start, c.index, c.w0,
      c.src, c.dst, c.wrap)) = some (st, ringHead ring s, ldN a 4 s, ldN (a + 4) 4 s, ldN (a + 8) 4 s, ldN (a + 16) 4
      s) ∧ (dmaOf ring t).cur.map (fun c : Xfer => c.len) = some (if ldN (a + 12) 4 s % 2 ^ 25 = 0 then 2 ^ 24 else ldN
      (a + 12) 4 s % 2 ^ 25) ∧ (dmaOf ring t).starts = rest ∧ fl (Reg.DMA_RSTAT ring) Reg.DMA_RSTAT_HEAD t = (ringHead
      ring s + 1) % ringSizeD ring s % 2 ^ Reg.DMA_RSTAT_HEAD.width ∧ on (Reg.DMA_RSTAT ring) Reg.DMA_RSTAT_BUSY t
      = true ∧ t.mem = s.mem)
  ∧ (∀ (ring : Fin 16) (a st : Nat) (late : Bool) (rest : List (Nat × Bool)) (s : State), ringNext ring s = some
      (bkFetch, 1) → (portBusy (if ringDeadline ring s then 2 else 3) s = false) → portRing (ringDeadline ring s) s
      = some ring.val → (burstMay (if ringDeadline ring s then 2 else 3) 1 s = true) → ringTurn ring s = true → a
      = descAt ring (ringHead ring s) s → (dmaOf ring s).starts = (st, late) :: rest → (ldN a 4 s).testBit 0 = false
      → ringHe ring s = true → ∃ t, exec (.descriptorFetch ring) s = .next t ∧ recorded 116 0 ring none s t ∧ (dmaOf
      ring t).starts = rest ∧ (dmaOf ring t).cur = none ∧ fl (Reg.DMA_RSTAT ring) Reg.DMA_RSTAT_HEAD t = ringHead ring
      s ∧ t.mem = s.mem)
  ∧ (∀ (ring : Fin 16) (tg : Nat) (x : Xfer) (s : State), ringNext ring s = some (bkReadback, tg) → (portBusy (if
      ringDeadline ring s then 2 else 3) s = false) → portRing (ringDeadline ring s) s = some ring.val → (burstMay (if
      ringDeadline ring s then 2 else 3) tg s = true) → (dmaOf ring s).cur = some x → x.ended = none → x.len ≤ x.put
      → ldBytes x.piece.1 x.piece.2.length s = x.piece.2 → (tg = tgtDram → on Reg.MEM_STAT Reg.MEM_STAT_DRAMRET s
      = false) → (ringDeadline ring s = true → nowF s + burstLen tg ≤ x.start + rd (Reg.DMA_RDL ring) s % 2 ^ 24) → ∃
      t, exec (.dmaTransferComplete ring true) s = .next t ∧ (dmaOf ring t).cur = some
      { x with ended := some (stDone, fclk * (nowF s + burstLen tg)) } ∧ t.mem = s.mem)
  ∧ (∀ (ring : Fin 16) (tg : Nat) (x : Xfer) (s : State), ringNext ring s = some (bkReadback, tg) → (portBusy (if
      ringDeadline ring s then 2 else 3) s = false) → portRing (ringDeadline ring s) s = some ring.val → (burstMay (if
      ringDeadline ring s then 2 else 3) tg s = true) → (dmaOf ring s).cur = some x → x.ended = none → x.len ≤ x.put
      → ldBytes x.piece.1 x.piece.2.length s = x.piece.2 → (tg = tgtDram → on Reg.MEM_STAT Reg.MEM_STAT_DRAMRET s
      = false) → ringDeadline ring s = true → x.start + rd (Reg.DMA_RDL ring) s % 2 ^ 24 < nowF s + burstLen tg → ∃ t,
      exec (.dmaTransferComplete ring true) s = .next t ∧ (dmaOf ring t).cur = some
      { x with ended := some (stLate, s.lt) } ∧ recorded 117 1 ring none s t ∧ on (Reg.DMA_REVT ring) Reg.DMA_REVT_LATE
      t = true ∧ t.mem = s.mem)
  ∧ (∀ (ring : Fin 16) (tg : Nat) (x : Xfer) (s : State), ringNext ring s = some (bkReadback, tg) → (portBusy (if
      ringDeadline ring s then 2 else 3) s = false) → portRing (ringDeadline ring s) s = some ring.val → (burstMay (if
      ringDeadline ring s then 2 else 3) tg s = true) → (dmaOf ring s).cur = some x → x.ended = none → x.len ≤ x.put
      → (tg = tgtDram → on Reg.MEM_STAT Reg.MEM_STAT_DRAMRET s = false) → x.repeated = false → ringDeadline ring s
      = false → ∃ t, exec (.dmaTransferComplete ring false) s = .next t ∧ (dmaOf ring t).cur = some
      { x with repeated := true, got := 0, put := 0, buf := [] } ∧ recorded 116 1 ring none s t ∧ on (Reg.DMA_REVT
      ring) Reg.DMA_REVT_REPEAT t = true ∧ t.mem = s.mem)
  ∧ (∀ (ring : Fin 16) (tg : Nat) (x : Xfer) (s : State), ringNext ring s = some (bkReadback, tg) → (portBusy (if
      ringDeadline ring s then 2 else 3) s = false) → portRing (ringDeadline ring s) s = some ring.val → (burstMay (if
      ringDeadline ring s then 2 else 3) tg s = true) → (dmaOf ring s).cur = some x → x.ended = none → x.len ≤ x.put
      → (tg = tgtDram → on Reg.MEM_STAT Reg.MEM_STAT_DRAMRET s = false) → x.repeated = true → ∃ t, exec
      (.dmaTransferComplete ring false) s = .next t ∧ (dmaOf ring t).cur = some
      { x with ended := some (stRbfail, s.lt) } ∧ on (Reg.DMA_REVT ring) Reg.DMA_REVT_FAULT t = true ∧ t.mem = s.mem)
  ∧ (∀ (ring : Fin 16) (x : Xfer) (status l a : Nat) (s : State), ringNext ring s = some (bkReturn, 1) → (portBusy (if
      ringDeadline ring s then 2 else 3) s = false) → portRing (ringDeadline ring s) s = some ring.val → (burstMay (if
      ringDeadline ring s then 2 else 3) 1 s = true) → (Tbl.get none s.fab.asked (8 * (if ringDeadline ring s then 2
      else 3) + 1) = none) → (dmaOf ring s).cur = some x → x.ended = some (status, l) → a = descAt ring x.index s → ∃
      t, exec (.descriptorReturn ring) s = .next t ∧ ldN a 4 t = (x.w0 / 16 * 16 + 2 * status) % 2 ^ 32 ∧ ldN (a + 24)
      4 t = l % 2 ^ 32 ∧ ldN (a + 28) 4 t = x.put % 2 ^ 32 ∧ (∀ b, (b < a ∨ a + 4 ≤ b) → (b < a + 24 ∨ a + 32 ≤ b)
      → ldB b t = ldB b s) ∧ (dmaOf ring t).cur = none ∧ on (Reg.DMA_RSTAT ring) Reg.DMA_RSTAT_BUSY t = false ∧ t.evt
      = s.evt)
  ∧ (∀ (ring : Fin 16) (x : Xfer) (s : State), ringDeadline ring s = true → (dmaOf ring s).cur = some x → x.ended
      = none → x.start + rd (Reg.DMA_RDL ring) s % 2 ^ 24 ≤ nowF s → ∃ t, exec (.dmaDeadlineExpiry ring) s = .next t
      ∧ (dmaOf ring t).cur = some { x with ended := some (stLate, s.lt) } ∧ recorded 117 1 ring none s t ∧ on
      (Reg.DMA_REVT ring) Reg.DMA_REVT_LATE t = true ∧ t.mem = s.mem)
  ∧ (∀ (ring : Fin 16) (s : State), ringDeadline ring s = false → exec (.dmaDeadlineExpiry ring) s = .next s)

/-- A frame that comes next in its stream, on time and for this device, is delivered and the stream goes on to the next
number. A DATA frame with room in the ring goes into its slot and nothing else is stored. A STATION frame of a present
station leaves its words. A BEACON of the manager in the current cycle gives the tier its MEPOCH, offsets and sender
and the cluster reference; a CLAIM preferred to the own role ends it; a REPORT to the manager fills its member's
registers; a DISPATCH writes the own entry's set-points. At the end of a hold the missing numbers are lost with EV118
and nothing is held; a context without frames for 10 s is freed. Each clause concludes that exec answers the next
state it describes, under hypotheses on the state and the operands alone. -/
def Obligations.StreamedFrames : Prop :=
  (∀ (port : Fin 4) (tag : FrameTag) (dstk : Fin 4) (src dst : BitVec 18) (seq : BitVec 32) (epoch : BitVec 16) (cts :
      BitVec 28) (data : List (BitVec 8)) (f : Frame) (i : Nat) (w n : Nat) (s : State), f = frameOf port 1 tag dstk
      src dst seq epoch cts data s → inOrder i f s = true → masked 6 s = false → w = rd Reg.SPN_RXWIDX s → n = 2 ^ (rd
      Reg.SPN_RXCFG s % 16) → (w + 2 ^ 32 - rd Reg.SPN_RXRIDX s) % 2 ^ 32 < n → ∃ t, exec (.dataFrameReceive port tag
      dstk src dst seq epoch cts data) s = .next t ∧ (streamOf i t).map (fun x : Stream => (x.expect, x.held)) = some
      ((f.seq + 1) % 2 ^ 32, ([] : List (Nat × Option Frame))) ∧ rd Reg.SPN_RXWIDX t = (w + 1) % 2 ^ 32 ∧ ldBytes (rd
      Reg.SPN_RXBASE s + 2048 * (w % n) + 32) data.length t = data ∧ (∀ a, a < rd Reg.SPN_RXBASE s + 2048 * (w % n)
      ∨ rd Reg.SPN_RXBASE s + 2048 * (w % n) + 32 + data.length ≤ a → ldB a t = ldB a s))
  ∧ (∀ (port : Fin 4) (tag : FrameTag) (dstk : Fin 4) (src dst : BitVec 18) (seq : BitVec 32) (epoch : BitVec 16) (cts
      : BitVec 28) (data : List (BitVec 8)) (f : Frame) (i : Nat) (n : Fin 64) (s : State), f = frameOf port 2 tag dstk
      src dst seq epoch cts data s → inOrder i f s = true → stnUsed n s = true → stnAddr n s = src.toNat → stnPresent n
      s = true → data.length ≤ 1488 → ∃ t, exec (.stationFrameReceive port tag dstk src dst seq epoch cts data) s
      = .next t ∧ (streamOf i t).map (fun x : Stream => (x.expect, x.held)) = some ((f.seq + 1) % 2 ^ 32, ([] : List
      (Nat × Option Frame))) ∧ (∀ k, k < data.length / 4 → Tbl.get 0 t.cyc.stnIn (stnKey n k) = (payloadWords
      f.data).getD k 0) ∧ Tbl.get 0 t.cyc.missed n = 0 ∧ t.cyc.seen.contains n.val = true ∧ stnPresent n t = true
      ∧ t.mem = s.mem)
  ∧ (∀ (port : Fin 4) (tag : FrameTag) (dstk : Fin 4) (src dst : BitVec 18) (seq : BitVec 32) (epoch : BitVec 16) (cts
      : BitVec 28) (data : List (BitVec 8)) (f : Frame) (i : Nat) (k : Nat) (s : State), f = frameOf port 3 tag dstk
      src dst seq epoch cts data s → inOrder i f s = true → k = tierPort port s → (tierOf k s).mgr = false → (tierOf k
      s).claim = none → serialAfter (tierOf k s).mepoch (be f.data 0 4) = false → be f.data 4 4 = tierCycle k s % 2 ^
      32 → be f.data 28 4 = rd Reg.SPN_SCHID s → ∃ t, exec (.beaconReceive port tag dstk src dst seq epoch cts data) s
      = .next t ∧ (streamOf i t).map (fun x : Stream => (x.expect, x.held)) = some ((f.seq + 1) % 2 ^ 32, ([] : List
      (Nat × Option Frame))) ∧ (tierOf k t).mepoch = be f.data 0 4 ∧ (tierOf k t).manager = some src.toNat ∧ (tierOf k
      t).bmiss = 0 ∧ (tierOf k t).seen = true ∧ (tierOf k t).df = signed 32 (be f.data 18 4) ∧ (tierOf k t).dv = signed
      32 (be f.data 22 4) ∧ (tierOf k t).bsen = be f.data 26 1 ∧ (k = 0 → on Reg.SPN_STAT Reg.SPN_STAT_REFOK t = true)
      ∧ t.mem = s.mem)
  ∧ (∀ (port : Fin 4) (tag : FrameTag) (dstk : Fin 4) (src dst : BitVec 18) (seq : BitVec 32) (epoch : BitVec 16) (cts
      : BitVec 28) (data : List (BitVec 8)) (f : Frame) (i : Nat) (k : Nat) (s : State), f = frameOf port 4 tag dstk
      src dst seq epoch cts data s → inOrder i f s = true → k = tierPort port s → (tierOf k s).mgr = true → preferred
      (be f.data 0 4, be f.data 4 1) ((tierOf k s).mepoch, (ownPos k s).getD 8) = true → ∃ t, exec (.claimReceive port
      tag dstk src dst seq epoch cts data) s = .next t ∧ (streamOf i t).map (fun x : Stream => (x.expect, x.held))
      = some ((f.seq + 1) % 2 ^ 32, ([] : List (Nat × Option Frame))) ∧ (tierOf k t).mgr = false ∧ (k = 0 → on
      Reg.SPN_STAT Reg.SPN_STAT_MGR t = false) ∧ t.mem = s.mem ∧ t.evt = s.evt)
  ∧ (∀ (port : Fin 4) (tag : FrameTag) (dstk : Fin 4) (src dst : BitVec 18) (seq : BitVec 32) (epoch : BitVec 16) (cts
      : BitVec 28) (data : List (BitVec 8)) (f : Frame) (i : Nat) (k : Nat) (s : State), f = frameOf port 4 tag dstk
      src dst seq epoch cts data s → inOrder i f s = true → k = tierPort port s → (tierOf k s).mgr = true → preferred
      (be f.data 0 4, be f.data 4 1) ((tierOf k s).mepoch, (ownPos k s).getD 8) = false → ∃ t, exec (.claimReceive port
      tag dstk src dst seq epoch cts data) s = .next t ∧ (streamOf i t).map (fun x : Stream => (x.expect, x.held))
      = some ((f.seq + 1) % 2 ^ 32, ([] : List (Nat × Option Frame))) ∧ (tierOf k t).mgr = true ∧ (tierOf k t).mepoch
      = (tierOf k s).mepoch ∧ t.mem = s.mem ∧ t.evt = s.evt)
  ∧ (∀ (port : Fin 4) (tag : FrameTag) (dstk : Fin 4) (src dst : BitVec 18) (seq : BitVec 32) (epoch : BitVec 16) (cts
      : BitVec 28) (data : List (BitVec 8)) (f : Frame) (i : Nat) (m : Nat) (s : State), f = frameOf port 5 tag dstk
      src dst seq epoch cts data s → inOrder i f s = true → tierPort port s = 0 → (tierOf 0 s).mgr = true → m
      = src.toNat % 256 → ∃ t, exec (.reportFrameReceive port tag dstk src dst seq epoch cts data) s = .next t
      ∧ (streamOf i t).map (fun x : Stream => (x.expect, x.held)) = some ((f.seq + 1) % 2 ^ 32, ([] : List (Nat ×
      Option Frame))) ∧ rd (Reg.SPN_MRW m) t = be f.data 0 4 % 2 ^ 32 ∧ rd (Reg.SPN_MRV m) t = be f.data 4 4 % 2 ^ 32
      ∧ rd (Reg.SPN_MRP m) t = be f.data 8 4 % 2 ^ 32 ∧ rd (Reg.SPN_MRQ m) t = be f.data 12 4 % 2 ^ 32 ∧ bitAt
      (Reg.SPN_MRST m) 4 t = true ∧ t.mem = s.mem ∧ t.evt = s.evt)
  ∧ (∀ (port : Fin 4) (tag : FrameTag) (dstk : Fin 4) (src dst : BitVec 18) (seq : BitVec 32) (epoch : BitVec 16) (cts
      : BitVec 28) (data : List (BitVec 8)) (f : Frame) (i : Nat) (e : List Nat) (s : State), f = frameOf port 6 tag
      dstk src dst seq epoch cts data s → inOrder i f s = true → tierPort port s = 0 → serialAfter (tierOf 0 s).mepoch
      (be f.data 0 4) = false → be f.data 4 2 ≤ ownMember s → ownMember s < be f.data 4 2 + be f.data 6 2 → e
      = f.data.drop (8 + 12 * (ownMember s - be f.data 4 2)) → ∃ t, exec (.dispatchReceive port tag dstk src dst seq
      epoch cts data) s = .next t ∧ (streamOf i t).map (fun x : Stream => (x.expect, x.held)) = some ((f.seq + 1) % 2 ^
      32, ([] : List (Nat × Option Frame))) ∧ rd Reg.SPN_DP t = be e 0 4 % 2 ^ 32 ∧ rd Reg.SPN_DQ t = be e 4 4 % 2 ^ 32
      ∧ rd Reg.SPN_DBS t = be e 8 1 % 2 ^ 32 ∧ regsKept [Reg.SPN_DP, Reg.SPN_DQ, Reg.SPN_DBS] s t ∧ t.mem = s.mem
      ∧ t.evt = s.evt)
  ∧ (∀ (stream : Fin 1024) (x : Stream) (d : Nat) (s : State), streamOf stream s = some x → x.deadline = some d → d
      ≤ s.lt → x.held ≠ [] → x.held.all (fun p : Nat × Option Frame => p.1 != x.expect % 2 ^ 32) = true → ∃ t, exec
      (.streamHoldDeadline stream) s = .next t ∧ (streamOf stream t).map (fun y : Stream => (y.held, y.deadline))
      = some (([] : List (Nat × Option Frame)), (none : Option Nat)) ∧ recorded 118 (if x.held.any (fun p : Nat ×
      Option Frame => p.2.isNone) then 1 else 0) stream none s t ∧ on Reg.SPN_EVT Reg.SPN_EVT_LOSS t = true)
  ∧ (∀ (stream : Fin 1024) (x : Stream) (s : State), streamOf stream s = some x → x.last + 10000 * ms ≤ s.lt → ∃ t,
      exec (.streamContextExpire stream) s = .next t ∧ streamOf stream t = none ∧ (∀ k, k ≠ stream.val → streamOf k t
      = streamOf k s))
  ∧ (∀ (stream : Fin 1024) (x : Stream) (s : State), streamOf stream s = some x → s.lt < x.last + 10000 * ms → exec
      (.streamContextExpire stream) s = .next s)

/-- A SPAN_TX of an enabled entry queues a frame on each of its ports that has a role and is not retired, and a best-
effort send queues its entry. A waiting frame of an entry inside its window starts and is sent; one past its window,
or of an earlier cycle, is a transmission miss with EV118. A cluster cycle starts with its number and a new count of
missed beacons. A new TRIGGER frame is condition 0x05 of the Hamper at its instant, a new TCAL frame gives T_c to the
input pins. Each clause concludes that exec answers the next state it describes, under hypotheses on the state and the
operands alone. -/
def Obligations.SpanTransmissionAndUrgent : Prop :=
  (∀ (slot : Fin 4096) (e : Nat) (s : State), tackReady slot actSpan s = true → e = slTarget (slotOf slot s) % 256
      → enOn e s = true → enBe e s = false → ctAnchored s = true → (enSends e s).isSome = true → regionReport e s
      = false → ∃ t, exec (.spanTx slot) s = .next t ∧ (∀ p : Fin 4, queueOf p t = if p.val ∈ enPorts e s ∧ spanRole p
      s ≠ 0 ∧ portRetired p s = false then queueOf p s ++ [Tx.mk e s.lt (Tbl.get 0 s.spn.sent e)] else queueOf p s)
      ∧ t.tack = (tackFired slot s).tack ∧ t.regs = (tackFired slot s).regs ∧ t.mem = s.mem ∧ t.evt = (tackFired slot
      s).evt)
  ∧ (∀ (value : BitVec 32) (by_ : Fin 19) (e q : Nat) (s : State), mayStore Reg.SPN_BECMD by_ s = true → e
      = value.toNat % 256 → q = (nextSeq (enDstk e s) (enDst e s) s).1 → enOn e s = true → enBe e s = true → acting s
      = true → ∃ t, exec (.bestEffortSend value by_) s = .next t ∧ (∀ p : Fin 4, p.val ∈ enPorts e s → portUp p s
      = true → Tbl.get [] t.spn.best p = Tbl.get [] s.spn.best p ++ [(e, q)]) ∧ t.spn.queue = s.spn.queue ∧ t.out
      = s.out ∧ t.mem = s.mem)
  ∧ (∀ (port : Fin 4) (x : Tx) (k : Nat) (s : State), (fwdNext port s).any (fun y : Fwd => y.cls == 0) = false
      → startable port s = some x → enSends x.entry s = some k → k ≠ 1 → k ≠ 2 → ∃ t, exec (.spanFrameStart port) s
      = .next t ∧ queueOf port t = (queueOf port s).erase x ∧ t.spn.sent = Tbl.put x.entry s.lt s.spn.sent ∧ (∃ l,
      t.out = s.out ++ [Out.span port k l]) ∧ t.mem = s.mem ∧ t.evt = s.evt)
  ∧ (∀ (port : Fin 4) (x : Tx) (k : Nat) (s : State), (fwdNext port s).any (fun y : Fwd => y.cls == 0) = false
      → startable port s = some x → enSends x.entry s = some k → (k = 1 ∨ k = 2) → ∃ t, exec (.spanFrameStart port) s
      = .next t ∧ queueOf port t = (queueOf port s).erase x ∧ (∃ l, t.out = s.out ++ [Out.span port k l]) ∧ ldN (enBuf
      x.entry s + 2) 2 t = 0 ∧ ldN (enBuf x.entry s + 4) 4 t = ctNow s / 16 % 2 ^ 28 ∧ (∀ b, b < enBuf x.entry s + 2
      ∨ enBuf x.entry s + 8 ≤ b → ldB b t = ldB b s) ∧ t.evt = s.evt)
  ∧ (∀ (port : Fin 4) (x : Tx) (s : State), (queueOf port s).find? (fun y : Tx => decide (enEnd y.entry s ≤ cycleOfs s)
      || firedBefore y s) = some x → released x s = true → ∃ t, exec (.txWindowMiss port) s = .next t ∧ queueOf port t
      = (queueOf port s).erase x ∧ recorded 118 1 (0x8000 + x.entry) none s t ∧ on Reg.SPN_EVT Reg.SPN_EVT_TXMISS t
      = true ∧ t.mem = s.mem)
  ∧ (∀ (s : State), s.configured = true → ctAnchored s = true → (tierOf 0 s).cyc ≠ some (cycleNow s) → (tierOf 0 s).mgr
      = false → ∃ t, exec .clusterCycleStart s = .next t ∧ rd Reg.SPN_CYCNO t = cycleNow s % 2 ^ 32 ∧ (tierOf 0 t).cyc
      = some (cycleNow s) ∧ (tierOf 0 t).bmiss = (if (tierOf 0 s).seen then 0 else (tierOf 0 s).bmiss + 1) ∧ (tierOf 0
      t).seen = false ∧ (tierOf 0 t).prior = (tierOf 0 s).reports ∧ t.mem = s.mem ∧ t.evt = s.evt)
  ∧ (∀ (s : State), s.configured = true → ctAnchored s = true → regionOn s = true → (tierOf 0 s).mgr = true → (tierOf 1
      s).mgr = false → (tierOf 1 s).cyc ≠ some (cycleNow s / rMult s) → ∃ t, exec .regionCycleStart s = .next t
      ∧ (tierOf 1 t).cyc = some (cycleNow s / rMult s) ∧ (tierOf 1 t).bmiss = (if (tierOf 1 s).seen then 0 else (tierOf
      1 s).bmiss + 1) ∧ tierOf 0 t = tierOf 0 s ∧ t.mem = s.mem ∧ t.evt = s.evt)
  ∧ (∀ (port : Fin 4) (tag : FrameTag) (dstk : Fin 4) (src dst : BitVec 18) (seq : BitVec 32) (epoch : BitVec 16) (cts
      : BitVec 28) (data : List (BitVec 8)) (f : Frame) (s : State), f = frameOf port 7 tag dstk src dst seq epoch cts
      data s → urgentNew f (be f.data 8 4) s = true → on Reg.HMP_TBCFG Reg.HMP_TBCFG_RXSPAN s = true → ctAnchored s
      = true → ∃ t, exec (.triggerFrameReceive port tag dstk src dst seq epoch cts data) s = .next t ∧ Tbl.get 0
      t.hmp.pulses 5 = ltOfCt (be f.data 0 8) s ∧ t.regs = s.regs ∧ t.mem = s.mem ∧ t.evt = s.evt)
  ∧ (∀ (port : Fin 4) (tag : FrameTag) (dstk : Fin 4) (src dst : BitVec 18) (seq : BitVec 32) (epoch : BitVec 16) (cts
      : BitVec 28) (data : List (BitVec 8)) (f : Frame) (n : Fin 2) (s : State), f = frameOf port 8 tag dstk src dst
      seq epoch cts data s → urgentNew f (be f.data 8 4) s = true → ctAnchored s = true → s.hmp.pinIn = [] → pinIsOut n
      s = false → ∃ t, exec (.tcalReceive port tag dstk src dst seq epoch cts data) s = .next t ∧ Tbl.get 0 t.hmp.calTc
      n = ltOfCt (be f.data 0 8) s ∧ t.regs = s.regs ∧ t.mem = s.mem ∧ t.evt = s.evt)

/-- The cluster reference is lost after BLOSS cycles without a beacon. A device of the succession list claims with the
next MEPOCH after BLOSS + 2p cycles, and manages after two cycles with nothing preferred. A Sync on the slave port
makes CT track, the first one anchors it with EV19; a peer-delay exchange leaves the delay of its port; a second
Announce of a grandmaster within four intervals qualifies it, and none within three intervals frees its port; a port
in the master state sends Sync at its interval once CT is anchored and the port may send an urgent frame, and Announce
every second; every port sends a Pdelay_Req every second. Each clause concludes that exec answers the next state it
describes, under hypotheses on the state and the operands alone. -/
def Obligations.SuccessionAndSpanTime : Prop :=
  (∀ (s : State), on Reg.SPN_STAT Reg.SPN_STAT_REFOK s = true → bLoss s ≤ (tierOf 0 s).bmiss → exec .beaconLoss s
      = .next (setB Reg.SPN_STAT Reg.SPN_STAT_REFOK false s))
  ∧ (∀ (region : Bool) (k p : Nat) (s : State), (k = if region then 1 else 0) → ownPos k s = some p → (tierOf k s).mgr
      = false → (tierOf k s).claim = none → bLoss s + 2 * p ≤ (tierOf k s).bmiss → (k = 1 → (tierOf 0 s).mgr = true)
      → ∃ t, exec (.successionClaim region) s = .next t ∧ tierOf k t
      = { tierOf k s with claim := some (((tierOf k s).mepoch + 1) % 2 ^ 32, 0) } ∧ (∀ j, j ≠ k → tierOf j t = tierOf j
      s) ∧ (k = 0 → on Reg.SPN_STAT Reg.SPN_STAT_CLAIMING t = true) ∧ t.mem = s.mem ∧ t.evt = s.evt)
  ∧ (∀ (region : Bool) (k e n : Nat) (s : State), (k = if region then 1 else 0) → (tierOf k s).claim = some (e, n) → 2
      ≤ n → ∃ t, exec (.managerRoleTake region) s = .next t ∧ tierOf k t
      = { tierOf k s with mgr := true, claim := none, mepoch := e, bmiss := 0, manager := some (ownAddr s), sendFrom := tierCycle k s + 1 }
      ∧ (k = 0 → on Reg.SPN_STAT Reg.SPN_STAT_MGR t = true) ∧ t.mem = s.mem)
  ∧ (∀ (region : Bool) (k e n : Nat) (s : State), (k = if region then 1 else 0) → (tierOf k s).claim = some (e, n) → n
      < 2 → exec (.managerRoleTake region) s = .next s)
  ∧ (∀ (port : Fin 4) (origin : BitVec 64) (s : State), portUp port s = true → s.configured = true → s.spn.slave = some
      port.val → ctAnchored s = false → ∃ t, exec (.ptpSyncReceive port origin) s = .next t ∧ ctAnchored t = true ∧ on
      Reg.BOB_CTSTAT Reg.BOB_CTSTAT_TRACKING t = true ∧ rd64 Reg.BOB_CTOFS_LO Reg.BOB_CTOFS_HI t = ((origin.toNat + rd
      (Reg.SPN_PDLY port) s % 2 ^ 20) % 2 ^ 64 + 2 ^ 64 - s.lt / 8 % 2 ^ 64) % 2 ^ 64 ∧ recorded 19 0 0 none s t
      ∧ t.mem = s.mem)
  ∧ (∀ (port : Fin 4) (origin : BitVec 64) (s : State), portUp port s = true → s.configured = true → s.spn.slave = some
      port.val → ctAnchored s = true → ∃ t, exec (.ptpSyncReceive port origin) s = .next t ∧ on Reg.BOB_CTSTAT
      Reg.BOB_CTSTAT_TRACKING t = true ∧ rdW Reg.BOB_CTERR t = BitVec.ofInt 32 (clampI (-(2 ^ 31 - 1)) (2 ^ 31 - 1) (8
      * signed 64 ((origin.toNat + rd (Reg.SPN_PDLY port) s % 2 ^ 20) % 2 ^ 64 + 2 ^ 64 - ctNow s))) ∧ t.mem = s.mem)
  ∧ (∀ (port : Fin 4) (origin : BitVec 64) (s : State), portUp port s = true → s.configured = true → s.spn.slave ≠ some
      port.val → ∃ t, exec (.ptpSyncReceive port origin) s = .next t ∧ t.regs = s.regs ∧ t.mem = s.mem ∧ t.evt = s.evt)
  ∧ (∀ (port : Fin 4) (t1 t2 t3 t4 : BitVec 64) (s : State), portUp port s = true → exec (.ptpPdelayExchange port t1 t2
      t3 t4) s = .next (wr (Reg.SPN_PDLY port) (clampI 0 (2 ^ 20 - 1) ((((t4.toNat : Int) - t1.toNat) - ((t3.toNat :
      Int) - t2.toNat)) / 2)).toNat s))
  ∧ (∀ (port : Fin 4) (s : State), (annsOf port s).any (fun a : Ann => decide (a.at_ + 3000 * ms ≤ s.lt)) = true → ∃ t,
      exec (.ptpAnnounceTimeout port) s = .next t ∧ annsOf port t = (annsOf port s).filter (fun a : Ann => decide (s.lt
      < a.at_ + 3000 * ms)) ∧ (annsOf port t = [] → t.spn.slave ≠ some port.val) ∧ (∀ p, p ≠ port.val → annsOf p t
      = annsOf p s) ∧ (t.spn.slave = none → on Reg.BOB_CTSTAT Reg.BOB_CTSTAT_TRACKING t = false) ∧ (t.spn.slave = none
      → on Reg.BOB_CTSTAT Reg.BOB_CTSTAT_TRACKING s = true → recorded 20 0 0 none s t) ∧ t.mem = s.mem)
  ∧ (∀ (port : Fin 4) (s : State), (annsOf port s).all (fun a : Ann => decide (s.lt < a.at_ + 3000 * ms)) = true → exec
      (.ptpAnnounceTimeout port) s = .next s)
  ∧ (∀ (port : Fin 4) (gm : BitVec 112) (steps : BitVec 16) (s : State), portUp port s = true → s.configured = true
      → spanLost port s = false → annsOf port s = [] → ∃ t, exec (.ptpAnnounceReceive port gm steps) s = .next t
      ∧ annsOf port t = [Ann.mk gm.toNat steps.toNat s.lt false] ∧ t.spn.slave ≠ some port.val ∧ t.mem = s.mem ∧ t.evt
      = s.evt)
  ∧ (∀ (port : Fin 4) (gm : BitVec 112) (steps : BitVec 16) (n a : Nat) (q : Bool) (s : State), portUp port s = true
      → s.configured = true → spanLost port s = false → annsOf port s = [Ann.mk gm.toNat n a q] → s.lt ≤ a + 4000 * ms
      → ∃ t, exec (.ptpAnnounceReceive port gm steps) s = .next t ∧ annsOf port t = [Ann.mk gm.toNat steps.toNat s.lt
      true] ∧ t.mem = s.mem ∧ t.evt = s.evt)
  ∧ (∀ (port : Fin 4) (s : State), portUp port s = true → s.configured = true → s.lt < Tbl.get 0 s.spn.pdAt port + 1000
      * ms → s.spn.slave = none → acting s = true → ctAnchored s = true → Tbl.get 0 s.spn.syncAt port + 1000 * ms / 2 ^
      fl Reg.SPN_PTP Reg.SPN_PTP_SYNCIV s ≤ s.lt → s.lt < Tbl.get 0 s.spn.annAt port + 1000 * ms → Tbl.get []
      s.spn.urgent port = [] → urgentMay port s = true → ∃ t, exec (.ptpMessageInterval port) s = .next t ∧ t.out
      = s.out ++ [Out.span port 16 [fl Reg.SPN_PTP Reg.SPN_PTP_DOMAIN s, ctNow s, 0]] ∧ Tbl.get 0 t.spn.syncAt port
      = s.lt ∧ (∀ p, p ≠ port.val → Tbl.get 0 t.spn.syncAt p = Tbl.get 0 s.spn.syncAt p) ∧ t.regs = s.regs ∧ t.mem
      = s.mem ∧ t.evt = s.evt)
  ∧ (∀ (port : Fin 4) (s : State), portUp port s = true → s.configured = true → s.lt < Tbl.get 0 s.spn.pdAt port + 1000
      * ms → s.spn.slave = none → acting s = true → ctAnchored s = false → Tbl.get 0 s.spn.annAt port + 1000 * ms
      ≤ s.lt → Tbl.get [] s.spn.urgent port = [] → urgentMay port s = true → ∃ t, exec (.ptpMessageInterval port) s
      = .next t ∧ t.out = s.out ++ [Out.span port 17 [fl Reg.SPN_PTP Reg.SPN_PTP_DOMAIN s, ownClock s, 0]] ∧ Tbl.get 0
      t.spn.annAt port = s.lt ∧ (∀ p, p ≠ port.val → Tbl.get 0 t.spn.annAt p = Tbl.get 0 s.spn.annAt p) ∧ t.spn.syncAt
      = s.spn.syncAt ∧ t.regs = s.regs ∧ t.mem = s.mem ∧ t.evt = s.evt)
  ∧ (∀ (port : Fin 4) (s : State), portUp port s = true → s.configured = true → acting s = true → Tbl.get 0 s.spn.pdAt
      port + 1000 * ms ≤ s.lt → s.spn.slave = some port.val → Tbl.get [] s.spn.urgent port = [] → urgentMay port s
      = true → ∃ t, exec (.ptpMessageInterval port) s = .next t ∧ t.out = s.out ++ [Out.span port 18 [fl Reg.SPN_PTP
      Reg.SPN_PTP_DOMAIN s, ctNow s]] ∧ Tbl.get 0 t.spn.pdAt port = s.lt ∧ t.spn.syncAt = s.spn.syncAt ∧ t.spn.annAt
      = s.spn.annAt ∧ t.regs = s.regs ∧ t.mem = s.mem ∧ t.evt = s.evt)
  ∧ (∀ (port : Fin 4) (s : State), s.lt < Tbl.get 0 s.spn.pdAt port + 1000 * ms → ctAnchored s = false → s.lt < Tbl.get
      0 s.spn.annAt port + 1000 * ms → exec (.ptpMessageInterval port) s = .next s)

/-- A link that is lost clears its port's LINK with the count, one that comes up sets it; a discarded frame is counted on
its port. A device in FORM or HEM without a beacon for MCLOSS is unlinked; unlinked without a frame for its wait it
starts a frame at the next cycle count divisible by 4; a frame that the detector has read is shown, counted and
recorded as EV121, but one of its own position is ignored while it is unlinked. Each clause concludes that exec
answers the next state it describes, under hypotheses on the state and the operands alone. -/
def Obligations.PortsAndMainsCode : Prop :=
  (∀ (port : Fin 4) (s : State), portLink port s = true → ∃ t, exec (.spanLinkLoss port) s = .next t ∧ portLink port t
      = false ∧ bitAt (Reg.SPN_PEVT port) 0 t = true ∧ fl (Reg.SPN_PSTAT port) ⟨16, 16⟩ t = min (2 ^ 16 - 1) (fl
      (Reg.SPN_PSTAT port) ⟨16, 16⟩ s + 1) ∧ t.spn.slave ≠ some port.val ∧ t.mem = s.mem)
  ∧ (∀ (port : Fin 4) (s : State), spanRole port s ≠ 0 → portRetired port s = false → s.configured = true → exec
      (.spanLinkUp port) s = .next (setBitAt (Reg.SPN_PSTAT port) 0 true
      { s with clk := { s.clk with spLost := setBit s.clk.spLost port false } }))
  ∧ (∀ (port : Fin 4) (s : State), portUp port s = true → ∃ t, exec (.spanFrameDiscarded port true) s = .next t ∧ fl
      (Reg.SPN_PCNT port) ⟨0, 16⟩ t = min (2 ^ 16 - 1) (fl (Reg.SPN_PCNT port) ⟨0, 16⟩ s + 1) ∧ bitAt (Reg.SPN_PEVT
      port) 1 t = true ∧ t.mem = s.mem)
  ∧ (∀ (port : Fin 4) (s : State), portUp port s = true → exec (.spanFrameDiscarded port false) s = .next (bump
      (Reg.SPN_PCNT port) ⟨16, 16⟩ 1 s))
  ∧ (∀ (s : State), mcOn s = true → mcLive s = true → s.spn.mc.beacon + 1000 * ms * fl Reg.SPN_MCFG Reg.SPN_MCFG_MCLOSS
      s ≤ s.lt → exec .mainsCodeUnlinked s = .next (setB Reg.SPN_STAT Reg.SPN_STAT_UNLINKED true s))
  ∧ (∀ (s : State), on Reg.SPN_STAT Reg.SPN_STAT_UNLINKED s = true → s.spn.mc.tx = none → mcLive s = true → s.spn.mc.rx
      + 1000 * ms * (mcPos s + 1) * fl Reg.SPN_MCFG Reg.SPN_MCFG_MCWAIT s ≤ s.lt → ∃ t, exec .mainsCodeSendStart s
      = .next t ∧ t.spn.mc.tx = some ((atOf (mcStage s) s / 2 ^ 32 / 4 + 1) * 4 % 2 ^ 32, mcFrame s) ∧ on
      Reg.SPN_MCSTAT Reg.SPN_MCSTAT_TX t = true ∧ regsKept [Reg.SPN_MCSTAT] s t ∧ t.mem = s.mem ∧ t.evt = s.evt)
  ∧ (∀ (kind val q : Nat) (s : State), s.spn.mc.done = some (kind, val, q) → (kind / 16 ≠ mcPos s ∨ on Reg.SPN_STAT
      Reg.SPN_STAT_UNLINKED s = false) → ∃ t, exec .mainsCodeFrameReceive s = .next t ∧ t.spn.mc.done = none
      ∧ t.spn.mc.rx = s.lt ∧ rd Reg.SPN_MCRX t = (kind + 256 * val) % 2 ^ 32 ∧ recorded 121 0 kind none s t ∧ on
      Reg.SPN_EVT Reg.SPN_EVT_MCRX t = true ∧ t.mem = s.mem)
  ∧ (∀ (kind val q : Nat) (s : State), s.spn.mc.done = some (kind, val, q) → kind / 16 = mcPos s → on Reg.SPN_STAT
      Reg.SPN_STAT_UNLINKED s = true → exec .mainsCodeFrameReceive s = .next
      ({ s with spn := { s.spn with mc := { s.spn.mc with done := none } } }))

/-- A receiver that gains sync is in sync, and a port of the endpoint then has HELLO twice to send; 64 IDLE in SYNC with
both sides in sync lead to IDENT, a matching HELLO to CONFIG with CONFIG and EPOCH to send, the CFGACK of the last
CONFIG to CAL with its first request, and a link that exceeds a state's limit starts another attempt or goes into
retirement with EV71 and EV72. A READY link that loses sync sends OFF with EV69. A calibration starts every 1 ms with
four exchanges, in place of one left open; an answer is one more sample and brings the next request, the last one,
judged good, has TIME to send, and a STATUS whose TCORR passes takes its delays. A STATUS shows its fields. In each no
TMB_LLERR acts on the uplink. Each clause concludes that exec answers the next state it describes, under hypotheses on
the state and the operands alone. -/
def Obligations.LinkBringUp : Prop :=
  (∀ (link : Fin 24) (s : State), exec (.linkRxSync link 0) s = .next (setLnk link
      { lnkOf link s with rx := true, idles := 0 } s))
  ∧ (∀ (link : Fin 24) (who : Fin 3) (p : Nat) (s : State), who ≠ 0 → p = who.val - 1 → (linkState link s ≠ lkSync
      ∨ (lnkOf link s).rx = false) → ∃ t, exec (.linkRxSync link who) s = .next t ∧ (epPort link p t).rx = true
      ∧ (epPort link p t).lostAt = none ∧ (epPort link p t).wait = (epPort link p s).wait ++ [(4, blockOf16 8 (bytesBE
      4 (Config.endpointId link).toNat ++ [(Config.endpointFit link).toNat % 32 + 32 * p, 1])), (4, blockOf16 8
      (bytesBE 4 (Config.endpointId link).toNat ++ [(Config.endpointFit link).toNat % 32 + 32 * p, 1]))] ∧ lnkOf link t
      = lnkOf link s ∧ t.out = s.out ∧ t.regs = s.regs ∧ t.mem = s.mem)
  ∧ (∀ (link : Fin 24) (who : Fin 3) (p : Nat) (s : State), who ≠ 0 → p = who.val - 1 → linkEnabled link s = true
      → linkState link s = lkSync → (lnkOf link s).rx = true → 64 ≤ (lnkOf link s).idles → p = portOf s → ∃ t, exec
      (.linkRxSync link who) s = .next t ∧ (epPort link p t).rx = true ∧ linkState link t = lkIdent ∧ (lnkOf link
      t).since = s.lt ∧ t.out = s.out ∧ t.mem = s.mem)
  ∧ (∀ (link : Fin 24) (l : BitVec 8) (s : State), linkEnabled link s = true → linkState link s = lkSync → (lnkOf link
      s).rx = true → (epPort link (portOf s) s).rx = true → (lnkOf link s).idles = 63 → ∃ t, exec (.idleReceived link 0
      true l) s = .next t ∧ linkState link t = lkIdent ∧ (lnkOf link t).idles = 64 ∧ (lnkOf link t).since = s.lt
      ∧ t.mem = s.mem ∧ t.evt = s.evt ∧ t.out = s.out)
  ∧ (∀ (link : Fin 24) (l : BitVec 8) (s : State), linkEnabled link s = true → linkState link s = lkSync → (lnkOf link
      s).rx = true → ((lnkOf link s).idles < 63 ∨ (epPort link (portOf s) s).rx = false) → exec (.idleReceived link 0
      true l) s = .next (setLnk link { lnkOf link s with idles := (lnkOf link s).idles + 1 } s))
  ∧ (∀ (link : Fin 24) (epid : BitVec 32) (nhb : BitVec 4) (dual port : Bool) (ver : BitVec 8) (s : State), linkEnabled
      link s = true → llErr link true s = false → linkState link s = lkIdent → (rd (Reg.LLK_EPID link) s = 0 ∨ rd
      (Reg.LLK_EPID link) s = epid.toNat) → (dual = true ∨ paired s = false) → ∃ t, exec (.helloReceived link true epid
      nhb dual port ver) s = .next t ∧ linkState link t = lkConfig ∧ (lnkOf link t).cseq = ((lnkOf link s).cseq + 1) %
      256 ∧ rdW (Reg.LLK_EPINFO link) t = epid ∧ on (Reg.LLK_STAT link) Reg.LLK_STAT_DUAL t = dual ∧ (lnkOf link t).tx
      = (lnkOf link s).tx ++ [TxBlk.block 5 (configBlock link t), TxBlk.block 5 (configBlock link t), TxBlk.block 5
      (epochBlock s.lt s), TxBlk.block 5 (epochBlock s.lt s)] ∧ t.out = s.out ∧ t.mem = s.mem ∧ t.evt = s.evt)
  ∧ (∀ (link : Fin 24) (epid : BitVec 32) (nhb : BitVec 4) (dual port : Bool) (ver : BitVec 8) (s : State), linkEnabled
      link s = true → llErr link true s = false → linkState link s = lkIdent → rd (Reg.LLK_EPID link) s ≠ 0 → rd
      (Reg.LLK_EPID link) s ≠ epid.toNat → ∃ t, exec (.helloReceived link true epid nhb dual port ver) s = .next t
      ∧ linkState link t = lkIdent ∧ rdW (Reg.LLK_EPINFO link) t = epid ∧ t.out = s.out ∧ t.mem = s.mem ∧ t.evt
      = s.evt)
  ∧ (∀ (link : Fin 24) (cseq : BitVec 8) (epid : BitVec 32) (s : State), linkEnabled link s = true → llErr link true s
      = false → linkState link s = lkConfig → cseq.toNat = (lnkOf link s).cseq → ∃ t, exec (.cfgackReceived link true
      cseq epid) s = .next t ∧ linkState link t = lkCal ∧ (lnkOf link t).need = 16 ∧ (lnkOf link t).rtts = [] ∧ (lnkOf
      link t).rtq = some (0, s.lt) ∧ t.out = s.out ∧ rdW (Reg.LLK_EPINFO link) t = epid ∧ t.mem = s.mem ∧ t.evt
      = s.evt)
  ∧ (∀ (link : Fin 24) (s : State), linkEnabled link s = true → linkState link s = lkReady → (lnkOf link s).calAt + ms
      ≤ s.lt → exec (.calibrationStart link) s = .next (setLnk link
      { lnkOf link s with calAt := s.lt, rtts := [], need := 4, repeated := false, timeSent := false, cand := none, rtq := some (0, rtqFrom link s) }
      s))
  ∧ (∀ (link : Fin 24) (num : BitVec 4) (ta : BitVec 20) (t4 : BitVec 64) (s : State), linkEnabled link s = true
      → (linkState link s = lkReady ∨ linkState link s = lkCal) → (lnkOf link s).rtts.length + 1 < (lnkOf link s).need
      → num.toNat = (lnkOf link s).rtts.length % 16 → exec (.rtaReceived link num ta t4) s = .next (setLnk link
      { lnkOf link s with rtts := (lnkOf link s).rtts ++ [((t4.toNat : Int) - (lnkOf link s).t1 - ta.toNat)], rtq := some (((lnkOf link s).rtts.length + 1) % 16, max s.lt ((lnkOf link s).t1 + rd (Reg.LLK_LEAD link) s % 2 ^ 16)) }
      s))
  ∧ (∀ (link : Fin 24) (num : BitVec 4) (ta : BitVec 20) (t4 : BitVec 64) (l : List Int) (fwd rev : Int) (s : State),
      linkEnabled link s = true → (linkState link s = lkReady ∨ linkState link s = lkCal) → (lnkOf link s).rtts.length
      + 1 = (lnkOf link s).need → num.toNat = (lnkOf link s).rtts.length % 16 → l = (lnkOf link s).rtts ++ [((t4.toNat
      : Int) - (lnkOf link s).t1 - ta.toNat)] → fwd = roundUp (l.foldl (· + ·) 0 + signed 16 (rd (Reg.LLK_ASYM link) s)
      * l.length) (2 * l.length) → rev = roundUp (l.foldl (· + ·) 0 - signed 16 (rd (Reg.LLK_ASYM link) s) * l.length)
      (2 * l.length) → maxI l - minI l ≤ 8 → ((lnkOf link s).passed = true → (fwd - (rd (Reg.LLK_DFWD link) s % 2 ^ 16
      : Nat)).natAbs ≤ rd (Reg.LLK_DJUMP link) s % 2 ^ 8) → fwd ≤ (rd (Reg.LLK_DMAX link) s % 2 ^ 16 : Nat) → rev ≤ (rd
      (Reg.LLK_DMAX link) s % 2 ^ 16 : Nat) → ∃ t, exec (.rtaReceived link num ta t4) s = .next t ∧ (lnkOf link t).cand
      = some (codeOf 16 fwd, codeOf 16 rev) ∧ (lnkOf link t).timeSent = true ∧ (lnkOf link t).tx = (lnkOf link s).tx ++
      [TxBlk.time, TxBlk.time] ∧ rd (Reg.LLK_DFWD link) t = rd (Reg.LLK_DFWD link) s ∧ rd (Reg.LLK_DREV link) t = rd
      (Reg.LLK_DREV link) s ∧ rd (Reg.LLK_SPREAD link) t = min 255 (maxI l - minI l).toNat ∧ t.out = s.out ∧ t.mem
      = s.mem ∧ t.evt = s.evt)
  ∧ (∀ (link : Fin 24) (s : State), linkEnabled link s = true → linkState link s = lkReady → ∃ t, exec (.linkRxSyncLost
      link) s = .next t ∧ (lnkOf link t).rx = false ∧ (lnkOf link t).offUntil = s.lt + us ∧ (lnkOf link t).lost = true
      ∧ recorded 69 1 link none s t ∧ on (Reg.LLK_EVT link) Reg.LLK_EVT_LOSS t = true ∧ t.mem = s.mem)
  ∧ (∀ (link : Fin 24) (s : State), linkEnabled link s = true → linkState link s ≤ lkCal → (lnkOf link s).since
      + stateLimit (linkState link s) ≤ s.lt → fl (Reg.LLK_STAT link) Reg.LLK_STAT_ATTEMPT s < 4 → s.lt < (lnkOf link
      s).firstTry + 400 * us → ∃ t, exec (.linkStateTimeout link) s = .next t ∧ linkState link t = lkSync ∧ fl
      (Reg.LLK_STAT link) Reg.LLK_STAT_ATTEMPT t = fl (Reg.LLK_STAT link) Reg.LLK_STAT_ATTEMPT s + 1 ∧ (lnkOf link
      t).since = s.lt ∧ t.mem = s.mem ∧ t.evt = s.evt ∧ t.out = s.out)
  ∧ (∀ (link : Fin 24) (s : State), linkEnabled link s = true → s.evt.react.contains (React.link link) = false
      → linkState link s ≤ lkCal → (lnkOf link s).since + stateLimit (linkState link s) ≤ s.lt → 4 ≤ fl (Reg.LLK_STAT
      link) Reg.LLK_STAT_ATTEMPT s → ∃ t, exec (.linkStateTimeout link) s = .next t ∧ (linkState link t = lkRetired
      ∨ t.evt.react.contains (React.link link) = true) ∧ recorded 71 0 link none s t ∧ recorded 72 2 link none s t
      ∧ t.mem = s.mem)
  ∧ (∀ (link : Fin 24) (uv alm : BitVec 4) (ocb : BitVec 8) (temps : BitVec 32) (epoch : BitVec 8) (owner : Bool)
      (tcorr crcn : BitVec 16) (s : State), linkEnabled link s = true → llErr link true s = false → linkState link s ≠
      lkRetired → ∃ t, exec (.statusReceived link true uv alm ocb temps epoch owner tcorr crcn) s = .next t ∧ rdW
      (Reg.LLK_TEMP link) t = temps ∧ rd (Reg.LLK_TCORR link) t = tcorr.toNat ∧ fl (Reg.LLK_STAT link)
      Reg.LLK_STAT_EPOCH t = epoch.toNat ∧ on (Reg.LLK_STAT link) Reg.LLK_STAT_OWNER t = owner ∧ (lnkOf link t).oc
      = ocb.toNat ∧ (lnkOf link t).uv = uv.toNat ∧ (lnkOf link t).alm = alm.toNat ∧ t.mem = s.mem)
  ∧ (∀ (link : Fin 24) (uv alm : BitVec 4) (ocb : BitVec 8) (temps : BitVec 32) (epoch : BitVec 8) (owner : Bool)
      (tcorr crcn : BitVec 16) (f r : Nat) (s : State), linkEnabled link s = true → llErr link true s = false
      → linkState link s ≠ lkRetired → (lnkOf link s).timeSent = true → (lnkOf link s).timeAt.any (fun u : Nat =>
      decide (u ≤ s.lt)) = true → (lnkOf link s).cand = some (f, r) → tcorr.toInt.natAbs ≤ 2 → ∃ t, exec
      (.statusReceived link true uv alm ocb temps epoch owner tcorr crcn) s = .next t ∧ rd (Reg.LLK_DFWD link) t = f %
      2 ^ 32 ∧ rd (Reg.LLK_DREV link) t = r % 2 ^ 32 ∧ (lnkOf link t).passed = true ∧ (lnkOf link t).calHold = false
      ∧ (lnkOf link t).need = 0 ∧ linkState link t = (if linkState link s = lkCal then lkReady else linkState link s)
      ∧ t.mem = s.mem)

/-- A received block that fails its check counts with EV64. An OC shows the off-confirmed half-bridges; an ALARM holds the
half-bridges it names. A NACK has its command sent again as RETRY, at most twice, while it can still meet its
deadline, with EV65. A turn-on skipped is EV56; an edge late, missing or undeliverable is EV67, EV68 or EV66 with
cause MISSED and the missed-edge counter; STALE, CONFLICT and FAR are EV73, EV74 and EV75. MISSED clears after 16 µs
without fault and both switches off. An early report takes one off the profile's PRE and sets its PLAT. Each clause
concludes that exec answers the next state it describes, under hypotheses on the state and the operands alone. -/
def Obligations.LinkReports : Prop :=
  (∀ (link : Fin 24) (oc : BitVec 8) (s : State), linkEnabled link s = true → linkState link s ≠ lkRetired → ∃ t, exec
      (.ocReceived link true oc) s = .next t ∧ (lnkOf link t).oc = oc.toNat ∧ (∀ h : Fin 96, hbUsed h s = true → h.val
      / 4 = link → on (Reg.PGN_HSTAT h) Reg.PGN_HSTAT_OFFCONF t = (ocOff oc.toNat h false && ocOff oc.toNat h true))
      ∧ t.out = s.out ∧ t.mem = s.mem ∧ t.evt = s.evt)
  ∧ (∀ (link : Fin 24) (oc : BitVec 8) (s : State), linkEnabled link s = true → linkState link s ≠ lkRetired → ∃ t,
      exec (.ocReceived link false oc) s = .next t ∧ recorded 64 0 link none s t ∧ on (Reg.LLK_EVT link)
      Reg.LLK_EVT_CRCFAIL t = true ∧ fl (Reg.LLK_CNT0 link) ⟨0, 16⟩ t = min (2 ^ 16 - 1) (fl (Reg.LLK_CNT0 link) ⟨0,
      16⟩ s + 1) ∧ (lnkOf link t).oc = (lnkOf link s).oc ∧ t.mem = s.mem)
  ∧ (∀ (link : Fin 24) (a : BitVec 8) (k : Fin 4) (s : State), linkEnabled link s = true → linkState link s ≠ lkRetired
      → hbUsed (4 * link + k) s = true → a.toNat.testBit k = true → (a.toNat.testBit 4 = true ∨ a.toNat.testBit 5
      = true) → ∃ t, exec (.alarmReceived link true a) s = .next t ∧ on (Reg.LLK_EVT link) Reg.LLK_EVT_ALARM t = true
      ∧ hbState (4 * link + k) t ≠ 0 ∧ (hbCause (4 * link + k) t).testBit 1 = true ∧ on (Reg.PGN_HSTAT (4 * link + k))
      Reg.PGN_HSTAT_HION t = false ∧ on (Reg.PGN_HSTAT (4 * link + k)) Reg.PGN_HSTAT_LOON t = false ∧ t.mem = s.mem)
  ∧ (∀ (link : Fin 24) (seq : BitVec 8) (c : Sent) (s : State), linkEnabled link s = true → linkState link s = lkReady
      → sentOf link seq.toNat s = some c → c.closed = false → c.held = false → c.resends < 2 → meets link (deadlineT
      link c.edge.stamp s) s = true → ∃ t, exec (.nackReceived link true seq) s = .next t ∧ (lnkOf link t).tx = (lnkOf
      link s).tx ++ [TxBlk.edge { c with resends := c.resends + 1, nacked := false } false true] ∧ t.out = s.out
      ∧ recorded 65 1 link none s t ∧ fl (Reg.LLK_CNT0 link) ⟨16, 16⟩ t = min (2 ^ 16 - 1) (fl (Reg.LLK_CNT0 link) ⟨16,
      16⟩ s + 1) ∧ t.mem = s.mem)
  ∧ (∀ (link : Fin 24) (seq : BitVec 8) (c : Sent) (s : State), linkEnabled link s = true → linkState link s ≠ lkReady
      → linkState link s ≠ lkRetired → sentOf link seq.toNat s = some c → c.closed = false → c.resends < 2 → ∃ t, exec
      (.nackReceived link true seq) s = .next t ∧ sentOf link seq.toNat t = some { c with nacked := true } ∧ (lnkOf
      link t).cleanFrom = s.lt ∧ t.out = s.out ∧ t.mem = s.mem ∧ t.evt = s.evt)
  ∧ (∀ (link : Fin 24) (seq : BitVec 8) (k : Fin 4) (hi turnOn : Bool) (bin : Fin 8) (td tm : BitVec 16) (s : State),
      linkEnabled link s = true → linkState link s ≠ lkRetired → llErr link true s = false → hbUsed (4 * link + k) s
      = true → hbState (4 * link + k) s ≠ 2 → on (profOf (4 * link + k) hi turnOn bin) Reg.LLK_PROF_SEEDED s = true
      → on (profOf (4 * link + k) hi turnOn bin) Reg.LLK_PROF_TRAINED s = false → 2 ≤ fl (profOf (4 * link + k) hi
      turnOn bin) Reg.LLK_PROF_PRE s → 0 < fl (Reg.LLK_TRN link) Reg.LLK_TRN_NTRAIN s → ∃ t, exec (.reportReceived link
      true seq k hi turnOn bin td tm true false) s = .next t ∧ fl (profOf (4 * link + k) hi turnOn bin)
      Reg.LLK_PROF_PRE t = fl (profOf (4 * link + k) hi turnOn bin) Reg.LLK_PROF_PRE s - 1 ∧ fl (profOf (4 * link + k)
      hi turnOn bin) Reg.LLK_PROF_PLAT t = min 1023 (ceilDiv tm.toNat 8 + fl (Reg.LLK_TRN link) Reg.LLK_TRN_PLATMARG s)
      ∧ fl (profOf (4 * link + k) hi turnOn bin) Reg.LLK_PROF_GOOD t = 0 ∧ on (profOf (4 * link + k) hi turnOn bin)
      Reg.LLK_PROF_TRAINED t = false ∧ regsKept [profOf (4 * link + k) hi turnOn bin] s t ∧ t.mem = s.mem ∧ t.evt
      = s.evt)
  ∧ (∀ (link : Fin 24) (seq : BitVec 8) (k : Fin 4) (hi turnOn : Bool) (bin : Fin 8) (td tm : BitVec 16) (early : Bool)
      (s : State), linkEnabled link s = true → linkState link s ≠ lkRetired → llErr link true s = false → exec
      (.reportReceived link true seq k hi turnOn bin td tm early true) s = .next s)
  ∧ (∀ (link : Fin 24) (seq : BitVec 8) (c : Sent) (s : State), linkEnabled link s = true → linkState link s ≠
      lkRetired → sentOf link seq.toNat s = some c → llErr link true s = false → c.edge.on = true → c.reported = false
      → ∃ t, exec (.eventSkip link true seq) s = .next t ∧ recorded 56 1 c.hb none s t ∧ on (Reg.PGN_HEVT c.hb)
      Reg.PGN_HEVT_SKIP t = true ∧ fl (Reg.PGN_SKIPCNT c.hb) ⟨0, 16⟩ t = min (2 ^ 16 - 1) (fl (Reg.PGN_SKIPCNT c.hb)
      ⟨0, 16⟩ s + 1) ∧ t.mem = s.mem)
  ∧ (∀ (link : Fin 24) (seq : BitVec 8) (c : Sent) (s : State), linkEnabled link s = true → linkState link s ≠
      lkRetired → sentOf link seq.toNat s = some c → llErr link true s = false → c.reported = false → hbUsed c.hb s
      = true → ∃ t, exec (.eventLate link true seq) s = .next t ∧ recorded 67 1 c.hb none s t ∧ (hbCause c.hb
      t).testBit 2 = true ∧ fl (Reg.LLK_CNT1 link) ⟨0, 16⟩ t = min (2 ^ 16 - 1) (fl (Reg.LLK_CNT1 link) ⟨0, 16⟩ s + 1)
      ∧ on (Reg.LLK_EVT link) Reg.LLK_EVT_MISSED t = true ∧ t.mem = s.mem)
  ∧ (∀ (link : Fin 24) (seq : BitVec 8) (c : Sent) (s : State), linkEnabled link s = true → linkState link s ≠
      lkRetired → sentOf link seq.toNat s = some c → llErr link true s = false → c.reported = false → hbUsed c.hb s
      = true → ∃ t, exec (.eventMissing link true seq) s = .next t ∧ recorded 68 1 c.hb none s t ∧ (hbCause c.hb
      t).testBit 2 = true ∧ fl (Reg.LLK_CNT1 link) ⟨0, 16⟩ t = min (2 ^ 16 - 1) (fl (Reg.LLK_CNT1 link) ⟨0, 16⟩ s + 1)
      ∧ on (Reg.LLK_EVT link) Reg.LLK_EVT_MISSED t = true ∧ t.mem = s.mem)
  ∧ (∀ (link : Fin 24) (seq : BitVec 8) (c : Sent) (s : State), openCmd link seq.toNat s = some c → hbUsed c.hb s
      = true → latestStart link c.edge.stamp s ≤ clkEnd s → ∃ t, exec (.edgeUndeliverable link seq) s = .next t
      ∧ recorded 66 1 c.hb none s t ∧ (hbCause c.hb t).testBit 2 = true ∧ on (Reg.LLK_EVT link) Reg.LLK_EVT_MISSED t
      = true ∧ t.mem = s.mem)
  ∧ (∀ (link : Fin 24) (seq epoch : BitVec 8) (port : Fin 2) (s : State), linkEnabled link s = true → linkState link s
      ≠ lkRetired → llErr link true s = false → (lnkOf link s).event = none → port.val ≠ portOf s → ∃ t, exec
      (.eventStale link true seq epoch port) s = .next t ∧ recorded 73 0 link none s t ∧ on (Reg.LLK_EVT link)
      Reg.LLK_EVT_STALE t = true ∧ t.par = s.par ∧ t.out = s.out ∧ t.mem = s.mem)
  ∧ (∀ (link : Fin 24) (seq epoch : BitVec 8) (port : Fin 2) (s : State), linkEnabled link s = true → linkState link s
      ≠ lkRetired → llErr link true s = false → (lnkOf link s).event = none → port.val ≠ portOf s → ∃ t, exec
      (.eventConflict link true seq epoch port) s = .next t ∧ recorded 74 0 link none s t ∧ on (Reg.LLK_EVT link)
      Reg.LLK_EVT_STALE t = true ∧ t.par = s.par ∧ t.out = s.out ∧ t.mem = s.mem)
  ∧ (∀ (link : Fin 24) (seq : BitVec 8) (s : State), linkEnabled link s = true → linkState link s ≠ lkRetired → llErr
      link true s = false → (lnkOf link s).event = none → ∃ t, exec (.eventFar link true seq) s = .next t ∧ recorded 75
      0 link none s t ∧ t.out = s.out ∧ t.mem = s.mem)
  ∧ (∀ (hb : Fin 96) (s : State), hbUsed hb s = true → (hbCause hb s).testBit 2 = true → linkState (hb / 4) s = lkReady
      → (lnkOf (hb / 4) s).calHold = false → (lnkOf (hb / 4) s).cleanFrom + 128000 ≤ s.lt → ocOff (lnkOf (hb / 4) s).oc
      hb false = true → ocOff (lnkOf (hb / 4) s).oc hb true = true → ∃ t, exec (.missedCauseClear hb) s = .next t
      ∧ (hbCause hb t).testBit 2 = false ∧ (hbCause hb t).testBit 1 = (hbCause hb s).testBit 1 ∧ hbState hb t = hbState
      hb s ∧ (hbOf hb t).clearAt = s.lt ∧ t.out = s.out ∧ t.mem = s.mem ∧ t.evt = s.evt)

/-- The next EDGE of the owning port and epoch, stamped ahead by 256 eu to 2^20 eu, joins the commands; one of another
owner is EVENT STALE and one stamped further FAR; a SEQ passed over is NACKed. At its stamp a turn-off turns its
switch off; a turn-on turns it on, each with the drive of its profile, only where the other switch is measured off,
and else is EVENT SKIP. OFF turns off and cancels its half-bridges and no other. CONFIG sets the standing orders and
answers CFGACK. A newer EPOCH is a claim, which owns from HANDOFF on; one equal from the other port is a CONFLICT.
TIME sets the port time to LTTX + DFWD. Each clause concludes that exec answers the next state it describes, under
hypotheses on the state and the operands alone. -/
def Obligations.EndpointCommands : Prop :=
  (∀ (link : Fin 24) (port : Fin 2) (seq epoch : BitVec 8) (k : Fin 4) (hi turnOn report resume : Bool) (stamp : BitVec
      40) (pre : BitVec 8) (plat : BitVec 10) (ilev : BitVec 4) (bin : Fin 8) (s : State), (epPort link port s).last
      < 256 → seq.toNat = ((epPort link port s).last + 1) % 256 → (epOf link s).hben.testBit k = true → (epOf link
      s).claim = none → (epOf link s).owner = port.val → (epOf link s).epoch % 256 = epoch.toNat → ((epOf link
      s).wait.testBit k = false ∨ resume = true) → 256 ≤ (stamp.toNat + 2 ^ 40 - portTime link port s.lt s) % 2 ^ 40
      → (stamp.toNat + 2 ^ 40 - portTime link port s.lt s) % 2 ^ 40 ≤ 2 ^ 20 → ∃ t, exec (.epEdgeBlock link port true
      seq epoch k hi turnOn report resume stamp pre plat ilev bin) s = .next t ∧ (epOf link t).cmds = (epOf link
      s).cmds ++ [EpCmd.mk port seq.toNat epoch.toNat k hi turnOn stamp.toNat pre.toNat plat.toNat ilev.toNat bin
      report] ∧ (epPort link port t).last = seq.toNat ∧ (epOf link t).wait.testBit k = false ∧ (epOf link t).gates
      = (epOf link s).gates ∧ t.out = s.out ∧ t.regs = s.regs ∧ t.mem = s.mem)
  ∧ (∀ (link : Fin 24) (port : Fin 2) (seq epoch : BitVec 8) (k : Fin 4) (hi turnOn report resume : Bool) (stamp :
      BitVec 40) (pre : BitVec 8) (plat : BitVec 10) (ilev : BitVec 4) (bin : Fin 8) (s : State), (epPort link port
      s).last < 256 → seq.toNat = ((epPort link port s).last + 1) % 256 → (epOf link s).hben.testBit k = true → (epOf
      link s).claim = none → ((epOf link s).owner ≠ port.val ∨ (epOf link s).epoch % 256 ≠ epoch.toNat) → ∃ t, exec
      (.epEdgeBlock link port true seq epoch k hi turnOn report resume stamp pre plat ilev bin) s = .next t ∧ (epOf
      link t).cmds = (epOf link s).cmds ∧ (epOf link t).gates = (epOf link s).gates ∧ (epPort link port t).wait
      = (epPort link port s).wait ++ [(4, eventBlock 4 (seq.toNat) (epoch.toNat) port), (4, eventBlock 4 (seq.toNat)
      (epoch.toNat) port)] ∧ t.regs = s.regs ∧ t.mem = s.mem)
  ∧ (∀ (link : Fin 24) (port : Fin 2) (seq epoch : BitVec 8) (k : Fin 4) (hi turnOn report resume : Bool) (stamp :
      BitVec 40) (pre : BitVec 8) (plat : BitVec 10) (ilev : BitVec 4) (bin : Fin 8) (s : State), (epPort link port
      s).last < 256 → seq.toNat = ((epPort link port s).last + 1) % 256 → (epOf link s).hben.testBit k = true → (epOf
      link s).claim = none → (epOf link s).owner = port.val → (epOf link s).epoch % 256 = epoch.toNat → ((epOf link
      s).wait.testBit k = false ∨ resume = true) → 2 ^ 20 < (stamp.toNat + 2 ^ 40 - portTime link port s.lt s) % 2 ^ 40
      → (stamp.toNat + 2 ^ 40 - portTime link port s.lt s) % 2 ^ 40 < 2 ^ 39 → ∃ t, exec (.epEdgeBlock link port true
      seq epoch k hi turnOn report resume stamp pre plat ilev bin) s = .next t ∧ (epOf link t).cmds = (epOf link
      s).cmds ∧ (epOf link t).gates = (epOf link s).gates ∧ (epPort link port t).wait = (epPort link port s).wait ++
      [(4, eventBlock 5 (seq.toNat) (epoch.toNat) port), (4, eventBlock 5 (seq.toNat) (epoch.toNat) port)] ∧ t.regs
      = s.regs ∧ t.mem = s.mem)
  ∧ (∀ (link : Fin 24) (port : Fin 2) (seq epoch : BitVec 8) (k : Fin 4) (hi turnOn report resume : Bool) (stamp :
      BitVec 40) (pre : BitVec 8) (plat : BitVec 10) (ilev : BitVec 4) (bin : Fin 8) (s : State), (epPort link port
      s).last < 256 → seq.toNat = ((epPort link port s).last + 2) % 256 → (epPort link port s).missing = [] → (epOf
      link s).hben.testBit k = false → ∃ t, exec (.epEdgeBlock link port true seq epoch k hi turnOn report resume stamp
      pre plat ilev bin) s = .next t ∧ (epPort link port t).wait = (epPort link port s).wait ++ [(2, setNack (((epPort
      link port s).last + 1) % 256))] ∧ t.out = s.out ∧ (epPort link port t).missing = [(((epPort link port s).last
      + 1) % 256, s.lt, 1)] ∧ (epPort link port t).last = seq.toNat ∧ (epOf link t).cmds = (epOf link s).cmds ∧ t.mem
      = s.mem)
  ∧ (∀ (link : Fin 24) (port : Fin 2) (seq : BitVec 8) (td tm : BitVec 16) (early noplat : Bool) (c : EpCmd) (s :
      State), (epOf link s).cmds.find? (fun d : EpCmd => d.port == port.val && d.seq == seq.toNat) = some c
      → stampReached (portTime link port (s.lt + 15) s) c.stamp = true → c.on = false → c.report = false → ∃ t, exec
      (.epEdgeStamp link port seq td tm early noplat) s = .next t ∧ epOf link t
      = { epOf link s with cmds := (epOf link s).cmds.erase c, gates := setBit (epOf link s).gates (2 * c.hb + (if c.hi then 1 else 0)) false, drive := Tbl.put (2 * c.hb + (if c.hi then 1 else 0)) (c.pre, c.plat, c.ilev, c.stamp) (epOf link s).drive }
      ∧ t.out = s.out ++ [Out.drive link c.hb c.hi false c.pre c.plat c.ilev] ∧ t.regs = s.regs ∧ t.mem = s.mem)
  ∧ (∀ (link : Fin 24) (port : Fin 2) (seq : BitVec 8) (td tm : BitVec 16) (early noplat : Bool) (c : EpCmd) (s :
      State), (epOf link s).cmds.find? (fun d : EpCmd => d.port == port.val && d.seq == seq.toNat) = some c
      → stampReached (portTime link port (s.lt + 15) s) c.stamp = true → c.on = true → c.report = false → ((epOf link
      s).off.testBit (2 * c.hb + (if c.hi then 0 else 1)) = true) → ((epOf link s).gates.testBit (2 * c.hb + (if c.hi
      then 0 else 1)) = false) → ∃ t, exec (.epEdgeStamp link port seq td tm early noplat) s = .next t ∧ epOf link t
      = { epOf link s with cmds := (epOf link s).cmds.erase c, gates := setBit (epOf link s).gates (2 * c.hb + (if c.hi then 1 else 0)) true, drive := Tbl.put (2 * c.hb + (if c.hi then 1 else 0)) (c.pre, c.plat, c.ilev, c.stamp) (epOf link s).drive }
      ∧ t.out = s.out ++ [Out.drive link c.hb c.hi true c.pre c.plat c.ilev] ∧ t.regs = s.regs ∧ t.mem = s.mem)
  ∧ (∀ (link : Fin 24) (port : Fin 2) (seq : BitVec 8) (td tm : BitVec 16) (early noplat : Bool) (c : EpCmd) (s :
      State), (epOf link s).cmds.find? (fun d : EpCmd => d.port == port.val && d.seq == seq.toNat) = some c
      → stampReached (portTime link port (s.lt + 15) s) c.stamp = true → c.on = true → ((epOf link s).off.testBit (2
      * c.hb + (if c.hi then 0 else 1)) = false) → ∃ t, exec (.epEdgeStamp link port seq td tm early noplat) s = .next
      t ∧ (epOf link t).cmds = (epOf link s).cmds.erase c ∧ (epOf link t).gates = (epOf link s).gates ∧ (epPort link
      port t).wait = (epPort link port s).wait ++ [(4, eventBlock 1 (c.seq) (c.epoch) port), (4, eventBlock 1 (c.seq)
      (c.epoch) port)] ∧ t.out = s.out ∧ t.regs = s.regs ∧ t.mem = s.mem)
  ∧ (∀ (link : Fin 24) (port : Fin 2) (m : BitVec 4) (s : State), ∃ t, exec (.epOff link port true m) s = .next t ∧ (∀
      j, j < 8 → (epOf link t).gates.testBit j = ((epOf link s).gates.testBit j && !m.toNat.testBit (j / 2))) ∧ (epOf
      link t).cmds = (epOf link s).cmds.filter (fun d : EpCmd => !m.toNat.testBit d.hb) ∧ (epOf link t).wait = (epOf
      link s).wait ||| m.toNat ∧ t.out = s.out ∧ t.regs = s.regs ∧ t.mem = s.mem)
  ∧ (∀ (link : Fin 24) (port : Fin 2) (m : BitVec 4) (s : State), ∃ t, exec (.epOff link port false m) s = .next t
      ∧ (epOf link t).gates = (epOf link s).gates ∧ (epOf link t).cmds = (epOf link s).cmds ∧ (epPort link port t).crcn
      = min 0xFFFF ((epPort link port s).crcn + 1) ∧ t.out = s.out ∧ t.mem = s.mem)
  ∧ (∀ (link : Fin 24) (port : Fin 2) (cseq : BitVec 8) (hben : BitVec 4) (lossto : BitVec 16) (stativ : BitVec 8)
      (epid : BitVec 32) (seq0 : BitVec 8) (s : State), (epPort link port s).cseq ≠ some cseq.toNat → (epid.toNat = 0
      ∨ epid.toNat = (Config.endpointId link).toNat) → ∃ t, exec (.epConfigBlock link port true cseq hben lossto stativ
      epid seq0) s = .next t ∧ (epOf link t).hben = hben.toNat ∧ (epOf link t).lossto = lossto.toNat ∧ (epOf link
      t).stativ = stativ.toNat ∧ (epPort link port t).last = seq0.toNat ∧ (epPort link port t).cseq = some cseq.toNat
      ∧ (epPort link port t).missing = [] ∧ (epPort link port t).wait = (epPort link port s).wait ++ [(4, cfgackBlock
      cseq.toNat (Config.endpointId link).toNat), (4, cfgackBlock cseq.toNat (Config.endpointId link).toNat)] ∧ t.out
      = s.out ∧ (epOf link t).gates = (epOf link s).gates ∧ t.mem = s.mem)
  ∧ (∀ (link : Fin 24) (port : Fin 2) (cseq : BitVec 8) (hben : BitVec 4) (lossto : BitVec 16) (stativ : BitVec 8)
      (epid : BitVec 32) (seq0 : BitVec 8) (s : State), (epPort link port s).cseq = some cseq.toNat → exec
      (.epConfigBlock link port true cseq hben lossto stativ epid seq0) s = .next s)
  ∧ (∀ (link : Fin 24) (port : Fin 2) (epochf : BitVec 32) (handoff : BitVec 40) (s : State), (epOf link s).claim
      = none → newer32 epochf.toNat (epOf link s).epoch = true → exec (.epEpochBlock link port true epochf handoff) s
      = .next (setEp link
      { epOf link s with claim := some (epochf.toNat, port.val, handoff.toNat), epochs := Tbl.put port.val epochf.toNat (epOf link s).epochs }
      s))
  ∧ (∀ (link : Fin 24) (port : Fin 2) (epochf : BitVec 32) (handoff : BitVec 40) (s : State), (epOf link s).claim
      = none → epochf.toNat = (epOf link s).epoch → (epOf link s).owner ≠ port.val → ∃ t, exec (.epEpochBlock link port
      true epochf handoff) s = .next t ∧ (epOf link t).claim = none ∧ (epOf link t).owner = (epOf link s).owner ∧ (epOf
      link t).epoch = (epOf link s).epoch ∧ (epPort link port t).wait = (epPort link port s).wait ++ [(4, eventBlock 6
      (0) (epochf.toNat % 256) port), (4, eventBlock 6 (0) (epochf.toNat % 256) port)] ∧ t.out = s.out ∧ t.regs
      = s.regs ∧ t.mem = s.mem)
  ∧ (∀ (link : Fin 24) (e p h : Nat) (s : State), (epOf link s).claim = some (e, p, h) → stampReached (portTime link p
      s.lt s) h = true → ∃ t, exec (.epHandoff link) s = .next t ∧ (epOf link t).epoch = e ∧ (epOf link t).owner = p
      ∧ (epOf link t).claim = none ∧ (epOf link t).gates = (epOf link s).gates ∧ (∀ d : EpCmd, d.port = p → (d ∈ (epOf
      link t).cmds ↔ d ∈ (epOf link s).cmds)) ∧ t.out = s.out ∧ t.regs = s.regs ∧ t.mem = s.mem)
  ∧ (∀ (link : Fin 24) (s : State), (epOf link s).claim = none → exec (.epHandoff link) s = .next s)
  ∧ (∀ (link : Fin 24) (port : Fin 2) (lttx : BitVec 40) (dfwd : BitVec 16) (x : BitVec 64) (s : State), ∃ t, exec
      (.epTimeBlock link port true false lttx dfwd x) s = .next t ∧ portTime link port x.toNat t = (lttx.toNat
      + dfwd.toNat) % 2 ^ 40 ∧ (epOf link t).cmds = (epOf link s).cmds ∧ (epOf link t).gates = (epOf link s).gates
      ∧ t.out = s.out ∧ t.regs = s.regs ∧ t.mem = s.mem)
  ∧ (∀ (link : Fin 24) (port : Fin 2) (lttx : BitVec 40) (dfwd : BitVec 16) (x : BitVec 64) (s : State), exec
      (.epTimeBlock link port true true lttx dfwd x) s = .next s)

/-- Each of these joins what waits for the uplink of its port. An RTQ is answered by RTA. A SEQ still missing 512 eu after
its first NACK is NACKed once more, and one missing after its stamp is EVENT MISSING. The owning port out of sync for
LOSSTO turns every switch off and cancels every command. A shunt comparator sends ALARM three times and a changed gate
state OC on every port in sync; STATUS goes at its interval and at each change of UV or ALM. Each clause concludes
that exec answers the next state it describes, under hypotheses on the state and the operands alone. -/
def Obligations.EndpointReports : Prop :=
  (∀ (link : Fin 24) (port : Fin 2) (num : BitVec 4) (ta : BitVec 20) (s : State), exec (.epRtq link port true num ta)
      s = .next (setEpPort link port
      { epPort link port s with wait := (epPort link port s).wait ++ [(3, setRta num.toNat ta.toNat)] } s))
  ∧ (∀ (link : Fin 24) (port : Fin 2) (seq : BitVec 8) (a : Nat) (s : State), (seq.toNat, a, 1) ∈ (epPort link port
      s).missing → a + 512 ≤ s.lt → ∃ t, exec (.epNackRepeat link port seq) s = .next t ∧ (epPort link port t).wait
      = (epPort link port s).wait ++ [(2, setNack seq.toNat)] ∧ t.out = s.out ∧ (seq.toNat, s.lt, 2) ∈ (epPort link
      port t).missing ∧ (epPort link port t).last = (epPort link port s).last ∧ t.regs = s.regs ∧ t.mem = s.mem)
  ∧ (∀ (link : Fin 24) (port : Fin 2) (seq : BitVec 8) (s : State), (epPort link port s).missing.any (fun m : Nat × Nat
      × Nat => m.1 == seq.toNat && m.2.2 != 3) = true → ∃ t, exec (.epMissingReport link port seq) s = .next t
      ∧ (epPort link port t).wait = (epPort link port s).wait ++ [(4, eventBlock 3 (seq.toNat) (Tbl.get 0 (epOf link
      s).epochs port % 256) port), (4, eventBlock 3 (seq.toNat) (Tbl.get 0 (epOf link s).epochs port % 256) port)]
      ∧ (epPort link port t).missing = (epPort link port s).missing.map (fun m : Nat × Nat × Nat => if m.1 = seq.toNat
      then (m.1, m.2.1, 3) else m) ∧ t.regs = s.regs ∧ t.mem = s.mem)
  ∧ (∀ (link : Fin 24) (port : Fin 2) (s : State), exec (.epRxSyncLost link port) s = .next (setEpPort link port
      { epPort link port s with rx := false, lostAt := some s.lt } s))
  ∧ (∀ (link : Fin 24) (port : Fin 2) (a : Nat) (s : State), (epPort link port s).lostAt = some a → (epOf link s).owner
      = port.val → a + (epOf link s).lossto ≤ s.lt → exec (.epLossTimeout link port) s = .next (setEp link
      { epOf link s with gates := 0, cmds := [] } s))
  ∧ (∀ (link : Fin 24) (mask : BitVec 4) (high low : Bool) (s : State), ∃ t, exec (.epShuntAlarm link mask high low) s
      = .next t ∧ (∀ p, p < 2 → (epPort link p t).wait = if (epPort link p s).rx = true then (epPort link p s).wait ++
      List.replicate 3 (0, setAlarm (mask.toNat + (if high then 16 else 0) + (if low then 32 else 0))) else (epPort
      link p s).wait) ∧ (epOf link t).alm = (epOf link s).alm ||| mask.toNat ∧ (epOf link t).gates = (epOf link
      s).gates ∧ t.out = s.out ∧ t.regs = s.regs ∧ t.mem = s.mem)
  ∧ (∀ (link : Fin 24) (oc : BitVec 8) (s : State), ∃ t, exec (.epGateStateChange link oc) s = .next t ∧ (epOf link
      t).off = oc.toNat ∧ (∀ p, p < 2 → (epPort link p t).wait = if (epPort link p s).rx = true then (epPort link p
      s).wait ++ [(1, setOc oc.toNat)] else (epPort link p s).wait) ∧ (epOf link t).gates = (epOf link s).gates ∧ t.out
      = s.out ∧ t.regs = s.regs ∧ t.mem = s.mem)
  ∧ (∀ (link : Fin 24) (temps : BitVec 32) (s : State), (epOf link s).statAt + (epOf link s).stativ * us ≤ s.lt → ∃ t,
      exec (.epStatusInterval link temps) s = .next t ∧ (epOf link t).statAt = s.lt ∧ (∀ p, p < 2 → (epPort link p
      t).wait = if (epPort link p s).rx = true then (epPort link p s).wait ++ [(4, blockOf16 9 ([(epOf link s).uv + 16
      * (epOf link s).alm, (epOf link s).off] ++ (List.range 4).map (fun k => temps.toNat / 256 ^ k % 256) ++ [Tbl.get
      0 (epOf link s).epochs p % 256, if (epOf link s).owner = p then 1 else 0] ++ bytesBE 2 (codeOf 16 (epPort link p
      s).tcorr) ++ bytesBE 2 (epPort link p s).crcn))] else (epPort link p s).wait) ∧ (∀ p, p < 2 → (epPort link p
      s).rx = true → (epPort link p t).crcn = 0) ∧ (epOf link t).gates = (epOf link s).gates ∧ t.out = s.out ∧ t.regs
      = s.regs ∧ t.mem = s.mem)
  ∧ (∀ (link : Fin 24) (temps : BitVec 32) (s : State), s.lt < (epOf link s).statAt + (epOf link s).stativ * us → exec
      (.epStatusInterval link temps) s = .next s)
  ∧ (∀ (link : Fin 24) (uv alm : BitVec 4) (temps : BitVec 32) (s : State), ∃ t, exec (.epStatusConditionChange link uv
      alm temps) s = .next t ∧ (epOf link t).uv = uv.toNat ∧ (epOf link t).alm = alm.toNat ∧ (epOf link t).statAt
      = s.lt ∧ (∀ p, p < 2 → (epPort link p t).wait = if (epPort link p s).rx = true then (epPort link p s).wait ++
      [(4, blockOf16 9 ([uv.toNat + 16 * alm.toNat, (epOf link s).off] ++ (List.range 4).map (fun k => temps.toNat /
      256 ^ k % 256) ++ [Tbl.get 0 (epOf link s).epochs p % 256, if (epOf link s).owner = p then 1 else 0] ++ bytesBE 2
      (codeOf 16 (epPort link p s).tcorr) ++ bytesBE 2 (epPort link p s).crcn))] else (epPort link p s).wait) ∧ t.out
      = s.out ∧ t.regs = s.regs ∧ t.mem = s.mem)

/-- A trip input that asserts sets its flag, holds every half-bridge of its mask off and is recorded as EV80; its flag
clears with EV85 only while the input is inactive, else EV84. A comparator in window mode without an action flags and
records; in short-circuit mode it holds its half-bridge off and records EV81, at once or at the end of the blanking
window, in which it only waits with EV82. Comparator and alarm flags clear under the same rule. A threshold check off
by more than 4 LSB is EV87. Each clause concludes that exec answers the next state it describes, under hypotheses on
the state and the operands alone. -/
def Obligations.Protection : Prop :=
  (∀ (trip : Fin 8) (h : Nat) (s : State), s.configured = true → on (Reg.PRT_TCFG trip) Reg.PRT_TCFG_EN s = true
      → bitAt Reg.PRT_TFLAG trip s = false → h < 104 → tripMask trip h s = true → hbUsed h s = true → ∃ t, exec
      (.tripInputAssert trip) s = .next t ∧ hbState h t ≠ 0 ∧ (hbCause h t).testBit 1 = true ∧ on (Reg.PGN_HSTAT h)
      Reg.PGN_HSTAT_HION t = false ∧ on (Reg.PGN_HSTAT h) Reg.PGN_HSTAT_LOON t = false ∧ bitAt Reg.PRT_TFLAG trip t
      = true ∧ bitAt Reg.PRT_TLEVEL trip t = true ∧ recorded 80 (match fl (Reg.PRT_TCFG trip) Reg.PRT_TCFG_TGRADE s
      with | 0 => 0 | 1 => 3 | _ => 5) trip none s t ∧ t.mem = s.mem)
  ∧ (∀ (trip : Fin 8) (s : State), s.configured = true → on (Reg.PRT_TCFG trip) Reg.PRT_TCFG_EN s = true → bitAt
      Reg.PRT_TFLAG trip s = true → exec (.tripInputAssert trip) s = .next (setBitAt Reg.PRT_TLEVEL trip true s))
  ∧ (∀ (trip : Fin 8) (s : State), stores s = true → bitAt Reg.PRT_TFLAG trip s = true → ∃ t, exec (.tripClear trip
      false) s = .next t ∧ bitAt Reg.PRT_TFLAG trip t = false ∧ bitAt Reg.PRT_TLEVEL trip t = false ∧ recorded 85 0
      trip none s t ∧ (∀ h : Fin 104, hbUsed h s = true → tripHeld h t = false → (hbCause h t).testBit 1 = false)
      ∧ t.mem = s.mem)
  ∧ (∀ (trip : Fin 8) (s : State), stores s = true → bitAt Reg.PRT_TFLAG trip s = true → ∃ t, exec (.tripClear trip
      true) s = .next t ∧ bitAt Reg.PRT_TFLAG trip t = true ∧ recorded 84 0 trip none s t ∧ fl Reg.PRT_REFUSE
      Reg.PRT_REFUSE_KIND t = 1 ∧ fl Reg.PRT_REFUSE Reg.PRT_REFUSE_INDEX t = trip ∧ t.hb = s.hb ∧ t.mem = s.mem)
  ∧ (∀ (cmp : Fin 48) (s : State), s.configured = true → cmpRetired cmp s = false → cmpMode cmp s = cmpWindow → cmpAct
      cmp s = 0 → ∃ t, exec (.comparatorAssert cmp) s = .next t ∧ cflag cmp t = true ∧ on (Reg.PRT_CSTAT cmp)
      Reg.PRT_CSTAT_OUT t = true ∧ recorded 81 0 cmp none s t ∧ t.hb = s.hb ∧ t.mem = s.mem)
  ∧ (∀ (cmp : Fin 48) (h : Nat) (s : State), s.configured = true → cmpRetired cmp s = false → cmpMode cmp s = cmpSc → h
      = cmpHb cmp s → h < 104 → hbUsed h s = true → blanked cmp s = false → ∃ t, exec (.comparatorAssert cmp) s = .next
      t ∧ cflag cmp t = true ∧ recorded 81 (if fl Reg.PRT_SCCFG Reg.PRT_SCCFG_SCGRADE s = 0 then 2 else if fl
      Reg.PRT_SCCFG Reg.PRT_SCCFG_SCGRADE s = 1 then 3 else 5) cmp (some (hbStage h s)) s t ∧ hbState h t ≠ 0
      ∧ (hbCause h t).testBit 1 = true ∧ on (Reg.PGN_HSTAT h) Reg.PGN_HSTAT_HION t = false ∧ on (Reg.PGN_HSTAT h)
      Reg.PGN_HSTAT_LOON t = false ∧ t.mem = s.mem)
  ∧ (∀ (cmp : Fin 48) (s : State), s.configured = true → cmpRetired cmp s = false → cmpMode cmp s = cmpSc → blanked cmp
      s = true → on (Reg.PRT_CSTAT cmp) Reg.PRT_CSTAT_BLANKPEND s = false → ∃ t, exec (.comparatorAssert cmp) s = .next
      t ∧ on (Reg.PRT_CSTAT cmp) Reg.PRT_CSTAT_BLANKPEND t = true ∧ recorded 82 0 cmp none s t ∧ cflag cmp t = cflag
      cmp s ∧ t.hb = s.hb ∧ t.mem = s.mem)
  ∧ (∀ (cmp : Fin 48) (h : Nat) (s : State), s.configured = true → cmpRetired cmp s = false → cmpMode cmp s = cmpSc → h
      = cmpHb cmp s → h < 104 → hbUsed h s = true → on (Reg.PRT_CSTAT cmp) Reg.PRT_CSTAT_BLANKPEND s = true → blanked
      cmp s = false → ∃ t, exec (.blankingEnd cmp true) s = .next t ∧ cflag cmp t = true ∧ on (Reg.PRT_CSTAT cmp)
      Reg.PRT_CSTAT_BLANKPEND t = false ∧ recorded 81 (if fl Reg.PRT_SCCFG Reg.PRT_SCCFG_SCGRADE s = 0 then 2 else if
      fl Reg.PRT_SCCFG Reg.PRT_SCCFG_SCGRADE s = 1 then 3 else 5) cmp (some (hbStage h s)) s t ∧ hbState h t ≠ 0
      ∧ (hbCause h t).testBit 1 = true ∧ on (Reg.PGN_HSTAT h) Reg.PGN_HSTAT_HION t = false ∧ on (Reg.PGN_HSTAT h)
      Reg.PGN_HSTAT_LOON t = false ∧ t.mem = s.mem)
  ∧ (∀ (cmp : Fin 48) (s : State), s.configured = true → cmpRetired cmp s = false → on (Reg.PRT_CSTAT cmp)
      Reg.PRT_CSTAT_BLANKPEND s = true → blanked cmp s = false → ∃ t, exec (.blankingEnd cmp false) s = .next t ∧ on
      (Reg.PRT_CSTAT cmp) Reg.PRT_CSTAT_BLANKPEND t = false ∧ on (Reg.PRT_CSTAT cmp) Reg.PRT_CSTAT_OUT t = false
      ∧ cflag cmp t = cflag cmp s ∧ regsKept [Reg.PRT_CSTAT cmp] s t ∧ t = { s with regs := t.regs })
  ∧ (∀ (cmp : Fin 48) (s : State), stores s = true → cflag cmp s = true → ∃ t, exec (.comparatorFlagClear cmp false) s
      = .next t ∧ cflag cmp t = false ∧ recorded 85 0 (0x100 + cmp) none s t ∧ t.mem = s.mem)
  ∧ (∀ (cmp : Fin 48) (s : State), stores s = true → cflag cmp s = true → cmpRetired cmp s = false → ∃ t, exec
      (.comparatorFlagClear cmp true) s = .next t ∧ cflag cmp t = true ∧ recorded 84 0 (0x100 + cmp) none s t ∧ t.hb
      = s.hb ∧ t.mem = s.mem)
  ∧ (∀ (hb : Fin 96) (s : State), stores s = true → aflag hb s = true → (lnkOf (hb / 4) s).alm.testBit (hb % 4) = false
      → linkState (hb / 4) s = lkReady → ∃ t, exec (.alarmFlagClear hb) s = .next t ∧ aflag hb t = false ∧ recorded 85
      0 (0x200 + hb) none s t ∧ t.mem = s.mem)
  ∧ (∀ (hb : Fin 96) (s : State), stores s = true → aflag hb s = true → linkState (hb / 4) s ≠ lkReady → ∃ t, exec
      (.alarmFlagClear hb) s = .next t ∧ aflag hb t = true ∧ recorded 84 0 (0x200 + hb) none s t ∧ t.mem = s.mem)
  ∧ (∀ (cmp : Fin 48) (hi : Bool) (d d2 : Nat) (s : State), s.configured = true → s.prt.dacAt ≤ s.lt → cmpMode cmp s ≠
      0 → cmpRetired cmp s = false → 4 < d → ∃ t, exec (.dacCheck [(cmp, hi, d, d2)]) s = .next t ∧ recorded 87 1 (2
      * cmp + (if hi then 1 else 0)) none s t ∧ on (Reg.PRT_CEVT cmp) Reg.PRT_CEVT_DACFAIL t = true ∧ t.prt.dacAt
      = s.lt + 10 * ms ∧ t.mem = s.mem)
  ∧ (∀ (cmp : Fin 48) (hi : Bool) (d d2 : Nat) (s : State), s.configured = true → s.prt.dacAt ≤ s.lt → d ≤ 4 → exec
      (.dacCheck [(cmp, hi, d, d2)]) s = .next ({ s with prt := { s.prt with dacAt := s.lt + 10 * ms } }))
  ∧ (∀ (l : List (Fin 48 × Bool × Nat × Nat)) (s : State), (s.configured = false ∨ s.lt < s.prt.dacAt) → exec
      (.dacCheck l) s = .next s)

/-- While the ring has room and the event unit is not masked, the oldest record goes into its slot in four words and
nothing else is stored; while it is masked nothing happens. A pending loss count becomes one EV126 record when the
queue has room. A read index in range is taken, another one sets BADIDX. An accepted unlock unlocks its Stage with
EV15, a refused one says why and leaves it locked. A leak lowers its counter by 1. Each clause concludes that exec
answers the next state it describes, under hypotheses on the state and the operands alone. -/
def Obligations.EventUnitCommands : Prop :=
  (∀ (s : State), masked 10 s = true → exec .eventRingWrite s = .next s)
  ∧ (∀ (r : EvRec) (q : List EvRec) (a : Nat) (s : State), s.configured = true → masked 10 s = false → s.evt.queue = r
      :: q → (rd Reg.EVT_WIDX s + 2 ^ 32 - rd Reg.EVT_RIDX s) % 2 ^ 32 < ringSize s → a = rd Reg.EVT_RBASE s + 16 * (rd
      Reg.EVT_WIDX s % ringSize s) → ∃ t, exec .eventRingWrite s = .next t ∧ t.evt.queue = q ∧ rd Reg.EVT_WIDX t = (rd
      Reg.EVT_WIDX s + 1) % 2 ^ 32 ∧ ldN a 4 t = r.seq % 2 ^ 32 ∧ ldN (a + 4) 4 t = (r.source + (if r.tumble then 2 ^ 7
      else 0) + 2 ^ 8 * r.grade + (if r.stgv then 2 ^ 11 else 0) + 2 ^ 12 * r.stage + 2 ^ 16 * r.detail) % 2 ^ 32 ∧ ldN
      (a + 8) 4 t = (r.atf + 2 ^ 16 * (r.lt / 2 ^ 32 % 2 ^ 16)) % 2 ^ 32 ∧ ldN (a + 12) 4 t = r.lt % 2 ^ 32 ∧ (∀ b, b
      < a ∨ a + 16 ≤ b → ldB b t = ldB b s) ∧ regsKept [Reg.EVT_WIDX, Reg.EVT_STAT] s t)
  ∧ (∀ (f n : Nat) (s : State), s.configured = true → s.evt.pendLoss = some (f, n) → s.evt.queue.length < queueSize → ∃
      t, exec .lossRecordEnqueue s = .next t ∧ t.evt.queue = s.evt.queue ++ [lossRecord f n s] ∧ t.evt.pendLoss = none
      ∧ on Reg.EVT_STAT Reg.EVT_STAT_LOSSPEND t = false ∧ regsKept [Reg.EVT_STAT] s t ∧ t.mem = s.mem)
  ∧ (∀ (value : BitVec 32) (by_ : Fin 19) (s : State), mayStore Reg.EVT_RIDX by_ s = true → (rd Reg.EVT_WIDX s + 2 ^ 32
      - value.toNat) % 2 ^ 32 ≤ ringSize s → ∃ t, exec (.evtRidxWrite value by_) s = .next t ∧ rdW Reg.EVT_RIDX t
      = value ∧ regsKept [Reg.EVT_RIDX, Reg.EVT_STAT] s t ∧ t = { s with regs := t.regs })
  ∧ (∀ (value : BitVec 32) (by_ : Fin 19) (s : State), mayStore Reg.EVT_RIDX by_ s = true → ringSize s < (rd
      Reg.EVT_WIDX s + 2 ^ 32 - value.toNat) % 2 ^ 32 → ∃ t, exec (.evtRidxWrite value by_) s = .next t ∧ on
      Reg.EVT_EVT Reg.EVT_EVT_BADIDX t = true ∧ regsKept [Reg.EVT_EVT] s t ∧ t = { s with regs := t.regs })
  ∧ (∀ (value : BitVec 32) (by_ : Fin 19) (k : Nat) (s : State), mayStore Reg.EVT_UNLOCK by_ s = true → k = value.toNat
      % 4 → unlockCause value.toNat (endHold Reg.EVT_UNLOCK s) = 0 → ∃ t, exec (.stageUnlock value by_) s = .next t
      ∧ locked k t = false ∧ recorded 15 0 0 (some k) s t ∧ (∀ j, j < 4 → j ≠ k → locked j t = locked j s) ∧ t.mem
      = s.mem)
  ∧ (∀ (value : BitVec 32) (by_ : Fin 19) (k c : Nat) (s : State), mayStore Reg.EVT_UNLOCK by_ s = true → k
      = value.toNat % 4 → unlockCause value.toNat (endHold Reg.EVT_UNLOCK s) = c → c ≠ 0 → ∃ t, exec (.stageUnlock
      value by_) s = .next t ∧ (∀ j, j < 4 → locked j t = locked j s) ∧ recorded 15 0 (0x100 + c) (some k) s t ∧ on
      Reg.EVT_EVT Reg.EVT_EVT_UNLOCKREF t = true ∧ fl Reg.EVT_G5CAUSE Reg.EVT_G5CAUSE_REFUSE t = c ∧ t.mem = s.mem)
  ∧ (∀ (counter : BitVec 16) (k l o : Nat) (s : State), s.configured = true → k = (Tbl.get (0, 0, 0) s.evt.leaks
      counter.toNat).1 → (k + 1) * leakPeriod counter.toNat s ≤ nowF s - s.cc / fclk → ctrOf counter.toNat s = (l, o)
      → ∃ t, exec (.upsetCounterLeak counter) s = .next t ∧ ctrOf counter.toNat t = (l - 1, o) ∧ Tbl.get (0, 0, 0)
      t.evt.leaks counter.toNat = (k + 1, s.lt, min l 1) ∧ (∀ i, i ≠ counter.toNat → ctrOf i t = ctrOf i s)
      ∧ t.evt.queue = s.evt.queue ∧ t.mem = s.mem)

/-- A write of an RO register or a reserved address changes nothing; one of a CFG register only records EV0; an RW
register takes the bits it has; a 1 written to a W1C flag clears it unless the hardware sets it in the same FCLK, and
a 0 leaves it. A pair's value word is held without effect; a complement word that does not match it, or comes without
it, is EV1 and ends the hold; one that matches makes the pair take effect. Each clause concludes that exec answers the
next state it describes, under hypotheses on the state and the operands alone. -/
def Obligations.RegisterWrites : Prop :=
  (∀ (addr value : BitVec 32) (by_ : Fin 19) (s : State), (rowOf addr.toNat).map (fun r : RegRow => r.acc) = some
      Access.ro → exec (.registerWrite addr value by_) s = .next s)
  ∧ (∀ (addr value : BitVec 32) (by_ : Fin 19) (s : State), rowOf addr.toNat = none → isPair (addr.toNat - 4) = false
      → exec (.registerWrite addr value by_) s = .next s)
  ∧ (∀ (addr value : BitVec 32) (by_ : Fin 19) (m : Nat) (s : State), mayStore addr.toNat by_ s = true → (rowOf
      addr.toNat).map (fun r : RegRow => (r.acc, r.mask)) = some (Access.cfg, m) → ∃ t, exec (.registerWrite addr value
      by_) s = .next t ∧ recorded 0 0 0 none s t ∧ rdW addr.toNat t = rdW addr.toNat s ∧ t.mem = s.mem)
  ∧ (∀ (addr value : BitVec 32) (by_ : Fin 19) (m : Nat) (s : State), mayStore addr.toNat by_ s = true → (rowOf
      addr.toNat).map (fun r : RegRow => (r.acc, r.mask)) = some (Access.rw, m) → addr.toNat / 2 ^ 16 ∈ [0x4002,
      0x400A, 0x400D] → addr.toNat ≠ Reg.TCK_RIDX → exec (.registerWrite addr value by_) s = .next (wr addr.toNat
      (value.toNat &&& m) s))
  ∧ (∀ (addr value hw : BitVec 32) (by_ : Fin 19) (m : Nat) (s : State), mayStore addr.toNat by_ s = true → (rowOf
      addr.toNat).map (fun r : RegRow => (r.acc, r.mask)) = some (Access.w1c, m) → addr.toNat / 2 ^ 16 ∉ [0x4007,
      0x4009, 0x400B] → ∃ t, exec (.w1cWrite addr value hw by_) s = .next t ∧ (∀ k, k < 32 → (rdW addr.toNat t).getLsbD
      k = ((rdW addr.toNat s).getLsbD k && !(value.getLsbD k && m.testBit k && !hw.getLsbD k))) ∧ regsKept [addr.toNat]
      s t ∧ t = { s with regs := t.regs })
  ∧ (∀ (addr value : BitVec 32) (by_ : Fin 19) (m : Nat) (s : State), mayStore addr.toNat by_ s = true → (rowOf
      addr.toNat).map (fun r : RegRow => (r.acc, r.mask)) = some (Access.pw, m) → exec (.pwValueWordWrite addr value
      by_) s = .next ({ s with pwHeld := Tbl.put addr.toNat (some value) s.pwHeld }))
  ∧ (∀ (addr value : BitVec 32) (by_ : Fin 19) (a : Nat) (s : State), addr.toNat = a + 4 → isPair a = true → rowOf
      addr.toNat = none → mayStore addr.toNat by_ s = true → Tbl.get none s.pwHeld a = some (~~~ value) → exec
      (.pwComplementWordWrite addr value by_) s = .next (pairTake a (~~~ value) by_ (endHold a s)))
  ∧ (∀ (addr value : BitVec 32) (by_ : Fin 19) (a : Nat) (s : State), addr.toNat = a + 4 → isPair a = true → rowOf
      addr.toNat = none → mayStore addr.toNat by_ s = true → Tbl.get none s.pwHeld a ≠ some (~~~ value) → ∃ t, exec
      (.pwComplementWordWrite addr value by_) s = .next t ∧ recorded 1 1 (a % 2 ^ 16) none s t ∧ Tbl.get none t.pwHeld
      a = none ∧ rdW a t = rdW a s ∧ t.mem = s.mem)
  ∧ (∀ (addr value : BitVec 32) (by_ : Fin 19) (c : Fin 64) (s : State), addr.toNat = Reg.HMP_CTRIM c + 4 → rowOf
      addr.toNat = none → mayStore addr.toNat by_ s = true → Tbl.get none s.pwHeld (Reg.HMP_CTRIM c) = some (~~~ value)
      → ∃ t, exec (.pwComplementWordWrite addr value by_) s = .next t ∧ rd (Reg.HMP_CTRIM c) t = (~~~ value).toNat % 2
      ^ 24 ∧ Tbl.get none t.pwHeld (Reg.HMP_CTRIM c) = none ∧ t.mem = s.mem)

/-- When the pair link comes up in WAIT, a unit whose peer is ACTIVE enters SYNCING with no pulses; else the primary
becomes ACTIVE with epoch max(own, peer) + 1 and the secondary enters SYNCING; after 10 ms without a link the unit
stays in WAIT. SYNCING goes to STANDBY after 16 copies in a row. A STANDBY unit with an accepted grant enters TAKING
at the next firing, with the copied epoch + 1, H one outer tick ahead, and EV123. A hand-back is asked, answered with
H, and taken with EV124. At H a TAKING unit is ACTIVE and the former active SYNCING. REQUEST on an ACTIVE unit with a
healthy peer stops REF_ALIVE, and else sets GRANTREF; INHIBIT and PERMIT set and clear HBINH. Each clause concludes
that exec answers the next state it describes, under hypotheses on the state and the operands alone. -/
def Obligations.PairRoles : Prop :=
  (∀ (prole : BitVec 3) (pepoch : BitVec 32) (s : State), s.configured = true → paired s = true → s.par.laneRet % 4 ≠ 3
      → roleOf s = roleWait → prole.toNat = roleActive → ∃ t, exec (.pairLinkUp prole pepoch) s = .next t ∧ roleOf t
      = roleSyncing ∧ (∀ st : Fin 4, pulsesOn st t = false) ∧ on Reg.PAR_STAT Reg.PAR_STAT_PLINK t = true ∧ fl
      Reg.PAR_STAT Reg.PAR_STAT_PROLE t = prole.toNat ∧ t.mem = s.mem)
  ∧ (∀ (prole : BitVec 3) (pepoch : BitVec 32) (s : State), s.configured = true → paired s = true → s.par.laneRet % 4 ≠
      3 → roleOf s = roleWait → prole.toNat ≠ roleActive → s.par.waitOut = false → isPrimary s = true → ∃ t, exec
      (.pairLinkUp prole pepoch) s = .next t ∧ roleOf t = roleActive ∧ rd Reg.PAR_EPOCH t = (max (rd Reg.PAR_EPOCH s)
      pepoch.toNat + 1) % 2 ^ 32 ∧ on Reg.PAR_STAT Reg.PAR_STAT_PLINK t = true ∧ fl Reg.PAR_STAT Reg.PAR_STAT_PROLE t
      = prole.toNat ∧ t.mem = s.mem)
  ∧ (∀ (prole : BitVec 3) (pepoch : BitVec 32) (s : State), s.configured = true → paired s = true → s.par.laneRet % 4 ≠
      3 → roleOf s = roleWait → prole.toNat ≠ roleActive → s.par.waitOut = false → isPrimary s = false → ∃ t, exec
      (.pairLinkUp prole pepoch) s = .next t ∧ roleOf t = roleSyncing ∧ (∀ st : Fin 4, pulsesOn st t = false) ∧ on
      Reg.PAR_STAT Reg.PAR_STAT_PLINK t = true ∧ fl Reg.PAR_STAT Reg.PAR_STAT_PROLE t = prole.toNat ∧ t.mem = s.mem)
  ∧ (∀ (prole : BitVec 3) (pepoch : BitVec 32) (s : State), s.configured = true → paired s = true → s.par.laneRet % 4 ≠
      3 → roleOf s = roleWait → prole.toNat ≠ roleActive → s.par.waitOut = true → ∃ t, exec (.pairLinkUp prole pepoch)
      s = .next t ∧ roleOf t = roleWait ∧ rd Reg.PAR_EPOCH t = rd Reg.PAR_EPOCH s ∧ on Reg.PAR_STAT Reg.PAR_STAT_PLINK
      t = true ∧ fl Reg.PAR_STAT Reg.PAR_STAT_PROLE t = prole.toNat ∧ t.mem = s.mem)
  ∧ (∀ (s : State), s.configured = true → paired s = true → roleOf s = roleWait → on Reg.PAR_STAT Reg.PAR_STAT_PLINK s
      = false → s.cc + 10 * ms ≤ s.lt → exec .pairWaitTimeout s = .next
      ({ s with par := { s.par with waitOut := true } }))
  ∧ (∀ (s : State), on Reg.PAR_STAT Reg.PAR_STAT_PLINK s = true → exec .pairWaitTimeout s = .next s)
  ∧ (∀ (s : State), paired s = true → roleOf s = roleSyncing → 16 ≤ s.par.run → ∃ t, exec .syncingToStandby s = .next t
      ∧ roleOf t = roleStandby ∧ regsKept [Reg.PAR_STAT] s t ∧ t = { s with regs := t.regs, out := t.out })
  ∧ (∀ (slot : Fin 4096) (gpi : BitVec 32) (bad : List (BitVec 32)) (g : Nat) (e : Nat) (s : State), tackReady slot
      actDrum s = true → paired s = true → roleOf s = roleStandby → s.par.grant = some g → g < nowF s → s.par.firedAt ≠
      some (nowF s) → s.par.copyEpoch = some e → s.lt + outerEu s < 2 ^ 64 → ∃ t, exec (.takeoverEnter slot gpi bad) s
      = .next t ∧ roleOf t = roleTaking ∧ rd Reg.PAR_EPOCH t = (e + 1) % 2 ^ 32 ∧ handOf t = s.lt + outerEu s
      ∧ t.par.grant = none ∧ on Reg.PAR_EVT Reg.PAR_EVT_TAKEOVER t = true ∧ recorded 123 0 ((e + 1) % 2 ^ 32 % 2 ^ 16)
      none s t)
  ∧ (∀ (s : State), s.configured = true → paired s = true → handOf s ≤ s.lt → roleOf s = roleTaking → ∃ t, exec
      .handoffReached s = .next t ∧ roleOf t = roleActive ∧ t.par.handback = false ∧ (s.par.handback = true → on
      Reg.PAR_STAT Reg.PAR_STAT_HBPEND t = false ∧ on Reg.PAR_EVT Reg.PAR_EVT_HANDBACK t = true) ∧ regsKept
      [Reg.PAR_STAT, Reg.PAR_EVT] s t ∧ t.mem = s.mem)
  ∧ (∀ (s : State), s.configured = true → paired s = true → handOf s ≤ s.lt → roleOf s = roleActive → s.par.answered
      = true → ∃ t, exec .handoffReached s = .next t ∧ roleOf t = roleSyncing ∧ t.par.answered = false ∧ (∀ st : Fin 4,
      pulsesOn st t = false) ∧ on Reg.PAR_STAT Reg.PAR_STAT_HBPEND t = false ∧ on Reg.PAR_EVT Reg.PAR_EVT_HANDBACK t
      = true ∧ t.mem = s.mem)
  ∧ (∀ (s : State), s.lt < handOf s → exec .handoffReached s = .next s)
  ∧ (∀ (b : Nat) (s : State), s.configured = true → paired s = true → isPrimary s = true → roleOf s = roleStandby
      → healthy s = true → handbackOn s = true → s.par.since = some b → b + 1000 * ms * fl Reg.PAR_CFG
      Reg.PAR_CFG_THBACK s ≤ s.lt → s.par.grant = none → exec .handbackRequest s = .next (pairFrame 6 0 0 [] (setB
      Reg.PAR_STAT Reg.PAR_STAT_HBPEND true (setPar (fun p : ParSt => { p with since := some s.lt }) s))))
  ∧ (∀ (s : State), healthy s = false → exec .handbackRequest s = .next s)
  ∧ (∀ (s : State), s.configured = true → paired s = true → roleOf s = roleActive → handbackOn s = true
      → s.par.answered = false → handbackAt s < 2 ^ 64 → ∃ t, exec .hbreqReceive s = .next t ∧ handOf t = handbackAt s
      ∧ t.par.answered = true ∧ on Reg.PAR_STAT Reg.PAR_STAT_HBPEND t = true ∧ roleOf t = roleActive ∧ regsKept
      [Reg.PAR_HAND_LO, Reg.PAR_HAND_HI, Reg.PAR_STAT] s t ∧ t.mem = s.mem)
  ∧ (∀ (s : State), roleOf s ≠ roleActive → exec .hbreqReceive s = .next s)
  ∧ (∀ (h : BitVec 64) (e : Nat) (s : State), s.configured = true → paired s = true → isPrimary s = true → roleOf s
      = roleStandby → s.par.grant = none → on Reg.PAR_STAT Reg.PAR_STAT_HBPEND s = true → handbackOn s = true
      → s.par.copyEpoch = some e → ∃ t, exec (.hbackReceive h) s = .next t ∧ roleOf t = roleTaking ∧ handOf t = h.toNat
      ∧ rd Reg.PAR_EPOCH t = (e + 1) % 2 ^ 32 ∧ t.par.handback = true ∧ recorded 124 0 ((e + 1) % 2 ^ 32 % 2 ^ 16) none
      s t ∧ t.mem = s.mem)
  ∧ (∀ (by_ : Fin 19) (s : State), mayStore Reg.PAR_CMD by_ s = true → s.evt.mism = [] → roleOf s = roleActive → on
      Reg.PAR_STAT Reg.PAR_STAT_PHEALTHY s = true → ∃ t, exec (.pairCmdRequest by_) s = .next t ∧ t.par.aliveStop
      = true ∧ regsKept [] s t ∧ t.evt = s.evt ∧ t.mem = s.mem)
  ∧ (∀ (by_ : Fin 19) (s : State), mayStore Reg.PAR_CMD by_ s = true → s.evt.mism = [] → (roleOf s ≠ roleActive ∨ on
      Reg.PAR_STAT Reg.PAR_STAT_PHEALTHY s = false) → ∃ t, exec (.pairCmdRequest by_) s = .next t ∧ on Reg.PAR_EVT
      Reg.PAR_EVT_GRANTREF t = true ∧ regsKept [Reg.PAR_EVT] s t ∧ t.par = s.par ∧ t.mem = s.mem)
  ∧ (∀ (by_ : Fin 19) (s : State), mayStore Reg.PAR_CMD by_ s = true → s.evt.mism = [] → ∃ t, exec (.pairCmdInhibit
      by_) s = .next t ∧ on Reg.PAR_STAT Reg.PAR_STAT_HBINH t = true ∧ handbackOn t = false ∧ regsKept [Reg.PAR_STAT] s
      t ∧ t.par = s.par ∧ t.mem = s.mem)
  ∧ (∀ (by_ : Fin 19) (s : State), mayStore Reg.PAR_CMD by_ s = true → s.evt.mism = [] → ∃ t, exec (.pairCmdPermit by_)
      s = .next t ∧ on Reg.PAR_STAT Reg.PAR_STAT_HBINH t = false ∧ handbackOn t = on Reg.PAR_CFG Reg.PAR_CFG_HBEN s
      ∧ regsKept [Reg.PAR_STAT] s t ∧ t.par = s.par ∧ t.mem = s.mem)

/-- At FCLK 480 of a firing an ACTIVE unit sends the next copy as 32 frames and a standby latches its own angle. A copy
with all 32 segments waits for installation; one with a segment missing keeps the last, sets COPYFAULT and is EV122
graded G1. A time exchange gives PAR_LTERR. A HEALTH frame gives the peer's word and role; one with a newer epoch,
like such an AUTH, fences an ACTIVE unit with EV125, DETAIL 0x200. Of two TAKING units with one epoch the one that is
not the primary is fenced by the other's AUTH. A lane lost leaves PLINK to the other; overflow of its counter retires
it with EV122. A lane comes up again unless retired. The self-test bit is the outcome of the cycle. Each clause
concludes that exec answers the next state it describes, under hypotheses on the state and the operands alone. -/
def Obligations.PairCopiesAndHealth : Prop :=
  (∀ (s : State), paired s = true → s.par.snapped = false → s.par.firedAt = some (nowF s - 480) → 480 ≤ nowF s → roleOf
      s = roleActive → s.par.skip = false → masked 8 s = false → ∃ t, exec .pairSnapshot s = .next t ∧ rd
      Reg.PAR_COPYNO t = (rd Reg.PAR_COPYNO s + 1) % 2 ^ 32 ∧ t.par.snapped = true ∧ t.par.journal = s.par.journal.drop
      4 ∧ t.par.skip = on Reg.PAR_STAT Reg.PAR_STAT_ONELANE s ∧ (on Reg.PAR_STAT Reg.PAR_STAT_PLINK s = true
      → t.par.tx.length = s.par.tx.length + 32) ∧ regsKept [Reg.PAR_COPYNO, Reg.EVT_NSEQ, Reg.EVT_STAT] s t ∧ t.mem
      = s.mem)
  ∧ (∀ (st : Fin 4) (n : Fin 128) (s : State), paired s = true → s.par.snapped = false → s.par.firedAt = some (nowF s -
      480) → 480 ≤ nowF s → installs s = true → ∃ t, exec .pairSnapshot s = .next t ∧ (t.par.own.head?).map (fun o :
      OwnSnap => (o.lt, Tbl.get 0 o.phase st, Tbl.get [0, 0, 0] o.y n)) = some (s.lt, (bobOf st s).phase, (doneHist n
      s).2) ∧ t.par.snapped = true ∧ t = { s with par := t.par })
  ∧ (∀ (s : State), s.par.snapped = true → exec .pairSnapshot s = .next s)
  ∧ (∀ (epoch : BitVec 32) (segs : List (Fin 32 × List (BitVec 8))) (s : State), s.configured = true → paired s = true
      → on Reg.PAR_STAT Reg.PAR_STAT_PLINK s = true → installs s = true → (∀ i : Fin 32, ((segs.find? (fun p : Fin 32 ×
      List (BitVec 8) => p.1 == i)).any (fun p : Fin 32 × List (BitVec 8) => p.2.length == 256)) = true) → ∃ t, exec
      (.copyFrameReceive epoch segs []) s = .next t ∧ t.par.good = min 16 (s.par.good + 1) ∧ t.par.ready.map (fun r :
      Copy × List Nat => r.1.epoch) = some epoch.toNat ∧ regsKept [] s t ∧ t = { s with par := t.par })
  ∧ (∀ (epoch : BitVec 32) (segs : List (Fin 32 × List (BitVec 8))) (i : Fin 32) (s : State), s.configured = true
      → paired s = true → on Reg.PAR_STAT Reg.PAR_STAT_PLINK s = true → installs s = true → segs.find? (fun p : Fin 32
      × List (BitVec 8) => p.1 == i) = none → ∃ t, exec (.copyFrameReceive epoch segs []) s = .next t ∧ t.par.good = 0
      ∧ t.par.ready = s.par.ready ∧ on Reg.PAR_EVT Reg.PAR_EVT_COPYFAULT t = true ∧ fl Reg.PAR_CNT ⟨0, 16⟩ t = min
      65535 (fl Reg.PAR_CNT ⟨0, 16⟩ s + 1) ∧ recorded 122 1 0 none s t ∧ t.mem = s.mem)
  ∧ (∀ (epoch : BitVec 32) (segs : List (Fin 32 × List (BitVec 8))) (s : State), installs s = false → exec
      (.copyFrameReceive epoch segs []) s = .next s)
  ∧ (∀ (t1 t2 t3 t4 : BitVec 64) (s : State), s.configured = true → paired s = true → on Reg.PAR_STAT
      Reg.PAR_STAT_PLINK s = true → installs s = true → s.par.exch.all (fun t0 : Nat => decide (t0 + ms ≤ s.lt)) = true
      → ∃ t, exec (.pairTimeExchange t1 t2 t3 t4) s = .next t ∧ rdI Reg.PAR_LTERR t = satBits 32 (roundUp (((t2.toNat :
      Int) - t1.toNat) - ((t4.toNat : Int) - t3.toNat) - signed 16 (rd Reg.PAR_ASYM s)) 2) ∧ t.par
      = { s.par with exch := some s.lt, tx := t.par.tx } ∧ t.par.tx.length = s.par.tx.length + 1 ∧ t.mem = s.mem)
  ∧ (∀ (epoch word : BitVec 32) (prole : BitVec 3) (s : State), s.configured = true → paired s = true → on Reg.PAR_STAT
      Reg.PAR_STAT_PLINK s = true → ∃ t, exec (.healthFrameReceive epoch word prole) s = .next t ∧ rd Reg.PAR_PHEALTH t
      = word.toNat ∧ on Reg.PAR_STAT Reg.PAR_STAT_PHEALTHY t = decide (word.toNat % 2 ^ 10 = 0x3FF) ∧ fl Reg.PAR_STAT
      Reg.PAR_STAT_PROLE t = prole.toNat ∧ (roleOf s ≠ roleActive → roleOf t = roleOf s) ∧ t.mem = s.mem)
  ∧ (∀ (epoch word : BitVec 32) (prole : BitVec 3) (s : State), s.configured = true → paired s = true → on Reg.PAR_STAT
      Reg.PAR_STAT_PLINK s = true → roleOf s = roleActive → s.par.answered = false → serialAfter epoch.toNat (rd
      Reg.PAR_EPOCH s) = true → ∃ t, exec (.healthFrameReceive epoch word prole) s = .next t ∧ roleOf t = roleFenced
      ∧ on Reg.PAR_EVT Reg.PAR_EVT_FENCED t = true ∧ recorded 125 0 0x200 none s t ∧ t.mem = s.mem)
  ∧ (∀ (epoch : BitVec 32) (s : State), s.configured = true → paired s = true → roleOf s = roleActive → s.par.answered
      = false → serialAfter epoch.toNat (rd Reg.PAR_EPOCH s) = true → ∃ t, exec (.authReceive epoch) s = .next t
      ∧ roleOf t = roleFenced ∧ on Reg.PAR_EVT Reg.PAR_EVT_FENCED t = true ∧ recorded 125 0 0x200 none s t ∧ t.mem
      = s.mem)
  ∧ (∀ (epoch : BitVec 32) (s : State), s.configured = true → paired s = true → roleOf s = roleActive → serialAfter
      epoch.toNat (rd Reg.PAR_EPOCH s) = false → ∃ t, exec (.authReceive epoch) s = .next t ∧ roleOf t = roleActive
      ∧ t.evt = s.evt ∧ t.regs = s.regs ∧ t.mem = s.mem)
  ∧ (∀ (epoch : BitVec 32) (s : State), s.configured = true → paired s = true → roleOf s = roleTaking → epoch.toNat
      = rd Reg.PAR_EPOCH s → isPrimary s = false → ∃ t, exec (.authReceive epoch) s = .next t ∧ roleOf t = roleFenced
      ∧ recorded 125 0 0x200 none s t ∧ t.mem = s.mem)
  ∧ (∀ (epoch : BitVec 32) (s : State), s.configured = true → paired s = true → roleOf s = roleTaking → epoch.toNat
      = rd Reg.PAR_EPOCH s → isPrimary s = true → ∃ t, exec (.authReceive epoch) s = .next t ∧ roleOf t = roleTaking
      ∧ t.evt = s.evt ∧ t.regs = s.regs)
  ∧ (∀ (l : Fin 2) (s : State), paired s = true → s.par.lanes.testBit l = true → ∃ t, exec (.pairLaneLoss l) s = .next
      t ∧ t.par.lanes.testBit l = false ∧ t.par.lanes.testBit (1 - l.val) = s.par.lanes.testBit (1 - l.val) ∧ on
      Reg.PAR_STAT Reg.PAR_STAT_PLINK t = s.par.lanes.testBit (1 - l.val) ∧ on Reg.PAR_STAT Reg.PAR_STAT_ONELANE t
      = s.par.lanes.testBit (1 - l.val) ∧ ((ctrNW (ctrId 15 l 2) s).1 ≤ (ctrOf (ctrId 15 l 2) s).1 + 1
      → t.par.laneRet.testBit l = true ∧ recorded 122 2 l none s t) ∧ ((ctrOf (ctrId 15 l 2) s).1 + 1 < (ctrNW (ctrId
      15 l 2) s).1 → t.par.laneRet = s.par.laneRet ∧ t.evt.queue = s.evt.queue) ∧ t.mem = s.mem)
  ∧ (∀ (l : Fin 2) (s : State), s.par.lanes.testBit l = false → exec (.pairLaneLoss l) s = .next s)
  ∧ (∀ (l : Fin 2) (s : State), s.configured = true → paired s = true → s.par.laneRet.testBit l = false → ∃ t, exec
      (.pairLaneUp l) s = .next t ∧ t.par.lanes.testBit l = true ∧ on Reg.PAR_STAT Reg.PAR_STAT_PLINK t = true ∧ on
      Reg.PAR_STAT Reg.PAR_STAT_ONELANE t = !(s.par.lanes.testBit (1 - l.val)) ∧ regsKept [Reg.PAR_STAT] s t ∧ t.mem
      = s.mem)
  ∧ (∀ (l : Fin 2) (s : State), s.par.laneRet.testBit l = true → exec (.pairLaneUp l) s = .next s)
  ∧ (∀ (ok : Bool) (s : State), s.configured = true → paired s = true → exec (.selfTestCycleComplete ok [] []) s
      = .next
      ({ s with par := { s.par with selftest := ok && checkOverflows s == s.par.overflows, overflows := checkOverflows s } }))
  ∧ (∀ (ok : Bool) (ue : List (Fin 3 × BitVec 32)) (s : State), s.configured = true → paired s = true → ue ≠ [] → ∃ t,
      exec (.selfTestCycleComplete ok [] ue) s = .next t ∧ t.par.selftest = false ∧ on Reg.MEM_EVT Reg.MEM_EVT_UE t
      = true ∧ t.mem = s.mem)

/-- A grant on a path that REFSRC selects is accepted by a STANDBY unit that is HEALTHY, and by a HEALTHY unit in WAIT
whose link never came up: it waits for the next firing and cancels a pending hand-back request. Any other sets
GRANTREF and is EV125 with DETAIL 0x100; a path not selected does nothing. A REFEREE frame of KIND 2 is a grant when
its unit and epoch match. A referee notes what HEALTH frames of its pairs say, and gives a grant that is due once per
epoch. Each clause concludes that exec answers the next state it describes, under hypotheses on the state and the
operands alone. -/
def Obligations.RefereeAndGrants : Prop :=
  (∀ (s : State), s.configured = true → paired s = true → refAccepts 0 s = true → roleOf s = roleStandby → healthy s
      = true → exec .refGrantInput s = .next (setB Reg.PAR_STAT Reg.PAR_STAT_HBPEND false
      { s with par := { s.par with grant := some (s.par.grant.getD (nowF s)) } }))
  ∧ (∀ (s : State), s.configured = true → paired s = true → refAccepts 0 s = true → roleOf s = roleWait → s.par.waitOut
      = true → on Reg.PAR_STAT Reg.PAR_STAT_PLINK s = false → healthy s = true → exec .refGrantInput s = .next (setB
      Reg.PAR_STAT Reg.PAR_STAT_HBPEND false
      { s with par := { s.par with grant := some (s.par.grant.getD (nowF s)) } }))
  ∧ (∀ (s : State), s.configured = true → paired s = true → refAccepts 0 s = true → roleOf s ≠ roleTaking → (roleOf s ≠
      roleStandby ∨ healthy s = false) → (roleOf s ≠ roleWait ∨ healthy s = false ∨ s.par.waitOut = false) → ∃ t, exec
      .refGrantInput s = .next t ∧ on Reg.PAR_EVT Reg.PAR_EVT_GRANTREF t = true ∧ recorded 125 0 0x100 none s t ∧ t.par
      = s.par ∧ roleOf t = roleOf s ∧ t.mem = s.mem)
  ∧ (∀ (s : State), refAccepts 0 s = false → exec .refGrantInput s = .next s)
  ∧ (∀ (port : Fin 4) (tag : FrameTag) (dstk : Fin 4) (src dst : BitVec 18) (seq : BitVec 32) (epoch : BitVec 16) (cts
      : BitVec 28) (data : List (BitVec 8)) (f : Frame) (n : Nat) (s : State), f = frameOf port 9 tag dstk src dst seq
      epoch cts data s → urgentNew f n s = true → paired s = true → refAccepts 1 s = true → be f.data 0 1 = 2 → be
      f.data 1 1 = fl Reg.PAR_CFG Reg.PAR_CFG_UNIT s → be f.data 8 4 = rd Reg.PAR_EPOCH s → roleOf s = roleStandby
      → healthy s = true → ∃ t, exec (.refereeFrameReceive port tag dstk src dst seq epoch cts data) s = .next t
      ∧ t.par.grant = some (s.par.grant.getD (nowF s)) ∧ on Reg.PAR_STAT Reg.PAR_STAT_HBPEND t = false ∧ t.mem = s.mem
      ∧ t.evt = s.evt)
  ∧ (∀ (port : Fin 4) (tag : FrameTag) (dstk : Fin 4) (src dst : BitVec 18) (seq : BitVec 32) (epoch : BitVec 16) (cts
      : BitVec 28) (data : List (BitVec 8)) (f : Frame) (n : Nat) (s : State), f = frameOf port 9 tag dstk src dst seq
      epoch cts data s → urgentNew f n s = true → be f.data 0 1 = 2 → be f.data 8 4 ≠ rd Reg.PAR_EPOCH s → ∃ t, exec
      (.refereeFrameReceive port tag dstk src dst seq epoch cts data) s = .next t ∧ t.regs = s.regs ∧ t.par = s.par
      ∧ t.evt = s.evt ∧ t.mem = s.mem)
  ∧ (∀ (port : Fin 4) (tag : FrameTag) (dstk : Fin 4) (src dst : BitVec 18) (seq : BitVec 32) (epoch : BitVec 16) (cts
      : BitVec 28) (data : List (BitVec 8)) (f : Frame) (n : Nat) (i : Fin 16) (u : Nat) (s : State), f = frameOf port
      9 tag dstk src dst seq epoch cts data s → urgentNew f n s = true → be f.data 0 1 = 1 → u = be f.data 1 1 → u < 2
      → refereeOn i s = true → refAddr i s = src.toNat → ∃ t, exec (.refereeFrameReceive port tag dstk src dst seq
      epoch cts data) s = .next t ∧ (refUnit i u t).word = be f.data 4 4 ∧ (refUnit i u t).role = be f.data 2 1
      ∧ (refUnit i u t).epoch = be f.data 8 4 ∧ (refUnit i u t).cycle = some (cycleNow s) ∧ (refUnit i u t).req
      = (refUnit i u s).req ∧ bitAt (Reg.PAR_RSTAT i) (1 + u) t = decide (be f.data 4 4 % 2 ^ 10 = 0x3FF) ∧ t.mem
      = s.mem)
  ∧ (∀ (pair : Fin 16) (unit : Fin 2) (s : State), s.configured = true → grantDue pair unit s = true → ∃ t, exec
      (.refereeGrantIssue pair unit) s = .next t ∧ Tbl.get none t.par.granted pair = some (refUnit pair unit s).epoch
      ∧ grantDue pair unit t = false ∧ (refUnit pair (1 - unit.val) t).req = false ∧ fl (Reg.PAR_RSTAT pair) ⟨16, 16⟩ t
      = min 65535 (fl (Reg.PAR_RSTAT pair) ⟨16, 16⟩ s + 1) ∧ regsKept [Reg.PAR_RSTAT pair] s t ∧ t.mem = s.mem)
  ∧ (∀ (pair : Fin 16) (unit : Fin 2) (s : State), grantDue pair unit s = false → exec (.refereeGrantIssue pair unit) s
      = .next s)

/-- A READY stop function with an input open enters DEMAND; but for ESTOP1, the path of the channel turns off at once, and
channel A records EV88. ESTOP1 starts its delay and leaves the paths. Both inputs closed after both were open leave
DEMAND for READY or WAITRESET; after a partial reclose DEMAND stays. A hand opened ends actuation, and two hands
closed within 500 ms report it. A discrepancy is EV89, a failed test pulse EV90, and each locks out with EV92, both
paths off and every Stage with half-bridges locked. The delay's end turns the path off. A test pulse sets its output
low, once every TPPER, the first of SAFE_TPB TPPER / 2 after that of SAFE_TPA, and its end sets it high. Each clause
concludes that exec answers the next state it describes, under hypotheses on the state and the operands alone. -/
def Obligations.SafetyFunctions : Prop :=
  (∀ (ch : Fin 2) (n : Fin 8) (second : Bool) (s : State), countTaken ch n second s = true → stopFn ch n s = true
      → fnOf ch n s ≠ 2 → (pairOf ch n s).state = 0 → ∃ t, exec (.safetyInputOpen ch n second) s = .next t ∧ (pairOf ch
      n t).state = 1 ∧ (if second then (pairOf ch n t).b else (pairOf ch n t).a) = false ∧ (ch = 0 → on Reg.SAF_STAT
      Reg.SAF_STAT_PATHA t = false ∧ on Reg.SAF_STAT Reg.SAF_STAT_PATHB t = on Reg.SAF_STAT Reg.SAF_STAT_PATHB s ∧ on
      (Reg.SAF_PEVT n) Reg.SAF_PEVT_DEMAND t = true ∧ recorded 88 0 n none s t) ∧ (ch = 1 → on Reg.SAF_STAT
      Reg.SAF_STAT_PATHB t = false ∧ on Reg.SAF_STAT Reg.SAF_STAT_PATHA t = on Reg.SAF_STAT Reg.SAF_STAT_PATHA s) ∧ (ch
      = 0 → on Reg.SAF_STAT Reg.SAF_STAT_PATHA s = true → ∀ st : Fin 4, pulsesOn st t = false) ∧ t.mem = s.mem)
  ∧ (∀ (ch : Fin 2) (n : Fin 8) (second : Bool) (s : State), countTaken ch n second s = true → fnOf ch n s = 2
      → (pairOf ch n s).state = 0 → ∃ t, exec (.safetyInputOpen ch n second) s = .next t ∧ (pairOf ch n t).state = 1
      ∧ (pairOf ch n t).stop = some s.lt ∧ on Reg.SAF_STAT Reg.SAF_STAT_PATHA t = on Reg.SAF_STAT Reg.SAF_STAT_PATHA s
      ∧ on Reg.SAF_STAT Reg.SAF_STAT_PATHB t = on Reg.SAF_STAT Reg.SAF_STAT_PATHB s ∧ (ch = 0 → recorded 88 0 n none s
      t) ∧ t.hb = s.hb ∧ t.mem = s.mem)
  ∧ (∀ (ch : Fin 2) (n : Fin 8) (second : Bool) (s : State), countTaken ch n second s = true → stopFn ch n s = true
      → (pairOf ch n s).state ≠ 0 → ∃ t, exec (.safetyInputOpen ch n second) s = .next t ∧ (pairOf ch n t).state
      = (pairOf ch n s).state ∧ t.evt = s.evt ∧ on Reg.SAF_STAT Reg.SAF_STAT_PATHA t = on Reg.SAF_STAT
      Reg.SAF_STAT_PATHA s ∧ on Reg.SAF_STAT Reg.SAF_STAT_PATHB t = on Reg.SAF_STAT Reg.SAF_STAT_PATHB s ∧ t.hb = s.hb
      ∧ t.mem = s.mem)
  ∧ (∀ (ch : Fin 2) (n : Fin 8) (second : Bool) (s : State), countTaken ch n second s = true → handFn ch n s = true → ∃
      t, exec (.safetyInputOpen ch n second) s = .next t ∧ (pairOf ch (n.val / 2 * 2) t).thact = false ∧ t.evt = s.evt
      ∧ on Reg.SAF_STAT Reg.SAF_STAT_PATHA t = on Reg.SAF_STAT Reg.SAF_STAT_PATHA s ∧ on Reg.SAF_STAT
      Reg.SAF_STAT_PATHB t = on Reg.SAF_STAT Reg.SAF_STAT_PATHB s ∧ t.hb = s.hb ∧ t.mem = s.mem)
  ∧ (∀ (ch : Fin 2) (n : Fin 8) (second : Bool) (s : State), countTaken ch n second s = true → fnOf ch n s = 0 → ∃ t,
      exec (.safetyInputOpen ch n second) s = .next t ∧ (pairOf ch n t) = counted second false (pairOf ch n s) s
      ∧ t.evt = s.evt ∧ on Reg.SAF_STAT Reg.SAF_STAT_PATHA t = on Reg.SAF_STAT Reg.SAF_STAT_PATHA s ∧ on Reg.SAF_STAT
      Reg.SAF_STAT_PATHB t = on Reg.SAF_STAT Reg.SAF_STAT_PATHB s ∧ t.mem = s.mem)
  ∧ (∀ (ch : Fin 2) (n : Fin 8) (second : Bool) (s : State), fnOf ch n s ≠ 5 → s.saf.tpLow.testBit second.toNat = true
      → exec (.safetyInputOpen ch n second) s = .next s)
  ∧ (∀ (ch : Fin 2) (n : Fin 8) (second : Bool) (e : Nat) (s : State), fnOf ch n s ≠ 5 → s.saf.tpEnd.find? (fun p : Nat
      × Nat => p.1 == second.toNat) = some (second.toNat, e) → s.lt < e + tpsetEu s → exec (.safetyInputClosed ch n
      second) s = .next s)
  ∧ (∀ (ch : Fin 2) (n : Fin 8) (second : Bool) (s : State), filtered ch n second s = false → exec (.safetyInputClosed
      ch n second) s = .next s)
  ∧ (∀ (ch : Fin 2) (n : Fin 8) (second : Bool) (s : State), countTaken ch n second s = true → stopFn ch n s = true
      → (pairOf ch n s).state = 1 → (pairOf ch n s).both = true → ((if second then (pairOf ch n s).a else (pairOf ch n
      s).b) = true) → ∃ t, exec (.safetyInputClosed ch n second) s = .next t ∧ (pairOf ch n t).state = (if cfgFl ch
      (Reg.SAF_PCFG n) Reg.SAF_PCFG_RESET s = 0 then 2 else 0) ∧ bothClosed (pairOf ch n t) = true ∧ (cfgFl ch
      (Reg.SAF_PCFG n) Reg.SAF_PCFG_RESET s = 0 → on Reg.SAF_STAT Reg.SAF_STAT_PATHA t = on Reg.SAF_STAT
      Reg.SAF_STAT_PATHA s ∧ on Reg.SAF_STAT Reg.SAF_STAT_PATHB t = on Reg.SAF_STAT Reg.SAF_STAT_PATHB s) ∧ t.mem
      = s.mem)
  ∧ (∀ (ch : Fin 2) (n : Fin 8) (second : Bool) (s : State), countTaken ch n second s = true → stopFn ch n s = true
      → (pairOf ch n s).state = 1 → (pairOf ch n s).both = false → ∃ t, exec (.safetyInputClosed ch n second) s = .next
      t ∧ (pairOf ch n t).state = 1 ∧ t.evt = s.evt ∧ on Reg.SAF_STAT Reg.SAF_STAT_PATHA t = on Reg.SAF_STAT
      Reg.SAF_STAT_PATHA s ∧ on Reg.SAF_STAT Reg.SAF_STAT_PATHB t = on Reg.SAF_STAT Reg.SAF_STAT_PATHB s ∧ t.hb = s.hb
      ∧ t.mem = s.mem)
  ∧ (∀ (ch : Fin 2) (n : Fin 8) (second : Bool) (u : Nat) (s : State), countTaken ch n second s = true → armed s = true
      → lockedOut s = false → handFn ch n s = true → n.val % 2 = 0 → ((if second then (pairOf ch n s).a else (pairOf ch
      n s).b) = true) → (pairOf ch n s).act = none → (pairOf ch n s).rel = 3 → (pairOf ch (n.val + 1) s).act = some u
      → u ≤ s.lt → s.lt ≤ u + 500 * ms → ∃ t, exec (.safetyInputClosed ch n second) s = .next t ∧ (pairOf ch n t).thact
      = true ∧ (ch = 0 → on (Reg.SAF_PSTAT n) Reg.SAF_PSTAT_THACT t = true) ∧ t.evt = s.evt ∧ on Reg.SAF_STAT
      Reg.SAF_STAT_PATHA t = on Reg.SAF_STAT Reg.SAF_STAT_PATHA s ∧ on Reg.SAF_STAT Reg.SAF_STAT_PATHB t = on
      Reg.SAF_STAT Reg.SAF_STAT_PATHB s)
  ∧ (∀ (ch : Fin 2) (n : Fin 8) (second : Bool) (u : Nat) (s : State), countTaken ch n second s = true → handFn ch n s
      = true → n.val % 2 = 0 → (pairOf ch n s).act = none → (pairOf ch n s).thact = false → (pairOf ch (n.val + 1)
      s).act = some u → u + 500 * ms < s.lt → ∃ t, exec (.safetyInputClosed ch n second) s = .next t ∧ (pairOf ch n
      t).thact = false ∧ t.evt = s.evt ∧ on Reg.SAF_STAT Reg.SAF_STAT_PATHA t = on Reg.SAF_STAT Reg.SAF_STAT_PATHA s
      ∧ on Reg.SAF_STAT Reg.SAF_STAT_PATHB t = on Reg.SAF_STAT Reg.SAF_STAT_PATHB s)
  ∧ (∀ (ch : Fin 2) (n : Fin 8) (d : Nat) (s : State), safOn s = true → lockedOut s = false → (pairOf ch n s).disc
      = some d → elapsed ch d (tdiscEu ch n s) s = true → ∃ t, exec (.discrepancyTimeout ch n) s = .next t ∧ on
      (Reg.SAF_PEVT n) Reg.SAF_PEVT_DISC t = true ∧ recorded 89 0 n none s t ∧ lockedOut t = true ∧ rd Reg.SAF_LOCK t
      = 1 + 16 * n.val ∧ on Reg.SAF_STAT Reg.SAF_STAT_PATHA t = false ∧ on Reg.SAF_STAT Reg.SAF_STAT_PATHB t = false
      ∧ recorded 92 5 1 none s t ∧ (∀ st : Fin 4, hbsOf st s ≠ [] → locked st t = true) ∧ t.mem = s.mem)
  ∧ (∀ (ch : Fin 2) (n : Fin 8) (d : Nat) (s : State), (pairOf ch n s).disc = some d → elapsed ch d (tdiscEu ch n s) s
      = false → exec (.discrepancyTimeout ch n) s = .next s)
  ∧ (∀ (ch : Fin 2) (n : Fin 8) (d : Nat) (s : State), safOn s = true → (pairOf ch n s).stop = some d → elapsed ch d
      (tstopEu ch n s) s = true → stopFn ch n s = true → (pairOf ch n s).state ≠ 0 → ∃ t, exec (.estop1DelayExpiry ch
      n) s = .next t ∧ (pairOf ch n t).stop = none ∧ (ch = 0 → on Reg.SAF_STAT Reg.SAF_STAT_PATHA t = false ∧ on
      Reg.SAF_STAT Reg.SAF_STAT_PATHB t = on Reg.SAF_STAT Reg.SAF_STAT_PATHB s) ∧ (ch = 1 → on Reg.SAF_STAT
      Reg.SAF_STAT_PATHB t = false ∧ on Reg.SAF_STAT Reg.SAF_STAT_PATHA t = on Reg.SAF_STAT Reg.SAF_STAT_PATHA s)
      ∧ t.mem = s.mem)
  ∧ (∀ (ch : Fin 2) (n : Fin 8) (d : Nat) (s : State), safOn s = true → armed s = true → lockedOut s = false → (pairOf
      ch n s).stop = some d → elapsed ch d (tstopEu ch n s) s = true → (∀ m : Fin 8, stopFn ch m s = true → (pairOf ch
      m s).state = 0 ∧ (m ≠ n → (pairOf ch m s).stop = none)) → ∃ t, exec (.estop1DelayExpiry ch n) s = .next t
      ∧ (pairOf ch n t).stop = none ∧ (ch = 0 → on Reg.SAF_STAT Reg.SAF_STAT_PATHA t = true) ∧ (ch = 1 → on
      Reg.SAF_STAT Reg.SAF_STAT_PATHB t = true) ∧ t.mem = s.mem)
  ∧ (∀ (ch : Fin 2) (n : Fin 8) (s : State), (pairOf ch n s).stop = none → exec (.estop1DelayExpiry ch n) s = .next s)
  ∧ (∀ (o : Fin 2) (s : State), safOn s = true → s.saf.tpLow.testBit o = false → o = 0 → s.saf.tpAt.find? (fun p : Nat
      × Nat => p.1 == 0) = none → ∃ t, exec (.testPulseStart o) s = .next t ∧ t.saf.tpLow.testBit o = true ∧ Tbl.get 0
      t.saf.tpAt o = s.lt ∧ t.out = s.out ++ [Out.pin (tpName o) 0 0 s.lt] ∧ t = { s with saf := t.saf, out := t.out })
  ∧ (∀ (o : Fin 2) (x : Nat) (s : State), safOn s = true → s.saf.tpLow.testBit o = false → o = 0 → (s.saf.tpAt.find?
      (fun p : Nat × Nat => p.1 == 0)).map (fun p : Nat × Nat => p.2) = some x → x + tpperEu s ≤ s.lt → ∃ t, exec
      (.testPulseStart o) s = .next t ∧ t.saf.tpLow.testBit o = true ∧ Tbl.get 0 t.saf.tpAt o = s.lt ∧ t.out = s.out ++
      [Out.pin (tpName o) 0 0 s.lt] ∧ t = { s with saf := t.saf, out := t.out })
  ∧ (∀ (o : Fin 2) (x y : Nat) (s : State), safOn s = true → s.saf.tpLow.testBit o = false → o = 1 → (s.saf.tpAt.find?
      (fun p : Nat × Nat => p.1 == 1)).map (fun p : Nat × Nat => p.2) = some y → (s.saf.tpAt.find? (fun p : Nat × Nat
      => p.1 == 0)).map (fun p : Nat × Nat => p.2) = some x → x + tpperEu s / 2 ≤ s.lt → y < x + tpperEu s / 2 → ∃ t,
      exec (.testPulseStart o) s = .next t ∧ t.saf.tpLow.testBit o = true ∧ Tbl.get 0 t.saf.tpAt o = s.lt ∧ t.out
      = s.out ++ [Out.pin (tpName o) 0 0 s.lt] ∧ t = { s with saf := t.saf, out := t.out })
  ∧ (∀ (o : Fin 2) (x : Nat) (s : State), safOn s = true → s.saf.tpLow.testBit o = false → o = 1 → s.saf.tpAt.find?
      (fun p : Nat × Nat => p.1 == 1) = none → (s.saf.tpAt.find? (fun p : Nat × Nat => p.1 == 0)).map (fun p : Nat ×
      Nat => p.2) = some x → x + tpperEu s / 2 ≤ s.lt → ∃ t, exec (.testPulseStart o) s = .next t ∧ t.saf.tpLow.testBit
      o = true ∧ Tbl.get 0 t.saf.tpAt o = s.lt ∧ t.out = s.out ++ [Out.pin (tpName o) 0 0 s.lt] ∧ t
      = { s with saf := t.saf, out := t.out })
  ∧ (∀ (o : Fin 2) (s : State), s.saf.tpLow.testBit o = true → exec (.testPulseStart o) s = .next s)
  ∧ (∀ (o : Fin 2) (n : Fin 8) (s : State), safOn s = true → s.saf.tpLow.testBit o = true → Tbl.get 0 s.saf.tpAt o
      + tpwEu s ≤ s.lt → drivesTest s = true → n.val ∈ pulsePairs o s → ∃ t, exec (.testPulseEnd o 0) s = .next t
      ∧ t.saf.tpLow.testBit o = false ∧ Tbl.get 0 t.saf.tpEnd o = s.lt ∧ t.saf.pass.testBit (2 * n.val + o.val) = true
      ∧ t.out.length = s.out.length + 1 ∧ t = { s with saf := t.saf, out := t.out })
  ∧ (∀ (o : Fin 2) (n : Fin 8) (high : BitVec 8) (s : State), safOn s = true → lockedOut s = false
      → s.saf.tpLow.testBit o = true → Tbl.get 0 s.saf.tpAt o + tpwEu s ≤ s.lt → drivesTest s = true → n.val ∈
      pulsePairs o s → high.toNat = 2 ^ n.val → ∃ t, exec (.testPulseEnd o high) s = .next t ∧ t.saf.tpLow.testBit o
      = false ∧ t.saf.pass.testBit (2 * n.val + o.val) = false ∧ on (Reg.SAF_PEVT n) Reg.SAF_PEVT_TPFAULT t = true
      ∧ recorded 90 0 n none s t ∧ lockedOut t = true ∧ rd Reg.SAF_LOCK t = (tpCause n s) + 16 * n.val ∧ on
      Reg.SAF_STAT Reg.SAF_STAT_PATHA t = false ∧ on Reg.SAF_STAT Reg.SAF_STAT_PATHB t = false ∧ recorded 92 5 (tpCause
      n s) none s t ∧ (∀ st : Fin 4, hbsOf st s ≠ [] → locked st t = true) ∧ t.mem = s.mem)

/-- State words that differ nine times in a row, a heartbeat missing for 100 µs, and a clock off by more than 10 % lock
out with causes 4, 5 and 6. Feedback that is wrong at TFB, or for 1 ms, is EV94 and locks out with cause 3; a verified
turn-off restarts the proof count, whose end is EV94 with DETAIL 0x100 and nothing else. A reset that both channels
accept clears the lock-out, moves WAITRESET to READY and is EV93; a refused one is EV93 with DETAIL 0x100, a short
press nothing. Arming goes through with the checks, or locks out with cause 7. Path A off repeats OFF every 10 µs. A
JTAG instruction that drives outputs is accepted only in test mode while not armed. Each clause concludes that exec
answers the next state it describes, under hypotheses on the state and the operands alone. -/
def Obligations.SafetyChannelsAndReset : Prop :=
  (∀ (ch : Fin 2) (s : State), safOn s = true → wordDue ch s = true → s.saf.hbOut.testBit (1 - ch.val) ≠
      s.saf.hbIn.testBit ch → stateWord 0 s = stateWord 1 s → ∃ t, exec (.channelStateExchange ch) s = .next t
      ∧ Tbl.get 9 t.saf.mis ch = 0 ∧ Tbl.get 0 t.saf.beat ch = s.lt ∧ t.saf.beatBad.testBit ch = false ∧ t
      = { s with saf := t.saf })
  ∧ (∀ (ch : Fin 2) (s : State), safOn s = true → wordDue ch s = true → s.saf.hbOut.testBit (1 - ch.val) ≠
      s.saf.hbIn.testBit ch → stateWord 0 s ≠ stateWord 1 s → Tbl.get 0 s.saf.mis ch < 8 → ∃ t, exec
      (.channelStateExchange ch) s = .next t ∧ Tbl.get 0 t.saf.mis ch = Tbl.get 0 s.saf.mis ch + 1 ∧ Tbl.get 0
      t.saf.beat ch = s.lt ∧ t = { s with saf := t.saf })
  ∧ (∀ (ch : Fin 2) (s : State), safOn s = true → lockedOut s = false → wordDue ch s = true → stateWord 0 s ≠ stateWord
      1 s → Tbl.get 0 s.saf.mis ch = 8 → ∃ t, exec (.channelStateExchange ch) s = .next t ∧ lockedOut t = true ∧ rd
      Reg.SAF_LOCK t = 4 ∧ on Reg.SAF_STAT Reg.SAF_STAT_PATHA t = false ∧ on Reg.SAF_STAT Reg.SAF_STAT_PATHB t = false
      ∧ recorded 92 5 4 none s t ∧ (∀ st : Fin 4, hbsOf st s ≠ [] → locked st t = true) ∧ t.mem = s.mem)
  ∧ (∀ (ch : Fin 2) (s : State), wordDue ch s = false → exec (.channelStateExchange ch) s = .next s)
  ∧ (∀ (ch : Fin 2) (s : State), safOn s = true → lockedOut s = false → s.saf.beatBad.testBit ch = false → elapsed ch
      (max s.cc (Tbl.get s.cc s.saf.beat ch)) (100 * us) s = true → ∃ t, exec (.heartbeatTimeout ch) s = .next t
      ∧ t.saf.beatBad.testBit ch = true ∧ lockedOut t = true ∧ rd Reg.SAF_LOCK t = 5 ∧ on Reg.SAF_STAT
      Reg.SAF_STAT_PATHA t = false ∧ on Reg.SAF_STAT Reg.SAF_STAT_PATHB t = false ∧ recorded 92 5 5 none s t ∧ (∀ st :
      Fin 4, hbsOf st s ≠ [] → locked st t = true) ∧ t.mem = s.mem)
  ∧ (∀ (ch : Fin 2) (s : State), elapsed ch (max s.cc (Tbl.get s.cc s.saf.beat ch)) (100 * us) s = false → exec
      (.heartbeatTimeout ch) s = .next s)
  ∧ (∀ (ch : Fin 2) (ppm : BitVec 32) (s : State), safOn s = true → lockedOut s = false → elapsed ch (Tbl.get s.cc
      s.saf.clkAt ch) ms s = true → 100000 < ppm.toInt.natAbs → ∃ t, exec (.clockDeviationCheck ch ppm) s = .next t
      ∧ t.saf.clkBad.testBit ch = true ∧ lockedOut t = true ∧ rd Reg.SAF_LOCK t = 6 ∧ on Reg.SAF_STAT
      Reg.SAF_STAT_PATHA t = false ∧ on Reg.SAF_STAT Reg.SAF_STAT_PATHB t = false ∧ recorded 92 5 6 none s t ∧ (∀ st :
      Fin 4, hbsOf st s ≠ [] → locked st t = true) ∧ t.mem = s.mem)
  ∧ (∀ (ch : Fin 2) (ppm : BitVec 32) (s : State), safOn s = true → elapsed ch (Tbl.get s.cc s.saf.clkAt ch) ms s
      = true → ppm.toInt.natAbs ≤ 100000 → ∃ t, exec (.clockDeviationCheck ch ppm) s = .next t ∧ t.saf.clkBad.testBit
      ch = false ∧ t = { s with saf := t.saf })
  ∧ (∀ (d : Nat) (s : State), safOn s = true → lockedOut s = false → s.saf.fbPend = some d → elapsed 1 d (tfbEu s) s
      = true → fbRight s = false → ∃ t, exec .feedbackTimeout s = .next t ∧ recorded 94 0 (fbWrong s) none s t
      ∧ lockedOut t = true ∧ rd Reg.SAF_LOCK t = 3 ∧ on Reg.SAF_STAT Reg.SAF_STAT_PATHA t = false ∧ on Reg.SAF_STAT
      Reg.SAF_STAT_PATHB t = false ∧ recorded 92 5 3 none s t ∧ (∀ st : Fin 4, hbsOf st s ≠ [] → locked st t = true)
      ∧ t.mem = s.mem)
  ∧ (∀ (d : Nat) (s : State), safOn s = true → s.saf.fbPend = some d → elapsed 1 d (tfbEu s) s = true → fbRight s
      = true → on Reg.SAF_STAT Reg.SAF_STAT_PATHB s = true → exec .feedbackTimeout s = .next
      ({ s with saf := { s.saf with fbPend := none, fbDis := none } }))
  ∧ (∀ (d : Nat) (s : State), safOn s = true → s.saf.fbPend = some d → elapsed 1 d (tfbEu s) s = true → fbRight s
      = true → on Reg.SAF_STAT Reg.SAF_STAT_PATHB s = false → ∃ t, exec .feedbackTimeout s = .next t ∧ t.saf.fbPend
      = none ∧ t.saf.proofAt = s.lt ∧ rd Reg.SAF_PROOF t = 0 ∧ on Reg.SAF_STAT Reg.SAF_STAT_PROOFDUE t = false
      ∧ regsKept [Reg.SAF_PROOF, Reg.SAF_STAT] s t ∧ t.mem = s.mem ∧ t.evt = s.evt)
  ∧ (∀ (d : Nat) (s : State), safOn s = true → lockedOut s = false → s.saf.fbDis = some d → elapsed 1 d ms s = true → ∃
      t, exec .feedbackDisagreement s = .next t ∧ t.saf.fbDis = none ∧ recorded 94 0 (fbWrong s) none s t ∧ lockedOut t
      = true ∧ rd Reg.SAF_LOCK t = 3 ∧ on Reg.SAF_STAT Reg.SAF_STAT_PATHA t = false ∧ on Reg.SAF_STAT
      Reg.SAF_STAT_PATHB t = false ∧ recorded 92 5 3 none s t ∧ (∀ st : Fin 4, hbsOf st s ≠ [] → locked st t = true)
      ∧ t.mem = s.mem)
  ∧ (∀ (d : Nat) (s : State), s.saf.fbDis = some d → elapsed 1 d ms s = false → exec .feedbackDisagreement s = .next s)
  ∧ (∀ (h d : Nat) (s : State), safOn s = true → h = min 0xFFFF ((s.lt - s.saf.proofAt) / (3600000 * ms)) → d = rd
      Reg.SAF_PB s / 2 ^ 8 % 2 ^ 16 → d ≠ 0 → d ≤ h → on Reg.SAF_STAT Reg.SAF_STAT_PROOFDUE s = false → ∃ t, exec
      .proofDue s = .next t ∧ rd Reg.SAF_PROOF t = h ∧ on Reg.SAF_STAT Reg.SAF_STAT_PROOFDUE t = true ∧ recorded 94 0
      0x100 none s t ∧ lockedOut t = lockedOut s ∧ on Reg.SAF_STAT Reg.SAF_STAT_PATHA t = on Reg.SAF_STAT
      Reg.SAF_STAT_PATHA s ∧ on Reg.SAF_STAT Reg.SAF_STAT_PATHB t = on Reg.SAF_STAT Reg.SAF_STAT_PATHB s ∧ t.saf
      = s.saf ∧ t.mem = s.mem)
  ∧ (∀ (pa pb : BitVec 32) (s : State), safOn s = true → 100000 ≤ pa.toNat ∧ pa.toNat ≤ 2000000 → 100000 ≤ pb.toNat
      ∧ pb.toNat ≤ 2000000 → resetOk 0 s = true → resetOk 1 s = true → ∃ t, exec (.srstRelease pa pb) s = .next t
      ∧ lockedOut t = false ∧ rd Reg.SAF_LOCK t = 0 ∧ (∀ ch : Fin 2, ∀ n : Fin 8, (pairOf ch n s).state = 2 → (pairOf
      ch n t).state = 0) ∧ recorded 93 0 0 none s t ∧ on Reg.SAF_EVT Reg.SAF_EVT_RESET t = true ∧ (armed s = true → (∀
      ch : Fin 2, ∀ n : Fin 8, ((pairOf ch n s).state = 0 ∨ (pairOf ch n s).state = 2) ∧ (pairOf ch n s).stop = none)
      → on Reg.SAF_STAT Reg.SAF_STAT_PATHA t = true ∧ on Reg.SAF_STAT Reg.SAF_STAT_PATHB t = true) ∧ t.mem = s.mem)
  ∧ (∀ (pa pb : BitVec 32) (s : State), safOn s = true → 100000 ≤ pa.toNat ∧ pa.toNat ≤ 2000000 → (resetOk 0 s = false
      ∨ resetOk 1 s = false ∨ pb.toNat < 100000 ∨ 2000000 < pb.toNat) → ∃ t, exec (.srstRelease pa pb) s = .next t
      ∧ recorded 93 0 0x100 none s t ∧ on Reg.SAF_EVT Reg.SAF_EVT_RSTREF t = true ∧ lockedOut t = lockedOut s ∧ t.saf
      = s.saf ∧ on Reg.SAF_STAT Reg.SAF_STAT_PATHA t = on Reg.SAF_STAT Reg.SAF_STAT_PATHA s ∧ on Reg.SAF_STAT
      Reg.SAF_STAT_PATHB t = on Reg.SAF_STAT Reg.SAF_STAT_PATHB s ∧ t.hb = s.hb ∧ t.mem = s.mem)
  ∧ (∀ (pa pb : BitVec 32) (s : State), (pa.toNat < 100000 ∨ 2000000 < pa.toNat) → (pb.toNat < 100000 ∨ 2000000
      < pb.toNat) → exec (.srstRelease pa pb) s = .next s)
  ∧ (∀ (a : Nat) (s : State), s.saf.armAt = some a → safOn s = true → armed s = false → lockedOut s = false
      → copiesSame s = true → s.saf.armLow.isSome = true → (∀ n : Fin 8, safStop n s = true → armReady n s = true) → ∃
      t, exec (.safetyArmComplete true) s = .next t ∧ armed t = true ∧ t.saf.armAt = none ∧ (∀ ch : Fin 2, ∀ n : Fin 8,
      safStop n s = true → (pairOf ch n t).state = (if bitAt Reg.SAF_CFG 1 s then 2 else 0)) ∧ on Reg.TMB_STAT
      Reg.TMB_STAT_SAFLOCK t = true ∧ lockedOut t = false ∧ (bitAt Reg.SAF_CFG 1 s = false → (∀ ch : Fin 2, ∀ n : Fin
      8, (pairOf ch n s).stop = none) → on Reg.SAF_STAT Reg.SAF_STAT_PATHA t = true ∧ on Reg.SAF_STAT
      Reg.SAF_STAT_PATHB t = true) ∧ t.mem = s.mem)
  ∧ (∀ (a : Nat) (s : State), s.saf.armAt = some a → safOn s = true → armed s = false → lockedOut s = false → ∃ t, exec
      (.safetyArmComplete false) s = .next t ∧ armed t = false ∧ t.saf.differ = true ∧ lockedOut t = true ∧ rd
      Reg.SAF_LOCK t = 7 ∧ on Reg.SAF_STAT Reg.SAF_STAT_PATHA t = false ∧ on Reg.SAF_STAT Reg.SAF_STAT_PATHB t = false
      ∧ recorded 92 5 7 none s t ∧ (∀ st : Fin 4, hbsOf st s ≠ [] → locked st t = true) ∧ t.mem = s.mem)
  ∧ (∀ (a u : Nat) (n : Fin 8) (s : State), s.saf.armAt = some a → s.saf.armLow = some u → copiesSame s = true
      → safStop n s = true → armReady n s = false → s.lt < u + tpperEu s → exec (.safetyArmComplete true) s = .next s)
  ∧ (∀ (a u : Nat) (n : Fin 8) (s : State), s.saf.armAt = some a → safOn s = true → armed s = false → lockedOut s
      = false → copiesSame s = true → s.saf.armLow = some u → u + tpperEu s ≤ s.lt → safStop n s = true → bothClosed
      (pairOf 0 n s) = false → (∀ m : Fin 8, safStop m s = true → armReady m s = true ∨ bothClosed (pairOf 0 m s)
      = false ∨ bothClosed (pairOf 1 m s) = false) → ∃ t, exec (.safetyArmComplete true) s = .next t ∧ armed t = true
      ∧ (pairOf 0 n t).state = 1 ∧ lockedOut t = false ∧ t.mem = s.mem)
  ∧ (∀ (a : Nat) (s : State), s.saf.armAt = some a → safOn s = true → armed s = false → lockedOut s = false
      → copiesSame s = true → s.saf.armLow = none → elapsed 1 a (tfbEu s) s = true → ∃ t, exec (.safetyArmComplete
      true) s = .next t ∧ armed t = false ∧ lockedOut t = true ∧ rd Reg.SAF_LOCK t = 7 ∧ on Reg.SAF_STAT
      Reg.SAF_STAT_PATHA t = false ∧ on Reg.SAF_STAT Reg.SAF_STAT_PATHB t = false ∧ recorded 92 5 7 none s t ∧ (∀ st :
      Fin 4, hbsOf st s ≠ [] → locked st t = true) ∧ t.mem = s.mem)
  ∧ (∀ (s : State), safOn s = true → on Reg.SAF_STAT Reg.SAF_STAT_PATHA s = false → s.saf.offAt + 10 * us ≤ s.lt → ∃ t,
      exec .pathAOffRepeat s = .next t ∧ t.saf = { s.saf with offAt := s.lt } ∧ t
      = { s with saf := t.saf, lnk := t.lnk } ∧ (∀ n : Fin 24, linkUp n s = true → (lnkOf n t).offMask = (lnkOf n
      s).offMask ||| 15) ∧ (∀ n : Fin 24, linkUp n s = false → lnkOf n t = lnkOf n s))
  ∧ (∀ (s : State), on Reg.SAF_STAT Reg.SAF_STAT_PATHA s = true → exec .pathAOffRepeat s = .next s)
  ∧ (∀ (second : Bool) (d : Nat) (s : State), safOn s = true → s.saf.fbPend = some d → on Reg.SAF_STAT
      Reg.SAF_STAT_PATHB s = false → (on Reg.SAF_STAT (if second then Reg.SAF_STAT_FBA else Reg.SAF_STAT_FBB) s
      = false) → ∃ t, exec (.pathBFeedbackChange second false) s = .next t ∧ t.saf.fbPend = none ∧ t.saf.proofAt = s.lt
      ∧ rd Reg.SAF_PROOF t = 0 ∧ on Reg.SAF_STAT Reg.SAF_STAT_PROOFDUE t = false ∧ fbLow t = true ∧ regsKept
      [Reg.SAF_PROOF, Reg.SAF_STAT] s t ∧ t.mem = s.mem)
  ∧ (∀ (second level : Bool) (s : State), safOn s = true → s.saf.fbPend = none → s.saf.armAt = none → level ≠ on
      Reg.SAF_STAT Reg.SAF_STAT_PATHB s → ∃ t, exec (.pathBFeedbackChange second level) s = .next t ∧ t.saf.fbDis
      = some (s.saf.fbDis.getD s.lt) ∧ on Reg.SAF_STAT (if second then Reg.SAF_STAT_FBB else Reg.SAF_STAT_FBA) t
      = level ∧ regsKept [Reg.SAF_STAT] s t ∧ t = { s with regs := t.regs, saf := t.saf })
  ∧ (∀ (s : State), exec (.jtagTapReset false) s = .next ({ s with jtag := JtagSt.reset }))
  ∧ (∀ (s : State), exec (.jtagTapReset true) s = .next ({ s with jtag := { s.jtag with held := false } }))
  ∧ (∀ (i : JtagInstr) (s : State), s.jtag.held = false → (jtagDrives i = true → testMode s = true ∧ armed s = false)
      → exec (.jtagInstruction i) s = .next ({ s with jtag := { s.jtag with instr := i } }))
  ∧ (∀ (i : JtagInstr) (s : State), (s.jtag.held = true ∨ jtagDrives i = true ∧ (testMode s = false ∨ armed s = true))
      → exec (.jtagInstruction i) s = .next s)

/-- A write that reaches a TMB register with fields is taken, in the bits it has, when the image has enabled test mode and
the evaluator is not armed, but for the refused KIND of TMB_SLICE. Otherwise it leaves every register but those of the
event unit and is EV95. When the evaluator arms, TMB_CTL reads 0, no perturbation is active, and EV95 is recorded.
Each clause concludes that exec answers the next state it describes, under hypotheses on the state and the operands
alone. -/
def Obligations.TumbleWritesAndArming : Prop :=
  (∀ (addr value : BitVec 32) (by_ : Fin 19) (s : State), mayStore addr.toNat by_ s = true → tmbMask addr.toNat ≠ 0
      → testMode s = true → on Reg.SAF_STAT Reg.SAF_STAT_ARMED s = false → (addr.toNat = Reg.TMB_SLICE → value.toNat /
      2 ^ 5 % 4 ≠ 3) → ∃ t, exec (.tmbWrite addr value by_) s = .next t ∧ rd addr.toNat t = value.toNat &&& tmbMask
      addr.toNat ∧ on Reg.TMB_STAT Reg.TMB_STAT_ACTIVE t = (rd Reg.TMB_CTL t != 0) ∧ regsKept [addr.toNat,
      Reg.TMB_STAT] s t ∧ t = { s with regs := t.regs })
  ∧ (∀ (addr value : BitVec 32) (by_ : Fin 19) (s : State), mayStore addr.toNat by_ s = true → tmbMask addr.toNat ≠ 0
      → (testMode s = false ∨ on Reg.SAF_STAT Reg.SAF_STAT_ARMED s = true) → ∃ t, exec (.tmbWrite addr value by_) s
      = .next t ∧ recorded 95 0 0 none s t ∧ regsKept evtRegs s t ∧ t.mem = s.mem)
  ∧ (∀ (addr value : BitVec 32) (by_ : Fin 19) (s : State), mayStore addr.toNat by_ s = true → addr.toNat
      = Reg.TMB_SLICE → value.toNat / 2 ^ 5 % 4 = 3 → ∃ t, exec (.tmbWrite addr value by_) s = .next t ∧ recorded 95 0
      0 none s t ∧ regsKept evtRegs s t ∧ t.mem = s.mem)
  ∧ (∀ (same : Bool) (s : State), armed s = false → ∃ t, exec (.safetyArmComplete same) s = .next t ∧ (armed t = true
      → rd Reg.TMB_CTL t = 0 ∧ on Reg.TMB_STAT Reg.TMB_STAT_ACTIVE t = false ∧ on Reg.TMB_STAT Reg.TMB_STAT_SAFLOCK t
      = true ∧ recorded 95 0 0 none s t))

/-- From any LT, the next due point of a periodic LT slot is the first LT value t congruent to PHASE modulo 16 × PERIOD,
PERIOD counted in FCLK; after a firing the next one follows in the same way. A one-shot has PHASE as its single due
point whatever its PERIOD, and none after it. A periodic slot whose PHASE is not less than 16 × PERIOD is refused,
both from the program and in an image. -/
def Obligations.DuePointsOfLtSlots : Prop :=
  (∀ (x : Slot) (n p : Nat), slLt x = true → slOne x = false → p = 16 * slPeriod x → 0 < p →
    ∃ d, slotDueFrom x n = some d ∧ n ≤ d ∧ d % p = slPhase x % p ∧ ∀ e, n ≤ e → e % p = slPhase x % p → d ≤ e)
  ∧ (∀ (x : Slot) (n : Nat), slLt x = true → slOne x = true → slotDueFrom x n = some (slPhase x))
  ∧ (∀ (k d : Nat) (s : State), Tbl.get none s.tack.due k = some d →
    Tbl.get none (tackFired k s).tack.due k
      = if slOne (slotOf k s) then none else slotDueFrom (slotOf k s) (d + 1))
  ∧ (∀ (k by_ : Nat) (x : Slot) (s : State), slLt x = true → slOne x = false → 16 * slPeriod x ≤ slPhase x →
    writeCause k x by_ s ≠ 0 ∧ imageSlotBad k x s = true)

/-- G4 on a device that is not paired, or on an ACTIVE unit whose peer is not reported healthy by PAR_PHEALTH as last
received, is a G5 against every Stage: each is locked with its pulses disabled. On an ACTIVE unit it stops REF_ALIVE
and sends a REFEREE frame of KIND 3 on every cluster-role port. On another unit of a pair it clears HEALTHY and sends
nothing. A lockstep mismatch, graded G4, is recorded with grade 4. -/
def Obligations.GradeFourOfAnyDevice : Prop :=
  (∀ (c : Option Cause) (s : State) (st : Fin 4), paired s = false →
    locked st (gradeG4 c s) = true ∧ pulsesOn st (gradeG4 c s) = false)
  ∧ (∀ (c : Option Cause) (s : State) (st : Fin 4), paired s = true → roleOf s = roleActive →
    on Reg.PAR_STAT Reg.PAR_STAT_PHEALTHY s = false →
    locked st (gradeG4 c s) = true ∧ pulsesOn st (gradeG4 c s) = false)
  ∧ (∀ (c : Option Cause) (s : State), paired s = true → roleOf s = roleActive →
    (gradeG4 c s).par.aliveStop = true
      ∧ ∀ p, p < 4 → spanRole p s = 1 → ∃ h b, Out.span p 9 (h ++ 3 :: b) ∈ (gradeG4 c s).out ∧ h.length = 9)
  ∧ (∀ (c : Option Cause) (s : State), paired s = true → roleOf s ≠ roleActive →
    healthy (gradeG4 c s) = false ∧ (gradeG4 c s).out = s.out
      ∧ ∀ st : Fin 4, locked st (gradeG4 c s) = locked st s)
  ∧ (∀ s : State, s.configured = true → halted s = false →
    ∃ t, exec .lockstepMismatch s = .next t ∧ recorded 28 4 0 none s t)

/-- Whatever the event queue and the ring hold, a G3 raises n of its Stage and its cause is active, a G5 locks its Stage,
disables its pulses and holds its half-bridges, and a G4 on a device that is not paired locks every Stage. A write of
EVT_RIDX ahead of EVT_WIDX, or more than the ring size behind it, only sets BADIDX; any other is taken. -/
def Obligations.ReactionsSurviveLostRecords : Prop :=
  (∀ (st : Fin 4) (c : Cause) (s : State),
    fl (Reg.DRM_DERN st) ⟨0, 8⟩ (gradeG3 st (some c) s) = min 255 (fl (Reg.DRM_DERN st) ⟨0, 8⟩ s + 1)
      ∧ c ∈ g3Of st (gradeG3 st (some c) s)
      ∧ on (Reg.DRM_STAT st) Reg.DRM_STAT_DERCAUSE (gradeG3 st (some c) s) = true)
  ∧ (∀ (st : Fin 4) (c : Option Cause) (s : State),
    locked st (gradeG5 st c s) = true ∧ pulsesOn st (gradeG5 st c s) = false
      ∧ ∀ h, h ∈ hbsOf st s → hbState h (gradeG5 st c s) ≠ 0)
  ∧ (∀ (st : Fin 4) (c : Option Cause) (s : State), paired s = false → locked st (gradeG4 c s) = true)
  ∧ (∀ (value : BitVec 32) (by_ : Fin 19) (s : State), mayStore Reg.EVT_RIDX by_ s = true →
    (ringSize s < (rd Reg.EVT_WIDX s + 2 ^ 32 - value.toNat) % 2 ^ 32 →
      ∃ t, exec (.evtRidxWrite value by_) s = .next t ∧ on Reg.EVT_EVT Reg.EVT_EVT_BADIDX t = true
        ∧ regsKept [Reg.EVT_EVT] s t ∧ t = { s with regs := t.regs })
    ∧ ((rd Reg.EVT_WIDX s + 2 ^ 32 - value.toNat) % 2 ^ 32 ≤ ringSize s →
      ∃ t, exec (.evtRidxWrite value by_) s = .next t ∧ rdW Reg.EVT_RIDX t = value
        ∧ regsKept [Reg.EVT_RIDX, Reg.EVT_STAT] s t ∧ t = { s with regs := t.regs }))

/-- For every command with every operand, and for every state, exec answers a next state, with the queue as it was: no
form faults, refuses or needs a condition to complete. What each form does where the conditions of the spec for its
effect hold, the statements named after the families say. -/
def Obligations.EveryFormCompletes : Prop :=
  ∀ (c : Instr) (s : State), ∃ t, exec c s = .next t ∧ t.pending = s.pending
end

