-- ==== Sys2Proof/Laws/Memory.lean ====
section
/-! SUPPORT. Memory: every operation keeps its canonical form, and what a byte reads as after a write. -/

namespace Sys2Proof.Machine

/-! Memory keeps its canonical form. -/

theorem Memory.wf_tail {p : Host.Cell} {l : List Host.Cell} (h : Memory.wf (p :: l) = true) : Memory.wf l = true := by
  obtain ⟨a, b⟩ := p
  cases l with
  | nil => rfl
  | cons q l => obtain ⟨c, d⟩ := q; simp [Memory.wf] at h; exact h.2

/-- The canonical form, one cell at a time. -/
theorem Memory.wf_cons {a : Nat} {b : Byte} {l : List Host.Cell} : Memory.wf ((a, b) :: l) = true ↔
    b ≠ Memory.unlisted ∧ Memory.wf l = true ∧ ∀ c ∈ l.head?, a < c.1 := by
  cases l with
  | nil => simp [Memory.wf]
  | cons q l => obtain ⟨c, d⟩ := q; simp [Memory.wf]; tauto

theorem Memory.head_place (k : Nat) (x : Byte) (l : List Host.Cell) (a : Nat) (hk : a < k)
    (h : ∀ c ∈ l.head?, a < c.1) : ∀ c ∈ (Memory.place k x l).head?, a < c.1 := by
  cases l with
  | nil => simp_all [Memory.place]
  | cons q l =>
    unfold Memory.place
    split
    · simp_all
    · split <;> simp_all

theorem Memory.wf_place (k : Nat) {x : Byte} (hx : x ≠ Memory.unlisted) : ∀ l : List Host.Cell, Memory.wf l = true →
    Memory.wf (Memory.place k x l) = true := by
  intro l
  induction l with
  | nil => intro _; simp_all [Memory.place, Memory.wf]
  | cons q l ih =>
    obtain ⟨a, b⟩ := q
    intro h
    obtain ⟨h1, h2, h3⟩ := Memory.wf_cons.1 h
    unfold Memory.place
    split
    · rename_i hk
      exact Memory.wf_cons.2 ⟨hx, h, by simpa using hk⟩
    · split
      · rename_i hk hj
        subst hj
        exact Memory.wf_cons.2 ⟨hx, h2, h3⟩
      · rename_i hk hj
        exact Memory.wf_cons.2 ⟨h1, ih h2, Memory.head_place k x l a (by omega) h3⟩

/-- Dropping cells keeps the canonical form (a failed restore, a reset). -/
theorem Memory.wf_filter (p : Host.Cell → Bool) : ∀ l : List Host.Cell, Memory.wf l = true → Memory.wf (l.filter p) = true := by
  intro l
  induction l with
  | nil => intro _; rfl
  | cons q l ih =>
    obtain ⟨a, b⟩ := q
    intro h
    obtain ⟨h1, h2, h3⟩ := Memory.wf_cons.1 h
    rw [List.filter_cons]
    split
    · refine Memory.wf_cons.2 ⟨h1, ih h2, ?_⟩
      have lt : ∀ (l : List Host.Cell), Memory.wf l = true → (∀ c ∈ l.head?, a < c.1) → ∀ c ∈ l, a < c.1 := by
        intro l
        induction l with
        | nil => intro _ _ c hc; cases hc
        | cons r l ih2 =>
          intro hw hh c hc
          obtain ⟨e, f⟩ := r
          have he : a < e := by simpa using hh
          rcases List.mem_cons.1 hc with hc | hc
          · rw [hc]; exact he
          · refine ih2 (Memory.wf_tail hw) ?_ c hc
            intro d hd
            have := (Memory.wf_cons.1 hw).2.2 d hd
            omega
      intro c hc
      exact lt l h2 h3 c (List.mem_of_mem_filter (List.mem_of_mem_head? hc))
    · exact ih h2

/-- Writing a byte keeps the canonical form. -/
theorem Memory.wf_put (k : Nat) (x : Byte) (l : List Host.Cell) (h : Memory.wf l = true) :
    Memory.wf (Memory.put k x l) = true := by
  unfold Memory.put
  split
  · exact Memory.wf_filter _ l h
  · rename_i hx
    exact Memory.wf_place k hx l h

/-- Writing bytes keeps the canonical form. -/
theorem Memory.wf_putAll (l : List Byte) : ∀ (k : Nat) (m : List Host.Cell), Memory.wf m = true →
    Memory.wf (Memory.putAll k l m) = true := by
  induction l with
  | nil => intro k m h; exact h
  | cons x xs ih => intro k m h; exact ih _ _ (Memory.wf_put k x m h)

/-! Reading after writing. -/

theorem Memory.get_filter_ne {j k : Nat} (l : List Host.Cell) :
    Memory.get (l.filter (fun c => c.1 != k)) j = if j = k then Memory.unlisted else Memory.get l j := by
  induction l with
  | nil => simp [Memory.get]
  | cons q l ih =>
    obtain ⟨a, b⟩ := q
    by_cases hk : a = k <;> by_cases hj : j = a <;> simp_all [Memory.get]

theorem Memory.get_place (j k : Nat) (x : Byte) (l : List Host.Cell) :
    Memory.get (Memory.place k x l) j = if j = k then x else Memory.get l j := by
  induction l with
  | nil => simp [Memory.get, Memory.place]
  | cons q l ih =>
    obtain ⟨a, b⟩ := q
    unfold Memory.place
    split
    · simp [Memory.get]
    · split
      · rename_i hk
        subst hk
        by_cases hj : j = k <;> simp [Memory.get, hj]
      · rename_i h1 h2
        by_cases hj : j = a
        · have : j ≠ k := fun h => h2 (h ▸ hj)
          simp [Memory.get, hj]
          omega
        · simp [Memory.get, hj, ih]

/-- A byte after a write, in every memory. -/
theorem Memory.get_put (j k : Nat) (x : Byte) (l : List Host.Cell) :
    Memory.get (Memory.put k x l) j = if j = k then x else Memory.get l j := by
  unfold Memory.put
  split
  · rename_i hx
    rw [Memory.get_filter_ne, hx]
  · exact Memory.get_place j k x l

/-- Another byte reads as before. -/
theorem Memory.get_put_ne {j k : Nat} (h : j ≠ k) (x : Byte) (l : List Host.Cell) :
    Memory.get (Memory.put k x l) j = Memory.get l j := by rw [Memory.get_put, if_neg h]

/-- A written byte reads back. -/
theorem Memory.get_put_same (k : Nat) (x : Byte) (l : List Host.Cell) : Memory.get (Memory.put k x l) k = x := by
  rw [Memory.get_put, if_pos rfl]

/-- Bytes written leave every byte outside them. -/
theorem Memory.get_putAll_out (j : Nat) (l : List Byte) : ∀ (a : Nat) (m : List Host.Cell), j < a ∨ a + l.length ≤ j →
    Memory.get (Memory.putAll a l m) j = Memory.get m j := by
  induction l with
  | nil => intro a m _; rfl
  | cons x xs ih =>
    intro a m h
    simp only [List.length_cons] at h
    rw [Memory.putAll, ih (a + 1) _ (by omega), Memory.get_put_ne (by omega)]

/-- Bytes written read back. -/
theorem Memory.get_putAll (l : List Byte) : ∀ (a i : Nat) (m : List Host.Cell), ∀ h : i < l.length,
    Memory.get (Memory.putAll a l m) (a + i) = l[i] := by
  induction l with
  | nil => intro a i m h; simp at h
  | cons x xs ih =>
    intro a i m h
    rw [Memory.putAll]
    cases i with
    | zero => rw [Memory.get_putAll_out _ _ _ _ (by omega)]; simpa using Memory.get_put_same a x m
    | succ i =>
      have e : a + (i + 1) = a + 1 + i := by omega
      rw [e]
      simpa using ih (a + 1) i _ (by simpa using h)

/-- A store leaves every byte outside it, and every field but memory. -/
theorem ldB_stBytes_out (j a : Nat) (l : List Byte) (s : State) (h : j < a ∨ a + l.length ≤ j) :
    ldB j (stBytes a l s) = ldB j s := Memory.get_putAll_out j l a s.mem h

/-- A stored byte reads back. -/
theorem ldB_stBytes (a i : Nat) (l : List Byte) (s : State) (h : i < l.length) :
    ldB (a + i) (stBytes a l s) = l[i] := Memory.get_putAll l a i s.mem h

/-- Stored bytes read back together. -/
theorem ldBytes_stBytes (a : Nat) (l : List Byte) (s : State) :
    ldBytes a l.length (stBytes a l s) = l := by
  apply List.ext_getElem
  · simp [ldBytes]
  · intro i h1 h2
    simp only [ldBytes, List.getElem_map, List.getElem_range]
    exact ldB_stBytes a i l s h2

@[simp] theorem stBytes_regs (a : Nat) (l : List Byte) (s : State) : (stBytes a l s).regs = s.regs := rfl

end Sys2Proof.Machine
end

