-- ==== Sys2Proof/Laws/Kept.lean ====
section
/-! SUPPORT. What the operations of the model keep: the queue, the canonical forms of memory and of the register file, the fuses,
and what has been sent. A function over these operations keeps them all by the lemmas of its parts. -/

namespace Sys2Proof.Machine

/-- Nothing that every step keeps is lost from one state to another. -/
structure Kept (s t : State) : Prop where
  pending : t.pending = s.pending
  mem : Memory.wf s.mem = true → Memory.wf t.mem = true
  regs : rising s.regs = true → rising t.regs = true
  arb : s.nv.arb ≤ t.nv.arb
  revoked : ∀ k, s.nv.revoked.testBit k = true → t.nv.revoked.testBit k = true
  testlock : s.nv.testlock = true → t.nv.testlock = true
  out : s.out <+: t.out

theorem Kept.refl (s : State) : Kept s s :=
  ⟨rfl, id, id, Nat.le_refl _, fun _ => id, id, List.prefix_rfl⟩

theorem Kept.trans {s t u : State} (h : Kept s t) (g : Kept t u) : Kept s u :=
  ⟨g.pending.trans h.pending, g.mem ∘ h.mem, g.regs ∘ h.regs, Nat.le_trans h.arb g.arb,
    fun k x => g.revoked k (h.revoked k x), g.testlock ∘ h.testlock, h.out.trans g.out⟩

theorem Kept.of_snd2 {α β : Type} {s t : State} {a : α} {b : β} {p : α × β × State} (e : p = (a, b, t)) (h : Kept s p.2.2) :
    Kept s t := by
  subst e; exact h

theorem Kept.of_snd {α : Type} {s t : State} {a : α} {p : α × State} (e : p = (a, t)) (h : Kept s p.2) : Kept s t := by
  subst e; exact h

theorem Kept.of_fst {α : Type} {s t : State} {a : α} {p : State × α} (e : p = (t, a)) (h : Kept s p.1) : Kept s t := by
  subst e; exact h

theorem Kept.of_next {s t u : State} (e : Host.Outcome.next (φ := Fault) (ρ := Refusal) u = .next t) (h : Kept s u) :
    Kept s t := by
  cases e; exact h

/-- The first key of a canonical table and of memory. -/
theorem rising_tail {α : Type} {p : Nat × α} {l : Tbl α} (h : rising (p :: l) = true) : rising l = true := by
  cases l with
  | nil => rfl
  | cons q l => simp [rising] at h; exact h.2

theorem rising_put_aux {α : Type} (k : Nat) (x : α) : ∀ l : Tbl α, rising l = true →
    rising (Tbl.put k x l) = true ∧ ∀ a y, a < k → rising ((a, y) :: l) = true → rising ((a, y) :: Tbl.put k x l) = true := by
  intro l
  induction l with
  | nil => intro _; simp +contextual [Tbl.put, rising]
  | cons p l ih =>
    obtain ⟨j, z⟩ := p
    intro h
    have ht := rising_tail h
    obtain ⟨i1, i2⟩ := ih ht
    unfold Tbl.put
    split
    · rename_i hk
      refine ⟨?_, fun a y ha hr => ?_⟩
      · simp only [rising, hk, decide_true, Bool.true_and]; exact h
      · simp only [rising, hk, ha, decide_true, Bool.true_and]; exact h
    · split
      · rename_i hk hj
        subst hj
        have e : ∀ w : α, rising ((k, w) :: l) = true := by
          intro w
          cases l with
          | nil => rfl
          | cons q l => simp only [rising] at h ⊢; exact h
        refine ⟨e x, fun a y ha hr => ?_⟩
        simp only [rising, ha, decide_true, Bool.true_and]; exact e x
      · rename_i hk hj
        have hlt : j < k := by omega
        have e := i2 j z hlt h
        refine ⟨e, fun a y ha hr => ?_⟩
        have : a < j := by simp [rising] at hr; exact hr.1
        simp only [rising, this, decide_true, Bool.true_and]; exact e

theorem rising_put {α : Type} (k : Nat) (x : α) (l : Tbl α) (h : rising l = true) : rising (Tbl.put k x l) = true :=
  (rising_put_aux k x l h).1

/-! The named operations. -/

theorem wrW_kept {s t : State} (h : Kept s t) {a : Nat} {w : Word} : Kept s (wrW a w t) :=
  h.trans ⟨rfl, id, rising_put _ _ _, Nat.le_refl _, fun _ => id, id, List.prefix_rfl⟩

theorem emit_kept {s t : State} (h : Kept s t) {o : Out} : Kept s (emit o t) :=
  h.trans ⟨rfl, id, id, Nat.le_refl _, fun _ => id, id, List.prefix_append _ _⟩

theorem stBytes_kept {s t : State} (h : Kept s t) {a : Nat} {l : List Byte} : Kept s (stBytes a l t) :=
  h.trans ⟨rfl, Memory.wf_putAll l a t.mem, id, Nat.le_refl _, fun _ => id, id, List.prefix_rfl⟩

theorem when_kept {s t : State} {c : Bool} {f : State → State} (h : Kept s t) (hf : ∀ u, Kept s u → Kept s (f u)) :
    Kept s (when c f t) := by
  unfold when; split
  · exact hf _ h
  · exact h

theorem foldl_kept {β : Type} {s t : State} {l : List β} {f : State → β → State} (h : Kept s t)
    (hf : ∀ u x, Kept s u → Kept s (f u x)) : Kept s (l.foldl f t) := by
  induction l generalizing t with
  | nil => exact h
  | cons x l ih => exact ih (hf t x h)

theorem foldl_fst_kept {α β : Type} {s : State} {p : State × α} {l : List β} {f : State × α → β → State × α} (h : Kept s p.1)
    (hf : ∀ q x, Kept s q.1 → Kept s (f q x).1) : Kept s (l.foldl f p).1 := by
  induction l generalizing p with
  | nil => exact h
  | cons x l ih => exact ih (hf p x h)

theorem foldl_snd_kept {α β : Type} {s : State} {p : α × State} {l : List β} {f : α × State → β → α × State} (h : Kept s p.2)
    (hf : ∀ q x, Kept s q.2 → Kept s (f q x).2) : Kept s (l.foldl f p).2 := by
  induction l generalizing p with
  | nil => exact h
  | cons x l ih => exact ih (hf p x h)

theorem each_kept {α : Type} {s t : State} {l : List α} {f : α → State → State} (h : Kept s t)
    (hf : ∀ x u, Kept s u → Kept s (f x u)) : Kept s (each l f t) := by
  unfold each
  induction l generalizing t with
  | nil => exact h
  | cons x l ih => exact ih (hf x t h)

/-! The pins of the direct legs (R150, R158, R224): what has been sent is never taken back. -/

theorem setHb_kept {s t : State} (h : Kept s t) {n : Nat} {x : HbSt} : Kept s (setHb n x t) :=
  h.trans ⟨rfl, id, id, Nat.le_refl _, fun _ => id, id, List.prefix_rfl⟩

theorem legRise_kept {s t : State} (h : Kept s t) {n : Nat} : Kept s (legRise n t) := by
  unfold legRise; split
  · exact emit_kept (setHb_kept h)
  · exact h

theorem legRises_kept {s t : State} (h : Kept s t) : Kept s (legRises t) :=
  each_kept h (fun _ _ hu => legRise_kept hu)

theorem legOff_kept {s t : State} (h : Kept s t) {n : Nat} : Kept s (legOff n t) := by
  unfold legOff
  extract_lets late
  clear_value late
  split
  · exact h.trans ⟨rfl, id, id, Nat.le_refl _, fun _ => id, id, List.prefix_rfl⟩
  · exact when_kept ((legRise_kept h).trans ⟨rfl, id, id, Nat.le_refl _, fun _ => id, id, List.prefix_rfl⟩)
      (fun _ hu => emit_kept hu)

/-- A burst alone at its target is granted and takes place, or nothing happens (R299). -/
theorem burstAlone_kept {s t : State} (h : Kept s t) {q d : Nat} {f : State → State}
    (hg : ∀ u w b c, Kept s u → Kept s (grantTo q d w b c u)) (hf : ∀ u, Kept s u → Kept s (f u)) :
    Kept s (burstAlone q d f t) := by
  unfold burstAlone
  split
  · exact hf _ (hg _ _ _ _ h)
  · exact h

end Sys2Proof.Machine
end

