-- ==== Sys2Proof/Laws/State.lean ====
section
/-! SUPPORT. What each named update of the state leaves unchanged: every field but its own. -/

namespace Sys2Proof.Machine

@[simp] theorem wrW_frame (a : Nat) (w : Word) (s : State) :
    (wrW a w s).pending = s.pending ∧ (wrW a w s).free = s.free ∧ (wrW a w s).out = s.out ∧
    (wrW a w s).pwHeld = s.pwHeld ∧ (wrW a w s).lt = s.lt ∧ (wrW a w s).ltRun = s.ltRun ∧ (wrW a w s).evt = s.evt ∧
    (wrW a w s).bob = s.bob ∧ (wrW a w s).drm = s.drm ∧ (wrW a w s).inst = s.inst ∧ (wrW a w s).sti = s.sti ∧
    (wrW a w s).macRetire = s.macRetire ∧ (wrW a w s).tack = s.tack ∧ (wrW a w s).gpioOut = s.gpioOut ∧
    (wrW a w s).gpioIn = s.gpioIn ∧ (wrW a w s).car = s.car ∧ (wrW a w s).hb = s.hb ∧ (wrW a w s).pgn = s.pgn ∧
    (wrW a w s).legEn = s.legEn ∧ (wrW a w s).legP = s.legP ∧ (wrW a w s).lnk = s.lnk ∧ (wrW a w s).ep = s.ep ∧
    (wrW a w s).mem = s.mem ∧ (wrW a w s).configured = s.configured ∧ (wrW a w s).cc = s.cc ∧
    (wrW a w s).par = s.par ∧ (wrW a w s).prt = s.prt ∧ (wrW a w s).hmp = s.hmp ∧ (wrW a w s).fab = s.fab ∧
    (wrW a w s).lane = s.lane ∧ (wrW a w s).bank = s.bank ∧ (wrW a w s).overRun = s.overRun ∧
    (wrW a w s).diagRun = s.diagRun ∧ (wrW a w s).spn = s.spn ∧ (wrW a w s).cyc = s.cyc ∧ (wrW a w s).nv = s.nv ∧
    (wrW a w s).pwr = s.pwr ∧ (wrW a w s).clk = s.clk ∧ (wrW a w s).saf = s.saf ∧ (wrW a w s).jtag = s.jtag := by
  refine ⟨rfl, rfl, rfl, rfl, rfl, rfl, rfl, rfl, rfl, rfl, rfl, rfl, rfl, rfl, rfl, rfl, rfl, rfl, rfl, rfl,
    rfl, rfl, rfl, rfl, rfl, rfl, rfl, rfl, rfl, rfl, rfl, rfl, rfl, rfl, rfl, rfl, rfl, rfl, rfl, rfl⟩

@[simp] theorem wr_frame (a n : Nat) (s : State) :
    (wr a n s).pending = s.pending ∧ (wr a n s).free = s.free ∧ (wr a n s).out = s.out ∧
    (wr a n s).pwHeld = s.pwHeld ∧ (wr a n s).lt = s.lt ∧ (wr a n s).ltRun = s.ltRun ∧ (wr a n s).evt = s.evt ∧
    (wr a n s).bob = s.bob ∧ (wr a n s).drm = s.drm ∧ (wr a n s).inst = s.inst ∧ (wr a n s).sti = s.sti ∧
    (wr a n s).macRetire = s.macRetire ∧ (wr a n s).tack = s.tack ∧ (wr a n s).gpioOut = s.gpioOut ∧
    (wr a n s).gpioIn = s.gpioIn ∧ (wr a n s).car = s.car ∧ (wr a n s).hb = s.hb ∧ (wr a n s).pgn = s.pgn ∧
    (wr a n s).legEn = s.legEn ∧ (wr a n s).legP = s.legP ∧ (wr a n s).lnk = s.lnk ∧ (wr a n s).ep = s.ep ∧
    (wr a n s).mem = s.mem ∧ (wr a n s).configured = s.configured ∧ (wr a n s).cc = s.cc ∧ (wr a n s).par = s.par ∧
    (wr a n s).prt = s.prt ∧ (wr a n s).hmp = s.hmp ∧ (wr a n s).fab = s.fab ∧ (wr a n s).lane = s.lane ∧
    (wr a n s).bank = s.bank ∧ (wr a n s).overRun = s.overRun ∧ (wr a n s).diagRun = s.diagRun ∧
    (wr a n s).spn = s.spn ∧ (wr a n s).cyc = s.cyc ∧ (wr a n s).nv = s.nv ∧ (wr a n s).pwr = s.pwr ∧
    (wr a n s).clk = s.clk ∧ (wr a n s).saf = s.saf ∧ (wr a n s).jtag = s.jtag := by
  refine ⟨rfl, rfl, rfl, rfl, rfl, rfl, rfl, rfl, rfl, rfl, rfl, rfl, rfl, rfl, rfl, rfl, rfl, rfl, rfl, rfl,
    rfl, rfl, rfl, rfl, rfl, rfl, rfl, rfl, rfl, rfl, rfl, rfl, rfl, rfl, rfl, rfl, rfl, rfl, rfl, rfl⟩

@[simp] theorem wrI_frame (a : Nat) (x : Int) (s : State) :
    (wrI a x s).pending = s.pending ∧ (wrI a x s).free = s.free ∧ (wrI a x s).out = s.out ∧
    (wrI a x s).pwHeld = s.pwHeld ∧ (wrI a x s).lt = s.lt ∧ (wrI a x s).ltRun = s.ltRun ∧ (wrI a x s).evt = s.evt ∧
    (wrI a x s).bob = s.bob ∧ (wrI a x s).drm = s.drm ∧ (wrI a x s).inst = s.inst ∧ (wrI a x s).sti = s.sti ∧
    (wrI a x s).macRetire = s.macRetire ∧ (wrI a x s).tack = s.tack ∧ (wrI a x s).gpioOut = s.gpioOut ∧
    (wrI a x s).gpioIn = s.gpioIn ∧ (wrI a x s).car = s.car ∧ (wrI a x s).hb = s.hb ∧ (wrI a x s).pgn = s.pgn ∧
    (wrI a x s).legEn = s.legEn ∧ (wrI a x s).legP = s.legP ∧ (wrI a x s).lnk = s.lnk ∧ (wrI a x s).ep = s.ep ∧
    (wrI a x s).mem = s.mem ∧ (wrI a x s).configured = s.configured ∧ (wrI a x s).cc = s.cc ∧
    (wrI a x s).par = s.par ∧ (wrI a x s).prt = s.prt ∧ (wrI a x s).hmp = s.hmp ∧ (wrI a x s).fab = s.fab ∧
    (wrI a x s).lane = s.lane ∧ (wrI a x s).bank = s.bank ∧ (wrI a x s).overRun = s.overRun ∧
    (wrI a x s).diagRun = s.diagRun ∧ (wrI a x s).spn = s.spn ∧ (wrI a x s).cyc = s.cyc ∧ (wrI a x s).nv = s.nv ∧
    (wrI a x s).pwr = s.pwr ∧ (wrI a x s).clk = s.clk ∧ (wrI a x s).saf = s.saf ∧ (wrI a x s).jtag = s.jtag := by
  refine ⟨rfl, rfl, rfl, rfl, rfl, rfl, rfl, rfl, rfl, rfl, rfl, rfl, rfl, rfl, rfl, rfl, rfl, rfl, rfl, rfl,
    rfl, rfl, rfl, rfl, rfl, rfl, rfl, rfl, rfl, rfl, rfl, rfl, rfl, rfl, rfl, rfl, rfl, rfl, rfl, rfl⟩

@[simp] theorem setF_frame (a : Nat) (F : Fld) (v : Nat) (s : State) :
    (setF a F v s).pending = s.pending ∧ (setF a F v s).free = s.free ∧ (setF a F v s).out = s.out ∧
    (setF a F v s).pwHeld = s.pwHeld ∧ (setF a F v s).lt = s.lt ∧ (setF a F v s).ltRun = s.ltRun ∧
    (setF a F v s).evt = s.evt ∧ (setF a F v s).bob = s.bob ∧ (setF a F v s).drm = s.drm ∧
    (setF a F v s).inst = s.inst ∧ (setF a F v s).sti = s.sti ∧ (setF a F v s).macRetire = s.macRetire ∧
    (setF a F v s).tack = s.tack ∧ (setF a F v s).gpioOut = s.gpioOut ∧ (setF a F v s).gpioIn = s.gpioIn ∧
    (setF a F v s).car = s.car ∧ (setF a F v s).hb = s.hb ∧ (setF a F v s).pgn = s.pgn ∧
    (setF a F v s).legEn = s.legEn ∧ (setF a F v s).legP = s.legP ∧ (setF a F v s).lnk = s.lnk ∧
    (setF a F v s).ep = s.ep ∧ (setF a F v s).mem = s.mem ∧ (setF a F v s).configured = s.configured ∧
    (setF a F v s).cc = s.cc ∧ (setF a F v s).par = s.par ∧ (setF a F v s).prt = s.prt ∧ (setF a F v s).hmp = s.hmp ∧
    (setF a F v s).fab = s.fab ∧ (setF a F v s).lane = s.lane ∧ (setF a F v s).bank = s.bank ∧
    (setF a F v s).overRun = s.overRun ∧ (setF a F v s).diagRun = s.diagRun ∧ (setF a F v s).spn = s.spn ∧
    (setF a F v s).cyc = s.cyc ∧ (setF a F v s).nv = s.nv ∧ (setF a F v s).pwr = s.pwr ∧ (setF a F v s).clk = s.clk ∧
    (setF a F v s).saf = s.saf ∧ (setF a F v s).jtag = s.jtag := by
  refine ⟨rfl, rfl, rfl, rfl, rfl, rfl, rfl, rfl, rfl, rfl, rfl, rfl, rfl, rfl, rfl, rfl, rfl, rfl, rfl, rfl,
    rfl, rfl, rfl, rfl, rfl, rfl, rfl, rfl, rfl, rfl, rfl, rfl, rfl, rfl, rfl, rfl, rfl, rfl, rfl, rfl⟩

@[simp] theorem setB_frame (a : Nat) (F : Fld) (b : Bool) (s : State) :
    (setB a F b s).pending = s.pending ∧ (setB a F b s).free = s.free ∧ (setB a F b s).out = s.out ∧
    (setB a F b s).pwHeld = s.pwHeld ∧ (setB a F b s).lt = s.lt ∧ (setB a F b s).ltRun = s.ltRun ∧
    (setB a F b s).evt = s.evt ∧ (setB a F b s).bob = s.bob ∧ (setB a F b s).drm = s.drm ∧
    (setB a F b s).inst = s.inst ∧ (setB a F b s).sti = s.sti ∧ (setB a F b s).macRetire = s.macRetire ∧
    (setB a F b s).tack = s.tack ∧ (setB a F b s).gpioOut = s.gpioOut ∧ (setB a F b s).gpioIn = s.gpioIn ∧
    (setB a F b s).car = s.car ∧ (setB a F b s).hb = s.hb ∧ (setB a F b s).pgn = s.pgn ∧
    (setB a F b s).legEn = s.legEn ∧ (setB a F b s).legP = s.legP ∧ (setB a F b s).lnk = s.lnk ∧
    (setB a F b s).ep = s.ep ∧ (setB a F b s).mem = s.mem ∧ (setB a F b s).configured = s.configured ∧
    (setB a F b s).cc = s.cc ∧ (setB a F b s).par = s.par ∧ (setB a F b s).prt = s.prt ∧ (setB a F b s).hmp = s.hmp ∧
    (setB a F b s).fab = s.fab ∧ (setB a F b s).lane = s.lane ∧ (setB a F b s).bank = s.bank ∧
    (setB a F b s).overRun = s.overRun ∧ (setB a F b s).diagRun = s.diagRun ∧ (setB a F b s).spn = s.spn ∧
    (setB a F b s).cyc = s.cyc ∧ (setB a F b s).nv = s.nv ∧ (setB a F b s).pwr = s.pwr ∧ (setB a F b s).clk = s.clk ∧
    (setB a F b s).saf = s.saf ∧ (setB a F b s).jtag = s.jtag := by
  refine ⟨rfl, rfl, rfl, rfl, rfl, rfl, rfl, rfl, rfl, rfl, rfl, rfl, rfl, rfl, rfl, rfl, rfl, rfl, rfl, rfl,
    rfl, rfl, rfl, rfl, rfl, rfl, rfl, rfl, rfl, rfl, rfl, rfl, rfl, rfl, rfl, rfl, rfl, rfl, rfl, rfl⟩

@[simp] theorem setBitAt_frame (a k : Nat) (b : Bool) (s : State) :
    (setBitAt a k b s).pending = s.pending ∧ (setBitAt a k b s).free = s.free ∧ (setBitAt a k b s).out = s.out ∧
    (setBitAt a k b s).pwHeld = s.pwHeld ∧ (setBitAt a k b s).lt = s.lt ∧ (setBitAt a k b s).ltRun = s.ltRun ∧
    (setBitAt a k b s).evt = s.evt ∧ (setBitAt a k b s).bob = s.bob ∧ (setBitAt a k b s).drm = s.drm ∧
    (setBitAt a k b s).inst = s.inst ∧ (setBitAt a k b s).sti = s.sti ∧ (setBitAt a k b s).macRetire = s.macRetire ∧
    (setBitAt a k b s).tack = s.tack ∧ (setBitAt a k b s).gpioOut = s.gpioOut ∧
    (setBitAt a k b s).gpioIn = s.gpioIn ∧ (setBitAt a k b s).car = s.car ∧ (setBitAt a k b s).hb = s.hb ∧
    (setBitAt a k b s).pgn = s.pgn ∧ (setBitAt a k b s).legEn = s.legEn ∧ (setBitAt a k b s).legP = s.legP ∧
    (setBitAt a k b s).lnk = s.lnk ∧ (setBitAt a k b s).ep = s.ep ∧ (setBitAt a k b s).mem = s.mem ∧
    (setBitAt a k b s).configured = s.configured ∧ (setBitAt a k b s).cc = s.cc ∧ (setBitAt a k b s).par = s.par ∧
    (setBitAt a k b s).prt = s.prt ∧ (setBitAt a k b s).hmp = s.hmp ∧ (setBitAt a k b s).fab = s.fab ∧
    (setBitAt a k b s).lane = s.lane ∧ (setBitAt a k b s).bank = s.bank ∧ (setBitAt a k b s).overRun = s.overRun ∧
    (setBitAt a k b s).diagRun = s.diagRun ∧ (setBitAt a k b s).spn = s.spn ∧ (setBitAt a k b s).cyc = s.cyc ∧
    (setBitAt a k b s).nv = s.nv ∧ (setBitAt a k b s).pwr = s.pwr ∧ (setBitAt a k b s).clk = s.clk ∧
    (setBitAt a k b s).saf = s.saf ∧ (setBitAt a k b s).jtag = s.jtag := by
  refine ⟨rfl, rfl, rfl, rfl, rfl, rfl, rfl, rfl, rfl, rfl, rfl, rfl, rfl, rfl, rfl, rfl, rfl, rfl, rfl, rfl,
    rfl, rfl, rfl, rfl, rfl, rfl, rfl, rfl, rfl, rfl, rfl, rfl, rfl, rfl, rfl, rfl, rfl, rfl, rfl, rfl⟩

@[simp] theorem bump_frame (a : Nat) (F : Fld) (n : Nat) (s : State) :
    (bump a F n s).pending = s.pending ∧ (bump a F n s).free = s.free ∧ (bump a F n s).out = s.out ∧
    (bump a F n s).pwHeld = s.pwHeld ∧ (bump a F n s).lt = s.lt ∧ (bump a F n s).ltRun = s.ltRun ∧
    (bump a F n s).evt = s.evt ∧ (bump a F n s).bob = s.bob ∧ (bump a F n s).drm = s.drm ∧
    (bump a F n s).inst = s.inst ∧ (bump a F n s).sti = s.sti ∧ (bump a F n s).macRetire = s.macRetire ∧
    (bump a F n s).tack = s.tack ∧ (bump a F n s).gpioOut = s.gpioOut ∧ (bump a F n s).gpioIn = s.gpioIn ∧
    (bump a F n s).car = s.car ∧ (bump a F n s).hb = s.hb ∧ (bump a F n s).pgn = s.pgn ∧
    (bump a F n s).legEn = s.legEn ∧ (bump a F n s).legP = s.legP ∧ (bump a F n s).lnk = s.lnk ∧
    (bump a F n s).ep = s.ep ∧ (bump a F n s).mem = s.mem ∧ (bump a F n s).configured = s.configured ∧
    (bump a F n s).cc = s.cc ∧ (bump a F n s).par = s.par ∧ (bump a F n s).prt = s.prt ∧ (bump a F n s).hmp = s.hmp ∧
    (bump a F n s).fab = s.fab ∧ (bump a F n s).lane = s.lane ∧ (bump a F n s).bank = s.bank ∧
    (bump a F n s).overRun = s.overRun ∧ (bump a F n s).diagRun = s.diagRun ∧ (bump a F n s).spn = s.spn ∧
    (bump a F n s).cyc = s.cyc ∧ (bump a F n s).nv = s.nv ∧ (bump a F n s).pwr = s.pwr ∧ (bump a F n s).clk = s.clk ∧
    (bump a F n s).saf = s.saf ∧ (bump a F n s).jtag = s.jtag := by
  refine ⟨rfl, rfl, rfl, rfl, rfl, rfl, rfl, rfl, rfl, rfl, rfl, rfl, rfl, rfl, rfl, rfl, rfl, rfl, rfl, rfl,
    rfl, rfl, rfl, rfl, rfl, rfl, rfl, rfl, rfl, rfl, rfl, rfl, rfl, rfl, rfl, rfl, rfl, rfl, rfl, rfl⟩

@[simp] theorem wr64_frame (a b n : Nat) (s : State) :
    (wr64 a b n s).pending = s.pending ∧ (wr64 a b n s).free = s.free ∧ (wr64 a b n s).out = s.out ∧
    (wr64 a b n s).pwHeld = s.pwHeld ∧ (wr64 a b n s).lt = s.lt ∧ (wr64 a b n s).ltRun = s.ltRun ∧
    (wr64 a b n s).evt = s.evt ∧ (wr64 a b n s).bob = s.bob ∧ (wr64 a b n s).drm = s.drm ∧
    (wr64 a b n s).inst = s.inst ∧ (wr64 a b n s).sti = s.sti ∧ (wr64 a b n s).macRetire = s.macRetire ∧
    (wr64 a b n s).tack = s.tack ∧ (wr64 a b n s).gpioOut = s.gpioOut ∧ (wr64 a b n s).gpioIn = s.gpioIn ∧
    (wr64 a b n s).car = s.car ∧ (wr64 a b n s).hb = s.hb ∧ (wr64 a b n s).pgn = s.pgn ∧
    (wr64 a b n s).legEn = s.legEn ∧ (wr64 a b n s).legP = s.legP ∧ (wr64 a b n s).lnk = s.lnk ∧
    (wr64 a b n s).ep = s.ep ∧ (wr64 a b n s).mem = s.mem ∧ (wr64 a b n s).configured = s.configured ∧
    (wr64 a b n s).cc = s.cc ∧ (wr64 a b n s).par = s.par ∧ (wr64 a b n s).prt = s.prt ∧ (wr64 a b n s).hmp = s.hmp ∧
    (wr64 a b n s).fab = s.fab ∧ (wr64 a b n s).lane = s.lane ∧ (wr64 a b n s).bank = s.bank ∧
    (wr64 a b n s).overRun = s.overRun ∧ (wr64 a b n s).diagRun = s.diagRun ∧ (wr64 a b n s).spn = s.spn ∧
    (wr64 a b n s).cyc = s.cyc ∧ (wr64 a b n s).nv = s.nv ∧ (wr64 a b n s).pwr = s.pwr ∧ (wr64 a b n s).clk = s.clk ∧
    (wr64 a b n s).saf = s.saf ∧ (wr64 a b n s).jtag = s.jtag := by
  refine ⟨rfl, rfl, rfl, rfl, rfl, rfl, rfl, rfl, rfl, rfl, rfl, rfl, rfl, rfl, rfl, rfl, rfl, rfl, rfl, rfl,
    rfl, rfl, rfl, rfl, rfl, rfl, rfl, rfl, rfl, rfl, rfl, rfl, rfl, rfl, rfl, rfl, rfl, rfl, rfl, rfl⟩

@[simp] theorem emit_frame (o : Out) (s : State) :
    (emit o s).pending = s.pending ∧ (emit o s).free = s.free ∧ (emit o s).regs = s.regs ∧
    (emit o s).pwHeld = s.pwHeld ∧ (emit o s).lt = s.lt ∧ (emit o s).ltRun = s.ltRun ∧ (emit o s).evt = s.evt ∧
    (emit o s).bob = s.bob ∧ (emit o s).drm = s.drm ∧ (emit o s).inst = s.inst ∧ (emit o s).sti = s.sti ∧
    (emit o s).macRetire = s.macRetire ∧ (emit o s).tack = s.tack ∧ (emit o s).gpioOut = s.gpioOut ∧
    (emit o s).gpioIn = s.gpioIn ∧ (emit o s).car = s.car ∧ (emit o s).hb = s.hb ∧ (emit o s).pgn = s.pgn ∧
    (emit o s).legEn = s.legEn ∧ (emit o s).legP = s.legP ∧ (emit o s).lnk = s.lnk ∧ (emit o s).ep = s.ep ∧
    (emit o s).mem = s.mem ∧ (emit o s).configured = s.configured ∧ (emit o s).cc = s.cc ∧ (emit o s).par = s.par ∧
    (emit o s).prt = s.prt ∧ (emit o s).hmp = s.hmp ∧ (emit o s).fab = s.fab ∧ (emit o s).lane = s.lane ∧
    (emit o s).bank = s.bank ∧ (emit o s).overRun = s.overRun ∧ (emit o s).diagRun = s.diagRun ∧
    (emit o s).spn = s.spn ∧ (emit o s).cyc = s.cyc ∧ (emit o s).nv = s.nv ∧ (emit o s).pwr = s.pwr ∧
    (emit o s).clk = s.clk ∧ (emit o s).saf = s.saf ∧ (emit o s).jtag = s.jtag := by
  refine ⟨rfl, rfl, rfl, rfl, rfl, rfl, rfl, rfl, rfl, rfl, rfl, rfl, rfl, rfl, rfl, rfl, rfl, rfl, rfl, rfl,
    rfl, rfl, rfl, rfl, rfl, rfl, rfl, rfl, rfl, rfl, rfl, rfl, rfl, rfl, rfl, rfl, rfl, rfl, rfl, rfl⟩

@[simp] theorem setBob_frame (k : Nat) (x : BobSt) (s : State) :
    (setBob k x s).pending = s.pending ∧ (setBob k x s).free = s.free ∧ (setBob k x s).out = s.out ∧
    (setBob k x s).regs = s.regs ∧ (setBob k x s).pwHeld = s.pwHeld ∧ (setBob k x s).lt = s.lt ∧
    (setBob k x s).ltRun = s.ltRun ∧ (setBob k x s).evt = s.evt ∧ (setBob k x s).drm = s.drm ∧
    (setBob k x s).inst = s.inst ∧ (setBob k x s).sti = s.sti ∧ (setBob k x s).macRetire = s.macRetire ∧
    (setBob k x s).tack = s.tack ∧ (setBob k x s).gpioOut = s.gpioOut ∧ (setBob k x s).gpioIn = s.gpioIn ∧
    (setBob k x s).car = s.car ∧ (setBob k x s).hb = s.hb ∧ (setBob k x s).pgn = s.pgn ∧
    (setBob k x s).legEn = s.legEn ∧ (setBob k x s).legP = s.legP ∧ (setBob k x s).lnk = s.lnk ∧
    (setBob k x s).ep = s.ep ∧ (setBob k x s).mem = s.mem ∧ (setBob k x s).configured = s.configured ∧
    (setBob k x s).cc = s.cc ∧ (setBob k x s).par = s.par ∧ (setBob k x s).prt = s.prt ∧ (setBob k x s).hmp = s.hmp ∧
    (setBob k x s).fab = s.fab ∧ (setBob k x s).lane = s.lane ∧ (setBob k x s).bank = s.bank ∧
    (setBob k x s).overRun = s.overRun ∧ (setBob k x s).diagRun = s.diagRun ∧ (setBob k x s).spn = s.spn ∧
    (setBob k x s).cyc = s.cyc ∧ (setBob k x s).nv = s.nv ∧ (setBob k x s).pwr = s.pwr ∧ (setBob k x s).clk = s.clk ∧
    (setBob k x s).saf = s.saf ∧ (setBob k x s).jtag = s.jtag := by
  refine ⟨rfl, rfl, rfl, rfl, rfl, rfl, rfl, rfl, rfl, rfl, rfl, rfl, rfl, rfl, rfl, rfl, rfl, rfl, rfl, rfl,
    rfl, rfl, rfl, rfl, rfl, rfl, rfl, rfl, rfl, rfl, rfl, rfl, rfl, rfl, rfl, rfl, rfl, rfl, rfl, rfl⟩

@[simp] theorem setDrm_frame (k : Nat) (x : DrumSt) (s : State) :
    (setDrm k x s).pending = s.pending ∧ (setDrm k x s).free = s.free ∧ (setDrm k x s).out = s.out ∧
    (setDrm k x s).regs = s.regs ∧ (setDrm k x s).pwHeld = s.pwHeld ∧ (setDrm k x s).lt = s.lt ∧
    (setDrm k x s).ltRun = s.ltRun ∧ (setDrm k x s).evt = s.evt ∧ (setDrm k x s).bob = s.bob ∧
    (setDrm k x s).inst = s.inst ∧ (setDrm k x s).sti = s.sti ∧ (setDrm k x s).macRetire = s.macRetire ∧
    (setDrm k x s).tack = s.tack ∧ (setDrm k x s).gpioOut = s.gpioOut ∧ (setDrm k x s).gpioIn = s.gpioIn ∧
    (setDrm k x s).car = s.car ∧ (setDrm k x s).hb = s.hb ∧ (setDrm k x s).pgn = s.pgn ∧
    (setDrm k x s).legEn = s.legEn ∧ (setDrm k x s).legP = s.legP ∧ (setDrm k x s).lnk = s.lnk ∧
    (setDrm k x s).ep = s.ep ∧ (setDrm k x s).mem = s.mem ∧ (setDrm k x s).configured = s.configured ∧
    (setDrm k x s).cc = s.cc ∧ (setDrm k x s).par = s.par ∧ (setDrm k x s).prt = s.prt ∧ (setDrm k x s).hmp = s.hmp ∧
    (setDrm k x s).fab = s.fab ∧ (setDrm k x s).lane = s.lane ∧ (setDrm k x s).bank = s.bank ∧
    (setDrm k x s).overRun = s.overRun ∧ (setDrm k x s).diagRun = s.diagRun ∧ (setDrm k x s).spn = s.spn ∧
    (setDrm k x s).cyc = s.cyc ∧ (setDrm k x s).nv = s.nv ∧ (setDrm k x s).pwr = s.pwr ∧ (setDrm k x s).clk = s.clk ∧
    (setDrm k x s).saf = s.saf ∧ (setDrm k x s).jtag = s.jtag := by
  refine ⟨rfl, rfl, rfl, rfl, rfl, rfl, rfl, rfl, rfl, rfl, rfl, rfl, rfl, rfl, rfl, rfl, rfl, rfl, rfl, rfl,
    rfl, rfl, rfl, rfl, rfl, rfl, rfl, rfl, rfl, rfl, rfl, rfl, rfl, rfl, rfl, rfl, rfl, rfl, rfl, rfl⟩

@[simp] theorem setInst_frame (k : Nat) (x : InstSt) (s : State) :
    (setInst k x s).pending = s.pending ∧ (setInst k x s).free = s.free ∧ (setInst k x s).out = s.out ∧
    (setInst k x s).regs = s.regs ∧ (setInst k x s).pwHeld = s.pwHeld ∧ (setInst k x s).lt = s.lt ∧
    (setInst k x s).ltRun = s.ltRun ∧ (setInst k x s).evt = s.evt ∧ (setInst k x s).bob = s.bob ∧
    (setInst k x s).drm = s.drm ∧ (setInst k x s).sti = s.sti ∧ (setInst k x s).macRetire = s.macRetire ∧
    (setInst k x s).tack = s.tack ∧ (setInst k x s).gpioOut = s.gpioOut ∧ (setInst k x s).gpioIn = s.gpioIn ∧
    (setInst k x s).car = s.car ∧ (setInst k x s).hb = s.hb ∧ (setInst k x s).pgn = s.pgn ∧
    (setInst k x s).legEn = s.legEn ∧ (setInst k x s).legP = s.legP ∧ (setInst k x s).lnk = s.lnk ∧
    (setInst k x s).ep = s.ep ∧ (setInst k x s).mem = s.mem ∧ (setInst k x s).configured = s.configured ∧
    (setInst k x s).cc = s.cc ∧ (setInst k x s).par = s.par ∧ (setInst k x s).prt = s.prt ∧
    (setInst k x s).hmp = s.hmp ∧ (setInst k x s).fab = s.fab ∧ (setInst k x s).lane = s.lane ∧
    (setInst k x s).bank = s.bank ∧ (setInst k x s).overRun = s.overRun ∧ (setInst k x s).diagRun = s.diagRun ∧
    (setInst k x s).spn = s.spn ∧ (setInst k x s).cyc = s.cyc ∧ (setInst k x s).nv = s.nv ∧
    (setInst k x s).pwr = s.pwr ∧ (setInst k x s).clk = s.clk ∧ (setInst k x s).saf = s.saf ∧
    (setInst k x s).jtag = s.jtag := by
  refine ⟨rfl, rfl, rfl, rfl, rfl, rfl, rfl, rfl, rfl, rfl, rfl, rfl, rfl, rfl, rfl, rfl, rfl, rfl, rfl, rfl,
    rfl, rfl, rfl, rfl, rfl, rfl, rfl, rfl, rfl, rfl, rfl, rfl, rfl, rfl, rfl, rfl, rfl, rfl, rfl, rfl⟩

@[simp] theorem setSti_frame (k : Nat) (x : StiSt) (s : State) :
    (setSti k x s).pending = s.pending ∧ (setSti k x s).free = s.free ∧ (setSti k x s).out = s.out ∧
    (setSti k x s).regs = s.regs ∧ (setSti k x s).pwHeld = s.pwHeld ∧ (setSti k x s).lt = s.lt ∧
    (setSti k x s).ltRun = s.ltRun ∧ (setSti k x s).evt = s.evt ∧ (setSti k x s).bob = s.bob ∧
    (setSti k x s).drm = s.drm ∧ (setSti k x s).inst = s.inst ∧ (setSti k x s).macRetire = s.macRetire ∧
    (setSti k x s).tack = s.tack ∧ (setSti k x s).gpioOut = s.gpioOut ∧ (setSti k x s).gpioIn = s.gpioIn ∧
    (setSti k x s).car = s.car ∧ (setSti k x s).hb = s.hb ∧ (setSti k x s).pgn = s.pgn ∧
    (setSti k x s).legEn = s.legEn ∧ (setSti k x s).legP = s.legP ∧ (setSti k x s).lnk = s.lnk ∧
    (setSti k x s).ep = s.ep ∧ (setSti k x s).mem = s.mem ∧ (setSti k x s).configured = s.configured ∧
    (setSti k x s).cc = s.cc ∧ (setSti k x s).par = s.par ∧ (setSti k x s).prt = s.prt ∧ (setSti k x s).hmp = s.hmp ∧
    (setSti k x s).fab = s.fab ∧ (setSti k x s).lane = s.lane ∧ (setSti k x s).bank = s.bank ∧
    (setSti k x s).overRun = s.overRun ∧ (setSti k x s).diagRun = s.diagRun ∧ (setSti k x s).spn = s.spn ∧
    (setSti k x s).cyc = s.cyc ∧ (setSti k x s).nv = s.nv ∧ (setSti k x s).pwr = s.pwr ∧ (setSti k x s).clk = s.clk ∧
    (setSti k x s).saf = s.saf ∧ (setSti k x s).jtag = s.jtag := by
  refine ⟨rfl, rfl, rfl, rfl, rfl, rfl, rfl, rfl, rfl, rfl, rfl, rfl, rfl, rfl, rfl, rfl, rfl, rfl, rfl, rfl,
    rfl, rfl, rfl, rfl, rfl, rfl, rfl, rfl, rfl, rfl, rfl, rfl, rfl, rfl, rfl, rfl, rfl, rfl, rfl, rfl⟩

@[simp] theorem setCar_frame (k : Nat) (x : CarSt) (s : State) :
    (setCar k x s).pending = s.pending ∧ (setCar k x s).free = s.free ∧ (setCar k x s).out = s.out ∧
    (setCar k x s).regs = s.regs ∧ (setCar k x s).pwHeld = s.pwHeld ∧ (setCar k x s).lt = s.lt ∧
    (setCar k x s).ltRun = s.ltRun ∧ (setCar k x s).evt = s.evt ∧ (setCar k x s).bob = s.bob ∧
    (setCar k x s).drm = s.drm ∧ (setCar k x s).inst = s.inst ∧ (setCar k x s).sti = s.sti ∧
    (setCar k x s).macRetire = s.macRetire ∧ (setCar k x s).tack = s.tack ∧ (setCar k x s).gpioOut = s.gpioOut ∧
    (setCar k x s).gpioIn = s.gpioIn ∧ (setCar k x s).hb = s.hb ∧ (setCar k x s).pgn = s.pgn ∧
    (setCar k x s).legEn = s.legEn ∧ (setCar k x s).legP = s.legP ∧ (setCar k x s).lnk = s.lnk ∧
    (setCar k x s).ep = s.ep ∧ (setCar k x s).mem = s.mem ∧ (setCar k x s).configured = s.configured ∧
    (setCar k x s).cc = s.cc ∧ (setCar k x s).par = s.par ∧ (setCar k x s).prt = s.prt ∧ (setCar k x s).hmp = s.hmp ∧
    (setCar k x s).fab = s.fab ∧ (setCar k x s).lane = s.lane ∧ (setCar k x s).bank = s.bank ∧
    (setCar k x s).overRun = s.overRun ∧ (setCar k x s).diagRun = s.diagRun ∧ (setCar k x s).spn = s.spn ∧
    (setCar k x s).cyc = s.cyc ∧ (setCar k x s).nv = s.nv ∧ (setCar k x s).pwr = s.pwr ∧ (setCar k x s).clk = s.clk ∧
    (setCar k x s).saf = s.saf ∧ (setCar k x s).jtag = s.jtag := by
  refine ⟨rfl, rfl, rfl, rfl, rfl, rfl, rfl, rfl, rfl, rfl, rfl, rfl, rfl, rfl, rfl, rfl, rfl, rfl, rfl, rfl,
    rfl, rfl, rfl, rfl, rfl, rfl, rfl, rfl, rfl, rfl, rfl, rfl, rfl, rfl, rfl, rfl, rfl, rfl, rfl, rfl⟩

@[simp] theorem setHb_frame (k : Nat) (x : HbSt) (s : State) :
    (setHb k x s).pending = s.pending ∧ (setHb k x s).free = s.free ∧ (setHb k x s).out = s.out ∧
    (setHb k x s).regs = s.regs ∧ (setHb k x s).pwHeld = s.pwHeld ∧ (setHb k x s).lt = s.lt ∧
    (setHb k x s).ltRun = s.ltRun ∧ (setHb k x s).evt = s.evt ∧ (setHb k x s).bob = s.bob ∧
    (setHb k x s).drm = s.drm ∧ (setHb k x s).inst = s.inst ∧ (setHb k x s).sti = s.sti ∧
    (setHb k x s).macRetire = s.macRetire ∧ (setHb k x s).tack = s.tack ∧ (setHb k x s).gpioOut = s.gpioOut ∧
    (setHb k x s).gpioIn = s.gpioIn ∧ (setHb k x s).car = s.car ∧ (setHb k x s).pgn = s.pgn ∧
    (setHb k x s).legEn = s.legEn ∧ (setHb k x s).legP = s.legP ∧ (setHb k x s).lnk = s.lnk ∧
    (setHb k x s).ep = s.ep ∧ (setHb k x s).mem = s.mem ∧ (setHb k x s).configured = s.configured ∧
    (setHb k x s).cc = s.cc ∧ (setHb k x s).par = s.par ∧ (setHb k x s).prt = s.prt ∧ (setHb k x s).hmp = s.hmp ∧
    (setHb k x s).fab = s.fab ∧ (setHb k x s).lane = s.lane ∧ (setHb k x s).bank = s.bank ∧
    (setHb k x s).overRun = s.overRun ∧ (setHb k x s).diagRun = s.diagRun ∧ (setHb k x s).spn = s.spn ∧
    (setHb k x s).cyc = s.cyc ∧ (setHb k x s).nv = s.nv ∧ (setHb k x s).pwr = s.pwr ∧ (setHb k x s).clk = s.clk ∧
    (setHb k x s).saf = s.saf ∧ (setHb k x s).jtag = s.jtag := by
  refine ⟨rfl, rfl, rfl, rfl, rfl, rfl, rfl, rfl, rfl, rfl, rfl, rfl, rfl, rfl, rfl, rfl, rfl, rfl, rfl, rfl,
    rfl, rfl, rfl, rfl, rfl, rfl, rfl, rfl, rfl, rfl, rfl, rfl, rfl, rfl, rfl, rfl, rfl, rfl, rfl, rfl⟩

@[simp] theorem setPgn_frame (k : Nat) (x : PgnSt) (s : State) :
    (setPgn k x s).pending = s.pending ∧ (setPgn k x s).free = s.free ∧ (setPgn k x s).out = s.out ∧
    (setPgn k x s).regs = s.regs ∧ (setPgn k x s).pwHeld = s.pwHeld ∧ (setPgn k x s).lt = s.lt ∧
    (setPgn k x s).ltRun = s.ltRun ∧ (setPgn k x s).evt = s.evt ∧ (setPgn k x s).bob = s.bob ∧
    (setPgn k x s).drm = s.drm ∧ (setPgn k x s).inst = s.inst ∧ (setPgn k x s).sti = s.sti ∧
    (setPgn k x s).macRetire = s.macRetire ∧ (setPgn k x s).tack = s.tack ∧ (setPgn k x s).gpioOut = s.gpioOut ∧
    (setPgn k x s).gpioIn = s.gpioIn ∧ (setPgn k x s).car = s.car ∧ (setPgn k x s).hb = s.hb ∧
    (setPgn k x s).legEn = s.legEn ∧ (setPgn k x s).legP = s.legP ∧ (setPgn k x s).lnk = s.lnk ∧
    (setPgn k x s).ep = s.ep ∧ (setPgn k x s).mem = s.mem ∧ (setPgn k x s).configured = s.configured ∧
    (setPgn k x s).cc = s.cc ∧ (setPgn k x s).par = s.par ∧ (setPgn k x s).prt = s.prt ∧ (setPgn k x s).hmp = s.hmp ∧
    (setPgn k x s).fab = s.fab ∧ (setPgn k x s).lane = s.lane ∧ (setPgn k x s).bank = s.bank ∧
    (setPgn k x s).overRun = s.overRun ∧ (setPgn k x s).diagRun = s.diagRun ∧ (setPgn k x s).spn = s.spn ∧
    (setPgn k x s).cyc = s.cyc ∧ (setPgn k x s).nv = s.nv ∧ (setPgn k x s).pwr = s.pwr ∧ (setPgn k x s).clk = s.clk ∧
    (setPgn k x s).saf = s.saf ∧ (setPgn k x s).jtag = s.jtag := by
  refine ⟨rfl, rfl, rfl, rfl, rfl, rfl, rfl, rfl, rfl, rfl, rfl, rfl, rfl, rfl, rfl, rfl, rfl, rfl, rfl, rfl,
    rfl, rfl, rfl, rfl, rfl, rfl, rfl, rfl, rfl, rfl, rfl, rfl, rfl, rfl, rfl, rfl, rfl, rfl, rfl, rfl⟩

@[simp] theorem setLnk_frame (k : Nat) (x : LnkSt) (s : State) :
    (setLnk k x s).pending = s.pending ∧ (setLnk k x s).free = s.free ∧ (setLnk k x s).out = s.out ∧
    (setLnk k x s).regs = s.regs ∧ (setLnk k x s).pwHeld = s.pwHeld ∧ (setLnk k x s).lt = s.lt ∧
    (setLnk k x s).ltRun = s.ltRun ∧ (setLnk k x s).evt = s.evt ∧ (setLnk k x s).bob = s.bob ∧
    (setLnk k x s).drm = s.drm ∧ (setLnk k x s).inst = s.inst ∧ (setLnk k x s).sti = s.sti ∧
    (setLnk k x s).macRetire = s.macRetire ∧ (setLnk k x s).tack = s.tack ∧ (setLnk k x s).gpioOut = s.gpioOut ∧
    (setLnk k x s).gpioIn = s.gpioIn ∧ (setLnk k x s).car = s.car ∧ (setLnk k x s).hb = s.hb ∧
    (setLnk k x s).pgn = s.pgn ∧ (setLnk k x s).legEn = s.legEn ∧ (setLnk k x s).legP = s.legP ∧
    (setLnk k x s).ep = s.ep ∧ (setLnk k x s).mem = s.mem ∧ (setLnk k x s).configured = s.configured ∧
    (setLnk k x s).cc = s.cc ∧ (setLnk k x s).par = s.par ∧ (setLnk k x s).prt = s.prt ∧ (setLnk k x s).hmp = s.hmp ∧
    (setLnk k x s).fab = s.fab ∧ (setLnk k x s).lane = s.lane ∧ (setLnk k x s).bank = s.bank ∧
    (setLnk k x s).overRun = s.overRun ∧ (setLnk k x s).diagRun = s.diagRun ∧ (setLnk k x s).spn = s.spn ∧
    (setLnk k x s).cyc = s.cyc ∧ (setLnk k x s).nv = s.nv ∧ (setLnk k x s).pwr = s.pwr ∧ (setLnk k x s).clk = s.clk ∧
    (setLnk k x s).saf = s.saf ∧ (setLnk k x s).jtag = s.jtag := by
  refine ⟨rfl, rfl, rfl, rfl, rfl, rfl, rfl, rfl, rfl, rfl, rfl, rfl, rfl, rfl, rfl, rfl, rfl, rfl, rfl, rfl,
    rfl, rfl, rfl, rfl, rfl, rfl, rfl, rfl, rfl, rfl, rfl, rfl, rfl, rfl, rfl, rfl, rfl, rfl, rfl, rfl⟩

@[simp] theorem setEp_frame (k : Nat) (x : EpSt) (s : State) :
    (setEp k x s).pending = s.pending ∧ (setEp k x s).free = s.free ∧ (setEp k x s).out = s.out ∧
    (setEp k x s).regs = s.regs ∧ (setEp k x s).pwHeld = s.pwHeld ∧ (setEp k x s).lt = s.lt ∧
    (setEp k x s).ltRun = s.ltRun ∧ (setEp k x s).evt = s.evt ∧ (setEp k x s).bob = s.bob ∧
    (setEp k x s).drm = s.drm ∧ (setEp k x s).inst = s.inst ∧ (setEp k x s).sti = s.sti ∧
    (setEp k x s).macRetire = s.macRetire ∧ (setEp k x s).tack = s.tack ∧ (setEp k x s).gpioOut = s.gpioOut ∧
    (setEp k x s).gpioIn = s.gpioIn ∧ (setEp k x s).car = s.car ∧ (setEp k x s).hb = s.hb ∧
    (setEp k x s).pgn = s.pgn ∧ (setEp k x s).legEn = s.legEn ∧ (setEp k x s).legP = s.legP ∧
    (setEp k x s).lnk = s.lnk ∧ (setEp k x s).mem = s.mem ∧ (setEp k x s).configured = s.configured ∧
    (setEp k x s).cc = s.cc ∧ (setEp k x s).par = s.par ∧ (setEp k x s).prt = s.prt ∧ (setEp k x s).hmp = s.hmp ∧
    (setEp k x s).fab = s.fab ∧ (setEp k x s).lane = s.lane ∧ (setEp k x s).bank = s.bank ∧
    (setEp k x s).overRun = s.overRun ∧ (setEp k x s).diagRun = s.diagRun ∧ (setEp k x s).spn = s.spn ∧
    (setEp k x s).cyc = s.cyc ∧ (setEp k x s).nv = s.nv ∧ (setEp k x s).pwr = s.pwr ∧ (setEp k x s).clk = s.clk ∧
    (setEp k x s).saf = s.saf ∧ (setEp k x s).jtag = s.jtag := by
  refine ⟨rfl, rfl, rfl, rfl, rfl, rfl, rfl, rfl, rfl, rfl, rfl, rfl, rfl, rfl, rfl, rfl, rfl, rfl, rfl, rfl,
    rfl, rfl, rfl, rfl, rfl, rfl, rfl, rfl, rfl, rfl, rfl, rfl, rfl, rfl, rfl, rfl, rfl, rfl, rfl, rfl⟩

@[simp] theorem setLane_frame (k : Nat) (x : LaneSt) (s : State) :
    (setLane k x s).pending = s.pending ∧ (setLane k x s).free = s.free ∧ (setLane k x s).out = s.out ∧
    (setLane k x s).regs = s.regs ∧ (setLane k x s).pwHeld = s.pwHeld ∧ (setLane k x s).lt = s.lt ∧
    (setLane k x s).ltRun = s.ltRun ∧ (setLane k x s).evt = s.evt ∧ (setLane k x s).bob = s.bob ∧
    (setLane k x s).drm = s.drm ∧ (setLane k x s).inst = s.inst ∧ (setLane k x s).sti = s.sti ∧
    (setLane k x s).macRetire = s.macRetire ∧ (setLane k x s).tack = s.tack ∧ (setLane k x s).gpioOut = s.gpioOut ∧
    (setLane k x s).gpioIn = s.gpioIn ∧ (setLane k x s).car = s.car ∧ (setLane k x s).hb = s.hb ∧
    (setLane k x s).pgn = s.pgn ∧ (setLane k x s).legEn = s.legEn ∧ (setLane k x s).legP = s.legP ∧
    (setLane k x s).lnk = s.lnk ∧ (setLane k x s).ep = s.ep ∧ (setLane k x s).mem = s.mem ∧
    (setLane k x s).configured = s.configured ∧ (setLane k x s).cc = s.cc ∧ (setLane k x s).par = s.par ∧
    (setLane k x s).prt = s.prt ∧ (setLane k x s).hmp = s.hmp ∧ (setLane k x s).fab = s.fab ∧
    (setLane k x s).bank = s.bank ∧ (setLane k x s).overRun = s.overRun ∧ (setLane k x s).diagRun = s.diagRun ∧
    (setLane k x s).spn = s.spn ∧ (setLane k x s).cyc = s.cyc ∧ (setLane k x s).nv = s.nv ∧
    (setLane k x s).pwr = s.pwr ∧ (setLane k x s).clk = s.clk ∧ (setLane k x s).saf = s.saf ∧
    (setLane k x s).jtag = s.jtag := by
  refine ⟨rfl, rfl, rfl, rfl, rfl, rfl, rfl, rfl, rfl, rfl, rfl, rfl, rfl, rfl, rfl, rfl, rfl, rfl, rfl, rfl,
    rfl, rfl, rfl, rfl, rfl, rfl, rfl, rfl, rfl, rfl, rfl, rfl, rfl, rfl, rfl, rfl, rfl, rfl, rfl, rfl⟩

@[simp] theorem setBank_frame (k : Nat) (x : AdcSt) (s : State) :
    (setBank k x s).pending = s.pending ∧ (setBank k x s).free = s.free ∧ (setBank k x s).out = s.out ∧
    (setBank k x s).regs = s.regs ∧ (setBank k x s).pwHeld = s.pwHeld ∧ (setBank k x s).lt = s.lt ∧
    (setBank k x s).ltRun = s.ltRun ∧ (setBank k x s).evt = s.evt ∧ (setBank k x s).bob = s.bob ∧
    (setBank k x s).drm = s.drm ∧ (setBank k x s).inst = s.inst ∧ (setBank k x s).sti = s.sti ∧
    (setBank k x s).macRetire = s.macRetire ∧ (setBank k x s).tack = s.tack ∧ (setBank k x s).gpioOut = s.gpioOut ∧
    (setBank k x s).gpioIn = s.gpioIn ∧ (setBank k x s).car = s.car ∧ (setBank k x s).hb = s.hb ∧
    (setBank k x s).pgn = s.pgn ∧ (setBank k x s).legEn = s.legEn ∧ (setBank k x s).legP = s.legP ∧
    (setBank k x s).lnk = s.lnk ∧ (setBank k x s).ep = s.ep ∧ (setBank k x s).mem = s.mem ∧
    (setBank k x s).configured = s.configured ∧ (setBank k x s).cc = s.cc ∧ (setBank k x s).par = s.par ∧
    (setBank k x s).prt = s.prt ∧ (setBank k x s).hmp = s.hmp ∧ (setBank k x s).fab = s.fab ∧
    (setBank k x s).lane = s.lane ∧ (setBank k x s).overRun = s.overRun ∧ (setBank k x s).diagRun = s.diagRun ∧
    (setBank k x s).spn = s.spn ∧ (setBank k x s).cyc = s.cyc ∧ (setBank k x s).nv = s.nv ∧
    (setBank k x s).pwr = s.pwr ∧ (setBank k x s).clk = s.clk ∧ (setBank k x s).saf = s.saf ∧
    (setBank k x s).jtag = s.jtag := by
  refine ⟨rfl, rfl, rfl, rfl, rfl, rfl, rfl, rfl, rfl, rfl, rfl, rfl, rfl, rfl, rfl, rfl, rfl, rfl, rfl, rfl,
    rfl, rfl, rfl, rfl, rfl, rfl, rfl, rfl, rfl, rfl, rfl, rfl, rfl, rfl, rfl, rfl, rfl, rfl, rfl, rfl⟩

@[simp] theorem setChan_frame (k : Nat) (x : HmpCh) (s : State) :
    (setChan k x s).pending = s.pending ∧ (setChan k x s).free = s.free ∧ (setChan k x s).out = s.out ∧
    (setChan k x s).regs = s.regs ∧ (setChan k x s).pwHeld = s.pwHeld ∧ (setChan k x s).lt = s.lt ∧
    (setChan k x s).ltRun = s.ltRun ∧ (setChan k x s).evt = s.evt ∧ (setChan k x s).bob = s.bob ∧
    (setChan k x s).drm = s.drm ∧ (setChan k x s).inst = s.inst ∧ (setChan k x s).sti = s.sti ∧
    (setChan k x s).macRetire = s.macRetire ∧ (setChan k x s).tack = s.tack ∧ (setChan k x s).gpioOut = s.gpioOut ∧
    (setChan k x s).gpioIn = s.gpioIn ∧ (setChan k x s).car = s.car ∧ (setChan k x s).hb = s.hb ∧
    (setChan k x s).pgn = s.pgn ∧ (setChan k x s).legEn = s.legEn ∧ (setChan k x s).legP = s.legP ∧
    (setChan k x s).lnk = s.lnk ∧ (setChan k x s).ep = s.ep ∧ (setChan k x s).mem = s.mem ∧
    (setChan k x s).configured = s.configured ∧ (setChan k x s).cc = s.cc ∧ (setChan k x s).par = s.par ∧
    (setChan k x s).prt = s.prt ∧ (setChan k x s).fab = s.fab ∧ (setChan k x s).lane = s.lane ∧
    (setChan k x s).bank = s.bank ∧ (setChan k x s).overRun = s.overRun ∧ (setChan k x s).diagRun = s.diagRun ∧
    (setChan k x s).spn = s.spn ∧ (setChan k x s).cyc = s.cyc ∧ (setChan k x s).nv = s.nv ∧
    (setChan k x s).pwr = s.pwr ∧ (setChan k x s).clk = s.clk ∧ (setChan k x s).saf = s.saf ∧
    (setChan k x s).jtag = s.jtag := by
  refine ⟨rfl, rfl, rfl, rfl, rfl, rfl, rfl, rfl, rfl, rfl, rfl, rfl, rfl, rfl, rfl, rfl, rfl, rfl, rfl, rfl,
    rfl, rfl, rfl, rfl, rfl, rfl, rfl, rfl, rfl, rfl, rfl, rfl, rfl, rfl, rfl, rfl, rfl, rfl, rfl, rfl⟩

@[simp] theorem setDma_frame (k : Nat) (x : DmaSt) (s : State) :
    (setDma k x s).pending = s.pending ∧ (setDma k x s).free = s.free ∧ (setDma k x s).out = s.out ∧
    (setDma k x s).regs = s.regs ∧ (setDma k x s).pwHeld = s.pwHeld ∧ (setDma k x s).lt = s.lt ∧
    (setDma k x s).ltRun = s.ltRun ∧ (setDma k x s).evt = s.evt ∧ (setDma k x s).bob = s.bob ∧
    (setDma k x s).drm = s.drm ∧ (setDma k x s).inst = s.inst ∧ (setDma k x s).sti = s.sti ∧
    (setDma k x s).macRetire = s.macRetire ∧ (setDma k x s).tack = s.tack ∧ (setDma k x s).gpioOut = s.gpioOut ∧
    (setDma k x s).gpioIn = s.gpioIn ∧ (setDma k x s).car = s.car ∧ (setDma k x s).hb = s.hb ∧
    (setDma k x s).pgn = s.pgn ∧ (setDma k x s).legEn = s.legEn ∧ (setDma k x s).legP = s.legP ∧
    (setDma k x s).lnk = s.lnk ∧ (setDma k x s).ep = s.ep ∧ (setDma k x s).mem = s.mem ∧
    (setDma k x s).configured = s.configured ∧ (setDma k x s).cc = s.cc ∧ (setDma k x s).par = s.par ∧
    (setDma k x s).prt = s.prt ∧ (setDma k x s).hmp = s.hmp ∧ (setDma k x s).lane = s.lane ∧
    (setDma k x s).bank = s.bank ∧ (setDma k x s).overRun = s.overRun ∧ (setDma k x s).diagRun = s.diagRun ∧
    (setDma k x s).spn = s.spn ∧ (setDma k x s).cyc = s.cyc ∧ (setDma k x s).nv = s.nv ∧ (setDma k x s).pwr = s.pwr ∧
    (setDma k x s).clk = s.clk ∧ (setDma k x s).saf = s.saf ∧ (setDma k x s).jtag = s.jtag := by
  refine ⟨rfl, rfl, rfl, rfl, rfl, rfl, rfl, rfl, rfl, rfl, rfl, rfl, rfl, rfl, rfl, rfl, rfl, rfl, rfl, rfl,
    rfl, rfl, rfl, rfl, rfl, rfl, rfl, rfl, rfl, rfl, rfl, rfl, rfl, rfl, rfl, rfl, rfl, rfl, rfl, rfl⟩

@[simp] theorem setLock_frame (k : Nat) (x : Lock) (s : State) :
    (setLock k x s).pending = s.pending ∧ (setLock k x s).free = s.free ∧ (setLock k x s).out = s.out ∧
    (setLock k x s).regs = s.regs ∧ (setLock k x s).pwHeld = s.pwHeld ∧ (setLock k x s).lt = s.lt ∧
    (setLock k x s).ltRun = s.ltRun ∧ (setLock k x s).evt = s.evt ∧ (setLock k x s).bob = s.bob ∧
    (setLock k x s).drm = s.drm ∧ (setLock k x s).inst = s.inst ∧ (setLock k x s).sti = s.sti ∧
    (setLock k x s).macRetire = s.macRetire ∧ (setLock k x s).gpioOut = s.gpioOut ∧
    (setLock k x s).gpioIn = s.gpioIn ∧ (setLock k x s).car = s.car ∧ (setLock k x s).hb = s.hb ∧
    (setLock k x s).pgn = s.pgn ∧ (setLock k x s).legEn = s.legEn ∧ (setLock k x s).legP = s.legP ∧
    (setLock k x s).lnk = s.lnk ∧ (setLock k x s).ep = s.ep ∧ (setLock k x s).mem = s.mem ∧
    (setLock k x s).configured = s.configured ∧ (setLock k x s).cc = s.cc ∧ (setLock k x s).par = s.par ∧
    (setLock k x s).prt = s.prt ∧ (setLock k x s).hmp = s.hmp ∧ (setLock k x s).fab = s.fab ∧
    (setLock k x s).lane = s.lane ∧ (setLock k x s).bank = s.bank ∧ (setLock k x s).overRun = s.overRun ∧
    (setLock k x s).diagRun = s.diagRun ∧ (setLock k x s).spn = s.spn ∧ (setLock k x s).cyc = s.cyc ∧
    (setLock k x s).nv = s.nv ∧ (setLock k x s).pwr = s.pwr ∧ (setLock k x s).clk = s.clk ∧
    (setLock k x s).saf = s.saf ∧ (setLock k x s).jtag = s.jtag := by
  refine ⟨rfl, rfl, rfl, rfl, rfl, rfl, rfl, rfl, rfl, rfl, rfl, rfl, rfl, rfl, rfl, rfl, rfl, rfl, rfl, rfl,
    rfl, rfl, rfl, rfl, rfl, rfl, rfl, rfl, rfl, rfl, rfl, rfl, rfl, rfl, rfl, rfl, rfl, rfl, rfl, rfl⟩

@[simp] theorem stBytes_frame (a : Nat) (l : List Byte) (s : State) :
    (stBytes a l s).pending = s.pending ∧ (stBytes a l s).free = s.free ∧ (stBytes a l s).out = s.out ∧
    (stBytes a l s).regs = s.regs ∧ (stBytes a l s).pwHeld = s.pwHeld ∧ (stBytes a l s).lt = s.lt ∧
    (stBytes a l s).ltRun = s.ltRun ∧ (stBytes a l s).evt = s.evt ∧ (stBytes a l s).bob = s.bob ∧
    (stBytes a l s).drm = s.drm ∧ (stBytes a l s).inst = s.inst ∧ (stBytes a l s).sti = s.sti ∧
    (stBytes a l s).macRetire = s.macRetire ∧ (stBytes a l s).tack = s.tack ∧ (stBytes a l s).gpioOut = s.gpioOut ∧
    (stBytes a l s).gpioIn = s.gpioIn ∧ (stBytes a l s).car = s.car ∧ (stBytes a l s).hb = s.hb ∧
    (stBytes a l s).pgn = s.pgn ∧ (stBytes a l s).legEn = s.legEn ∧ (stBytes a l s).legP = s.legP ∧
    (stBytes a l s).lnk = s.lnk ∧ (stBytes a l s).ep = s.ep ∧ (stBytes a l s).configured = s.configured ∧
    (stBytes a l s).cc = s.cc ∧ (stBytes a l s).par = s.par ∧ (stBytes a l s).prt = s.prt ∧
    (stBytes a l s).hmp = s.hmp ∧ (stBytes a l s).fab = s.fab ∧ (stBytes a l s).lane = s.lane ∧
    (stBytes a l s).bank = s.bank ∧ (stBytes a l s).overRun = s.overRun ∧ (stBytes a l s).diagRun = s.diagRun ∧
    (stBytes a l s).spn = s.spn ∧ (stBytes a l s).cyc = s.cyc ∧ (stBytes a l s).nv = s.nv ∧
    (stBytes a l s).pwr = s.pwr ∧ (stBytes a l s).clk = s.clk ∧ (stBytes a l s).saf = s.saf ∧
    (stBytes a l s).jtag = s.jtag := by
  refine ⟨rfl, rfl, rfl, rfl, rfl, rfl, rfl, rfl, rfl, rfl, rfl, rfl, rfl, rfl, rfl, rfl, rfl, rfl, rfl, rfl,
    rfl, rfl, rfl, rfl, rfl, rfl, rfl, rfl, rfl, rfl, rfl, rfl, rfl, rfl, rfl, rfl, rfl, rfl, rfl, rfl⟩

end Sys2Proof.Machine
end

