-- ==== Sys2Proof/Laws/Regs.lean ====
section
/-! SUPPORT. Reading after writing: tables, register words, register fields. -/

namespace Sys2Proof

theorem Tbl.get_put_same {α : Type} (d : α) (k : Nat) (x : α) (t : Tbl α) : Tbl.get d (Tbl.put k x t) k = x := by
  induction t with
  | nil => simp [Tbl.put, Tbl.get]
  | cons p t ih =>
    obtain ⟨j, y⟩ := p
    unfold Tbl.put
    split
    · simp [Tbl.get]
    · split
      · simp [Tbl.get]
      · simp_all [Tbl.get]

theorem Tbl.get_put_ne {α : Type} (d : α) {j k : Nat} (h : j ≠ k) (x : α) (t : Tbl α) :
    Tbl.get d (Tbl.put k x t) j = Tbl.get d t j := by
  induction t with
  | nil => simp [Tbl.put, Tbl.get, h]
  | cons p t ih =>
    obtain ⟨i, y⟩ := p
    unfold Tbl.put
    split
    · simp [Tbl.get, h]
    · split
      · rename_i hk; simp [Tbl.get, h, ← hk]
      · simp [Tbl.get, ih]

/-- A table read after a write. -/
theorem Tbl.get_put {α : Type} (d : α) (j k : Nat) (x : α) (t : Tbl α) :
    Tbl.get d (Tbl.put k x t) j = if j = k then x else Tbl.get d t j := by
  split
  · rename_i h; rw [h]; exact Tbl.get_put_same d k x t
  · rename_i h; exact Tbl.get_put_ne d h x t

/-- A field reads back what was written to it. -/
theorem fldGet_fldSet (F : Fld) (h : F.lo + F.width ≤ 32) (w : Word) (v : Nat) : fldGet F (fldSet F w v) = v % 2 ^ F.width := by
  have hb : ∀ i, (fldGet F (fldSet F w v)).testBit i = (v % 2 ^ F.width).testBit i := by
    intro i
    unfold fldGet fldSet
    simp only [BitVec.testBit_toNat, BitVec.getLsbD_and, BitVec.getLsbD_ushiftRight, BitVec.getLsbD_or, BitVec.getLsbD_not,
      BitVec.getLsbD_shiftLeft, BitVec.getLsbD_ofNat, Nat.testBit_two_pow_sub_one, Nat.testBit_mod_two_pow]
    by_cases hi : i < F.width
    · have h1 : F.lo + i < 32 := by omega
      have h2 : i < 32 := by omega
      simp [hi, h1, h2]
    · simp [hi]
  exact Nat.eq_of_testBit_eq hb

/-- A field is not touched by a write of a field beside it. -/
theorem fldGet_fldSet_other (F G : Fld) (h : F.lo + F.width ≤ G.lo ∨ G.lo + G.width ≤ F.lo) (w : Word) (v : Nat) :
    fldGet F (fldSet G w v) = fldGet F w := by
  have hb : ∀ i, (fldGet F (fldSet G w v)).testBit i = (fldGet F w).testBit i := by
    intro i
    unfold fldGet fldSet
    simp only [BitVec.testBit_toNat, BitVec.getLsbD_and, BitVec.getLsbD_ushiftRight, BitVec.getLsbD_or, BitVec.getLsbD_not,
      BitVec.getLsbD_shiftLeft, BitVec.getLsbD_ofNat, Nat.testBit_two_pow_sub_one, Nat.testBit_mod_two_pow]
    by_cases hi : i < F.width
    · by_cases hG : F.lo + i < G.lo
      · by_cases hw : F.lo + i < 32
        · simp [hG, hw, hi]
        · have : w.getLsbD (F.lo + i) = false := BitVec.getLsbD_of_ge _ _ (by omega)
          simp [hw, this]
      · have h3 : ¬ F.lo + i - G.lo < G.width := by omega
        by_cases hw : F.lo + i < 32
        · simp [h3, hw, hi]
        · have : w.getLsbD (F.lo + i) = false := BitVec.getLsbD_of_ge _ _ (by omega)
          simp [hw, this]
    · simp [hi]
  exact Nat.eq_of_testBit_eq hb

namespace Machine

theorem rdW_wrW (a b : Nat) (w : Word) (s : State) : rdW a (wrW b w s) = if a = b then w else rdW a s :=
  Tbl.get_put _ a b w s.regs

theorem rd_wr (a b n : Nat) (s : State) : rd a (wr b n s) = if a = b then n % 2 ^ 32 else rd a s := by
  unfold rd wr
  rw [rdW_wrW]
  split
  · exact BitVec.toNat_ofNat ..
  · rfl

theorem rdW_wr_ne {a b : Nat} (h : a ≠ b) (n : Nat) (s : State) : rdW a (wr b n s) = rdW a s := by
  unfold wr; rw [rdW_wrW, if_neg h]

theorem rdW_setF_ne {a b : Nat} (h : a ≠ b) (F : Fld) (v : Nat) (s : State) : rdW a (setF b F v s) = rdW a s := by
  unfold setF; rw [rdW_wrW, if_neg h]

theorem rdW_setF (a : Nat) (F : Fld) (v : Nat) (s : State) : rdW a (setF a F v s) = fldSet F (rdW a s) v := by
  unfold setF; rw [rdW_wrW, if_pos rfl]

theorem fl_setF (a : Nat) (F : Fld) (h : F.lo + F.width ≤ 32) (v : Nat) (s : State) :
    fl a F (setF a F v s) = v % 2 ^ F.width := by
  unfold fl; rw [rdW_setF, fldGet_fldSet F h]

theorem fl_setF_other (a : Nat) (F G : Fld) (h : F.lo + F.width ≤ G.lo ∨ G.lo + G.width ≤ F.lo) (v : Nat) (s : State) :
    fl a F (setF a G v s) = fl a F s := by
  unfold fl; rw [rdW_setF, fldGet_fldSet_other F G h]

theorem fl_setF_ne {a b : Nat} (h : a ≠ b) (F G : Fld) (v : Nat) (s : State) : fl a F (setF b G v s) = fl a F s := by
  unfold fl; rw [rdW_setF_ne h]

theorem on_setB (a : Nat) (F : Fld) (h : F.lo + F.width ≤ 32) (h1 : 0 < F.width) (b : Bool) (s : State) :
    on a F (setB a F b s) = b := by
  unfold on setB
  rw [fl_setF a F h]
  have : 1 < 2 ^ F.width := Nat.one_lt_two_pow (by omega)
  cases b <;> simp [Nat.mod_eq_of_lt this]

theorem rd64_wr64 {lo hi : Nat} (h : lo ≠ hi) (n : Nat) (s : State) : rd64 lo hi (wr64 lo hi n s) = n % 2 ^ 64 := by
  unfold rd64 wr64
  rw [rd_wr, rd_wr, rd_wr, if_neg h, if_pos rfl, if_pos rfl]
  omega

end Machine

end Sys2Proof
end

