-- ==== Sys2Proof/Tests/Slice0.lean ====
section
/-! SUPPORT. Tests: for every statement with hypotheses, states and operands that meet them; ill-formed operands; worked examples
of the manual. -/

open Sys2Proof Sys2Proof.Machine

namespace Sys2Proof.Tests

section

set_option Elab.async false

/-! Small states. -/

/-- A device after its first lock, configured, with its supplies good. -/
def st0 : State :=
  { State.reset with configured := true, ltRun := true, lt := 16000000000, cc := 0, pwr := { PwrSt.reset with held := false } }

/-- An image of one empty NOTE section, with an all-zero key in slot 0. -/
def img0 : List (BitVec 8) :=
  (List.range 256).map (fun i => Tbl.get 0#8 [(0, 0x48#8), (1, 0x4C#8), (2, 0x48#8), (3, 0x46#8), (4, 1#8), (6, 1#8), (9, 1#8),
    (12, 0xC0#8), (24, 1#8), (26, 0x26#8), (27, 7#8), (128, 0xFF#8), (132, 0xC0#8)] i)

/-- The bytes that the signature check reads, for the digest 1: public key G, r the first coordinate of G, s = 1 + r (the key 1
and the nonce 1 give it by hand). -/
def img1 : List Nat :=
  [0, 0, 0, 0, 0, 0, 0, 0, 0, 0, 0, 0, 128, 0, 0, 0] ++ List.replicate 12 0
    ++ (List.range 32).map (fun i => ecG.1 / 256 ^ i % 256) ++ (List.range 32).map (fun i => ecG.2 / 256 ^ i % 256)
    ++ List.replicate 36 0
    ++ (List.range 32).map (fun i => ecG.1 % ecN / 256 ^ i % 256) ++ (List.range 32).map (fun i => (ecG.1 + 1) % ecN / 256 ^ i % 256)

/-- The signature of `img1` over the digest 1 is genuine. -/
theorem test_signed : signed_ img1 (List.replicate 31 0 ++ [1]) = true := by decide +kernel

/-- A device whose slot `n` fires now with an action, a target and an ARG. -/
def fireSt (n act target arg : Nat) (s : State) : State :=
  { s with tack := { s.tack with slots := [(n, ⟨1 + 256 * act, target + 65536 * arg, 0, 0, 1, 0, 0⟩)], due := [(n, some s.lt)] } }

/-- A Stage 0 with a Drum in a state, whose step slot 4095 fires now; the time limits are 1 ms, PVMAX 10 and NREP 3. -/
def drumSt (x : Nat) (s : State) : State :=
  fireSt 4095 actDrum 0 0
    (setB Reg.SAF_STAT Reg.SAF_STAT_PATHA true (setB Reg.SAF_STAT Reg.SAF_STAT_PATHB true
      (setB (Reg.DRM_CFG 0) Reg.DRM_CFG_AC true (setF (Reg.DRM_SSTAT 0) Reg.DRM_SSTAT_STATE x
        (wr (Reg.DRM_PVMAX 0) 10 (wr (Reg.DRM_THMAX 0) 1 (wr (Reg.DRM_TRAMP 0) 1 (setF (Reg.DRM_SMCFG 0) Reg.DRM_SMCFG_NREP 3
          (setF (Reg.DRM_SMCFG 0) Reg.DRM_SMCFG_NREC 5
          (setBob 0 { BobSt.reset with outer := 1 } (wr (Reg.BOB_FNOM_HI 0) 1 s)))))))))))

/-! Hypotheses met. -/

/-- What the clauses of DeviceResets ask of a command and a state is met. -/
theorem test_meets_DeviceResets :
    (∃ (s : State), s.pwr.held = false)
    ∧ (∃ (s : State), s.pwr.held = true)
    ∧ (∃ (rail : Fin 9) (below : BitVec 9) (s : State), s.pwr.saveAt = none ∧ below.toNat ||| 2 ^ rail.val ≠ 511)
    ∧ (∃ (rail : Fin 9) (below : BitVec 9) (s : State), s.pwr.saveAt = none ∧ below.toNat ||| 2 ^ rail.val = 511)
    ∧ (∃ (s : State), s.pwr.saveAt.isSome = true)
    ∧ (∃ (s : State), s.pwr.held = false) := by
  refine ⟨?_, ?_, ?_, ?_, ?_, ?_⟩
  · exact ⟨st0, by decide +kernel⟩
  · exact ⟨State.reset, by decide +kernel⟩
  · exact ⟨8, 0x3, st0, by decide +kernel⟩
  · exact ⟨8, 0xFF, st0, by decide +kernel⟩
  · exact ⟨{ st0 with pwr := { st0.pwr with saveAt := some (0, true) } }, by decide +kernel⟩
  · exact ⟨st0, by decide +kernel⟩

/-- What the clauses of ImageLoadSteps ask of a command and a state is met. -/
theorem test_meets_ImageLoadSteps :
    (∃ (s : State), s.pwr.held = false ∧ s.ltRun = false)
    ∧ (∃ (image : List (BitVec 8)) (flash : Bool) (s : State), s.ltRun = true ∧ loadState s = 1 ∧ imHeaderCheck flash
        (image.map BitVec.toNat) s = none)
    ∧ (∃ (image : List (BitVec 8)) (flash : Bool) (c : Nat) (r : Nat) (s : State), s.ltRun = true ∧ loadState s = 1
        ∧ imHeaderCheck flash (image.map BitVec.toNat) s = some (c, r))
    ∧ (∃ (ok : Bool) (img : List Nat) (s : State), s.pwr.train = true ∧ s.pwr.img = some img ∧ ok = true)
    ∧ (∃ (ok : Bool) (img : List Nat) (s : State), s.pwr.train = true ∧ s.pwr.img = some img ∧ ok = false)
    ∧ (∃ (img : List Nat) (s : State), s.pwr.img = some img ∧ loadState s = 2 ∧ s.pwr.train = false ∧ signed_ img
        s.pwr.digest = true ∧ s.nv.arb ≤ imSvn img ∧ imSvn img ≤ 64 ∧ (imTestmode img && s.nv.testlock) = false)
    ∧ (∃ (img : List Nat) (s : State), s.pwr.img = some img ∧ loadState s = 2 ∧ s.pwr.train = false ∧ signed_ img
        s.pwr.digest = false ∧ on Reg.SYS_CFGSTAT Reg.SYS_CFGSTAT_REPEAT s = false)
    ∧ (∃ (img : List Nat) (s : State), s.pwr.img = some img ∧ loadState s = 2 ∧ s.pwr.train = false ∧ signed_ img
        s.pwr.digest = false ∧ on Reg.SYS_CFGSTAT Reg.SYS_CFGSTAT_REPEAT s = true)
    ∧ (∃ (img : List Nat) (s : State), s.pwr.img = some img ∧ loadState s = 2 ∧ s.pwr.train = false ∧ signed_ img
        s.pwr.digest = true ∧ (imSvn img < s.nv.arb ∨ 64 < imSvn img)) := by
  refine ⟨?_, ?_, ?_, ?_, ?_, ?_, ?_, ?_, ?_⟩
  · exact ⟨{ State.reset with pwr := { PwrSt.reset with held := false } }, by decide +kernel⟩
  · exact ⟨img0, true,
      { setF Reg.SYS_CFGSTAT Reg.SYS_CFGSTAT_STATE 1 State.reset with ltRun := true, nv := { NvSt.reset with keys := [(0, sha256 (List.replicate 64 0))] } },
      by decide +kernel⟩
  · exact ⟨[], false, 1, 0, { setF Reg.SYS_CFGSTAT Reg.SYS_CFGSTAT_STATE 1 State.reset with ltRun := true }, by
      decide +kernel⟩
  · exact ⟨true, [1], { State.reset with pwr := { PwrSt.reset with train := true, img := some [1] } }, by
      decide +kernel⟩
  · exact ⟨false, [1], { State.reset with pwr := { PwrSt.reset with train := true, img := some [1] } }, by
      decide +kernel⟩
  · exact ⟨img1,
      { setF Reg.SYS_CFGSTAT Reg.SYS_CFGSTAT_STATE 2 State.reset with pwr := { PwrSt.reset with img := some img1, digest := List.replicate 31 0 ++ [1] } },
      ⟨rfl, by decide +kernel, rfl, test_signed, by decide +kernel, by decide +kernel, by decide +kernel⟩⟩
  · exact ⟨[1],
      { setF Reg.SYS_CFGSTAT Reg.SYS_CFGSTAT_STATE 2 State.reset with pwr := { PwrSt.reset with img := some [1] } }, by
      decide +kernel⟩
  · exact ⟨[1],
      { setB Reg.SYS_CFGSTAT Reg.SYS_CFGSTAT_REPEAT true (setF Reg.SYS_CFGSTAT Reg.SYS_CFGSTAT_STATE 2 State.reset) with pwr := { PwrSt.reset with img := some [1] } },
      by decide +kernel⟩
  · exact ⟨img1,
      { setF Reg.SYS_CFGSTAT Reg.SYS_CFGSTAT_STATE 2 State.reset with nv := { NvSt.reset with arb := 2 }, pwr := { PwrSt.reset with img := some img1, digest := List.replicate 31 0 ++ [1] } },
      ⟨rfl, by decide +kernel, rfl, test_signed, by decide +kernel⟩⟩

/-- What the clauses of ConfigurationTakesEffect ask of a command and a state is met. -/
theorem test_meets_ConfigurationTakesEffect :
    (∃ (img : List Nat) (s : State), s.pwr.img = some img ∧ loadState s = 3 ∧ s.configured = false)
    ∧ (∃ (s : State), rd Reg.SYS_GFSTAT (gfShow s) % 256 = 0x7F)
    ∧ (∃ (s : State), rd Reg.SYS_GFSTAT (gfShow s) % 256 ≠ 0x7F) := by
  refine ⟨?_, ?_, ?_⟩
  · exact ⟨[1], setLoad 3 { State.reset with ltRun := true, pwr := { PwrSt.reset with img := some [1] } }, by
      decide +kernel⟩
  · exact ⟨setB Reg.SYS_GFSTAT Reg.SYS_GFSTAT_CYC true (setB Reg.TMB_STAT Reg.TMB_STAT_TESTMODE true st0), by
      decide +kernel⟩
  · exact ⟨st0, by decide +kernel⟩

/-- What the clauses of SuppliesAndRetainSave ask of a command and a state is met. -/
theorem test_meets_SuppliesAndRetainSave :
    (∃ (s : State), s.ltRun = true)
    ∧ (∃ (s : State), s.ltRun = true ∧ supGood s = true ∧ s.configured = true ∧ hasSectors s = true ∧ saving s = false
        ∧ s.pwr.eraseOwed = false ∧ s.pwr.erasing = false)
    ∧ (∃ (s : State), s.ltRun = true ∧ supGood s = false)
    ∧ (∃ (s : State), s.pwr.snap.isSome = true ∧ s.pwr.saveAt = none ∧ saving s = true)
    ∧ (∃ (ok : Bool) (w : Nat) (n : Nat) (d : List Byte) (s : State), s.pwr.saveAt = some (w, true) ∧ s.pwr.snap = some
        (n, d) ∧ ok = true)
    ∧ (∃ (ok : Bool) (w : Nat) (n : Nat) (d : List Byte) (s : State), s.pwr.saveAt = some (w, true) ∧ s.pwr.snap = some
        (n, d) ∧ ok = false)
    ∧ (∃ (s : State), s.pwr.eraseOwed = true ∧ s.pwr.erasing = false ∧ supGood s = true ∧ saving s = false ∧ s.pwr.busy
        = false)
    ∧ (∃ (s : State), s.pwr.erasing = true) := by
  refine ⟨?_, ?_, ?_, ?_, ?_, ?_, ?_, ?_⟩
  · exact ⟨st0, by decide +kernel⟩
  · exact ⟨setBitAt Reg.PWR_STAT 9 true (wr Reg.PWR_SECTB 4096 st0), by decide +kernel⟩
  · exact ⟨setBitAt Reg.PWR_STAT 9 false st0, by decide +kernel⟩
  · exact ⟨setBitAt Reg.PWR_STAT 10 true { st0 with pwr := { st0.pwr with snap := some (5, []) } }, by decide +kernel⟩
  · exact ⟨true, 3, 5, [1#8], setBitAt Reg.PWR_STAT 10 true
      { st0 with pwr := { st0.pwr with snap := some (5, [1#8]), saveAt := some (3, true) } }, by decide +kernel⟩
  · exact ⟨false, 3, 5, [1#8], setBitAt Reg.PWR_STAT 10 true
      { st0 with pwr := { st0.pwr with snap := some (5, [1#8]), saveAt := some (3, true) } }, by decide +kernel⟩
  · exact ⟨setBitAt Reg.PWR_STAT 9 true { st0 with pwr := { st0.pwr with eraseOwed := true } }, by decide +kernel⟩
  · exact ⟨setBitAt Reg.PWR_STAT 11 true { st0 with pwr := { st0.pwr with erasing := true } }, by decide +kernel⟩

/-- What the clauses of FlashAndFuses ask of a command and a state is met. -/
theorem test_meets_FlashAndFuses :
    (∃ (by_ : Fin 19) (s : State), mayStore Reg.PWR_NVMCMD by_ s = true ∧ 1 ≤ rd Reg.PWR_NVMLEN s % 2 ^ 13 ∧ rd
        Reg.PWR_NVMLEN s % 2 ^ 13 ≤ 4096 ∧ rd Reg.PWR_NVMDST s + rd Reg.PWR_NVMLEN s % 2 ^ 13 ≤ rd Reg.PWR_USRSIZE s
        ∧ inData (rd Reg.PWR_NVMSRC s) (rd Reg.PWR_NVMLEN s % 2 ^ 13) = true ∧ s.pwr.queue.length < 8 ∧ saving s
        = false)
    ∧ (∃ (by_ : Fin 19) (s : State), mayStore Reg.PWR_NVMCMD by_ s = true ∧ rd Reg.PWR_USRSIZE s < rd Reg.PWR_NVMDST s
        + rd Reg.PWR_NVMLEN s % 2 ^ 13)
    ∧ (∃ (by_ : Fin 19) (s : State), mayStore Reg.PWR_NVMCMD by_ s = true ∧ rd Reg.PWR_NVMDST s < rd Reg.PWR_USRSIZE s
        ∧ s.pwr.queue.length < 8 ∧ saving s = false)
    ∧ (∃ (ok : Bool) (d : Nat) (q : List NvmOp) (s : State), s.pwr.busy = true ∧ s.pwr.queue = NvmOp.erase d :: q ∧ ok
        = true)
    ∧ (∃ (ok : Bool) (n : Nat) (q : List NvmOp) (s : State), s.pwr.busy = true ∧ s.pwr.queue = NvmOp.arb n :: q ∧ ok
        = true ∧ s.nv.arb < n)
    ∧ (∃ (ok : Bool) (k : Nat) (q : List NvmOp) (s : State), s.pwr.busy = true ∧ s.pwr.queue = NvmOp.revoke k :: q ∧ ok
        = true)
    ∧ (∃ (slot : Fin 4) (ok : Bool) (by_ : Fin 19) (s : State), by_ = 18 ∧ unconfigured s = true ∧ s.nv.keys.any (fun p
        => p.1 == slot) = false ∧ s.nv.revoked.testBit slot = false ∧ ok = true)
    ∧ (∃ (slot : Fin 4) (by_ : Fin 19) (s : State), by_ = 18 ∧ unconfigured s = true ∧ (s.nv.keys.any (fun p => p.1 ==
        slot) = true ∨ s.nv.revoked.testBit slot = true))
    ∧ (∃ (by_ : Fin 19) (s : State), by_ = 18 ∧ unconfigured s = true) := by
  refine ⟨?_, ?_, ?_, ?_, ?_, ?_, ?_, ?_, ?_⟩
  · exact ⟨3, wr Reg.PWR_NVMLEN 4096 (wr Reg.PWR_USRSIZE 4096 (wr Reg.PWR_NVMSRC 0x200000 st0)), by decide +kernel⟩
  · exact ⟨3, wr Reg.PWR_NVMLEN 1 st0, by decide +kernel⟩
  · exact ⟨3, wr Reg.PWR_USRSIZE 4096 st0, by decide +kernel⟩
  · exact ⟨true, 64, [], { st0 with pwr := { st0.pwr with busy := true, queue := [NvmOp.erase 64] } }, by
      decide +kernel⟩
  · exact ⟨true, 1, [], setBitAt Reg.PWR_STAT 9 true
      { st0 with pwr := { st0.pwr with busy := true, queue := [NvmOp.arb 1] } }, by decide +kernel⟩
  · exact ⟨true, 1, [], setBitAt Reg.PWR_STAT 9 true
      { st0 with pwr := { st0.pwr with busy := true, queue := [NvmOp.revoke 1] } }, by decide +kernel⟩
  · exact ⟨3, true, 18, setLoad 5 { State.reset with ltRun := true }, by decide +kernel⟩
  · exact ⟨3, 18, { setLoad 5 { State.reset with ltRun := true } with nv := { NvSt.reset with revoked := 8 } }, by
      decide +kernel⟩
  · exact ⟨18, setLoad 5 { State.reset with ltRun := true }, by decide +kernel⟩

/-- What the clauses of DieTemperatureAndClocks ask of a command and a state is met. -/
theorem test_meets_DieTemperatureAndClocks :
    (∃ (s : State), s.ltRun = true)
    ∧ (∃ (tj : BitVec 16) (s : State), s.ltRun = true ∧ s.configured = true ∧ tjLimit 0 s < tj.toInt)
    ∧ (∃ (u : Nat) (st : Fin 4) (s : State), s.pwr.overAt = some u ∧ u + ms ≤ s.lt ∧ hbsOf st s ≠ [] ∧ tjCause ∉ g3Of
        st s)
    ∧ (∃ (refs : BitVec 2) (k : Nat) (s : State), s.ltRun = true ∧ s.clk.hop = none ∧ (fallbacks s).head? = some k
        ∧ entryOn k s = true ∧ (entryRef k s).1 ≠ s.clk.ref.1 ∧ refPresent k refs.toNat s = true)
    ∧ (∃ (s : State), s.ltRun = true ∧ fallbacks s = [])
    ∧ (∃ (entry : Fin 16) (refs : BitVec 2) (by_ : Fin 19) (s : State), mayStore Reg.CLK_HOPREQ by_ s = true ∧ hopping
        s = false ∧ entryOn entry s = true ∧ refPresent entry refs.toNat s = true ∧ s.clk.lossAt ≠ some s.lt)
    ∧ (∃ (by_ : Fin 19) (s : State), mayStore Reg.CLK_HOPREQ by_ s = true ∧ hopping s = true)
    ∧ (∃ (k : Nat) (a : Bool) (s : State), s.clk.hop = some (k, a) ∧ entryValid k s = true ∧ k < 16)
    ∧ (∃ (entry : Fin 16) (s : State), s.configured = true ∧ entryOn entry s = true ∧ entryValid entry s = false)
    ∧ (∃ (s : State), rampDue s = false)
    ∧ (∃ (s : State), rampDue s = true)
    ∧ (∃ (pll : Fin 6) (s : State), bitAt Reg.CLK_STAT pll s = true)
    ∧ (∃ (pll : Fin 6) (s : State), bitAt Reg.CLK_STAT pll s = false ∧ s.ltRun = true)
    ∧ (∃ (output : Fin 6) (u : Nat) (s : State), ppsAt s = some u ∧ s.configured = true ∧ outOn output s = true
        ∧ outSrc output s = 2 ∧ ctAnchored s = true) := by
  refine ⟨?_, ?_, ?_, ?_, ?_, ?_, ?_, ?_, ?_, ?_, ?_, ?_, ?_, ?_⟩
  · exact ⟨st0, by decide +kernel⟩
  · exact ⟨0x7FFF, st0, by decide +kernel⟩
  · exact ⟨0, 0, setB (Reg.PGN_HCFG 0) Reg.PGN_HCFG_ENABLE true { st0 with pwr := { st0.pwr with overAt := some 0 } },
      by decide +kernel⟩
  · exact ⟨2, 2, setF (Reg.CLK_CKEY 2) Reg.CLK_CKEY_SRC 1 (setF (Reg.CLK_CKEY 2) Reg.CLK_CKEY_EN 1 (wr Reg.CLK_CFG
      0x10020 st0)), by decide +kernel⟩
  · exact ⟨st0, by decide +kernel⟩
  · exact ⟨15, 1, 0, setF (Reg.CLK_CKEY 15) Reg.CLK_CKEY_EN 1 st0, by decide +kernel⟩
  · exact ⟨0, { st0 with clk := { ClkSt.reset with hop := some (1, true) } }, by decide +kernel⟩
  · exact ⟨15, true, setF (Reg.CLK_CSTAT 15) Reg.CLK_CSTAT_VALID 1
      { st0 with clk := { ClkSt.reset with hop := some (15, true) } }, by decide +kernel⟩
  · exact ⟨15, setF (Reg.CLK_CKEY 15) Reg.CLK_CKEY_EN 1 st0, by decide +kernel⟩
  · exact ⟨{ st0 with clk := { ClkSt.reset with rampAt := some 16000000000 } }, by decide +kernel⟩
  · exact ⟨st0, by decide +kernel⟩
  · exact ⟨5, setF Reg.CLK_STAT ⟨0, 6⟩ 0x3F st0, by decide +kernel⟩
  · exact ⟨5, st0, by decide +kernel⟩
  · exact ⟨5, 16000000000, setF Reg.BOB_CTSTAT Reg.BOB_CTSTAT_ANCHORED 1 (wr (Reg.CLK_OCFG 5) 0x40011 st0), by
      decide +kernel⟩

/-- What the clauses of SourceRequests ask of a command and a state is met. -/
theorem test_meets_SourceRequests :
    (∃ (st : Fin 4) (src : BitVec 3) (s : State), stores s = true ∧ srcRefusal st src.toNat 0 s = 0)
    ∧ (∃ (st : Fin 4) (src : BitVec 3) (s : State), stores s = true ∧ srcRefusal st src.toNat 0 s ≠ 0)
    ∧ (∃ (st : Fin 4) (src : BitVec 3) (s : State), stores s = true ∧ srcRefusal st src.toNat 1 s = 0)
    ∧ (∃ (st : Fin 4) (src : BitVec 3) (s : State), stores s = true ∧ srcRefusal st src.toNat 1 s ≠ 0) := by
  refine ⟨?_, ?_, ?_, ?_⟩
  · exact ⟨3, 4, wr (Reg.BOB_FNOM_HI 3) 1 st0, by decide +kernel⟩
  · exact ⟨3, 7, st0, by decide +kernel⟩
  · exact ⟨3, 4, wr (Reg.BOB_FNOM_HI 3) 1 st0, by decide +kernel⟩
  · exact ⟨3, 4, setB (Reg.PGN_SSTAT 3) Reg.PGN_SSTAT_PEN true (wr (Reg.BOB_FNOM_HI 3) 1 st0), by decide +kernel⟩

/-- What the clauses of SourceSwitches ask of a command and a state is met. -/
theorem test_meets_SourceSwitches :
    (∃ (st : Fin 4) (src : Nat) (kind : Nat) (s : State), (bobOf st s).req = some (src, kind) ∧ srcIsLost st src s
        = false ∧ hasDrum st s = false ∧ outerTickDue st s = true ∧ src < 8 ∧ fminOf st s ≤ fmaxOf st s ∧ fmaxOf st s
        < 2 ^ 48)
    ∧ (∃ (st : Fin 4) (slot : Fin 4096) (src : Nat) (kind : Nat) (s : State), (bobOf st s).req = some (src, kind)
        ∧ srcIsLost st src s = false ∧ hasDrum st s = true ∧ tackReady slot actDrum s = true ∧ drumStage slot s = st)
    ∧ (∃ (st : Fin 4) (s : State), s.configured = true ∧ hasAngle st s = true ∧ srcIsLost st (actSrc st s) s = true
        ∧ (bobOf st s).lost = false ∧ (bobOf st s).req = none)
    ∧ (∃ (st : Fin 4) (s : State), (bobOf st s).lost = true ∧ (bobOf st s).req = none ∧ hasDrum st s = false
        ∧ outerTickDue st s = true)
    ∧ (∃ (st : Fin 4) (slot : Fin 4096) (s : State), (bobOf st s).lost = true ∧ (bobOf st s).req = none ∧ hasDrum st s
        = true ∧ tackReady slot actDrum s = true ∧ drumStage slot s = st)
    ∧ (∃ (st : Fin 4) (s : State), outerTickDue st s = true)
    ∧ (∃ (st : Fin 4) (s : State), outerTickDue st s = false) := by
  refine ⟨?_, ?_, ?_, ?_, ?_, ?_, ?_⟩
  · exact ⟨3, 4, 0, setBob 3 { BobSt.reset with req := some (4, 0) } (wr (Reg.BOB_FMAX_HI 3) 2 (wr (Reg.BOB_FNOM_HI 3)
      1 st0)), by decide +kernel⟩
  · exact ⟨0, 4095, 4, 0, setBob 0 { BobSt.reset with req := some (4, 0) } (drumSt 0 st0), by decide +kernel⟩
  · exact ⟨3, setF (Reg.BOB_STAT 3) Reg.BOB_STAT_ACTSRC 3 (wr (Reg.BOB_FNOM_HI 3) 1 st0), by decide +kernel⟩
  · exact ⟨3, setBob 3 { BobSt.reset with lost := true } (wr (Reg.BOB_FNOM_HI 3) 1 st0), by decide +kernel⟩
  · exact ⟨0, 4095, setBob 0 { BobSt.reset with lost := true } (drumSt 0 st0), by decide +kernel⟩
  · exact ⟨3, wr (Reg.BOB_FNOM_HI 3) 1 st0, by decide +kernel⟩
  · exact ⟨3, st0, by decide +kernel⟩

/-- What the clauses of StageCommands ask of a command and a state is met. -/
theorem test_meets_StageCommands :
    (∃ (st : Fin 4) (s : State), stores s = true ∧ hasDrum st s = true)
    ∧ (∃ (st : Fin 4) (s : State), stores s = true ∧ hasDrum st s = true)
    ∧ (∃ (st : Fin 4) (s : State), stores s = true ∧ hasDrum st s = true)
    ∧ (∃ (st : Fin 4) (s : State), stores s = true ∧ hasDrum st s = true)
    ∧ (∃ (st : Fin 4) (s : State), stores s = true ∧ hasDrum st s = true)
    ∧ (∃ (s : State), stores s = false)
    ∧ (∃ (s : State), stores s = false)
    ∧ (∃ (s : State), stores s = false)
    ∧ (∃ (s : State), stores s = false)
    ∧ (∃ (s : State), stores s = false) := by
  refine ⟨?_, ?_, ?_, ?_, ?_, ?_, ?_, ?_, ?_, ?_⟩
  · exact ⟨3, setB (Reg.DRM_CFG 3) Reg.DRM_CFG_AC true st0, by decide +kernel⟩
  · exact ⟨3, setB (Reg.DRM_CFG 3) Reg.DRM_CFG_AC true st0, by decide +kernel⟩
  · exact ⟨3, setB (Reg.DRM_CFG 3) Reg.DRM_CFG_AC true st0, by decide +kernel⟩
  · exact ⟨3, setB (Reg.DRM_CFG 3) Reg.DRM_CFG_AC true st0, by decide +kernel⟩
  · exact ⟨3, setB (Reg.DRM_CFG 3) Reg.DRM_CFG_AC true st0, by decide +kernel⟩
  · exact ⟨State.reset, by decide +kernel⟩
  · exact ⟨State.reset, by decide +kernel⟩
  · exact ⟨State.reset, by decide +kernel⟩
  · exact ⟨State.reset, by decide +kernel⟩
  · exact ⟨State.reset, by decide +kernel⟩

/-- What the clauses of CommitAndHemRestore ask of a command and a state is met. -/
theorem test_meets_CommitAndHemRestore :
    (∃ (s : State), stores s = true)
    ∧ (∃ (st : Fin 4) (s : State), stores s = true ∧ on (Reg.DRM_STAT st) Reg.DRM_STAT_DERCAUSE s = false ∧ s.evt.mism
        = [] ∧ hasDrum st s = true)
    ∧ (∃ (st : Fin 4) (s : State), stores s = true ∧ on (Reg.DRM_STAT st) Reg.DRM_STAT_DERCAUSE s = false ∧ s.evt.mism
        = [] ∧ hasDrum st s = false)
    ∧ (∃ (st : Fin 4) (s : State), stores s = true ∧ on (Reg.DRM_STAT st) Reg.DRM_STAT_DERCAUSE s = true ∧ s.evt.mism
        = [])
    ∧ (∃ (st : Fin 4) (s : State), s.configured = true ∧ hasDrum st s = true)
    ∧ (∃ (st : Fin 4) (s : State), blockStale st false s = true) := by
  refine ⟨?_, ?_, ?_, ?_, ?_, ?_⟩
  · exact ⟨st0, by decide +kernel⟩
  · exact ⟨3, setB (Reg.DRM_CFG 3) Reg.DRM_CFG_AC true st0, by decide +kernel⟩
  · exact ⟨3, st0, by decide +kernel⟩
  · exact ⟨3, setB (Reg.DRM_STAT 3) Reg.DRM_STAT_DERCAUSE true st0, by decide +kernel⟩
  · exact ⟨3, setB (Reg.DRM_CFG 3) Reg.DRM_CFG_AC true st0, by decide +kernel⟩
  · exact ⟨3, setB (Reg.RNS_LSTAT 0) Reg.RNS_LSTAT_VALID true (setB (Reg.DRM_STAT 3) Reg.DRM_STAT_PVALID true (setB
      (Reg.DRM_CFG 3) Reg.DRM_CFG_AC true st0)), by decide +kernel⟩

/-- What the clauses of DrumStepTransitions ask of a command and a state is met. -/
theorem test_meets_DrumStepTransitions :
    (∃ (slot : Fin 4096) (s : State), tackReady slot actDrum s = true ∧ hasDrum (drumStage slot s) s = true ∧ paired s
        = false)
    ∧ (∃ (slot : Fin 4096) (gpi : BitVec 32) (bad : List (BitVec 32)) (st : Nat) (x : DrumIn) (f : State) (s : State),
        stepRuns slot s = true ∧ st = drumStage slot s ∧ x = (stepFront slot gpi bad s).1 ∧ f = (stepFront slot gpi bad
        s).2.2 ∧ commandDue st f = none)
    ∧ (∃ (slot : Fin 4096) (s : State), tackReady slot actDrum s = true ∧ hasDrum (drumStage slot s) s = false ∧ paired
        s = false)
    ∧ (∃ (slot : Fin 4096) (gpi : BitVec 32) (bad : List (BitVec 32)) (st : Nat) (x : DrumIn) (f : State) (s : State),
        stepRuns slot s = true ∧ st = drumStage slot s ∧ x = (stepFront slot gpi bad s).1 ∧ f = (stepFront slot gpi bad
        s).2.2 ∧ locked st f = false ∧ (drmOf st f).sawLock = false ∧ dsCurves (drumState st f) = true ∧ ((curveExpired
        st (Reg.DRM_UVC st) (drmOf st f).uv f).isSome = true ∨ (curveExpired st (Reg.DRM_OVC st) (drmOf st f).ov
        f).isSome = true))
    ∧ (∃ (slot : Fin 4096) (gpi : BitVec 32) (bad : List (BitVec 32)) (st : Nat) (x : DrumIn) (f : State) (s : State),
        stepRuns slot s = true ∧ st = drumStage slot s ∧ x = (stepFront slot gpi bad s).1 ∧ f = (stepFront slot gpi bad
        s).2.2 ∧ locked st f = false ∧ (drmOf st f).sawLock = false ∧ ceasedCause st x f = 8)
    ∧ (∃ (slot : Fin 4096) (gpi : BitVec 32) (bad : List (BitVec 32)) (st : Nat) (x : DrumIn) (f : State) (s : State),
        stepRuns slot s = true ∧ st = drumStage slot s ∧ x = (stepFront slot gpi bad s).1 ∧ f = (stepFront slot gpi bad
        s).2.2 ∧ locked st f = false ∧ (drmOf st f).sawLock = false ∧ drumState st f = dsHold ∧ curveExpired st
        (Reg.DRM_UVC st) (drmOf st f).uv f = none ∧ curveExpired st (Reg.DRM_OVC st) (drmOf st f).ov f = none ∧ rd
        (Reg.DRM_THMAX st) f * msF < (drmOf st f).nHold * outerOf st f)
    ∧ (∃ (slot : Fin 4096) (gpi : BitVec 32) (bad : List (BitVec 32)) (st : Nat) (x : DrumIn) (f : State) (s : State),
        stepRuns slot s = true ∧ st = drumStage slot s ∧ x = (stepFront slot gpi bad s).1 ∧ f = (stepFront slot gpi bad
        s).2.2 ∧ locked st f = false ∧ (drmOf st f).sawLock = false ∧ ceasedCause st x f = 11)
    ∧ (∃ (slot : Fin 4096) (gpi : BitVec 32) (bad : List (BitVec 32)) (st : Nat) (x : DrumIn) (f : State) (s : State),
        stepRuns slot s = true ∧ st = drumStage slot s ∧ x = (stepFront slot gpi bad s).1 ∧ f = (stepFront slot gpi bad
        s).2.2 ∧ locked st f = false ∧ (drmOf st f).sawLock = false ∧ ceasedCause st x f = 12)
    ∧ (∃ (slot : Fin 4096) (gpi : BitVec 32) (bad : List (BitVec 32)) (st : Nat) (x : DrumIn) (f : State) (s : State),
        stepRuns slot s = true ∧ st = drumStage slot s ∧ x = (stepFront slot gpi bad s).1 ∧ f = (stepFront slot gpi bad
        s).2.2 ∧ locked st f = false ∧ (drmOf st f).sawLock = false ∧ drumState st f = dsEnergise ∧ (drmOf st f).nPv
        < rd (Reg.DRM_PVMAX st) f ∧ 3 * (rd (Reg.DRM_TRAMP st) f * msF) < (drmOf st f).nEnerg * outerOf st f)
    ∧ (∃ (slot : Fin 4096) (gpi : BitVec 32) (bad : List (BitVec 32)) (st : Nat) (x : DrumIn) (f : State) (s : State),
        stepRuns slot s = true ∧ st = drumStage slot s ∧ x = (stepFront slot gpi bad s).1 ∧ f = (stepFront slot gpi bad
        s).2.2 ∧ locked st f = false ∧ (drmOf st f).sawLock = false ∧ drumState st f = dsEnergise ∧ ceasedCause st x f
        = 0 ∧ x.opened = false ∧ pathsOn f = true ∧ (drmOf st f).sawOff = false ∧ rd (Reg.DRM_TRAMP st) f * msF
        ≤ (drmOf st f).ke * outerOf st f)
    ∧ (∃ (slot : Fin 4096) (gpi : BitVec 32) (bad : List (BitVec 32)) (st : Nat) (x : DrumIn) (f : State) (s : State),
        stepRuns slot s = true ∧ st = drumStage slot s ∧ x = (stepFront slot gpi bad s).1 ∧ f = (stepFront slot gpi bad
        s).2.2 ∧ locked st f = false ∧ (drmOf st f).sawLock = false ∧ drumState st f = dsHem ∧ ceasedCause st x f = 0
        ∧ x.opened = false ∧ pathsOn f = true ∧ (drmOf st f).sawOff = false ∧ rdI (Reg.DRM_VDIP st) f ≤ max 0 (x.vpos -
        x.vneg) ∧ fl (Reg.DRM_SMCFG st) Reg.DRM_SMCFG_NHEM f ≤ (drmOf st f).nHem)
    ∧ (∃ (slot : Fin 4096) (gpi : BitVec 32) (bad : List (BitVec 32)) (st : Nat) (x : DrumIn) (f : State) (s : State),
        stepRuns slot s = true ∧ st = drumStage slot s ∧ x = (stepFront slot gpi bad s).1 ∧ f = (stepFront slot gpi bad
        s).2.2 ∧ locked st f = false ∧ (drmOf st f).sawLock = false ∧ drumState st f = dsHold ∧ ceasedCause st x f = 0
        ∧ x.opened = false ∧ pathsOn f = true ∧ (drmOf st f).sawOff = false ∧ fl (Reg.DRM_SMCFG st) Reg.DRM_SMCFG_NREC
        f ≤ (drmOf st f).nRec)
    ∧ (∃ (slot : Fin 4096) (gpi : BitVec 32) (bad : List (BitVec 32)) (st : Nat) (x : DrumIn) (f : State) (s : State),
        stepRuns slot s = true ∧ st = drumStage slot s ∧ x = (stepFront slot gpi bad s).1 ∧ f = (stepFront slot gpi bad
        s).2.2 ∧ locked st f = false ∧ (drmOf st f).sawLock = false ∧ drumState st f = dsRecover ∧ ceasedCause st x f
        = 0 ∧ holdCauseOf st x f = 0 ∧ x.opened = false ∧ pathsOn f = true ∧ (drmOf st f).sawOff = false ∧ stepsOf st
        (rd (Reg.DRM_TREC st) f) f ≤ (drmOf st f).kRec ∧ (drmOf st f).pUse = rdI (Reg.DRM_PSET st) f)
    ∧ (∃ (slot : Fin 4096) (gpi : BitVec 32) (bad : List (BitVec 32)) (st : Nat) (x : DrumIn) (f : State) (s : State),
        stepRuns slot s = true ∧ st = drumStage slot s ∧ x = (stepFront slot gpi bad s).1 ∧ f = (stepFront slot gpi bad
        s).2.2 ∧ stepBit Reg.DRM_SSTAT_DEADOK slot gpi bad s = (false, true))
    ∧ (∃ (slot : Fin 4096) (gpi : BitVec 32) (bad : List (BitVec 32)) (st : Nat) (x : DrumIn) (f : State) (s : State),
        stepRuns slot s = true ∧ st = drumStage slot s ∧ x = (stepFront slot gpi bad s).1 ∧ f = (stepFront slot gpi bad
        s).2.2 ∧ stepBit Reg.DRM_SSTAT_SYNCOK slot gpi bad s = (false, true))
    ∧ (∃ (slot : Fin 4096) (gpi : BitVec 32) (bad : List (BitVec 32)) (st : Nat) (x : DrumIn) (f : State) (a : Bool) (b
        : Bool) (s : State), stepRuns slot s = true ∧ st = drumStage slot s ∧ x = (stepFront slot gpi bad s).1 ∧ f
        = (stepFront slot gpi bad s).2.2 ∧ stepBit Reg.DRM_SSTAT_BRKFB slot gpi bad s = (a, b) ∧ a ≠ b)
    ∧ (∃ (slot : Fin 4096) (s : State), tackReady slot actDrum s = false)
    ∧ (∃ (slot : Fin 4096) (s : State), tackReady slot actDrum s = false)
    ∧ (∃ (slot : Fin 4096) (s : State), tackReady slot actDrum s = false)
    ∧ (∃ (slot : Fin 4096) (s : State), tackReady slot actDrum s = false) := by
  refine ⟨?_, ?_, ?_, ?_, ?_, ?_, ?_, ?_, ?_, ?_, ?_, ?_, ?_, ?_, ?_, ?_, ?_, ?_, ?_, ?_⟩
  · exact ⟨4095, drumSt 0 st0, by decide +kernel⟩
  · exact ⟨4095, 0xFFFFFFFF, [], 0, (stepFront 4095 0xFFFFFFFF [] (drumSt 0 st0)).1, (stepFront 4095 0xFFFFFFFF []
      (drumSt 0 st0)).2.2, drumSt 0 st0, by decide +kernel⟩
  · exact ⟨4095, fireSt 4095 actDrum 0 0 st0, by decide +kernel⟩
  · exact ⟨4095, 0, [], 0, (stepFront 4095 0 [] (setDrm 0 { DrumSt.reset with uv := [(0, 500000)] } (setF (Reg.DRM_UVC
      0 0) Reg.DRM_UVC_VLEV 900 (setF (Reg.DRM_UVC 0 0) Reg.DRM_UVC_TMS 1 (drumSt 4 st0))))).1, (stepFront 4095 0 []
      (setDrm 0 { DrumSt.reset with uv := [(0, 500000)] } (setF (Reg.DRM_UVC 0 0) Reg.DRM_UVC_VLEV 900 (setF
      (Reg.DRM_UVC 0 0) Reg.DRM_UVC_TMS 1 (drumSt 4 st0))))).2.2, setDrm 0 { DrumSt.reset with uv := [(0, 500000)] }
      (setF (Reg.DRM_UVC 0 0) Reg.DRM_UVC_VLEV 900 (setF (Reg.DRM_UVC 0 0) Reg.DRM_UVC_TMS 1 (drumSt 4 st0))), by
      decide +kernel⟩
  · exact ⟨4095, 0, [], 0, (stepFront 4095 0 [] (setDrm 0 { DrumSt.reset with nHold := 500000 } (drumSt 6 st0))).1,
      (stepFront 4095 0 [] (setDrm 0 { DrumSt.reset with nHold := 500000 } (drumSt 6 st0))).2.2, setDrm 0
      { DrumSt.reset with nHold := 500000 } (drumSt 6 st0), by decide +kernel⟩
  · exact ⟨4095, 0, [], 0, (stepFront 4095 0 [] (setDrm 0 { DrumSt.reset with nHold := 500000 } (drumSt 6 st0))).1,
      (stepFront 4095 0 [] (setDrm 0 { DrumSt.reset with nHold := 500000 } (drumSt 6 st0))).2.2, setDrm 0
      { DrumSt.reset with nHold := 500000 } (drumSt 6 st0), by decide +kernel⟩
  · exact ⟨4095, 0, [], 0, (stepFront 4095 0 [] (setDrm 0 { DrumSt.reset with nPv := 9 } (drumSt 4 st0))).1, (stepFront
      4095 0 [] (setDrm 0 { DrumSt.reset with nPv := 9 } (drumSt 4 st0))).2.2, setDrm 0 { DrumSt.reset with nPv := 9 }
      (drumSt 4 st0), by decide +kernel⟩
  · exact ⟨4095, 0, [], 0, (stepFront 4095 0 [] (setDrm 0 { DrumSt.reset with nEnerg := 1500000 } (drumSt 2 st0))).1,
      (stepFront 4095 0 [] (setDrm 0 { DrumSt.reset with nEnerg := 1500000 } (drumSt 2 st0))).2.2, setDrm 0
      { DrumSt.reset with nEnerg := 1500000 } (drumSt 2 st0), by decide +kernel⟩
  · exact ⟨4095, 0, [], 0, (stepFront 4095 0 [] (setDrm 0 { DrumSt.reset with nEnerg := 1500000 } (drumSt 2 st0))).1,
      (stepFront 4095 0 [] (setDrm 0 { DrumSt.reset with nEnerg := 1500000 } (drumSt 2 st0))).2.2, setDrm 0
      { DrumSt.reset with nEnerg := 1500000 } (drumSt 2 st0), by decide +kernel⟩
  · exact ⟨4095, 0, [], 0, (stepFront 4095 0 [] (setDrm 0 { DrumSt.reset with ke := 500000 } (drumSt 2 st0))).1,
      (stepFront 4095 0 [] (setDrm 0 { DrumSt.reset with ke := 500000 } (drumSt 2 st0))).2.2, setDrm 0
      { DrumSt.reset with ke := 500000 } (drumSt 2 st0), by decide +kernel⟩
  · exact ⟨4095, 0, [], 0, (stepFront 4095 0 [] (setB (Reg.DRM_STAT 0) Reg.DRM_STAT_HEMACT true (drumSt 5 st0))).1,
      (stepFront 4095 0 [] (setB (Reg.DRM_STAT 0) Reg.DRM_STAT_HEMACT true (drumSt 5 st0))).2.2, setB (Reg.DRM_STAT 0)
      Reg.DRM_STAT_HEMACT true (drumSt 5 st0), by decide +kernel⟩
  · exact ⟨4095, 0, [], 0, (stepFront 4095 0 [] (setDrm 0 { DrumSt.reset with nRec := 4 } (drumSt 6 st0))).1,
      (stepFront 4095 0 [] (setDrm 0 { DrumSt.reset with nRec := 4 } (drumSt 6 st0))).2.2, setDrm 0
      { DrumSt.reset with nRec := 4 } (drumSt 6 st0), by decide +kernel⟩
  · exact ⟨4095, 0, [], 0, (stepFront 4095 0 [] (drumSt 7 st0)).1, (stepFront 4095 0 [] (drumSt 7 st0)).2.2, drumSt 7
      st0, by decide +kernel⟩
  · exact ⟨4095, 0, [], 0, (stepFront 4095 0 [] (setB (Reg.DRM_SSTAT 0) Reg.DRM_SSTAT_BVALID true (wr (Reg.DRM_VDEAD 0)
      1 (drumSt 1 st0)))).1, (stepFront 4095 0 [] (setB (Reg.DRM_SSTAT 0) Reg.DRM_SSTAT_BVALID true (wr (Reg.DRM_VDEAD
      0) 1 (drumSt 1 st0)))).2.2, setB (Reg.DRM_SSTAT 0) Reg.DRM_SSTAT_BVALID true (wr (Reg.DRM_VDEAD 0) 1 (drumSt 1
      st0)), by decide +kernel⟩
  · exact ⟨4095, 0, [], 0, (stepFront 4095 0 [] (setB (Reg.DRM_SSTAT 0) Reg.DRM_SSTAT_BVALID true (drumSt 3 st0))).1,
      (stepFront 4095 0 [] (setB (Reg.DRM_SSTAT 0) Reg.DRM_SSTAT_BVALID true (drumSt 3 st0))).2.2, setB (Reg.DRM_SSTAT
      0) Reg.DRM_SSTAT_BVALID true (drumSt 3 st0), by decide +kernel⟩
  · exact ⟨4095, 1, [], 0, (stepFront 4095 1 [] (setDrm 0 { DrumSt.reset with brkPrev := true } (drumSt 0 st0))).1,
      (stepFront 4095 1 [] (setDrm 0 { DrumSt.reset with brkPrev := true } (drumSt 0 st0))).2.2, false, true, setDrm 0
      { DrumSt.reset with brkPrev := true } (drumSt 0 st0), by decide +kernel⟩
  · exact ⟨4095, st0, by decide +kernel⟩
  · exact ⟨4095, st0, by decide +kernel⟩
  · exact ⟨4095, st0, by decide +kernel⟩
  · exact ⟨4095, st0, by decide +kernel⟩

/-- What the clauses of StitchCycles ask of a command and a state is met. -/
theorem test_meets_StitchCycles :
    (∃ (slot : Fin 4096) (s : State), tackReady slot actStitch s = true)
    ∧ (∃ (slot : Fin 4096) (s : State), tackReady slot actStitch s = false)
    ∧ (∃ (slot : Fin 4096) (fails : List (Fin 128 × Fin 4)) (bad : List (BitVec 32)) (s : State), tackReady slot
        actStitch s = true ∧ lateDue slot fails bad s = true)
    ∧ (∃ (slot : Fin 4096) (inst : Fin 128) (fails : List (Fin 128 × Fin 4)) (bad : List (BitVec 32)) (s : State),
        tackReady slot actStitch s = true ∧ returnDue slot inst fails bad s = true ∧ lateDue slot fails bad s = false)
    ∧ (∃ (slot : Fin 4096) (inst : Fin 128) (fails : List (Fin 128 × Fin 4)) (bad : List (BitVec 32)) (s : State),
        tackReady slot actStitch s = true ∧ returnDue slot inst fails bad s = true)
    ∧ (∃ (slot : Fin 4096) (inst : Fin 128) (fails : List (Fin 128 × Fin 4)) (bad : List (BitVec 32)) (s : State),
        tackReady slot actStitch s = true ∧ expiryDue slot inst fails bad s = true)
    ∧ (∃ (slot : Fin 4096) (fails : List (Fin 128 × Fin 4)) (bad : List (BitVec 32)) (s : State), tackReady slot
        actStitch s = true ∧ lateDue slot fails bad s = false)
    ∧ (∃ (slot : Fin 4096) (inst : Fin 128) (fails : List (Fin 128 × Fin 4)) (bad : List (BitVec 32)) (s : State),
        tackReady slot actStitch s = true ∧ returnDue slot inst fails bad s = false)
    ∧ (∃ (slot : Fin 4096) (inst : Fin 128) (fails : List (Fin 128 × Fin 4)) (bad : List (BitVec 32)) (s : State),
        tackReady slot actStitch s = true ∧ expiryDue slot inst fails bad s = false)
    ∧ (∃ (mac : Fin 4) (s : State), s.macRetire.contains mac.val = true ∧ bitAt Reg.STI_GSTAT mac s = true) := by
  refine ⟨?_, ?_, ?_, ?_, ?_, ?_, ?_, ?_, ?_, ?_⟩
  · exact ⟨4095, fireSt 4095 actStitch 0 0 (setB (Reg.STI_ICFG 0) Reg.STI_ICFG_ENABLE true (setF Reg.STI_GSTAT ⟨0, 4⟩
      15 st0)), by decide +kernel⟩
  · exact ⟨4095, st0, by decide +kernel⟩
  · exact ⟨4095, [], [], fireSt 4095 actStitch 0 0 (setF (Reg.STI_SINK 0) Reg.STI_SINK_KIND 3 (setB (Reg.STI_ICFG 0)
      Reg.STI_ICFG_ENABLE true (setF Reg.STI_GSTAT ⟨0, 4⟩ 15 st0))), by decide +kernel⟩
  · exact ⟨4095, 127, [], [], fireSt 4095 actStitch 0 0 (setInst 127 { InstSt.reset with good := 15 } (setF
      (Reg.STI_ISTAT 127) Reg.STI_ISTAT_MODE 2 (setB (Reg.STI_ICFG 127) Reg.STI_ICFG_AUTORET true (setB (Reg.STI_ICFG
      127) Reg.STI_ICFG_ENABLE true (setF Reg.STI_GSTAT ⟨0, 4⟩ 15 st0))))), by decide +kernel⟩
  · exact ⟨4095, 127, [], [], fireSt 4095 actStitch 0 0 (setInst 127 { InstSt.reset with good := 15 } (setF
      (Reg.STI_ISTAT 127) Reg.STI_ISTAT_MODE 2 (setB (Reg.STI_ICFG 127) Reg.STI_ICFG_AUTORET true (setB (Reg.STI_ICFG
      127) Reg.STI_ICFG_ENABLE true (setF Reg.STI_GSTAT ⟨0, 4⟩ 15 st0))))), by decide +kernel⟩
  · exact ⟨4095, 0, [], [], fireSt 4095 actStitch 0 0 (setF (Reg.STI_ICFG 0) Reg.STI_ICFG_FEGRADE 3 (wrI (Reg.STI_FELIM
      0) (-1) (setB (Reg.STI_ICFG 0) Reg.STI_ICFG_ENABLE true (setF Reg.STI_GSTAT ⟨0, 4⟩ 15 st0)))), by decide +kernel⟩
  · exact ⟨4095, [], [], fireSt 4095 actStitch 0 0 (setF Reg.STI_GSTAT ⟨0, 4⟩ 15 st0), by decide +kernel⟩
  · exact ⟨4095, 0, [], [], fireSt 4095 actStitch 0 0 (setF Reg.STI_GSTAT ⟨0, 4⟩ 15 st0), by decide +kernel⟩
  · exact ⟨4095, 0, [], [], fireSt 4095 actStitch 0 0 (setF Reg.STI_GSTAT ⟨0, 4⟩ 15 st0), by decide +kernel⟩
  · exact ⟨3, { setF Reg.STI_GSTAT ⟨0, 4⟩ 15 st0 with macRetire := [3] }, by decide +kernel⟩

/-- What the clauses of UnitCommands ask of a command and a state is met. -/
theorem test_meets_UnitCommands :
    (∃ (st : Fin 4) (inst : Fin 128) (s : State), stores s = true ∧ instUsed inst s = true ∧ instStage inst s = st
        ∧ laneMissing inst s = false)
    ∧ (∃ (st : Fin 4) (inst : Fin 128) (s : State), stores s = true ∧ instUsed inst s = true ∧ instStage inst s = st
        ∧ laneMissing inst s = true)
    ∧ (∃ (st : Fin 4) (inst : Fin 128) (s : State), stores s = true ∧ instUsed inst s = true ∧ instStage inst s = st)
    ∧ (∃ (inst : Fin 128) (s : State), stores s = true ∧ instUsed inst s = false)
    ∧ (∃ (inst : Fin 128) (value : BitVec 32) (s : State), stores s = true ∧ instUsed inst s = true ∧ rdI (Reg.STI_UMIN
        inst) s ≤ value.toInt ∧ value.toInt ≤ rdI (Reg.STI_UMAX inst) s)
    ∧ (∃ (inst : Fin 128) (value : BitVec 32) (s : State), stores s = true ∧ instUsed inst s = true ∧ (value.toInt
        < rdI (Reg.STI_UMIN inst) s ∨ rdI (Reg.STI_UMAX inst) s < value.toInt))
    ∧ (∃ (inst : Fin 128) (value : BitVec 32) (s : State), stores s = true ∧ instUsed inst s = true ∧ rdI
        (Reg.STI_SPMIN inst) s ≤ value.toInt ∧ value.toInt ≤ rdI (Reg.STI_SPMAX inst) s)
    ∧ (∃ (inst : Fin 128) (value : BitVec 32) (s : State), stores s = true ∧ instUsed inst s = true ∧ (value.toInt
        < rdI (Reg.STI_SPMIN inst) s ∨ rdI (Reg.STI_SPMAX inst) s < value.toInt))
    ∧ (∃ (st : Fin 4) (value : BitVec 32) (by_ : Fin 19) (s : State), mayStore (Reg.STI_SETREQ st) by_ s = true ∧ value
        &&& 0xFFFFFFEC#32 = 0#32 ∧ (instsOf st s).all (fun n => on (Reg.STI_CTL n (fldGet Reg.STI_SETREQ_SET value))
        Reg.STI_CTL_VALID s) = true ∧ shadowLock 1 st s = none)
    ∧ (∃ (st : Fin 4) (value : BitVec 32) (by_ : Fin 19) (s : State), mayStore (Reg.STI_SETREQ st) by_ s = true ∧ value
        &&& 0xFFFFFFEC#32 = 0#32 ∧ (instsOf st s).all (fun n => on (Reg.STI_CTL n (fldGet Reg.STI_SETREQ_SET value))
        Reg.STI_CTL_VALID s) = false) := by
  refine ⟨?_, ?_, ?_, ?_, ?_, ?_, ?_, ?_, ?_, ?_⟩
  · exact ⟨0, 0, setB (Reg.STI_ICFG 0) Reg.STI_ICFG_ENABLE true st0, by decide +kernel⟩
  · exact ⟨0, 0, setB (Reg.STI_ISRC 0) Reg.STI_ISRC_FBEN true (setB (Reg.STI_ICFG 0) Reg.STI_ICFG_ENABLE true st0), by
      decide +kernel⟩
  · exact ⟨0, 0, setB (Reg.STI_ICFG 0) Reg.STI_ICFG_ENABLE true st0, by decide +kernel⟩
  · exact ⟨127, st0, by decide +kernel⟩
  · exact ⟨127, 0, setB (Reg.STI_ICFG 127) Reg.STI_ICFG_ENABLE true st0, by decide +kernel⟩
  · exact ⟨127, 1, setB (Reg.STI_ICFG 127) Reg.STI_ICFG_ENABLE true st0, by decide +kernel⟩
  · exact ⟨127, 0, setB (Reg.STI_ICFG 127) Reg.STI_ICFG_ENABLE true st0, by decide +kernel⟩
  · exact ⟨127, -1, setB (Reg.STI_ICFG 127) Reg.STI_ICFG_ENABLE true st0, by decide +kernel⟩
  · exact ⟨3, 0x13, 0, st0, by decide +kernel⟩
  · exact ⟨0, 3, 0, setB (Reg.STI_ICFG 0) Reg.STI_ICFG_ENABLE true st0, by decide +kernel⟩

/-- What the clauses of HandOvers ask of a command and a state is met. -/
theorem test_meets_HandOvers :
    (∃ (slot : Fin 4096) (k : Nat) (p : Bool) (s : State), tackReady slot actHandover s = true ∧ slTarget (slotOf slot
        s) / 16 = 0 ∧ (stiOf (slTarget (slotOf slot s) % 4) s).req = some (k, p) ∧ k < 4)
    ∧ (∃ (slot : Fin 4096) (s : State), tackReady slot actHandover s = true ∧ slTarget (slotOf slot s) / 16 = 0
        ∧ (stiOf (slTarget (slotOf slot s) % 4) s).req = none)
    ∧ (∃ (slot : Fin 4096) (s : State), tackReady slot actHandover s = true ∧ slTarget (slotOf slot s) / 16 = 1
        ∧ stitchDueNow (slTarget (slotOf slot s) % 4) (tackFired slot s) = false ∧ (stiOf (slTarget (slotOf slot s) %
        4) s).start = none)
    ∧ (∃ (slot : Fin 4096) (c : Nat) (s : State), tackReady slot actHandover s = true ∧ slTarget (slotOf slot s) / 16
        = 1 ∧ stitchDueNow (slTarget (slotOf slot s) % 4) (tackFired slot s) = false ∧ (stiOf (slTarget (slotOf slot s)
        % 4) s).start = some c ∧ nowF s < c + cdlOf (slTarget (slotOf slot s) % 4) s)
    ∧ (∃ (slot : Fin 4096) (k : Nat) (p : Bool) (s : State), tackReady slot actHandover s = true ∧ slTarget (slotOf
        slot s) / 16 = 2 ∧ (stiOf (slTarget (slotOf slot s) % 4) s).req = some (k, p) ∧ k < 4 ∧ stitchDueNow (slTarget
        (slotOf slot s) % 4) (tackFired slot s) = false ∧ (stiOf (slTarget (slotOf slot s) % 4) s).start = none)
    ∧ (∃ (st : Fin 4) (f : Nat) (s : State), (pgnOf st s).deferAt = some f ∧ f ≤ nowF s)
    ∧ (∃ (st : Fin 4) (f : Nat) (s : State), (pgnOf st s).deferAt = some f ∧ nowF s < f) := by
  refine ⟨?_, ?_, ?_, ?_, ?_, ?_, ?_⟩
  · exact ⟨4095, 3, true, fireSt 4095 actHandover 3 0 (setSti 3 { StiSt.reset with req := some (3, true) } st0), by
      decide +kernel⟩
  · exact ⟨4095, fireSt 4095 actHandover 3 0 (st0), by decide +kernel⟩
  · exact ⟨4095, fireSt 4095 actHandover 19 0 (st0), by decide +kernel⟩
  · exact ⟨4095, 1000000000, fireSt 4095 actHandover 19 0 (setF (Reg.STI_SCFG 3) Reg.STI_SCFG_CDL 100 (setSti 3
      { StiSt.reset with start := some 1000000000 } st0)), by decide +kernel⟩
  · exact ⟨4095, 3, false, fireSt 4095 actHandover 35 0 (setSti 3 { StiSt.reset with req := some (3, false) } st0), by
      decide +kernel⟩
  · exact ⟨3, 1000000000, setPgn 3 { PgnSt.reset with deferAt := some 1000000000 } st0, by decide +kernel⟩
  · exact ⟨3, 1000000001, setPgn 3 { PgnSt.reset with deferAt := some 1000000001 } st0, by decide +kernel⟩

/-- What the clauses of Planning ask of a command and a state is met. -/
theorem test_meets_Planning :
    (∃ (hb : Fin 104) (pos : Int) (to_ : Bool) (s : State), hbRuns hb s = true ∧ nextPoint hb s = some (pos, to_)
        ∧ posTime (hbCarrier hb s) pos s ≤ planAt (hbCarrier hb s) s ∧ (hbOf hb s).back = none ∧ (hbOf hb s).side
        = some to_ ∧ (hbOf hb s).drop = false)
    ∧ (∃ (hb : Fin 104) (pos : Int) (to_ : Bool) (s : State), 96 ≤ hb.val ∧ hbRuns hb s = true ∧ nextPoint hb s = some
        (pos, to_) ∧ posTime (hbCarrier hb s) pos s ≤ planAt (hbCarrier hb s) s ∧ (hbOf hb s).back = none ∧ (hbOf hb
        s).side = none ∧ (hbOf hb s).lowFirst = false ∧ requestedEnd hb pos to_ s = none)
    ∧ (∃ (hb : Fin 104) (pos : Int) (e : Int) (to_ : Bool) (s : State), hbRuns hb s = true ∧ nextPoint hb s = some
        (pos, to_) ∧ posTime (hbCarrier hb s) pos s ≤ planAt (hbCarrier hb s) s ∧ (hbOf hb s).back = none ∧ (hbOf hb
        s).side = none ∧ (hbOf hb s).lowFirst = false ∧ requestedEnd hb pos to_ s = some e ∧ accOf hb s = 0 ∧ fl
        (Reg.PGN_HCFG hb) Reg.PGN_HCFG_MODE s = 2 ∧ e - posTime (hbCarrier hb s) pos s - deadTime hb to_ s < minpOf hb
        s)
    ∧ (∃ (c : Fin 16) (s : State), s.configured = true ∧ carUsed c s = true ∧ posTime c (carBoundary c s) s ≤ planAt c
        s ∧ setDue c s = false ∧ carTri c s = false ∧ carLoad c s = 1)
    ∧ (∃ (hb : Fin 104) (s : State), hbRuns hb s = true ∧ (hbOf hb s).refresh = true ∧ refreshStart hb s ≤ planAt
        (hbCarrier hb s) s ∧ (hbOf hb s).side = some true)
    ∧ (∃ (hb : Fin 104) (s : State), hbRuns hb s = true ∧ (hbOf hb s).refresh = true ∧ refreshStart hb s ≤ planAt
        (hbCarrier hb s) s ∧ (hbOf hb s).side ≠ some true)
    ∧ (∃ (hb : Fin 104) (s : State), s.configured = true ∧ hbUsed hb s = true ∧ hbState hb s = 1 ∧ hbCause hb s = 0
        ∧ pulsesOn (hbStage hb s) s = true ∧ (isDirect hb = true ∨ linkState (hb / 4) s = lkReady) ∧ (carOf (hbCarrier
        hb s) s).half = false ∧ ((hbOf hb s).clearAt + pleadOf (hbStage hb s) s : Nat) ≤ posTime (hbCarrier hb s)
        (carOf (hbCarrier hb s) s).start s ∧ posTime (hbCarrier hb s) (carOf (hbCarrier hb s) s).start s ≤ planAt
        (hbCarrier hb s) s) := by
  refine ⟨?_, ?_, ?_, ?_, ?_, ?_, ?_⟩
  · exact ⟨96, 0, true, setHb 96 { HbSt.reset with planned := -1, dr := 2 ^ 24, side := some true } (setCar 0
      { CarSt.reset with k := 0, start := 0, stop := 2 ^ 57, orgLt := 16000000000 } (wr (Reg.PGN_HSTAT 96) 0 (setB
      (Reg.PGN_HCFG 96) Reg.PGN_HCFG_ENABLE true (setB (Reg.PGN_SSTAT 0) Reg.PGN_SSTAT_PEN true (setB (Reg.PGN_CCFG 0)
      Reg.PGN_CCFG_ENABLE true (wr (Reg.PGN_KPER 0 0) 800 st0)))))), by decide +kernel⟩
  · exact ⟨96, 0, true, setHb 96 { HbSt.reset with planned := -1, dr := 2 ^ 24 } (setCar 0
      { CarSt.reset with k := 0, start := 0, stop := 2 ^ 57, orgLt := 16000000000 } (wr (Reg.PGN_HSTAT 96) 0 (setB
      (Reg.PGN_HCFG 96) Reg.PGN_HCFG_ENABLE true (setB (Reg.PGN_SSTAT 0) Reg.PGN_SSTAT_PEN true (setB (Reg.PGN_CCFG 0)
      Reg.PGN_CCFG_ENABLE true (wr (Reg.PGN_KPER 0 0) 800 st0)))))), by decide +kernel⟩
  · exact ⟨96, 0, 16000000400, true, setF (Reg.PGN_HCFG 96) Reg.PGN_HCFG_MODE 2 (wr (Reg.PGN_MINP 96) 500 (setHb 96
      { HbSt.reset with planned := -1, dr := 2 ^ 23 } (setCar 0
      { CarSt.reset with k := 0, start := 0, stop := 2 ^ 57, orgLt := 16000000000 } (wr (Reg.PGN_HSTAT 96) 0 (setB
      (Reg.PGN_HCFG 96) Reg.PGN_HCFG_ENABLE true (setB (Reg.PGN_SSTAT 0) Reg.PGN_SSTAT_PEN true (setB (Reg.PGN_CCFG 0)
      Reg.PGN_CCFG_ENABLE true (wr (Reg.PGN_KPER 0 0) 800 st0)))))))), by decide +kernel⟩
  · exact ⟨0, setF (Reg.PGN_KMODE 0 0) Reg.PGN_KMODE_LOAD 1 (setCar 0
      { CarSt.reset with start := -(2 ^ 57), stop := 0, orgLt := 16000000000 } (wr (Reg.PGN_HSTAT 96) 0 (setB
      (Reg.PGN_HCFG 96) Reg.PGN_HCFG_ENABLE true (setB (Reg.PGN_SSTAT 0) Reg.PGN_SSTAT_PEN true (setB (Reg.PGN_CCFG 0)
      Reg.PGN_CCFG_ENABLE true (wr (Reg.PGN_KPER 0 0) 800 st0)))))), by decide +kernel⟩
  · exact ⟨96, setHb 96 { HbSt.reset with refresh := true, side := some true } (wr (Reg.PGN_HSTAT 96) 0 (setB
      (Reg.PGN_HCFG 96) Reg.PGN_HCFG_ENABLE true (setB (Reg.PGN_SSTAT 0) Reg.PGN_SSTAT_PEN true (setB (Reg.PGN_CCFG 0)
      Reg.PGN_CCFG_ENABLE true (wr (Reg.PGN_KPER 0 0) 800 st0))))), by decide +kernel⟩
  · exact ⟨96, setHb 96 { HbSt.reset with refresh := true } (wr (Reg.PGN_HSTAT 96) 0 (setB (Reg.PGN_HCFG 96)
      Reg.PGN_HCFG_ENABLE true (setB (Reg.PGN_SSTAT 0) Reg.PGN_SSTAT_PEN true (setB (Reg.PGN_CCFG 0)
      Reg.PGN_CCFG_ENABLE true (wr (Reg.PGN_KPER 0 0) 800 st0))))), by decide +kernel⟩
  · exact ⟨96, setF (Reg.PGN_HSTAT 96) Reg.PGN_HSTAT_STATE 1 (setF (Reg.PGN_HSTAT 96) Reg.PGN_HSTAT_HOLDCAUSE 0 (setCar
      0 { CarSt.reset with k := 0, start := 0, stop := 2 ^ 57, orgLt := 16000000000 } (wr (Reg.PGN_HSTAT 96) 0 (setB
      (Reg.PGN_HCFG 96) Reg.PGN_HCFG_ENABLE true (setB (Reg.PGN_SSTAT 0) Reg.PGN_SSTAT_PEN true (setB (Reg.PGN_CCFG 0)
      Reg.PGN_CCFG_ENABLE true (wr (Reg.PGN_KPER 0 0) 800 st0))))))), by decide +kernel⟩

/-- What the clauses of DirectLegs ask of a command and a state is met. -/
theorem test_meets_DirectLegs :
    (∃ (leg : Fin 8) (e : Edge) (s : State), dueEdge (hbOf (96 + leg) s).edges (s.lt + fclk) = some e ∧ e.stamp < fclk
        * nowF s ∧ hbUsed (96 + leg) s = true)
    ∧ (∃ (leg : Fin 8) (e : Edge) (s : State), dueEdge (hbOf (96 + leg) s).edges (s.lt + fclk) = some e ∧ fclk * nowF s
        ≤ e.stamp ∧ e.on = false ∧ (hbOf (96 + leg) s).pAt = none ∧ (hbOf (96 + leg) s).rise = none)
    ∧ (∃ (leg : Fin 8) (e : Edge) (s : State), dueEdge (hbOf (96 + leg) s).edges (s.lt + fclk) = some e ∧ fclk * nowF s
        ≤ e.stamp ∧ e.on = true ∧ (hbOf (96 + leg) s).pAt = none ∧ (hbOf (96 + leg) s).rise = none ∧ qualifiedAt (96
        + leg) ((e.stamp - 16) / fclk) s = true)
    ∧ (∃ (leg : Fin 8) (e : Edge) (s : State), dueEdge (hbOf (96 + leg) s).edges (s.lt + fclk) = some e ∧ fclk * nowF s
        ≤ e.stamp ∧ e.on = true ∧ (hbOf (96 + leg) s).pAt = none ∧ qualifiedAt (96 + leg) ((e.stamp - 16) / fclk) s
        = false)
    ∧ (∃ (leg : Fin 8) (level : Bool) (s : State), level = true ∧ (hbOf (96 + leg) s).ackAt = none)
    ∧ (∃ (level : Bool), level = false)
    ∧ (∃ (hb : Fin 104) (s : State), hbUsed hb s = true ∧ hb.val < 96 ∧ (hbOf hb s).ackBy.any (fun p => decide (p.2.1
        ≤ s.lt) && (decide (s.lt < p.1) || !ocOff (lnkOf (hb / 4) s).oc hb p.2.2)) = true)
    ∧ (∃ (hb : Fin 104) (s : State), hbUsed hb s = true ∧ 96 ≤ hb.val ∧ (hbOf hb s).ackAt = none ∧ (hbOf hb s).ackPrev
        = none ∧ (hbOf hb s).ackBy.any (fun p => decide (p.2.1 ≤ s.lt)) = true)
    ∧ (∃ (hb : Fin 104) (u : Nat) (s : State), (hbOf hb s).uvBy = some u ∧ u ≤ s.lt ∧ hb.val < 96 ∧ (lnkOf (hb / 4)
        s).uv.testBit (hb % 4) = true)
    ∧ (∃ (hb : Fin 104) (u : Nat) (s : State), (hbOf hb s).uvBy = some u ∧ u ≤ s.lt ∧ (96 ≤ hb.val ∨ (lnkOf (hb / 4)
        s).uv.testBit (hb % 4) = false)) := by
  refine ⟨?_, ?_, ?_, ?_, ?_, ?_, ?_, ?_, ?_, ?_⟩
  · exact ⟨7, ⟨15999999999, true, false, 0⟩, setB (Reg.PGN_HCFG 103) Reg.PGN_HCFG_ENABLE true (setHb 103
      { HbSt.reset with edges := [⟨15999999999, true, false, 0⟩] } st0), by decide +kernel⟩
  · exact ⟨7, ⟨16000000008, true, false, 0⟩, setHb 103 { HbSt.reset with edges := [⟨16000000008, true, false, 0⟩] }
      st0, by decide +kernel⟩
  · exact ⟨7, ⟨16000000008, true, true, 0⟩, setHb 103
      { HbSt.reset with ackAt := some 0, edges := [⟨16000000008, true, true, 0⟩] } st0, by decide +kernel⟩
  · exact ⟨7, ⟨16000000008, true, true, 0⟩, setHb 103 { HbSt.reset with edges := [⟨16000000008, true, true, 0⟩] } st0,
      by decide +kernel⟩
  · exact ⟨7, true, st0, by decide +kernel⟩
  · exact ⟨false, by decide +kernel⟩
  · exact ⟨0, setHb 0 { HbSt.reset with ackBy := [(1, 16000000000, true)] } (setB (Reg.PGN_HCFG 0) Reg.PGN_HCFG_ENABLE
      true (wr (Reg.PGN_HSTAT 96) 0 (setB (Reg.PGN_HCFG 96) Reg.PGN_HCFG_ENABLE true (setB (Reg.PGN_SSTAT 0)
      Reg.PGN_SSTAT_PEN true (setB (Reg.PGN_CCFG 0) Reg.PGN_CCFG_ENABLE true (wr (Reg.PGN_KPER 0 0) 800 st0)))))), by
      decide +kernel⟩
  · exact ⟨96, setHb 96 { HbSt.reset with ackBy := [(1, 16000000000, true)] } (wr (Reg.PGN_HSTAT 96) 0 (setB
      (Reg.PGN_HCFG 96) Reg.PGN_HCFG_ENABLE true (setB (Reg.PGN_SSTAT 0) Reg.PGN_SSTAT_PEN true (setB (Reg.PGN_CCFG 0)
      Reg.PGN_CCFG_ENABLE true (wr (Reg.PGN_KPER 0 0) 800 st0))))), by decide +kernel⟩
  · exact ⟨95, 16000000000, setHb 95 { HbSt.reset with uvBy := some 16000000000 } (setLnk 23
      { LnkSt.reset with uv := 8 } st0), by decide +kernel⟩
  · exact ⟨95, 16000000000, setHb 95 { HbSt.reset with uvBy := some 16000000000 } st0, by decide +kernel⟩

/-- What the clauses of CarrierSetsAndDisable ask of a command and a state is met. -/
theorem test_meets_CarrierSetsAndDisable :
    (∃ (st : Fin 4) (value : BitVec 32) (by_ : Fin 19) (s : State), mayStore (Reg.PGN_CSETREQ st) by_ s = true
        ∧ value.toNat < 4 ∧ (carsOf st s).all (fun c => on (Reg.PGN_KMODE c value.toNat) Reg.PGN_KMODE_VALID s) = true
        ∧ shadowLock 2 st s = none)
    ∧ (∃ (st : Fin 4) (value : BitVec 32) (by_ : Fin 19) (s : State), mayStore (Reg.PGN_CSETREQ st) by_ s = true
        ∧ value.toNat < 4 ∧ (carsOf st s).all (fun c => on (Reg.PGN_KMODE c value.toNat) Reg.PGN_KMODE_VALID s)
        = false)
    ∧ (∃ (st : Fin 4) (c : Nat) (k : Nat) (s : State), leadCarrier st s = some c ∧ setDue c s = true ∧ s.configured
        = true ∧ posTime c (carBoundary c s) s ≤ planAt c s ∧ (pgnOf st s).ready = some k ∧ k < 4)
    ∧ (∃ (s : State), stores s = true) := by
  refine ⟨?_, ?_, ?_, ?_⟩
  · exact ⟨3, 3, 0, st0, by decide +kernel⟩
  · exact ⟨0, 0, 0, setB (Reg.PGN_CCFG 0) Reg.PGN_CCFG_ENABLE true st0, by decide +kernel⟩
  · exact ⟨0, 0, 2, setPgn 0 { PgnSt.reset with ready := some 2 } (setCar 0
      { CarSt.reset with start := -(2 ^ 57), stop := 0, orgLt := 16000000000 } (wr (Reg.PGN_HSTAT 96) 0 (setB
      (Reg.PGN_HCFG 96) Reg.PGN_HCFG_ENABLE true (setB (Reg.PGN_SSTAT 0) Reg.PGN_SSTAT_PEN true (setB (Reg.PGN_CCFG 0)
      Reg.PGN_CCFG_ENABLE true (wr (Reg.PGN_KPER 0 0) 800 st0)))))), by decide +kernel⟩
  · exact ⟨(wr (Reg.PGN_HSTAT 96) 0 (setB (Reg.PGN_HCFG 96) Reg.PGN_HCFG_ENABLE true (setB (Reg.PGN_SSTAT 0)
      Reg.PGN_SSTAT_PEN true (setB (Reg.PGN_CCFG 0) Reg.PGN_CCFG_ENABLE true (wr (Reg.PGN_KPER 0 0) 800 st0))))), by
      decide +kernel⟩

/-- What the clauses of SlotCommands ask of a command and a state is met. -/
theorem test_meets_SlotCommands :
    (∃ (by_ : Fin 19) (s : State), mayStore Reg.TCK_WCMD by_ s = true ∧ on Reg.TCK_WSTAT Reg.TCK_WSTAT_BUSY s = false)
    ∧ (∃ (by_ : Fin 19) (s : State), mayStore Reg.TCK_WCMD by_ s = true ∧ on Reg.TCK_WSTAT Reg.TCK_WSTAT_BUSY s = true)
    ∧ (∃ (by_ : Fin 19) (s : State), mayStore Reg.TCK_WCMD by_ s = true ∧ on Reg.TCK_WSTAT Reg.TCK_WSTAT_BUSY s
        = false)
    ∧ (∃ (n : Nat) (b : Nat) (x : Slot) (s : State), s.tack.adm = some (n, some x, b) ∧ writeCause n x b s = 0
        ∧ slotLock n s = none)
    ∧ (∃ (n : Nat) (b : Nat) (i : Nat) (x : Slot) (s : State), s.tack.adm = some (n, some x, b) ∧ writeCause n x b s
        = 0 ∧ slotLock n s = some i)
    ∧ (∃ (n : Nat) (b : Nat) (x : Slot) (s : State), s.tack.adm = some (n, some x, b) ∧ writeCause n x b s ≠ 0)
    ∧ (∃ (n : Nat) (b : Nat) (s : State), s.tack.adm = some (n, none, b) ∧ slProt (slotOf n s) = false ∧ slotLock n s
        = none ∧ slOne (slotOf n s) = false)
    ∧ (∃ (slot : Fin 4096) (x : Slot) (a : Nat) (s : State), s.tack.switch.find? (fun p : Nat × Option Slot × Nat =>
        p.1 == slot.val) = some (slot.val, some x, a) ∧ a ≤ s.lt ∧ oldWaits slot a s = false)
    ∧ (∃ (slot : Fin 4096) (a : Nat) (s : State), s.tack.switch.find? (fun p : Nat × Option Slot × Nat => p.1 ==
        slot.val) = some (slot.val, none, a) ∧ a ≤ s.lt ∧ oldWaits slot a s = false)
    ∧ (∃ (s : State), stores s = true)
    ∧ (∃ (slot : Fin 4096) (e : Nat) (s : State), eligibleAt slot s = some e ∧ e + 7 < nowF s ∧ slValid (slotOf slot s)
        = true) := by
  refine ⟨?_, ?_, ?_, ?_, ?_, ?_, ?_, ?_, ?_, ?_, ?_⟩
  · exact ⟨17, st0, by decide +kernel⟩
  · exact ⟨0, setB Reg.TCK_WSTAT Reg.TCK_WSTAT_BUSY true st0, by decide +kernel⟩
  · exact ⟨0, st0, by decide +kernel⟩
  · exact ⟨4095, 1, ⟨0x10801, 0x1F, 0, 0, 8, 0, 0⟩, setBitAt Reg.TCK_GPIOOWN 31 true
      { st0 with tack := { TackSt.reset with adm := some (4095, some ⟨0x10801, 0x1F, 0, 0, 8, 0, 0⟩, 1) } }, by
      decide +kernel⟩
  · exact ⟨4095, 1, 0, ⟨0x10801, 0x1F, 0, 0, 8, 0, 0⟩, wr (Reg.TCK_LOCK 0) 3 (wr (Reg.TCK_LRNG 0) 0xFFF0FFF (setBitAt
      Reg.TCK_GPIOOWN 31 true
      { st0 with tack := { TackSt.reset with adm := some (4095, some ⟨0x10801, 0x1F, 0, 0, 8, 0, 0⟩, 1) } })), by
      decide +kernel⟩
  · exact ⟨4095, 1, ⟨0x10801, 0x1F, 0, 0, 8, 0, 0⟩,
      { st0 with tack := { TackSt.reset with adm := some (4095, some ⟨0x10801, 0x1F, 0, 0, 8, 0, 0⟩, 1) } }, by
      decide +kernel⟩
  · exact ⟨0, 1, { st0 with tack := { TackSt.reset with adm := some (0, none, 1) } }, by decide +kernel⟩
  · exact ⟨4095, ⟨0x10801, 0x1F, 0, 0, 8, 0, 0⟩, 16000000000,
      { st0 with tack := { TackSt.reset with switch := [(4095, some ⟨0x10801, 0x1F, 0, 0, 8, 0, 0⟩, 16000000000)] } },
      by decide +kernel⟩
  · exact ⟨4095, 16000000000,
      { st0 with tack := { TackSt.reset with switch := [(4095, none, 16000000000)], slots := [(4095, ⟨0x10801, 0x1F, 0, 0, 8, 0, 0⟩)] } },
      by decide +kernel⟩
  · exact ⟨{ st0 with tack := { TackSt.reset with slots := [(4095, ⟨0x10801, 0x1F, 0, 0, 8, 0, 0⟩)] } }, by
      decide +kernel⟩
  · exact ⟨4095, 999999992,
      { st0 with tack := { TackSt.reset with slots := [(4095, ⟨0x10801, 0x1F, 0, 0, 8, 0, 0⟩)], due := [(4095, some 15999999872)] } },
      by decide +kernel⟩

/-- What the clauses of SequenceLocks ask of a command and a state is met. -/
theorem test_meets_SequenceLocks :
    (∃ (lock : Fin 8) (kind : Fin 4) (st : Fin 4) (by_ : Fin 19) (s : State), mayStore Reg.TCK_LCMD by_ s = true ∧ kind
        ≠ 3 ∧ lockHeld lock s = false ∧ domainTaken lock kind st s = false ∧ 1 ≤ leaseAsked s ∧ leaseAsked s ≤ 1000000
        ∧ (kind ≠ 0 ∨ rd Reg.TCK_LRANGE s % 2 ^ 12 ≤ rd Reg.TCK_LRANGE s / 2 ^ 16 % 2 ^ 12))
    ∧ (∃ (lock : Fin 8) (kind : Fin 4) (by_ : Fin 19) (s : State), mayStore Reg.TCK_LCMD by_ s = true ∧ kind ≠ 3
        ∧ lockHeld lock s = true ∧ lockOwner lock s ≠ by_)
    ∧ (∃ (lock : Fin 8) (by_ : Fin 19) (s : State), mayStore Reg.TCK_LCMD by_ s = true ∧ lockCause lock by_ s = 0 ∧ 1
        ≤ leaseAsked s ∧ leaseAsked s ≤ 1000000)
    ∧ (∃ (lock : Fin 8) (by_ : Fin 19) (s : State), mayStore Reg.TCK_LCMD by_ s = true ∧ lockCause lock by_ s = 0)
    ∧ (∃ (lock : Fin 8) (a : Nat) (n : Nat) (w : Slot) (s : State), (lockOf lock s).commitAt = some a ∧ a ≤ s.lt
        ∧ (lockOf lock s).staged = [Staged.slot n w] ∧ oldWaits n a s = false)
    ∧ (∃ (lock : Fin 8) (a : Nat) (k : Nat) (v : Nat) (s : State), (lockOf lock s).commitAt = some a ∧ a ≤ s.lt
        ∧ (lockOf lock s).staged = [Staged.stitch k v true, Staged.carrier k v] ∧ k < 4)
    ∧ (∃ (lock : Fin 8) (by_ : Fin 19) (s : State), mayStore Reg.TCK_LCMD by_ s = true ∧ lockCause lock by_ s = 0
        ∧ (lockOf lock s).committed = false)
    ∧ (∃ (lock : Fin 8) (by_ : Fin 19) (s : State), mayStore Reg.TCK_LCMD by_ s = true ∧ (lockOf lock
        s).commitAt.isSome = true)
    ∧ (∃ (lock : Fin 8) (s : State), lockHeld lock s = true ∧ (lockOf lock s).commitAt = none ∧ (lockOf lock s).until_
        < s.lt)
    ∧ (∃ (lock : Fin 8) (s : State), lockHeld lock s = true ∧ (lockOf lock s).commitAt = none ∧ (lockOf lock s).until_
        = s.lt) := by
  refine ⟨?_, ?_, ?_, ?_, ?_, ?_, ?_, ?_, ?_, ?_⟩
  · exact ⟨7, 1, 3, 17, wr Reg.TCK_LLEASE 1000000 st0, by decide +kernel⟩
  · exact ⟨7, 0, 0, wr (Reg.TCK_LOCK 7) 35 st0, by decide +kernel⟩
  · exact ⟨7, 17, setLock 7 { Lock.reset with until_ := 16000000008 } (wr (Reg.TCK_LOCK 7) 35 (wr Reg.TCK_LLEASE 1
      st0)), by decide +kernel⟩
  · exact ⟨7, 17, setLock 7 { Lock.reset with until_ := 16000000008 } (wr (Reg.TCK_LOCK 7) 35 st0), by decide +kernel⟩
  · exact ⟨7, 16000000000, 4095, ⟨0x10801, 0x1F, 0, 0, 8, 0, 0⟩, setLock 7
      { Lock.reset with commitAt := some 16000000000, staged := [Staged.slot 4095 ⟨0x10801, 0x1F, 0, 0, 8, 0, 0⟩] } (wr
      (Reg.TCK_LOCK 7) 35 st0), by decide +kernel⟩
  · exact ⟨7, 16000000000, 3, 3, setLock 7
      { Lock.reset with commitAt := some 16000000000, staged := [Staged.stitch 3 3 true, Staged.carrier 3 3] } (wr
      (Reg.TCK_LOCK 7) 35 st0), by decide +kernel⟩
  · exact ⟨7, 17, setLock 7 { Lock.reset with until_ := 16000000008 } (wr (Reg.TCK_LOCK 7) 35 st0), by decide +kernel⟩
  · exact ⟨7, 17, setLock 7 { Lock.reset with commitAt := some 5 } (wr (Reg.TCK_LOCK 7) 35 st0), by decide +kernel⟩
  · exact ⟨7, setLock 7 { Lock.reset with until_ := 15999999992 } (wr (Reg.TCK_LOCK 7) 35 st0), by decide +kernel⟩
  · exact ⟨7, setLock 7 { Lock.reset with until_ := 16000000000 } (wr (Reg.TCK_LOCK 7) 35 st0), by decide +kernel⟩

/-- What the clauses of GpioActions ask of a command and a state is met. -/
theorem test_meets_GpioActions :
    (∃ (slot : Fin 4096) (s : State), tackReady slot actGpio s = true ∧ slArg (slotOf slot s) = 0 ∧ acting s = true)
    ∧ (∃ (slot : Fin 4096) (s : State), tackReady slot actGpio s = true ∧ slArg (slotOf slot s) = 1 ∧ acting s = true)
    ∧ (∃ (slot : Fin 4096) (s : State), tackReady slot actGpio s = true ∧ slArg (slotOf slot s) = 2 ∧ acting s = true)
    ∧ (∃ (slot : Fin 4096) (s : State), tackReady slot actGpio s = false)
    ∧ (∃ (slot : Fin 4096) (s : State), tackReady slot actGpio s = false)
    ∧ (∃ (slot : Fin 4096) (s : State), tackReady slot actGpio s = false) := by
  refine ⟨?_, ?_, ?_, ?_, ?_, ?_⟩
  · exact ⟨4095, fireSt 4095 actGpio 31 0 st0, by decide +kernel⟩
  · exact ⟨4095, fireSt 4095 actGpio 31 1 st0, by decide +kernel⟩
  · exact ⟨4095, fireSt 4095 actGpio 31 2 st0, by decide +kernel⟩
  · exact ⟨4095, st0, by decide +kernel⟩
  · exact ⟨4095, st0, by decide +kernel⟩
  · exact ⟨4095, st0, by decide +kernel⟩

/-- What the clauses of SequenceStarts ask of a command and a state is met. -/
theorem test_meets_SequenceStarts :
    (∃ (slot : Fin 4096) (b : Nat) (e : Nat) (s : State), tackReady slot actAdc s = true ∧ b = slTarget (slotOf slot s)
        % 4 ∧ e = slArg (slotOf slot s) % 32 ∧ (slArg (slotOf slot s)).testBit 8 = false ∧ bankRetired b s = false
        ∧ (bankOf b s).run = none)
    ∧ (∃ (slot : Fin 4096) (b : Nat) (e : Nat) (s : State), tackReady slot actAdc s = true ∧ b = slTarget (slotOf slot
        s) % 4 ∧ e = slArg (slotOf slot s) % 32 ∧ (slArg (slotOf slot s)).testBit 8 = true ∧ bankRetired b s = false
        ∧ (bankOf b s).run = none)
    ∧ (∃ (slot : Fin 4096) (b : Nat) (r : Run) (s : State), tackReady slot actAdc s = true ∧ b = slTarget (slotOf slot
        s) % 4 ∧ (slArg (slotOf slot s)).testBit 8 = false ∧ bankRetired b s = false ∧ (bankOf b s).run = some r
        ∧ r.urgent = false ∧ seqLoops b 33 r.entry s = false)
    ∧ (∃ (slot : Fin 4096) (b : Nat) (e : Nat) (r : Run) (s : State), tackReady slot actAdc s = true ∧ b = slTarget
        (slotOf slot s) % 4 ∧ e = slArg (slotOf slot s) % 32 ∧ (slArg (slotOf slot s)).testBit 8 = true ∧ bankRetired b
        s = false ∧ (bankOf b s).run = some r ∧ r.urgent = false ∧ r.done = false ∧ nowF s + 4 ≤ r.next)
    ∧ (∃ (bank : Fin 4) (r : Run) (s : State), (bankOf bank s).run = some r ∧ r.done = true ∧ busyEnd bank s ≤ nowF s
        ∧ r.urgent = false)
    ∧ (∃ (bank : Fin 4) (r : Run) (h : Nat) (s : State), (bankOf bank s).run = some r ∧ r.done = true ∧ busyEnd bank s
        ≤ nowF s ∧ r.urgent = true ∧ (bankOf bank s).held = some h) := by
  refine ⟨?_, ?_, ?_, ?_, ?_, ?_⟩
  · exact ⟨4095, 3, 31, fireSt 4095 actAdc 3 31 st0, by decide +kernel⟩
  · exact ⟨4095, 3, 31, fireSt 4095 actAdc 3 287 st0, by decide +kernel⟩
  · exact ⟨4095, 3, ⟨false, 0, [], 1, 1000000000, false⟩, fireSt 4095 actAdc 3 31 (wr (Reg.ADC_SEQ_A 3 0) 0xFFFFFFFF
      (setBank 3 { AdcSt.reset with run := some ⟨false, 0, [], 1, 1000000000, false⟩ } st0)), by decide +kernel⟩
  · exact ⟨4095, 3, 31, ⟨false, 0, [], 1, 1000000004, false⟩, fireSt 4095 actAdc 3 287 (setBank 3
      { AdcSt.reset with run := some ⟨false, 0, [], 1, 1000000004, false⟩ } st0), by decide +kernel⟩
  · exact ⟨3, ⟨false, 0, [], 0, 5, true⟩, setBank 3 { AdcSt.reset with run := some ⟨false, 0, [], 0, 5, true⟩ } st0, by
      decide +kernel⟩
  · exact ⟨3, ⟨true, 0, [], 0, 5, true⟩, 31, setBank 3
      { AdcSt.reset with run := some ⟨true, 0, [], 0, 5, true⟩, held := some 31 } st0, by decide +kernel⟩

/-- What the clauses of BankCalibration ask of a command and a state is met. -/
theorem test_meets_BankCalibration :
    (∃ (bank : Fin 4) (codes : List (BitVec 16)) (e : Nat) (due : Nat) (rounds : List Round) (rest : List (Nat × List
        Round × Nat)) (s : State), (bankOf bank s).deliver = (e, rounds, due) :: rest ∧ due ≤ 64 * s.lt ∧ (entConvs
        bank e rounds s).length = codes.length)
    ∧ (∃ (bank : Fin 4) (c : BitVec 16) (e : Nat) (due : Nat) (i : Nat) (at_ : Nat) (v : Int) (cal : Int × Nat) (rounds
        : List Round) (rest : List (Nat × List Round × Nat)) (s : State), (bankOf bank s).deliver = (e, rounds, due) ::
        rest ∧ due ≤ 64 * s.lt ∧ entConvs bank e rounds s = [(i, cal, at_)] ∧ entRaw bank e rounds [c.toInt] s = [v]
        ∧ entIn bank e i s < 12)
    ∧ (∃ (bank : Fin 4) (slice : Fin 5) (low : BitVec 32) (zero : BitVec 32) (high : BitVec 32) (z : Int) (d : Int) (s
        : State), bankUsed bank s = true ∧ z = sumMis (sliceMis bank slice s) (nabsOf bank s) zero.toInt ∧ d = sumMis
        (sliceMis bank slice s) (nabsOf bank s) high.toInt - sumMis (sliceMis bank slice s) (nabsOf bank s) low.toInt
        ∧ slicePhase bank slice s = phAbs ∧ Tbl.get 0 (bankOf bank s).absAt slice + fclk * (60 * nabsOf bank s) ≤ s.lt
        ∧ z.natAbs ≤ rd (Reg.ADC_BLIM bank) s % 2 ^ 8 * nabsOf bank s ∧ 0 < d ∧ ((163840 * (nabsOf bank s : Int) - 3
        * d).natAbs * 2 ^ 14 : Int) ≤ (rd (Reg.ADC_BLIM bank) s / 2 ^ 8 % 2 ^ 8 : Nat) * (3 * d) ∧ bankReady bank s
        = true ∧ sliceRole bank slice s ≠ roleSpare)
    ∧ (∃ (bank : Fin 4) (slice : Fin 5) (low : BitVec 32) (zero : BitVec 32) (high : BitVec 32) (z : Int) (d : Int) (s
        : State), bankUsed bank s = true ∧ z = sumMis (sliceMis bank slice s) (nabsOf bank s) zero.toInt ∧ d = sumMis
        (sliceMis bank slice s) (nabsOf bank s) high.toInt - sumMis (sliceMis bank slice s) (nabsOf bank s) low.toInt
        ∧ slicePhase bank slice s = phAbs ∧ Tbl.get 0 (bankOf bank s).absAt slice + fclk * (60 * nabsOf bank s) ≤ s.lt
        ∧ z.natAbs ≤ rd (Reg.ADC_BLIM bank) s % 2 ^ 8 * nabsOf bank s ∧ 0 < d ∧ ((163840 * (nabsOf bank s : Int) - 3
        * d).natAbs * 2 ^ 14 : Int) ≤ (rd (Reg.ADC_BLIM bank) s / 2 ^ 8 % 2 ^ 8 : Nat) * (3 * d) ∧ bankReady bank s
        = true ∧ sliceRole bank slice s = roleSpare)
    ∧ (∃ (bank : Fin 4) (slice : Fin 5) (low : BitVec 32) (zero : BitVec 32) (high : BitVec 32) (z : Int) (d : Int) (s
        : State), bankUsed bank s = true ∧ z = sumMis (sliceMis bank slice s) (nabsOf bank s) zero.toInt ∧ d = sumMis
        (sliceMis bank slice s) (nabsOf bank s) high.toInt - sumMis (sliceMis bank slice s) (nabsOf bank s) low.toInt
        ∧ slicePhase bank slice s = phAbs ∧ Tbl.get 0 (bankOf bank s).absAt slice + fclk * (60 * nabsOf bank s) ≤ s.lt
        ∧ d ≤ 0)
    ∧ (∃ (bank : Fin 4) (sxy : BitVec 64) (sxx : BitVec 64) (sm : BitVec 64) (gain : BitVec 32) (k : Nat) (s : State),
        spareOf bank s = some k ∧ slicePhase bank k s = phRel ∧ 2 * nrelOf bank s ≤ (bankOf bank s).relCount ∧ 1024
        * (nrelOf bank s : Int) ≤ sxx.toInt ∧ 0 < sxx.toInt ∧ (roundDiv (256 * sxy.toInt) sxx.toInt.toNat).natAbs ≤ 8
        * (rd (Reg.ADC_BLIM bank) s / 2 ^ 16 % 2 ^ 8) ∧ sm.toInt.natAbs ≤ 32 * (rd (Reg.ADC_BCAL1 bank) s / 2 ^ 8 % 2 ^
        8) * nrelOf bank s ∧ (gain.toInt - 2 ^ 20).natAbs ≤ rd (Reg.ADC_BCAL1 bank) s / 2 ^ 16)
    ∧ (∃ (bank : Fin 4) (k : Nat) (s : State), spareOf bank s = some k ∧ slicePhase bank k s = phRel ∧ (bankOf bank
        s).relCount < 2 * nrelOf bank s ∧ (bankOf bank s).relAt + rd (Reg.ADC_BCAL1 bank) s % 2 ^ 8 * 1000 * ms ≤ s.lt)
    ∧ (∃ (bank : Fin 4) (k : Nat) (j : Nat) (p : Nat) (f : Nat) (s : State), spareOf bank s = some k ∧ (bankOf bank
        s).rotAt = some f ∧ (bankOf bank s).run = none ∧ p = fl (Reg.ADC_BSTAT bank) Reg.ADC_BSTAT_SHADOW s ∧ j
        = sliceAt bank p s ∧ sliceRole bank j s = roleActive_)
    ∧ (∃ (ref : BitVec 16) (mon : BitVec 16), ((ref.toNat : Int) - mon.toNat).natAbs * 200 ≤ mon.toNat)
    ∧ (∃ (ref : BitVec 16) (mon : BitVec 16), mon.toNat < ((ref.toNat : Int) - mon.toNat).natAbs * 200) := by
  refine ⟨?_, ?_, ?_, ?_, ?_, ?_, ?_, ?_, ?_, ?_⟩
  · exact ⟨3, [0x7FFF#16], 0, 5, [⟨100, false, [(0, 2 ^ 20)], []⟩], [], setBank 3
      { AdcSt.reset with deliver := [(0, [⟨100, false, [(0, 2 ^ 20)], []⟩], 5)] } st0, by decide +kernel⟩
  · exact ⟨3, 0x8000#16, 0, 5, 0, 102400, -32768, (0, 2 ^ 20), [⟨100, false, [(0, 2 ^ 20)], []⟩], [], setBank 3
      { AdcSt.reset with deliver := [(0, [⟨100, false, [(0, 2 ^ 20)], []⟩], 5)] } st0, by decide +kernel⟩
  · exact ⟨3, 4, -27307, 0, 27307, 0, 54614, wr (Reg.ADC_BCFG 3) 1 (wr (Reg.ADC_BLIM 3) 0xFFFFFF (wr (Reg.ADC_BCAL0 3)
      0x10001 (wr (Reg.ADC_BCAL1 3) 0xFFFFFF00 (setB (Reg.ADC_BSTAT 3) Reg.ADC_BSTAT_READY true (setF (Reg.ADC_SSTAT 3
      4) slPhase_ phAbs st0))))), by decide +kernel⟩
  · exact ⟨3, 4, -27307, 0, 27307, 0, 54614, wr (Reg.ADC_BCFG 3) 1 (wr (Reg.ADC_BLIM 3) 0xFFFFFF (wr (Reg.ADC_BCAL0 3)
      0x10001 (wr (Reg.ADC_BCAL1 3) 0xFFFFFF00 (setB (Reg.ADC_BSTAT 3) Reg.ADC_BSTAT_READY true (setF (Reg.ADC_SSTAT 3
      4) slPhase_ phAbs (setF (Reg.ADC_SSTAT 3 4) slRole roleSpare st0)))))), by decide +kernel⟩
  · exact ⟨3, 4, 1, 0, 1, 0, 0, wr (Reg.ADC_BCFG 3) 1 (wr (Reg.ADC_BLIM 3) 0xFFFFFF (wr (Reg.ADC_BCAL0 3) 0x10001 (wr
      (Reg.ADC_BCAL1 3) 0xFFFFFF00 (setF (Reg.ADC_SSTAT 3 4) slPhase_ phAbs st0)))), by decide +kernel⟩
  · exact ⟨3, 16384, 16384, 0, 0x100000, 4, wr (Reg.ADC_BCFG 3) 1 (wr (Reg.ADC_BLIM 3) 0xFFFFFF (wr (Reg.ADC_BCAL0 3)
      0x10001 (wr (Reg.ADC_BCAL1 3) 0xFFFFFF00 (setF (Reg.ADC_SSTAT 3 4) slPhase_ phRel (setF (Reg.ADC_SSTAT 3 4)
      slRole roleSpare (setBank 3 { AdcSt.reset with relCount := 32 } st0)))))), by decide +kernel⟩
  · exact ⟨3, 4, wr (Reg.ADC_BCFG 3) 1 (wr (Reg.ADC_BLIM 3) 0xFFFFFF (wr (Reg.ADC_BCAL0 3) 0x10001 (wr (Reg.ADC_BCAL1
      3) 0xFFFFFF00 (setF (Reg.ADC_SSTAT 3 4) slPhase_ phRel (setF (Reg.ADC_SSTAT 3 4) slRole roleSpare st0))))), by
      decide +kernel⟩
  · exact ⟨3, 4, 3, 3, 0, setF (Reg.ADC_BSTAT 3) Reg.ADC_BSTAT_SHADOW 3 (setF (Reg.ADC_SSTAT 3 3) slPos 3 (setBank 3
      { AdcSt.reset with rotAt := some 0 } (setF (Reg.ADC_SSTAT 3 4) slRole roleSpare st0))), by decide +kernel⟩
  · exact ⟨24120, 24000, by decide +kernel⟩
  · exact ⟨24121, 24000, by decide +kernel⟩

/-- What the clauses of LaneCommands ask of a command and a state is met. -/
theorem test_meets_LaneCommands :
    (∃ (lane : Fin 64) (v : Int) (x : Nat) (rest : List (Int × Nat)) (s : State), (laneOf lane s).inq = (v, x) :: rest
        ∧ laneUsed lane s = true ∧ s.configured = true ∧ laneRetired lane s = false ∧ (laneOf lane s).count = 0)
    ∧ (∃ (lane : Fin 64) (v : Int) (x : Nat) (rest : List (Int × Nat)) (s : State), (laneOf lane s).inq = (v, x) ::
        rest ∧ laneUsed lane s = true ∧ s.configured = true ∧ laneRetired lane s = false ∧ (laneOf lane s).count ≠ 0
        ∧ (4 * ((x : Int) - (laneOf lane s).stamp) < 3 * (64 * laneIspc lane s) ∨ 5 * (64 * (laneIspc lane s : Int))
        < 4 * ((x : Int) - (laneOf lane s).stamp)))
    ∧ (∃ (lane : Fin 64) (v : Int) (x : Nat) (rest : List (Int × Nat)) (s : State), (laneOf lane s).inq = (v, x) ::
        rest ∧ laneUsed lane s = true ∧ s.configured = true ∧ laneRetired lane s = false ∧ (laneOf lane s).count ≠ 0
        ∧ 3 * (64 * (laneIspc lane s : Int)) ≤ 4 * ((x : Int) - (laneOf lane s).stamp) ∧ 4 * ((x : Int) - (laneOf lane
        s).stamp) ≤ 5 * (64 * laneIspc lane s))
    ∧ (∃ (lane : Fin 64) (s : State), laneUsed lane s = true ∧ (laneOf lane s).count ≠ 0 ∧ (laneOf lane s).arrived + 2
        * laneIspc lane s ≤ s.lt)
    ∧ (∃ (lane : Fin 64) (s : State), s.lt < (laneOf lane s).arrived + 2 * laneIspc lane s)
    ∧ (∃ (lane : Fin 64) (x : Smp) (ready : Nat) (rest : List (Smp × Nat)) (s : State), (laneOf lane s).wait = (x,
        ready) :: rest ∧ ceilDiv (x.lt + fclk * (rd (Reg.RNS_DLYUSE lane) s % 2 ^ 24)) fclk ≤ nowF s ∧ ceilDiv ready
        fclk ≤ ceilDiv (x.lt + fclk * (rd (Reg.RNS_DLYUSE lane) s % 2 ^ 24)) fclk ∧ laneValid lane s = false ∧ on
        (Reg.RNS_RCFG lane) Reg.RNS_RCFG_WREN s = false)
    ∧ (∃ (lane : Fin 64) (x : Smp) (ready : Nat) (n : Nat) (rest : List (Smp × Nat)) (s : State), (laneOf lane s).wait
        = (x, ready) :: rest ∧ ceilDiv (x.lt + fclk * (rd (Reg.RNS_DLYUSE lane) s % 2 ^ 24)) fclk ≤ nowF s ∧ ceilDiv
        ready fclk ≤ ceilDiv (x.lt + fclk * (rd (Reg.RNS_DLYUSE lane) s % 2 ^ 24)) fclk ∧ laneValid lane s = true
        ∧ masked 5 s = false ∧ on (Reg.RNS_RCFG lane) Reg.RNS_RCFG_WREN s = true ∧ n = 2 ^ fl (Reg.RNS_RCFG lane)
        Reg.RNS_RCFG_RSIZE s ∧ (rd (Reg.RNS_RWIDX lane) s + 2 ^ 32 - rd (Reg.RNS_RRIDX lane) s) % 2 ^ 32 ≠ n)
    ∧ (∃ (lane : Fin 64) (x : Smp) (ready : Nat) (rest : List (Smp × Nat)) (s : State), (laneOf lane s).wait = (x,
        ready) :: rest ∧ ceilDiv (x.lt + fclk * (rd (Reg.RNS_DLYUSE lane) s % 2 ^ 24)) fclk ≤ nowF s ∧ ceilDiv (x.lt
        + fclk * (rd (Reg.RNS_DLYUSE lane) s % 2 ^ 24)) fclk < ceilDiv ready fclk)
    ∧ (∃ (lane : Fin 64) (value : BitVec 32) (by_ : Fin 19) (s : State), mayStore (Reg.RNS_RRIDX lane) by_ s = true
        ∧ (rd (Reg.RNS_RWIDX lane) s + 2 ^ 32 - value.toNat) % 2 ^ 32 ≤ 2 ^ fl (Reg.RNS_RCFG lane) Reg.RNS_RCFG_RSIZE
        s)
    ∧ (∃ (lane : Fin 64) (value : BitVec 32) (s : State), 2 ^ fl (Reg.RNS_RCFG lane) Reg.RNS_RCFG_RSIZE s < (rd
        (Reg.RNS_RWIDX lane) s + 2 ^ 32 - value.toNat) % 2 ^ 32) := by
  refine ⟨?_, ?_, ?_, ?_, ?_, ?_, ?_, ?_, ?_, ?_⟩
  · exact ⟨63, 5, 1000000, [], wr (Reg.RNS_LCFG 63) 1 (wr (Reg.RNS_ISPC 63) 1000 (setLane 63
      { LaneSt.reset with inq := [(5, 1000000)] } st0)), by decide +kernel⟩
  · exact ⟨63, 5, 1000000, [], wr (Reg.RNS_LCFG 63) 1 (wr (Reg.RNS_ISPC 63) 1000 (setLane 63
      { LaneSt.reset with inq := [(5, 1000000)], count := 9, stamp := 1000 } st0)), by decide +kernel⟩
  · exact ⟨63, 5, 1000000, [], wr (Reg.RNS_LCFG 63) 1 (wr (Reg.RNS_ISPC 63) 1000 (setLane 63
      { LaneSt.reset with inq := [(5, 1000000)], count := 9, stamp := 936000 } st0)), by decide +kernel⟩
  · exact ⟨63, wr (Reg.RNS_LCFG 63) 1 (wr (Reg.RNS_ISPC 63) 1000 (setLane 63
      { LaneSt.reset with inq := [(5, 1000000)], count := 9, arrived := 15999998000 } st0)), by decide +kernel⟩
  · exact ⟨63, wr (Reg.RNS_LCFG 63) 1 (wr (Reg.RNS_ISPC 63) 1000 (setLane 63
      { LaneSt.reset with inq := [(5, 1000000)], count := 9, arrived := 15999998001 } st0)), by decide +kernel⟩
  · exact ⟨63, ⟨-1, 5, 0⟩, 16, [], wr (Reg.RNS_LCFG 63) 1 (wr (Reg.RNS_ISPC 63) 1000 (setLane 63
      { LaneSt.reset with wait := [(⟨-1, 5, 0⟩, 16)] } st0)), by decide +kernel⟩
  · exact ⟨63, ⟨-1, 5, 0⟩, 16, 16, [], setLaneValid 63 true (setB (Reg.RNS_RCFG 63) Reg.RNS_RCFG_WREN true (setF
      (Reg.RNS_RCFG 63) Reg.RNS_RCFG_RSIZE 4 (wr (Reg.RNS_RWIDX 63) 15 (setLane 63
      { LaneSt.reset with wait := [(⟨-1, 5, 0⟩, 16)] } st0)))), by decide +kernel⟩
  · exact ⟨63, ⟨-1, 5, 0⟩, 17, [], wr (Reg.RNS_LCFG 63) 1 (wr (Reg.RNS_ISPC 63) 1000 (setLane 63
      { LaneSt.reset with wait := [(⟨-1, 5, 0⟩, 17)] } st0)), by decide +kernel⟩
  · exact ⟨63, 0xFFFFFFFF#32, 0, st0, by decide +kernel⟩
  · exact ⟨63, 0xFFFFFFFE#32, st0, by decide +kernel⟩

/-- What the clauses of HamperCapture ask of a command and a state is met. -/
theorem test_meets_HamperCapture :
    (∃ (slot : Fin 4096) (s : State), tackReady slot actHamper s = true ∧ slArg (slotOf slot s) = 0 ∧ hmpState s
        = hmpIdle)
    ∧ (∃ (slot : Fin 4096) (s : State), tackReady slot actHamper s = true ∧ slArg (slotOf slot s) = 0 ∧ hmpState s ≠
        hmpIdle)
    ∧ (∃ (slot : Fin 4096) (s : State), tackReady slot actHamper s = true ∧ slArg (slotOf slot s) = 1)
    ∧ (∃ (by_ : Fin 19) (s : State), mayStore Reg.HMP_CMD by_ s = true ∧ hmpState s = hmpIdle)
    ∧ (∃ (by_ : Fin 19) (s : State), mayStore Reg.HMP_CMD by_ s = true ∧ hmpState s ≠ hmpIdle)
    ∧ (∃ (by_ : Fin 19) (s : State), mayStore Reg.HMP_CMD by_ s = true ∧ hmpState s = hmpArmed)
    ∧ (∃ (by_ : Fin 19) (s : State), mayStore Reg.HMP_CMD by_ s = true ∧ hmpState s ≠ hmpArmed)
    ∧ (∃ (by_ : Fin 19) (s : State), mayStore Reg.HMP_CMD by_ s = true ∧ (hmpState s = hmpArmed ∨ hmpState s
        = hmpTriggered))
    ∧ (∃ (by_ : Fin 19) (s : State), mayStore Reg.HMP_CMD by_ s = true ∧ hmpState s = hmpComplete)
    ∧ (∃ (by_ : Fin 19) (s : State), mayStore Reg.HMP_CMD by_ s = true ∧ hmpState s = hmpComplete)
    ∧ (∃ (by_ : Fin 19) (s : State), mayStore Reg.HMP_CMD by_ s = true ∧ hmpState s ≠ hmpComplete)
    ∧ (∃ (timer : Fin 4) (t0 : Nat) (s : State), s.hmp.timers.find? (fun p : Nat × Nat => p.1 == timer.val) = some
        (timer.val, t0) ∧ t0 + rd (Reg.HMP_TLIM timer) s ≤ s.lt ∧ s.hmp.expired.contains timer.val = false) := by
  refine ⟨?_, ?_, ?_, ?_, ?_, ?_, ?_, ?_, ?_, ?_, ?_, ?_⟩
  · exact ⟨4095, fireSt 4095 actHamper 0 0 st0, by decide +kernel⟩
  · exact ⟨4095, fireSt 4095 actHamper 0 0 (setHmpState hmpComplete st0), by decide +kernel⟩
  · exact ⟨4095, fireSt 4095 actHamper 0 1 st0, by decide +kernel⟩
  · exact ⟨17, st0, by decide +kernel⟩
  · exact ⟨0, setHmpState hmpArmed st0, by decide +kernel⟩
  · exact ⟨0, setHmpState hmpArmed st0, by decide +kernel⟩
  · exact ⟨0, st0, by decide +kernel⟩
  · exact ⟨0, wr (Reg.HMP_CCFG 63) 1 (setHmpState hmpTriggered st0), by decide +kernel⟩
  · exact ⟨0, setHmpState hmpComplete st0, by decide +kernel⟩
  · exact ⟨0, setHmpState hmpComplete st0, by decide +kernel⟩
  · exact ⟨0, setHmpState hmpTriggered st0, by decide +kernel⟩
  · exact ⟨3, 16000000000, { st0 with hmp := { st0.hmp with timers := [(3, 16000000000)] } }, by decide +kernel⟩

/-- What the clauses of HamperRecordsAndPins ask of a command and a state is met. -/
theorem test_meets_HamperRecordsAndPins :
    (∃ (channel : Fin 64) (tg : Nat) (w : Nat) (n : Nat) (s : State), (tg = (if dramBase ≤ rd (Reg.HMP_CBASE channel) s
        then tgtDram else 3)) ∧ burstMay 4 tg s = true ∧ Tbl.get none s.fab.asked (32 + tg) = none ∧ (chanOf channel
        s).marks = [] ∧ w = rd (Reg.HMP_CWIDX channel) s ∧ n = min (chanOf channel s).fifo.length (64 / chRec channel s
        - w % (64 / chRec channel s)) ∧ (chanOf channel s).fifo.length ≤ 48)
    ∧ (∃ (channel : Fin 64) (tg : Nat) (e : HEnt) (s : State), (tg = (if dramBase ≤ rd (Reg.HMP_CBASE channel) s then
        tgtDram else 3)) ∧ burstMay 4 tg s = true ∧ (chanOf channel s).marks = [] ∧ (chanOf channel s).fifo = [e]
        ∧ e.mark = false ∧ chWide channel s = false)
    ∧ (∃ (channel : Fin 64) (s : State), 0 < (chanOf channel s).lost ∧ chLive channel s = true ∧ chRoom channel s
        = true)
    ∧ (∃ (pin : Fin 2) (a : Nat) (d : Nat) (s : State), s.hmp.pinOut.find? (fun p : Nat × Nat × Nat => p.1 == pin.val)
        = some (pin.val, a, d) ∧ d ≤ a ∧ a ≤ s.lt)
    ∧ (∃ (pin : Fin 2) (a : Nat) (d : Nat) (s : State), s.hmp.pinOut.find? (fun p : Nat × Nat × Nat => p.1 == pin.val)
        = some (pin.val, a, d) ∧ a < d)
    ∧ (∃ (pin : Fin 2) (s : State), pinIsOut pin s = false ∧ s.configured = true ∧ bitAt Reg.HMP_TBSTAT pin s = true
        ∧ s.hmp.calTc.find? (fun p : Nat × Nat => p.1 == pin.val) = none)
    ∧ (∃ (pin : Fin 2) (s : State), pinIsOut pin s = false ∧ s.configured = true ∧ bitAt Reg.HMP_TBSTAT pin s = false
        ∧ s.hmp.calTc.find? (fun p : Nat × Nat => p.1 == pin.val) = none)
    ∧ (∃ (by_ : Fin 19) (tc : Nat) (s : State), mayStore Reg.HMP_CMD by_ s = true ∧ tc = s.lt / 2 ^ 32 * 2 ^ 32 + rd
        Reg.HMP_CALT s) := by
  refine ⟨?_, ?_, ?_, ?_, ?_, ?_, ?_, ?_⟩
  · exact ⟨63, 3, 7, 1, setF (Reg.HMP_CCFG 63) Reg.HMP_CCFG_RSZ 12 (wr (Reg.HMP_CWIDX 63) 7 (setChan 63
      { HmpCh.reset with fifo := [⟨false, -1, 5, 0⟩, ⟨false, -1, 5, 0⟩] } st0)), by decide +kernel⟩
  · exact ⟨63, 3, ⟨false, -1, 5, 0⟩, setF (Reg.HMP_CCFG 63) Reg.HMP_CCFG_RSZ 12 (wr (Reg.HMP_CWIDX 63) 7 (setChan 63
      { HmpCh.reset with fifo := [⟨false, -1, 5, 0⟩] } st0)), by decide +kernel⟩
  · exact ⟨63, setHmpState hmpTriggered (setChan 63 { HmpCh.reset with lost := 2000000, lostAt := 5 } st0), by
      decide +kernel⟩
  · exact ⟨1, 16000000000, 16000000000, { st0 with hmp := { st0.hmp with pinOut := [(1, 16000000000, 16000000000)] } },
      by decide +kernel⟩
  · exact ⟨1, 5, 6, { st0 with hmp := { st0.hmp with pinOut := [(1, 5, 6)] } }, by decide +kernel⟩
  · exact ⟨1, setBitAt Reg.HMP_TBSTAT 1 true st0, by decide +kernel⟩
  · exact ⟨1, st0, by decide +kernel⟩
  · exact ⟨17, 12884901888, setBitAt Reg.HMP_TBCFG 1 true st0, by decide +kernel⟩

/-- What the clauses of TaskRuns ask of a command and a state is met. -/
theorem test_meets_TaskRuns :
    (∃ (slot : Fin 4096) (n : Nat) (s : State), tackReady slot actTask s = true ∧ n = slTarget (slotOf slot s) % 16
        ∧ restarting s = false ∧ halted s = false ∧ s.cyc.due = none ∧ taskEnabled n s = true ∧ runOf s = runNone ∧ (∀
        k : Fin 17, (taskOf k s).state = 0))
    ∧ (∃ (slot : Fin 4096) (n : Nat) (s : State), tackReady slot actTask s = true ∧ n = slTarget (slotOf slot s) % 16
        ∧ restarting s = false ∧ halted s = false ∧ s.cyc.due = none ∧ taskEnabled n s = true ∧ (taskOf n s).state ≠ 0)
    ∧ (∃ (task : Fin 17) (s : State), halted s = false ∧ (taskOf task s).state = 2 ∧ task.val < 16 ∧ (nowF s
        ≤ taskLimit task s ∨ (taskOf task s).missed = true))
    ∧ (∃ (task : Fin 17) (a : BitVec 32) (s : State), halted s = false ∧ (taskOf task s).state = 2 ∧ (∀ k : Fin 17, k ≠
        task → (taskOf k s).state = 0) ∧ Tbl.get [] s.cyc.prog.outs task = [] ∧ progData a.toNat 4 s = true ∧ acting s
        = true ∧ masked 1 s = false ∧ s.cyc.forces = [] ∧ nowF s ≤ taskLimit task s)
    ∧ (∃ (task : Fin 17) (s : State), halted s = false ∧ (taskOf task s).state = 2 ∧ task.val < 16 ∧ taskLimit task s
        < nowF s ∧ (taskOf task s).missed = false ∧ on (Reg.CYC_TCFG task) ⟨0, 1⟩ s = true)
    ∧ (∃ (task : Fin 17) (s : State), (taskOf task s).state ≠ 0 ∧ (taskOf task s).missed = false ∧ task.val < 16
        ∧ (taskOf task s).start + rd (Reg.CYC_TDL task) s % 2 ^ 24 ≤ nowF s ∧ on (Reg.CYC_TCFG task) ⟨0, 1⟩ s = false)
    ∧ (∃ (task : Fin 17) (s : State), (taskOf task s).state ≠ 0 ∧ (taskOf task s).missed = false ∧ task.val < 16
        ∧ (taskOf task s).start + rd (Reg.CYC_TDL task) s % 2 ^ 24 ≤ nowF s ∧ on (Reg.CYC_TCFG task) ⟨0, 1⟩ s = true)
    ∧ (∃ (task : Fin 17) (s : State), (taskOf task s).state ≠ 0 ∧ (taskOf task s).missed = true)
    ∧ (∃ (task : Fin 17) (s : State), halted s = false ∧ (taskOf task s).state = 2 ∧ task.val < 16)
    ∧ (∃ (k : Nat) (i : Nat) (rest : List (Nat × Nat)) (s : State), s.cyc.causes = (k, i) :: rest ∧ (taskOf errTask
        s).state = 0 ∧ runOf s ≠ errTask ∧ restarting s = false ∧ halted s = false ∧ s.cyc.due = none) := by
  refine ⟨?_, ?_, ?_, ?_, ?_, ?_, ?_, ?_, ?_, ?_⟩
  · exact ⟨4095, 15, setF Reg.CYC_CFG Reg.CYC_CFG_TEN 0xFFFF (setRun runNone (fireSt 4095 actTask 15 0 st0)), by
      decide +kernel⟩
  · exact ⟨4095, 15, setF Reg.CYC_CFG Reg.CYC_CFG_TEN 0xFFFF (fireSt 4095 actTask 15 0 (setTask 15 ⟨2, 5, false⟩
      (st0))), by decide +kernel⟩
  · exact ⟨15, wr (Reg.CYC_TDL 15) 100 (setRun 15 (setTask 15 ⟨2, 999999990, false⟩ (st0))), by decide +kernel⟩
  · exact ⟨16, 0x300000#32, wr Reg.CYC_ETDL 100 (setTask 16 ⟨2, 999999990, false⟩ (st0)), by decide +kernel⟩
  · exact ⟨15, setB (Reg.CYC_TCFG 15) ⟨0, 1⟩ true (setTask 15 ⟨2, 999999990, false⟩ (st0)), by decide +kernel⟩
  · exact ⟨15, setTask 15 ⟨3, 1000000000, false⟩ (st0), by decide +kernel⟩
  · exact ⟨15, setB (Reg.CYC_TCFG 15) ⟨0, 1⟩ true (setTask 15 ⟨2, 1000000000, false⟩ (st0)), by decide +kernel⟩
  · exact ⟨15, setTask 15 ⟨2, 0, true⟩ (st0), by decide +kernel⟩
  · exact ⟨15, setRun 15 (setTask 15 ⟨2, 0, false⟩ (st0)), by decide +kernel⟩
  · exact ⟨4, 15, [(1, 63)], setRun runNone ({ st0 with cyc := { CycSt.reset with causes := [(4, 15), (1, 63)] } }), by
      decide +kernel⟩

/-- What the clauses of RestartAndStations ask of a command and a state is met. -/
theorem test_meets_RestartAndStations :
    (∃ (s : State), s.configured = true ∧ halted s = false)
    ∧ (∃ (h : Nat) (s : State), s.cyc.halted = some h ∧ s.cyc.stays = false ∧ h + ms ≤ s.lt)
    ∧ (∃ (h : Nat) (s : State), s.cyc.halted = some h ∧ s.lt < h + ms)
    ∧ (∃ (station : Fin 64) (s : State), stnUsed station s = true ∧ stnPresent station s = true ∧ rd (Reg.CYC_SCFG
        station) s / 2 ^ 19 % 16 ≤ Tbl.get 0 s.cyc.missed station)
    ∧ (∃ (by_ : Fin 19) (s : State), mayStore Reg.CYC_RCMD by_ s = true ∧ by_.val < 16)
    ∧ (∃ (by_ : Fin 19) (s : State), mayStore Reg.CYC_RCMD by_ s = true ∧ by_.val < 16)
    ∧ (∃ (by_ : Fin 19) (s : State), mayStore Reg.CYC_RCMD by_ s = true ∧ by_.val = 18)
    ∧ (∃ (by_ : Fin 19) (s : State), mayStore Reg.CYC_RCMD by_ s = true ∧ by_.val = 18)
    ∧ (∃ (k : Nat) (s : State), s.cyc.due = some k ∧ (s.cyc.stays = false ∨ halted s = false))
    ∧ (∃ (s : State), restarting s = true ∧ s.cyc.kind = kWarm ∧ (warmImage s).1 = 0)
    ∧ (∃ (s : State), restarting s = true ∧ s.cyc.kind = kWarm ∧ (warmImage s).1 = 0 ∧ paired s = false)
    ∧ (∃ (k : Nat) (s : State), restarting s = true ∧ s.cyc.kind = kWarm ∧ (warmImage s).1 = k ∧ k ≠ 0)
    ∧ (∃ (w : Nat) (g : Seg) (s : State), s.pwr.warnAt = some w ∧ s.pwr.snap = none ∧ cycIdle s = true ∧ retainSeg s
        = some g) := by
  refine ⟨?_, ?_, ?_, ?_, ?_, ?_, ?_, ?_, ?_, ?_, ?_, ?_, ?_⟩
  · exact ⟨st0, by decide +kernel⟩
  · exact ⟨15992000000, { st0 with cyc := { CycSt.reset with halted := some 15992000000 } }, by decide +kernel⟩
  · exact ⟨15992000001, { st0 with cyc := { CycSt.reset with halted := some 15992000001 } }, by decide +kernel⟩
  · exact ⟨63, setPresent 63 true (wr (Reg.CYC_SCFG 63) 0x140000
      ({ st0 with cyc := { CycSt.reset with missed := [(63, 2)] } })), by decide +kernel⟩
  · exact ⟨15, st0, by decide +kernel⟩
  · exact ⟨15, st0, by decide +kernel⟩
  · exact ⟨18, setB Reg.TMB_STAT Reg.TMB_STAT_TESTMODE true st0, by decide +kernel⟩
  · exact ⟨18, setB Reg.TMB_STAT Reg.TMB_STAT_TESTMODE true st0, by decide +kernel⟩
  · exact ⟨1,
      { st0 with cyc := { CycSt.reset with due := some 1, forces := [(63, some ⟨0x300000, 4, 1, 0, true, 7, true, false, none, false⟩)] } },
      by decide +kernel⟩
  · exact ⟨setB Reg.CYC_STAT Reg.CYC_STAT_RESTART true
      { { st0 with cyc := { CycSt.reset with kind := 1 } } with nv := { st0.nv with sectA := Sector.saved 0 0 false [] } },
      by decide +kernel⟩
  · exact ⟨setB Reg.CYC_STAT Reg.CYC_STAT_RESTART true
      { { st0 with cyc := { CycSt.reset with kind := 1 } } with nv := { st0.nv with sectA := Sector.saved 0 0 false [] } },
      by decide +kernel⟩
  · exact ⟨1, setB Reg.CYC_STAT Reg.CYC_STAT_RESTART true ({ st0 with cyc := { CycSt.reset with kind := 1 } }), by
      decide +kernel⟩
  · exact ⟨5, ⟨SegKind.retain, 0, 0x300000, 64, false, none⟩,
      { { st0 with cyc := { CycSt.reset with prog := { segs := [⟨SegKind.retain, 0, 0x300000, 64, false, none⟩], ins := [], outs := [] } } } with pwr := { st0.pwr with warnAt := some 5 } },
      by decide +kernel⟩

/-- What the clauses of PatchesAndForces ask of a command and a state is met. -/
theorem test_meets_PatchesAndForces :
    (∃ (by_ : Fin 19) (s : State), mayStore Reg.CYC_PCMD by_ s = true ∧ s.cyc.sub = none)
    ∧ (∃ (by_ : Fin 19) (s : State), mayStore Reg.CYC_PCMD by_ s = true ∧ s.cyc.sub.isSome = true)
    ∧ (∃ (x : Nat) (a : Nat) (s : State), s.cyc.sub = some (x, a))
    ∧ (∃ (x : Nat) (a : Nat) (c : Nat) (task : Nat) (es : List (Nat × Nat × Nat)) (s : State), s.cyc.sub = some (x, a)
        ∧ patchCheck a s = (c, task, es) ∧ c ≠ 0)
    ∧ (∃ (p : Patch) (a : Nat) (v : Nat) (s : State), s.cyc.patch = some p ∧ p.ripe = true ∧ p.task ≠ bTaskAll
        ∧ p.entries = [(a, 4, v)] ∧ s.cyc.forces = [] ∧ acting s = true)
    ∧ (∃ (p : Patch) (s : State), s.cyc.patch = some p ∧ p.since + 100 * ms ≤ s.lt)
    ∧ (∃ (value : BitVec 32) (by_ : Fin 19) (a : Nat) (n : Nat) (k : Nat) (i : Nat) (s : State), mayStore Reg.CYC_FCMD
        by_ s = true ∧ on Reg.CYC_CFG Reg.CYC_CFG_FORCEEN s = true ∧ a = rd Reg.CYC_FADDR s ∧ n = 2 ^ (value.toNat / 4
        % 4) ∧ k = value.toNat / 16 % 32 ∧ forceCheck a n k s = 0 ∧ forceNamed a s = none ∧ freeForce s = some i)
    ∧ (∃ (by_ : Fin 19) (s : State), mayStore Reg.CYC_FCMD by_ s = true ∧ on Reg.CYC_CFG Reg.CYC_CFG_FORCEEN s = false)
    ∧ (∃ (value : BitVec 32) (by_ : Fin 19) (a : Nat) (n : Nat) (k : Nat) (i : Nat) (f : Force) (s : State), mayStore
        Reg.CYC_FCMD by_ s = true ∧ on Reg.CYC_CFG Reg.CYC_CFG_FORCEEN s = true ∧ a = rd Reg.CYC_FADDR s ∧ n = 2 ^
        (value.toNat / 4 % 4) ∧ k = value.toNat / 16 % 32 ∧ forceCheck a n k s = 0 ∧ forceNamed a s = some i ∧ forceOf
        i s = some f)
    ∧ (∃ (value : BitVec 32) (by_ : Fin 19) (s : State), mayStore Reg.CYC_FCMD by_ s = true ∧ on Reg.CYC_CFG
        Reg.CYC_CFG_FORCEEN s = true ∧ forceCheck (rd Reg.CYC_FADDR s) (2 ^ (value.toNat / 4 % 4)) (value.toNat / 16 %
        32) s = 0 ∧ forceNamed (rd Reg.CYC_FADDR s) s = none)
    ∧ (∃ (index : Fin 64) (f : Force) (s : State), forceOf index s = some f ∧ f.setting = true ∧ f.active = false
        ∧ startsNext f.task s = true)
    ∧ (∃ (index : Fin 64) (f : Force) (k : Nat) (s : State), forceOf index s = some f ∧ f.release = some k ∧ f.ripe
        = true ∧ f.active = true ∧ f.patched = true)
    ∧ (∃ (index : Fin 64) (f : Force) (k : Nat) (s : State), forceOf index s = some f ∧ f.release = some k ∧ f.ripe
        = true ∧ f.patched = false) := by
  refine ⟨?_, ?_, ?_, ?_, ?_, ?_, ?_, ?_, ?_, ?_, ?_, ?_, ?_⟩
  · exact ⟨17, st0, by decide +kernel⟩
  · exact ⟨0, { st0 with cyc := { CycSt.reset with sub := some (1, 2) } }, by decide +kernel⟩
  · exact ⟨1, 0x200000, { st0 with cyc := { CycSt.reset with sub := some (1, 0x200000) } }, by decide +kernel⟩
  · exact ⟨1, 0x200000, 2, 0, [], { st0 with cyc := { CycSt.reset with sub := some (1, 0x200000) } }, by decide +kernel⟩
  · exact ⟨⟨1, 3, [(0x200004, 4, 0x80000001)], true⟩, 0x200004, 0x80000001,
      { st0 with cyc := { CycSt.reset with patch := some ⟨1, 3, [(0x200004, 4, 0x80000001)], true⟩ } }, by
      decide +kernel⟩
  · exact ⟨⟨15200000000, 3, [], false⟩,
      { st0 with cyc := { CycSt.reset with patch := some ⟨15200000000, 3, [], false⟩ } }, by decide +kernel⟩
  · exact ⟨0x38#32, 17, 0x200004, 4, 3, 0, setB Reg.CYC_CFG Reg.CYC_CFG_FORCEEN true (wr Reg.CYC_FADDR 0x200004 (wr
      Reg.CYC_FVAL_LO 0xFFFFFFFF
      ({ st0 with cyc := { CycSt.reset with prog := { segs := [⟨SegKind.vars, 3, 0x200000, 64, false, none⟩], ins := [], outs := [] } } }))),
      by decide +kernel⟩
  · exact ⟨0, st0, by decide +kernel⟩
  · exact ⟨0x38#32, 17, 0x200004, 4, 3, 63, ⟨0x200004, 4, 9, 3, true, 7, false, false, none, false⟩, setB Reg.CYC_CFG
      Reg.CYC_CFG_FORCEEN true (wr Reg.CYC_FADDR 0x200004 (wr Reg.CYC_FVAL_LO 0xFFFFFFFF
      ({ st0 with cyc := { CycSt.reset with prog := { segs := [⟨SegKind.vars, 3, 0x200000, 64, false, none⟩], ins := [], outs := [] }, forces := [(63, some ⟨0x200004, 4, 9, 3, true, 7, false, false, none, false⟩)] } }))),
      by decide +kernel⟩
  · exact ⟨0x38#32, 0, setB Reg.CYC_CFG Reg.CYC_CFG_FORCEEN true (wr Reg.CYC_FADDR 0x200004 (wr Reg.CYC_FVAL_LO
      0xFFFFFFFF
      ({ st0 with cyc := { CycSt.reset with prog := { segs := [⟨SegKind.vars, 3, 0x200000, 64, false, none⟩], ins := [], outs := [] } } }))),
      by decide +kernel⟩
  · exact ⟨63, ⟨0x200004, 4, 9, 3, false, 7, false, true, none, false⟩, setRun runNone (setTask 3 ⟨1, 0, false⟩
      ({ st0 with cyc := { CycSt.reset with forces := [(63, some ⟨0x200004, 4, 9, 3, false, 7, false, true, none, false⟩)] } })),
      by decide +kernel⟩
  · exact ⟨63, ⟨0x200004, 4, 9, 3, true, 7, true, false, some 3, true⟩, 3,
      { st0 with cyc := { CycSt.reset with forces := [(63, some ⟨0x200004, 4, 9, 3, true, 7, true, false, some 3, true⟩)] } },
      by decide +kernel⟩
  · exact ⟨63, ⟨0x200004, 4, 9, 3, true, 7, false, false, some 3, true⟩, 3,
      { st0 with cyc := { CycSt.reset with forces := [(63, some ⟨0x200004, 4, 9, 3, true, 7, false, false, some 3, true⟩)] } },
      by decide +kernel⟩

/-- What the clauses of EventLinesAndArbiter ask of a command and a state is met. -/
theorem test_meets_EventLinesAndArbiter :
    (∃ (slot : Fin 4096) (n : Nat) (len : Nat) (s : State), tackReady slot actHe s = true ∧ n = slTarget (slotOf slot
        s) % 32 ∧ len = slArg (slotOf slot s) % 256 ∧ heHigh n s = false)
    ∧ (∃ (slot : Fin 4096) (n : Nat) (len : Nat) (s : State), tackReady slot actHe s = true ∧ n = slTarget (slotOf slot
        s) % 32 ∧ len = slArg (slotOf slot s) % 256 ∧ heHigh n s = true)
    ∧ (∃ (target : Fin 5) (q : Fin 12) (wait : BitVec 16) (s : State), mayRequest q target s = true ∧ unitAsks target s
        = [] ∧ stallOf q s = 0 ∧ q ≠ 2 ∧ q ≠ 3 ∧ q ≠ 4 ∧ target ≠ 4 ∧ (Tbl.get ArbSt.reset s.fab.arb target).free
        ≤ nowF s ∧ wait.toNat ≤ fl (Reg.MEM_WB q) Reg.MEM_WB_SRAMB s)
    ∧ (∃ (target : Fin 5) (r : Nat) (a : Nat) (n : Nat) (x : Xfer) (s : State), (reaches target).contains 2 = true
        ∧ masked 2 s = false ∧ target ≠ 4 ∧ (Tbl.get ArbSt.reset s.fab.arb target).free ≤ nowF s ∧ portBusy 2 s = false
        ∧ portRing true s = some r ∧ (dmaOf r s).cur = some x ∧ nextBurst x = some (true, a, n) ∧ targetOf a = target
        ∧ unitAsks target s = [] ∧ nowF s < x.start + rd (Reg.DMA_RDL r) s % 2 ^ 24)
    ∧ (∃ (s : State), on Reg.MEM_STAT Reg.MEM_STAT_DRAMRDY s = true ∧ s.fab.refresh + 1950 ≤ nowF s)
    ∧ (∃ (s : State), on Reg.MEM_STAT Reg.MEM_STAT_DRAMRDY s = true ∧ s.fab.refresh + 1950 ≤ nowF s)
    ∧ (∃ (requester : Fin 12) (x : ReadSt) (c : Xfer) (c0 : Xfer) (s : State), Tbl.get none s.fab.reads requester
        = some x ∧ nowF s < x.ends ∧ (dmaOf x.ring s).cur = some c ∧ c.ended = none ∧ x.dma.cur = some c0)
    ∧ (∃ (requester : Fin 12) (x : ReadSt) (c : Xfer) (s : State), Tbl.get none s.fab.reads requester = some x ∧ nowF s
        < x.ends ∧ (dmaOf x.ring s).cur = some c ∧ c.ended = none ∧ x.dma.cur = none) := by
  refine ⟨?_, ?_, ?_, ?_, ?_, ?_, ?_, ?_⟩
  · exact ⟨4095, 31, 255, fireSt 4095 actHe 31 255 st0, by decide +kernel⟩
  · exact ⟨4095, 31, 255, fireSt 4095 actHe 31 255 { st0 with fab := { FabSt.reset with he := [(31, 2000000000)] } },
      by decide +kernel⟩
  · exact ⟨1, 11, 40, setF (Reg.MEM_WB 11) Reg.MEM_WB_SRAMB 40 st0, by decide +kernel⟩
  · exact ⟨1, 15, 0x210000, 4, ⟨5, 3, 1, 0x200000, 0x210000, 4, 0, [1, 2, 3, 4], 4, 0, (0x200100, []), false, none⟩, wr
      (Reg.DMA_RDL 15) 0xFFFFFF
      ({ setDma 15 { DmaSt.reset with cur := some ⟨5, 3, 1, 0x200000, 0x210000, 4, 0, [1, 2, 3, 4], 4, 0, (0x200100, []), false, none⟩ } (setB (Reg.DMA_RCFG 15) Reg.DMA_RCFG_CLASS true st0) with lt := 16000000 }),
      by decide +kernel⟩
  · exact ⟨setB Reg.MEM_STAT Reg.MEM_STAT_DRAMRDY true st0, by decide +kernel⟩
  · exact ⟨setB Reg.MEM_STAT Reg.MEM_STAT_DRAMRDY true st0, by decide +kernel⟩
  · exact ⟨3, ⟨1000000001, 15,
      { DmaSt.reset with cur := some ⟨5, 3, 1, 0x200000, 0x210000, 4, 0, [], 0, 0, (0x200100, []), false, none⟩ }, 0,
      4⟩, ⟨5, 3, 1, 0x200000, 0x210000, 4, 0, [1, 2, 3, 4], 4, 0, (0x200100, []), false, none⟩, ⟨5, 3, 1, 0x200000,
      0x210000, 4, 0, [], 0, 0, (0x200100, []), false, none⟩,
      { setDma 15 { DmaSt.reset with chain := true, cur := some ⟨5, 3, 1, 0x200000, 0x210000, 4, 0, [1, 2, 3, 4], 4, 0, (0x200100, []), false, none⟩ } (st0) with fab := { (setDma 15 { DmaSt.reset with chain := true, cur := some ⟨5, 3, 1, 0x200000, 0x210000, 4, 0, [1, 2, 3, 4], 4, 0, (0x200100, []), false, none⟩ } (st0)).fab with reads := [(3, some ⟨1000000001, 15, { DmaSt.reset with cur := some ⟨5, 3, 1, 0x200000, 0x210000, 4, 0, [], 0, 0, (0x200100, []), false, none⟩ }, 0, 4⟩)] } },
      by decide +kernel⟩
  · exact ⟨3, ⟨1000000001, 15, { DmaSt.reset with starts := [(5, false)] }, 0, 4⟩, ⟨5, 3, 1, 0x200000, 0x210000, 4, 0,
      [1, 2, 3, 4], 4, 0, (0x200100, []), false, none⟩,
      { setDma 15 { DmaSt.reset with cur := some ⟨5, 3, 1, 0x200000, 0x210000, 4, 0, [1, 2, 3, 4], 4, 0, (0x200100, []), false, none⟩ } (st0) with fab := { (setDma 15 { DmaSt.reset with cur := some ⟨5, 3, 1, 0x200000, 0x210000, 4, 0, [1, 2, 3, 4], 4, 0, (0x200100, []), false, none⟩ } (st0)).fab with reads := [(3, some ⟨1000000001, 15, { DmaSt.reset with starts := [(5, false)] }, 0, 4⟩)] } },
      by decide +kernel⟩

/-- What the clauses of DmaRings ask of a command and a state is met. -/
theorem test_meets_DmaRings :
    (∃ (ring : Fin 16) (by_ : Fin 19) (s : State), mayStore (Reg.DMA_RCMD ring) by_ s = true ∧ ringUsed ring s = true
        ∧ ringHe ring s = false ∧ ringRetired ring s = false ∧ (dmaOf ring s).chain = false)
    ∧ (∃ (ring : Fin 16) (by_ : Fin 19) (s : State), mayStore (Reg.DMA_RCMD ring) by_ s = true ∧ ringUsed ring s = true
        ∧ ringHe ring s = false ∧ ringRetired ring s = false ∧ (dmaOf ring s).chain = true)
    ∧ (∃ (ring : Fin 16) (by_ : Fin 19) (s : State), mayStore (Reg.DMA_RCMD ring) by_ s = true ∧ ringHe ring s = true)
    ∧ (∃ (ring : Fin 16) (by_ : Fin 19) (x : Xfer) (s : State), mayStore (Reg.DMA_RCMD ring) by_ s = true ∧ (dmaOf ring
        s).cur = some x ∧ x.ended = none)
    ∧ (∃ (ring : Fin 16) (by_ : Fin 19) (x : Xfer) (l : Nat) (s : State), mayStore (Reg.DMA_RCMD ring) by_ s = true
        ∧ (dmaOf ring s).cur = some x ∧ x.ended = some (stDone, l))
    ∧ (∃ (ring : Fin 16) (by_ : Fin 19) (s : State), mayStore (Reg.DMA_RCMD ring) by_ s = true ∧ (dmaOf ring s).cur
        = none ∧ (dmaOf ring s).starts = [] ∧ (dmaOf ring s).chain = false)
    ∧ (∃ (ring : Fin 16) (a : Nat) (st : Nat) (late : Bool) (rest : List (Nat × Bool)) (s : State), ringNext ring s
        = some (bkFetch, 1) ∧ (portBusy (if ringDeadline ring s then 2 else 3) s = false) ∧ portRing (ringDeadline ring
        s) s = some ring.val ∧ (burstMay (if ringDeadline ring s then 2 else 3) 1 s = true) ∧ ringTurn ring s = true
        ∧ a = descAt ring (ringHead ring s) s ∧ (dmaOf ring s).starts = (st, late) :: rest ∧ (ldN a 4 s).testBit 0
        = true)
    ∧ (∃ (ring : Fin 16) (a : Nat) (st : Nat) (late : Bool) (rest : List (Nat × Bool)) (s : State), ringNext ring s
        = some (bkFetch, 1) ∧ (portBusy (if ringDeadline ring s then 2 else 3) s = false) ∧ portRing (ringDeadline ring
        s) s = some ring.val ∧ (burstMay (if ringDeadline ring s then 2 else 3) 1 s = true) ∧ ringTurn ring s = true
        ∧ a = descAt ring (ringHead ring s) s ∧ (dmaOf ring s).starts = (st, late) :: rest ∧ (ldN a 4 s).testBit 0
        = false ∧ ringHe ring s = true)
    ∧ (∃ (ring : Fin 16) (tg : Nat) (x : Xfer) (s : State), ringNext ring s = some (bkReadback, tg) ∧ (portBusy (if
        ringDeadline ring s then 2 else 3) s = false) ∧ portRing (ringDeadline ring s) s = some ring.val ∧ (burstMay
        (if ringDeadline ring s then 2 else 3) tg s = true) ∧ (dmaOf ring s).cur = some x ∧ x.ended = none ∧ x.len
        ≤ x.put ∧ ldBytes x.piece.1 x.piece.2.length s = x.piece.2 ∧ (tg = tgtDram → on Reg.MEM_STAT
        Reg.MEM_STAT_DRAMRET s = false) ∧ (ringDeadline ring s = true → nowF s + burstLen tg ≤ x.start + rd
        (Reg.DMA_RDL ring) s % 2 ^ 24))
    ∧ (∃ (ring : Fin 16) (tg : Nat) (x : Xfer) (s : State), ringNext ring s = some (bkReadback, tg) ∧ (portBusy (if
        ringDeadline ring s then 2 else 3) s = false) ∧ portRing (ringDeadline ring s) s = some ring.val ∧ (burstMay
        (if ringDeadline ring s then 2 else 3) tg s = true) ∧ (dmaOf ring s).cur = some x ∧ x.ended = none ∧ x.len
        ≤ x.put ∧ ldBytes x.piece.1 x.piece.2.length s = x.piece.2 ∧ (tg = tgtDram → on Reg.MEM_STAT
        Reg.MEM_STAT_DRAMRET s = false) ∧ ringDeadline ring s = true ∧ x.start + rd (Reg.DMA_RDL ring) s % 2 ^ 24
        < nowF s + burstLen tg)
    ∧ (∃ (ring : Fin 16) (tg : Nat) (x : Xfer) (s : State), ringNext ring s = some (bkReadback, tg) ∧ (portBusy (if
        ringDeadline ring s then 2 else 3) s = false) ∧ portRing (ringDeadline ring s) s = some ring.val ∧ (burstMay
        (if ringDeadline ring s then 2 else 3) tg s = true) ∧ (dmaOf ring s).cur = some x ∧ x.ended = none ∧ x.len
        ≤ x.put ∧ (tg = tgtDram → on Reg.MEM_STAT Reg.MEM_STAT_DRAMRET s = false) ∧ x.repeated = false ∧ ringDeadline
        ring s = false)
    ∧ (∃ (ring : Fin 16) (tg : Nat) (x : Xfer) (s : State), ringNext ring s = some (bkReadback, tg) ∧ (portBusy (if
        ringDeadline ring s then 2 else 3) s = false) ∧ portRing (ringDeadline ring s) s = some ring.val ∧ (burstMay
        (if ringDeadline ring s then 2 else 3) tg s = true) ∧ (dmaOf ring s).cur = some x ∧ x.ended = none ∧ x.len
        ≤ x.put ∧ (tg = tgtDram → on Reg.MEM_STAT Reg.MEM_STAT_DRAMRET s = false) ∧ x.repeated = true)
    ∧ (∃ (ring : Fin 16) (x : Xfer) (status : Nat) (l : Nat) (a : Nat) (s : State), ringNext ring s = some (bkReturn,
        1) ∧ (portBusy (if ringDeadline ring s then 2 else 3) s = false) ∧ portRing (ringDeadline ring s) s = some
        ring.val ∧ (burstMay (if ringDeadline ring s then 2 else 3) 1 s = true) ∧ (Tbl.get none s.fab.asked (8 * (if
        ringDeadline ring s then 2 else 3) + 1) = none) ∧ (dmaOf ring s).cur = some x ∧ x.ended = some (status, l) ∧ a
        = descAt ring x.index s)
    ∧ (∃ (ring : Fin 16) (x : Xfer) (s : State), ringDeadline ring s = true ∧ (dmaOf ring s).cur = some x ∧ x.ended
        = none ∧ x.start + rd (Reg.DMA_RDL ring) s % 2 ^ 24 ≤ nowF s)
    ∧ (∃ (ring : Fin 16) (s : State), ringDeadline ring s = false) := by
  refine ⟨?_, ?_, ?_, ?_, ?_, ?_, ?_, ?_, ?_, ?_, ?_, ?_, ?_, ?_, ?_⟩
  · exact ⟨15, 17, setB (Reg.DMA_RCFG 15) Reg.DMA_RCFG_EN true st0, by decide +kernel⟩
  · exact ⟨15, 17, setB (Reg.DMA_RCFG 15) Reg.DMA_RCFG_EN true (setDma 15 { DmaSt.reset with chain := true } (st0)), by
      decide +kernel⟩
  · exact ⟨15, 17, setB (Reg.DMA_RCFG 15) Reg.DMA_RCFG_START true st0, by decide +kernel⟩
  · exact ⟨15, 17, ⟨5, 3, 1, 0x200000, 0x210000, 4, 0, [1, 2, 3, 4], 4, 0, (0x200100, []), false, none⟩, setDma 15
      { DmaSt.reset with chain := true, cur := some ⟨5, 3, 1, 0x200000, 0x210000, 4, 0, [1, 2, 3, 4], 4, 0, (0x200100, []), false, none⟩ }
      (st0), by decide +kernel⟩
  · exact ⟨15, 17, ⟨5, 3, 1, 0x200000, 0x210000, 4, 0, [1, 2, 3, 4], 4, 4, (0x200100, []), false, some (1, 9)⟩, 9,
      setDma 15
      { DmaSt.reset with cur := some ⟨5, 3, 1, 0x200000, 0x210000, 4, 0, [1, 2, 3, 4], 4, 4, (0x200100, []), false, some (1, 9)⟩ }
      (st0), by decide +kernel⟩
  · exact ⟨15, 17, st0, by decide +kernel⟩
  · exact ⟨15, 0x200000, 5, false, [(6, false)], setB (Reg.DMA_RCFG 15) Reg.DMA_RCFG_EN true (setB (Reg.DMA_RCFG 15)
      Reg.DMA_RCFG_START true (wr (Reg.DMA_RBASE 15) 0x200000 (wr (Reg.DMA_RMAXLEN 15) 4
      { setDma 15 { DmaSt.reset with starts := [(5, false), (6, false)] } (st0) with mem := [(0x200000, 0x11#8), (0x200004, 0x20#8), (0x200008, 0x40#8), (0x20000C, 4#8)] }))),
      by decide +kernel⟩
  · exact ⟨15, 0x200000, 5, false, [(6, false)], setB (Reg.DMA_RCFG 15) Reg.DMA_RCFG_EN true (setB (Reg.DMA_RCFG 15)
      Reg.DMA_RCFG_START true (wr (Reg.DMA_RBASE 15) 0x200000 (wr (Reg.DMA_RMAXLEN 15) 4 (setDma 15
      { DmaSt.reset with starts := [(5, false), (6, false)] } (st0))))), by decide +kernel⟩
  · exact ⟨15, 1, ⟨5, 3, 1, 0x200000, 0x210000, 4, 0, [1, 2, 3, 4], 4, 4, (0x200100, []), false, none⟩, setDma 15
      { DmaSt.reset with cur := some ⟨5, 3, 1, 0x200000, 0x210000, 4, 0, [1, 2, 3, 4], 4, 4, (0x200100, []), false, none⟩ }
      (st0), by decide +kernel⟩
  · exact ⟨15, 1, ⟨5, 3, 1, 0x200000, 0x210000, 4, 0, [1, 2, 3, 4], 4, 4, (0x200100, []), false, none⟩, setB
      (Reg.DMA_RCFG 15) Reg.DMA_RCFG_CLASS true (setDma 15
      { DmaSt.reset with cur := some ⟨5, 3, 1, 0x200000, 0x210000, 4, 0, [1, 2, 3, 4], 4, 4, (0x200100, []), false, none⟩ }
      (st0)), by decide +kernel⟩
  · exact ⟨15, 1, ⟨5, 3, 1, 0x200000, 0x210000, 4, 0, [1, 2, 3, 4], 4, 4, (0x200100, []), false, none⟩, setDma 15
      { DmaSt.reset with cur := some ⟨5, 3, 1, 0x200000, 0x210000, 4, 0, [1, 2, 3, 4], 4, 4, (0x200100, []), false, none⟩ }
      (st0), by decide +kernel⟩
  · exact ⟨15, 1, ⟨5, 3, 1, 0x200000, 0x210000, 4, 0, [1, 2, 3, 4], 4, 4, (0x200100, []), true, none⟩, setDma 15
      { DmaSt.reset with cur := some ⟨5, 3, 1, 0x200000, 0x210000, 4, 0, [1, 2, 3, 4], 4, 4, (0x200100, []), true, none⟩ }
      (st0), by decide +kernel⟩
  · exact ⟨15, ⟨5, 3, 1, 0x200000, 0x210000, 4, 0, [1, 2, 3, 4], 4, 4, (0x200100, []), false, some (6, 9)⟩, 6, 9,
      0x200060, (wr (Reg.DMA_RBASE 15) 0x200000 (wr (Reg.DMA_RMAXLEN 15) 4 (setDma 15
      { DmaSt.reset with cur := some ⟨5, 3, 1, 0x200000, 0x210000, 4, 0, [1, 2, 3, 4], 4, 4, (0x200100, []), false, some (6, 9)⟩ }
      (st0)))), by decide +kernel⟩
  · exact ⟨15, ⟨5, 3, 1, 0x200000, 0x210000, 4, 0, [1, 2, 3, 4], 4, 0, (0x200100, []), false, none⟩, setB (Reg.DMA_RCFG
      15) Reg.DMA_RCFG_CLASS true (setDma 15
      { DmaSt.reset with cur := some ⟨5, 3, 1, 0x200000, 0x210000, 4, 0, [1, 2, 3, 4], 4, 0, (0x200100, []), false, none⟩ }
      (st0)), by decide +kernel⟩
  · exact ⟨15, st0, by decide +kernel⟩

/-- What the clauses of StreamedFrames ask of a command and a state is met. -/
theorem test_meets_StreamedFrames :
    (∃ (port : Fin 4) (tag : FrameTag) (dstk : Fin 4) (src : BitVec 18) (dst : BitVec 18) (seq : BitVec 32) (epoch :
        BitVec 16) (cts : BitVec 28) (data : List (BitVec 8)) (f : Frame) (i : Nat) (w : Nat) (n : Nat) (s : State), f
        = frameOf port 1 tag dstk src dst seq epoch cts data s ∧ inOrder i f s = true ∧ masked 6 s = false ∧ w = rd
        Reg.SPN_RXWIDX s ∧ n = 2 ^ (rd Reg.SPN_RXCFG s % 16) ∧ (w + 2 ^ 32 - rd Reg.SPN_RXRIDX s) % 2 ^ 32 < n)
    ∧ (∃ (port : Fin 4) (tag : FrameTag) (dstk : Fin 4) (src : BitVec 18) (dst : BitVec 18) (seq : BitVec 32) (epoch :
        BitVec 16) (cts : BitVec 28) (data : List (BitVec 8)) (f : Frame) (i : Nat) (n : Fin 64) (s : State), f
        = frameOf port 2 tag dstk src dst seq epoch cts data s ∧ inOrder i f s = true ∧ stnUsed n s = true ∧ stnAddr n
        s = src.toNat ∧ stnPresent n s = true ∧ data.length ≤ 1488)
    ∧ (∃ (port : Fin 4) (tag : FrameTag) (dstk : Fin 4) (src : BitVec 18) (dst : BitVec 18) (seq : BitVec 32) (epoch :
        BitVec 16) (cts : BitVec 28) (data : List (BitVec 8)) (f : Frame) (i : Nat) (k : Nat) (s : State), f = frameOf
        port 3 tag dstk src dst seq epoch cts data s ∧ inOrder i f s = true ∧ k = tierPort port s ∧ (tierOf k s).mgr
        = false ∧ (tierOf k s).claim = none ∧ serialAfter (tierOf k s).mepoch (be f.data 0 4) = false ∧ be f.data 4 4
        = tierCycle k s % 2 ^ 32 ∧ be f.data 28 4 = rd Reg.SPN_SCHID s)
    ∧ (∃ (port : Fin 4) (tag : FrameTag) (dstk : Fin 4) (src : BitVec 18) (dst : BitVec 18) (seq : BitVec 32) (epoch :
        BitVec 16) (cts : BitVec 28) (data : List (BitVec 8)) (f : Frame) (i : Nat) (k : Nat) (s : State), f = frameOf
        port 4 tag dstk src dst seq epoch cts data s ∧ inOrder i f s = true ∧ k = tierPort port s ∧ (tierOf k s).mgr
        = true ∧ preferred (be f.data 0 4, be f.data 4 1) ((tierOf k s).mepoch, (ownPos k s).getD 8) = true)
    ∧ (∃ (port : Fin 4) (tag : FrameTag) (dstk : Fin 4) (src : BitVec 18) (dst : BitVec 18) (seq : BitVec 32) (epoch :
        BitVec 16) (cts : BitVec 28) (data : List (BitVec 8)) (f : Frame) (i : Nat) (k : Nat) (s : State), f = frameOf
        port 4 tag dstk src dst seq epoch cts data s ∧ inOrder i f s = true ∧ k = tierPort port s ∧ (tierOf k s).mgr
        = true ∧ preferred (be f.data 0 4, be f.data 4 1) ((tierOf k s).mepoch, (ownPos k s).getD 8) = false)
    ∧ (∃ (port : Fin 4) (tag : FrameTag) (dstk : Fin 4) (src : BitVec 18) (dst : BitVec 18) (seq : BitVec 32) (epoch :
        BitVec 16) (cts : BitVec 28) (data : List (BitVec 8)) (f : Frame) (i : Nat) (m : Nat) (s : State), f = frameOf
        port 5 tag dstk src dst seq epoch cts data s ∧ inOrder i f s = true ∧ tierPort port s = 0 ∧ (tierOf 0 s).mgr
        = true ∧ m = src.toNat % 256)
    ∧ (∃ (port : Fin 4) (tag : FrameTag) (dstk : Fin 4) (src : BitVec 18) (dst : BitVec 18) (seq : BitVec 32) (epoch :
        BitVec 16) (cts : BitVec 28) (data : List (BitVec 8)) (f : Frame) (i : Nat) (e : List Nat) (s : State), f
        = frameOf port 6 tag dstk src dst seq epoch cts data s ∧ inOrder i f s = true ∧ tierPort port s = 0
        ∧ serialAfter (tierOf 0 s).mepoch (be f.data 0 4) = false ∧ be f.data 4 2 ≤ ownMember s ∧ ownMember s < be
        f.data 4 2 + be f.data 6 2 ∧ e = f.data.drop (8 + 12 * (ownMember s - be f.data 4 2)))
    ∧ (∃ (stream : Fin 1024) (x : Stream) (d : Nat) (s : State), streamOf stream s = some x ∧ x.deadline = some d ∧ d
        ≤ s.lt ∧ x.held ≠ [] ∧ x.held.all (fun p : Nat × Option Frame => p.1 != x.expect % 2 ^ 32) = true)
    ∧ (∃ (stream : Fin 1024) (x : Stream) (s : State), streamOf stream s = some x ∧ x.last + 10000 * ms ≤ s.lt)
    ∧ (∃ (stream : Fin 1024) (x : Stream) (s : State), streamOf stream s = some x ∧ s.lt < x.last + 10000 * ms) := by
  refine ⟨?_, ?_, ?_, ?_, ?_, ?_, ?_, ?_, ?_, ?_⟩
  · exact ⟨3, ⟨1, 0⟩, 1, 259, 0x1FF, 7, 7, 0, [1#8, 2#8], ⟨3, 1, 1, 0, 1, 259, 0x1FF, 7, 7, 0, ([1#8, 2#8] : List
      (BitVec 8)).map (·.toNat), 16000000000⟩, 5, 0, 1, wr Reg.SPN_RXBASE 0x200000 (setBitAt (Reg.SPN_PSTAT 3) 0 true
      (wr (Reg.SPN_PCFG 3) 1 (setF Reg.SPN_CFG Reg.SPN_CFG_ADDR 0x102
      ({ st0 with spn := { SpnSt.reset with epochs := [(259, 7)], streams := [(5, some ⟨259, 0x1FF, 1, 7, 0, [], none, []⟩)] } })))),
      by decide +kernel⟩
  · exact ⟨3, ⟨1, 0⟩, 1, 259, 0x1FF, 7, 7, 0, List.replicate 8 0#8, ⟨3, 2, 1, 0, 1, 259, 0x1FF, 7, 7, 0,
      (List.replicate 8 0#8 : List (BitVec 8)).map (·.toNat), 16000000000⟩, 5, 63, setPresent 63 true (wr (Reg.CYC_SCFG
      63) 0x40103 (setBitAt (Reg.SPN_PSTAT 3) 0 true (wr (Reg.SPN_PCFG 3) 1 (setF Reg.SPN_CFG Reg.SPN_CFG_ADDR 0x102
      ({ st0 with spn := { SpnSt.reset with epochs := [(259, 7)], streams := [(5, some ⟨259, 0x1FF, 1, 7, 0, [], none, []⟩)] } }))))),
      by decide +kernel⟩
  · exact ⟨3, ⟨1, 0⟩, 1, 259, 0x1FF, 7, 7, 0, ([0, 0, 0, 1, 0x00, 0x1E, 0x84, 0x80, 0, 0, 0, 0, 0, 0, 0, 0, 0, 0, 0, 0,
      0, 0, 0, 0, 0, 0, 0, 0, 0, 0, 0, 0] : List (BitVec 8)), ⟨3, 3, 1, 0, 1, 259, 0x1FF, 7, 7, 0, (([0, 0, 0, 1, 0x00,
      0x1E, 0x84, 0x80, 0, 0, 0, 0, 0, 0, 0, 0, 0, 0, 0, 0, 0, 0, 0, 0, 0, 0, 0, 0, 0, 0, 0, 0] : List (BitVec 8)) :
      List (BitVec 8)).map (·.toNat), 16000000000⟩, 5, 0, setBitAt (Reg.SPN_PSTAT 3) 0 true (wr (Reg.SPN_PCFG 3) 1
      (setF Reg.SPN_CFG Reg.SPN_CFG_ADDR 0x102
      ({ st0 with spn := { SpnSt.reset with epochs := [(259, 7)], streams := [(5, some ⟨259, 0x1FF, 1, 7, 0, [], none, []⟩)] } }))),
      by decide +kernel⟩
  · exact ⟨3, ⟨1, 0⟩, 1, 259, 0x1FF, 7, 7, 0, [0#8, 0#8, 0#8, 1#8, 0#8], ⟨3, 4, 1, 0, 1, 259, 0x1FF, 7, 7, 0, ([0#8,
      0#8, 0#8, 1#8, 0#8] : List (BitVec 8)).map (·.toNat), 16000000000⟩, 5, 0, setBitAt (Reg.SPN_PSTAT 3) 0 true (wr
      (Reg.SPN_PCFG 3) 1 (setF Reg.SPN_CFG Reg.SPN_CFG_ADDR 0x102
      ({ st0 with spn := { SpnSt.reset with epochs := [(259, 7)], streams := [(5, some ⟨259, 0x1FF, 1, 7, 0, [], none, []⟩)], tier := [(0, { Tier.reset with mgr := true })] } }))),
      by decide +kernel⟩
  · exact ⟨3, ⟨1, 0⟩, 1, 259, 0x1FF, 7, 7, 0, List.replicate 5 0#8, ⟨3, 4, 1, 0, 1, 259, 0x1FF, 7, 7, 0,
      (List.replicate 5 0#8 : List (BitVec 8)).map (·.toNat), 16000000000⟩, 5, 0, setBitAt (Reg.SPN_PSTAT 3) 0 true (wr
      (Reg.SPN_PCFG 3) 1 (setF Reg.SPN_CFG Reg.SPN_CFG_ADDR 0x102
      ({ st0 with spn := { SpnSt.reset with epochs := [(259, 7)], streams := [(5, some ⟨259, 0x1FF, 1, 7, 0, [], none, []⟩)], tier := [(0, { Tier.reset with mgr := true, mepoch := 1 })] } }))),
      by decide +kernel⟩
  · exact ⟨3, ⟨1, 0⟩, 1, 259, 0x1FF, 7, 7, 0, List.replicate 32 0#8, ⟨3, 5, 1, 0, 1, 259, 0x1FF, 7, 7, 0,
      (List.replicate 32 0#8 : List (BitVec 8)).map (·.toNat), 16000000000⟩, 5, 3, setBitAt (Reg.SPN_PSTAT 3) 0 true
      (wr (Reg.SPN_PCFG 3) 1 (setF Reg.SPN_CFG Reg.SPN_CFG_ADDR 0x102
      ({ st0 with spn := { SpnSt.reset with epochs := [(259, 7)], streams := [(5, some ⟨259, 0x1FF, 1, 7, 0, [], none, []⟩)], tier := [(0, { Tier.reset with mgr := true })] } }))),
      by decide +kernel⟩
  · exact ⟨3, ⟨1, 0⟩, 1, 259, 0x1FF, 7, 7, 0, ([0, 0, 0, 0, 0, 2, 0, 1, 0x80, 0, 0, 1, 0, 0, 0, 2, 3, 0, 0, 0] : List
      (BitVec 8)), ⟨3, 6, 1, 0, 1, 259, 0x1FF, 7, 7, 0, (([0, 0, 0, 0, 0, 2, 0, 1, 0x80, 0, 0, 1, 0, 0, 0, 2, 3, 0, 0,
      0] : List (BitVec 8)) : List (BitVec 8)).map (·.toNat), 16000000000⟩, 5, [0x80, 0, 0, 1, 0, 0, 0, 2, 3, 0, 0, 0],
      setBitAt (Reg.SPN_PSTAT 3) 0 true (wr (Reg.SPN_PCFG 3) 1 (setF Reg.SPN_CFG Reg.SPN_CFG_ADDR 0x102
      ({ st0 with spn := { SpnSt.reset with epochs := [(259, 7)], streams := [(5, some ⟨259, 0x1FF, 1, 7, 0, [], none, []⟩)] } }))),
      by decide +kernel⟩
  · exact ⟨1023, ⟨259, 0x1FF, 1, 7, 0, [(9, none)], some 5, []⟩, 5,
      { st0 with spn := { SpnSt.reset with streams := [(1023, some ⟨259, 0x1FF, 1, 7, 0, [(9, none)], some 5, []⟩)] } },
      by decide +kernel⟩
  · exact ⟨1023, ⟨259, 0x1FF, 1, 7, 0, [], none, []⟩,
      { st0 with lt := 80000000000, spn := { SpnSt.reset with streams := [(1023, some ⟨259, 0x1FF, 1, 7, 0, [], none, []⟩)] } },
      by decide +kernel⟩
  · exact ⟨1023, ⟨259, 0x1FF, 1, 7, 0, [], none, []⟩,
      { st0 with lt := 79999999999, spn := { SpnSt.reset with streams := [(1023, some ⟨259, 0x1FF, 1, 7, 0, [], none, []⟩)] } },
      by decide +kernel⟩

/-- What the clauses of SpanTransmissionAndUrgent ask of a command and a state is met. -/
theorem test_meets_SpanTransmissionAndUrgent :
    (∃ (slot : Fin 4096) (e : Nat) (s : State), tackReady slot actSpan s = true ∧ e = slTarget (slotOf slot s) % 256
        ∧ enOn e s = true ∧ enBe e s = false ∧ ctAnchored s = true ∧ (enSends e s).isSome = true ∧ regionReport e s
        = false)
    ∧ (∃ (value : BitVec 32) (by_ : Fin 19) (e : Nat) (q : Nat) (s : State), mayStore Reg.SPN_BECMD by_ s = true ∧ e
        = value.toNat % 256 ∧ q = (nextSeq (enDstk e s) (enDst e s) s).1 ∧ enOn e s = true ∧ enBe e s = true ∧ acting s
        = true)
    ∧ (∃ (port : Fin 4) (x : Tx) (k : Nat) (s : State), (fwdNext port s).any (fun y : Fwd => y.cls == 0) = false
        ∧ startable port s = some x ∧ enSends x.entry s = some k ∧ k ≠ 1 ∧ k ≠ 2)
    ∧ (∃ (port : Fin 4) (x : Tx) (k : Nat) (s : State), (fwdNext port s).any (fun y : Fwd => y.cls == 0) = false
        ∧ startable port s = some x ∧ enSends x.entry s = some k ∧ (k = 1 ∨ k = 2))
    ∧ (∃ (port : Fin 4) (x : Tx) (s : State), (queueOf port s).find? (fun y : Tx => decide (enEnd y.entry s ≤ cycleOfs
        s) || firedBefore y s) = some x ∧ released x s = true)
    ∧ (∃ (s : State), s.configured = true ∧ ctAnchored s = true ∧ (tierOf 0 s).cyc ≠ some (cycleNow s) ∧ (tierOf 0
        s).mgr = false)
    ∧ (∃ (s : State), s.configured = true ∧ ctAnchored s = true ∧ regionOn s = true ∧ (tierOf 0 s).mgr = true ∧ (tierOf
        1 s).mgr = false ∧ (tierOf 1 s).cyc ≠ some (cycleNow s / rMult s))
    ∧ (∃ (port : Fin 4) (tag : FrameTag) (dstk : Fin 4) (src : BitVec 18) (dst : BitVec 18) (seq : BitVec 32) (epoch :
        BitVec 16) (cts : BitVec 28) (data : List (BitVec 8)) (f : Frame) (s : State), f = frameOf port 7 tag dstk src
        dst seq epoch cts data s ∧ urgentNew f (be f.data 8 4) s = true ∧ on Reg.HMP_TBCFG Reg.HMP_TBCFG_RXSPAN s
        = true ∧ ctAnchored s = true)
    ∧ (∃ (port : Fin 4) (tag : FrameTag) (dstk : Fin 4) (src : BitVec 18) (dst : BitVec 18) (seq : BitVec 32) (epoch :
        BitVec 16) (cts : BitVec 28) (data : List (BitVec 8)) (f : Frame) (n : Fin 2) (s : State), f = frameOf port 8
        tag dstk src dst seq epoch cts data s ∧ urgentNew f (be f.data 8 4) s = true ∧ ctAnchored s = true
        ∧ s.hmp.pinIn = [] ∧ pinIsOut n s = false) := by
  refine ⟨?_, ?_, ?_, ?_, ?_, ?_, ?_, ?_, ?_⟩
  · exact ⟨4095, 255, fireSt 4095 actSpan 255 0 (setB Reg.BOB_CTSTAT Reg.BOB_CTSTAT_ANCHORED true (wr (Reg.SPN_EW 255
      0) (fldSet Reg.SPN_EW_PORTS (fldSet Reg.SPN_EW_EN 0#32 1) 8).toNat (setBitAt (Reg.SPN_PSTAT 3) 0 true (wr
      (Reg.SPN_PCFG 3) 1 (setF Reg.SPN_CFG Reg.SPN_CFG_ADDR 0x102 (st0)))))), by decide +kernel⟩
  · exact ⟨255#32, 0, 255, 0, wr (Reg.SPN_EW 255 0) (fldSet Reg.SPN_EW_PORTS (fldSet Reg.SPN_EW_EN 0#32 1) 8).toNat (wr
      (Reg.SPN_EW 255 1) (fldSet Reg.SPN_EW_BE 0#32 1).toNat (setBitAt (Reg.SPN_PSTAT 3) 0 true (wr (Reg.SPN_PCFG 3) 1
      (setF Reg.SPN_CFG Reg.SPN_CFG_ADDR 0x102 (st0))))), by decide +kernel⟩
  · exact ⟨3, ⟨255, 16000000000, 0⟩, 5, wr (Reg.SPN_EW 255 0) (fldSet Reg.SPN_EW_TYPE 0#32 5).toNat (wr (Reg.SPN_EW 255
      2) (fldSet Reg.SPN_EW_WEND 0#32 50).toNat (setBitAt (Reg.SPN_PSTAT 3) 0 true (wr (Reg.SPN_PCFG 3) 1 (setF
      Reg.SPN_CFG Reg.SPN_CFG_ADDR 0x102
      ({ st0 with spn := { SpnSt.reset with queue := [(3, [⟨255, 16000000000, 0⟩])] } }))))), by decide +kernel⟩
  · exact ⟨3, ⟨255, 16000000000, 0⟩, 2, wr (Reg.SPN_EW 255 0) (fldSet Reg.SPN_EW_TYPE 0#32 2).toNat (wr (Reg.SPN_EW 255
      2) (fldSet Reg.SPN_EW_WEND 0#32 50).toNat (setBitAt (Reg.SPN_PSTAT 3) 0 true (wr (Reg.SPN_PCFG 3) 1 (setF
      Reg.SPN_CFG Reg.SPN_CFG_ADDR 0x102
      ({ st0 with spn := { SpnSt.reset with queue := [(3, [⟨255, 16000000000, 0⟩])] } }))))), by decide +kernel⟩
  · exact ⟨3, ⟨255, 5, 0⟩, { st0 with spn := { SpnSt.reset with queue := [(3, [⟨255, 5, 0⟩])] } }, by decide +kernel⟩
  · exact ⟨setB Reg.BOB_CTSTAT Reg.BOB_CTSTAT_ANCHORED true st0, by decide +kernel⟩
  · exact ⟨setB Reg.BOB_CTSTAT Reg.BOB_CTSTAT_ANCHORED true (setB Reg.SPN_CFG Reg.SPN_CFG_REGION true
      { st0 with spn := { SpnSt.reset with tier := [(0, { Tier.reset with mgr := true })] } }), by decide +kernel⟩
  · exact ⟨3, ⟨1, 0⟩, 1, 259, 0x1FF, 7, 7, 0, List.replicate 16 0#8, ⟨3, 7, 1, 0, 1, 259, 0x1FF, 7, 7, 0,
      (List.replicate 16 0#8 : List (BitVec 8)).map (·.toNat), 16000000000⟩, setB Reg.BOB_CTSTAT
      Reg.BOB_CTSTAT_ANCHORED true (setB Reg.HMP_TBCFG Reg.HMP_TBCFG_RXSPAN true (setBitAt (Reg.SPN_PSTAT 3) 0 true (wr
      (Reg.SPN_PCFG 3) 1 (setF Reg.SPN_CFG Reg.SPN_CFG_ADDR 0x102
      ({ st0 with spn := { SpnSt.reset with epochs := [(259, 7)] } }))))), by decide +kernel⟩
  · exact ⟨3, ⟨1, 0⟩, 1, 259, 0x1FF, 7, 7, 0, List.replicate 16 0#8, ⟨3, 8, 1, 0, 1, 259, 0x1FF, 7, 7, 0,
      (List.replicate 16 0#8 : List (BitVec 8)).map (·.toNat), 16000000000⟩, 1, setB Reg.BOB_CTSTAT
      Reg.BOB_CTSTAT_ANCHORED true (setBitAt (Reg.SPN_PSTAT 3) 0 true (wr (Reg.SPN_PCFG 3) 1 (setF Reg.SPN_CFG
      Reg.SPN_CFG_ADDR 0x102 ({ st0 with spn := { SpnSt.reset with epochs := [(259, 7)] } })))), by decide +kernel⟩

/-- What the clauses of SuccessionAndSpanTime ask of a command and a state is met. -/
theorem test_meets_SuccessionAndSpanTime :
    (∃ (s : State), on Reg.SPN_STAT Reg.SPN_STAT_REFOK s = true ∧ bLoss s ≤ (tierOf 0 s).bmiss)
    ∧ (∃ (region : Bool) (k : Nat) (p : Nat) (s : State), (k = if region then 1 else 0) ∧ ownPos k s = some p ∧ (tierOf
        k s).mgr = false ∧ (tierOf k s).claim = none ∧ bLoss s + 2 * p ≤ (tierOf k s).bmiss ∧ (k = 1 → (tierOf 0 s).mgr
        = true))
    ∧ (∃ (region : Bool) (k : Nat) (e : Nat) (n : Nat) (s : State), (k = if region then 1 else 0) ∧ (tierOf k s).claim
        = some (e, n) ∧ 2 ≤ n)
    ∧ (∃ (region : Bool) (k : Nat) (e : Nat) (n : Nat) (s : State), (k = if region then 1 else 0) ∧ (tierOf k s).claim
        = some (e, n) ∧ n < 2)
    ∧ (∃ (port : Fin 4) (s : State), portUp port s = true ∧ s.configured = true ∧ s.spn.slave = some port.val
        ∧ ctAnchored s = false)
    ∧ (∃ (port : Fin 4) (s : State), portUp port s = true ∧ s.configured = true ∧ s.spn.slave = some port.val
        ∧ ctAnchored s = true)
    ∧ (∃ (port : Fin 4) (s : State), portUp port s = true ∧ s.configured = true ∧ s.spn.slave ≠ some port.val)
    ∧ (∃ (port : Fin 4) (s : State), portUp port s = true)
    ∧ (∃ (port : Fin 4) (s : State), (annsOf port s).any (fun a : Ann => decide (a.at_ + 3000 * ms ≤ s.lt)) = true)
    ∧ (∃ (port : Fin 4) (s : State), (annsOf port s).all (fun a : Ann => decide (s.lt < a.at_ + 3000 * ms)) = true)
    ∧ (∃ (port : Fin 4) (s : State), portUp port s = true ∧ s.configured = true ∧ spanLost port s = false ∧ annsOf port
        s = [])
    ∧ (∃ (port : Fin 4) (gm : BitVec 112) (n : Nat) (a : Nat) (q : Bool) (s : State), portUp port s = true
        ∧ s.configured = true ∧ spanLost port s = false ∧ annsOf port s = [Ann.mk gm.toNat n a q] ∧ s.lt ≤ a + 4000
        * ms)
    ∧ (∃ (port : Fin 4) (s : State), portUp port s = true ∧ s.configured = true ∧ s.lt < Tbl.get 0 s.spn.pdAt port
        + 1000 * ms ∧ s.spn.slave = none ∧ acting s = true ∧ ctAnchored s = true ∧ Tbl.get 0 s.spn.syncAt port + 1000
        * ms / 2 ^ fl Reg.SPN_PTP Reg.SPN_PTP_SYNCIV s ≤ s.lt ∧ s.lt < Tbl.get 0 s.spn.annAt port + 1000 * ms ∧ Tbl.get
        [] s.spn.urgent port = [] ∧ urgentMay port s = true)
    ∧ (∃ (port : Fin 4) (s : State), portUp port s = true ∧ s.configured = true ∧ s.lt < Tbl.get 0 s.spn.pdAt port
        + 1000 * ms ∧ s.spn.slave = none ∧ acting s = true ∧ ctAnchored s = false ∧ Tbl.get 0 s.spn.annAt port + 1000
        * ms ≤ s.lt ∧ Tbl.get [] s.spn.urgent port = [] ∧ urgentMay port s = true)
    ∧ (∃ (port : Fin 4) (s : State), portUp port s = true ∧ s.configured = true ∧ acting s = true ∧ Tbl.get 0
        s.spn.pdAt port + 1000 * ms ≤ s.lt ∧ s.spn.slave = some port.val ∧ Tbl.get [] s.spn.urgent port = []
        ∧ urgentMay port s = true)
    ∧ (∃ (port : Fin 4) (s : State), s.lt < Tbl.get 0 s.spn.pdAt port + 1000 * ms ∧ ctAnchored s = false ∧ s.lt
        < Tbl.get 0 s.spn.annAt port + 1000 * ms) := by
  refine ⟨?_, ?_, ?_, ?_, ?_, ?_, ?_, ?_, ?_, ?_, ?_, ?_, ?_, ?_, ?_, ?_⟩
  · exact ⟨setB Reg.SPN_STAT Reg.SPN_STAT_REFOK true (setF Reg.SPN_CFG Reg.SPN_CFG_BLOSS 3
      ({ st0 with spn := { SpnSt.reset with tier := [(0, { Tier.reset with bmiss := 3 })] } })), by decide +kernel⟩
  · exact ⟨false, 0, 0, wr Reg.SPN_SUCC0 0xFFFFFF02 (setF Reg.SPN_CFG Reg.SPN_CFG_ADDR 0x102
      ({ st0 with spn := { SpnSt.reset with tier := [(0, { Tier.reset with mepoch := 0xFFFFFFFF })] } })), by
      decide +kernel⟩
  · exact ⟨true, 1, 9, 2,
      { st0 with spn := { SpnSt.reset with tier := [(1, { Tier.reset with claim := some (9, 2) })] } }, by
      decide +kernel⟩
  · exact ⟨true, 1, 9, 1,
      { st0 with spn := { SpnSt.reset with tier := [(1, { Tier.reset with claim := some (9, 1) })] } }, by
      decide +kernel⟩
  · exact ⟨3, setBitAt (Reg.SPN_PSTAT 3) 0 true (wr (Reg.SPN_PCFG 3) 1
      ({ st0 with spn := { SpnSt.reset with slave := some 3 } })), by decide +kernel⟩
  · exact ⟨3, setB Reg.BOB_CTSTAT Reg.BOB_CTSTAT_ANCHORED true (setBitAt (Reg.SPN_PSTAT 3) 0 true (wr (Reg.SPN_PCFG 3)
      1 ({ st0 with spn := { SpnSt.reset with slave := some 3 } }))), by decide +kernel⟩
  · exact ⟨3, setBitAt (Reg.SPN_PSTAT 3) 0 true (wr (Reg.SPN_PCFG 3) 1 (st0)), by decide +kernel⟩
  · exact ⟨3, setBitAt (Reg.SPN_PSTAT 3) 0 true (wr (Reg.SPN_PCFG 3) 1 (st0)), by decide +kernel⟩
  · exact ⟨3,
      { st0 with lt := 24000000005, spn := { SpnSt.reset with slave := some 3, ann := [(3, ([⟨1, 2, 5, true⟩] : List Ann))] } },
      by decide +kernel⟩
  · exact ⟨3,
      { st0 with spn := { SpnSt.reset with slave := some 3, ann := [(3, ([⟨1, 2, 15999999999, true⟩] : List Ann))] } },
      by decide +kernel⟩
  · exact ⟨3, setBitAt (Reg.SPN_PSTAT 3) 0 true (wr (Reg.SPN_PCFG 3) 1 (st0)), by decide +kernel⟩
  · exact ⟨3, 1, 7, 5, false, setBitAt (Reg.SPN_PSTAT 3) 0 true (wr (Reg.SPN_PCFG 3) 1
      ({ st0 with spn := { SpnSt.reset with ann := [(3, ([⟨1, 7, 5, false⟩] : List Ann))] } })), by decide +kernel⟩
  · exact ⟨3, setB Reg.BOB_CTSTAT Reg.BOB_CTSTAT_ANCHORED true (setBitAt (Reg.SPN_PSTAT 3) 0 true (wr (Reg.SPN_PCFG 3)
      1 ({ st0 with spn := { SpnSt.reset with annAt := [(3, 15999999999)], pdAt := [(3, 15999999999)] } }))), by
      decide +kernel⟩
  · exact ⟨3, setBitAt (Reg.SPN_PSTAT 3) 0 true (wr (Reg.SPN_PCFG 3) 1
      ({ st0 with spn := { SpnSt.reset with pdAt := [(3, 15999999999)] } })), by decide +kernel⟩
  · exact ⟨3, setBitAt (Reg.SPN_PSTAT 3) 0 true (wr (Reg.SPN_PCFG 3) 1
      ({ st0 with spn := { SpnSt.reset with slave := some 3 } })), by decide +kernel⟩
  · exact ⟨3, setBitAt (Reg.SPN_PSTAT 3) 0 true (wr (Reg.SPN_PCFG 3) 1
      ({ st0 with spn := { SpnSt.reset with annAt := [(3, 15999999999)], pdAt := [(3, 15999999999)] } })), by
      decide +kernel⟩

/-- What the clauses of PortsAndMainsCode ask of a command and a state is met. -/
theorem test_meets_PortsAndMainsCode :
    (∃ (port : Fin 4) (s : State), portLink port s = true)
    ∧ (∃ (port : Fin 4) (s : State), spanRole port s ≠ 0 ∧ portRetired port s = false ∧ s.configured = true)
    ∧ (∃ (port : Fin 4) (s : State), portUp port s = true)
    ∧ (∃ (port : Fin 4) (s : State), portUp port s = true)
    ∧ (∃ (s : State), mcOn s = true ∧ mcLive s = true ∧ s.spn.mc.beacon + 1000 * ms * fl Reg.SPN_MCFG
        Reg.SPN_MCFG_MCLOSS s ≤ s.lt)
    ∧ (∃ (s : State), on Reg.SPN_STAT Reg.SPN_STAT_UNLINKED s = true ∧ s.spn.mc.tx = none ∧ mcLive s = true
        ∧ s.spn.mc.rx + 1000 * ms * (mcPos s + 1) * fl Reg.SPN_MCFG Reg.SPN_MCFG_MCWAIT s ≤ s.lt)
    ∧ (∃ (kind : Nat) (val : Nat) (q : Nat) (s : State), s.spn.mc.done = some (kind, val, q) ∧ (kind / 16 ≠ mcPos s
        ∨ on Reg.SPN_STAT Reg.SPN_STAT_UNLINKED s = false))
    ∧ (∃ (kind : Nat) (val : Nat) (q : Nat) (s : State), s.spn.mc.done = some (kind, val, q) ∧ kind / 16 = mcPos s ∧ on
        Reg.SPN_STAT Reg.SPN_STAT_UNLINKED s = true) := by
  refine ⟨?_, ?_, ?_, ?_, ?_, ?_, ?_, ?_⟩
  · exact ⟨3, setBitAt (Reg.SPN_PSTAT 3) 0 true (wr (Reg.SPN_PCFG 3) 1
      ({ st0 with spn := { SpnSt.reset with slave := some 3 } })), by decide +kernel⟩
  · exact ⟨3, wr (Reg.SPN_PCFG 3) 2 st0, by decide +kernel⟩
  · exact ⟨3, setBitAt (Reg.SPN_PSTAT 3) 0 true (wr (Reg.SPN_PCFG 3) 1 (st0)), by decide +kernel⟩
  · exact ⟨3, setBitAt (Reg.SPN_PSTAT 3) 0 true (wr (Reg.SPN_PCFG 3) 1 (st0)), by decide +kernel⟩
  · exact ⟨setB Reg.SPN_MCFG Reg.SPN_MCFG_EN true (setF Reg.SPN_MCFG Reg.SPN_MCFG_MCLOSS 2 (setF (Reg.DRM_SSTAT 0)
      Reg.DRM_SSTAT_STATE 4 st0)), by decide +kernel⟩
  · exact ⟨setB Reg.SPN_STAT Reg.SPN_STAT_UNLINKED true (setF Reg.SPN_MCFG Reg.SPN_MCFG_MCWAIT 2 (setF (Reg.DRM_SSTAT
      0) Reg.DRM_SSTAT_STATE 4 st0)), by decide +kernel⟩
  · exact ⟨0x21, 0xFFFF, 9,
      { st0 with spn := { SpnSt.reset with mc := { McSt.reset with done := some (0x21, 0xFFFF, 9) } } }, by
      decide +kernel⟩
  · exact ⟨0x01, 0xFFFF, 9, setB Reg.SPN_STAT Reg.SPN_STAT_UNLINKED true
      ({ st0 with spn := { SpnSt.reset with mc := { McSt.reset with done := some (1, 0xFFFF, 9) } } }), by
      decide +kernel⟩

/-- What the clauses of LinkBringUp ask of a command and a state is met. -/
theorem test_meets_LinkBringUp :
    (∃ (link : Fin 24) (who : Fin 3) (p : Nat) (s : State), who ≠ 0 ∧ p = who.val - 1 ∧ (linkState link s ≠ lkSync
        ∨ (lnkOf link s).rx = false))
    ∧ (∃ (link : Fin 24) (who : Fin 3) (p : Nat) (s : State), who ≠ 0 ∧ p = who.val - 1 ∧ linkEnabled link s = true
        ∧ linkState link s = lkSync ∧ (lnkOf link s).rx = true ∧ 64 ≤ (lnkOf link s).idles ∧ p = portOf s)
    ∧ (∃ (link : Fin 24) (s : State), linkEnabled link s = true ∧ linkState link s = lkSync ∧ (lnkOf link s).rx = true
        ∧ (epPort link (portOf s) s).rx = true ∧ (lnkOf link s).idles = 63)
    ∧ (∃ (link : Fin 24) (s : State), linkEnabled link s = true ∧ linkState link s = lkSync ∧ (lnkOf link s).rx = true
        ∧ ((lnkOf link s).idles < 63 ∨ (epPort link (portOf s) s).rx = false))
    ∧ (∃ (link : Fin 24) (epid : BitVec 32) (dual : Bool) (s : State), linkEnabled link s = true ∧ llErr link true s
        = false ∧ linkState link s = lkIdent ∧ (rd (Reg.LLK_EPID link) s = 0 ∨ rd (Reg.LLK_EPID link) s = epid.toNat)
        ∧ (dual = true ∨ paired s = false))
    ∧ (∃ (link : Fin 24) (epid : BitVec 32) (s : State), linkEnabled link s = true ∧ llErr link true s = false
        ∧ linkState link s = lkIdent ∧ rd (Reg.LLK_EPID link) s ≠ 0 ∧ rd (Reg.LLK_EPID link) s ≠ epid.toNat)
    ∧ (∃ (link : Fin 24) (cseq : BitVec 8) (s : State), linkEnabled link s = true ∧ llErr link true s = false
        ∧ linkState link s = lkConfig ∧ cseq.toNat = (lnkOf link s).cseq)
    ∧ (∃ (link : Fin 24) (s : State), linkEnabled link s = true ∧ linkState link s = lkReady ∧ (lnkOf link s).calAt
        + ms ≤ s.lt)
    ∧ (∃ (link : Fin 24) (num : BitVec 4) (s : State), linkEnabled link s = true ∧ (linkState link s = lkReady
        ∨ linkState link s = lkCal) ∧ (lnkOf link s).rtts.length + 1 < (lnkOf link s).need ∧ num.toNat = (lnkOf link
        s).rtts.length % 16)
    ∧ (∃ (link : Fin 24) (num : BitVec 4) (ta : BitVec 20) (t4 : BitVec 64) (l : List Int) (fwd : Int) (rev : Int) (s :
        State), linkEnabled link s = true ∧ (linkState link s = lkReady ∨ linkState link s = lkCal) ∧ (lnkOf link
        s).rtts.length + 1 = (lnkOf link s).need ∧ num.toNat = (lnkOf link s).rtts.length % 16 ∧ l = (lnkOf link
        s).rtts ++ [((t4.toNat : Int) - (lnkOf link s).t1 - ta.toNat)] ∧ fwd = roundUp (l.foldl (· + ·) 0 + signed 16
        (rd (Reg.LLK_ASYM link) s) * l.length) (2 * l.length) ∧ rev = roundUp (l.foldl (· + ·) 0 - signed 16 (rd
        (Reg.LLK_ASYM link) s) * l.length) (2 * l.length) ∧ maxI l - minI l ≤ 8 ∧ ((lnkOf link s).passed = true → (fwd
        - (rd (Reg.LLK_DFWD link) s % 2 ^ 16 : Nat)).natAbs ≤ rd (Reg.LLK_DJUMP link) s % 2 ^ 8) ∧ fwd ≤ (rd
        (Reg.LLK_DMAX link) s % 2 ^ 16 : Nat) ∧ rev ≤ (rd (Reg.LLK_DMAX link) s % 2 ^ 16 : Nat))
    ∧ (∃ (link : Fin 24) (s : State), linkEnabled link s = true ∧ linkState link s = lkReady)
    ∧ (∃ (link : Fin 24) (s : State), linkEnabled link s = true ∧ linkState link s ≤ lkCal ∧ (lnkOf link s).since
        + stateLimit (linkState link s) ≤ s.lt ∧ fl (Reg.LLK_STAT link) Reg.LLK_STAT_ATTEMPT s < 4 ∧ s.lt < (lnkOf link
        s).firstTry + 400 * us)
    ∧ (∃ (link : Fin 24) (s : State), linkEnabled link s = true ∧ s.evt.react.contains (React.link link) = false
        ∧ linkState link s ≤ lkCal ∧ (lnkOf link s).since + stateLimit (linkState link s) ≤ s.lt ∧ 4 ≤ fl (Reg.LLK_STAT
        link) Reg.LLK_STAT_ATTEMPT s)
    ∧ (∃ (link : Fin 24) (s : State), linkEnabled link s = true ∧ llErr link true s = false ∧ linkState link s ≠
        lkRetired)
    ∧ (∃ (link : Fin 24) (tcorr : BitVec 16) (f : Nat) (r : Nat) (s : State), linkEnabled link s = true ∧ llErr link
        true s = false ∧ linkState link s ≠ lkRetired ∧ (lnkOf link s).timeSent = true ∧ (lnkOf link s).timeAt.any (fun
        u : Nat => decide (u ≤ s.lt)) = true ∧ (lnkOf link s).cand = some (f, r) ∧ tcorr.toInt.natAbs ≤ 2) := by
  refine ⟨?_, ?_, ?_, ?_, ?_, ?_, ?_, ?_, ?_, ?_, ?_, ?_, ?_, ?_, ?_⟩
  · exact ⟨23, 2, 1, st0, by decide +kernel⟩
  · exact ⟨23, 1, 0, setB (Reg.LLK_LCFG 23) Reg.LLK_LCFG_ENABLE true (setF (Reg.LLK_STAT 23) Reg.LLK_STAT_STATE lkSync
      (setLnk 23 { LnkSt.reset with rx := true, idles := 64 } (st0))), by decide +kernel⟩
  · exact ⟨23, setB (Reg.LLK_LCFG 23) Reg.LLK_LCFG_ENABLE true (setF (Reg.LLK_STAT 23) Reg.LLK_STAT_STATE lkSync
      (setLnk 23 { LnkSt.reset with rx := true, idles := 63 } (setEpPort 23 0 { EpPort.reset with rx := true }
      (st0)))), by decide +kernel⟩
  · exact ⟨23, setB (Reg.LLK_LCFG 23) Reg.LLK_LCFG_ENABLE true (setF (Reg.LLK_STAT 23) Reg.LLK_STAT_STATE lkSync
      (setLnk 23 { LnkSt.reset with rx := true, idles := 62 } (st0))), by decide +kernel⟩
  · exact ⟨23, 7, false, setB (Reg.LLK_LCFG 23) Reg.LLK_LCFG_ENABLE true (setF (Reg.LLK_STAT 23) Reg.LLK_STAT_STATE
      lkIdent (setLnk 23 { LnkSt.reset with cseq := 255 } (st0))), by decide +kernel⟩
  · exact ⟨23, 7, wr (Reg.LLK_EPID 23) 6 (setB (Reg.LLK_LCFG 23) Reg.LLK_LCFG_ENABLE true (setF (Reg.LLK_STAT 23)
      Reg.LLK_STAT_STATE lkIdent (setLnk 23 { LnkSt.reset with cseq := 255 } (st0)))), by decide +kernel⟩
  · exact ⟨23, 9, setB (Reg.LLK_LCFG 23) Reg.LLK_LCFG_ENABLE true (setF (Reg.LLK_STAT 23) Reg.LLK_STAT_STATE lkConfig
      (setLnk 23 { LnkSt.reset with cseq := 9 } (st0))), by decide +kernel⟩
  · exact ⟨23, setB (Reg.LLK_LCFG 23) Reg.LLK_LCFG_ENABLE true (setF (Reg.LLK_STAT 23) Reg.LLK_STAT_STATE lkReady
      (setLnk 23 { LnkSt.reset with calAt := 15992000000 } (st0))), by decide +kernel⟩
  · exact ⟨23, 2, setB (Reg.LLK_LCFG 23) Reg.LLK_LCFG_ENABLE true (setF (Reg.LLK_STAT 23) Reg.LLK_STAT_STATE lkReady
      (setLnk 23 { LnkSt.reset with need := 4, rtts := [900, 901], t1 := 16000000000 } (st0))), by decide +kernel⟩
  · exact ⟨23, 3, 100, 16000001001, [900, 901, 902, 901], 451, 451, setB (Reg.LLK_LCFG 23) Reg.LLK_LCFG_ENABLE true
      (setF (Reg.LLK_STAT 23) Reg.LLK_STAT_STATE lkReady (setLnk 23
      { LnkSt.reset with need := 4, rtts := [900, 901, 902], t1 := 16000000000 } (wr (Reg.LLK_DMAX 23) 451 st0))), by
      decide +kernel⟩
  · exact ⟨23, setB (Reg.LLK_LCFG 23) Reg.LLK_LCFG_ENABLE true (setF (Reg.LLK_STAT 23) Reg.LLK_STAT_STATE lkReady
      (setLnk 23 { LnkSt.reset with rx := true } (st0))), by decide +kernel⟩
  · exact ⟨23, setF (Reg.LLK_STAT 23) Reg.LLK_STAT_ATTEMPT 3 (setB (Reg.LLK_LCFG 23) Reg.LLK_LCFG_ENABLE true (setF
      (Reg.LLK_STAT 23) Reg.LLK_STAT_STATE 3 (setLnk 23 { LnkSt.reset with firstTry := 15999999999 } (st0)))), by
      decide +kernel⟩
  · exact ⟨23, setF (Reg.LLK_STAT 23) Reg.LLK_STAT_ATTEMPT 4 (setB (Reg.LLK_LCFG 23) Reg.LLK_LCFG_ENABLE true (setF
      (Reg.LLK_STAT 23) Reg.LLK_STAT_STATE 0 (setLnk 23 { LnkSt.reset with firstTry := 15999999999 } (st0)))), by
      decide +kernel⟩
  · exact ⟨23, setB (Reg.LLK_LCFG 23) Reg.LLK_LCFG_ENABLE true (setF (Reg.LLK_STAT 23) Reg.LLK_STAT_STATE lkReady
      (setLnk 23 { LnkSt.reset with rx := true } (st0))), by decide +kernel⟩
  · exact ⟨23, 2, 451, 452, setB (Reg.LLK_LCFG 23) Reg.LLK_LCFG_ENABLE true (setF (Reg.LLK_STAT 23) Reg.LLK_STAT_STATE
      lkCal (setLnk 23
      { LnkSt.reset with rx := true, timeSent := true, timeAt := some 15999999999, cand := some (451, 452) } (st0))),
      by decide +kernel⟩

/-- What the clauses of LinkReports ask of a command and a state is met. -/
theorem test_meets_LinkReports :
    (∃ (link : Fin 24) (s : State), linkEnabled link s = true ∧ linkState link s ≠ lkRetired)
    ∧ (∃ (link : Fin 24) (s : State), linkEnabled link s = true ∧ linkState link s ≠ lkRetired)
    ∧ (∃ (link : Fin 24) (a : BitVec 8) (k : Fin 4) (s : State), linkEnabled link s = true ∧ linkState link s ≠
        lkRetired ∧ hbUsed (4 * link + k) s = true ∧ a.toNat.testBit k = true ∧ (a.toNat.testBit 4 = true
        ∨ a.toNat.testBit 5 = true))
    ∧ (∃ (link : Fin 24) (seq : BitVec 8) (c : Sent) (s : State), linkEnabled link s = true ∧ linkState link s
        = lkReady ∧ sentOf link seq.toNat s = some c ∧ c.closed = false ∧ c.held = false ∧ c.resends < 2 ∧ meets link
        (deadlineT link c.edge.stamp s) s = true)
    ∧ (∃ (link : Fin 24) (seq : BitVec 8) (c : Sent) (s : State), linkEnabled link s = true ∧ linkState link s ≠
        lkReady ∧ linkState link s ≠ lkRetired ∧ sentOf link seq.toNat s = some c ∧ c.closed = false ∧ c.resends < 2)
    ∧ (∃ (link : Fin 24) (k : Fin 4) (hi : Bool) (turnOn : Bool) (bin : Fin 8) (s : State), linkEnabled link s = true
        ∧ linkState link s ≠ lkRetired ∧ llErr link true s = false ∧ hbUsed (4 * link + k) s = true ∧ hbState (4 * link
        + k) s ≠ 2 ∧ on (profOf (4 * link + k) hi turnOn bin) Reg.LLK_PROF_SEEDED s = true ∧ on (profOf (4 * link + k)
        hi turnOn bin) Reg.LLK_PROF_TRAINED s = false ∧ 2 ≤ fl (profOf (4 * link + k) hi turnOn bin) Reg.LLK_PROF_PRE s
        ∧ 0 < fl (Reg.LLK_TRN link) Reg.LLK_TRN_NTRAIN s)
    ∧ (∃ (link : Fin 24) (s : State), linkEnabled link s = true ∧ linkState link s ≠ lkRetired ∧ llErr link true s
        = false)
    ∧ (∃ (link : Fin 24) (seq : BitVec 8) (c : Sent) (s : State), linkEnabled link s = true ∧ linkState link s ≠
        lkRetired ∧ sentOf link seq.toNat s = some c ∧ llErr link true s = false ∧ c.edge.on = true ∧ c.reported
        = false)
    ∧ (∃ (link : Fin 24) (seq : BitVec 8) (c : Sent) (s : State), linkEnabled link s = true ∧ linkState link s ≠
        lkRetired ∧ sentOf link seq.toNat s = some c ∧ llErr link true s = false ∧ c.reported = false ∧ hbUsed c.hb s
        = true)
    ∧ (∃ (link : Fin 24) (seq : BitVec 8) (c : Sent) (s : State), linkEnabled link s = true ∧ linkState link s ≠
        lkRetired ∧ sentOf link seq.toNat s = some c ∧ llErr link true s = false ∧ c.reported = false ∧ hbUsed c.hb s
        = true)
    ∧ (∃ (link : Fin 24) (seq : BitVec 8) (c : Sent) (s : State), openCmd link seq.toNat s = some c ∧ hbUsed c.hb s
        = true ∧ latestStart link c.edge.stamp s ≤ clkEnd s)
    ∧ (∃ (link : Fin 24) (port : Fin 2) (s : State), linkEnabled link s = true ∧ linkState link s ≠ lkRetired ∧ llErr
        link true s = false ∧ (lnkOf link s).event = none ∧ port.val ≠ portOf s)
    ∧ (∃ (link : Fin 24) (port : Fin 2) (s : State), linkEnabled link s = true ∧ linkState link s ≠ lkRetired ∧ llErr
        link true s = false ∧ (lnkOf link s).event = none ∧ port.val ≠ portOf s)
    ∧ (∃ (link : Fin 24) (s : State), linkEnabled link s = true ∧ linkState link s ≠ lkRetired ∧ llErr link true s
        = false ∧ (lnkOf link s).event = none)
    ∧ (∃ (hb : Fin 96) (s : State), hbUsed hb s = true ∧ (hbCause hb s).testBit 2 = true ∧ linkState (hb / 4) s
        = lkReady ∧ (lnkOf (hb / 4) s).calHold = false ∧ (lnkOf (hb / 4) s).cleanFrom + 128000 ≤ s.lt ∧ ocOff (lnkOf
        (hb / 4) s).oc hb false = true ∧ ocOff (lnkOf (hb / 4) s).oc hb true = true) := by
  refine ⟨?_, ?_, ?_, ?_, ?_, ?_, ?_, ?_, ?_, ?_, ?_, ?_, ?_, ?_, ?_⟩
  · exact ⟨23, setB (Reg.LLK_LCFG 23) Reg.LLK_LCFG_ENABLE true (setF (Reg.LLK_STAT 23) Reg.LLK_STAT_STATE lkReady
      (setLnk 23 { LnkSt.reset with rx := true } (st0))), by decide +kernel⟩
  · exact ⟨23, setB (Reg.LLK_LCFG 23) Reg.LLK_LCFG_ENABLE true (setF (Reg.LLK_STAT 23) Reg.LLK_STAT_STATE lkReady
      (setLnk 23 { LnkSt.reset with rx := true } (st0))), by decide +kernel⟩
  · exact ⟨23, 0x11, 0, setB (Reg.PGN_HCFG 92) Reg.PGN_HCFG_ENABLE true (setB (Reg.LLK_LCFG 23) Reg.LLK_LCFG_ENABLE
      true (setF (Reg.LLK_STAT 23) Reg.LLK_STAT_STATE lkReady (setLnk 23 { LnkSt.reset with rx := true } (st0)))), by
      decide +kernel⟩
  · exact ⟨23, 200, ⟨200, 92, ⟨16000001000, true, true, 0⟩, false, false, 0, 0, 0, 0, false, 0, false, false, false,
      false⟩, setB (Reg.LLK_LCFG 23) Reg.LLK_LCFG_ENABLE true (setF (Reg.LLK_STAT 23) Reg.LLK_STAT_STATE lkReady
      (setLnk 23
      { LnkSt.reset with sent := [⟨200, 92, ⟨16000001000, true, true, 0⟩, false, false, 0, 0, 0, 0, false, 0, false, false, false, false⟩], cleanFrom := 15999000000 }
      (st0))), by decide +kernel⟩
  · exact ⟨23, 200, ⟨200, 92, ⟨16000001000, true, true, 0⟩, false, false, 0, 0, 0, 0, false, 0, false, false, false,
      false⟩, setB (Reg.LLK_LCFG 23) Reg.LLK_LCFG_ENABLE true (setF (Reg.LLK_STAT 23) Reg.LLK_STAT_STATE lkCal (setLnk
      23
      { LnkSt.reset with sent := [⟨200, 92, ⟨16000001000, true, true, 0⟩, false, false, 0, 0, 0, 0, false, 0, false, false, false, false⟩], cleanFrom := 15999000000 }
      (st0))), by decide +kernel⟩
  · exact ⟨23, 0, true, true, 7, setF (Reg.LLK_TRN 23) Reg.LLK_TRN_NTRAIN 1 (setB (Reg.LLK_PROF 92 1 1 7)
      Reg.LLK_PROF_SEEDED true (setF (Reg.LLK_PROF 92 1 1 7) Reg.LLK_PROF_PRE 2 (setB (Reg.PGN_HCFG 92)
      Reg.PGN_HCFG_ENABLE true (setB (Reg.LLK_LCFG 23) Reg.LLK_LCFG_ENABLE true (setF (Reg.LLK_STAT 23)
      Reg.LLK_STAT_STATE lkReady (setLnk 23 { LnkSt.reset with rx := true } (st0))))))), by decide +kernel⟩
  · exact ⟨23, setB (Reg.LLK_LCFG 23) Reg.LLK_LCFG_ENABLE true (setF (Reg.LLK_STAT 23) Reg.LLK_STAT_STATE lkReady
      (setLnk 23 { LnkSt.reset with rx := true } (st0))), by decide +kernel⟩
  · exact ⟨23, 200, ⟨200, 92, ⟨16000001000, true, true, 0⟩, false, false, 0, 0, 0, 0, false, 0, false, false, false,
      false⟩, setB (Reg.LLK_LCFG 23) Reg.LLK_LCFG_ENABLE true (setF (Reg.LLK_STAT 23) Reg.LLK_STAT_STATE lkReady
      (setLnk 23
      { LnkSt.reset with sent := [⟨200, 92, ⟨16000001000, true, true, 0⟩, false, false, 0, 0, 0, 0, false, 0, false, false, false, false⟩], cleanFrom := 15999000000 }
      (st0))), by decide +kernel⟩
  · exact ⟨23, 200, ⟨200, 92, ⟨16000001000, true, true, 0⟩, false, false, 0, 0, 0, 0, false, 0, false, false, false,
      false⟩, setB (Reg.PGN_HCFG 92) Reg.PGN_HCFG_ENABLE true (setB (Reg.LLK_LCFG 23) Reg.LLK_LCFG_ENABLE true (setF
      (Reg.LLK_STAT 23) Reg.LLK_STAT_STATE lkReady (setLnk 23
      { LnkSt.reset with sent := [⟨200, 92, ⟨16000001000, true, true, 0⟩, false, false, 0, 0, 0, 0, false, 0, false, false, false, false⟩], cleanFrom := 15999000000 }
      (st0)))), by decide +kernel⟩
  · exact ⟨23, 200, ⟨200, 92, ⟨16000001000, true, true, 0⟩, false, false, 0, 0, 0, 0, false, 0, false, false, false,
      false⟩, setB (Reg.PGN_HCFG 92) Reg.PGN_HCFG_ENABLE true (setB (Reg.LLK_LCFG 23) Reg.LLK_LCFG_ENABLE true (setF
      (Reg.LLK_STAT 23) Reg.LLK_STAT_STATE lkReady (setLnk 23
      { LnkSt.reset with sent := [⟨200, 92, ⟨16000001000, true, true, 0⟩, false, false, 0, 0, 0, 0, false, 0, false, false, false, false⟩], cleanFrom := 15999000000 }
      (st0)))), by decide +kernel⟩
  · exact ⟨23, 200, ⟨200, 92, ⟨1600000500, true, true, 0⟩, false, false, 0, 0, 0, 0, false, 0, true, false, false,
      false⟩, setB (Reg.PGN_HCFG 92) Reg.PGN_HCFG_ENABLE true (setB (Reg.LLK_LCFG 23) Reg.LLK_LCFG_ENABLE true (setF
      (Reg.LLK_STAT 23) Reg.LLK_STAT_STATE lkReady (setLnk 23
      { LnkSt.reset with sent := [⟨200, 92, ⟨1600000500, true, true, 0⟩, false, false, 0, 0, 0, 0, false, 0, true, false, false, false⟩], cleanFrom := 15999000000 }
      (st0)))), by decide +kernel⟩
  · exact ⟨23, 1, setB (Reg.LLK_LCFG 23) Reg.LLK_LCFG_ENABLE true (setF (Reg.LLK_STAT 23) Reg.LLK_STAT_STATE lkReady
      (setLnk 23 { LnkSt.reset with rx := true } (st0))), by decide +kernel⟩
  · exact ⟨23, 1, setB (Reg.LLK_LCFG 23) Reg.LLK_LCFG_ENABLE true (setF (Reg.LLK_STAT 23) Reg.LLK_STAT_STATE lkReady
      (setLnk 23 { LnkSt.reset with rx := true } (st0))), by decide +kernel⟩
  · exact ⟨23, setB (Reg.LLK_LCFG 23) Reg.LLK_LCFG_ENABLE true (setF (Reg.LLK_STAT 23) Reg.LLK_STAT_STATE lkReady
      (setLnk 23 { LnkSt.reset with rx := true } (st0))), by decide +kernel⟩
  · exact ⟨92, setF (Reg.PGN_HSTAT 92) Reg.PGN_HSTAT_HOLDCAUSE 6 (setB (Reg.PGN_HCFG 92) Reg.PGN_HCFG_ENABLE true (setB
      (Reg.LLK_LCFG 23) Reg.LLK_LCFG_ENABLE true (setF (Reg.LLK_STAT 23) Reg.LLK_STAT_STATE lkReady (setLnk 23
      { LnkSt.reset with oc := 3 } (st0))))), by decide +kernel⟩

/-- What the clauses of EndpointCommands ask of a command and a state is met. -/
theorem test_meets_EndpointCommands :
    (∃ (link : Fin 24) (port : Fin 2) (seq : BitVec 8) (epoch : BitVec 8) (k : Fin 4) (resume : Bool) (stamp : BitVec
        40) (s : State), (epPort link port s).last < 256 ∧ seq.toNat = ((epPort link port s).last + 1) % 256 ∧ (epOf
        link s).hben.testBit k = true ∧ (epOf link s).claim = none ∧ (epOf link s).owner = port.val ∧ (epOf link
        s).epoch % 256 = epoch.toNat ∧ ((epOf link s).wait.testBit k = false ∨ resume = true) ∧ 256 ≤ (stamp.toNat + 2
        ^ 40 - portTime link port s.lt s) % 2 ^ 40 ∧ (stamp.toNat + 2 ^ 40 - portTime link port s.lt s) % 2 ^ 40 ≤ 2 ^
        20)
    ∧ (∃ (link : Fin 24) (port : Fin 2) (seq : BitVec 8) (epoch : BitVec 8) (k : Fin 4) (s : State), (epPort link port
        s).last < 256 ∧ seq.toNat = ((epPort link port s).last + 1) % 256 ∧ (epOf link s).hben.testBit k = true ∧ (epOf
        link s).claim = none ∧ ((epOf link s).owner ≠ port.val ∨ (epOf link s).epoch % 256 ≠ epoch.toNat))
    ∧ (∃ (link : Fin 24) (port : Fin 2) (seq : BitVec 8) (epoch : BitVec 8) (k : Fin 4) (resume : Bool) (stamp : BitVec
        40) (s : State), (epPort link port s).last < 256 ∧ seq.toNat = ((epPort link port s).last + 1) % 256 ∧ (epOf
        link s).hben.testBit k = true ∧ (epOf link s).claim = none ∧ (epOf link s).owner = port.val ∧ (epOf link
        s).epoch % 256 = epoch.toNat ∧ ((epOf link s).wait.testBit k = false ∨ resume = true) ∧ 2 ^ 20 < (stamp.toNat
        + 2 ^ 40 - portTime link port s.lt s) % 2 ^ 40 ∧ (stamp.toNat + 2 ^ 40 - portTime link port s.lt s) % 2 ^ 40
        < 2 ^ 39)
    ∧ (∃ (link : Fin 24) (port : Fin 2) (seq : BitVec 8) (k : Fin 4) (s : State), (epPort link port s).last < 256
        ∧ seq.toNat = ((epPort link port s).last + 2) % 256 ∧ (epPort link port s).missing = [] ∧ (epOf link
        s).hben.testBit k = false)
    ∧ (∃ (link : Fin 24) (port : Fin 2) (seq : BitVec 8) (c : EpCmd) (s : State), (epOf link s).cmds.find? (fun d :
        EpCmd => d.port == port.val && d.seq == seq.toNat) = some c ∧ stampReached (portTime link port (s.lt + 15) s)
        c.stamp = true ∧ c.on = false ∧ c.report = false)
    ∧ (∃ (link : Fin 24) (port : Fin 2) (seq : BitVec 8) (c : EpCmd) (s : State), (epOf link s).cmds.find? (fun d :
        EpCmd => d.port == port.val && d.seq == seq.toNat) = some c ∧ stampReached (portTime link port (s.lt + 15) s)
        c.stamp = true ∧ c.on = true ∧ c.report = false ∧ ((epOf link s).off.testBit (2 * c.hb + (if c.hi then 0 else
        1)) = true) ∧ ((epOf link s).gates.testBit (2 * c.hb + (if c.hi then 0 else 1)) = false))
    ∧ (∃ (link : Fin 24) (port : Fin 2) (seq : BitVec 8) (c : EpCmd) (s : State), (epOf link s).cmds.find? (fun d :
        EpCmd => d.port == port.val && d.seq == seq.toNat) = some c ∧ stampReached (portTime link port (s.lt + 15) s)
        c.stamp = true ∧ c.on = true ∧ ((epOf link s).off.testBit (2 * c.hb + (if c.hi then 0 else 1)) = false))
    ∧ (∃ (link : Fin 24) (port : Fin 2) (cseq : BitVec 8) (epid : BitVec 32) (s : State), (epPort link port s).cseq ≠
        some cseq.toNat ∧ (epid.toNat = 0 ∨ epid.toNat = (Config.endpointId link).toNat))
    ∧ (∃ (link : Fin 24) (port : Fin 2) (cseq : BitVec 8) (s : State), (epPort link port s).cseq = some cseq.toNat)
    ∧ (∃ (link : Fin 24) (epochf : BitVec 32) (s : State), (epOf link s).claim = none ∧ newer32 epochf.toNat (epOf link
        s).epoch = true)
    ∧ (∃ (link : Fin 24) (port : Fin 2) (epochf : BitVec 32) (s : State), (epOf link s).claim = none ∧ epochf.toNat
        = (epOf link s).epoch ∧ (epOf link s).owner ≠ port.val)
    ∧ (∃ (link : Fin 24) (e : Nat) (p : Nat) (h : Nat) (s : State), (epOf link s).claim = some (e, p, h) ∧ stampReached
        (portTime link p s.lt s) h = true)
    ∧ (∃ (link : Fin 24) (s : State), (epOf link s).claim = none) := by
  refine ⟨?_, ?_, ?_, ?_, ?_, ?_, ?_, ?_, ?_, ?_, ?_, ?_, ?_⟩
  · exact ⟨23, 1, 0, 9, 3, true, 16001048576, setEpPort 23 1 { EpPort.reset with last := 255 } (setEp 23
      { EpSt.reset with hben := 15, owner := 1, epoch := 265 } (st0)), by decide +kernel⟩
  · exact ⟨23, 1, 0, 9, 3, setEpPort 23 1 { EpPort.reset with last := 255 } (setEp 23
      { EpSt.reset with hben := 15, owner := 1, epoch := 8 } (st0)), by decide +kernel⟩
  · exact ⟨23, 1, 0, 9, 3, true, 16001048577, setEpPort 23 1 { EpPort.reset with last := 255 } (setEp 23
      { EpSt.reset with hben := 15, owner := 1, epoch := 265 } (st0)), by decide +kernel⟩
  · exact ⟨23, 1, 1, 3, setEpPort 23 1 { EpPort.reset with last := 255 } (setEp 23 { EpSt.reset with owner := 1 }
      (st0)), by decide +kernel⟩
  · exact ⟨23, 1, 200, ⟨1, 200, 9, 3, true, false, 15999999000, 1, 2, 3, 7, false⟩, setEpPort 23 1
      { EpPort.reset with rx := true } (setEp 23
      { EpSt.reset with cmds := [⟨1, 200, 9, 3, true, false, 15999999000, 1, 2, 3, 7, false⟩], gates := 255 } (st0)),
      by decide +kernel⟩
  · exact ⟨23, 1, 200, ⟨1, 200, 9, 3, false, true, 15999999000, 1, 2, 3, 7, false⟩, setEpPort 23 1
      { EpPort.reset with rx := true } (setEp 23
      { EpSt.reset with cmds := [⟨1, 200, 9, 3, false, true, 15999999000, 1, 2, 3, 7, false⟩], off := 255 } (st0)), by
      decide +kernel⟩
  · exact ⟨23, 1, 200, ⟨1, 200, 9, 3, true, true, 15999999000, 1, 2, 3, 7, false⟩, setEpPort 23 1
      { EpPort.reset with rx := true } (setEp 23
      { EpSt.reset with cmds := [⟨1, 200, 9, 3, true, true, 15999999000, 1, 2, 3, 7, false⟩], off := 0 } (st0)), by
      decide +kernel⟩
  · exact ⟨23, 1, 9, 0, st0, by decide +kernel⟩
  · exact ⟨23, 1, 9, setEpPort 23 1 { EpPort.reset with cseq := some 9 } (setEp 23 { EpSt.reset with hben := 3 }
      (st0)), by decide +kernel⟩
  · exact ⟨23, 0, setEpPort 23 1 { EpPort.reset with rx := true } (setEp 23 { EpSt.reset with epoch := 0xFFFFFFFF }
      (st0)), by decide +kernel⟩
  · exact ⟨23, 1, 265, setEpPort 23 1 { EpPort.reset with rx := true } (setEp 23 { EpSt.reset with epoch := 265 }
      (st0)), by decide +kernel⟩
  · exact ⟨23, 265, 1, 15999999999, setEpPort 23 1 { EpPort.reset with rx := true } (setEp 23
      { EpSt.reset with claim := some (265, 1, 15999999999) } (st0)), by decide +kernel⟩
  · exact ⟨23, st0, by decide +kernel⟩

/-- What the clauses of EndpointReports ask of a command and a state is met. -/
theorem test_meets_EndpointReports :
    (∃ (link : Fin 24) (port : Fin 2) (seq : BitVec 8) (a : Nat) (s : State), (seq.toNat, a, 1) ∈ (epPort link port
        s).missing ∧ a + 512 ≤ s.lt)
    ∧ (∃ (link : Fin 24) (port : Fin 2) (seq : BitVec 8) (s : State), (epPort link port s).missing.any (fun m : Nat ×
        Nat × Nat => m.1 == seq.toNat && m.2.2 != 3) = true)
    ∧ (∃ (link : Fin 24) (port : Fin 2) (a : Nat) (s : State), (epPort link port s).lostAt = some a ∧ (epOf link
        s).owner = port.val ∧ a + (epOf link s).lossto ≤ s.lt)
    ∧ (∃ (link : Fin 24) (s : State), (epOf link s).statAt + (epOf link s).stativ * us ≤ s.lt)
    ∧ (∃ (link : Fin 24) (s : State), s.lt < (epOf link s).statAt + (epOf link s).stativ * us) := by
  refine ⟨?_, ?_, ?_, ?_, ?_⟩
  · exact ⟨23, 1, 7, 15999999488, setEpPort 23 1 { EpPort.reset with missing := [(7, 15999999488, 1)] } (setEp 23
      { EpSt.reset with hben := 0 } (st0)), by decide +kernel⟩
  · exact ⟨23, 1, 7, setEpPort 23 1 { EpPort.reset with missing := [(7, 5, 2)] } (setEp 23
      { EpSt.reset with hben := 0 } (st0)), by decide +kernel⟩
  · exact ⟨23, 1, 15999999000, setEpPort 23 1 { EpPort.reset with lostAt := some 15999999000 } (setEp 23
      { EpSt.reset with owner := 1, lossto := 1000, gates := 3 } (st0)), by decide +kernel⟩
  · exact ⟨23, setEpPort 23 1 { EpPort.reset with rx := true } (setEp 23 { EpSt.reset with stativ := 2 } (st0)), by
      decide +kernel⟩
  · exact ⟨23, setEpPort 23 1 { EpPort.reset with rx := true } (setEp 23
      { EpSt.reset with stativ := 3, statAt := 15999999999 } (st0)), by decide +kernel⟩

/-- What the clauses of Protection ask of a command and a state is met. -/
theorem test_meets_Protection :
    (∃ (trip : Fin 8) (h : Nat) (s : State), s.configured = true ∧ on (Reg.PRT_TCFG trip) Reg.PRT_TCFG_EN s = true
        ∧ bitAt Reg.PRT_TFLAG trip s = false ∧ h < 104 ∧ tripMask trip h s = true ∧ hbUsed h s = true)
    ∧ (∃ (trip : Fin 8) (s : State), s.configured = true ∧ on (Reg.PRT_TCFG trip) Reg.PRT_TCFG_EN s = true ∧ bitAt
        Reg.PRT_TFLAG trip s = true)
    ∧ (∃ (trip : Fin 8) (s : State), stores s = true ∧ bitAt Reg.PRT_TFLAG trip s = true)
    ∧ (∃ (trip : Fin 8) (s : State), stores s = true ∧ bitAt Reg.PRT_TFLAG trip s = true)
    ∧ (∃ (cmp : Fin 48) (s : State), s.configured = true ∧ cmpRetired cmp s = false ∧ cmpMode cmp s = cmpWindow
        ∧ cmpAct cmp s = 0)
    ∧ (∃ (cmp : Fin 48) (h : Nat) (s : State), s.configured = true ∧ cmpRetired cmp s = false ∧ cmpMode cmp s = cmpSc
        ∧ h = cmpHb cmp s ∧ h < 104 ∧ hbUsed h s = true ∧ blanked cmp s = false)
    ∧ (∃ (cmp : Fin 48) (s : State), s.configured = true ∧ cmpRetired cmp s = false ∧ cmpMode cmp s = cmpSc ∧ blanked
        cmp s = true ∧ on (Reg.PRT_CSTAT cmp) Reg.PRT_CSTAT_BLANKPEND s = false)
    ∧ (∃ (cmp : Fin 48) (h : Nat) (s : State), s.configured = true ∧ cmpRetired cmp s = false ∧ cmpMode cmp s = cmpSc
        ∧ h = cmpHb cmp s ∧ h < 104 ∧ hbUsed h s = true ∧ on (Reg.PRT_CSTAT cmp) Reg.PRT_CSTAT_BLANKPEND s = true
        ∧ blanked cmp s = false)
    ∧ (∃ (cmp : Fin 48) (s : State), s.configured = true ∧ cmpRetired cmp s = false ∧ on (Reg.PRT_CSTAT cmp)
        Reg.PRT_CSTAT_BLANKPEND s = true ∧ blanked cmp s = false)
    ∧ (∃ (cmp : Fin 48) (s : State), stores s = true ∧ cflag cmp s = true)
    ∧ (∃ (cmp : Fin 48) (s : State), stores s = true ∧ cflag cmp s = true ∧ cmpRetired cmp s = false)
    ∧ (∃ (hb : Fin 96) (s : State), stores s = true ∧ aflag hb s = true ∧ (lnkOf (hb / 4) s).alm.testBit (hb % 4)
        = false ∧ linkState (hb / 4) s = lkReady)
    ∧ (∃ (hb : Fin 96) (s : State), stores s = true ∧ aflag hb s = true ∧ linkState (hb / 4) s ≠ lkReady)
    ∧ (∃ (cmp : Fin 48) (d : Nat) (s : State), s.configured = true ∧ s.prt.dacAt ≤ s.lt ∧ cmpMode cmp s ≠ 0
        ∧ cmpRetired cmp s = false ∧ 4 < d)
    ∧ (∃ (d : Nat) (s : State), s.configured = true ∧ s.prt.dacAt ≤ s.lt ∧ d ≤ 4)
    ∧ (∃ (s : State), (s.configured = false ∨ s.lt < s.prt.dacAt)) := by
  refine ⟨?_, ?_, ?_, ?_, ?_, ?_, ?_, ?_, ?_, ?_, ?_, ?_, ?_, ?_, ?_, ?_⟩
  · exact ⟨7, 92, setB (Reg.PRT_TCFG 7) Reg.PRT_TCFG_EN true (wr (Reg.PRT_TMASK2 7) 0xF0000000 (setB (Reg.PGN_HCFG 92)
      Reg.PGN_HCFG_ENABLE true st0)), by decide +kernel⟩
  · exact ⟨7, setB (Reg.PRT_TCFG 7) Reg.PRT_TCFG_EN true (setBitAt Reg.PRT_TFLAG 7 true st0), by decide +kernel⟩
  · exact ⟨7, setBitAt Reg.PRT_TFLAG 7 true st0, by decide +kernel⟩
  · exact ⟨7, setBitAt Reg.PRT_TFLAG 7 true st0, by decide +kernel⟩
  · exact ⟨47, setF (Reg.PRT_CCFG 47) Reg.PRT_CCFG_MODE 1 (setF (Reg.PRT_CCFG 47) Reg.PRT_CCFG_ACT 0 (setF
      (Reg.PRT_CCFG 47) Reg.PRT_CCFG_HB 92 (st0))), by decide +kernel⟩
  · exact ⟨47, 92, setB (Reg.PGN_HCFG 92) Reg.PGN_HCFG_ENABLE true (setF (Reg.PRT_CCFG 47) Reg.PRT_CCFG_MODE 2 (setF
      (Reg.PRT_CCFG 47) Reg.PRT_CCFG_ACT 0 (setF (Reg.PRT_CCFG 47) Reg.PRT_CCFG_HB 92 (st0)))), by decide +kernel⟩
  · exact ⟨47, setF (Reg.PRT_CCFG 47) Reg.PRT_CCFG_MODE 2 (setF (Reg.PRT_CCFG 47) Reg.PRT_CCFG_ACT 0 (setF
      (Reg.PRT_CCFG 47) Reg.PRT_CCFG_HB 0 (wr (Reg.PRT_CBLANK 47) 100 (noteOn 0 false 16000000000 st0)))), by
      decide +kernel⟩
  · exact ⟨47, 92, setB (Reg.PRT_CSTAT 47) Reg.PRT_CSTAT_BLANKPEND true (setB (Reg.PGN_HCFG 92) Reg.PGN_HCFG_ENABLE
      true (setF (Reg.PRT_CCFG 47) Reg.PRT_CCFG_MODE 2 (setF (Reg.PRT_CCFG 47) Reg.PRT_CCFG_ACT 0 (setF (Reg.PRT_CCFG
      47) Reg.PRT_CCFG_HB 92 (st0))))), by decide +kernel⟩
  · exact ⟨47, setB (Reg.PRT_CSTAT 47) Reg.PRT_CSTAT_BLANKPEND true st0, by decide +kernel⟩
  · exact ⟨47, setCflag 47 true st0, by decide +kernel⟩
  · exact ⟨47, setCflag 47 true st0, by decide +kernel⟩
  · exact ⟨92, setBitAt Reg.PRT_AFLAG2 28 true (setF (Reg.LLK_STAT 23) Reg.LLK_STAT_STATE 4 st0), by decide +kernel⟩
  · exact ⟨92, setBitAt Reg.PRT_AFLAG2 28 true st0, by decide +kernel⟩
  · exact ⟨47, 5, setF (Reg.PRT_CCFG 47) Reg.PRT_CCFG_MODE 1 (setF (Reg.PRT_CCFG 47) Reg.PRT_CCFG_ACT 0 (setF
      (Reg.PRT_CCFG 47) Reg.PRT_CCFG_HB 92 (st0))), by decide +kernel⟩
  · exact ⟨4, setF (Reg.PRT_CCFG 47) Reg.PRT_CCFG_MODE 1 (setF (Reg.PRT_CCFG 47) Reg.PRT_CCFG_ACT 0 (setF (Reg.PRT_CCFG
      47) Reg.PRT_CCFG_HB 92 (st0))), by decide +kernel⟩
  · exact ⟨{ st0 with prt := { PrtSt.reset with dacAt := 16000000001 } }, by decide +kernel⟩

/-- What the clauses of EventUnitCommands ask of a command and a state is met. -/
theorem test_meets_EventUnitCommands :
    (∃ (s : State), masked 10 s = true)
    ∧ (∃ (r : EvRec) (q : List EvRec) (a : Nat) (s : State), s.configured = true ∧ masked 10 s = false ∧ s.evt.queue
        = r :: q ∧ (rd Reg.EVT_WIDX s + 2 ^ 32 - rd Reg.EVT_RIDX s) % 2 ^ 32 < ringSize s ∧ a = rd Reg.EVT_RBASE s + 16
        * (rd Reg.EVT_WIDX s % ringSize s))
    ∧ (∃ (f : Nat) (n : Nat) (s : State), s.configured = true ∧ s.evt.pendLoss = some (f, n) ∧ s.evt.queue.length
        < queueSize)
    ∧ (∃ (value : BitVec 32) (by_ : Fin 19) (s : State), mayStore Reg.EVT_RIDX by_ s = true ∧ (rd Reg.EVT_WIDX s + 2 ^
        32 - value.toNat) % 2 ^ 32 ≤ ringSize s)
    ∧ (∃ (value : BitVec 32) (by_ : Fin 19) (s : State), mayStore Reg.EVT_RIDX by_ s = true ∧ ringSize s < (rd
        Reg.EVT_WIDX s + 2 ^ 32 - value.toNat) % 2 ^ 32)
    ∧ (∃ (value : BitVec 32) (by_ : Fin 19) (k : Nat) (s : State), mayStore Reg.EVT_UNLOCK by_ s = true ∧ k
        = value.toNat % 4 ∧ unlockCause value.toNat (endHold Reg.EVT_UNLOCK s) = 0)
    ∧ (∃ (value : BitVec 32) (by_ : Fin 19) (k : Nat) (c : Nat) (s : State), mayStore Reg.EVT_UNLOCK by_ s = true ∧ k
        = value.toNat % 4 ∧ unlockCause value.toNat (endHold Reg.EVT_UNLOCK s) = c ∧ c ≠ 0)
    ∧ (∃ (counter : BitVec 16) (k : Nat) (l : Nat) (o : Nat) (s : State), s.configured = true ∧ k = (Tbl.get (0, 0, 0)
        s.evt.leaks counter.toNat).1 ∧ (k + 1) * leakPeriod counter.toNat s ≤ nowF s - s.cc / fclk ∧ ctrOf
        counter.toNat s = (l, o)) := by
  refine ⟨?_, ?_, ?_, ?_, ?_, ?_, ?_, ?_⟩
  · exact ⟨setF Reg.MEM_STAT Reg.MEM_STAT_MASK 0x400
      { st0 with evt := { EvtSt.reset with queue := [⟨5, 20, 1, 0xABCD, true, 2, 0x1234, 0x123456789A, false, []⟩] } },
      by decide +kernel⟩
  · exact ⟨⟨5, 20, 1, 0xABCD, true, 2, 0x1234, 0x123456789A, false, []⟩, [], 0x200030, wr Reg.EVT_RBASE 0x200000 (wr
      Reg.EVT_RSIZE 2 (wr Reg.EVT_WIDX 3
      ({ st0 with evt := { EvtSt.reset with queue := [⟨5, 20, 1, 0xABCD, true, 2, 0x1234, 0x123456789A, false, []⟩] } }))),
      by decide +kernel⟩
  · exact ⟨5, 70000, { st0 with evt := { EvtSt.reset with pendLoss := some (5, 70000) } }, by decide +kernel⟩
  · exact ⟨0xFFFFFFFF, 0, st0, by decide +kernel⟩
  · exact ⟨1, 0, st0, by decide +kernel⟩
  · exact ⟨0x103, 17, 3, setBitAt Reg.EVT_G5CAUSE 3 true st0, by decide +kernel⟩
  · exact ⟨0x103, 17, 3, 4, st0, by decide +kernel⟩
  · exact ⟨0x1000, 0, 3, 1, { st0 with evt := { EvtSt.reset with ctr := [(0x1000, (3, 1))] } }, by decide +kernel⟩

/-- What the clauses of RegisterWrites ask of a command and a state is met. -/
theorem test_meets_RegisterWrites :
    (∃ (addr : BitVec 32), (rowOf addr.toNat).map (fun r : RegRow => r.acc) = some Access.ro)
    ∧ (∃ (addr : BitVec 32), rowOf addr.toNat = none ∧ isPair (addr.toNat - 4) = false)
    ∧ (∃ (addr : BitVec 32) (by_ : Fin 19) (m : Nat) (s : State), mayStore addr.toNat by_ s = true ∧ (rowOf
        addr.toNat).map (fun r : RegRow => (r.acc, r.mask)) = some (Access.cfg, m))
    ∧ (∃ (addr : BitVec 32) (by_ : Fin 19) (m : Nat) (s : State), mayStore addr.toNat by_ s = true ∧ (rowOf
        addr.toNat).map (fun r : RegRow => (r.acc, r.mask)) = some (Access.rw, m) ∧ addr.toNat / 2 ^ 16 ∈ [0x4002,
        0x400A, 0x400D] ∧ addr.toNat ≠ Reg.TCK_RIDX)
    ∧ (∃ (addr : BitVec 32) (by_ : Fin 19) (m : Nat) (s : State), mayStore addr.toNat by_ s = true ∧ (rowOf
        addr.toNat).map (fun r : RegRow => (r.acc, r.mask)) = some (Access.w1c, m) ∧ addr.toNat / 2 ^ 16 ∉ [0x4007,
        0x4009, 0x400B])
    ∧ (∃ (addr : BitVec 32) (by_ : Fin 19) (m : Nat) (s : State), mayStore addr.toNat by_ s = true ∧ (rowOf
        addr.toNat).map (fun r : RegRow => (r.acc, r.mask)) = some (Access.pw, m))
    ∧ (∃ (addr : BitVec 32) (value : BitVec 32) (by_ : Fin 19) (a : Nat) (s : State), addr.toNat = a + 4 ∧ isPair a
        = true ∧ rowOf addr.toNat = none ∧ mayStore addr.toNat by_ s = true ∧ Tbl.get none s.pwHeld a = some (~~~
        value))
    ∧ (∃ (addr : BitVec 32) (value : BitVec 32) (by_ : Fin 19) (a : Nat) (s : State), addr.toNat = a + 4 ∧ isPair a
        = true ∧ rowOf addr.toNat = none ∧ mayStore addr.toNat by_ s = true ∧ Tbl.get none s.pwHeld a ≠ some (~~~
        value))
    ∧ (∃ (addr : BitVec 32) (value : BitVec 32) (by_ : Fin 19) (c : Fin 64) (s : State), addr.toNat = Reg.HMP_CTRIM c
        + 4 ∧ rowOf addr.toNat = none ∧ mayStore addr.toNat by_ s = true ∧ Tbl.get none s.pwHeld (Reg.HMP_CTRIM c)
        = some (~~~ value)) := by
  refine ⟨?_, ?_, ?_, ?_, ?_, ?_, ?_, ?_, ?_⟩
  · exact ⟨0x40000000, by decide +kernel⟩
  · exact ⟨0x4001FFFC, by decide +kernel⟩
  · exact ⟨0x400E0000, 0, 0xFFFFFFFF, st0, by decide +kernel⟩
  · exact ⟨0x40020088, 0, 0xFFF0FFF, st0, by decide +kernel⟩
  · exact ⟨0x400E004C, 0, 0xFF, wr 0x400E004C 0xFF st0, by decide +kernel⟩
  · exact ⟨0x400D0010, 0, 0x3, st0, by decide +kernel⟩
  · exact ⟨0x400D0014, 0xFFFFFFFE, 0, 0x400D0010, { st0 with pwHeld := [(0x400D0010, some 1#32)] }, by decide +kernel⟩
  · exact ⟨0x400D0014, 0xFFFFFFFF, 0, 0x400D0010, { st0 with pwHeld := [(0x400D0010, some 1#32)] }, by decide +kernel⟩
  · exact ⟨0x400A1FD4, 0x7E000000, 0, 63, { st0 with pwHeld := [(0x400A1FD0, some 0x81FFFFFF#32)] }, by decide +kernel⟩

/-- What the clauses of PairRoles ask of a command and a state is met. -/
theorem test_meets_PairRoles :
    (∃ (prole : BitVec 3) (s : State), s.configured = true ∧ paired s = true ∧ s.par.laneRet % 4 ≠ 3 ∧ roleOf s
        = roleWait ∧ prole.toNat = roleActive)
    ∧ (∃ (prole : BitVec 3) (s : State), s.configured = true ∧ paired s = true ∧ s.par.laneRet % 4 ≠ 3 ∧ roleOf s
        = roleWait ∧ prole.toNat ≠ roleActive ∧ s.par.waitOut = false ∧ isPrimary s = true)
    ∧ (∃ (prole : BitVec 3) (s : State), s.configured = true ∧ paired s = true ∧ s.par.laneRet % 4 ≠ 3 ∧ roleOf s
        = roleWait ∧ prole.toNat ≠ roleActive ∧ s.par.waitOut = false ∧ isPrimary s = false)
    ∧ (∃ (prole : BitVec 3) (s : State), s.configured = true ∧ paired s = true ∧ s.par.laneRet % 4 ≠ 3 ∧ roleOf s
        = roleWait ∧ prole.toNat ≠ roleActive ∧ s.par.waitOut = true)
    ∧ (∃ (s : State), s.configured = true ∧ paired s = true ∧ roleOf s = roleWait ∧ on Reg.PAR_STAT Reg.PAR_STAT_PLINK
        s = false ∧ s.cc + 10 * ms ≤ s.lt)
    ∧ (∃ (s : State), on Reg.PAR_STAT Reg.PAR_STAT_PLINK s = true)
    ∧ (∃ (s : State), paired s = true ∧ roleOf s = roleSyncing ∧ 16 ≤ s.par.run)
    ∧ (∃ (slot : Fin 4096) (g : Nat) (e : Nat) (s : State), tackReady slot actDrum s = true ∧ paired s = true ∧ roleOf
        s = roleStandby ∧ s.par.grant = some g ∧ g < nowF s ∧ s.par.firedAt ≠ some (nowF s) ∧ s.par.copyEpoch = some e
        ∧ s.lt + outerEu s < 2 ^ 64)
    ∧ (∃ (s : State), s.configured = true ∧ paired s = true ∧ handOf s ≤ s.lt ∧ roleOf s = roleTaking)
    ∧ (∃ (s : State), s.configured = true ∧ paired s = true ∧ handOf s ≤ s.lt ∧ roleOf s = roleActive ∧ s.par.answered
        = true)
    ∧ (∃ (s : State), s.lt < handOf s)
    ∧ (∃ (b : Nat) (s : State), s.configured = true ∧ paired s = true ∧ isPrimary s = true ∧ roleOf s = roleStandby
        ∧ healthy s = true ∧ handbackOn s = true ∧ s.par.since = some b ∧ b + 1000 * ms * fl Reg.PAR_CFG
        Reg.PAR_CFG_THBACK s ≤ s.lt ∧ s.par.grant = none)
    ∧ (∃ (s : State), healthy s = false)
    ∧ (∃ (s : State), s.configured = true ∧ paired s = true ∧ roleOf s = roleActive ∧ handbackOn s = true
        ∧ s.par.answered = false ∧ handbackAt s < 2 ^ 64)
    ∧ (∃ (s : State), roleOf s ≠ roleActive)
    ∧ (∃ (e : Nat) (s : State), s.configured = true ∧ paired s = true ∧ isPrimary s = true ∧ roleOf s = roleStandby
        ∧ s.par.grant = none ∧ on Reg.PAR_STAT Reg.PAR_STAT_HBPEND s = true ∧ handbackOn s = true ∧ s.par.copyEpoch
        = some e)
    ∧ (∃ (by_ : Fin 19) (s : State), mayStore Reg.PAR_CMD by_ s = true ∧ s.evt.mism = [] ∧ roleOf s = roleActive ∧ on
        Reg.PAR_STAT Reg.PAR_STAT_PHEALTHY s = true)
    ∧ (∃ (by_ : Fin 19) (s : State), mayStore Reg.PAR_CMD by_ s = true ∧ s.evt.mism = [] ∧ (roleOf s ≠ roleActive ∨ on
        Reg.PAR_STAT Reg.PAR_STAT_PHEALTHY s = false))
    ∧ (∃ (by_ : Fin 19) (s : State), mayStore Reg.PAR_CMD by_ s = true ∧ s.evt.mism = [])
    ∧ (∃ (by_ : Fin 19) (s : State), mayStore Reg.PAR_CMD by_ s = true ∧ s.evt.mism = []) := by
  refine ⟨?_, ?_, ?_, ?_, ?_, ?_, ?_, ?_, ?_, ?_, ?_, ?_, ?_, ?_, ?_, ?_, ?_, ?_, ?_, ?_⟩
  · exact ⟨4, setB Reg.PAR_CFG Reg.PAR_CFG_PRIMARY true (setB Reg.PAR_CFG Reg.PAR_CFG_EN true (setF Reg.PAR_STAT
      Reg.PAR_STAT_ROLE 0 (st0))), by decide +kernel⟩
  · exact ⟨0, setB Reg.PAR_CFG Reg.PAR_CFG_PRIMARY true (setB Reg.PAR_CFG Reg.PAR_CFG_EN true (setF Reg.PAR_STAT
      Reg.PAR_STAT_ROLE 0 (st0))), by decide +kernel⟩
  · exact ⟨0, setB Reg.PAR_CFG Reg.PAR_CFG_EN true (setF Reg.PAR_STAT Reg.PAR_STAT_ROLE 0 (st0)), by decide +kernel⟩
  · exact ⟨0, setB Reg.PAR_CFG Reg.PAR_CFG_PRIMARY true (setB Reg.PAR_CFG Reg.PAR_CFG_EN true (setF Reg.PAR_STAT
      Reg.PAR_STAT_ROLE 0 ({ st0 with par := { ParSt.reset with waitOut := true } }))), by decide +kernel⟩
  · exact ⟨setB Reg.PAR_CFG Reg.PAR_CFG_PRIMARY true (setB Reg.PAR_CFG Reg.PAR_CFG_EN true (setF Reg.PAR_STAT
      Reg.PAR_STAT_ROLE 0 (st0))), by decide +kernel⟩
  · exact ⟨setB Reg.PAR_STAT Reg.PAR_STAT_PLINK true (setB Reg.PAR_CFG Reg.PAR_CFG_PRIMARY true (setB Reg.PAR_CFG
      Reg.PAR_CFG_EN true (setF Reg.PAR_STAT Reg.PAR_STAT_ROLE 0 (st0)))), by decide +kernel⟩
  · exact ⟨setB Reg.PAR_STAT Reg.PAR_STAT_PLINK true (setB Reg.PAR_CFG Reg.PAR_CFG_PRIMARY true (setB Reg.PAR_CFG
      Reg.PAR_CFG_EN true (setF Reg.PAR_STAT Reg.PAR_STAT_ROLE 1
      ({ st0 with par := { ParSt.reset with run := 16 } })))), by decide +kernel⟩
  · exact ⟨4095, 7, 7, setB Reg.PAR_CFG Reg.PAR_CFG_EN true (setF Reg.PAR_STAT Reg.PAR_STAT_ROLE 2 (fireSt 4095 actDrum
      0 0 { st0 with par := { ParSt.reset with grant := some 7, copyEpoch := some 7, evSeq := 12345 } })), by
      decide +kernel⟩
  · exact ⟨setB Reg.PAR_STAT Reg.PAR_STAT_HBPEND true (setB Reg.PAR_STAT Reg.PAR_STAT_PLINK true (setB Reg.PAR_CFG
      Reg.PAR_CFG_PRIMARY true (setB Reg.PAR_CFG Reg.PAR_CFG_EN true (setF Reg.PAR_STAT Reg.PAR_STAT_ROLE 3
      ({ st0 with par := { ParSt.reset with handback := true } }))))), by decide +kernel⟩
  · exact ⟨setB Reg.PAR_STAT Reg.PAR_STAT_HBPEND true (setB Reg.PAR_STAT Reg.PAR_STAT_PLINK true (setB Reg.PAR_CFG
      Reg.PAR_CFG_PRIMARY true (setB Reg.PAR_CFG Reg.PAR_CFG_EN true (setF Reg.PAR_STAT Reg.PAR_STAT_ROLE 4
      ({ st0 with par := { ParSt.reset with answered := true } }))))), by decide +kernel⟩
  · exact ⟨wr Reg.PAR_HAND_HI 9 (setB Reg.PAR_STAT Reg.PAR_STAT_PLINK true (setB Reg.PAR_CFG Reg.PAR_CFG_PRIMARY true
      (setB Reg.PAR_CFG Reg.PAR_CFG_EN true (setF Reg.PAR_STAT Reg.PAR_STAT_ROLE 3 (st0))))), by decide +kernel⟩
  · exact ⟨16000000000, setB Reg.PAR_CFG Reg.PAR_CFG_HBEN true (setB Reg.PAR_STAT Reg.PAR_STAT_HEALTHY true (setB
      Reg.PAR_STAT Reg.PAR_STAT_PLINK true (setB Reg.PAR_CFG Reg.PAR_CFG_PRIMARY true (setB Reg.PAR_CFG Reg.PAR_CFG_EN
      true (setF Reg.PAR_STAT Reg.PAR_STAT_ROLE 2
      ({ st0 with par := { ParSt.reset with since := some 16000000000 } })))))), by decide +kernel⟩
  · exact ⟨setB Reg.PAR_STAT Reg.PAR_STAT_PLINK true (setB Reg.PAR_CFG Reg.PAR_CFG_PRIMARY true (setB Reg.PAR_CFG
      Reg.PAR_CFG_EN true (setF Reg.PAR_STAT Reg.PAR_STAT_ROLE 2 (st0)))), by decide +kernel⟩
  · exact ⟨setB Reg.PAR_CFG Reg.PAR_CFG_HBEN true (setB Reg.PAR_STAT Reg.PAR_STAT_PLINK true (setB Reg.PAR_CFG
      Reg.PAR_CFG_PRIMARY true (setB Reg.PAR_CFG Reg.PAR_CFG_EN true (setF Reg.PAR_STAT Reg.PAR_STAT_ROLE 4 (st0))))),
      by decide +kernel⟩
  · exact ⟨setB Reg.PAR_STAT Reg.PAR_STAT_PLINK true (setB Reg.PAR_CFG Reg.PAR_CFG_PRIMARY true (setB Reg.PAR_CFG
      Reg.PAR_CFG_EN true (setF Reg.PAR_STAT Reg.PAR_STAT_ROLE 2 (st0)))), by decide +kernel⟩
  · exact ⟨0xFFFFFFFF, setB Reg.PAR_CFG Reg.PAR_CFG_HBEN true (setB Reg.PAR_STAT Reg.PAR_STAT_HBPEND true (setB
      Reg.PAR_STAT Reg.PAR_STAT_PLINK true (setB Reg.PAR_CFG Reg.PAR_CFG_PRIMARY true (setB Reg.PAR_CFG Reg.PAR_CFG_EN
      true (setF Reg.PAR_STAT Reg.PAR_STAT_ROLE 2
      ({ st0 with par := { ParSt.reset with copyEpoch := some 0xFFFFFFFF } })))))), by decide +kernel⟩
  · exact ⟨17, setB Reg.PAR_STAT Reg.PAR_STAT_PHEALTHY true (setB Reg.PAR_STAT Reg.PAR_STAT_PLINK true (setB
      Reg.PAR_CFG Reg.PAR_CFG_PRIMARY true (setB Reg.PAR_CFG Reg.PAR_CFG_EN true (setF Reg.PAR_STAT Reg.PAR_STAT_ROLE 4
      (st0))))), by decide +kernel⟩
  · exact ⟨17, setB Reg.PAR_STAT Reg.PAR_STAT_PLINK true (setB Reg.PAR_CFG Reg.PAR_CFG_PRIMARY true (setB Reg.PAR_CFG
      Reg.PAR_CFG_EN true (setF Reg.PAR_STAT Reg.PAR_STAT_ROLE 4 (st0)))), by decide +kernel⟩
  · exact ⟨17, setB Reg.PAR_CFG Reg.PAR_CFG_HBEN true (setB Reg.PAR_STAT Reg.PAR_STAT_PLINK true (setB Reg.PAR_CFG
      Reg.PAR_CFG_PRIMARY true (setB Reg.PAR_CFG Reg.PAR_CFG_EN true (setF Reg.PAR_STAT Reg.PAR_STAT_ROLE 4 (st0))))),
      by decide +kernel⟩
  · exact ⟨17, setB Reg.PAR_CFG Reg.PAR_CFG_HBEN true (setB Reg.PAR_STAT Reg.PAR_STAT_PLINK true (setB Reg.PAR_CFG
      Reg.PAR_CFG_PRIMARY true (setB Reg.PAR_CFG Reg.PAR_CFG_EN true (setF Reg.PAR_STAT Reg.PAR_STAT_ROLE 4 (st0))))),
      by decide +kernel⟩

/-- What the clauses of PairCopiesAndHealth ask of a command and a state is met. -/
theorem test_meets_PairCopiesAndHealth :
    (∃ (s : State), paired s = true ∧ s.par.snapped = false ∧ s.par.firedAt = some (nowF s - 480) ∧ 480 ≤ nowF s
        ∧ roleOf s = roleActive ∧ s.par.skip = false ∧ masked 8 s = false)
    ∧ (∃ (s : State), paired s = true ∧ s.par.snapped = false ∧ s.par.firedAt = some (nowF s - 480) ∧ 480 ≤ nowF s
        ∧ installs s = true)
    ∧ (∃ (s : State), s.par.snapped = true)
    ∧ (∃ (segs : List (Fin 32 × List (BitVec 8))) (s : State), s.configured = true ∧ paired s = true ∧ on Reg.PAR_STAT
        Reg.PAR_STAT_PLINK s = true ∧ installs s = true ∧ (∀ i : Fin 32, ((segs.find? (fun p : Fin 32 × List (BitVec 8)
        => p.1 == i)).any (fun p : Fin 32 × List (BitVec 8) => p.2.length == 256)) = true))
    ∧ (∃ (segs : List (Fin 32 × List (BitVec 8))) (i : Fin 32) (s : State), s.configured = true ∧ paired s = true ∧ on
        Reg.PAR_STAT Reg.PAR_STAT_PLINK s = true ∧ installs s = true ∧ segs.find? (fun p : Fin 32 × List (BitVec 8) =>
        p.1 == i) = none)
    ∧ (∃ (s : State), installs s = false)
    ∧ (∃ (s : State), s.configured = true ∧ paired s = true ∧ on Reg.PAR_STAT Reg.PAR_STAT_PLINK s = true ∧ installs s
        = true ∧ s.par.exch.all (fun t0 : Nat => decide (t0 + ms ≤ s.lt)) = true)
    ∧ (∃ (s : State), s.configured = true ∧ paired s = true ∧ on Reg.PAR_STAT Reg.PAR_STAT_PLINK s = true)
    ∧ (∃ (epoch : BitVec 32) (s : State), s.configured = true ∧ paired s = true ∧ on Reg.PAR_STAT Reg.PAR_STAT_PLINK s
        = true ∧ roleOf s = roleActive ∧ s.par.answered = false ∧ serialAfter epoch.toNat (rd Reg.PAR_EPOCH s) = true)
    ∧ (∃ (epoch : BitVec 32) (s : State), s.configured = true ∧ paired s = true ∧ roleOf s = roleActive
        ∧ s.par.answered = false ∧ serialAfter epoch.toNat (rd Reg.PAR_EPOCH s) = true)
    ∧ (∃ (epoch : BitVec 32) (s : State), s.configured = true ∧ paired s = true ∧ roleOf s = roleActive ∧ serialAfter
        epoch.toNat (rd Reg.PAR_EPOCH s) = false)
    ∧ (∃ (epoch : BitVec 32) (s : State), s.configured = true ∧ paired s = true ∧ roleOf s = roleTaking ∧ epoch.toNat
        = rd Reg.PAR_EPOCH s ∧ isPrimary s = false)
    ∧ (∃ (epoch : BitVec 32) (s : State), s.configured = true ∧ paired s = true ∧ roleOf s = roleTaking ∧ epoch.toNat
        = rd Reg.PAR_EPOCH s ∧ isPrimary s = true)
    ∧ (∃ (l : Fin 2) (s : State), paired s = true ∧ s.par.lanes.testBit l = true)
    ∧ (∃ (l : Fin 2) (s : State), s.par.lanes.testBit l = false)
    ∧ (∃ (l : Fin 2) (s : State), s.configured = true ∧ paired s = true ∧ s.par.laneRet.testBit l = false)
    ∧ (∃ (l : Fin 2) (s : State), s.par.laneRet.testBit l = true)
    ∧ (∃ (s : State), s.configured = true ∧ paired s = true)
    ∧ (∃ (ue : List (Fin 3 × BitVec 32)) (s : State), s.configured = true ∧ paired s = true ∧ ue ≠ []) := by
  refine ⟨?_, ?_, ?_, ?_, ?_, ?_, ?_, ?_, ?_, ?_, ?_, ?_, ?_, ?_, ?_, ?_, ?_, ?_, ?_⟩
  · exact ⟨wr Reg.PAR_COPYNO 0xFFFFFFFF (setB Reg.PAR_STAT Reg.PAR_STAT_PLINK true (setB Reg.PAR_CFG
      Reg.PAR_CFG_PRIMARY true (setB Reg.PAR_CFG Reg.PAR_CFG_EN true (setF Reg.PAR_STAT Reg.PAR_STAT_ROLE 4
      ({ st0 with par := { ParSt.reset with firedAt := some 999999520 } }))))), by decide +kernel⟩
  · exact ⟨setB Reg.PAR_STAT Reg.PAR_STAT_PLINK true (setB Reg.PAR_CFG Reg.PAR_CFG_PRIMARY true (setB Reg.PAR_CFG
      Reg.PAR_CFG_EN true (setF Reg.PAR_STAT Reg.PAR_STAT_ROLE 2
      ({ st0 with par := { ParSt.reset with firedAt := some 999999520 } })))), by decide +kernel⟩
  · exact ⟨setB Reg.PAR_STAT Reg.PAR_STAT_PLINK true (setB Reg.PAR_CFG Reg.PAR_CFG_PRIMARY true (setB Reg.PAR_CFG
      Reg.PAR_CFG_EN true (setF Reg.PAR_STAT Reg.PAR_STAT_ROLE 4
      ({ st0 with par := { ParSt.reset with snapped := true } })))), by decide +kernel⟩
  · exact ⟨(List.finRange 32).map (fun i => (i, List.replicate 256 0#8)), setB Reg.PAR_STAT Reg.PAR_STAT_PLINK true
      (setB Reg.PAR_CFG Reg.PAR_CFG_PRIMARY true (setB Reg.PAR_CFG Reg.PAR_CFG_EN true (setF Reg.PAR_STAT
      Reg.PAR_STAT_ROLE 2 ({ st0 with par := { ParSt.reset with good := 16 } })))), by decide +kernel⟩
  · exact ⟨[], 31, setB Reg.PAR_STAT Reg.PAR_STAT_PLINK true (setB Reg.PAR_CFG Reg.PAR_CFG_PRIMARY true (setB
      Reg.PAR_CFG Reg.PAR_CFG_EN true (setF Reg.PAR_STAT Reg.PAR_STAT_ROLE 2
      ({ st0 with par := { ParSt.reset with good := 16 } })))), by decide +kernel⟩
  · exact ⟨setB Reg.PAR_STAT Reg.PAR_STAT_PLINK true (setB Reg.PAR_CFG Reg.PAR_CFG_PRIMARY true (setB Reg.PAR_CFG
      Reg.PAR_CFG_EN true (setF Reg.PAR_STAT Reg.PAR_STAT_ROLE 4 (st0)))), by decide +kernel⟩
  · exact ⟨wr Reg.PAR_ASYM 0xFFFF (setB Reg.PAR_STAT Reg.PAR_STAT_PLINK true (setB Reg.PAR_CFG Reg.PAR_CFG_PRIMARY true
      (setB Reg.PAR_CFG Reg.PAR_CFG_EN true (setF Reg.PAR_STAT Reg.PAR_STAT_ROLE 1 (st0))))), by decide +kernel⟩
  · exact ⟨setB Reg.PAR_STAT Reg.PAR_STAT_PLINK true (setB Reg.PAR_CFG Reg.PAR_CFG_PRIMARY true (setB Reg.PAR_CFG
      Reg.PAR_CFG_EN true (setF Reg.PAR_STAT Reg.PAR_STAT_ROLE 2 (st0)))), by decide +kernel⟩
  · exact ⟨1, setB Reg.PAR_STAT Reg.PAR_STAT_PLINK true (setB Reg.PAR_CFG Reg.PAR_CFG_PRIMARY true (setB Reg.PAR_CFG
      Reg.PAR_CFG_EN true (setF Reg.PAR_STAT Reg.PAR_STAT_ROLE 4 (st0)))), by decide +kernel⟩
  · exact ⟨1, setB Reg.PAR_STAT Reg.PAR_STAT_PLINK true (setB Reg.PAR_CFG Reg.PAR_CFG_PRIMARY true (setB Reg.PAR_CFG
      Reg.PAR_CFG_EN true (setF Reg.PAR_STAT Reg.PAR_STAT_ROLE 4 (st0)))), by decide +kernel⟩
  · exact ⟨0, setB Reg.PAR_STAT Reg.PAR_STAT_PLINK true (setB Reg.PAR_CFG Reg.PAR_CFG_PRIMARY true (setB Reg.PAR_CFG
      Reg.PAR_CFG_EN true (setF Reg.PAR_STAT Reg.PAR_STAT_ROLE 4 (st0)))), by decide +kernel⟩
  · exact ⟨0, setB Reg.PAR_STAT Reg.PAR_STAT_PLINK true (setB Reg.PAR_CFG Reg.PAR_CFG_EN true (setF Reg.PAR_STAT
      Reg.PAR_STAT_ROLE 3 (st0))), by decide +kernel⟩
  · exact ⟨0, setB Reg.PAR_STAT Reg.PAR_STAT_PLINK true (setB Reg.PAR_CFG Reg.PAR_CFG_PRIMARY true (setB Reg.PAR_CFG
      Reg.PAR_CFG_EN true (setF Reg.PAR_STAT Reg.PAR_STAT_ROLE 3 (st0)))), by decide +kernel⟩
  · exact ⟨1, setB Reg.PAR_STAT Reg.PAR_STAT_PLINK true (setB Reg.PAR_CFG Reg.PAR_CFG_PRIMARY true (setB Reg.PAR_CFG
      Reg.PAR_CFG_EN true (setF Reg.PAR_STAT Reg.PAR_STAT_ROLE 4
      ({ st0 with par := { ParSt.reset with lanes := 3 } })))), by decide +kernel⟩
  · exact ⟨1, setB Reg.PAR_STAT Reg.PAR_STAT_PLINK true (setB Reg.PAR_CFG Reg.PAR_CFG_PRIMARY true (setB Reg.PAR_CFG
      Reg.PAR_CFG_EN true (setF Reg.PAR_STAT Reg.PAR_STAT_ROLE 4
      ({ st0 with par := { ParSt.reset with lanes := 1 } })))), by decide +kernel⟩
  · exact ⟨1, setB Reg.PAR_STAT Reg.PAR_STAT_PLINK true (setB Reg.PAR_CFG Reg.PAR_CFG_PRIMARY true (setB Reg.PAR_CFG
      Reg.PAR_CFG_EN true (setF Reg.PAR_STAT Reg.PAR_STAT_ROLE 4
      ({ st0 with par := { ParSt.reset with lanes := 1 } })))), by decide +kernel⟩
  · exact ⟨1, setB Reg.PAR_STAT Reg.PAR_STAT_PLINK true (setB Reg.PAR_CFG Reg.PAR_CFG_PRIMARY true (setB Reg.PAR_CFG
      Reg.PAR_CFG_EN true (setF Reg.PAR_STAT Reg.PAR_STAT_ROLE 4
      ({ st0 with par := { ParSt.reset with lanes := 1, laneRet := 2 } })))), by decide +kernel⟩
  · exact ⟨setB Reg.PAR_STAT Reg.PAR_STAT_PLINK true (setB Reg.PAR_CFG Reg.PAR_CFG_PRIMARY true (setB Reg.PAR_CFG
      Reg.PAR_CFG_EN true (setF Reg.PAR_STAT Reg.PAR_STAT_ROLE 4 (st0)))), by decide +kernel⟩
  · exact ⟨[(2, 0x10)], setB Reg.PAR_STAT Reg.PAR_STAT_PLINK true (setB Reg.PAR_CFG Reg.PAR_CFG_PRIMARY true (setB
      Reg.PAR_CFG Reg.PAR_CFG_EN true (setF Reg.PAR_STAT Reg.PAR_STAT_ROLE 4 (st0)))), by decide +kernel⟩

/-- What the clauses of RefereeAndGrants ask of a command and a state is met. -/
theorem test_meets_RefereeAndGrants :
    (∃ (s : State), s.configured = true ∧ paired s = true ∧ refAccepts 0 s = true ∧ roleOf s = roleStandby ∧ healthy s
        = true)
    ∧ (∃ (s : State), s.configured = true ∧ paired s = true ∧ refAccepts 0 s = true ∧ roleOf s = roleWait
        ∧ s.par.waitOut = true ∧ on Reg.PAR_STAT Reg.PAR_STAT_PLINK s = false ∧ healthy s = true)
    ∧ (∃ (s : State), s.configured = true ∧ paired s = true ∧ refAccepts 0 s = true ∧ roleOf s ≠ roleTaking ∧ (roleOf s
        ≠ roleStandby ∨ healthy s = false) ∧ (roleOf s ≠ roleWait ∨ healthy s = false ∨ s.par.waitOut = false))
    ∧ (∃ (s : State), refAccepts 0 s = false)
    ∧ (∃ (port : Fin 4) (tag : FrameTag) (dstk : Fin 4) (src : BitVec 18) (dst : BitVec 18) (seq : BitVec 32) (epoch :
        BitVec 16) (cts : BitVec 28) (data : List (BitVec 8)) (f : Frame) (n : Nat) (s : State), f = frameOf port 9 tag
        dstk src dst seq epoch cts data s ∧ urgentNew f n s = true ∧ paired s = true ∧ refAccepts 1 s = true ∧ be
        f.data 0 1 = 2 ∧ be f.data 1 1 = fl Reg.PAR_CFG Reg.PAR_CFG_UNIT s ∧ be f.data 8 4 = rd Reg.PAR_EPOCH s
        ∧ roleOf s = roleStandby ∧ healthy s = true)
    ∧ (∃ (port : Fin 4) (tag : FrameTag) (dstk : Fin 4) (src : BitVec 18) (dst : BitVec 18) (seq : BitVec 32) (epoch :
        BitVec 16) (cts : BitVec 28) (data : List (BitVec 8)) (f : Frame) (n : Nat) (s : State), f = frameOf port 9 tag
        dstk src dst seq epoch cts data s ∧ urgentNew f n s = true ∧ be f.data 0 1 = 2 ∧ be f.data 8 4 ≠ rd
        Reg.PAR_EPOCH s)
    ∧ (∃ (port : Fin 4) (tag : FrameTag) (dstk : Fin 4) (src : BitVec 18) (dst : BitVec 18) (seq : BitVec 32) (epoch :
        BitVec 16) (cts : BitVec 28) (data : List (BitVec 8)) (f : Frame) (n : Nat) (i : Fin 16) (u : Nat) (s : State),
        f = frameOf port 9 tag dstk src dst seq epoch cts data s ∧ urgentNew f n s = true ∧ be f.data 0 1 = 1 ∧ u = be
        f.data 1 1 ∧ u < 2 ∧ refereeOn i s = true ∧ refAddr i s = src.toNat)
    ∧ (∃ (pair : Fin 16) (unit : Fin 2) (s : State), s.configured = true ∧ grantDue pair unit s = true)
    ∧ (∃ (pair : Fin 16) (unit : Fin 2) (s : State), grantDue pair unit s = false) := by
  refine ⟨?_, ?_, ?_, ?_, ?_, ?_, ?_, ?_, ?_⟩
  · exact ⟨setB Reg.PAR_STAT Reg.PAR_STAT_HBPEND true (setB Reg.PAR_STAT Reg.PAR_STAT_HEALTHY true (setB Reg.PAR_STAT
      Reg.PAR_STAT_PLINK true (setB Reg.PAR_CFG Reg.PAR_CFG_PRIMARY true (setB Reg.PAR_CFG Reg.PAR_CFG_EN true (setF
      Reg.PAR_STAT Reg.PAR_STAT_ROLE 2 (st0)))))), by decide +kernel⟩
  · exact ⟨setB Reg.PAR_STAT Reg.PAR_STAT_HEALTHY true (setB Reg.PAR_CFG Reg.PAR_CFG_PRIMARY true (setB Reg.PAR_CFG
      Reg.PAR_CFG_EN true (setF Reg.PAR_STAT Reg.PAR_STAT_ROLE 0
      ({ st0 with par := { ParSt.reset with waitOut := true } })))), by decide +kernel⟩
  · exact ⟨setB Reg.PAR_STAT Reg.PAR_STAT_PLINK true (setB Reg.PAR_CFG Reg.PAR_CFG_PRIMARY true (setB Reg.PAR_CFG
      Reg.PAR_CFG_EN true (setF Reg.PAR_STAT Reg.PAR_STAT_ROLE 2 (st0)))), by decide +kernel⟩
  · exact ⟨setF Reg.PAR_CFG Reg.PAR_CFG_REFSRC 1 (setB Reg.PAR_STAT Reg.PAR_STAT_PLINK true (setB Reg.PAR_CFG
      Reg.PAR_CFG_PRIMARY true (setB Reg.PAR_CFG Reg.PAR_CFG_EN true (setF Reg.PAR_STAT Reg.PAR_STAT_ROLE 2 (st0))))),
      by decide +kernel⟩
  · exact ⟨3, ⟨1, 0⟩, 1, 259, 0x1FF, 7, 7, 0, ([2, 0, 0, 0, 0, 0, 0, 0, 0, 0, 0, 0] : List (BitVec 8)), ⟨3, 9, 1, 0, 1,
      259, 0x1FF, 7, 7, 0, (([2, 0, 0, 0, 0, 0, 0, 0, 0, 0, 0, 0] : List (BitVec 8)) : List (BitVec 8)).map (·.toNat),
      16000000000⟩, 0, setBitAt (Reg.SPN_PSTAT 3) 0 true (wr (Reg.SPN_PCFG 3) 1 (setF Reg.SPN_CFG Reg.SPN_CFG_ADDR
      0x102 (setB Reg.PAR_CFG Reg.PAR_CFG_EN true (setF Reg.PAR_CFG Reg.PAR_CFG_REFSRC 1 (setB Reg.PAR_STAT
      Reg.PAR_STAT_HEALTHY true (setF Reg.PAR_STAT Reg.PAR_STAT_ROLE 2
      ({ st0 with spn := { SpnSt.reset with epochs := [(259, 7)] } }))))))), by decide +kernel⟩
  · exact ⟨3, ⟨1, 0⟩, 1, 259, 0x1FF, 7, 7, 0, ([2, 0, 0, 0, 0, 0, 0, 0, 0, 0, 0, 1] : List (BitVec 8)), ⟨3, 9, 1, 0, 1,
      259, 0x1FF, 7, 7, 0, (([2, 0, 0, 0, 0, 0, 0, 0, 0, 0, 0, 1] : List (BitVec 8)) : List (BitVec 8)).map (·.toNat),
      16000000000⟩, 0, setBitAt (Reg.SPN_PSTAT 3) 0 true (wr (Reg.SPN_PCFG 3) 1 (setF Reg.SPN_CFG Reg.SPN_CFG_ADDR
      0x102 ({ st0 with spn := { SpnSt.reset with epochs := [(259, 7)] } }))), by decide +kernel⟩
  · exact ⟨3, ⟨1, 0⟩, 1, 259, 0x1FF, 7, 7, 0, ([1, 1, 4, 0, 0, 0, 3, 0xFF, 0, 0, 0, 7] : List (BitVec 8)), ⟨3, 9, 1, 0,
      1, 259, 0x1FF, 7, 7, 0, (([1, 1, 4, 0, 0, 0, 3, 0xFF, 0, 0, 0, 7] : List (BitVec 8)) : List (BitVec 8)).map
      (·.toNat), 16000000000⟩, 0, 15, 1, setB Reg.PAR_RCFG Reg.PAR_RCFG_REFEREE true (setBitAt (Reg.PAR_RPAIR 15) 18
      true (setF (Reg.PAR_RPAIR 15) ⟨0, 18⟩ 259 (setBitAt (Reg.SPN_PSTAT 3) 0 true (wr (Reg.SPN_PCFG 3) 1 (setF
      Reg.SPN_CFG Reg.SPN_CFG_ADDR 0x102 ({ st0 with spn := { SpnSt.reset with epochs := [(259, 7)] } })))))), by
      decide +kernel⟩
  · exact ⟨15, 1, setB Reg.PAR_RCFG Reg.PAR_RCFG_REFEREE true (setBitAt (Reg.PAR_RPAIR 15) 18 true (setF (Reg.PAR_RPAIR
      15) ⟨0, 18⟩ 259
      ({ st0 with par := { ParSt.reset with units := [(30, { RefUnit.reset with role := 4, req := true }), (31, { RefUnit.reset with word := 0x3FF, role := 2, epoch := 7 })] } }))),
      by decide +kernel⟩
  · exact ⟨15, 1, st0, by decide +kernel⟩

/-- What the clauses of SafetyFunctions ask of a command and a state is met. -/
theorem test_meets_SafetyFunctions :
    (∃ (ch : Fin 2) (n : Fin 8) (second : Bool) (s : State), countTaken ch n second s = true ∧ stopFn ch n s = true
        ∧ fnOf ch n s ≠ 2 ∧ (pairOf ch n s).state = 0)
    ∧ (∃ (ch : Fin 2) (n : Fin 8) (second : Bool) (s : State), countTaken ch n second s = true ∧ fnOf ch n s = 2
        ∧ (pairOf ch n s).state = 0)
    ∧ (∃ (ch : Fin 2) (n : Fin 8) (second : Bool) (s : State), countTaken ch n second s = true ∧ stopFn ch n s = true
        ∧ (pairOf ch n s).state ≠ 0)
    ∧ (∃ (ch : Fin 2) (n : Fin 8) (second : Bool) (s : State), countTaken ch n second s = true ∧ handFn ch n s = true)
    ∧ (∃ (ch : Fin 2) (n : Fin 8) (second : Bool) (s : State), countTaken ch n second s = true ∧ fnOf ch n s = 0)
    ∧ (∃ (ch : Fin 2) (n : Fin 8) (second : Bool) (s : State), fnOf ch n s ≠ 5 ∧ s.saf.tpLow.testBit second.toNat
        = true)
    ∧ (∃ (ch : Fin 2) (n : Fin 8) (second : Bool) (e : Nat) (s : State), fnOf ch n s ≠ 5 ∧ s.saf.tpEnd.find? (fun p :
        Nat × Nat => p.1 == second.toNat) = some (second.toNat, e) ∧ s.lt < e + tpsetEu s)
    ∧ (∃ (ch : Fin 2) (n : Fin 8) (second : Bool) (s : State), filtered ch n second s = false)
    ∧ (∃ (ch : Fin 2) (n : Fin 8) (second : Bool) (s : State), countTaken ch n second s = true ∧ stopFn ch n s = true
        ∧ (pairOf ch n s).state = 1 ∧ (pairOf ch n s).both = true ∧ ((if second then (pairOf ch n s).a else (pairOf ch
        n s).b) = true))
    ∧ (∃ (ch : Fin 2) (n : Fin 8) (second : Bool) (s : State), countTaken ch n second s = true ∧ stopFn ch n s = true
        ∧ (pairOf ch n s).state = 1 ∧ (pairOf ch n s).both = false)
    ∧ (∃ (ch : Fin 2) (n : Fin 8) (second : Bool) (u : Nat) (s : State), countTaken ch n second s = true ∧ armed s
        = true ∧ lockedOut s = false ∧ handFn ch n s = true ∧ n.val % 2 = 0 ∧ ((if second then (pairOf ch n s).a else
        (pairOf ch n s).b) = true) ∧ (pairOf ch n s).act = none ∧ (pairOf ch n s).rel = 3 ∧ (pairOf ch (n.val + 1)
        s).act = some u ∧ u ≤ s.lt ∧ s.lt ≤ u + 500 * ms)
    ∧ (∃ (ch : Fin 2) (n : Fin 8) (second : Bool) (u : Nat) (s : State), countTaken ch n second s = true ∧ handFn ch n
        s = true ∧ n.val % 2 = 0 ∧ (pairOf ch n s).act = none ∧ (pairOf ch n s).thact = false ∧ (pairOf ch (n.val + 1)
        s).act = some u ∧ u + 500 * ms < s.lt)
    ∧ (∃ (ch : Fin 2) (n : Fin 8) (d : Nat) (s : State), safOn s = true ∧ lockedOut s = false ∧ (pairOf ch n s).disc
        = some d ∧ elapsed ch d (tdiscEu ch n s) s = true)
    ∧ (∃ (ch : Fin 2) (n : Fin 8) (d : Nat) (s : State), (pairOf ch n s).disc = some d ∧ elapsed ch d (tdiscEu ch n s)
        s = false)
    ∧ (∃ (ch : Fin 2) (n : Fin 8) (d : Nat) (s : State), safOn s = true ∧ (pairOf ch n s).stop = some d ∧ elapsed ch d
        (tstopEu ch n s) s = true ∧ stopFn ch n s = true ∧ (pairOf ch n s).state ≠ 0)
    ∧ (∃ (ch : Fin 2) (n : Fin 8) (d : Nat) (s : State), safOn s = true ∧ armed s = true ∧ lockedOut s = false
        ∧ (pairOf ch n s).stop = some d ∧ elapsed ch d (tstopEu ch n s) s = true ∧ (∀ m : Fin 8, stopFn ch m s = true
        → (pairOf ch m s).state = 0 ∧ (m ≠ n → (pairOf ch m s).stop = none)))
    ∧ (∃ (ch : Fin 2) (n : Fin 8) (s : State), (pairOf ch n s).stop = none)
    ∧ (∃ (o : Fin 2) (s : State), safOn s = true ∧ s.saf.tpLow.testBit o = false ∧ o = 0 ∧ s.saf.tpAt.find? (fun p :
        Nat × Nat => p.1 == 0) = none)
    ∧ (∃ (o : Fin 2) (x : Nat) (s : State), safOn s = true ∧ s.saf.tpLow.testBit o = false ∧ o = 0 ∧ (s.saf.tpAt.find?
        (fun p : Nat × Nat => p.1 == 0)).map (fun p : Nat × Nat => p.2) = some x ∧ x + tpperEu s ≤ s.lt)
    ∧ (∃ (o : Fin 2) (x : Nat) (y : Nat) (s : State), safOn s = true ∧ s.saf.tpLow.testBit o = false ∧ o = 1
        ∧ (s.saf.tpAt.find? (fun p : Nat × Nat => p.1 == 1)).map (fun p : Nat × Nat => p.2) = some y
        ∧ (s.saf.tpAt.find? (fun p : Nat × Nat => p.1 == 0)).map (fun p : Nat × Nat => p.2) = some x ∧ x + tpperEu s /
        2 ≤ s.lt ∧ y < x + tpperEu s / 2)
    ∧ (∃ (o : Fin 2) (x : Nat) (s : State), safOn s = true ∧ s.saf.tpLow.testBit o = false ∧ o = 1 ∧ s.saf.tpAt.find?
        (fun p : Nat × Nat => p.1 == 1) = none ∧ (s.saf.tpAt.find? (fun p : Nat × Nat => p.1 == 0)).map (fun p : Nat ×
        Nat => p.2) = some x ∧ x + tpperEu s / 2 ≤ s.lt)
    ∧ (∃ (o : Fin 2) (s : State), s.saf.tpLow.testBit o = true)
    ∧ (∃ (o : Fin 2) (n : Fin 8) (s : State), safOn s = true ∧ s.saf.tpLow.testBit o = true ∧ Tbl.get 0 s.saf.tpAt o
        + tpwEu s ≤ s.lt ∧ drivesTest s = true ∧ n.val ∈ pulsePairs o s)
    ∧ (∃ (o : Fin 2) (n : Fin 8) (high : BitVec 8) (s : State), safOn s = true ∧ lockedOut s = false
        ∧ s.saf.tpLow.testBit o = true ∧ Tbl.get 0 s.saf.tpAt o + tpwEu s ≤ s.lt ∧ drivesTest s = true ∧ n.val ∈
        pulsePairs o s ∧ high.toNat = 2 ^ n.val) := by
  refine ⟨?_, ?_, ?_, ?_, ?_, ?_, ?_, ?_, ?_, ?_, ?_, ?_, ?_, ?_, ?_, ?_, ?_, ?_, ?_, ?_, ?_, ?_, ?_, ?_⟩
  · exact ⟨1, 7, true, safCopyWrite (setF (Reg.SAF_PCFG 7) Reg.SAF_PCFG_FUNC 1 (setB Reg.SAF_STAT Reg.SAF_STAT_PATHA
      true (setB Reg.SAF_STAT Reg.SAF_STAT_PATHB true (setBitAt Reg.SAF_CFG 0 true
      ({ st0 with saf := { SafSt.reset with pairs := [(15, ⟨0, true, true, false, none, none, none, 3, false, none, none⟩)] } }))))),
      by decide +kernel⟩
  · exact ⟨0, 7, true, safCopyWrite (setF (Reg.SAF_PCFG 7) Reg.SAF_PCFG_FUNC 2 (setB Reg.SAF_STAT Reg.SAF_STAT_PATHA
      true (setB Reg.SAF_STAT Reg.SAF_STAT_PATHB true (setBitAt Reg.SAF_CFG 0 true
      ({ st0 with saf := { SafSt.reset with pairs := [(7, ⟨0, true, true, false, none, none, none, 3, false, none, none⟩)] } }))))),
      by decide +kernel⟩
  · exact ⟨0, 7, true, safCopyWrite (setF (Reg.SAF_PCFG 7) Reg.SAF_PCFG_FUNC 1 (setB Reg.SAF_STAT Reg.SAF_STAT_PATHA
      true (setB Reg.SAF_STAT Reg.SAF_STAT_PATHB true (setBitAt Reg.SAF_CFG 0 true
      ({ st0 with saf := { SafSt.reset with pairs := [(7, ⟨1, false, true, false, none, none, none, 3, false, none, none⟩)] } }))))),
      by decide +kernel⟩
  · exact ⟨0, 7, true, safCopyWrite (setF (Reg.SAF_PCFG 7) Reg.SAF_PCFG_FUNC 4 (setF (Reg.SAF_PCFG 6) Reg.SAF_PCFG_FUNC
      4 (setB Reg.SAF_STAT Reg.SAF_STAT_PATHA true (setB Reg.SAF_STAT Reg.SAF_STAT_PATHB true (setBitAt Reg.SAF_CFG 0
      true
      ({ st0 with saf := { SafSt.reset with pairs := [(6, ⟨0, true, true, false, none, none, some 5, 3, true, none, none⟩), (7, ⟨0, true, true, false, none, none, some 5, 3, false, none, none⟩)] } })))))),
      by decide +kernel⟩
  · exact ⟨0, 7, true, safCopyWrite (setB Reg.SAF_STAT Reg.SAF_STAT_PATHA true (setB Reg.SAF_STAT Reg.SAF_STAT_PATHB
      true (setBitAt Reg.SAF_CFG 0 true (st0)))), by decide +kernel⟩
  · exact ⟨1, 7, true, safCopyWrite (setF (Reg.SAF_PCFG 7) Reg.SAF_PCFG_FUNC 1 (setB Reg.SAF_STAT Reg.SAF_STAT_PATHA
      true (setB Reg.SAF_STAT Reg.SAF_STAT_PATHB true (setBitAt Reg.SAF_CFG 0 true
      ({ st0 with saf := { SafSt.reset with tpLow := 2 } }))))), by decide +kernel⟩
  · exact ⟨1, 7, true, 16000000000, safCopyWrite (setF (Reg.SAF_PCFG 7) Reg.SAF_PCFG_FUNC 1 (wr Reg.SAF_TP 0x1400000
      (setB Reg.SAF_STAT Reg.SAF_STAT_PATHA true (setB Reg.SAF_STAT Reg.SAF_STAT_PATHB true (setBitAt Reg.SAF_CFG 0
      true ({ st0 with saf := { SafSt.reset with tpEnd := [(1, 16000000000)] } })))))), by decide +kernel⟩
  · exact ⟨0, 7, true, safCopyWrite (setF (Reg.SAF_PTIME 7) Reg.SAF_PTIME_TFILT 1 (setF (Reg.SAF_PCFG 7)
      Reg.SAF_PCFG_FUNC 1 (setB Reg.SAF_STAT Reg.SAF_STAT_PATHA true (setB Reg.SAF_STAT Reg.SAF_STAT_PATHB true
      (setBitAt Reg.SAF_CFG 0 true
      ({ st0 with saf := { SafSt.reset with pairs := [(7, { SafPair.reset with atB := some 16000000000 })] } })))))),
      by decide +kernel⟩
  · exact ⟨0, 7, true, safCopyWrite (setF (Reg.SAF_PCFG 7) Reg.SAF_PCFG_FUNC 1 (setB Reg.SAF_STAT Reg.SAF_STAT_PATHA
      true (setB Reg.SAF_STAT Reg.SAF_STAT_PATHB true (setBitAt Reg.SAF_CFG 0 true
      ({ st0 with saf := { SafSt.reset with pairs := [(7, ⟨1, true, false, true, none, none, none, 3, false, none, none⟩)] } }))))),
      by decide +kernel⟩
  · exact ⟨0, 7, true, safCopyWrite (setF (Reg.SAF_PCFG 7) Reg.SAF_PCFG_FUNC 1 (setB Reg.SAF_STAT Reg.SAF_STAT_PATHA
      true (setB Reg.SAF_STAT Reg.SAF_STAT_PATHB true (setBitAt Reg.SAF_CFG 0 true
      ({ st0 with saf := { SafSt.reset with pairs := [(7, ⟨1, true, false, false, none, none, none, 3, false, none, none⟩)] } }))))),
      by decide +kernel⟩
  · exact ⟨0, 6, true, 12000000000, safCopyWrite (setF (Reg.SAF_PCFG 7) Reg.SAF_PCFG_FUNC 4 (setF (Reg.SAF_PCFG 6)
      Reg.SAF_PCFG_FUNC 4 (setB Reg.SAF_STAT Reg.SAF_STAT_ARMED true (setB Reg.SAF_STAT Reg.SAF_STAT_PATHA true (setB
      Reg.SAF_STAT Reg.SAF_STAT_PATHB true (setBitAt Reg.SAF_CFG 0 true
      ({ st0 with saf := { SafSt.reset with pairs := [(6, ⟨0, true, false, false, none, none, none, 3, false, none, none⟩), (7, ⟨0, true, true, false, none, none, some 12000000000, 3, false, none, none⟩)] } }))))))),
      by decide +kernel⟩
  · exact ⟨0, 6, true, 11999999999, safCopyWrite (setF (Reg.SAF_PCFG 7) Reg.SAF_PCFG_FUNC 4 (setF (Reg.SAF_PCFG 6)
      Reg.SAF_PCFG_FUNC 4 (setB Reg.SAF_STAT Reg.SAF_STAT_ARMED true (setB Reg.SAF_STAT Reg.SAF_STAT_PATHA true (setB
      Reg.SAF_STAT Reg.SAF_STAT_PATHB true (setBitAt Reg.SAF_CFG 0 true
      ({ st0 with saf := { SafSt.reset with pairs := [(6, ⟨0, true, false, false, none, none, none, 3, false, none, none⟩), (7, ⟨0, true, true, false, none, none, some 11999999999, 3, false, none, none⟩)] } }))))))),
      by decide +kernel⟩
  · exact ⟨1, 7, 0, safCopyWrite (setF (Reg.SAF_PCFG 7) Reg.SAF_PCFG_FUNC 1 (setB Reg.SAF_STAT Reg.SAF_STAT_PATHA true
      (setB Reg.SAF_STAT Reg.SAF_STAT_PATHB true (setBitAt Reg.SAF_CFG 0 true
      ({ st0 with saf := { SafSt.reset with pairs := [(15, ⟨1, false, true, false, some 0, none, none, 3, false, none, none⟩)] } }))))),
      by decide +kernel⟩
  · exact ⟨1, 7, 16000000000, safCopyWrite (setF (Reg.SAF_PTIME 7) Reg.SAF_PTIME_TDISC 1 (setB Reg.SAF_STAT
      Reg.SAF_STAT_PATHA true (setB Reg.SAF_STAT Reg.SAF_STAT_PATHB true (setBitAt Reg.SAF_CFG 0 true
      ({ st0 with saf := { SafSt.reset with pairs := [(15, ⟨1, false, true, false, some 16000000000, none, none, 3, false, none, none⟩)] } }))))),
      by decide +kernel⟩
  · exact ⟨1, 7, 0, safCopyWrite (setF (Reg.SAF_PCFG 7) Reg.SAF_PCFG_FUNC 2 (setB Reg.SAF_STAT Reg.SAF_STAT_PATHA true
      (setB Reg.SAF_STAT Reg.SAF_STAT_PATHB true (setBitAt Reg.SAF_CFG 0 true
      ({ st0 with saf := { SafSt.reset with pairs := [(15, ⟨1, false, true, false, none, some 0, none, 3, false, none, none⟩)] } }))))),
      by decide +kernel⟩
  · exact ⟨1, 7, 0, safCopyWrite (setF (Reg.SAF_PCFG 7) Reg.SAF_PCFG_FUNC 2 (setB Reg.SAF_STAT Reg.SAF_STAT_ARMED true
      (setB Reg.SAF_STAT Reg.SAF_STAT_PATHA true (setB Reg.SAF_STAT Reg.SAF_STAT_PATHB true (setBitAt Reg.SAF_CFG 0
      true
      ({ st0 with saf := { SafSt.reset with pairs := [(15, ⟨0, true, true, false, none, some 0, none, 3, false, none, none⟩)] } })))))),
      by decide +kernel⟩
  · exact ⟨1, 7, safCopyWrite (setB Reg.SAF_STAT Reg.SAF_STAT_PATHA true (setB Reg.SAF_STAT Reg.SAF_STAT_PATHB true
      (setBitAt Reg.SAF_CFG 0 true (st0)))), by decide +kernel⟩
  · exact ⟨0, safCopyWrite (setB Reg.SAF_STAT Reg.SAF_STAT_PATHA true (setB Reg.SAF_STAT Reg.SAF_STAT_PATHB true
      (setBitAt Reg.SAF_CFG 0 true (st0)))), by decide +kernel⟩
  · exact ⟨0, 15992000000, safCopyWrite (wr Reg.SAF_TP 1 (setB Reg.SAF_STAT Reg.SAF_STAT_PATHA true (setB Reg.SAF_STAT
      Reg.SAF_STAT_PATHB true (setBitAt Reg.SAF_CFG 0 true
      ({ st0 with saf := { SafSt.reset with tpAt := [(0, 15992000000)] } }))))), by decide +kernel⟩
  · exact ⟨1, 15996000000, 15999999999, safCopyWrite (wr Reg.SAF_TP 1 (setB Reg.SAF_STAT Reg.SAF_STAT_PATHA true (setB
      Reg.SAF_STAT Reg.SAF_STAT_PATHB true (setBitAt Reg.SAF_CFG 0 true
      ({ st0 with saf := { SafSt.reset with tpAt := [(0, 15996000000), (1, 15999999999)] } }))))), by decide +kernel⟩
  · exact ⟨1, 15996000000, safCopyWrite (wr Reg.SAF_TP 1 (setB Reg.SAF_STAT Reg.SAF_STAT_PATHA true (setB Reg.SAF_STAT
      Reg.SAF_STAT_PATHB true (setBitAt Reg.SAF_CFG 0 true
      ({ st0 with saf := { SafSt.reset with tpAt := [(0, 15996000000)] } }))))), by decide +kernel⟩
  · exact ⟨1, safCopyWrite (setB Reg.SAF_STAT Reg.SAF_STAT_PATHA true (setB Reg.SAF_STAT Reg.SAF_STAT_PATHB true
      (setBitAt Reg.SAF_CFG 0 true ({ st0 with saf := { SafSt.reset with tpLow := 2 } })))), by decide +kernel⟩
  · exact ⟨1, 7, safCopyWrite (setF (Reg.SAF_PCFG 7) Reg.SAF_PCFG_FUNC 1 (setB Reg.SAF_STAT Reg.SAF_STAT_PATHA true
      (setB Reg.SAF_STAT Reg.SAF_STAT_PATHB true (setBitAt Reg.SAF_CFG 0 true
      ({ st0 with saf := { SafSt.reset with tpLow := 2, pairs := [(7, ⟨0, true, true, false, none, none, none, 3, false, none, none⟩)] } }))))),
      by decide +kernel⟩
  · exact ⟨1, 7, 0x80, safCopyWrite (setF (Reg.SAF_PCFG 7) Reg.SAF_PCFG_FUNC 1 (setB Reg.SAF_STAT Reg.SAF_STAT_PATHA
      true (setB Reg.SAF_STAT Reg.SAF_STAT_PATHB true (setBitAt Reg.SAF_CFG 0 true
      ({ st0 with saf := { SafSt.reset with tpLow := 2, pairs := [(7, ⟨0, true, true, false, none, none, none, 3, false, none, none⟩)] } }))))),
      by decide +kernel⟩

/-- What the clauses of SafetyChannelsAndReset ask of a command and a state is met. -/
theorem test_meets_SafetyChannelsAndReset :
    (∃ (ch : Fin 2) (s : State), safOn s = true ∧ wordDue ch s = true ∧ s.saf.hbOut.testBit (1 - ch.val) ≠
        s.saf.hbIn.testBit ch ∧ stateWord 0 s = stateWord 1 s)
    ∧ (∃ (ch : Fin 2) (s : State), safOn s = true ∧ wordDue ch s = true ∧ s.saf.hbOut.testBit (1 - ch.val) ≠
        s.saf.hbIn.testBit ch ∧ stateWord 0 s ≠ stateWord 1 s ∧ Tbl.get 0 s.saf.mis ch < 8)
    ∧ (∃ (ch : Fin 2) (s : State), safOn s = true ∧ lockedOut s = false ∧ wordDue ch s = true ∧ stateWord 0 s ≠
        stateWord 1 s ∧ Tbl.get 0 s.saf.mis ch = 8)
    ∧ (∃ (ch : Fin 2) (s : State), wordDue ch s = false)
    ∧ (∃ (ch : Fin 2) (s : State), safOn s = true ∧ lockedOut s = false ∧ s.saf.beatBad.testBit ch = false ∧ elapsed ch
        (max s.cc (Tbl.get s.cc s.saf.beat ch)) (100 * us) s = true)
    ∧ (∃ (ch : Fin 2) (s : State), elapsed ch (max s.cc (Tbl.get s.cc s.saf.beat ch)) (100 * us) s = false)
    ∧ (∃ (ch : Fin 2) (ppm : BitVec 32) (s : State), safOn s = true ∧ lockedOut s = false ∧ elapsed ch (Tbl.get s.cc
        s.saf.clkAt ch) ms s = true ∧ 100000 < ppm.toInt.natAbs)
    ∧ (∃ (ch : Fin 2) (ppm : BitVec 32) (s : State), safOn s = true ∧ elapsed ch (Tbl.get s.cc s.saf.clkAt ch) ms s
        = true ∧ ppm.toInt.natAbs ≤ 100000)
    ∧ (∃ (d : Nat) (s : State), safOn s = true ∧ lockedOut s = false ∧ s.saf.fbPend = some d ∧ elapsed 1 d (tfbEu s) s
        = true ∧ fbRight s = false)
    ∧ (∃ (d : Nat) (s : State), safOn s = true ∧ s.saf.fbPend = some d ∧ elapsed 1 d (tfbEu s) s = true ∧ fbRight s
        = true ∧ on Reg.SAF_STAT Reg.SAF_STAT_PATHB s = true)
    ∧ (∃ (d : Nat) (s : State), safOn s = true ∧ s.saf.fbPend = some d ∧ elapsed 1 d (tfbEu s) s = true ∧ fbRight s
        = true ∧ on Reg.SAF_STAT Reg.SAF_STAT_PATHB s = false)
    ∧ (∃ (d : Nat) (s : State), safOn s = true ∧ lockedOut s = false ∧ s.saf.fbDis = some d ∧ elapsed 1 d ms s = true)
    ∧ (∃ (d : Nat) (s : State), s.saf.fbDis = some d ∧ elapsed 1 d ms s = false)
    ∧ (∃ (h : Nat) (d : Nat) (s : State), safOn s = true ∧ h = min 0xFFFF ((s.lt - s.saf.proofAt) / (3600000 * ms)) ∧ d
        = rd Reg.SAF_PB s / 2 ^ 8 % 2 ^ 16 ∧ d ≠ 0 ∧ d ≤ h ∧ on Reg.SAF_STAT Reg.SAF_STAT_PROOFDUE s = false)
    ∧ (∃ (pa : BitVec 32) (pb : BitVec 32) (s : State), safOn s = true ∧ 100000 ≤ pa.toNat ∧ pa.toNat ≤ 2000000
        ∧ 100000 ≤ pb.toNat ∧ pb.toNat ≤ 2000000 ∧ resetOk 0 s = true ∧ resetOk 1 s = true)
    ∧ (∃ (pa : BitVec 32) (pb : BitVec 32) (s : State), safOn s = true ∧ 100000 ≤ pa.toNat ∧ pa.toNat ≤ 2000000
        ∧ (resetOk 0 s = false ∨ resetOk 1 s = false ∨ pb.toNat < 100000 ∨ 2000000 < pb.toNat))
    ∧ (∃ (pa : BitVec 32) (pb : BitVec 32), (pa.toNat < 100000 ∨ 2000000 < pa.toNat) ∧ (pb.toNat < 100000 ∨ 2000000
        < pb.toNat))
    ∧ (∃ (a : Nat) (s : State), s.saf.armAt = some a ∧ safOn s = true ∧ armed s = false ∧ lockedOut s = false
        ∧ copiesSame s = true ∧ s.saf.armLow.isSome = true ∧ (∀ n : Fin 8, safStop n s = true → armReady n s = true))
    ∧ (∃ (a : Nat) (s : State), s.saf.armAt = some a ∧ safOn s = true ∧ armed s = false ∧ lockedOut s = false)
    ∧ (∃ (a : Nat) (u : Nat) (n : Fin 8) (s : State), s.saf.armAt = some a ∧ s.saf.armLow = some u ∧ copiesSame s
        = true ∧ safStop n s = true ∧ armReady n s = false ∧ s.lt < u + tpperEu s)
    ∧ (∃ (a : Nat) (u : Nat) (n : Fin 8) (s : State), s.saf.armAt = some a ∧ safOn s = true ∧ armed s = false
        ∧ lockedOut s = false ∧ copiesSame s = true ∧ s.saf.armLow = some u ∧ u + tpperEu s ≤ s.lt ∧ safStop n s = true
        ∧ bothClosed (pairOf 0 n s) = false ∧ (∀ m : Fin 8, safStop m s = true → armReady m s = true ∨ bothClosed
        (pairOf 0 m s) = false ∨ bothClosed (pairOf 1 m s) = false))
    ∧ (∃ (a : Nat) (s : State), s.saf.armAt = some a ∧ safOn s = true ∧ armed s = false ∧ lockedOut s = false
        ∧ copiesSame s = true ∧ s.saf.armLow = none ∧ elapsed 1 a (tfbEu s) s = true)
    ∧ (∃ (s : State), safOn s = true ∧ on Reg.SAF_STAT Reg.SAF_STAT_PATHA s = false ∧ s.saf.offAt + 10 * us ≤ s.lt)
    ∧ (∃ (s : State), on Reg.SAF_STAT Reg.SAF_STAT_PATHA s = true)
    ∧ (∃ (second : Bool) (d : Nat) (s : State), safOn s = true ∧ s.saf.fbPend = some d ∧ on Reg.SAF_STAT
        Reg.SAF_STAT_PATHB s = false ∧ (on Reg.SAF_STAT (if second then Reg.SAF_STAT_FBA else Reg.SAF_STAT_FBB) s
        = false))
    ∧ (∃ (level : Bool) (s : State), safOn s = true ∧ s.saf.fbPend = none ∧ s.saf.armAt = none ∧ level ≠ on
        Reg.SAF_STAT Reg.SAF_STAT_PATHB s)
    ∧ (∃ (i : JtagInstr) (s : State), s.jtag.held = false ∧ (jtagDrives i = true → testMode s = true ∧ armed s
        = false))
    ∧ (∃ (i : JtagInstr) (s : State), (s.jtag.held = true ∨ jtagDrives i = true ∧ (testMode s = false ∨ armed s
        = true))) := by
  refine ⟨?_, ?_, ?_, ?_, ?_, ?_, ?_, ?_, ?_, ?_, ?_, ?_, ?_, ?_, ?_, ?_, ?_, ?_, ?_, ?_, ?_, ?_, ?_, ?_, ?_, ?_, ?_, ?_⟩
  · exact ⟨1, safCopyWrite (setB Reg.SAF_STAT Reg.SAF_STAT_PATHA true (setB Reg.SAF_STAT Reg.SAF_STAT_PATHB true
      (setBitAt Reg.SAF_CFG 0 true ({ st0 with saf := { SafSt.reset with mis := [(1, 8)] } })))), by decide +kernel⟩
  · exact ⟨1, safCopyWrite (setF (Reg.SAF_PCFG 7) Reg.SAF_PCFG_FUNC 1 (setB Reg.SAF_STAT Reg.SAF_STAT_PATHA true (setB
      Reg.SAF_STAT Reg.SAF_STAT_PATHB true (setBitAt Reg.SAF_CFG 0 true
      ({ st0 with saf := { SafSt.reset with mis := [(1, 7)], pairs := [(15, ⟨1, false, true, false, none, none, none, 3, false, none, none⟩)] } }))))),
      by decide +kernel⟩
  · exact ⟨1, safCopyWrite (setF (Reg.SAF_PCFG 7) Reg.SAF_PCFG_FUNC 1 (setB Reg.SAF_STAT Reg.SAF_STAT_PATHA true (setB
      Reg.SAF_STAT Reg.SAF_STAT_PATHB true (setBitAt Reg.SAF_CFG 0 true
      ({ st0 with saf := { SafSt.reset with mis := [(1, 8)], pairs := [(15, ⟨1, false, true, false, none, none, none, 3, false, none, none⟩)] } }))))),
      by decide +kernel⟩
  · exact ⟨1, safCopyWrite (setB Reg.SAF_STAT Reg.SAF_STAT_PATHA true (setB Reg.SAF_STAT Reg.SAF_STAT_PATHB true
      (setBitAt Reg.SAF_CFG 0 true ({ st0 with saf := { SafSt.reset with wordAt := [(1, 16000000000)] } })))), by
      decide +kernel⟩
  · exact ⟨1, safCopyWrite (setB Reg.SAF_STAT Reg.SAF_STAT_PATHA true (setB Reg.SAF_STAT Reg.SAF_STAT_PATHB true
      (setBitAt Reg.SAF_CFG 0 true (st0)))), by decide +kernel⟩
  · exact ⟨1, safCopyWrite (setB Reg.SAF_STAT Reg.SAF_STAT_PATHA true (setB Reg.SAF_STAT Reg.SAF_STAT_PATHB true
      (setBitAt Reg.SAF_CFG 0 true ({ st0 with saf := { SafSt.reset with beat := [(1, 15999999999)] } })))), by
      decide +kernel⟩
  · exact ⟨1, 0xFFFE795F, safCopyWrite (setB Reg.SAF_STAT Reg.SAF_STAT_PATHA true (setB Reg.SAF_STAT Reg.SAF_STAT_PATHB
      true (setBitAt Reg.SAF_CFG 0 true (st0)))), by decide +kernel⟩
  · exact ⟨1, 0xFFFE7960, safCopyWrite (setB Reg.SAF_STAT Reg.SAF_STAT_PATHA true (setB Reg.SAF_STAT Reg.SAF_STAT_PATHB
      true (setBitAt Reg.SAF_CFG 0 true ({ st0 with saf := { SafSt.reset with clkBad := 3 } })))), by decide +kernel⟩
  · exact ⟨0, safCopyWrite (setB Reg.SAF_STAT Reg.SAF_STAT_PATHA true (setB Reg.SAF_STAT Reg.SAF_STAT_PATHB true
      (setBitAt Reg.SAF_CFG 0 true ({ st0 with saf := { SafSt.reset with fbPend := some 0 } })))), by decide +kernel⟩
  · exact ⟨0, safCopyWrite (setB Reg.SAF_STAT Reg.SAF_STAT_FBA true (setB Reg.SAF_STAT Reg.SAF_STAT_FBB true (setB
      Reg.SAF_STAT Reg.SAF_STAT_PATHA true (setB Reg.SAF_STAT Reg.SAF_STAT_PATHB true (setBitAt Reg.SAF_CFG 0 true
      ({ st0 with saf := { SafSt.reset with fbPend := some 0 } })))))), by decide +kernel⟩
  · exact ⟨0, safCopyWrite (setBitAt Reg.SAF_CFG 0 true ({ st0 with saf := { SafSt.reset with fbPend := some 0 } })),
      by decide +kernel⟩
  · exact ⟨0, safCopyWrite (setB Reg.SAF_STAT Reg.SAF_STAT_PATHA true (setB Reg.SAF_STAT Reg.SAF_STAT_PATHB true
      (setBitAt Reg.SAF_CFG 0 true ({ st0 with saf := { SafSt.reset with fbDis := some 0 } })))), by decide +kernel⟩
  · exact ⟨16000000000, safCopyWrite (setB Reg.SAF_STAT Reg.SAF_STAT_PATHA true (setB Reg.SAF_STAT Reg.SAF_STAT_PATHB
      true (setBitAt Reg.SAF_CFG 0 true ({ st0 with saf := { SafSt.reset with fbDis := some 16000000000 } })))), by
      decide +kernel⟩
  · exact ⟨1, 1, wr Reg.SAF_PB 0x100 (setBitAt Reg.SAF_CFG 0 true { st0 with lt := 30000000000000 }), by decide +kernel⟩
  · exact ⟨100000, 2000000, safCopyWrite (setF (Reg.SAF_PCFG 7) Reg.SAF_PCFG_FUNC 1 (setB Reg.SAF_STAT
      Reg.SAF_STAT_ARMED true (setB Reg.SAF_STAT Reg.SAF_STAT_LOCKOUT true (setBitAt Reg.SAF_CFG 0 true
      ({ st0 with saf := { SafSt.reset with pass := 0xFFFF, pairs := [(7, ⟨2, true, true, false, none, none, none, 3, false, none, none⟩), (15, ⟨2, true, true, false, none, none, none, 3, false, none, none⟩)] } }))))),
      by decide +kernel⟩
  · exact ⟨100000, 99999, safCopyWrite (setB Reg.SAF_STAT Reg.SAF_STAT_LOCKOUT true (setB Reg.SAF_STAT
      Reg.SAF_STAT_PATHA true (setB Reg.SAF_STAT Reg.SAF_STAT_PATHB true (setBitAt Reg.SAF_CFG 0 true (st0))))), by
      decide +kernel⟩
  · exact ⟨99999, 2000001, by decide +kernel⟩
  · exact ⟨0, safCopyWrite (setF (Reg.SAF_PCFG 7) Reg.SAF_PCFG_FUNC 1 (setBitAt Reg.SAF_CFG 0 true
      ({ st0 with saf := { SafSt.reset with armAt := some 0, armLow := some 0, pass := 0xFFFF, pairs := [(7, ⟨3, true, true, false, none, none, none, 3, false, none, none⟩), (15, ⟨3, true, true, false, none, none, none, 3, false, none, none⟩)] } }))),
      by decide +kernel⟩
  · exact ⟨0, safCopyWrite (setBitAt Reg.SAF_CFG 0 true ({ st0 with saf := { SafSt.reset with armAt := some 0 } })), by
      decide +kernel⟩
  · exact ⟨15999999999, 16000000000, 7, safCopyWrite (setF (Reg.SAF_PCFG 7) Reg.SAF_PCFG_FUNC 1 (wr Reg.SAF_TP 1
      (setBitAt Reg.SAF_CFG 0 true
      ({ st0 with saf := { SafSt.reset with armAt := some 15999999999, armLow := some 16000000000 } })))), by
      decide +kernel⟩
  · exact ⟨15991999999, 15992000000, 7, safCopyWrite (setF (Reg.SAF_PCFG 7) Reg.SAF_PCFG_FUNC 1 (wr Reg.SAF_TP 1
      (setBitAt Reg.SAF_CFG 0 true
      ({ st0 with saf := { SafSt.reset with armAt := some 15991999999, armLow := some 15992000000 } })))), by
      decide +kernel⟩
  · exact ⟨0, safCopyWrite (setBitAt Reg.SAF_CFG 0 true ({ st0 with saf := { SafSt.reset with armAt := some 0 } })), by
      decide +kernel⟩
  · exact ⟨safCopyWrite (setBitAt Reg.SAF_CFG 0 true (st0)), by decide +kernel⟩
  · exact ⟨safCopyWrite (setB Reg.SAF_STAT Reg.SAF_STAT_PATHA true (setB Reg.SAF_STAT Reg.SAF_STAT_PATHB true (setBitAt
      Reg.SAF_CFG 0 true (st0)))), by decide +kernel⟩
  · exact ⟨true, 5, safCopyWrite (setBitAt Reg.SAF_CFG 0 true
      ({ st0 with saf := { SafSt.reset with fbPend := some 5 } })), by decide +kernel⟩
  · exact ⟨false, safCopyWrite (setB Reg.SAF_STAT Reg.SAF_STAT_PATHA true (setB Reg.SAF_STAT Reg.SAF_STAT_PATHB true
      (setBitAt Reg.SAF_CFG 0 true (st0)))), by decide +kernel⟩
  · exact ⟨.extest, setB Reg.TMB_STAT Reg.TMB_STAT_TESTMODE true { st0 with jtag := ⟨false, .bypass⟩ }, by
      decide +kernel⟩
  · exact ⟨.extest, { st0 with jtag := ⟨false, .bypass⟩ }, by decide +kernel⟩

/-- What the clauses of TumbleWritesAndArming ask of a command and a state is met. -/
theorem test_meets_TumbleWritesAndArming :
    (∃ (addr : BitVec 32) (value : BitVec 32) (by_ : Fin 19) (s : State), mayStore addr.toNat by_ s = true ∧ tmbMask
        addr.toNat ≠ 0 ∧ testMode s = true ∧ on Reg.SAF_STAT Reg.SAF_STAT_ARMED s = false ∧ (addr.toNat = Reg.TMB_SLICE
        → value.toNat / 2 ^ 5 % 4 ≠ 3))
    ∧ (∃ (addr : BitVec 32) (by_ : Fin 19) (s : State), mayStore addr.toNat by_ s = true ∧ tmbMask addr.toNat ≠ 0
        ∧ (testMode s = false ∨ on Reg.SAF_STAT Reg.SAF_STAT_ARMED s = true))
    ∧ (∃ (addr : BitVec 32) (value : BitVec 32) (by_ : Fin 19) (s : State), mayStore addr.toNat by_ s = true
        ∧ addr.toNat = Reg.TMB_SLICE ∧ value.toNat / 2 ^ 5 % 4 = 3)
    ∧ (∃ (s : State), armed s = false) := by
  refine ⟨?_, ?_, ?_, ?_⟩
  · exact ⟨0x40140000, 0xFFFFFFFF, 18, setB Reg.TMB_STAT Reg.TMB_STAT_TESTMODE true st0, by decide +kernel⟩
  · exact ⟨0x40140018, 0, st0, by decide +kernel⟩
  · exact ⟨0x40140014, 0x60, 0, setB Reg.TMB_STAT Reg.TMB_STAT_TESTMODE true st0, by decide +kernel⟩
  · exact
      ⟨{ setBitAt Reg.SAF_CFG 0 true (setB Reg.TMB_STAT Reg.TMB_STAT_TESTMODE true st0) with saf := { SafSt.reset with armAt := some 0 } },
      by decide +kernel⟩

/-! Statements that are no list of clauses. -/

theorem test_meets_StepRunsFront :
    ∃ (c : Instr) (rest : List Instr) (s : State), s.pending = c :: rest :=
  ⟨.porstPulse, [.powerGood], { State.reset with pending := [.porstPulse, .powerGood] }, rfl⟩

theorem test_meets_StepIdles :
    (∃ s : State, s.pending = [] ∧ s.ltRun = false) ∧ (∃ s : State, s.pending = [] ∧ s.ltRun = true) :=
  ⟨⟨State.reset, rfl, rfl⟩, ⟨st0, rfl, rfl⟩⟩

theorem test_meets_ExecKeepsQueue : ∃ (c : Instr) (s t : State), exec c s = .next t :=
  ⟨.tripClear 7 false, st0, _, rfl⟩

theorem test_meets_StepKeepsForms : ∃ s t : State, Inv s ∧ step s = .next t :=
  ⟨{ st0 with pending := [.tripClear 7 false], mem := [(0x200000, 1#8)] }, _, ⟨by decide, by decide⟩, rfl⟩

theorem test_meets_FusesStayBurned :
    ∃ s t : State, step s = .next t ∧ s.nv.revoked.testBit 3 = true ∧ s.nv.testlock = true :=
  ⟨{ st0 with pending := [.tripClear 7 false], nv := { NvSt.reset with revoked := 8, testlock := true } }, _, rfl, rfl, rfl⟩

theorem test_meets_SentStaysSent : ∃ s t : State, step s = .next t :=
  ⟨{ st0 with pending := [.tripClear 7 false], out := [.off 3 15] }, _, rfl⟩

theorem test_meets_DuePointsOfLtSlots :
    (∃ (x : Slot) (p : Nat), slLt x = true ∧ slOne x = false ∧ p = 16 * slPeriod x ∧ 0 < p)
    ∧ (∃ x : Slot, slLt x = true ∧ slOne x = true)
    ∧ (∃ (k d : Nat) (s : State), Tbl.get none s.tack.due k = some d)
    ∧ (∃ x : Slot, slLt x = true ∧ slOne x = false ∧ 16 * slPeriod x ≤ slPhase x) :=
  ⟨⟨⟨0x301, 0, 0, 0, 8, 0, 0⟩, 128, by decide +kernel⟩, ⟨⟨0x111, 0, 9, 0, 8, 0, 0⟩, by decide +kernel⟩,
    ⟨7, 16000000000, fireSt 7 actDrum 0 0 st0, by decide +kernel⟩, ⟨⟨0x301, 0, 128, 0, 8, 0, 0⟩, by decide +kernel⟩⟩

/-- A unit of a pair in a role, 4 ACTIVE, 2 STANDBY. -/
def pairSt (r : Nat) : State := setB Reg.PAR_CFG Reg.PAR_CFG_EN true (setF Reg.PAR_STAT Reg.PAR_STAT_ROLE r st0)

theorem test_meets_GradeFourOfAnyDevice :
    (∃ s : State, paired s = false)
    ∧ (∃ s : State, paired s = true ∧ roleOf s = roleActive ∧ on Reg.PAR_STAT Reg.PAR_STAT_PHEALTHY s = false)
    ∧ (∃ (s : State) (p : Nat), paired s = true ∧ roleOf s = roleActive ∧ p < 4 ∧ spanRole p s = 1)
    ∧ (∃ s : State, paired s = true ∧ roleOf s ≠ roleActive)
    ∧ (∃ s : State, s.configured = true ∧ halted s = false) :=
  ⟨⟨st0, by decide +kernel⟩, ⟨pairSt 4, by decide +kernel⟩, ⟨wr (Reg.SPN_PCFG 3) 1 (pairSt 4), 3, by decide +kernel⟩,
    ⟨pairSt 2, by decide +kernel⟩, ⟨st0, by decide +kernel⟩⟩

theorem test_meets_ReactionsSurviveLostRecords :
    (∃ s : State, paired s = false)
    ∧ (∃ (v : BitVec 32) (b : Fin 19) (s : State), mayStore Reg.EVT_RIDX b s = true
      ∧ ringSize s < (rd Reg.EVT_WIDX s + 2 ^ 32 - v.toNat) % 2 ^ 32)
    ∧ (∃ (v : BitVec 32) (b : Fin 19) (s : State), mayStore Reg.EVT_RIDX b s = true
      ∧ (rd Reg.EVT_WIDX s + 2 ^ 32 - v.toNat) % 2 ^ 32 ≤ ringSize s) :=
  ⟨⟨st0, by decide +kernel⟩, ⟨1, 0, st0, by decide +kernel⟩, ⟨0xFFFFFFFF, 0, st0, by decide +kernel⟩⟩

/-! Well-formed operands: one term for each check that it refuses. -/

theorem test_wf_register_address : (Instr.registerWrite 0x40000002 0 0).wf = false := by decide
theorem test_wf_pair_address : (Instr.pwValueWordWrite 0x400D0011 0 0).wf = false := by decide
theorem test_wf_task_stores : (Instr.taskEnd 3 [(0x400D0010, 1), (0x400D0013, 1)]).wf = false := by decide
theorem test_wf_entry_deliveries : (Instr.entryDelivery 0 (List.replicate 6 0)).wf = false := by decide
theorem test_wf_dac_checks : (Instr.dacCheck (List.replicate 97 (0, true, 0, 0))).wf = false := by decide
theorem test_wf_empty_image : (Instr.imageStreamComplete [] true).wf = false := by decide
theorem test_wf_span_payload : (Instr.dataFrameReceive 0 ⟨0, 0⟩ 0 0 0 0 0 0 (List.replicate 1489 0)).wf = false := by decide +kernel
theorem test_wf_accepts :
    (Instr.registerWrite 0x40000004 0 0).wf = true ∧ (Instr.dacCheck (List.replicate 96 (0, true, 0, 0))).wf = true := by
  decide

/-! Worked examples and figures of the manual, and one step of each. -/

/-- The state after a command. -/
def after (c : Instr) (s : State) : State := match exec c s with
  | .next t => t
  | _ => s

/-- R212: the missed-edge counter of LL1. -/
theorem test_counter_identity : ctrId 6 1 2 = 0x300A := by decide

/-- R364 to R367, worked example: MSG 0x1 with VALUE 0x0200 from POS 0 is the frame 0xF9A8_0102_0041. -/
theorem test_mains_code_frame :
    crc8 [1] = 7 ∧ crc8 [1, 2] = 0x1B ∧ mcSync * 2 ^ 32 + 0x01 * 2 ^ 24 + 0x0200 * 2 ^ 8 + crc8 [1, 2, 0] = 0xF9A801020041 := by
  decide +kernel

/-- R416, worked example: 320,000 eu behind, the profile term is -20 ppm. -/
theorem test_profile_term : profileTerm (-320000) (wr Reg.CLK_SLEW (50 + 20 * 2 ^ 10 + 8 * 2 ^ 16 + 64 * 2 ^ 24) st0) = -1374390 := by
  decide +kernel

/-- R182, R183, worked example: four exchanges of KC30 LL0 give d_fwd 572 eu and d_rev 556 eu. -/
theorem test_link_calibration :
    let s := judgeCal 0 (wr (Reg.LLK_ASYM 0) 16 (wr (Reg.LLK_DMAX 0) 800
      (setLnk 0 { lnkOf 0 st0 with rtts := [1126, 1128, 1129, 1127], need := 4 } st0)))
    (lnkOf 0 s).cand = some (572, 556) ∧ rd (Reg.LLK_SPREAD 0) s = 3 := by
  decide +kernel

/-- R405: with TPW 400 µs, TPSET 100 µs and TFILT 5, T_B is 655 µs. -/
theorem test_response_time :
    rd (Reg.SAF_PRESP 3) (safetyComputed (setF (Reg.SAF_PCFG 3) Reg.SAF_PCFG_FUNC 1 (setF (Reg.SAF_PTIME 3) Reg.SAF_PTIME_TFILT 5
      (wr Reg.SAF_TP (100 + 400 * 2 ^ 10 + 100 * 2 ^ 20) st0)))) % 2 ^ 12 = 655 := by
  decide +kernel

/-- R384, R386, worked example: from epoch 7 and the copied SEQ 12,345 the takeover has epoch 8 and EV123 with SEQ 77,881. -/
theorem test_takeover_record :
    let s := takeover { pairSt 2 with par := { ParSt.reset with copyEpoch := some 7, evSeq := 12345 } }
    rd Reg.PAR_EPOCH s = 8 ∧ s.evt.queue.any (fun r => r.source == 123 && r.seq == 77881 && r.detail == 8) = true := by
  decide +kernel

/-- R16: an AT across the wrap has been reached. -/
theorem test_at_reached : atReached 5 (2 ^ 64 - 5) = true ∧ atReached (2 ^ 64 - 5) 5 = false := by decide

/-- R119: with N = 3 the due points are the fractions floor(k 2^32 / 3) from PHASE. -/
theorem test_due_points_of_a_cycle :
    slotDueFrom ⟨0x301 + 8, 0, 100, 0, 2, 0, 0⟩ 101 = some (100 + 2 ^ 32 / 3) := by decide +kernel

/-- R309: the byte after the end of a circular buffer of 4 KiB is its first. -/
theorem test_wrap : wrapAddr 0x00210E10 12 0x1F0 = 0x00210000 ∧ wrapAddr 0x00210E10 12 0 = 0x00210E10 := by decide

/-- The CRC-32 of IEEE 802.3 over the digits 1 to 9 (its published check value), and SHA-256 of `abc` (FIPS 180-4). -/
theorem test_crc32 : crc32 [49, 50, 51, 52, 53, 54, 55, 56, 57] = 0xCBF43926 := by decide +kernel
theorem test_sha256 : (sha256 [97, 98, 99]).take 4 = [0xBA, 0x78, 0x16, 0xBF] := by decide +kernel

/-- R394, R395, R398, worked example: SI0A of an ESTOP0 pair opens; channel A is in DEMAND with EV88, and Path A is off. -/
theorem test_emergency_stop :
    let s := after (.safetyInputOpen 0 0 false) (setB Reg.SAF_STAT Reg.SAF_STAT_PATHA true (setBitAt Reg.SAF_CFG 0 true
      (setF (Reg.SAF_PCFG 0) Reg.SAF_PCFG_FUNC 1
        { st0 with saf := { SafSt.reset with pairs := [(0, ⟨0, true, true, false, none, none, none, 3, false, none, none⟩)] } })))
    (pairOf 0 0 s).state = 1 ∧ on Reg.SAF_STAT Reg.SAF_STAT_PATHA s = false ∧ s.evt.queue.map (·.source) = [88] := by
  decide +kernel

/-- A written byte is listed, and no longer when it goes back to what an unlisted address reads as. -/
theorem test_memory :
    (stBytes 0x200000 [7] st0).mem = [(0x200000, 7#8)] ∧ (stBytes 0x200000 [0] (stBytes 0x200000 [7] st0)).mem = [] := by decide +kernel

end

end Sys2Proof.Tests
end

section

namespace Sys2Proof.Machine

/-! Writes of the test port (R295): in test mode it also reaches the memories. -/

theorem exec_registerWrite (addr value : BitVec 32) (by_ : Fin 19) (s : State) :
    exec (.registerWrite addr value by_) s = .next (storeWord addr.toNat value 0 by_ s) := rfl

/-- In test mode, a word of the test port goes to the memory that its address names. -/
theorem storeWord_testPort_memory {a : Nat} (w : Word) (hw : Nat) {s : State} (h : testReaches a s = true) :
    storeWord a w hw 18 s = stN a 4 w.toNat s := by
  simp [storeWord, h]

/-- No address below the register space is a register. -/
theorem rowOf_below_regBase {a : Nat} (h : a < regBase) : rowOf a = none := if_pos h

theorem isPair_below_regBase {a : Nat} (h : a < regBase) : isPair a = false := by
  simp [isPair, rowOf_below_regBase h]

/-- A configured device in test mode, with nothing else written. -/
def testModeState : State := { State.reset with configured := true, regs := [(Reg.TMB_STAT, 1#32)] }

/-- The test port reaches the first word of the data SRAM. -/
theorem testReaches_testModeState : testReaches dataBase testModeState = true := by decide

/-- Refutes O50: its second clause calls every address without a row reserved, where R9 means those inside a register block;
in test mode the test port writes a word of the data SRAM (R295), so the state changes. -/
theorem not_registerWrites : ¬ Obligations.RegisterWrites := by
  rintro ⟨-, reserved, -⟩
  have below : dataBase < regBase := by decide
  have same := reserved 0x200000#32 1#32 18 testModeState (rowOf_below_regBase below)
    (isPair_below_regBase (Nat.lt_of_le_of_lt (Nat.sub_le ..) below))
  have stored : exec (.registerWrite 0x200000#32 1#32 18) testModeState = .next (stN dataBase 4 1 testModeState) := by
    rw [exec_registerWrite]
    exact congrArg _ (storeWord_testPort_memory 1#32 0 testReaches_testModeState)
  rw [stored] at same
  have byte : ldB dataBase (stN dataBase 4 1 testModeState) = ldB dataBase testModeState :=
    congrArg (ldB dataBase) (Host.Outcome.next.inj same)
  exact absurd byte (by decide)

end Sys2Proof.Machine
end

section
/-! SUPPORT. Bits, and the event unit (R202-R215): what accepting a record changes, and that it waits while there is room. -/

namespace Sys2Proof.Machine

/-! Bits of numbers and of register words. -/

theorem testBit_sub_two_pow {n k : Nat} (h : n.testBit k = true) (j : Nat) :
    (n - 2 ^ k).testBit j = (n.testBit j && decide (j ≠ k)) := by
  induction k generalizing n j with
  | zero =>
    have odd : n % 2 = 1 := by simpa [Nat.testBit_zero] using h
    cases j with
    | zero => simp [Nat.testBit_zero]; omega
    | succ j => simp [Nat.testBit_succ, show (n - 1) / 2 = n / 2 by omega]
  | succ k ih =>
    have big := Nat.ge_two_pow_of_testBit h
    rw [Nat.pow_succ] at big ⊢
    cases j with
    | zero => simp [Nat.testBit_zero]; omega
    | succ j =>
      rw [Nat.testBit_succ, Nat.testBit_succ, show (n - 2 ^ k * 2) / 2 = n / 2 - 2 ^ k by omega,
        ih (by rwa [Nat.testBit_succ] at h)]
      simp

/-- A bit after `setBit`. -/
theorem testBit_setBit (n k j : Nat) (b : Bool) : (setBit n k b).testBit j = if j = k then b else n.testBit j := by
  unfold setBit
  split
  · rename_i hb
    subst hb
    by_cases hj : j = k
    · simp [hj]
    · simp [hj, Ne.symm hj]
  · rename_i hb
    have hb : b = false := by simpa using hb
    subst hb
    split
    · rename_i hk
      rw [testBit_sub_two_pow hk]
      by_cases hj : j = k <;> simp [hj]
    · rename_i hk
      by_cases hj : j = k <;> simp_all

theorem fldGet_flag (i : Nat) (w : Word) : fldGet ⟨i, 1⟩ w = (w.getLsbD i).toNat := by
  unfold fldGet BitVec.getLsbD
  rw [Nat.toNat_testBit, BitVec.toNat_and, BitVec.toNat_ushiftRight, Nat.shiftRight_eq_div_pow]
  exact Nat.and_one_is_mod _

/-- A flag reads as its bit of the word. -/
theorem on_flag (a i : Nat) (s : State) : on a ⟨i, 1⟩ s = (rdW a s).getLsbD i := by
  unfold on fl
  rw [fldGet_flag]
  cases (rdW a s).getLsbD i <;> rfl

/-- A bit of a word after a flag of it is written. -/
theorem getLsbD_fldSet_flag (w : Word) (i : Nat) {j : Nat} (hj : j < 32) (b : Bool) :
    (fldSet ⟨i, 1⟩ w (if b then 1 else 0)).getLsbD j = if j = i then b else w.getLsbD j := by
  unfold fldSet
  by_cases he : j = i
  · subst he
    cases b <;> simp [hj]
  · by_cases hi : j < i
    · simp [hj, hi, he]
    · have apart : j - i ≠ 0 := by omega
      cases b <;> simp [hj, hi, he, apart]

/-! Records (R202-R205, R215): what accepting one changes, and that it is kept while there is room. -/

/-- What a record is of: `recs` counts the records that wait of one kind. -/
def recOf (src grade detail : Nat) (stg : Option Nat) (r : EvRec) : Bool :=
  r.source == src && r.grade == grade && r.detail == detail % 2 ^ 16 && r.stgv == stg.isSome && r.stage == stg.getD 0

/-- The records of a kind that wait in the queue, or for an FCLK to be accepted in. -/
def waiting (p : EvRec → Bool) (s : State) : Nat := s.evt.queue.countP p + s.evt.wait.countP p

theorem recs_eq_waiting (src grade detail : Nat) (stg : Option Nat) (s : State) :
    recs src grade detail stg s = waiting (recOf src grade detail stg) s := List.countP_append

theorem insertRec_perm (r : EvRec) : ∀ l : List EvRec, (insertRec r l).Perm (r :: l) := by
  intro l
  induction l with
  | nil => exact .refl _
  | cons q l ih =>
    unfold insertRec
    split
    · exact .refl _
    · exact (ih.cons q).trans (.swap r q l)

/-- A kind of records that no number is part of. -/
def Unnumbered (p : EvRec → Bool) : Prop := ∀ (r : EvRec) (n : Nat), p { r with seq := n } = p r

theorem unnumbered_recOf (src grade detail : Nat) (stg : Option Nat) : Unnumbered (recOf src grade detail stg) :=
  fun _ _ => rfl

/-- Records numbered anew are the same records. -/
theorem countP_renumber {α : Type} {p : EvRec → Bool} (hp : Unnumbered p) (num : α → Nat) :
    ∀ (l : List EvRec) (ns : List α), l.length ≤ ns.length →
      (l.zipWith (fun x n => { x with seq := num n }) ns).countP p = l.countP p := by
  intro l
  induction l with
  | nil => intro _ _; simp
  | cons x l ih =>
    intro ns h
    cases ns with
    | nil => simp at h
    | cons n ns => simp [List.countP_cons, hp x, ih ns (by simpa using h)]

/-- The end of a list that meets a condition, behind the rest of it. -/
theorem take_append_takeWhile_end {α : Type} (p : α → Bool) (l : List α) :
    l.take (l.length - (l.reverse.takeWhile p).reverse.length) ++ (l.reverse.takeWhile p).reverse = l := by
  refine List.suffix_iff_eq_append.1 ?_
  simpa using List.reverse_suffix.2 (List.takeWhile_prefix (l := l.reverse) p)

/-- A record joins the queue, and none leaves it. -/
theorem countP_place {p : EvRec → Bool} (hp : Unnumbered p) (r : EvRec) (q : List EvRec) :
    (place r q).countP p = q.countP p + if p r then 1 else 0 := by
  unfold place
  extract_lets same tail seqs
  have hq : q.take (q.length - tail.length) ++ tail = q := take_append_takeWhile_end same q
  have hlen : (insertRec r tail).length ≤ seqs.length := by
    rw [(insertRec_perm r tail).length_eq]
    simp [seqs]
  rw [List.countP_append, countP_renumber hp (fun n => n) _ _ hlen, (insertRec_perm r tail).countP_eq, List.countP_cons,
    ← Nat.add_assoc, ← List.countP_append, hq]

/-- From `s` to `t` the event unit alone has worked: its registers, its records and counters and the Hamper's pulses may
differ, and no record that waits is gone. -/
structure EventsOnly (s t : State) : Prop where
  frame : t = { s with regs := t.regs, evt := t.evt, hmp := t.hmp }
  regs : regsKept evtRegs s t
  react : t.evt.react = s.evt.react
  waiting : ∀ p, Unnumbered p → waiting p s ≤ waiting p t

namespace EventsOnly

variable {s t u : State}

theorem refl (s : State) : EventsOnly s s := ⟨rfl, fun _ _ => rfl, rfl, fun _ _ => le_rfl⟩

theorem trans (h : EventsOnly s t) (g : EventsOnly t u) : EventsOnly s u :=
  ⟨g.frame.trans (by rw [h.frame]), fun a ha => (g.regs a ha).trans (h.regs a ha), g.react.trans h.react,
    fun p hp => (h.waiting p hp).trans (g.waiting p hp)⟩

theorem recs (h : EventsOnly s t) (src grade detail : Nat) (stg : Option Nat) :
    recs src grade detail stg s ≤ recs src grade detail stg t := by
  rw [recs_eq_waiting, recs_eq_waiting]
  exact h.waiting _ (unnumbered_recOf src grade detail stg)

theorem wrW (h : EventsOnly s t) {a : Nat} (ha : a ∈ evtRegs) {w : Word} : EventsOnly s (wrW a w t) := by
  refine h.trans ⟨rfl, fun b hb => ?_, rfl, fun _ _ => le_rfl⟩
  rw [rdW_wrW, if_neg]
  rintro rfl
  exact hb ha

theorem wr (h : EventsOnly s t) {a : Nat} (ha : a ∈ evtRegs) {n : Nat} : EventsOnly s (wr a n t) := h.wrW ha

theorem setF (h : EventsOnly s t) {a : Nat} (ha : a ∈ evtRegs) {F : Fld} {v : Nat} : EventsOnly s (setF a F v t) :=
  h.wrW ha

theorem setB (h : EventsOnly s t) {a : Nat} (ha : a ∈ evtRegs) {F : Fld} {b : Bool} : EventsOnly s (setB a F b t) :=
  h.wrW ha

theorem hmpPulse (h : EventsOnly s t) {code at_ : Nat} : EventsOnly s (hmpPulse code at_ t) :=
  h.trans ⟨rfl, fun _ _ => rfl, rfl, fun _ _ => le_rfl⟩

/-- The event unit's own state changes, and the records that wait stay. -/
theorem of_evt (h : EventsOnly s t) {e : EvtSt} (hr : e.react = t.evt.react := by rfl)
    (hp : ∀ p, Unnumbered p → Machine.waiting p t ≤ e.queue.countP p + e.wait.countP p := by exact fun _ _ => le_rfl) :
    EventsOnly s { t with evt := e } := h.trans ⟨rfl, fun _ _ => rfl, hr, hp⟩

theorem when (h : EventsOnly s t) {c : Bool} {f : State → State} (hf : ∀ u, EventsOnly s u → EventsOnly s (f u)) :
    EventsOnly s (when c f t) := by
  unfold Machine.when
  split
  · exact hf _ h
  · exact h

theorem flushLoss (h : EventsOnly s t) : EventsOnly s (flushLoss t) := by
  unfold Machine.flushLoss
  split
  · exact h
  · split
    · refine .hmpPulse (.of_evt h (hp := fun p _ => ?_))
      simp only [Machine.waiting, List.countP_append]
      omega
    · exact h

theorem evtShow (h : EventsOnly s t) : EventsOnly s (evtShow t) :=
  have stat : Reg.EVT_STAT ∈ evtRegs := by decide
  ((h.setB stat).setB stat).setF stat

theorem lose (h : EventsOnly s t) : EventsOnly s (lose t) := (h.setF (by decide)).setB (by decide)

/-- A record takes its number and joins the queue, or is lost (R203-R205, R215). -/
theorem number (h : EventsOnly s t) {r : EvRec} : EventsOnly s (number r t) := by
  unfold Machine.number
  extract_lets t1 e1 r' t2
  have h1 : EventsOnly s t1 := h.flushLoss.hmpPulse
  have h2 : EventsOnly s t2 := h1.when (fun _ hu => hu.wr (by decide))
  split
  · exact .evtShow (.lose (.of_evt h1))
  · refine .evtShow ?_
    split
    · refine .of_evt h2 (hp := fun p hp => ?_)
      refine Nat.add_le_add_right ?_ _
      simp only [countP_place hp]
      omega
    · exact .lose (.of_evt h2)

end EventsOnly

/-- Before configuration completion, and among the first four of an FCLK, a detection is numbered at once (R204, R471). -/
theorem accept_unconfigured (r : EvRec) {s : State} (hc : s.configured = false) : accept r s = number r s := by
  unfold accept
  rw [if_pos (by simp [hc])]

theorem accept_now (r : EvRec) {s : State} (hc : s.configured = true) (h4 : accepted s < 4) :
    accept r s = number r { s with evt := { s.evt with acc := (s.lt, accepted s + 1) } } := by
  unfold accept
  rw [if_neg (by simp [hc]), if_pos h4]

/-- A fifth record of an FCLK joins those that wait, and none is gone (R204). -/
theorem waiting_accept_late {p : EvRec → Bool} (hp : Unnumbered p) (r : EvRec) {s : State} (hc : s.configured = true)
    (h4 : ¬ accepted s < 4) : waiting p (accept r s) = waiting p s + if p r then 1 else 0 := by
  unfold accept
  rw [if_neg (by simp [hc]), if_neg h4]
  extract_lets k old all put
  have htail : tailNow s ≤ s.evt.queue.length := by
    simpa [tailNow] using (List.takeWhile_prefix (l := s.evt.queue.reverse) _).length_le
  have hput : put.countP p = (all.take (tailNow s)).countP p := by
    refine countP_renumber hp (fun q : EvRec => q.seq) _ _ ?_
    simp only [List.length_take, List.length_drop, k]
    omega
  have hall : all.countP p = (s.evt.queue.drop k).countP p + (s.evt.wait.filter (fun x => x.lt == r.lt)).countP p
      + if p r then 1 else 0 := by
    rw [(insertRec_perm r _).countP_eq, List.countP_cons, List.countP_append]
  have hqueue : (s.evt.queue.take k).countP p + (s.evt.queue.drop k).countP p = s.evt.queue.countP p := by
    rw [← List.countP_append, List.take_append_drop]
  have hcut : (all.take (tailNow s)).countP p + (all.drop (tailNow s)).countP p = all.countP p := by
    rw [← List.countP_append, List.take_append_drop]
  have hwait : (s.evt.wait.filter (fun x => x.lt == r.lt)).countP p + old.countP p = s.evt.wait.countP p := by
    rw [← List.countP_append]
    exact (List.filter_append_perm (fun x : EvRec => x.lt == r.lt) s.evt.wait).countP_eq p
  simp only [waiting, List.countP_append, hput]
  omega

namespace EventsOnly

variable {s t u : State}

/-- A detection is accepted now or waits (R204). -/
theorem accept (h : EventsOnly s t) {r : EvRec} : EventsOnly s (accept r t) := by
  by_cases hc : t.configured = true
  · by_cases h4 : accepted t < 4
    · rw [accept_now r hc h4]
      exact .number (.of_evt h)
    · have count := fun p hp => waiting_accept_late (p := p) hp r hc h4
      unfold Machine.accept at count ⊢
      rw [if_neg (by simp [hc]), if_neg h4] at count ⊢
      exact .of_evt h (hp := fun p hp => Nat.le.intro (count p hp).symm)
  · rw [accept_unconfigured r (by simpa using hc)]
    exact h.number

theorem record (h : EventsOnly s t) {src grade detail : Nat} {stg : Option Nat} :
    EventsOnly s (record src grade detail stg t) := h.accept

theorem setCtr (h : EventsOnly s t) {id : Nat} {x : Nat × Nat} : EventsOnly s (setCtr id x t) :=
  .of_evt h

theorem ucShow (h : EventsOnly s t) : EventsOnly s (ucShow t) :=
  have val : Reg.EVT_UCVAL ∈ evtRegs := by decide
  (((h.setF val).setF val).setF val).wr (by decide)

/-- The last leak of a counter is noted again where it falls into this FCLK (R211). -/
theorem leaks (h : EventsOnly s t) {b : Bool} {l : Tbl (Nat × Nat × Nat)} :
    EventsOnly s (if b then { t with evt := { t.evt with leaks := l } } else t) := by
  split
  · exact .of_evt h
  · exact h

/-- One upset of a counter (R211). -/
theorem upset (h : EventsOnly s t) {id : Nat} : EventsOnly s (upset id t).1 := by
  unfold Machine.upset
  rcases ctrNW id t with ⟨n, w⟩
  rcases ctrOf id t with ⟨l, o⟩
  rcases Tbl.get (0, 0, 0) t.evt.leaks id with ⟨k, a, took⟩
  dsimp -zeta only
  extract_lets leaked l'
  split
  · exact .ucShow (.setCtr h.leaks)
  · exact .record (.setB (.ucShow (.setCtr h.leaks)) (by decide))

end EventsOnly

/-- A frozen loss count takes at most one entry, and the numbers left are as before. -/
theorem flushLoss_room (s : State) :
    (flushLoss s).evt.queue.length ≤ s.evt.queue.length + 1 ∧ capped (flushLoss s) = capped s := by
  unfold flushLoss
  split
  · exact ⟨by omega, rfl⟩
  · split
    · exact ⟨by simp [hmpPulse], rfl⟩
    · exact ⟨by omega, rfl⟩

/-- With numbers left and a free entry, a record takes its place in the queue (R203, R204). -/
theorem number_of_room (r : EvRec) {s : State} (hc : capped (flushLoss s) = false)
    (hq : (flushLoss s).evt.queue.length < queueSize) :
    (number r s).evt.queue = place { r with seq := rd Reg.EVT_NSEQ (flushLoss s) } (flushLoss s).evt.queue
      ∧ (number r s).evt.wait = (flushLoss s).evt.wait := by
  unfold number
  extract_lets s1 e1 r' s2
  have hs1 : capped s1 = false := hc
  have hs2 : s2.evt = (flushLoss s).evt := by
    unfold s2 when
    split <;> rfl
  rw [if_neg (by simp [hs1]), if_pos (by rw [hs2]; exact hq)]
  constructor
  · show place r' s2.evt.queue = _
    rw [hs2]
    rfl
  · show s2.evt.wait = _
    rw [hs2]

theorem waiting_number_of_room {p : EvRec → Bool} (hp : Unnumbered p) (r : EvRec) {s : State} (hc : capped s = false)
    (hq : s.evt.queue.length + 1 < queueSize) : waiting p s + (if p r then 1 else 0) ≤ waiting p (number r s) := by
  obtain ⟨hlen, hcap⟩ := flushLoss_room s
  obtain ⟨hqueue, hwait⟩ := number_of_room r (hcap.trans hc) (by omega)
  have hkept : waiting p s ≤ waiting p (flushLoss s) := (EventsOnly.refl s).flushLoss.waiting p hp
  have hr := hp r (rd Reg.EVT_NSEQ (flushLoss s))
  unfold waiting at hkept ⊢
  rw [hqueue, hwait, countP_place hp, hr]
  omega

/-- Room for records: two free entries, and numbers left (R205, R215). -/
theorem roomy_room {s : State} (h : roomy s = true) : s.evt.queue.length + 1 < queueSize ∧ capped s = false := by
  unfold roomy at h
  rw [Bool.and_eq_true, decide_eq_true_eq] at h
  obtain ⟨hq, hcap⟩ := h
  refine ⟨by omega, ?_⟩
  unfold capped
  split
  · rfl
  · rename_i n hn
    rw [hn, Option.all_some, decide_eq_true_eq] at hcap
    rw [decide_eq_false_iff_not]
    omega

/-- With room in the unit, a detection waits as a record (R204). -/
theorem waiting_accept_of_room {p : EvRec → Bool} (hp : Unnumbered p) (r : EvRec) {s : State} (h : roomy s = true) :
    waiting p s + (if p r then 1 else 0) ≤ waiting p (accept r s) := by
  obtain ⟨hq, hc⟩ := roomy_room h
  by_cases hconf : s.configured = true
  · by_cases h4 : accepted s < 4
    · rw [accept_now r hconf h4]
      exact waiting_number_of_room (s := { s with evt := { s.evt with acc := (s.lt, accepted s + 1) } }) hp r hc hq
    · exact (waiting_accept_late hp r hconf h4).ge
  · rw [accept_unconfigured r (by simpa using hconf)]
    exact waiting_number_of_room hp r hc hq

/-- While the unit has room, `record` adds one record of its kind (R203, R204). -/
theorem recs_record_lt (src grade detail : Nat) (stg : Option Nat) {s : State} (h : roomy s = true) :
    recs src grade detail stg s < recs src grade detail stg (record src grade detail stg s) := by
  rw [recs_eq_waiting, recs_eq_waiting]
  refine Nat.lt_of_lt_of_le ?_ (waiting_accept_of_room (unnumbered_recOf src grade detail stg) _ h)
  simp [recOf]

end Sys2Proof.Machine
end

section
/-! SUPPORT. What the shared reactions keep: the safe state, G5 against a Stage and the retirement of a half-bridge
(R158, R159, R208-R211). -/

namespace Sys2Proof.Machine

/-! Half-bridges and recorded events, read after a write. -/

@[simp] theorem hbOf_setHb (j h : Nat) (x : HbSt) (s : State) : hbOf j (setHb h x s) = if j = h then x else hbOf j s :=
  Tbl.get_put _ j h x s.hb

theorem EventsOnly.hbOf {s t : State} (h : EventsOnly s t) (j : Nat) : hbOf j t = hbOf j s := by rw [h.frame]; rfl

theorem EventsOnly.legEn {s t : State} (h : EventsOnly s t) : t.legEn = s.legEn := by rw [h.frame]

/-- What is recorded from a state is recorded from one whose event unit stands alike. -/
theorem recorded_of_eq {s t u : State} {src grade detail : Nat} {stg : Option Nat} (he : u.evt = s.evt)
    (hn : rdW Reg.EVT_NSEQ u = rdW Reg.EVT_NSEQ s) (h : recorded src grade detail stg u t) :
    recorded src grade detail stg s t := by
  intro room
  have hroom : roomy u = true := by
    rw [← room]
    unfold roomy rd
    rw [he, hn]
  have hrecs : recs src grade detail stg u = recs src grade detail stg s := by
    unfold recs
    rw [he]
  exact hrecs ▸ h hroom

/-- A fold keeps what each of its steps keeps. -/
theorem each_induct {α : Type} {P : State → Prop} {s : State} (h : P s) {l : List α} {f : α → State → State}
    (hf : ∀ x ∈ l, ∀ u, P u → P (f x u)) : P (each l f s) := by
  unfold each
  induction l generalizing s with
  | nil => exact h
  | cons x l ih => exact ih (hf x (by simp) s h) (fun y hy => hf y (by simp [hy]))

/-- What the shared reactions keep (R158, R159, R208): memory and fuses, the levels of P, the flags of the half-bridges, the
records and reactions that wait; they drive no LEGn_EN high, and a half-bridge without a deadline gets none. -/
structure Reacts (s t : State) : Prop where
  mem : t.mem = s.mem
  nv : t.nv = s.nv
  legP : t.legP = s.legP
  legEn : ∀ n, t.legEn.testBit n = true → s.legEn.testBit n = true
  flags : ∀ h i, h < 104 → (rdW (Reg.PGN_HEVT h) s).getLsbD i = true → (rdW (Reg.PGN_HEVT h) t).getLsbD i = true
  recs : ∀ src grade detail stg, recs src grade detail stg s ≤ recs src grade detail stg t
  react : ∀ r ∈ s.evt.react, r ∈ t.evt.react
  ackBy : ∀ h, (hbOf h s).ackBy = [] → (hbOf h t).ackBy = []
  uvBy : ∀ h, (hbOf h t).uvBy = (hbOf h s).uvBy

/-- A flag of a half-bridge stays set. -/
theorem Reacts.on_flag {s t : State} (r : Reacts s t) {h : Nat} (hh : h < 104) (i : Nat)
    (hs : on (Reg.PGN_HEVT h) ⟨i, 1⟩ s = true) : on (Reg.PGN_HEVT h) ⟨i, 1⟩ t = true := by
  rw [Machine.on_flag] at hs ⊢
  exact r.flags h i hh hs

/-- No flag register of a half-bridge lies at the address. -/
def NoFlags (a : Nat) : Prop := ∀ h, h < 104 → Reg.PGN_HEVT h ≠ a

theorem noFlags_hstat (h : Nat) : NoFlags (Reg.PGN_HSTAT h) := by
  intro j _
  unfold Reg.PGN_HEVT Reg.PGN_HSTAT
  omega

theorem noFlags_of_mem_evtRegs {a : Nat} (ha : a ∈ evtRegs) : NoFlags a := by
  intro h hh
  simp only [evtRegs, List.mem_cons, List.not_mem_nil, or_false, Reg.EVT_NSEQ, Reg.EVT_STAT, Reg.EVT_EVT, Reg.EVT_LOST,
    Reg.EVT_UCVAL, Reg.EVT_UCWIN] at ha
  unfold Reg.PGN_HEVT
  omega

theorem noFlags_g5cause : NoFlags Reg.EVT_G5CAUSE := fun j hj => by
  unfold Reg.PGN_HEVT Reg.EVT_G5CAUSE
  omega

theorem lt_of_mem_instsOf {st n : Nat} {s : State} (h : n ∈ instsOf st s) : n < 128 := by
  simp only [instsOf, List.mem_filter, List.mem_range] at h
  exact h.1

namespace Reacts

variable {s t u : State}

theorem refl (s : State) : Reacts s s :=
  ⟨rfl, rfl, rfl, fun _ => id, fun _ _ _ => id, fun _ _ _ _ => le_rfl, fun _ => id, fun _ => id, fun _ => rfl⟩

theorem trans (h : Reacts s t) (g : Reacts t u) : Reacts s u where
  mem := g.mem.trans h.mem
  nv := g.nv.trans h.nv
  legP := g.legP.trans h.legP
  legEn n hn := h.legEn n (g.legEn n hn)
  flags j i hj hi := g.flags j i hj (h.flags j i hj hi)
  recs src grade detail stg := (h.recs src grade detail stg).trans (g.recs src grade detail stg)
  react r hr := g.react r (h.react r hr)
  ackBy j hj := g.ackBy j (h.ackBy j hj)
  uvBy j := (g.uvBy j).trans (h.uvBy j)

/-- The event unit at work. -/
theorem events (h : Reacts s t) (g : EventsOnly t u) : Reacts s u := by
  refine h.trans ⟨?_, ?_, ?_, ?_, ?_, g.recs, ?_, ?_, ?_⟩
  · rw [g.frame]
  · rw [g.frame]
  · rw [g.frame]
  · rw [g.legEn]; exact fun _ => id
  · intro j i hj hi
    rwa [g.regs _ (fun ha => noFlags_of_mem_evtRegs ha j hj rfl)]
  · rw [g.react]; exact fun _ => id
  · intro j hj; rwa [g.hbOf]
  · intro j; rw [g.hbOf]

/-- A change of other parts of the state. -/
theorem elsewhere (h : Reacts s t) (mem : u.mem = t.mem := by rfl) (nv : u.nv = t.nv := by rfl)
    (legP : u.legP = t.legP := by rfl) (legEn : u.legEn = t.legEn := by rfl) (regs : u.regs = t.regs := by rfl)
    (evt : u.evt = t.evt := by rfl) (hb : u.hb = t.hb := by rfl) : Reacts s u := by
  refine h.trans ⟨mem, nv, legP, ?_, ?_, ?_, ?_, ?_, ?_⟩
  · rw [legEn]; exact fun _ => id
  · unfold rdW; rw [regs]; exact fun _ _ _ => id
  · unfold Machine.recs; rw [evt]; exact fun _ _ _ _ => le_rfl
  · rw [evt]; exact fun _ => id
  · unfold hbOf; rw [hb]; exact fun _ => id
  · unfold hbOf; rw [hb]; exact fun _ => rfl

/-- A change of the event unit's state that leaves its records; reactions may join those that wait. -/
theorem setEvt (h : Reacts s t) {e : EvtSt} (queue : e.queue = t.evt.queue := by rfl) (wait : e.wait = t.evt.wait := by rfl)
    (react : ∀ r ∈ t.evt.react, r ∈ e.react := by exact fun _ => id) : Reacts s { t with evt := e } := by
  refine h.trans ⟨rfl, rfl, rfl, fun _ => id, fun _ _ _ => id, ?_, react, fun _ => id, fun _ => rfl⟩
  intro src grade detail stg
  show _ ≤ List.countP _ (e.queue ++ e.wait)
  rw [queue, wait]
  exact le_rfl

theorem wrW (h : Reacts s t) {a : Nat} (ha : NoFlags a) {w : Word} : Reacts s (wrW a w t) := by
  refine h.trans ⟨rfl, rfl, rfl, fun _ => id, ?_, fun _ _ _ _ => le_rfl, fun _ => id, fun _ => id, fun _ => rfl⟩
  intro j i hj hi
  rwa [rdW_wrW, if_neg (ha j hj)]

theorem setF (h : Reacts s t) {a : Nat} (ha : NoFlags a) {F : Fld} {v : Nat} : Reacts s (setF a F v t) := h.wrW ha

theorem setB (h : Reacts s t) {a : Nat} (ha : NoFlags a) {F : Fld} {b : Bool} : Reacts s (setB a F b t) := h.wrW ha

/-- A flag that is set stays so. -/
theorem setFlag (h : Reacts s t) {a i : Nat} {b : Bool} (hb : on a ⟨i, 1⟩ t = true → b = true) :
    Reacts s (Machine.setB a ⟨i, 1⟩ b t) := by
  refine h.trans ⟨rfl, rfl, rfl, fun _ => id, ?_, fun _ _ _ _ => le_rfl, fun _ => id, fun _ => id, fun _ => rfl⟩
  intro j k hj hk
  unfold Machine.setB Machine.setF
  rw [rdW_wrW]
  split
  · rename_i ha
    subst ha
    rw [getLsbD_fldSet_flag _ _ (BitVec.lt_of_getLsbD hk)]
    split
    · rename_i hki
      rw [Machine.on_flag, ← hki] at hb
      exact hb hk
    · exact hk
  · exact hk

theorem raise (h : Reacts s t) {a i : Nat} : Reacts s (Machine.setB a ⟨i, 1⟩ true t) := h.setFlag (fun _ => rfl)

theorem setHb (h : Reacts s t) {k : Nat} {x : HbSt} (ha : (hbOf k t).ackBy = [] → x.ackBy = [] := by exact id)
    (hu : x.uvBy = (hbOf k t).uvBy := by rfl) : Reacts s (setHb k x t) := by
  refine h.trans ⟨rfl, rfl, rfl, fun _ => id, fun _ _ _ => id, fun _ _ _ _ => le_rfl, fun _ => id, ?_, ?_⟩
  · intro j hj
    rw [hbOf_setHb]
    split
    · rename_i hjk; exact ha (hjk ▸ hj)
    · exact hj
  · intro j
    rw [hbOf_setHb]
    split
    · rename_i hjk; exact hjk ▸ hu
    · rfl

theorem enLow (h : Reacts s t) {n : Nat} : Reacts s { t with legEn := setBit t.legEn n false } := by
  refine h.trans ⟨rfl, rfl, rfl, ?_, fun _ _ _ => id, fun _ _ _ _ => le_rfl, fun _ => id, fun _ => id, fun _ => rfl⟩
  intro j hj
  have hj : (setBit t.legEn n false).testBit j = true := hj
  rw [testBit_setBit] at hj
  split at hj
  · cases hj
  · exact hj

theorem emit (h : Reacts s t) {o : Out} : Reacts s (emit o t) := h.elsewhere
theorem setLnk (h : Reacts s t) {n : Nat} {x : LnkSt} : Reacts s (setLnk n x t) := h.elsewhere
theorem setInst (h : Reacts s t) {n : Nat} {x : InstSt} : Reacts s (setInst n x t) := h.elsewhere
theorem setDrm (h : Reacts s t) {n : Nat} {x : DrumSt} : Reacts s (setDrm n x t) := h.elsewhere

theorem record (h : Reacts s t) {src grade detail : Nat} {stg : Option Nat} :
    Reacts s (record src grade detail stg t) := h.events (.record (.refl _))

theorem when (h : Reacts s t) {c : Bool} {f : State → State} (hf : ∀ u, Reacts s u → Reacts s (f u)) :
    Reacts s (when c f t) := by
  unfold Machine.when
  split
  · exact hf _ h
  · exact h

theorem each {α : Type} (h : Reacts s t) {l : List α} {f : α → State → State}
    (hf : ∀ x ∈ l, ∀ u, Reacts s u → Reacts s (f x u)) : Reacts s (each l f t) := each_induct h hf

/-! The safe state (R158). -/

theorem legRise (h : Reacts s t) {n : Nat} : Reacts s (legRise n t) := by
  unfold Machine.legRise
  split
  · exact .emit h.setHb
  · exact h

theorem noteOff (h : Reacts s t) {j at_ : Nat} {hi : Bool} : Reacts s (noteOff j hi at_ t) := h.elsewhere

theorem legOff (h : Reacts s t) {n : Nat} : Reacts s (legOff n t) := by
  unfold Machine.legOff
  extract_lets late
  clear_value late
  split
  · exact .noteOff (.enLow h.setHb)
  · exact .when (.enLow h.legRise) (fun _ hu => hu.emit)

theorem uncountLow (h : Reacts s t) {j at_ : Nat} : Reacts s (uncountLow j at_ t) := by
  unfold Machine.uncountLow
  exact .setF h.setHb (noFlags_hstat j)

theorem safeHb (h : Reacts s t) {j : Nat} : Reacts s (safeHb j t) := by
  unfold Machine.safeHb
  extract_lets lows cut t1 x t2 t3 k mine
  have h1 : Reacts s t1 := h.each (fun _ _ _ hu => hu.uncountLow)
  have h2 : Reacts s t2 := h1.setHb (ha := fun e => by simp [x, e])
  have h3 : Reacts s t3 := ((h2.setB (noFlags_hstat j)).setB (noFlags_hstat j)).raise
  split
  · exact h3.legOff
  · exact h3.setLnk

theorem holdHb (h : Reacts s t) {cause j : Nat} : Reacts s (holdHb cause j t) := by
  unfold Machine.holdHb
  split
  · extract_lets run _ t1 t2
    have h1 : Reacts s t1 := by
      unfold t1 Machine.when
      split
      · exact h.setHb
      · exact h
    have h2 : Reacts s t2 := h1.setF (noFlags_hstat j)
    exact .safeHb (h2.when (fun _ hu => hu.setF (noFlags_hstat j)))
  · exact h

theorem sendOffs (h : Reacts s t) {hs : List Nat} : Reacts s (sendOffs hs t) :=
  h.each (fun _ _ _ hu => hu.when (fun _ hv => hv.setLnk))

theorem holdMany (h : Reacts s t) {cause : Nat} {hs : List Nat} : Reacts s (holdMany cause hs t) :=
  .sendOffs (h.each (fun _ _ _ hu => hu.holdHb))

/-- A skipped turn-on enters the carry (R151, R154). -/
theorem carryDropped (h : Reacts s t) {j : Nat} {hi : Bool} {w : Int} : Reacts s (carryDropped j hi w t) := by
  have acc : NoFlags (Reg.PGN_ACC j) := fun k _ => by
    unfold Reg.PGN_HEVT Reg.PGN_ACC
    omega
  refine h.when (fun u hu => ?_)
  unfold setAcc wrI
  refine .setFlag (hu.wrW acc) (fun clip => ?_)
  have other : Reg.PGN_HEVT j ≠ Reg.PGN_ACC j := by
    unfold Reg.PGN_HEVT Reg.PGN_ACC
    omega
  unfold on fl at clip ⊢
  rw [rdW_wrW, if_neg other] at clip
  exact Bool.or_eq_true_iff.2 (.inl clip)

/-! Grades (R108, R162, R208, R210). -/

theorem trackIn (h : Reacts s t) {n : Nat} (hn : n < 128) : Reacts s (trackIn n t) := by
  unfold Machine.trackIn
  extract_lets mode
  split
  · exact h
  · refine .setF h.setInst (fun j _ => ?_)
    unfold Reg.PGN_HEVT Reg.STI_ISTAT
    omega

theorem pulsesOff (h : Reacts s t) {st detail : Nat} : Reacts s (pulsesOff st detail t) := by
  unfold Machine.pulsesOff
  have pen : NoFlags (Reg.PGN_SSTAT st) := fun j _ => by
    unfold Reg.PGN_HEVT Reg.PGN_SSTAT
    omega
  exact .holdMany (.each (.when (h.setB pen) (fun _ hu => hu.record)) (fun _ hn _ hu => hu.trackIn (lt_of_mem_instsOf hn)))

theorem anchor (h : Reacts s t) {a : List Nat} : Reacts s { t with evt := { t.evt with anchor := a } } := h.setEvt

theorem under (h : Reacts s t) {src detail : Nat} {f : State → State} (hf : ∀ u, Reacts s u → Reacts s (f u)) :
    Reacts s (under src detail f t) := .anchor (hf _ h.anchor)

theorem addG5 (h : Reacts s t) {st : Nat} {c : Cause} : Reacts s (addG5 st c t) :=
  .setB h.setEvt noFlags_g5cause

theorem gradeG5For (h : Reacts s t) {reason st : Nat} {c : Option Cause} : Reacts s (gradeG5For reason st c t) := by
  unfold Machine.gradeG5For
  extract_lets was t1 t2 _ t3 t4 t5
  have h1 : Reacts s t1 := h.setB noFlags_g5cause
  have h2 : Reacts s t2 := by
    cases c with
    | none => exact h1
    | some c => exact h1.addG5
  have h3 : Reacts s t3 := h2.setEvt
  exact .pulsesOff (.when h3.setDrm (fun _ hu => hu.record))

theorem gradeG5 (h : Reacts s t) {st : Nat} {c : Option Cause} : Reacts s (gradeG5 st c t) := h.gradeG5For

/-! Retirement of a half-bridge (R159). -/

theorem retireRecord (h : Reacts s t) {j : Nat} : Reacts s (retireRecord j t) := by
  unfold Machine.retireRecord
  exact .setEvt h.record (react := fun r hr => List.mem_append_left _ hr)

theorem retireHb (h : Reacts s t) {j : Nat} : Reacts s (retireHb j t) := by
  unfold Machine.retireHb
  split
  · exact h
  · exact .when (.retireRecord h.elsewhere) (fun _ hu => hu.under (fun _ hv => hv.gradeG5))

/-- An upset and the reaction to its overflow (R211). -/
theorem upsetThen (h : Reacts s t) {id : Nat} {f : State → State} (hf : ∀ u, Reacts s u → Reacts s (f u)) :
    Reacts s (upsetThen id f t) := by
  have h1 : Reacts s (upset id t).1 := h.events (.upset (.refl _))
  unfold Machine.upsetThen
  dsimp only
  split
  · exact h1.under hf
  · exact h1

end Reacts

end Sys2Proof.Machine
end

section
/-! SUPPORT. The direct legs (R149-R152, R157): the safe state, the acknowledgements, each edge of the edge unit, and O25. -/

namespace Sys2Proof.Machine

/-- From `s` to `t` only the listed registers may read differently, and nothing is recorded. -/
structure Silent (l : List Nat) (s t : State) : Prop where
  regs : regsKept l s t
  evt : t.evt = s.evt

namespace Silent

variable {l : List Nat} {s t u : State}

theorem refl (l : List Nat) (s : State) : Silent l s s := ⟨fun _ _ => rfl, rfl⟩

theorem trans (h : Silent l s t) (g : Silent l t u) : Silent l s u :=
  ⟨fun a ha => (g.regs a ha).trans (h.regs a ha), g.evt.trans h.evt⟩

theorem wrW (h : Silent l s t) {a : Nat} (ha : a ∈ l) {w : Word} : Silent l s (wrW a w t) := by
  refine ⟨fun b hb => ?_, h.evt⟩
  rw [rdW_wrW, if_neg, h.regs b hb]
  rintro rfl
  exact hb ha

theorem wrI (h : Silent l s t) {a : Nat} (ha : a ∈ l) {x : Int} : Silent l s (wrI a x t) := h.wrW ha

theorem setF (h : Silent l s t) {a : Nat} (ha : a ∈ l) {F : Fld} {v : Nat} : Silent l s (setF a F v t) := h.wrW ha

theorem setB (h : Silent l s t) {a : Nat} (ha : a ∈ l) {F : Fld} {b : Bool} : Silent l s (setB a F b t) := h.wrW ha

/-- A change of other parts of the state. -/
theorem elsewhere (h : Silent l s t) (regs : u.regs = t.regs := by rfl) (evt : u.evt = t.evt := by rfl) : Silent l s u :=
  ⟨fun a ha => by rw [← h.regs a ha]; unfold rdW; rw [regs], evt.trans h.evt⟩

theorem setHb (h : Silent l s t) {k : Nat} {x : HbSt} : Silent l s (setHb k x t) := h.elsewhere

theorem when (h : Silent l s t) {c : Bool} {f : State → State} (hf : ∀ u, Silent l s u → Silent l s (f u)) :
    Silent l s (when c f t) := by
  unfold Machine.when
  split
  · exact hf _ h
  · exact h

theorem each {α : Type} (h : Silent l s t) {xs : List α} {f : α → State → State}
    (hf : ∀ x u, Silent l s u → Silent l s (f x u)) : Silent l s (each xs f t) := each_induct h (fun x _ => hf x)

/-- What is recorded then is recorded since `s`. -/
theorem recorded_of (h : Silent l s u) (hn : Reg.EVT_NSEQ ∉ l) {src grade detail : Nat} {stg : Option Nat}
    (g : recorded src grade detail stg u t) : recorded src grade detail stg s t :=
  recorded_of_eq h.evt (h.regs _ hn) g

/-- A record that follows is the first since `s`. -/
theorem recorded (h : Silent l s u) (hn : Reg.EVT_NSEQ ∉ l) {src grade detail : Nat} {stg : Option Nat} :
    recorded src grade detail stg s (record src grade detail stg u) :=
  h.recorded_of hn (recs_record_lt src grade detail stg)

end Silent

/-! The safe state (R158): what it leaves and what it brings. -/

/-- The planned edges of every half-bridge stay. -/
def edgesKept (s t : State) : Prop := ∀ j, (hbOf j t).edges = (hbOf j s).edges

theorem edgesKept_setHb {k : Nat} {x : HbSt} {s : State} (h : x.edges = (hbOf k s).edges) : edgesKept s (setHb k x s) := by
  intro j
  rw [hbOf_setHb]
  split
  · rename_i hj
    rw [hj, h]
  · rfl

theorem legRise_frame (n : Nat) (s : State) : (legRise n s).regs = s.regs ∧ (legRise n s).evt = s.evt ∧
    edgesKept s (legRise n s) := by
  unfold legRise
  split
  · exact ⟨rfl, rfl, edgesKept_setHb rfl⟩
  · exact ⟨rfl, rfl, fun _ => rfl⟩

/-- LEGn_EN goes low, and no register, record or planned edge changes. -/
theorem legOff_frame (n : Nat) (s : State) : (legOff n s).regs = s.regs ∧ (legOff n s).evt = s.evt ∧
    edgesKept s (legOff n s) ∧ (legOff n s).legEn.testBit n = false := by
  have low : ∀ m, (setBit m n false).testBit n = false := fun m => by simp [testBit_setBit]
  unfold legOff
  extract_lets late
  clear_value late
  split
  · exact ⟨rfl, rfl, edgesKept_setHb rfl, low _⟩
  · obtain ⟨hregs, hevt, hedges⟩ := legRise_frame n s
    unfold when
    split
    · exact ⟨hregs, hevt, hedges, low _⟩
    · exact ⟨hregs, hevt, hedges, low _⟩

theorem uncountLow_silent {l : List Nat} {s t : State} (r : Silent l s t) {h : Nat} (hl : Reg.PGN_HSTAT h ∈ l)
    (at_ : Nat) : Silent l s (uncountLow h at_ t) := r.setHb.setF hl

/-- The safe state of a half-bridge shows in its own status and flags alone. -/
theorem safeHb_silent {l : List Nat} {s t : State} (r : Silent l s t) {h : Nat} (hstat : Reg.PGN_HSTAT h ∈ l)
    (hevt : Reg.PGN_HEVT h ∈ l) : Silent l s (safeHb h t) := by
  unfold safeHb
  extract_lets lows cut t1 x t2 t3 k mine
  have r1 : Silent l s t1 := r.each (fun at_ _ hu => uncountLow_silent hu hstat at_)
  clear_value t1
  have r3 : Silent l s t3 := ((r1.setHb.setB hstat).setB hstat).setB hevt
  split
  · obtain ⟨regs, evt, -, -⟩ := legOff_frame (h - 96) t3
    exact r3.elsewhere regs evt
  · exact r3.elsewhere

/-- In the safe state no edge is planned, SAFE shows it, and LEGn_EN of a direct leg is low (R158). -/
theorem safeHb_safe (h : Nat) (s : State) : (hbOf h (safeHb h s)).edges = [] ∧
    on (Reg.PGN_HEVT h) Reg.PGN_HEVT_SAFE (safeHb h s) = true ∧
    (isDirect h = true → (safeHb h s).legEn.testBit (h - 96) = false) := by
  unfold safeHb
  extract_lets lows cut s1 x s2 s3 k mine
  clear_value s1
  have hedges : (hbOf h s3).edges = [] := by
    show (hbOf h (setHb h _ s1)).edges = []
    simp
  have hsafe : on (Reg.PGN_HEVT h) Reg.PGN_HEVT_SAFE s3 = true := on_setB _ _ (by decide) (by decide) _ _
  split
  · obtain ⟨hregs, -, hkept, hlow⟩ := legOff_frame (h - 96) s3
    refine ⟨(hkept h).trans hedges, ?_, fun _ => hlow⟩
    rw [← hsafe]
    unfold on fl rdW
    rw [hregs]
  · rename_i hdirect
    exact ⟨hedges, hsafe, fun hd => absurd hd hdirect⟩

/-- A hold shows in the half-bridge's own status and flags alone, and records nothing. -/
theorem holdHb_silent (cause h : Nat) (s : State) : Silent [Reg.PGN_HSTAT h, Reg.PGN_HEVT h] s (holdHb cause h s) := by
  have hstat : Reg.PGN_HSTAT h ∈ [Reg.PGN_HSTAT h, Reg.PGN_HEVT h] := by simp
  unfold holdHb
  split
  · exact safeHb_silent (.when (.setF (.when (.refl _ s) (fun _ hu => hu.setHb)) hstat) (fun _ hu => hu.setF hstat))
      hstat (by simp)
  · exact .refl _ s

/-- A half-bridge in use that is held is in the safe state. -/
theorem holdHb_safe (cause : Nat) {h : Nat} {s : State} (hu : hbUsed h s = true) :
    (hbOf h (holdHb cause h s)).edges = [] ∧ on (Reg.PGN_HEVT h) Reg.PGN_HEVT_SAFE (holdHb cause h s) = true ∧
    (isDirect h = true → (holdHb cause h s).legEn.testBit (h - 96) = false) := by
  unfold holdHb
  rw [if_pos hu]
  exact safeHb_safe h _

/-! The acknowledgements of the direct legs, read in an FCLK (R150, R152). -/

/-- The status words of the direct legs. -/
def directStats : List Nat := (List.range 8).map (fun n => Reg.PGN_HSTAT (96 + n))

/-- What reading the acknowledgements may change: the status of the direct legs, and the turn-offs that still await one, where
one is known at all. -/
structure AckRead (s t : State) : Prop where
  silent : Silent directStats s t
  frame : t = { s with regs := t.regs, hb := t.hb }
  hb : ∀ h, hbOf h t = { hbOf h s with ackBy := (hbOf h t).ackBy }
  unknown : ∀ h, (hbOf h s).ackAt = none → (hbOf h s).ackPrev = none → (hbOf h t).ackBy = (hbOf h s).ackBy

theorem not_ackAnswers {h : Nat} {s : State} (hat : (hbOf h s).ackAt = none) (hprev : (hbOf h s).ackPrev = none) (at_ : Nat) :
    ackAnswers h at_ s = false := by
  unfold ackAnswers
  simp [hat, hprev]

theorem ackShow_ackRead {n : Nat} (hn : n < 8) (s : State) : AckRead s (ackShow (96 + n) s) := by
  have hstat : Reg.PGN_HSTAT (96 + n) ∈ directStats := List.mem_map.2 ⟨n, List.mem_range.2 hn, rfl⟩
  have hhb : ∀ h, hbOf h (ackShow (96 + n) s) = if h = 96 + n then
      { hbOf (96 + n) s with ackBy := (hbOf (96 + n) s).ackBy.filter (fun p => !ackAnswers (96 + n) p.1 s) } else hbOf h s :=
    fun h => hbOf_setHb h (96 + n) _ s
  refine ⟨(Silent.refl _ s).setHb.setB hstat, rfl, fun h => ?_, fun h hat hprev => ?_⟩
  · rw [hhb]
    split
    · rename_i e; rw [e]
    · rfl
  · rw [hhb]
    split
    · rename_i e
      subst e
      simp [not_ackAnswers hat hprev]
    · rfl

namespace AckRead

variable {s t u : State}

theorem refl (s : State) : AckRead s s := ⟨.refl _ s, rfl, fun _ => rfl, fun _ _ _ => rfl⟩

theorem ackAt (r : AckRead s t) (h : Nat) : (hbOf h t).ackAt = (hbOf h s).ackAt := by rw [r.hb h]
theorem ackPrev (r : AckRead s t) (h : Nat) : (hbOf h t).ackPrev = (hbOf h s).ackPrev := by rw [r.hb h]
theorem edges (r : AckRead s t) (h : Nat) : (hbOf h t).edges = (hbOf h s).edges := by rw [r.hb h]
theorem pAt (r : AckRead s t) (h : Nat) : (hbOf h t).pAt = (hbOf h s).pAt := by rw [r.hb h]
theorem rise (r : AckRead s t) (h : Nat) : (hbOf h t).rise = (hbOf h s).rise := by rw [r.hb h]
theorem lt (r : AckRead s t) : t.lt = s.lt := by rw [r.frame]
theorem mem (r : AckRead s t) : t.mem = s.mem := by rw [r.frame]
theorem nv (r : AckRead s t) : t.nv = s.nv := by rw [r.frame]
theorem out (r : AckRead s t) : t.out = s.out := by rw [r.frame]
theorem legEn (r : AckRead s t) : t.legEn = s.legEn := by rw [r.frame]
theorem legP (r : AckRead s t) : t.legP = s.legP := by rw [r.frame]

theorem trans (h : AckRead s t) (g : AckRead t u) : AckRead s u := by
  refine ⟨h.silent.trans g.silent, g.frame.trans (by rw [h.frame]), fun j => ?_, fun j hat hprev => ?_⟩
  · rw [g.hb j, h.hb j]
  · rw [g.unknown j ((h.ackAt j).trans hat) ((h.ackPrev j).trans hprev), h.unknown j hat hprev]

end AckRead

/-- The acknowledgements read in an FCLK. -/
theorem ackTick_ackRead (s : State) : AckRead s (ackTick s) := by
  refine each_induct (P := AckRead s) (.refl s) (fun n hn u hu => ?_)
  split
  · exact hu.trans (ackShow_ackRead (List.mem_range.1 hn) u)
  · exact hu

theorem not_mem_directStats {a : Nat} (h : ∀ n, n < 8 → a ≠ Reg.PGN_HSTAT (96 + n)) : a ∉ directStats := by
  intro ha
  obtain ⟨n, hn, rfl⟩ := List.mem_map.1 ha
  exact h n (List.mem_range.1 hn) rfl

namespace AckRead

variable {s t : State}

theorem rdW (r : AckRead s t) {a : Nat} (ha : a ∉ directStats) : rdW a t = rdW a s := r.silent.regs a ha

theorem hbUsed (r : AckRead s t) (h : Nat) : hbUsed h t = hbUsed h s := by
  unfold Machine.hbUsed on fl
  rw [r.rdW (not_mem_directStats (fun n _ => by unfold Reg.PGN_HCFG Reg.PGN_HSTAT; omega))]

theorem qualifiedAt (r : AckRead s t) (h f : Nat) : qualifiedAt h f t = qualifiedAt h f s := by
  unfold Machine.qualifiedAt
  simp only [r.ackAt, r.ackPrev]

theorem bitAt (r : AckRead s t) {a : Nat} (ha : a ∉ directStats) (k : Nat) : bitAt a k t = bitAt a k s := by
  unfold Machine.bitAt on fl
  rw [r.rdW ha]

theorem tripGate (r : AckRead s t) (h : Nat) : tripGate h t = tripGate h s := by
  have mask0 (n : Nat) := r.bitAt (a := Reg.PRT_TMASK0 n)
    (not_mem_directStats (fun m _ => by unfold Reg.PRT_TMASK0 Reg.PGN_HSTAT; omega))
  have mask1 (n : Nat) := r.bitAt (a := Reg.PRT_TMASK1 n)
    (not_mem_directStats (fun m _ => by unfold Reg.PRT_TMASK1 Reg.PGN_HSTAT; omega))
  have mask2 (n : Nat) := r.bitAt (a := Reg.PRT_TMASK2 n)
    (not_mem_directStats (fun m _ => by unfold Reg.PRT_TMASK2 Reg.PGN_HSTAT; omega))
  have mask3 (n : Nat) := r.bitAt (a := Reg.PRT_TMASK3 n)
    (not_mem_directStats (fun m _ => by unfold Reg.PRT_TMASK3 Reg.PGN_HSTAT; omega))
  have flag := r.bitAt (a := Reg.PRT_TFLAG) (by decide)
  unfold Machine.tripGate tripMask
  simp only [flag, mask0, mask1, mask2, mask3]

end AckRead

/-! The edge unit (R149-R151, R167). -/

theorem levelP_of_none {h : Nat} {s : State} (hp : (hbOf h s).pAt = none) : levelP h s = s := by
  unfold levelP
  rw [hp]

/-- P of a direct leg takes its level: only the pin and the wait for it change. -/
theorem levelP_frame (h : Nat) (s : State) : (levelP h s).regs = s.regs ∧ (levelP h s).evt = s.evt ∧
    (levelP h s).lt = s.lt ∧ (levelP h s).mem = s.mem ∧ edgesKept s (levelP h s) := by
  unfold levelP
  split
  · split
    · exact ⟨rfl, rfl, rfl, rfl, edgesKept_setHb (s := s) rfl⟩
    · exact ⟨rfl, rfl, rfl, rfl, fun _ => rfl⟩
  · exact ⟨rfl, rfl, rfl, rfl, fun _ => rfl⟩

theorem nseq_not_mem_hb {h : Nat} (hh : h < 104) : Reg.EVT_NSEQ ∉ [Reg.PGN_HSTAT h, Reg.PGN_HEVT h] := by
  simp only [List.mem_cons, List.not_mem_nil, or_false, Reg.EVT_NSEQ, Reg.PGN_HSTAT, Reg.PGN_HEVT]
  omega

theorem isDirect_leg (n : Nat) : isDirect (96 + n) = true := by simp [isDirect]

/-- A missed edge of a direct leg (R12): the safe state and EV66. -/
theorem missedLocal_spec {n : Nat} {s : State} (hn : n < 8) (hu : hbUsed (96 + n) s = true) :
    recorded 66 1 (96 + n) none s (missedLocal (96 + n) s) ∧ (hbOf (96 + n) (missedLocal (96 + n) s)).edges = [] ∧
    on (Reg.PGN_HEVT (96 + n)) Reg.PGN_HEVT_SAFE (missedLocal (96 + n) s) = true ∧
    (missedLocal (96 + n) s).legEn.testBit n = false ∧ (missedLocal (96 + n) s).mem = s.mem := by
  unfold missedLocal
  extract_lets held
  obtain ⟨hedges, hsafe, hlow⟩ : (hbOf (96 + n) held).edges = [] ∧
      on (Reg.PGN_HEVT (96 + n)) Reg.PGN_HEVT_SAFE held = true ∧
      (isDirect (96 + n) = true → held.legEn.testBit (96 + n - 96) = false) := holdHb_safe 0 hu
  have hlow := hlow (isDirect_leg n)
  rw [Nat.add_sub_cancel_left] at hlow
  have silent : Silent _ s held := holdHb_silent 0 (96 + n) s
  have reacts : Reacts s held := (Reacts.refl s).holdHb
  clear_value held
  refine ⟨silent.setHb.recorded (nseq_not_mem_hb (by omega)), ?_, ?_, ?_, ?_⟩
  · rw [(EventsOnly.refl _).record.hbOf, hbOf_setHb, if_pos rfl]
    exact hedges
  · exact (Reacts.refl held).setHb.record.on_flag (by omega) _ hsafe
  · rw [(EventsOnly.refl _).record.legEn]
    exact hlow
  · exact reacts.setHb.record.mem

/-- The edge unit works once the acknowledgements of the FCLK have been read. -/
theorem exec_edgeExecute (leg : Fin 8) (s : State) :
    ∃ u, AckRead s u ∧ exec (.edgeExecute leg) s = .next (edgeExecute (96 + leg) u) :=
  ⟨ackTick s, ackTick_ackRead s, rfl⟩

theorem edgeExecute_of_missed {h : Nat} {e : Edge} {s : State} (due : dueEdge (hbOf h s).edges (s.lt + fclk) = some e)
    (late : e.stamp < fclk * nowF s) : edgeExecute h s = missedLocal h (levelP h s) := by
  obtain ⟨-, -, hlt, -, hedges⟩ := levelP_frame h s
  have hnow : nowF (levelP h s) = nowF s := congrArg (· / fclk) hlt
  unfold edgeExecute
  simp only [hedges h, hlt, due, hnow]
  exact if_pos late

/-- The state in which the edge that is due is driven: it waits no longer. -/
def edgeTaken (h : Nat) (e : Edge) (s : State) : State :=
  setHb h { hbOf h s with edges := (hbOf h s).edges.erase e } s

theorem hbOf_edgeTaken (h : Nat) (e : Edge) (s : State) :
    hbOf h (edgeTaken h e s) = { hbOf h s with edges := (hbOf h s).edges.erase e } := (hbOf_setHb ..).trans (if_pos rfl)

theorem qualifiedAt_edgeTaken (h f : Nat) (e : Edge) (s : State) : qualifiedAt h f (edgeTaken h e s) = qualifiedAt h f s := by
  unfold qualifiedAt
  rw [hbOf_edgeTaken]

theorem edgeExecute_of_due {h : Nat} {e : Edge} {s : State} (due : dueEdge (hbOf h s).edges (s.lt + fclk) = some e)
    (now : fclk * nowF s ≤ e.stamp) (hp : (hbOf h s).pAt = none) :
    edgeExecute h s = if e.on then turnOn h e (edgeTaken h e s) else turnOff h e (edgeTaken h e s) := by
  unfold edgeExecute
  simp only [levelP_of_none hp, due]
  exact if_neg (Nat.not_lt.2 now)

/-- A turn-off that no turn-on of this FCLK comes before (R150, R152). -/
theorem turnOff_eq {n : Nat} (e : Edge) {s : State} (hr : (hbOf (96 + n) s).rise = none) :
    turnOff (96 + n) e s = setB (Reg.PGN_HSTAT (96 + n)) Reg.PGN_HSTAT_HION false
      (setB (Reg.PGN_HSTAT (96 + n)) Reg.PGN_HSTAT_LOON false
        (setHb (96 + n) { hbOf (96 + n) s with ackBy := (hbOf (96 + n) s).ackBy
            ++ [(e.stamp, e.stamp + rd (Reg.PGN_ACKTO (96 + n)) s % 2 ^ 17, e.hi)] }
          { s with legEn := setBit s.legEn n false, legP := setBit s.legP n (!e.hi)
                   out := s.out ++ [Out.pin "LEG_EN" n 0 e.stamp, Out.pin "LEG_P" n (if e.hi then 0 else 1) (e.stamp + 8)] })) := by
  have rises : legRise n s = s := by
    unfold legRise
    rw [hr]
  unfold turnOff emit
  simp only [Nat.add_sub_cancel_left, rises, List.append_assoc]
  rfl

/-- What a turn-off drives and awaits (R150, R152). -/
theorem turnOff_spec {n : Nat} (e : Edge) {s : State} (hr : (hbOf (96 + n) s).rise = none) :
    (turnOff (96 + n) e s).legEn = setBit s.legEn n false ∧ (turnOff (96 + n) e s).legP = setBit s.legP n (!e.hi) ∧
    (turnOff (96 + n) e s).out
      = s.out ++ [Out.pin "LEG_EN" n 0 e.stamp, Out.pin "LEG_P" n (if e.hi then 0 else 1) (e.stamp + 8)] ∧
    (hbOf (96 + n) (turnOff (96 + n) e s)).edges = (hbOf (96 + n) s).edges ∧
    (e.stamp, e.stamp + rd (Reg.PGN_ACKTO (96 + n)) s % 2 ^ 17, e.hi) ∈ (hbOf (96 + n) (turnOff (96 + n) e s)).ackBy ∧
    (turnOff (96 + n) e s).mem = s.mem ∧ (turnOff (96 + n) e s).evt = s.evt := by
  have hhb : hbOf (96 + n) (turnOff (96 + n) e s) = { hbOf (96 + n) s with ackBy := (hbOf (96 + n) s).ackBy
      ++ [(e.stamp, e.stamp + rd (Reg.PGN_ACKTO (96 + n)) s % 2 ^ 17, e.hi)] } := by
    rw [turnOff_eq e hr]
    exact (hbOf_setHb ..).trans (if_pos rfl)
  rw [hhb]
  rw [turnOff_eq e hr]
  exact ⟨rfl, rfl, rfl, rfl, List.mem_append_right _ (List.mem_singleton.2 rfl), rfl, rfl⟩

/-- A turn-on whose acknowledgement is qualified (R149, R150): EN and P are driven, and the pin waits for the end of the FCLK
unless the trip gate is closed. -/
theorem turnOn_spec {n : Nat} {e : Edge} {s : State} (hq : qualifiedAt (96 + n) ((e.stamp - 16) / fclk) s = true) :
    (turnOn (96 + n) e s).legEn = setBit s.legEn n true ∧ (turnOn (96 + n) e s).legP = setBit s.legP n e.hi ∧
    (turnOn (96 + n) e s).out = s.out ∧
    hbOf (96 + n) (turnOn (96 + n) e s)
      = { hbOf (96 + n) s with rise := if tripGate (96 + n) s then (hbOf (96 + n) s).rise else some e.stamp } ∧
    (turnOn (96 + n) e s).mem = s.mem ∧ (turnOn (96 + n) e s).evt = s.evt := by
  unfold turnOn
  simp only [Nat.add_sub_cancel_left, hq, if_true]
  have gate : tripGate (96 + n) { s with legEn := setBit s.legEn n true, legP := setBit s.legP n e.hi } = tripGate (96 + n) s := rfl
  rw [gate]
  unfold when
  cases htrip : tripGate (96 + n) s
  · exact ⟨rfl, rfl, rfl, (hbOf_setHb ..).trans (if_pos rfl), rfl, rfl⟩
  · exact ⟨rfl, rfl, rfl, rfl, rfl, rfl⟩

theorem legRise_out (n : Nat) (s : State) : (legRise n s).out
    = s.out ++ (hbOf (96 + n) s).rise.toList.map (fun t => Out.pin "LEG_EN" n 1 t) := by
  unfold legRise
  split
  · rename_i t ht
    rw [ht]
    rfl
  · rename_i ht
    rw [ht]
    simp

/-! A skipped turn-on (R151). -/

/-- The state in which a skipped turn-on is recorded: the carry, the low intervals, SKIP and SKIPCNT. -/
def skipMarked (h : Nat) (e : Edge) (s : State) : State :=
  bump (Reg.PGN_SKIPCNT h) ⟨0, 16⟩ 1 (setB (Reg.PGN_HEVT h) Reg.PGN_HEVT_SKIP true
    (when (!e.hi) (uncountLow h e.stamp) (when (e.width != 0) (carryDropped h e.hi e.width) s)))

theorem skipTurnOn_eq (h : Nat) (e : Edge) (s : State) : skipTurnOn h e s
    = upsetThen (ctrId 5 h 0) (retireHb h) (record 56 1 h none (skipMarked h e s)) := rfl

theorem skipMarked_reacts (h : Nat) (e : Edge) (s : State) : Reacts s (skipMarked h e s) := by
  have count : NoFlags (Reg.PGN_SKIPCNT h) := fun j _ => by
    unfold Reg.PGN_HEVT Reg.PGN_SKIPCNT
    omega
  have carried : Reacts s (when (e.width != 0) (carryDropped h e.hi e.width) s) :=
    (Reacts.refl s).when (fun _ hu => hu.carryDropped)
  exact (carried.when (fun _ hu => hu.uncountLow)).raise.setF count

/-- The registers that mark a skip. -/
def skipRegs (h : Nat) : List Nat := [Reg.PGN_HSTAT h, Reg.PGN_HEVT h, Reg.PGN_ACC h, Reg.PGN_SKIPCNT h]

theorem skipMarked_silent (h : Nat) (e : Edge) (s : State) : Silent (skipRegs h) s (skipMarked h e s) := by
  have stat : Reg.PGN_HSTAT h ∈ skipRegs h := by simp [skipRegs]
  have evt : Reg.PGN_HEVT h ∈ skipRegs h := by simp [skipRegs]
  have acc : Reg.PGN_ACC h ∈ skipRegs h := by simp [skipRegs]
  have cnt : Reg.PGN_SKIPCNT h ∈ skipRegs h := by simp [skipRegs]
  have carried : ∀ u, Silent (skipRegs h) s u → Silent (skipRegs h) s (carryDropped h e.hi e.width u) := fun u hu =>
    hu.when (fun v hv => (hv.wrI acc).setB evt)
  exact .setF (.setB (.when (.when (.refl _ s) carried) (fun u hu => uncountLow_silent hu stat _)) evt) cnt

theorem skipMarked_skip (h : Nat) (e : Edge) (s : State) :
    on (Reg.PGN_HEVT h) Reg.PGN_HEVT_SKIP (skipMarked h e s) = true := by
  have other : Reg.PGN_HEVT h ≠ Reg.PGN_SKIPCNT h := by
    unfold Reg.PGN_HEVT Reg.PGN_SKIPCNT
    omega
  unfold skipMarked bump on
  rw [fl_setF_ne other]
  exact on_setB _ _ (by decide) (by decide) _ _

/-- A skipped turn-on shows SKIP and EV56, and drives nothing (R151). -/
theorem skipTurnOn_spec {h : Nat} (hh : h < 104) (e : Edge) (s : State) :
    on (Reg.PGN_HEVT h) Reg.PGN_HEVT_SKIP (skipTurnOn h e s) = true ∧ recorded 56 1 h none s (skipTurnOn h e s) ∧
    (∀ n, (skipTurnOn h e s).legEn.testBit n = true → s.legEn.testBit n = true) ∧
    (skipTurnOn h e s).legP = s.legP ∧ (skipTurnOn h e s).mem = s.mem := by
  have nseq : Reg.EVT_NSEQ ∉ skipRegs h := by
    simp only [skipRegs, List.mem_cons, List.not_mem_nil, or_false, Reg.EVT_NSEQ, Reg.PGN_HSTAT, Reg.PGN_HEVT,
      Reg.PGN_ACC, Reg.PGN_SKIPCNT]
    omega
  have first := (skipMarked_silent h e s).recorded nseq (src := 56) (grade := 1) (detail := h) (stg := none)
  have rest : Reacts (record 56 1 h none (skipMarked h e s)) (skipTurnOn h e s) :=
    (Reacts.refl _).upsetThen (fun _ hu => hu.retireHb)
  have after : Reacts (skipMarked h e s) (skipTurnOn h e s) := (Reacts.refl _).record.trans rest
  have whole : Reacts s (skipTurnOn h e s) := (skipMarked_reacts h e s).trans after
  exact ⟨after.on_flag hh _ (skipMarked_skip h e s), fun room => (first room).trans_le (rest.recs ..), whole.legEn,
    whole.legP, whole.mem⟩

/-! Acknowledgements that come, and those that do not (R150, R152, R157). -/

/-- A half-bridge that is to be retired is retired already, or its retirement waits for the next FCLK (R159). -/
theorem retireHb_outcome (h : Nat) (s : State) : hbState h (retireHb h s) = 2 ∨ retiring h (retireHb h s) = true := by
  unfold retireHb
  split
  · rename_i already
    simpa using already
  · right
    generalize { s with par := { s.par with power := s.par.power ++ [h] } } = u
    have noted : React.hb h ∈ (retireRecord h u).evt.react := by
      unfold retireRecord
      simp
    have graded : Reacts (retireRecord h u) (when (lastLeg h s)
        (under 60 h (gradeG5 (hbStage h s) (some (permanent 60 h)))) (retireRecord h u)) :=
      (Reacts.refl _).when (fun _ hu => hu.under (fun _ hv => hv.gradeG5))
    unfold retiring
    exact List.contains_iff_mem.2 (graded.react _ noted)

/-- The retirement for a missing acknowledgement, from the state that has read those that came (R152). -/
def retireUnacknowledged (h : Nat) (s : State) : State :=
  retireHb h (record 57 0 h none (setB (Reg.PGN_HEVT h) Reg.PGN_HEVT_ACKMISS true
    (setHb h { hbOf h s with ackBy := [] } s)))

theorem retireUnacknowledged_spec {h : Nat} (hh : h < 104) (s : State) :
    (hbState h (retireUnacknowledged h s) = 2 ∨ retiring h (retireUnacknowledged h s) = true) ∧
    on (Reg.PGN_HEVT h) Reg.PGN_HEVT_ACKMISS (retireUnacknowledged h s) = true ∧
    recorded 57 0 h none s (retireUnacknowledged h s) ∧ (hbOf h (retireUnacknowledged h s)).ackBy = [] ∧
    (retireUnacknowledged h s).mem = s.mem ∧ (retireUnacknowledged h s).nv = s.nv := by
  unfold retireUnacknowledged
  generalize hu : setB (Reg.PGN_HEVT h) Reg.PGN_HEVT_ACKMISS true (setHb h { hbOf h s with ackBy := [] } s) = u
  have nseq : Reg.EVT_NSEQ ∉ [Reg.PGN_HEVT h] := by
    simp only [List.mem_singleton, Reg.EVT_NSEQ, Reg.PGN_HEVT]
    omega
  have silent : Silent [Reg.PGN_HEVT h] s u := hu ▸ (Silent.refl _ s).setHb.setB (by simp)
  have flagged : on (Reg.PGN_HEVT h) Reg.PGN_HEVT_ACKMISS u = true := hu ▸ on_setB _ _ (by decide) (by decide) _ _
  have empty : (hbOf h u).ackBy = [] := by
    rw [← hu]
    exact congrArg HbSt.ackBy ((hbOf_setHb ..).trans (if_pos rfl))
  have hmem : u.mem = s.mem := by rw [← hu]; rfl
  have hnv : u.nv = s.nv := by rw [← hu]; rfl
  have retired : Reacts (record 57 0 h none u) (retireHb h (record 57 0 h none u)) := (Reacts.refl _).retireHb
  have whole : Reacts u (retireHb h (record 57 0 h none u)) := (Reacts.refl u).record.trans retired
  exact ⟨retireHb_outcome h _, whole.on_flag hh _ flagged,
    fun room => (silent.recorded nseq room).trans_le (retired.recs ..), whole.ackBy h empty, whole.mem.trans hmem,
    whole.nv.trans hnv⟩

/-- The state in which the acknowledgements of a half-bridge have been read. -/
def ackKnown (h : Nat) (s : State) : State := if isDirect h then ackTick s else ocAnswers h s

theorem ackTimeout_of_overdue {h : Nat} {s : State} (hu : hbUsed h (ackKnown h s) = true)
    (hany : (hbOf h (ackKnown h s)).ackBy.any (fun p => decide (p.2.1 ≤ (ackKnown h s).lt)) = true) :
    ackTimeout h s = retireUnacknowledged h (ackKnown h s) := by
  unfold ackTimeout
  exact if_pos (by rw [Bool.and_eq_true]; exact ⟨hu, hany⟩)

/-! O25, clause by clause: the commands of the direct legs. -/

/-- The edge that is due is due as well once the acknowledgements have been read. -/
theorem AckRead.due {s t : State} (r : AckRead s t) {h : Nat} {e : Edge}
    (due : dueEdge (hbOf h s).edges (s.lt + fclk) = some e) : dueEdge (hbOf h t).edges (t.lt + fclk) = some e := by
  rw [r.edges, r.lt, due]

theorem AckRead.nowF {s t : State} (r : AckRead s t) : nowF t = nowF s := congrArg (· / fclk) r.lt

theorem nseq_not_mem_directStats : Reg.EVT_NSEQ ∉ directStats := by decide

theorem exec_edgeExecute_missed (leg : Fin 8) {e : Edge} {s : State}
    (due : dueEdge (hbOf (96 + leg) s).edges (s.lt + fclk) = some e) (late : e.stamp < fclk * nowF s)
    (hu : hbUsed (96 + leg) s = true) : ∃ t, exec (.edgeExecute leg) s = .next t ∧ recorded 66 1 (96 + leg) none s t ∧
      (hbOf (96 + leg) t).edges = [] ∧ on (Reg.PGN_HEVT (96 + leg)) Reg.PGN_HEVT_SAFE t = true ∧
      t.legEn.testBit leg = false ∧ t.mem = s.mem := by
  obtain ⟨u, r, run⟩ := exec_edgeExecute leg s
  refine ⟨_, run, ?_⟩
  rw [edgeExecute_of_missed (r.due due) (r.nowF.symm ▸ late)]
  obtain ⟨hregs, hevt, -, hmem, -⟩ := levelP_frame (96 + leg) u
  have hu' : hbUsed (96 + leg) (levelP (96 + leg) u) = true := by
    have : hbUsed (96 + leg) (levelP (96 + leg) u) = hbUsed (96 + leg) u := by
      unfold hbUsed on fl rdW
      rw [hregs]
    rw [this, r.hbUsed, hu]
  obtain ⟨rec66, edges, safe, low, mem⟩ := missedLocal_spec leg.isLt hu'
  exact ⟨(r.silent.elsewhere hregs hevt).recorded_of nseq_not_mem_directStats rec66, edges, safe, low,
    mem.trans (hmem.trans r.mem)⟩

theorem exec_edgeExecute_turnOff (leg : Fin 8) {e : Edge} {s : State}
    (due : dueEdge (hbOf (96 + leg) s).edges (s.lt + fclk) = some e) (now : fclk * nowF s ≤ e.stamp) (off : e.on = false)
    (hp : (hbOf (96 + leg) s).pAt = none) (hr : (hbOf (96 + leg) s).rise = none) :
    ∃ t, exec (.edgeExecute leg) s = .next t ∧ t.legEn = setBit s.legEn leg false ∧ t.legP = setBit s.legP leg (!e.hi) ∧
      t.out = s.out ++ [Out.pin "LEG_EN" leg 0 e.stamp, Out.pin "LEG_P" leg (if e.hi then 0 else 1) (e.stamp + 8)] ∧
      (hbOf (96 + leg) t).edges = (hbOf (96 + leg) s).edges.erase e ∧
      (e.stamp, e.stamp + rd (Reg.PGN_ACKTO (96 + leg)) s % 2 ^ 17, e.hi) ∈ (hbOf (96 + leg) t).ackBy ∧
      t.mem = s.mem ∧ t.evt = s.evt := by
  obtain ⟨u, r, run⟩ := exec_edgeExecute leg s
  refine ⟨_, run, ?_⟩
  rw [edgeExecute_of_due (r.due due) (r.nowF.symm ▸ now) ((r.pAt _).trans hp), off, if_neg Bool.false_ne_true]
  have taken := hbOf_edgeTaken (96 + leg) e u
  have hr' : (hbOf (96 + leg) (edgeTaken (96 + leg) e u)).rise = none := by
    rw [taken]
    exact (r.rise _).trans hr
  obtain ⟨legEn, legP, out, edges, ackBy, mem, evt⟩ := turnOff_spec e hr'
  have ackto : rd (Reg.PGN_ACKTO (96 + leg)) (edgeTaken (96 + leg) e u) = rd (Reg.PGN_ACKTO (96 + leg)) s :=
    congrArg BitVec.toNat (r.rdW (not_mem_directStats (fun n _ => by unfold Reg.PGN_ACKTO Reg.PGN_HSTAT; omega)))
  refine ⟨?_, ?_, ?_, ?_, ?_, ?_, ?_⟩
  · rw [legEn, ← r.legEn]; rfl
  · rw [legP, ← r.legP]; rfl
  · rw [out, ← r.out]; rfl
  · rw [edges, taken, r.edges]
  · rwa [ackto] at ackBy
  · exact mem.trans r.mem
  · exact evt.trans r.silent.evt

theorem exec_edgeExecute_turnOn (leg : Fin 8) {e : Edge} {s : State}
    (due : dueEdge (hbOf (96 + leg) s).edges (s.lt + fclk) = some e) (now : fclk * nowF s ≤ e.stamp) (on_ : e.on = true)
    (hp : (hbOf (96 + leg) s).pAt = none) (hr : (hbOf (96 + leg) s).rise = none)
    (hq : qualifiedAt (96 + leg) ((e.stamp - 16) / fclk) s = true) :
    ∃ t, exec (.edgeExecute leg) s = .next t ∧ t.legEn = setBit s.legEn leg true ∧ t.legP = setBit s.legP leg e.hi ∧
      t.out = s.out ∧ (legRise leg t).out
        = (if tripGate (96 + leg) s then s.out else s.out ++ [Out.pin "LEG_EN" leg 1 e.stamp]) ∧
      (hbOf (96 + leg) t).edges = (hbOf (96 + leg) s).edges.erase e ∧ t.mem = s.mem ∧ t.evt = s.evt := by
  obtain ⟨u, r, run⟩ := exec_edgeExecute leg s
  refine ⟨_, run, ?_⟩
  rw [edgeExecute_of_due (r.due due) (r.nowF.symm ▸ now) ((r.pAt _).trans hp), on_, if_pos rfl]
  have taken := hbOf_edgeTaken (96 + leg) e u
  have hq' : qualifiedAt (96 + leg) ((e.stamp - 16) / fclk) (edgeTaken (96 + leg) e u) = true := by
    rw [qualifiedAt_edgeTaken, r.qualifiedAt, hq]
  obtain ⟨legEn, legP, out, hb, mem, evt⟩ := turnOn_spec hq'
  have gate : tripGate (96 + leg) (edgeTaken (96 + leg) e u) = tripGate (96 + leg) s := r.tripGate _
  rw [taken, gate, r.rise, hr] at hb
  refine ⟨?_, ?_, ?_, ?_, ?_, ?_, ?_⟩
  · rw [legEn, ← r.legEn]; rfl
  · rw [legP, ← r.legP]; rfl
  · exact out.trans r.out
  · rw [legRise_out, hb, out.trans r.out]
    cases tripGate (96 + leg) s
    · rfl
    · simp
  · rw [hb, r.edges]
  · exact mem.trans r.mem
  · exact evt.trans r.silent.evt

theorem exec_edgeExecute_skip (leg : Fin 8) {e : Edge} {s : State}
    (due : dueEdge (hbOf (96 + leg) s).edges (s.lt + fclk) = some e) (now : fclk * nowF s ≤ e.stamp) (on_ : e.on = true)
    (hp : (hbOf (96 + leg) s).pAt = none) (hq : qualifiedAt (96 + leg) ((e.stamp - 16) / fclk) s = false) :
    ∃ t, exec (.edgeExecute leg) s = .next t ∧ on (Reg.PGN_HEVT (96 + leg)) Reg.PGN_HEVT_SKIP t = true ∧
      recorded 56 1 (96 + leg) none s t ∧ (t.legEn.testBit leg = true → s.legEn.testBit leg = true) ∧ t.legP = s.legP ∧
      t.mem = s.mem := by
  obtain ⟨u, r, run⟩ := exec_edgeExecute leg s
  refine ⟨_, run, ?_⟩
  rw [edgeExecute_of_due (r.due due) (r.nowF.symm ▸ now) ((r.pAt _).trans hp), on_, if_pos rfl]
  have hq' : qualifiedAt (96 + leg) ((e.stamp - 16) / fclk) (edgeTaken (96 + leg) e u) = false := by
    rw [qualifiedAt_edgeTaken, r.qualifiedAt, hq]
  have skips : turnOn (96 + leg) e (edgeTaken (96 + leg) e u)
      = skipTurnOn (96 + leg) e (edgeTaken (96 + leg) e u) := by
    unfold turnOn
    exact if_neg (by rw [hq']; exact Bool.false_ne_true)
  rw [skips]
  obtain ⟨skip, rec56, legEn, legP, mem⟩ := skipTurnOn_spec (h := 96 + leg) (by omega) e (edgeTaken (96 + leg) e u)
  refine ⟨skip, r.silent.setHb.recorded_of nseq_not_mem_directStats rec56, fun h => ?_, legP.trans r.legP, mem.trans r.mem⟩
  rw [← r.legEn]
  exact legEn leg h

theorem exec_ackInputChange_rise (leg : Fin 8) {level : Bool} {s : State} (high : level = true)
    (hat : (hbOf (96 + leg) s).ackAt = none) : exec (.ackInputChange leg level) s = .next (setHb (96 + leg)
      { hbOf (96 + leg) s with ackAt := some (nowF s + 2 + fl (Reg.PGN_HCFG (96 + leg)) Reg.PGN_HCFG_ACKQ s) } s) := by
  have rises : ackInput leg level s = setHb (96 + leg)
      { hbOf (96 + leg) s with ackAt := some (nowF s + 2 + fl (Reg.PGN_HCFG (96 + leg)) Reg.PGN_HCFG_ACKQ s) } s := by
    unfold ackInput
    simp only [high, hat]
  exact congrArg Host.Outcome.next rises

/-- An acknowledgement that is low and was last qualified before an FCLK is not qualified in it. -/
theorem not_qualifiedAt {h f : Nat} {s : State} (hat : (hbOf h s).ackAt = none)
    (hprev : ∀ a b, (hbOf h s).ackPrev = some (a, b) → b ≤ f) : qualifiedAt h f s = false := by
  unfold qualifiedAt
  cases hp : (hbOf h s).ackPrev with
  | none => simp [hat, hp]
  | some ab =>
    obtain ⟨a, b⟩ := ab
    have ended := hprev a b hp
    simp [hat, hp, show ¬ f < b by omega]

/-- A fall of the acknowledgement (R150): it qualifies no more from the FCLK in which the synchroniser reads it. -/
theorem ackInput_fall (n : Nat) (s : State) : (hbOf (96 + n) (ackInput n false s)).ackAt = none ∧
    (∀ f, nowF s + 2 ≤ f → (∀ a b, (hbOf (96 + n) s).ackPrev = some (a, b) → b ≤ nowF s + 2) →
      qualifiedAt (96 + n) f (ackInput n false s) = false) ∧
    (ackInput n false s).regs = s.regs ∧ (ackInput n false s).mem = s.mem ∧ (ackInput n false s).evt = s.evt := by
  cases hat : (hbOf (96 + n) s).ackAt with
  | none =>
    have stays : ackInput n false s = s := by
      unfold ackInput
      simp only [hat]
    rw [stays]
    exact ⟨hat, fun f hf hprev => not_qualifiedAt hat (fun a b hp => (hprev a b hp).trans hf), rfl, rfl, rfl⟩
  | some q =>
    have falls : ackInput n false s = setHb (96 + n) { hbOf (96 + n) s with
        ackAt := none
        ackPrev := if q < nowF s + 2 then some (q, nowF s + 2) else (hbOf (96 + n) s).ackPrev } s := by
      unfold ackInput
      simp only [hat]
    rw [falls]
    refine ⟨?_, fun f hf hprev => not_qualifiedAt ?_ ?_, rfl, rfl, rfl⟩
    · rw [hbOf_setHb, if_pos rfl]
    · rw [hbOf_setHb, if_pos rfl]
    · rw [hbOf_setHb, if_pos rfl]
      intro a b hp
      dsimp only at hp
      split at hp
      · cases hp
        exact hf
      · exact (hprev a b hp).trans hf

theorem exec_ackTimeout_link {hb : Fin 104} {s : State} (hu : hbUsed hb s = true) (link : hb.val < 96)
    (overdue : (hbOf hb s).ackBy.any (fun p => decide (p.2.1 ≤ s.lt) && (decide (s.lt < p.1)
      || !ocOff (lnkOf (hb / 4) s).oc hb p.2.2)) = true) : ∃ t, exec (.ackTimeout hb) s = .next t ∧
      (hbState hb t = 2 ∨ retiring hb t = true) ∧ on (Reg.PGN_HEVT hb) Reg.PGN_HEVT_ACKMISS t = true ∧
      recorded 57 0 hb none s t ∧ (hbOf hb t).ackBy = [] ∧ t.mem = s.mem ∧ t.nv = s.nv := by
  have known : ackKnown hb s = ocAnswers hb s := if_neg (by simp [isDirect, link])
  have left : (hbOf hb (ocAnswers hb s)).ackBy
      = (hbOf hb s).ackBy.filter (fun p => decide (s.lt < p.1) || !ocOff (lnkOf (hb / 4) s).oc hb p.2.2) :=
    congrArg HbSt.ackBy ((hbOf_setHb ..).trans (if_pos rfl))
  have hany : (hbOf hb (ocAnswers hb s)).ackBy.any (fun p => decide (p.2.1 ≤ (ocAnswers hb s).lt)) = true := by
    rw [left, List.any_filter, ← overdue]
    simp only [Bool.and_comm]
    rfl
  have silent : Silent [] s (ocAnswers hb s) := (Silent.refl _ s).setHb
  obtain ⟨outcome, flag, rec57, empty, mem, nv⟩ := retireUnacknowledged_spec hb.isLt (ocAnswers hb s)
  refine ⟨retireUnacknowledged hb (ocAnswers hb s), ?_, outcome, flag,
    silent.recorded_of (by simp) rec57, empty, mem, nv⟩
  have retires := ackTimeout_of_overdue (h := hb) (s := s) (by rw [known]; exact hu) (by rw [known]; exact hany)
  rw [known] at retires
  exact congrArg Host.Outcome.next retires

theorem exec_ackTimeout_direct {hb : Fin 104} {s : State} (hu : hbUsed hb s = true) (direct : 96 ≤ hb.val)
    (hat : (hbOf hb s).ackAt = none) (hprev : (hbOf hb s).ackPrev = none)
    (overdue : (hbOf hb s).ackBy.any (fun p => decide (p.2.1 ≤ s.lt)) = true) : ∃ t, exec (.ackTimeout hb) s = .next t ∧
      (hbState hb t = 2 ∨ retiring hb t = true) ∧ on (Reg.PGN_HEVT hb) Reg.PGN_HEVT_ACKMISS t = true ∧
      recorded 57 0 hb none s t ∧ (hbOf hb t).ackBy = [] ∧ t.mem = s.mem ∧ t.nv = s.nv := by
  have known : ackKnown hb s = ackTick s := if_pos (by simp [isDirect, direct])
  have r : AckRead s (ackKnown hb s) := known ▸ ackTick_ackRead s
  have retires : ackTimeout hb s = retireUnacknowledged hb (ackKnown hb s) :=
    ackTimeout_of_overdue (by rw [r.hbUsed, hu]) (by rw [r.unknown _ hat hprev, r.lt, overdue])
  generalize ackKnown hb s = u at r retires
  obtain ⟨outcome, flag, rec57, empty, mem, nv⟩ := retireUnacknowledged_spec hb.isLt u
  exact ⟨_, congrArg Host.Outcome.next retires, outcome, flag, r.silent.recorded_of nseq_not_mem_directStats rec57, empty,
    mem.trans r.mem, nv.trans r.nv⟩

theorem bsrecTimeout_of_due {h u : Nat} {s : State} (huv : (hbOf h s).uvBy = some u) (hu : u ≤ s.lt) :
    bsrecTimeout h s = if (lnkOf (h / 4) s).uv.testBit (h % 4) && !isDirect h
      then retireHb h (setHb h { hbOf h s with uvBy := none } s) else setHb h { hbOf h s with uvBy := none } s := by
  unfold bsrecTimeout
  rw [huv]
  exact if_pos hu

theorem exec_bsrecTimeout_reported {hb : Fin 104} {u : Nat} {s : State} (huv : (hbOf hb s).uvBy = some u) (hu : u ≤ s.lt)
    (link : hb.val < 96) (reported : (lnkOf (hb / 4) s).uv.testBit (hb % 4) = true) :
    ∃ t, exec (.bsrecTimeout hb) s = .next t ∧ (hbState hb t = 2 ∨ retiring hb t = true) ∧ (hbOf hb t).uvBy = none ∧
      t.mem = s.mem ∧ t.nv = s.nv := by
  have retires : bsrecTimeout hb s = retireHb hb (setHb hb { hbOf hb s with uvBy := none } s) :=
    (bsrecTimeout_of_due huv hu).trans (if_pos (by simp [reported, isDirect, link]))
  have kept : Reacts (setHb hb { hbOf hb s with uvBy := none } s) (retireHb hb (setHb hb { hbOf hb s with uvBy := none } s)) :=
    (Reacts.refl _).retireHb
  refine ⟨_, congrArg Host.Outcome.next retires, retireHb_outcome hb _, ?_, kept.mem, kept.nv⟩
  rw [kept.uvBy, hbOf_setHb, if_pos rfl]

theorem exec_bsrecTimeout_ended {hb : Fin 104} {u : Nat} {s : State} (huv : (hbOf hb s).uvBy = some u) (hu : u ≤ s.lt)
    (ended : 96 ≤ hb.val ∨ (lnkOf (hb / 4) s).uv.testBit (hb % 4) = false) :
    exec (.bsrecTimeout hb) s = .next (setHb hb { hbOf hb s with uvBy := none } s) := by
  refine congrArg Host.Outcome.next ((bsrecTimeout_of_due huv hu).trans (if_neg ?_))
  rcases ended with direct | clear
  · simp [isDirect, direct]
  · simp [clear]

/-- Settles O25: each clause by the rule of its unit, from the state that has read the acknowledgements of the FCLK. -/
theorem directLegs : Obligations.DirectLegs := by
  refine ⟨?_, ?_, ?_, ?_, ?_, ?_, ?_, ?_, ?_, ?_⟩
  · exact fun leg e s due late hu => exec_edgeExecute_missed leg due late hu
  · exact fun leg e s due now off hp hr => exec_edgeExecute_turnOff leg due now off hp hr
  · exact fun leg e s due now on_ hp hr hq => exec_edgeExecute_turnOn leg due now on_ hp hr hq
  · exact fun leg e s due now on_ hp hq => exec_edgeExecute_skip leg due now on_ hp hq
  · exact fun leg level s high hat => exec_ackInputChange_rise leg high hat
  · exact fun leg level s low => ⟨_, rfl, low ▸ ackInput_fall leg s⟩
  · exact fun hb s hu link overdue => exec_ackTimeout_link hu link overdue
  · exact fun hb s hu direct hat hprev overdue => exec_ackTimeout_direct hu direct hat hprev overdue
  · exact fun hb u s huv hu link reported => exec_bsrecTimeout_reported huv hu link reported
  · exact fun hb u s huv hu ended => exec_bsrecTimeout_ended huv hu ended

end Sys2Proof.Machine
end

section
/-! SUPPORT. What the work of one FCLK keeps besides what every step keeps: time, the configuration and the Drums a Stage has.
The reactions, the units that run by themselves, and the front of a slot's firing are all steady in this sense. -/

namespace Sys2Proof.Machine

/-- No configuration word of a Drum lies at the address. -/
abbrev OffDrumCfg (a : Nat) : Prop := ∀ st, st < 4 → Reg.DRM_CFG st ≠ a

/-- The blocks above that of the Drums. -/
theorem OffDrumCfg.above {b k : Nat} (h : Nat.ble 0x40031000 b = true) : OffDrumCfg (b + k) := by
  have h := Nat.le_of_ble_eq_true h
  intro st hst
  unfold Reg.DRM_CFG
  omega

theorem OffDrumCfg.high {a : Nat} (h : Nat.ble 0x40031000 a = true) : OffDrumCfg a := above (k := 0) h

/-- A register of a Stage at another offset than DRM_CFG. -/
theorem OffDrumCfg.beside {b m k : Nat} (hm : m % 0x100 = 0) (hb : b % 0x100 ≠ 0xC4) :
    OffDrumCfg (b + m * k) := by
  intro st _
  unfold Reg.DRM_CFG
  obtain ⟨c, rfl⟩ := Nat.dvd_of_mod_eq_zero hm
  rw [Nat.mul_assoc]
  omega

/-- From `s` to `t` no time passes, the configuration stands, and nothing that every step keeps is lost. -/
structure Steady (s t : State) : Prop extends Kept s t where
  lt : t.lt = s.lt
  ltRun : t.ltRun = s.ltRun
  configured : t.configured = s.configured
  drumCfg : ∀ st, st < 4 → rdW (Reg.DRM_CFG st) t = rdW (Reg.DRM_CFG st) s

/-- The parts of the state that `Steady` speaks of. -/
def timeAndStores (s : State) : List Instr × List Host.Cell × Tbl Word × NvSt × List Out × Nat × Bool × Bool :=
  (s.pending, s.mem, s.regs, s.nv, s.out, s.lt, s.ltRun, s.configured)

namespace Steady

variable {s t u : State} {a b c d h i j k l m n p q st v w x y : Nat} {F : Fld} {hi on_ : Bool}

theorem refl (s : State) : Steady s s := ⟨.refl s, rfl, rfl, rfl, fun _ _ => rfl⟩

theorem trans (r : Steady s t) (g : Steady t u) : Steady s u :=
  ⟨r.toKept.trans g.toKept, g.lt.trans r.lt, g.ltRun.trans r.ltRun, g.configured.trans r.configured,
    fun i hi => (g.drumCfg i hi).trans (r.drumCfg i hi)⟩

theorem hasDrum (r : Steady s t) (hst : st < 4) : hasDrum st t = hasDrum st s := by
  unfold Machine.hasDrum on fl
  rw [r.drumCfg st hst]

/-- A change of other parts of the state. -/
theorem elsewhere (r : Steady s t) (same : timeAndStores u = timeAndStores t) : Steady s u := by
  simp only [timeAndStores, Prod.mk.injEq] at same
  obtain ⟨pending, mem, regs, nv, out, lt, ltRun, configured⟩ := same
  refine r.trans ⟨⟨pending, ?_, ?_, ?_, ?_, ?_, ?_⟩, lt, ltRun, configured, fun _ _ => ?_⟩
  · rw [mem]; exact id
  · rw [regs]; exact id
  · rw [nv]
  · rw [nv]; exact fun _ => id
  · rw [nv]; exact id
  · rw [out]
  · unfold rdW; rw [regs]

/-! The named writes. -/

theorem wrW (r : Steady s t) {w : Word} (off : OffDrumCfg a) : Steady s (wrW a w t) := by
  refine r.trans ⟨wrW_kept (.refl t), rfl, rfl, rfl, fun i hi => ?_⟩
  rw [rdW_wrW, if_neg (off i hi)]

theorem wr (r : Steady s t) (off : OffDrumCfg a) : Steady s (wr a n t) := r.wrW off
theorem wrI (r : Steady s t) {z : Int} (off : OffDrumCfg a) : Steady s (wrI a z t) := r.wrW off
theorem setF (r : Steady s t) (off : OffDrumCfg a) : Steady s (setF a F v t) := r.wrW off
theorem setB (r : Steady s t) (off : OffDrumCfg a) : Steady s (setB a F on_ t) := r.wrW off
theorem setBitAt (r : Steady s t) (off : OffDrumCfg a) : Steady s (setBitAt a k on_ t) := r.wrW off
theorem bump (r : Steady s t) (off : OffDrumCfg a) : Steady s (bump a F n t) := r.wrW off

theorem wr64 (r : Steady s t) (offA : OffDrumCfg a) (offB : OffDrumCfg b) :
    Steady s (wr64 a b n t) := (r.wr offA).wr offB

theorem emit (r : Steady s t) {o : Out} : Steady s (emit o t) :=
  r.trans ⟨emit_kept (.refl t), rfl, rfl, rfl, fun _ _ => rfl⟩

theorem stBytes (r : Steady s t) {l : List Byte} : Steady s (stBytes a l t) :=
  r.trans ⟨stBytes_kept (.refl t), rfl, rfl, rfl, fun _ _ => rfl⟩

theorem stN (r : Steady s t) : Steady s (stN a n v t) := r.stBytes

theorem fresh (r : Steady s t) : Steady s (fresh t).2 := r.elsewhere rfl

theorem setBob (r : Steady s t) {x : BobSt} : Steady s (setBob n x t) := r.elsewhere rfl
theorem setDrm (r : Steady s t) {x : DrumSt} : Steady s (setDrm n x t) := r.elsewhere rfl
theorem setInst (r : Steady s t) {x : InstSt} : Steady s (setInst n x t) := r.elsewhere rfl
theorem setSti (r : Steady s t) {x : StiSt} : Steady s (setSti n x t) := r.elsewhere rfl
theorem setCar (r : Steady s t) {x : CarSt} : Steady s (setCar n x t) := r.elsewhere rfl
theorem setHb (r : Steady s t) {x : HbSt} : Steady s (setHb n x t) := r.elsewhere rfl
theorem setPgn (r : Steady s t) {x : PgnSt} : Steady s (setPgn n x t) := r.elsewhere rfl
theorem setLnk (r : Steady s t) {x : LnkSt} : Steady s (setLnk n x t) := r.elsewhere rfl
theorem setEp (r : Steady s t) {x : EpSt} : Steady s (setEp n x t) := r.elsewhere rfl
theorem setLane (r : Steady s t) {x : LaneSt} : Steady s (setLane n x t) := r.elsewhere rfl
theorem setBank (r : Steady s t) {x : AdcSt} : Steady s (setBank n x t) := r.elsewhere rfl
theorem setChan (r : Steady s t) {x : HmpCh} : Steady s (setChan n x t) := r.elsewhere rfl
theorem setDma (r : Steady s t) {x : DmaSt} : Steady s (setDma n x t) := r.elsewhere rfl
theorem setLock (r : Steady s t) {x : Lock} : Steady s (setLock n x t) := r.elsewhere rfl
theorem setSaf (r : Steady s t) {f : SafSt → SafSt} : Steady s (setSaf f t) := r.elsewhere rfl
theorem setPar (r : Steady s t) {f : ParSt → ParSt} : Steady s (setPar f t) := r.elsewhere rfl
theorem setMc (r : Steady s t) {f : McSt → McSt} : Steady s (setMc f t) := r.elsewhere rfl

theorem withEvt (r : Steady s t) {x : EvtSt} : Steady s { t with evt := x } := r.elsewhere rfl
theorem withTack (r : Steady s t) {x : TackSt} : Steady s { t with tack := x } := r.elsewhere rfl
theorem withPar (r : Steady s t) {x : ParSt} : Steady s { t with par := x } := r.elsewhere rfl
theorem withPrt (r : Steady s t) {x : PrtSt} : Steady s { t with prt := x } := r.elsewhere rfl
theorem withHmp (r : Steady s t) {x : HmpSt} : Steady s { t with hmp := x } := r.elsewhere rfl
theorem withFab (r : Steady s t) {x : FabSt} : Steady s { t with fab := x } := r.elsewhere rfl
theorem withSpn (r : Steady s t) {x : SpnSt} : Steady s { t with spn := x } := r.elsewhere rfl
theorem withCyc (r : Steady s t) {x : CycSt} : Steady s { t with cyc := x } := r.elsewhere rfl
theorem withLegEn (r : Steady s t) : Steady s { t with legEn := n } := r.elsewhere rfl
theorem withLegP (r : Steady s t) : Steady s { t with legP := n } := r.elsewhere rfl
theorem withClk (r : Steady s t) {x : ClkSt} : Steady s { t with clk := x } := r.elsewhere rfl

theorem when (r : Steady s t) {f : State → State} (hf : ∀ u, Steady s u → Steady s (f u)) : Steady s (when on_ f t) := by
  unfold Machine.when
  split
  · exact hf _ r
  · exact r

theorem each {α : Type} (r : Steady s t) {l : List α} {f : α → State → State}
    (hf : ∀ z ∈ l, ∀ u, Steady s u → Steady s (f z u)) : Steady s (each l f t) := each_induct r hf

theorem of_fst {α : Type} {z : α} {p : State × α} (e : p = (t, z)) (r : Steady s p.1) : Steady s t := by
  subst e
  exact r

theorem of_snd {α : Type} {z : α} {p : α × State} (e : p = (z, t)) (r : Steady s p.2) : Steady s t := by
  subst e
  exact r

theorem foldl_fst {α β : Type} {z : α} (r : Steady s t) {l : List β} {f : State × α → β → State × α}
    (hf : ∀ p x, Steady s p.1 → Steady s (f p x).1) : Steady s (l.foldl f (t, z)).1 :=
  List.foldlRecOn l f (motive := fun p => Steady s p.1) r (fun p hp x _ => hf p x hp)

theorem foldl_snd {α β : Type} {z : α} (r : Steady s t) {l : List β} {f : α × State → β → α × State}
    (hf : ∀ p x, Steady s p.2 → Steady s (f p x).2) : Steady s (l.foldl f (z, t)).2 :=
  List.foldlRecOn l f (motive := fun p => Steady s p.2) r (fun p hp x _ => hf p x hp)

/-! Records (R202-R205). -/

theorem hmpPulse (r : Steady s t) : Steady s (hmpPulse a b t) := r.withHmp

theorem flushLoss (r : Steady s t) : Steady s (flushLoss t) := by
  unfold Machine.flushLoss
  split
  · exact r
  · split
    · exact .hmpPulse r.withEvt
    · exact r

theorem evtShow (r : Steady s t) : Steady s (evtShow t) := .setF (.setB (.setB r (.high rfl)) (.high rfl)) (.high rfl)
theorem lose (r : Steady s t) : Steady s (lose t) := .setB (.bump r (.high rfl)) (.high rfl)

theorem number (r : Steady s t) {x : EvRec} : Steady s (number x t) := by
  unfold Machine.number
  extract_lets t1 e1 x' t2
  have r1 : Steady s t1 := .hmpPulse r.flushLoss
  have r2 : Steady s t2 := r1.when (fun _ hu => hu.wr (.high rfl))
  split
  · exact .evtShow (.lose r1.withEvt)
  · refine .evtShow ?_
    split
    · exact r2.withEvt
    · exact .lose r2.withEvt

theorem accept (r : Steady s t) {x : EvRec} : Steady s (accept x t) := by
  unfold Machine.accept
  split
  · exact r.number
  · split
    · exact .number r.withEvt
    · exact r.withEvt

theorem record (r : Steady s t) {g : Option Nat} : Steady s (record a b c g t) := r.accept
theorem recordAtf (r : Steady s t) {g : Option Nat} : Steady s (recordAtf a b c d g t) := r.accept

theorem acceptWaiting (r : Steady s t) : Steady s (acceptWaiting t) := by
  unfold Machine.acceptWaiting
  split
  · exact .each r.withEvt (fun _ _ _ hu => hu.number)
  · exact r

/-! Counters and reactions (R208-R213). -/

theorem under (r : Steady s t) {f : State → State} (hf : ∀ u, Steady s u → Steady s (f u)) :
    Steady s (under a b f t) := .withEvt (hf _ r.withEvt)

theorem setCtr (r : Steady s t) {z : Nat × Nat} : Steady s (setCtr a z t) := r.withEvt
theorem ucShow (r : Steady s t) : Steady s (ucShow t) := .wr (.setF (.setF (.setF r (.high rfl)) (.high rfl)) (.high rfl)) (.high rfl)

theorem leaks (r : Steady s t) {z : Tbl (Nat × Nat × Nat)} :
    Steady s (if on_ then { t with evt := { t.evt with leaks := z } } else t) := by
  split
  · exact r.withEvt
  · exact r

theorem upset (r : Steady s t) : Steady s (upset a t).1 := by
  unfold Machine.upset
  rcases ctrNW a t with ⟨n, w⟩
  rcases ctrOf a t with ⟨l, o⟩
  rcases Tbl.get (0, 0, 0) t.evt.leaks a with ⟨k, x, took⟩
  dsimp -zeta only
  extract_lets leaked l'
  split
  · exact .ucShow (.setCtr r.leaks)
  · exact .record (.setB (.ucShow (.setCtr r.leaks)) (.high rfl))

theorem upsetThen (r : Steady s t) {f : State → State} (hf : ∀ u, Steady s u → Steady s (f u)) :
    Steady s (upsetThen a f t) := by
  unfold Machine.upsetThen
  dsimp only
  split
  · exact r.upset.under hf
  · exact r.upset

theorem setG3 (r : Steady s t) {z : List Cause} : Steady s (setG3 st z t) := .setB r.withEvt (.beside rfl (by decide))
theorem addG3 (r : Steady s t) {z : Cause} : Steady s (addG3 st z t) := r.setG3
theorem dropG3 (r : Steady s t) {z : Cause} : Steady s (dropG3 st z t) := r.setG3
theorem setG5 (r : Steady s t) {z : List Cause} : Steady s (setG5 st z t) := .setBitAt r.withEvt (.high rfl)
theorem addG5 (r : Steady s t) {z : Cause} : Steady s (addG5 st z t) := r.setG5
theorem dropG5 (r : Steady s t) {z : Cause} : Steady s (dropG5 st z t) := r.setG5

theorem dropCause (r : Steady s t) {z : Cause} : Steady s (dropCause z t) := r.each (fun _ _ _ hu => hu.dropG3.dropG5)

theorem verified (r : Steady s t) : Steady s (verified a t) := by
  unfold Machine.verified
  extract_lets t1
  have r1 : Steady s t1 := r.when (fun _ hu => hu.withEvt)
  split
  · exact .dropCause r1.withEvt
  · exact r1

theorem endHold (r : Steady s t) : Steady s (endHold a t) := .verified (r.elsewhere rfl)

theorem gradeG3 (r : Steady s t) {z : Option Cause} : Steady s (gradeG3 st z t) := by
  unfold Machine.gradeG3
  extract_lets t1 t2
  have r1 : Steady s t1 := r.bump (.beside rfl (by decide))
  have r2 : Steady s t2 := by
    cases z with
    | none => exact r1
    | some z => exact r1.addG3
  exact r2.record

theorem gradeG3All (r : Steady s t) {l : List Nat} {z : Option Cause} : Steady s (gradeG3All l z t) :=
  r.each (fun _ _ _ hu => hu.gradeG3)

/-! The safe state of a half-bridge and the loss of pulses (R158, R108). -/

theorem sendOff (r : Steady s t) : Steady s (sendOff n m t) := r.when (fun _ hu => hu.setLnk)
theorem sendOffs (r : Steady s t) {l : List Nat} : Steady s (sendOffs l t) := r.each (fun _ _ _ hu => hu.sendOff)
theorem uncountLow (r : Steady s t) : Steady s (uncountLow h a t) := .setF r.setHb (.above rfl)
theorem noteOff (r : Steady s t) : Steady s (noteOff h hi a t) := r.withPrt
theorem noteOn (r : Steady s t) : Steady s (noteOn h hi a t) := r.withPrt

theorem legRise (r : Steady s t) : Steady s (legRise n t) := by
  unfold Machine.legRise
  split
  · exact .emit r.setHb
  · exact r

theorem legOff (r : Steady s t) : Steady s (legOff n t) := by
  unfold Machine.legOff
  extract_lets late
  clear_value late
  split
  · exact .noteOff (.withLegEn r.setHb)
  · exact .when (.withLegEn r.legRise) (fun _ hu => hu.emit)

theorem safeHb (r : Steady s t) : Steady s (safeHb h t) := by
  unfold Machine.safeHb
  extract_lets lows cut t1 x t2 t3 k mine
  have r1 : Steady s t1 := r.each (fun _ _ _ hu => hu.uncountLow)
  have r3 : Steady s t3 := .setB (.setB (.setB r1.setHb (.above rfl)) (.above rfl)) (.above rfl)
  split
  · exact r3.legOff
  · exact r3.setLnk

theorem holdHb (r : Steady s t) : Steady s (holdHb c h t) := by
  unfold Machine.holdHb
  split
  · exact .safeHb (.when (.setF (r.when (fun _ hu => hu.setHb)) (.above rfl)) (fun _ hu => hu.setF (.above rfl)))
  · exact r

theorem holdMany (r : Steady s t) {l : List Nat} : Steady s (holdMany c l t) :=
  .sendOffs (r.each (fun _ _ _ hu => hu.holdHb))

theorem trackIn (r : Steady s t) : Steady s (trackIn n t) := by
  unfold Machine.trackIn
  extract_lets mode
  split
  · exact r
  · exact .setF r.setInst (.above rfl)

theorem pulsesOff (r : Steady s t) : Steady s (pulsesOff st d t) :=
  .holdMany (.each (.when (r.setB (.above rfl)) (fun _ hu => hu.record)) (fun _ _ _ hu => hu.trackIn))

theorem gradeG5For (r : Steady s t) {z : Option Cause} : Steady s (gradeG5For n st z t) := by
  unfold Machine.gradeG5For
  extract_lets was t1 t2 _ t3 t4 t5
  have r1 : Steady s t1 := r.setBitAt (.high rfl)
  have r2 : Steady s t2 := by
    cases z with
    | none => exact r1
    | some z => exact r1.addG5
  have r3 : Steady s t3 := r2.withEvt
  exact .pulsesOff (.when r3.setDrm (fun _ hu => hu.record))

theorem gradeG5 (r : Steady s t) {z : Option Cause} : Steady s (gradeG5 st z t) := r.gradeG5For

theorem gradeG5All (r : Steady s t) {l : List Nat} {z : Option Cause} : Steady s (gradeG5All l z t) :=
  r.each (fun _ _ _ hu => hu.gradeG5)

/-! Urgent frames and G4 (R209, R346, R381). -/

theorem portTaken (r : Steady s t) : Steady s (portTaken p n hi t) := r.withSpn
theorem urgentStart (r : Steady s t) {z : Urgent} : Steady s (urgentStart p z t) := .emit r.portTaken

theorem urgentGo (r : Steady s t) : Steady s (urgentGo p t) := by
  unfold Machine.urgentGo
  split
  · exact r
  · split
    · exact .urgentStart r.withSpn
    · exact r

theorem urgentPut (r : Steady s t) {z : Urgent} : Steady s (urgentPut p z t) := by
  unfold Machine.urgentPut
  split
  · exact .urgentGo r.withSpn
  · exact r

theorem urgentOut (r : Steady s t) {z : Urgent} : Steady s (urgentOut z t) := by
  unfold Machine.urgentOut
  split
  · exact r.each (fun _ _ _ hu => hu.urgentPut)
  · exact r

theorem sendUrgent (r : Steady s t) {l : List Nat} : Steady s (sendUrgent k l t) := r.urgentOut
theorem refereeFrame (r : Steady s t) : Steady s (refereeFrame k t) := r.sendUrgent

theorem gradeG4 (r : Steady s t) {z : Option Cause} : Steady s (gradeG4 z t) := by
  unfold Machine.gradeG4
  split
  · split
    · extract_lets _ t1
      have r1 : Steady s t1 := .refereeFrame r.withPar
      split
      · exact r1
      · exact r1.gradeG5All
    · exact .when (.setB r.withPar (.high rfl)) (fun _ hu => .record (hu.setB (.high rfl)))
  · exact r.gradeG5All

theorem overflowG4 (r : Steady s t) {z : Option Cause} : Steady s (overflowG4 a b z t) :=
  r.record.under (fun _ hu => hu.gradeG4)

/-! Mismatches of a pair (R213). -/

theorem integrity (r : Steady s t) {z : Option Nat} : Steady s (integrity b a z t) := by
  unfold Machine.integrity
  extract_lets again t0 _ t1
  have r1 : Steady s t1 := by
    unfold t1
    split
    · exact r.record.under (fun _ hu => hu.gradeG3All)
    · exact .record r.withEvt
  exact r1.upsetThen (fun _ hu => hu.overflowG4)

theorem mismatch (r : Steady s t) : Steady s (mismatch a t) := r.integrity
theorem useStores (r : Steady s t) {f : Nat → Bool} : Steady s (useStores f t) := r.each (fun _ _ _ hu => hu.mismatch)
theorem useStore (r : Steady s t) : Steady s (useStore a t) := r.useStores

/-! Retirement (R159, R196). -/

theorem retireRecord (r : Steady s t) : Steady s (retireRecord h t) := .withEvt r.record

theorem setLinkState (r : Steady s t) : Steady s (setLinkState n k t) := .setBitAt (.setBitAt (.setF r.setLnk (.above rfl)) (.high rfl)) (.high rfl)

theorem dropProfiles (r : Steady s t) : Steady s (dropProfiles h t) := by
  unfold Machine.dropProfiles
  split
  · exact r
  · refine r.each (fun i _ _ hu => hu.wr ?_)
    intro st hst
    unfold Reg.DRM_CFG Reg.LLK_PROF
    omega

theorem redistribute (r : Steady s t) : Steady s (redistribute h t) := by
  unfold Machine.redistribute
  split
  · exact r
  · exact r.setInst

theorem retireState (r : Steady s t) : Steady s (retireState h t) := by
  unfold Machine.retireState
  extract_lets t1 t2 t3
  have r3 : Steady s t3 := .dropProfiles (.sendOffs (.safeHb (.setF (r.setB (.above rfl)) (.above rfl))))
  split
  · exact r3
  · exact .setB (.setB r3.trackIn (.above rfl)) (.above rfl)

theorem retireLinkSteps (r : Steady s t) : Steady s (retireLinkSteps n t) := by
  unfold Machine.retireLinkSteps
  extract_lets hs
  split
  rename_i t1 last e
  have noted : Steady s t1 := .of_fst e (r.foldl_fst (fun _ _ hp => hp.retireRecord))
  exact .setLnk (.setLinkState (.sendOff (noted.under (fun _ hu => hu.each (fun _ _ _ hv => hv.gradeG5)))))

theorem executeReactions (r : Steady s t) : Steady s (executeReactions t) := by
  unfold Machine.executeReactions
  split
  · exact r
  · extract_lets l _ t1
    have r1 : Steady s t1 := r.withEvt.each (fun x _ u hu => by
      cases x with
      | link n => exact hu.retireLinkSteps
      | hb h => exact hu.retireState.redistribute)
    split
    · exact r1.withEvt
    · exact r1

end Steady

end Sys2Proof.Machine
end

section
/-! SUPPORT. The units that run by themselves in an FCLK are steady, and O2. -/

namespace Sys2Proof.Machine

namespace Steady

variable {s t u : State} {a b c d h i j k l m n p q st v w x y : Nat} {F : Fld} {hi on_ : Bool}

/-! Fast-off outputs, clocks and status that follow time (R398, R404, R417, R448). -/

theorem offPinsSet (r : Steady s t) : Steady s (offPinsSet hi on_ t) := .emit (.emit r)

theorem offPinsTick (r : Steady s t) : Steady s (offPinsTick t) := by
  unfold Machine.offPinsTick
  split
  · exact r
  · split
    · exact r
    · split
      · exact .offPinsSet (.setSaf r)
      · exact .offPinsSet (.setSaf r)

theorem outLevel (r : Steady s t) : Steady s (outLevel n a b t) := by
  unfold Machine.outLevel
  extract_lets t1
  have r1 : Steady s t1 := r.emit
  split
  · exact r1.emit
  · exact r1

theorem refThru (r : Steady s t) : Steady s (refThru n t) := by
  unfold Machine.refThru
  split
  · exact r
  · exact .emit (.withClk r)

theorem clkOuts (r : Steady s t) : Steady s (clkOuts t) := by
  unfold Machine.clkOuts
  split
  · exact r
  · refine r.each (fun n _ u hu => ?_)
    extract_lets anch run ran u1
    have r1 : Steady s u1 := .setBitAt (.setBitAt hu (.above rfl)) (.above rfl)
    split
    · exact r1.each (fun _ _ _ hv => hv.outLevel)
    · exact r1.refThru
    · exact r1.when (fun _ hv => hv.outLevel)

theorem proofShow (r : Steady s t) : Steady s (proofShow t) := by
  unfold Machine.proofShow
  extract_lets hours
  split
  · exact r.wr (.high rfl)
  · exact r

theorem gfShow (r : Steady s t) : Steady s (gfShow t) := by
  unfold Machine.gfShow
  extract_lets links banks dram pv saf
  split
  · exact .setB (.setB (.setB (.setB (.setB (.setB r (by decide)) (by decide)) (by decide)) (by decide)) (by decide)) (by decide)
  · exact r

/-! The locks of the Tack table (R133, R138). -/

theorem offDrumCfg_lock (hi : i < 8) : OffDrumCfg (Reg.TCK_LOCK i) := by
  intro st _
  unfold Reg.DRM_CFG Reg.TCK_LOCK
  omega

theorem lockLeft (r : Steady s t) (hi : i < 8) : Steady s (lockLeft i t) := r.setF (offDrumCfg_lock hi)

theorem locksLeft (r : Steady s t) : Steady s (locksLeft t) :=
  r.each (fun _ hi _ hu => hu.lockLeft (List.mem_range.1 (List.mem_of_mem_filter hi)))

theorem lockFree (r : Steady s t) (hi : i < 8) : Steady s (lockFree i on_ t) := .wr r.setLock (offDrumCfg_lock hi)

theorem lockRollback (r : Steady s t) (hi : i < 8) : Steady s (lockRollback i c t) := .record (.setB (.lockFree r hi) (by decide))

theorem locksEnd (r : Steady s t) : Steady s (locksEnd t) := by
  refine r.each (fun i hi u hu => ?_)
  split
  · exact hu
  · split
    · exact hu.lockRollback (List.mem_range.1 hi)
    · exact hu.setLock

/-! DMA rings and hardware events (R298, R302-R306). -/

theorem dmaSum (r : Steady s t) : Steady s (dmaSum n t) := r.setBitAt (.high rfl)
theorem dmaFlag (r : Steady s t) : Steady s (dmaFlag n F t) := .dmaSum (.setB r (.above rfl))

theorem dmaStart (r : Steady s t) : Steady s (dmaStart n t) := by
  unfold Machine.dmaStart
  extract_lets ring soon
  split
  · exact .record r.dmaFlag
  · exact r.setDma

theorem heAssert (r : Steady s t) : Steady s (heAssert n l t) := by
  unfold Machine.heAssert
  extract_lets until_ up t1 t2
  split
  · exact .withFab (.bump (r.setB (.high rfl)) (.high rfl))
  · exact .each (.withFab (.withFab r)) (fun _ _ _ hu => hu.dmaStart)

theorem cheAssert (r : Steady s t) : Steady s (cheAssert n t) := by
  unfold Machine.cheAssert
  extract_lets t1
  split
  · exact r.heAssert
  · exact .withFab r.heAssert

theorem dmaPulses (r : Steady s t) : Steady s (dmaPulses t) := r.each (fun _ _ _ hu => hu.cheAssert)
theorem heTick (r : Steady s t) : Steady s (heTick t) := r.each (fun _ _ _ hu => hu.setBitAt (.high rfl))

/-! The mains code (R368). -/

theorem mainsTick (r : Steady s t) : Steady s (mainsTick t) := by
  unfold Machine.mainsTick
  extract_lets mc
  split
  · exact r
  · split
    · exact .setB r.setMc (.high rfl)
    · extract_lets k
      split
      · exact r
      · split
        · exact .setB r.setMc (.high rfl)
        · split
          · exact r.setMc
          · exact r

/-! Hamper channels (R279-R285). -/

theorem chPush (r : Steady s t) {e : HEnt} : Steady s (chPush c e t) := r.setChan
theorem chMark (r : Steady s t) : Steady s (chMark c v l t) := r.chPush
theorem chMarks (r : Steady s t) : Steady s (chMarks c t) := r.setChan.each (fun _ _ _ hu => hu.chMark)

theorem chReduce (r : Steady s t) : Steady s (chReduce c t) := by
  unfold Machine.chReduce
  extract_lets k t1 x
  split
  · exact .chMarks (.setChan (.record (.setB (.setF r (.above rfl)) (.high rfl))))
  · exact r

theorem hmpTick (r : Steady s t) : Steady s (hmpTick t) := r.each (fun _ _ _ hu => hu.chReduce)

/-! Comparators, trip inputs and acknowledgements (R150, R225-R233). -/

theorem blankingTick (r : Steady s t) : Steady s (blankingTick t) := r.each (fun _ _ _ hu => hu.setB (.above rfl))

theorem inputsTick (r : Steady s t) : Steady s (inputsTick t) :=
  .each (.each r (fun _ _ _ hu => hu.setBitAt (.high rfl))) (fun _ _ _ hu => hu.setB (.above rfl))

theorem ackShow (r : Steady s t) : Steady s (ackShow h t) := .setB r.setHb (.above rfl)

theorem ackTick (r : Steady s t) : Steady s (ackTick t) := by
  refine r.each (fun n _ u hu => ?_)
  split
  · exact hu.ackShow
  · exact hu

/-! Measurement banks (R243-R252). -/

theorem relSample (r : Steady s t) : Steady s (relSample b n t) := by
  unfold Machine.relSample
  split
  · exact r
  · extract_lets p
    split
    · exact r.setBank
    · exact r

theorem bankShow (r : Steady s t) : Steady s (bankShow b t) :=
  .setF (.setF (.setB (.setB (.setB (.setF r (.above rfl)) (.above rfl)) (.above rfl)) (.above rfl)) (.above rfl)) (.above rfl)

theorem takeRound (r : Steady s t) : Steady s (takeRound b t) := by
  unfold Machine.takeRound
  split
  · exact r
  · split
    · exact r
    · dsimp -zeta only
      extract_lets rnd t1 len _ x rounds due x' next
      have r1 : Steady s t1 := r.relSample
      split
      · exact r1.setBank
      · split
        · exact .bankShow r1.setBank
        · exact .bankShow r1.setBank

theorem adcTick (r : Steady s t) : Steady s (adcTick t) := by
  refine r.each (fun b _ u hu => ?_)
  split
  · split
    · exact hu.takeRound
    · exact hu
  · exact hu

/-! Carriers and planned edges (R149-R151, R171). -/

theorem levelP (r : Steady s t) : Steady s (levelP h t) := by
  unfold Machine.levelP
  split
  · split
    · exact .emit (.setHb (.withLegP r))
    · exact r
  · exact r

theorem commandedShow (r : Steady s t) : Steady s (commandedShow h t) := by
  unfold Machine.commandedShow
  extract_lets x edges
  split
  · exact r
  · exact .each r.setHb (fun _ _ _ hu => hu.setB (.above rfl))

theorem carShow (r : Steady s t) : Steady s (carShow c t) := .wrI (.wrI (.setF r (.above rfl)) (.above rfl)) (.above rfl)

theorem pulseTick (r : Steady s t) : Steady s (pulseTick t) := by
  unfold Machine.pulseTick
  split
  · refine .each (r.each (fun _ _ _ hu => hu.carShow)) (fun h _ u hu => ?_)
    split
    · exact hu.levelP
    · exact hu.commandedShow
  · exact r

/-! Leg links and their end-points (R172-R196). -/

theorem enterSync (r : Steady s t) : Steady s (enterSync n t) := .setLinkState (.setLnk (.bump r (.above rfl)))
theorem linkTick (r : Steady s t) : Steady s (linkTick t) := r.each (fun _ _ _ hu => hu.enterSync)

theorem setEpPort (r : Steady s t) {z : EpPort} : Steady s (setEpPort n p z t) := r.setEp
theorem upOut (r : Steady s t) {z : List Nat} : Steady s (upOut n p a z t) := .emit r.setEpPort

theorem upStep (r : Steady s t) : Steady s (upStep n p t) := by
  unfold Machine.upStep
  extract_lets x at_ next block
  have blocks : ∀ l z, Steady s (block l z t) := by
    intro l z
    cases l with
    | nil => exact r.upOut
    | cons c l => exact .upOut r.setEpPort
  clear_value next block
  split
  · exact r
  · split
    · split
      · exact .upOut r.setEpPort
      · split
        · exact blocks _ _
        · exact blocks _ _
    · exact blocks _ _

theorem uplinksRun (r : Steady s t) : Steady s (uplinksRun t) :=
  r.each (fun _ _ _ hu => hu.each (fun _ _ _ hv => hv.upStep.upStep))

theorem wireOut (r : Steady s t) : Steady s (wireOut n t) := r.setLnk.each (fun _ _ _ hu => hu.emit)
theorem lineOut (r : Steady s t) {z : List Nat} : Steady s (lineOut n a z t) := r.setLnk
theorem idleOut (r : Steady s t) : Steady s (idleOut n a t) := .lineOut r.setLnk

theorem lineStep (r : Steady s t) : Steady s (lineStep n t) := by
  unfold Machine.lineStep
  extract_lets x at_ rtq
  split
  · exact r
  · split
    · exact .lineOut r.setLnk
    · split
      · exact .lineOut r.setLnk
      · split
        · exact .lineOut r.setLnk
        · split
          · exact r.idleOut
          · exact .lineOut r.setLnk
        · exact r.idleOut

theorem holdCmd (r : Steady s t) {z : Sent} : Steady s (holdCmd n z t) := r.setLnk
theorem setSent (r : Steady s t) {z z' : Sent} : Steady s (setSent n z z' t) := r.setLnk

theorem blkDrop (r : Steady s t) {z : TxBlk} : Steady s (blkDrop n z t) := by
  unfold Machine.blkDrop
  extract_lets x t1
  have r1 : Steady s t1 := r.setLnk
  split
  · exact r1.holdCmd
  · exact r1.bump (.above rfl)
  · exact r1.setSent
  · exact r1
  · exact r1

theorem perturbed (r : Steady s t) {z : List Nat} : Steady s (perturbed n z t).2 := by
  unfold Machine.perturbed
  split
  · exact r.setLnk
  · exact r

theorem blkSend (r : Steady s t) {z : TxBlk} : Steady s (blkSend n a z t).2 := by
  unfold Machine.blkSend
  extract_lets x t1
  have r1 : Steady s t1 := r.setLnk
  split
  · exact .perturbed (.when (.setF r1.setLnk (.above rfl)) (fun _ hu => hu.noteOn))
  · exact r1.perturbed
  · exact r1.perturbed
  · exact .perturbed r1.setLnk

theorem frameStart (r : Steady s t) : Steady s (frameStart_ n a t) := by
  unfold Machine.frameStart_
  extract_lets _ t1 t2
  have r2 : Steady s t2 := .each r.setLnk (fun _ _ _ hu => hu.blkDrop)
  split
  · exact r2
  · split
    rename_i chars u e
    exact .setLnk (.of_snd e (r2.foldl_snd (fun _ _ hp => hp.blkSend)))

theorem lineFrame (r : Steady s t) : Steady s (lineFrame n t) := by
  unfold Machine.lineFrame
  extract_lets x at_ set
  split
  · exact r.frameStart
  · exact r

theorem linesRun (r : Steady s t) : Steady s (linesRun t) :=
  r.each (fun _ _ _ hu => hu.lineFrame.lineStep.lineFrame.lineStep.wireOut)

theorem offsOut (r : Steady s t) : Steady s (offsOut t) := by
  refine r.each (fun n _ u hu => ?_)
  extract_lets x
  split
  · exact hu
  · exact .emit hu.setLnk

theorem legRises (r : Steady s t) : Steady s (legRises t) := r.each (fun _ _ _ hu => hu.legRise)

/-! The pair link (R374). -/

theorem laneRun (r : Steady s t) : Steady s (laneRun l t) := by
  unfold Machine.laneRun
  extract_lets at_
  split
  · exact r
  · split
    · exact r
    · exact .emit r.setPar

theorem pairRun (r : Steady s t) : Steady s (pairRun t) := by
  unfold Machine.pairRun
  split
  · exact r.laneRun.laneRun
  · exact r.setPar

/-! The cycle engine (R314-R325). -/

theorem setRun (r : Steady s t) : Steady s (setRun n t) := r.setF (.high rfl)
theorem setTask (r : Steady s t) {z : TaskSt} : Steady s (setTask n z t) := r.withCyc.when (fun _ hu => hu.setF (.above rfl))

theorem saveArea (r : Steady s t) : Steady s (saveArea n t) := by
  unfold Machine.saveArea
  split
  · exact r
  · exact r.each (fun _ _ _ hu => .stN hu.fresh)

theorem progStore (r : Steady s t) : Steady s (progStore a n v t) := by
  unfold Machine.progStore
  split
  · exact r
  · exact r.each (fun _ _ _ hu => hu.stN)

theorem cycRead (r : Steady s t) : Steady s (cycRead a t).2 := by
  unfold Machine.cycRead
  extract_lets t1
  have r1 : Steady s t1 := by
    unfold t1
    split
    · exact r.wr64 (by decide) (by decide)
    · split
      · exact .wr64 (r.wr64 (.beside rfl (by decide)) (.beside rfl (by decide))) (.beside rfl (by decide)) (.beside rfl (by decide))
      · exact r
  exact r1.useStore

theorem inputEntry (r : Steady s t) {e : InSrc × Nat} : Steady s (inputEntry e t) := by
  unfold Machine.inputEntry
  extract_lets put
  split
  · exact .progStore r.cycRead
  · exact .progStore r.progStore
  · exact r.progStore
  · exact r.progStore
  · exact r.progStore

theorem inputCopy (r : Steady s t) : Steady s (inputCopy n t) := r.each (fun _ _ _ hu => hu.inputEntry)
theorem cycFlag (r : Steady s t) : Steady s (cycFlag F t) := r.setB (.high rfl)
theorem setForce (r : Steady s t) {z : Option Force} : Steady s (setForce i z t) := .setF r.withCyc (.high rfl)

theorem forceApply (r : Steady s t) : Steady s (forceApply i t) := by
  unfold Machine.forceApply
  split
  · exact r
  · split
    · exact r
    · exact .record (.cycFlag (.stN r.setForce))

theorem cycDispatch (r : Steady s t) : Steady s (cycDispatch t) := by
  unfold Machine.cycDispatch
  split
  · exact r
  · split
    · exact r.setRun
    · split
      · exact r
      · extract_lets c t1 fresh _ t2
        have r1 : Steady s t1 := r.when (fun _ hu => .saveArea hu.setTask)
        have r2 : Steady s t2 := .setRun r1.setTask
        exact r2.when (fun _ hu => .inputCopy (hu.each (fun _ _ _ hv => hv.forceApply)))

theorem cycResume (r : Steady s t) : Steady s (cycResume t) := r.when (fun _ hu => hu.cycDispatch)

/-! The arbiters (R298-R301). -/

theorem asksRun (r : Steady s t) : Steady s (asksRun t) := by
  refine r.each (fun p _ u hu => ?_)
  extract_lets k now
  split
  · exact hu.withFab
  · split
    · exact hu.withFab
    · exact hu

theorem waitCheck (r : Steady s t) : Steady s (waitCheck q a w t) := by
  unfold Machine.waitCheck
  extract_lets t1 bound
  have r1 : Steady s t1 := r.setF (.above rfl)
  split
  · exact .upsetThen (.record (r1.setB (.high rfl))) (fun _ hu => hu.overflowG4)
  · exact r1

theorem grantTo (r : Steady s t) : Steady s (grantTo q a w hi on_ t) := .waitCheck r.withFab

theorem arbTick (r : Steady s t) : Steady s (arbTick t) := by
  unfold Machine.arbTick
  split
  · exact r
  · refine r.each (fun n _ u hu => ?_)
    extract_lets units
    split
    · exact hu
    · exact .grantTo hu.withFab

/-! The Hamper's sequencer (R288-R293). -/

theorem setHmpState (r : Steady s t) : Steady s (setHmpState k t) := r.setF (.high rfl)

theorem captureCheck (r : Steady s t) : Steady s (captureCheck t) := by
  unfold Machine.captureCheck
  split
  · exact .record (.setB r.setHmpState (.high rfl))
  · exact r

theorem preShow (r : Steady s t) : Steady s (preShow c t) := .wr (.setB r (.above rfl)) (.above rfl)

theorem chPost (r : Steady s t) : Steady s (chPost c i t) := by
  unfold Machine.chPost
  extract_lets _ t1 x t2
  have r1 : Steady s t1 := by
    unfold t1
    split
    · exact r
    · exact .preShow (.wr (.setChan (.setB r (.above rfl))) (.above rfl))
  have r2 : Steady s t2 := r1.setChan
  split
  · exact .preShow (r2.setB (.above rfl))
  · exact r2

theorem skewPair (r : Steady s t) {z z' : Int × Int} : Steady s (skewPair c z z' t) := by
  unfold Machine.skewPair
  extract_lets lev at_
  split
  · split
    · exact r.wr (.above rfl)
    · exact r
  · exact r

theorem chScan (r : Steady s t) : Steady s (chScan c t) := by
  unfold Machine.chScan
  extract_lets x old base numbered t1 vals
  have r1 : Steady s t1 := by
    refine r.each (fun p _ u hu => ?_)
    split
    · exact hu.chPost
    · exact hu
  exact r1.each (fun _ _ _ hu => hu.skewPair)

theorem pinsDue (r : Steady s t) : Steady s (pinsDue a t) := r.withHmp

theorem trigger (r : Steady s t) : Steady s (trigger a c t) := by
  unfold Machine.trigger
  extract_lets t1 t2 t3 _ t4
  have r1 : Steady s t1 := .setHmpState (.setF (r.wr64 (.high rfl) (.high rfl)) (.high rfl))
  have r2 : Steady s t2 := r1.each (fun _ _ _ hu => hu.wr (.above rfl))
  have r3 : Steady s t3 := .record (r2.setB (.high rfl))
  have r4 : Steady s t4 := by
    unfold t4
    split
    · exact .sendUrgent r3.withHmp
    · exact r3
  exact .captureCheck (r4.pinsDue.each (fun _ _ _ hu => .chScan (hu.wr (.above rfl))))

theorem armTake (r : Steady s t) {z : Word} : Steady s (armTake z t) := by
  unfold Machine.armTake
  extract_lets c n code at_ t1 t2 t3 t4
  have r1 : Steady s t1 := r.when (fun _ hu => hu.wr (.above rfl))
  have r2 : Steady s t2 := r1.when (fun _ hu => hu.bump (.above rfl))
  have r3 : Steady s t3 := r2.when (fun _ hu => hu.withHmp)
  have r4 : Steady s t4 := r3.setF (.high rfl)
  exact r4.when (fun _ hu => hu.trigger)

theorem hmpEval (r : Steady s t) : Steady s (hmpEval t) := by
  unfold Machine.hmpEval
  extract_lets q a b t1
  have r1 : Steady s t1 := by
    unfold t1
    split
    · exact r
    · split
      · exact r.armTake
      · split
        · exact r.armTake
        · exact r
  exact r1.withHmp

/-! The FCLK (R14, R18). -/

theorem fclkEnds (r : Steady s t) : Steady s (fclkEnds t) :=
  r.hmpEval.legRises.offsOut.pairRun.linesRun.uplinksRun.locksEnd.arbTick.asksRun

end Steady

/-- One FCLK of LT and of the Bobbins: beside LT and them, nothing changes. -/
theorem tick_steady {s : State} (run : s.ltRun = true) : Steady { s with lt := (s.lt + fclk) % 2 ^ 64 } (tick s) := by
  unfold tick
  rw [if_pos run]
  refine (Steady.refl _).each (fun st _ u hu => ?_)
  split
  · exact hu.setBob
  · exact hu

/-- While LT runs, an FCLK without a command advances LT by 16 eu, and else is steady. -/
theorem idle_steady {s : State} (run : s.ltRun = true) :
    Steady { fclkEnds s with lt := (s.lt + fclk) % 2 ^ 64 } (idle s) := by
  have ends : Steady s (fclkEnds s) := (Steady.refl s).fclkEnds
  have ticks := tick_steady (ends.ltRun.trans run)
  rw [ends.lt] at ticks
  unfold idle
  rw [if_pos run]
  have started : Steady { fclkEnds s with lt := (s.lt + fclk) % 2 ^ 64 } (fclkStarts (fclkEnds s)) :=
    ticks.acceptWaiting.executeReactions.cycResume
  exact started.linkTick.pulseTick.adcTick.ackTick.inputsTick.blankingTick.hmpTick.mainsTick.heTick.dmaPulses.locksLeft.gfShow
    |>.proofShow.clkOuts.offPinsTick

theorem idle_stopped {s : State} (stopped : s.ltRun = false) : idle s = s := by
  unfold idle
  rw [stopped]
  rfl

theorem step_of_empty {s : State} (empty : s.pending = []) : step s = .next (idle s) := by
  unfold step
  rw [empty]

/-- Settles O2: an FCLK of a running LT is its advance between two steady parts, and a stopped LT stays. -/
theorem stepIdles : Obligations.StepIdles := by
  intro s empty
  refine ⟨idle s, step_of_empty empty, ?_⟩
  cases run : s.ltRun with
  | false =>
    rw [idle_stopped run]
    exact ⟨empty, rfl, run, fun _ => rfl, nofun⟩
  | true =>
    have ends : Steady s (fclkEnds s) := (Steady.refl s).fclkEnds
    have idles := idle_steady run
    exact ⟨idles.pending.trans (ends.pending.trans empty), idles.configured.trans ends.configured,
      idles.ltRun.trans (ends.ltRun.trans run), nofun, fun _ => idles.lt⟩

end Sys2Proof.Machine
end

section
/-! SUPPORT. The front of a slot's firing is steady: the slot goes on to its next due point, and a paired unit forms its health,
takes over or installs a copy (R119, R213, R372-R387). A Stage has its Drum then as before. -/

namespace Sys2Proof.Machine

/-- The words of a Drum that a copy brings; DRM_CFG is none of them. -/
theorem offDrumCfg_of_mem_copyRegs {st a : Nat} (h : a ∈ copyRegs st) : OffDrumCfg a := by
  intro j _
  simp only [copyRegs, List.mem_cons, List.not_mem_nil, or_false, Reg.DRM_PF, Reg.DRM_QF, Reg.DRM_E, Reg.DRM_DELTA,
    Reg.DRM_G, Reg.DRM_UR, Reg.DRM_VD, Reg.DRM_VQ, Reg.DRM_HEMEFF, Reg.DRM_DERN, Reg.DRM_SCAUSE, Reg.DRM_HOLDW,
    Reg.DRM_REPCNT] at h
  unfold Reg.DRM_CFG
  omega

/-- The words of the unit that a copy brings. -/
theorem offDrumCfg_of_mem_copyUnit {a : Nat} (h : a ∈ copyUnit) : OffDrumCfg a := by
  intro j _
  simp only [copyUnit, List.mem_append, List.mem_flatMap, List.mem_map, List.mem_cons, List.not_mem_nil, or_false,
    List.mem_range, Reg.DRM_PSET, Reg.DRM_QSET, Reg.DRM_VSET, Reg.DRM_FSET, Reg.DRM_MP, Reg.DRM_NQ, Reg.DRM_HEM,
    Reg.DRM_MODE, Reg.DRM_KPD, Reg.STI_MAN, Reg.STI_SETP, Reg.HMP_CTRIM, Reg.SPN_MCTX, Reg.SPN_DTP, Reg.SPN_DTQ] at h
  unfold Reg.DRM_CFG
  rcases h with (((⟨st, -, h⟩ | ⟨n, -, h⟩) | ⟨n, -, h⟩) | h) | ⟨m, -, h⟩ <;> omega

namespace Steady

variable {s t u : State} {a b c d e h i j k l m n p q st v w x y : Nat} {F : Fld} {hi on_ : Bool}

/-! A slot fires (R119, R213). -/

theorem tackNext (r : Steady s t) : Steady s (tackNext n t) := by
  unfold Machine.tackNext
  split
  · exact r.withTack
  · exact r.withTack

theorem deleteFired (r : Steady s t) : Steady s (deleteFired n t) := by
  unfold Machine.deleteFired
  split
  · exact .setF r.withTack (by decide)
  · exact r

theorem tackFired (r : Steady s t) : Steady s (tackFired n t) := .deleteFired (.withTack r.useStore.tackNext)

/-! The unit of a pair (R372-R387). -/

theorem parFlag (r : Steady s t) : Steady s (parFlag F t) := .setB r (.high rfl)

theorem capCopy (r : Steady s t) : Steady s (capCopy t) := .evtShow (.flushLoss (.wr r.withEvt (.high rfl)))

theorem capEnd (r : Steady s t) : Steady s (capEnd t) := r.when (fun _ hu => .withEvt hu.capCopy)

theorem setRole (r : Steady s t) : Steady s (setRole n t) := .emit (r.setF (.high rfl))

theorem enterSyncing (r : Steady s t) : Steady s (enterSyncing t) := by
  unfold Machine.enterSyncing
  extract_lets t1 t2
  have r2 : Steady s t2 := r.capEnd.each (fun st _ _ hu =>
    .each (.each (hu.setB (.above rfl)) (fun _ _ _ hv => hv.trackIn)) (fun _ _ _ hv => hv.holdHb))
  exact .setRole r2.withPar

theorem pairFrame (r : Steady s t) {l : List Nat} : Steady s (pairFrame a b c l t) := r.when (fun _ hu => hu.setPar)

theorem healthForm (r : Steady s t) : Steady s (healthForm a t) := by
  unfold Machine.healthForm
  extract_lets w was now t1 t2 t3 t4 t5 t6
  have r1 : Steady s t1 := .setB (r.wr (.high rfl)) (.high rfl)
  have r2 : Steady s t2 := r1.when (fun _ hu => .record hu.parFlag)
  have r3 : Steady s t3 := r2.when (fun _ hu => hu.enterSyncing)
  have r4 : Steady s t4 := r3.when (fun _ hu => hu.setB (.high rfl))
  have r5 : Steady s t5 := by
    unfold t5
    split
    · exact r4.setPar
    · exact r4.setPar
  have r6 : Steady s t6 := by
    unfold t6
    split
    · exact .emit r5.setPar
    · exact r5
  exact r6.pairFrame

/-! A takeover (R384-R387). -/

theorem sendTwice (r : Steady s t) {l : List Nat} : Steady s (sendTwice n a l t) := r.setLnk

theorem trackOut (r : Steady s t) : Steady s (trackOut n t) := by
  unfold Machine.trackOut
  split
  · exact r.setF (.above rfl)
  · exact r

theorem clearHold (r : Steady s t) : Steady s (clearHold a h t) := .setF r.setHb (.above rfl)

theorem pulsesEnable (r : Steady s t) : Steady s (pulsesEnable st t) := by
  unfold Machine.pulsesEnable
  split
  · exact r
  · extract_lets t1
    have r1 : Steady s t1 := .record (r.setB (.above rfl))
    split
    · exact r1.gradeG5For
    · exact .each (r1.each (fun _ _ _ hu => hu.clearHold)) (fun _ _ _ hu => hu.trackOut)

theorem pulsesAuto (r : Steady s t) : Steady s (pulsesAuto st t) := by
  unfold Machine.pulsesAuto
  split
  · exact r.pulsesEnable
  · exact r

theorem takeAuthority (r : Steady s t) : Steady s (takeAuthority e h t) := by
  unfold Machine.takeAuthority
  extract_lets t1 t2 t3 t4 t5 t6
  have r2 : Steady s t2 := .setPar (.wr64 (r.wr (.high rfl)) (.high rfl) (.high rfl))
  have r3 : Steady s t3 := .setRole (r2.setB (.high rfl))
  have r5 : Steady s t5 := r3.pairFrame.each (fun _ _ _ hu => hu.sendTwice)
  have r6 : Steady s t6 := r5.each (fun _ _ _ hu => hu.setHb)
  refine r6.each (fun st _ u hu => ?_)
  split
  · exact hu.when (fun _ hv => hv.pulsesEnable)
  · exact hu.pulsesAuto

theorem takeover (r : Steady s t) : Steady s (takeover t) :=
  .takeAuthority (.record (.parFlag (r.when (fun _ hu => hu.wr (.high rfl)))))

/-! The installation of a copy (R375-R379). -/

theorem setWord (r : Steady s t) : Steady s (setWord st w t) :=
  .wr (r.wr (.beside rfl (by decide))) (.beside rfl (by decide))

theorem fixReached (r : Steady s t) : Steady s (fixReached st t) := by
  refine r.each (fun n _ u hu => ?_)
  extract_lets x
  split
  · exact hu
  · split
    · exact hu
    · split
      · exact hu
      · exact .withTack hu.tackNext

theorem laneFlag (r : Steady s t) : Steady s (laneFlag l F t) := by
  refine .setBitAt (.setB r (.above rfl)) ?_
  split
  · exact .high rfl
  · exact .high rfl

theorem alignLanes (r : Steady s t) {z : Int} : Steady s (alignLanes st n z t) :=
  r.each (fun _ _ _ hu => hu.setLane.when (fun _ hv => hv.laneFlag))

theorem loadShow (r : Steady s t) : Steady s (loadShow t) := .wr (r.wr (by decide)) (by decide)
theorem newAnchor (r : Steady s t) : Steady s (newAnchor st t) := r.setBob
theorem carPlace (r : Steady s t) : Steady s (carPlace c n t) := r.setCar
theorem carRealign (r : Steady s t) : Steady s (carRealign c t) := .carShow r.setCar

theorem alignBy (r : Steady s t) {z z' : Int} : Steady s (alignBy st z z' t) := by
  unfold Machine.alignBy
  extract_lets b old phase t1 t2
  split
  rename_i k tack e
  extract_lets t3 c' t4 t5 t6 t7
  have r3 : Steady s t3 := .alignLanes (.loadShow (.withTack (.setBob r.fixReached)))
  have r5 : Steady s t5 :=
    .wrI (.wr (.wr r3.setWord (.beside rfl (by decide))) (.beside rfl (by decide))) (.beside rfl (by decide))
  have r6 : Steady s t6 :=
    .setB (.setB (r5.setB (.beside rfl (by decide))) (.beside rfl (by decide))) (.beside rfl (by decide))
  exact .each (.newAnchor r6.recordAtf) (fun _ _ _ hu => hu.carRealign)

theorem installStage (r : Steady s t) {z : Copy} {o : Option OwnSnap} : Steady s (installStage z o st t) := by
  unfold Machine.installStage
  split
  · exact r
  · split
    · exact r
    · extract_lets t1 t2 d ss t3 t4
      have r1 : Steady s t1 := by
        unfold t1
        split
        · exact r.fixReached.setWord
        · exact r.alignBy
      have r2 : Steady s t2 := r1.wrW (.beside rfl (by decide))
      split
      · exact r2
      · have r3 : Steady s t3 := r2.each (fun _ _ _ hu => hu.setF (.beside rfl (by decide)))
        have r4 : Steady s t4 := r3.each (fun p hp _ hu => hu.wrW (offDrumCfg_of_mem_copyRegs (List.of_mem_zip hp).1))
        exact r4.setDrm

theorem installCarSet (r : Steady s t) : Steady s (installCarSet c n t) := by
  unfold Machine.installCarSet
  split
  · exact r
  · exact .carShow (.carPlace (r.setF (.above rfl)))

theorem installReqs (r : Steady s t) {z : Copy} : Steady s (installReqs z t) :=
  .each (.each r (fun _ _ _ hu => hu.setSti.setB (.above rfl))) (fun _ _ _ hu => hu.setPgn.setB (.above rfl))

theorem setFe (r : Steady s t) : Steady s (setFe n a t) := .setB (r.wr (.above rfl)) (.above rfl)

theorem installInst (r : Steady s t) {z : CopyInst} {o : Option OwnSnap} : Steady s (installInst n z o t) := by
  unfold Machine.installInst
  split
  · exact r
  · extract_lets i y t1 t2
    have r1 : Steady s t1 := r.setInst
    have r2 : Steady s t2 := by
      unfold t2
      split
      · exact r1
      · exact r1.setF (.above rfl)
    exact .setFe (r2.setF (.above rfl))

theorem installRetired (r : Steady s t) : Steady s (installRetired h t) := by
  unfold Machine.installRetired
  split
  · exact r
  · extract_lets t1
    have r1 : Steady s t1 := r.setPar
    split
    · exact r1.retireState.gradeG5
    · exact r1.retireState.redistribute

theorem installSlot (r : Steady s t) {z : Option Slot} : Steady s (installSlot n z a t) := by
  unfold Machine.installSlot
  extract_lets t1
  have r1 : Steady s t1 := r.verified
  split
  · exact r1.withTack
  · exact r1.withTack

theorem installSlotAt (r : Steady s t) {z : Nat × Option Slot × Nat} : Steady s (installSlotAt z t) := by
  unfold Machine.installSlotAt
  split
  · exact r.withTack
  · exact .loadShow (.installSlot (r.setB (.high rfl)))

theorem busAsk (r : Steady s t) : Steady s (busAsk q a n t) := by
  unfold Machine.busAsk
  split
  · exact r
  · exact r.withFab

theorem busUse (r : Steady s t) {f : State → State} (hf : Steady s (f t)) : Steady s (busUse q a n f t) := by
  unfold Machine.busUse
  split
  · exact r
  · exact hf.busAsk

theorem copyInstall (r : Steady s t) {z : Copy} {chunk : List Nat} : Steady s (copyInstall z chunk t).2 := by
  unfold Machine.copyInstall
  extract_lets drums tolA tolE tolY eOf o atOk eOk insts stiOk t1 t2 t3 t4 t5 t6 t7 t8 b
  have r1 : Steady s t1 := r.each (fun _ _ _ hu => hu.installStage)
  have r2 : Steady s t2 := r1.each (fun p hp _ hu => hu.wrW (offDrumCfg_of_mem_copyUnit (List.of_mem_zip hp).1))
  have r3 : Steady s t3 := r2.each (fun _ _ _ hu => hu.setF (.above rfl))
  have r4 : Steady s t4 := r3.each (fun _ _ _ hu => hu.installCarSet)
  have r5 : Steady s t5 := .installReqs (r4.each (fun _ _ _ hu => hu.installInst))
  have r6 : Steady s t6 := r5.each (fun _ _ _ hu => hu.installRetired)
  have r7 : Steady s t7 := r6.each (fun _ _ _ hu => hu.installSlotAt)
  have r8 : Steady s t8 := by
    unfold t8
    split
    · exact r7.busUse r7.stBytes
    · exact r7
  exact .wr (.wr r8.setPar (.high rfl)) (.high rfl)

theorem pairFiring (r : Steady s t) : Steady s (pairFiring t) := by
  unfold Machine.pairFiring
  split
  · exact r
  · extract_lets t1 keep
    have r1 : Steady s t1 := r.setPar
    split
    · split
      · exact r1.takeover.healthForm
      · exact r1.healthForm
    · split
      · split
        rename_i own t2 e
        have r2 : Steady s t2 := .of_snd e r1.copyInstall
        exact .setPar r2.healthForm
      · exact r1.healthForm

end Steady

/-- The front of a slot's firing. -/
theorem firingFront_steady (n : Nat) (s : State) : Steady s (pairFiring (tackFired n s)) :=
  (Steady.refl s).tackFired.pairFiring

/-- A ready Drum-step slot of a Stage with a Drum runs the whole step. -/
theorem stepRuns_of_ready {n : Nat} {s : State} (ready : tackReady n actDrum s = true)
    (drum : hasDrum (drumStage n s) s = true) : stepRuns n s = true := by
  have stage : drumStage n s < 4 := Nat.mod_lt _ (by decide)
  unfold stepRuns
  rw [ready, (firingFront_steady n s).hasDrum stage, drum]
  rfl

end Sys2Proof.Machine
end

section
/-! SUPPORT. Requests for an angle source, the time latches (R22, R31), and O16. -/

namespace Sys2Proof.Machine

/-- From `s` to `t` only the listed registers may read differently; no record joins or leaves, and the Bobbins, memory and flash
stand. -/
structure Unrecorded (l : List Nat) (s t : State) : Prop where
  regs : regsKept l s t
  queue : t.evt.queue = s.evt.queue
  wait : t.evt.wait = s.evt.wait
  cap : t.evt.cap = s.evt.cap
  bob : t.bob = s.bob
  mem : t.mem = s.mem
  nv : t.nv = s.nv

namespace Unrecorded

variable {l : List Nat} {s t u : State}

theorem refl (l : List Nat) (s : State) : Unrecorded l s s := ⟨fun _ _ => rfl, rfl, rfl, rfl, rfl, rfl, rfl⟩

theorem trans (r : Unrecorded l s t) (g : Unrecorded l t u) : Unrecorded l s u :=
  ⟨fun a ha => (g.regs a ha).trans (r.regs a ha), g.queue.trans r.queue, g.wait.trans r.wait, g.cap.trans r.cap,
    g.bob.trans r.bob, g.mem.trans r.mem, g.nv.trans r.nv⟩

theorem mono {l' : List Nat} (r : Unrecorded l s t) (h : l ⊆ l') : Unrecorded l' s t :=
  { r with regs := fun a ha => r.regs a (fun hl => ha (h hl)) }

theorem wrW (r : Unrecorded l s t) {a : Nat} (ha : a ∈ l) {w : Word} : Unrecorded l s (wrW a w t) := by
  refine r.trans ⟨fun b hb => ?_, rfl, rfl, rfl, rfl, rfl, rfl⟩
  rw [rdW_wrW, if_neg]
  rintro rfl
  exact hb ha

theorem setDrm (r : Unrecorded l s t) {n : Nat} {x : DrumSt} : Unrecorded l s (setDrm n x t) :=
  r.trans ⟨fun _ _ => rfl, rfl, rfl, rfl, rfl, rfl, rfl⟩

/-! The event unit notes causes and storages, and no record. -/

theorem withG3 (r : Unrecorded l s t) {x : Tbl (List Cause)} : Unrecorded l s { t with evt := { t.evt with g3 := x } } :=
  r.trans ⟨fun _ _ => rfl, rfl, rfl, rfl, rfl, rfl, rfl⟩

theorem withG5 (r : Unrecorded l s t) {x : Tbl (List Cause)} : Unrecorded l s { t with evt := { t.evt with g5 := x } } :=
  r.trans ⟨fun _ _ => rfl, rfl, rfl, rfl, rfl, rfl, rfl⟩

theorem withTorn (r : Unrecorded l s t) {x : List Nat} : Unrecorded l s { t with evt := { t.evt with torn := x } } :=
  r.trans ⟨fun _ _ => rfl, rfl, rfl, rfl, rfl, rfl, rfl⟩

theorem withMism (r : Unrecorded l s t) {x : List Nat} : Unrecorded l s { t with evt := { t.evt with mism := x } } :=
  r.trans ⟨fun _ _ => rfl, rfl, rfl, rfl, rfl, rfl, rfl⟩

theorem when (r : Unrecorded l s t) {c : Bool} {f : State → State} (hf : ∀ u, Unrecorded l s u → Unrecorded l s (f u)) :
    Unrecorded l s (when c f t) := by
  unfold Machine.when
  split
  · exact hf _ r
  · exact r

theorem roomy (r : Unrecorded l s t) (hn : Reg.EVT_NSEQ ∉ l) : roomy t = roomy s := by
  unfold Machine.roomy rd
  rw [r.queue, r.cap, r.regs _ hn]

theorem recs (r : Unrecorded l s t) (src grade detail : Nat) (stg : Option Nat) :
    recs src grade detail stg t = recs src grade detail stg s := by
  unfold Machine.recs
  rw [r.queue, r.wait]

/-- A record that follows is the first since `s`. -/
theorem recorded (r : Unrecorded l s t) (hn : Reg.EVT_NSEQ ∉ l) {src grade detail : Nat} {stg : Option Nat} :
    recorded src grade detail stg s (record src grade detail stg t) := by
  intro room
  rw [← r.recs]
  exact recs_record_lt src grade detail stg ((r.roomy hn).trans room)

end Unrecorded

/-! The end of a hold (R8, R213): causes that are no longer active leave, and nothing is recorded. -/

/-- The registers that show the causes of G3 and G5. -/
def causeRegs : List Nat := Reg.EVT_G5CAUSE :: (List.range 4).map Reg.DRM_STAT

theorem dropCause_unrecorded {s t : State} (r : Unrecorded causeRegs s t) (c : Cause) :
    Unrecorded causeRegs s (dropCause c t) := by
  refine each_induct r (fun st hst u hu => ?_)
  have shown : Reg.DRM_STAT st ∈ causeRegs := List.mem_cons_of_mem _ (List.mem_map_of_mem hst)
  exact (hu.withG3.wrW shown).withG5.wrW (List.mem_cons_self ..)

theorem endHold_unrecorded (a : Nat) (s : State) : Unrecorded causeRegs s (endHold a s) := by
  have held : Unrecorded causeRegs s { s with pwHeld := Tbl.put a none s.pwHeld } :=
    ⟨fun _ _ => rfl, rfl, rfl, rfl, rfl, rfl, rfl⟩
  unfold endHold verified
  extract_lets t1
  have torn : Unrecorded causeRegs s t1 := held.when (fun _ hu => hu.withTorn)
  split
  · exact dropCause_unrecorded torn.withMism _
  · exact torn

/-! A request (R22). -/

/-- The state in which a request is judged: the pair is stored, and its write remembered for R85. -/
def requestWritten (st src kind : Nat) (s : State) : State :=
  setDrm st { drmOf st (endHold (Reg.BOB_SRCREQ st) s) with srcWr := true }
    (wr (Reg.BOB_SRCREQ st) (src + 16 * kind) (endHold (Reg.BOB_SRCREQ st) s))

theorem pairStore_sourceWrite {st src kind : Nat} {s : State} (stored : stores s = true) :
    pairStore (Reg.BOB_SRCREQ st) (sourceWrite st src kind) s = srcRequest st src kind (requestWritten st src kind s) :=
  if_pos stored

/-- The registers that a stored request may change. -/
def requestRegs (st : Nat) : List Nat := Reg.BOB_SRCREQ st :: causeRegs

theorem requestWritten_unrecorded (st src kind : Nat) (s : State) :
    Unrecorded (requestRegs st) s (requestWritten st src kind s) :=
  .setDrm (.wrW ((endHold_unrecorded _ s).mono (List.subset_cons_self ..)) (List.mem_cons_self ..))

theorem rd_requestWritten (st src kind : Nat) (s : State) (small : src + 16 * kind < 2 ^ 32) :
    rd (Reg.BOB_SRCREQ st) (requestWritten st src kind s) = src + 16 * kind :=
  (rd_wr ..).trans ((if_pos rfl).trans (Nat.mod_eq_of_lt small))

theorem mem_requestRegs {st a : Nat} : a ∈ requestRegs st ↔ a = 0x40010000 + 0x100 * st ∨ a = 0x40130028 ∨
    a = 0x400301D0 ∨ a = 0x400305D0 ∨ a = 0x400309D0 ∨ a = 0x40030DD0 := by
  simp only [requestRegs, causeRegs, Reg.BOB_SRCREQ, Reg.EVT_G5CAUSE, Reg.DRM_STAT, List.mem_cons, List.mem_map,
    List.mem_range]
  constructor
  · rintro (h | h | ⟨j, hj, h⟩) <;> omega
  · rintro (h | h | h)
    · exact .inl h
    · exact .inr (.inl h)
    · exact .inr (.inr ⟨(a - 0x400301D0) / 0x400, by omega, by omega⟩)

/-- The registers that decide whether a Stage has angle time (R19). -/
def angleRegs (st : Nat) : List Nat := [Reg.BOB_FNOM_LO st, Reg.BOB_FNOM_HI st, Reg.BOB_FMIN_LO st, Reg.BOB_FMIN_HI st,
  Reg.BOB_FMAX_LO st, Reg.BOB_FMAX_HI st, Reg.BOB_DWMAX st]

theorem hasAngle_congr {st : Nat} {s t : State} (h : ∀ a ∈ angleRegs st, rdW a t = rdW a s) :
    hasAngle st t = hasAngle st s := by
  simp only [angleRegs, List.forall_mem_cons] at h
  obtain ⟨fnomLo, fnomHi, fminLo, fminHi, fmaxLo, fmaxHi, dwmax, -⟩ := h
  unfold hasAngle fnomOf fminOf fmaxOf rd64 rd
  rw [fnomLo, fnomHi, fminLo, fminHi, fmaxLo, fmaxHi, dwmax]

theorem angleRegs_off_request {n st a : Nat} (hn : n < 4) (ha : a ∈ angleRegs n) : a ∉ requestRegs st := by
  simp only [angleRegs, Reg.BOB_FNOM_LO, Reg.BOB_FNOM_HI, Reg.BOB_FMIN_LO, Reg.BOB_FMIN_HI, Reg.BOB_FMAX_LO,
    Reg.BOB_FMAX_HI, Reg.BOB_DWMAX, List.mem_cons, List.not_mem_nil, or_false] at ha
  rw [mem_requestRegs]
  omega

theorem fldGet_lt (F : Fld) (w : Word) : fldGet F w < 2 ^ F.width := by
  have positive := Nat.two_pow_pos F.width
  have masked : fldGet F w ≤ (2 ^ F.width - 1) % 2 ^ 32 := by
    unfold fldGet
    rw [BitVec.toNat_and, BitVec.toNat_ofNat]
    exact Nat.and_le_right
  exact Nat.lt_of_le_of_lt (masked.trans (Nat.mod_le ..)) (by omega)

theorem followOf_lt (st : Nat) (s : State) : followOf st s < 4 := fldGet_lt Reg.BOB_SRCCFG_FOLLOW _

/-- A request is judged by what stood before its pair was stored. -/
theorem srcRefusal_requestWritten {st : Nat} (hst : st < 4) (src kind : Nat) (s : State) :
    srcRefusal st src kind (requestWritten st src kind s) = srcRefusal st src kind s := by
  have kept := (requestWritten_unrecorded st src kind s).regs
  generalize requestWritten st src kind s = t at kept
  have angle : ∀ n < 4, hasAngle n t = hasAngle n s := fun n hn =>
    hasAngle_congr (fun a ha => kept a (angleRegs_off_request hn ha))
  have follow : followOf st t = followOf st s := by
    unfold followOf fl
    rw [kept _ (by rw [mem_requestRegs]; unfold Reg.BOB_SRCCFG; omega)]
  have source : ∀ n < 4, actSrc n t = actSrc n s := fun n hn => by
    unfold actSrc fl
    rw [kept _ (by rw [mem_requestRegs]; unfold Reg.BOB_STAT; omega)]
  have drum : hasDrum st t = hasDrum st s := by
    unfold hasDrum on fl
    rw [kept _ (by rw [mem_requestRegs]; unfold Reg.DRM_CFG; omega)]
  have pulses : anyPulses st t = anyPulses st s := by
    unfold anyPulses pulsesOn on fl
    rw [kept _ (by rw [mem_requestRegs]; unfold Reg.PGN_SSTAT; omega)]
  unfold srcRefusal
  rw [follow, angle st hst, angle _ (followOf_lt st s), source _ (followOf_lt st s), drum, pulses]

/-- A request that R22 accepts waits with its kind. -/
theorem srcRequest_accepted {st src kind : Nat} {s : State} (hst : st < 4) (small : src + 16 * kind < 2 ^ 32)
    (accepted : srcRefusal st src kind s = 0) :
    let t := srcRequest st src kind (requestWritten st src kind s)
    (bobOf st t).req = some (src, kind) ∧ rd (Reg.BOB_SRCREQ st) t = src + 16 * kind ∧
      (bobOf st t).phase = (bobOf st s).phase ∧ t.mem = s.mem ∧ t.nv = s.nv := by
  have written := requestWritten_unrecorded st src kind s
  have pair := rd_requestWritten st src kind s small
  unfold srcRequest
  rw [srcRefusal_requestWritten hst, accepted]
  generalize requestWritten st src kind s = u at written pair
  have waits : bobOf st (setBob st { bobOf st u with req := some (src, kind) } u)
      = { bobOf st u with req := some (src, kind) } := Tbl.get_put_same ..
  have stood : (bobOf st u).phase = (bobOf st s).phase := by
    unfold bobOf
    rw [written.bob]
  refine ⟨?_, pair, ?_, written.mem, written.nv⟩
  · exact congrArg BobSt.req waits
  · exact (congrArg BobSt.phase waits).trans stood

/-- A request that R22 refuses leaves the one that waits, and is recorded with its code. -/
theorem srcRequest_refused {st src kind : Nat} {s : State} (hst : st < 4) (refused : srcRefusal st src kind s ≠ 0) :
    let t := srcRequest st src kind (requestWritten st src kind s)
    (bobOf st t).req = (bobOf st s).req ∧ on (Reg.BOB_EVT st) Reg.BOB_EVT_REFUSED t = true ∧
      recorded 16 0 (srcRefusal st src kind s) (some st) s t ∧ t.mem = s.mem := by
  have written := requestWritten_unrecorded st src kind s
  unfold srcRequest
  rw [srcRefusal_requestWritten hst]
  simp only [refused, if_false]
  generalize requestWritten st src kind s = u at written
  generalize srcRefusal st src kind s = code
  have shown : Unrecorded (Reg.BOB_STAT st :: Reg.BOB_EVT st :: requestRegs st) s
      (setB (Reg.BOB_EVT st) Reg.BOB_EVT_REFUSED true
        (when (hasAngle st u) (setF (Reg.BOB_STAT st) Reg.BOB_STAT_REFCODE code) u)) := by
    have wide := written.mono (l' := Reg.BOB_STAT st :: Reg.BOB_EVT st :: requestRegs st) (by simp)
    exact .wrW (wide.when (fun _ hv => hv.wrW (by simp))) (by simp)
  have flagged := on_setB (Reg.BOB_EVT st) Reg.BOB_EVT_REFUSED (by decide) (by decide) true
    (when (hasAngle st u) (setF (Reg.BOB_STAT st) Reg.BOB_STAT_REFCODE code) u)
  unfold srcRefuse
  generalize setB (Reg.BOB_EVT st) Reg.BOB_EVT_REFUSED true _ = v at shown flagged
  have nseq : Reg.EVT_NSEQ ∉ Reg.BOB_STAT st :: Reg.BOB_EVT st :: requestRegs st := by
    rw [List.mem_cons, List.mem_cons, mem_requestRegs]
    unfold Reg.EVT_NSEQ Reg.BOB_STAT Reg.BOB_EVT
    omega
  have events : EventsOnly v (record 16 0 code (some st) v) := (EventsOnly.refl v).record
  refine ⟨?_, ?_, shown.recorded nseq, ?_⟩
  · rw [events.frame]
    exact congrArg (fun b => (Tbl.get .reset b st).req) shown.bob
  · have off : Reg.BOB_EVT st ∉ evtRegs := by
      simp only [evtRegs, List.mem_cons, List.not_mem_nil, or_false, Reg.BOB_EVT, Reg.EVT_NSEQ, Reg.EVT_STAT, Reg.EVT_EVT,
        Reg.EVT_LOST, Reg.EVT_UCVAL, Reg.EVT_UCWIN]
      omega
    rw [← flagged]
    unfold on fl
    rw [events.regs _ off]
  · rw [events.frame]
    exact shown.mem

/-! The latches (R31). -/

theorem regsKept_wr64 {l : List Nat} {lo hi : Nat} (hlo : lo ∈ l) (hhi : hi ∈ l) (n : Nat) (s : State) :
    regsKept l s (wr64 lo hi n s) := by
  intro a ha
  unfold wr64
  rw [rdW_wr_ne (ne_of_mem_of_not_mem hhi ha).symm, rdW_wr_ne (ne_of_mem_of_not_mem hlo ha).symm]

theorem rd64_wr64_other {a b lo hi : Nat} (ha : a ∉ [lo, hi]) (hb : b ∉ [lo, hi]) (n : Nat) (s : State) :
    rd64 a b (wr64 lo hi n s) = rd64 a b s := by
  have kept := regsKept_wr64 (l := [lo, hi]) (lo := lo) (hi := hi) (by simp) (by simp) n s
  unfold rd64 rd
  rw [kept a ha, kept b hb]

theorem ltLatchRead_spec (s : State) :
    let t := wr64 Reg.BOB_LT_LO Reg.BOB_LT_HI s.lt s
    rd64 Reg.BOB_LT_LO Reg.BOB_LT_HI t = s.lt % 2 ^ 64 ∧ regsKept [Reg.BOB_LT_LO, Reg.BOB_LT_HI] s t :=
  ⟨rd64_wr64 (by decide) _ _, regsKept_wr64 (by simp) (by simp) _ _⟩

/-- Both latches of a read of AT: what was latched, and that nothing else changed. -/
theorem atLatchRead_spec (st n : Nat) (s : State) :
    let t := wr64 (Reg.BOB_ATLT_LO st) (Reg.BOB_ATLT_HI st) s.lt (wr64 (Reg.BOB_AT_LO st) (Reg.BOB_AT_HI st) n s)
    rd64 (Reg.BOB_AT_LO st) (Reg.BOB_AT_HI st) t = n % 2 ^ 64 ∧
    rd64 (Reg.BOB_ATLT_LO st) (Reg.BOB_ATLT_HI st) t = s.lt % 2 ^ 64 ∧
    regsKept [Reg.BOB_AT_LO st, Reg.BOB_AT_HI st, Reg.BOB_ATLT_LO st, Reg.BOB_ATLT_HI st] s t := by
  have apart : Reg.BOB_AT_LO st ∉ [Reg.BOB_ATLT_LO st, Reg.BOB_ATLT_HI st] ∧
      Reg.BOB_AT_HI st ∉ [Reg.BOB_ATLT_LO st, Reg.BOB_ATLT_HI st] ∧ Reg.BOB_AT_LO st ≠ Reg.BOB_AT_HI st ∧
      Reg.BOB_ATLT_LO st ≠ Reg.BOB_ATLT_HI st := by
    simp [Reg.BOB_AT_LO, Reg.BOB_AT_HI, Reg.BOB_ATLT_LO, Reg.BOB_ATLT_HI]
  obtain ⟨lo, hi, at_, atLt⟩ := apart
  refine ⟨?_, rd64_wr64 atLt _ _, fun a ha => ?_⟩
  · rw [rd64_wr64_other lo hi, rd64_wr64 at_]
  · exact (regsKept_wr64 (by simp) (by simp) _ _ a ha).trans (regsKept_wr64 (by simp) (by simp) _ _ a ha)

/-- Settles O16: an accepted request waits, a refused one is recorded, and a latch writes its registers alone. -/
theorem sourceRequests : Obligations.SourceRequests := by
  refine ⟨?_, ?_, ?_, ?_, ?_, ?_⟩
  · intro st src s stored accepted
    exact ⟨_, congrArg Host.Outcome.next (pairStore_sourceWrite stored), srcRequest_accepted st.isLt (by omega) accepted⟩
  · intro st src s stored refused
    exact ⟨_, congrArg Host.Outcome.next (pairStore_sourceWrite stored), srcRequest_refused st.isLt refused⟩
  · intro st src s stored accepted
    exact ⟨_, congrArg Host.Outcome.next (pairStore_sourceWrite stored), srcRequest_accepted st.isLt (by omega) accepted⟩
  · intro st src s stored refused
    exact ⟨_, congrArg Host.Outcome.next (pairStore_sourceWrite stored), srcRequest_refused st.isLt refused⟩
  · intro s
    obtain ⟨latched, kept⟩ := ltLatchRead_spec s
    exact ⟨_, rfl, latched, kept, rfl⟩
  · intro st s
    obtain ⟨at_, atLt, kept⟩ := atLatchRead_spec st (if hasAngle st s then atOf st s else 0) s
    exact ⟨_, rfl, at_, atLt, kept, rfl⟩

end Sys2Proof.Machine
end

section
/-! SUPPORT. The word update of a Bobbin (R19-R27), and O17. -/

namespace Sys2Proof.Machine

/-! What a word update shows beside the word, and what works on it from outside the Bobbin. -/

/-- The registers of a Bobbin that a word update shows its work in. -/
def bobShown (st : Nat) : List Nat :=
  [Reg.BOB_STAT st, Reg.BOB_PHERR st, Reg.BOB_EVT st, Reg.BOB_ALJUMP st, Reg.BOB_ALSKIP st]

/-- A register above the block of the Bobbins, or one beside the status that a word update shows its work in. -/
def BesideWord (st a : Nat) : Prop :=
  0x40020000 ≤ a ∨ a ∈ [Reg.BOB_PHERR st, Reg.BOB_EVT st, Reg.BOB_ALJUMP st, Reg.BOB_ALSKIP st]

theorem BesideWord.above {st b k : Nat} (h : Nat.ble 0x40020000 b = true) : BesideWord st (b + k) :=
  .inl (Nat.le_add_right_of_le (Nat.le_of_ble_eq_true h))

theorem BesideWord.high {st a : Nat} (h : Nat.ble 0x40020000 a = true) : BesideWord st a := above (k := 0) h

/-- From `s` to `t` the Bobbins, time, memory and flash stand; the Bobbin's registers read as before, but for those that
show the work of an update; and the source in force stands. -/
structure BobStands (st : Fin 4) (s t : State) : Prop where
  bob : t.bob = s.bob
  lt : t.lt = s.lt
  mem : t.mem = s.mem
  nv : t.nv = s.nv
  regs : ∀ a, a < 0x40020000 → a ∉ bobShown st → rdW a t = rdW a s
  actSrc : actSrc st t = actSrc st s
  fallback : on (Reg.BOB_STAT st) Reg.BOB_STAT_FALLBACK t = on (Reg.BOB_STAT st) Reg.BOB_STAT_FALLBACK s

namespace BobStands

variable {st : Fin 4} {s t u : State} {a n v : Nat} {F : Fld} {b : Bool}

theorem refl (st : Fin 4) (s : State) : BobStands st s s := ⟨rfl, rfl, rfl, rfl, fun _ _ _ => rfl, rfl, rfl⟩

theorem trans (r : BobStands st s t) (g : BobStands st t u) : BobStands st s u :=
  ⟨g.bob.trans r.bob, g.lt.trans r.lt, g.mem.trans r.mem, g.nv.trans r.nv,
    fun a h ha => (g.regs a h ha).trans (r.regs a h ha), g.actSrc.trans r.actSrc, g.fallback.trans r.fallback⟩

theorem bobOf (r : BobStands st s t) (k : Nat) : bobOf k t = bobOf k s := by
  unfold Machine.bobOf
  rw [r.bob]

/-- A change of other parts of the state. -/
theorem elsewhere (r : BobStands st s t) (same : (u.bob, u.lt, u.mem, u.nv, u.regs) = (t.bob, t.lt, t.mem, t.nv, t.regs)) :
    BobStands st s u := by
  simp only [Prod.mk.injEq] at same
  obtain ⟨bob, lt, mem, nv, regs⟩ := same
  have word : ∀ a, rdW a u = rdW a t := fun a => by unfold rdW; rw [regs]
  refine r.trans ⟨bob, lt, mem, nv, fun a _ _ => word a, ?_, ?_⟩
  · unfold Machine.actSrc fl; rw [word]
  · unfold on fl; rw [word]

theorem withTack (r : BobStands st s t) {x : TackSt} : BobStands st s { t with tack := x } := r.elsewhere rfl
theorem setLane (r : BobStands st s t) {x : LaneSt} : BobStands st s (setLane n x t) := r.elsewhere rfl
theorem setCar (r : BobStands st s t) {x : CarSt} : BobStands st s (setCar n x t) := r.elsewhere rfl

theorem stat_ne (ha : BesideWord st a) : Reg.BOB_STAT st ≠ a := by
  simp only [BesideWord, List.mem_cons, List.not_mem_nil, or_false, Reg.BOB_PHERR, Reg.BOB_EVT, Reg.BOB_ALJUMP,
    Reg.BOB_ALSKIP] at ha
  unfold Reg.BOB_STAT
  omega

/-- A register beside the word and the status is written. -/
theorem wrW (r : BobStands st s t) (ha : BesideWord st a) {w : Word} : BobStands st s (wrW a w t) := by
  have stat : rdW (Reg.BOB_STAT st) (Machine.wrW a w t) = rdW (Reg.BOB_STAT st) t := by
    rw [rdW_wrW, if_neg (stat_ne ha)]
  refine r.trans ⟨rfl, rfl, rfl, rfl, fun c low hc => ?_, ?_, ?_⟩
  · rw [rdW_wrW, if_neg]
    rintro rfl
    rcases ha with high | shown
    · omega
    · exact hc (List.mem_cons_of_mem _ shown)
  · unfold Machine.actSrc fl; rw [stat]
  · unfold on fl; rw [stat]

/-- A flag of the status beside ACTSRC and FALLBACK is written. -/
theorem setStat (r : BobStands st s t) (source : Reg.BOB_STAT_ACTSRC.lo + Reg.BOB_STAT_ACTSRC.width ≤ F.lo)
    (fallback : F.lo + F.width ≤ Reg.BOB_STAT_FALLBACK.lo) : BobStands st s (setB (Reg.BOB_STAT st) F b t) := by
  refine r.trans ⟨rfl, rfl, rfl, rfl, fun c _ hc => ?_, fl_setF_other _ _ _ (.inl source) _ _, ?_⟩
  · exact rdW_setF_ne (ne_of_mem_of_not_mem (List.mem_cons_self ..) hc).symm _ _ _
  · unfold on setB
    rw [fl_setF_other _ _ _ (.inr fallback)]

/-- The event unit at work. -/
theorem events (r : BobStands st s t) (g : EventsOnly t u) : BobStands st s u := by
  have low : ∀ a, a < 0x40020000 → rdW a u = rdW a t := fun a ha => g.regs a (fun h => by
    simp only [evtRegs, List.mem_cons, List.not_mem_nil, or_false, Reg.EVT_NSEQ, Reg.EVT_STAT, Reg.EVT_EVT, Reg.EVT_LOST,
      Reg.EVT_UCVAL, Reg.EVT_UCWIN] at h
    omega)
  have stat : rdW (Reg.BOB_STAT st) u = rdW (Reg.BOB_STAT st) t := low _ (by unfold Reg.BOB_STAT; omega)
  refine r.trans ⟨?_, ?_, ?_, ?_, fun a ha _ => low a ha, ?_, ?_⟩
  · rw [g.frame]
  · rw [g.frame]
  · rw [g.frame]
  · rw [g.frame]
  · unfold Machine.actSrc fl; rw [stat]
  · unfold on fl; rw [stat]

theorem record (r : BobStands st s t) {a b c : Nat} {g : Option Nat} : BobStands st s (record a b c g t) :=
  r.events (EventsOnly.refl t).record

theorem recordAtf (r : BobStands st s t) {a b c d : Nat} {g : Option Nat} : BobStands st s (recordAtf a b c d g t) :=
  r.events (EventsOnly.refl t).accept

theorem when (r : BobStands st s t) {f : State → State} (hf : ∀ u, BobStands st s u → BobStands st s (f u)) :
    BobStands st s (when b f t) := by
  unfold Machine.when
  split
  · exact hf _ r
  · exact r

/-! The slots, lanes and carriers that an update moves (R25, R140). -/

theorem tackNext (r : BobStands st s t) : BobStands st s (tackNext n t) := by
  unfold Machine.tackNext
  split
  · exact r.withTack
  · exact r.withTack

theorem fixReached (r : BobStands st s t) {k : Nat} : BobStands st s (fixReached k t) := by
  refine each_induct r (fun n _ u hu => ?_)
  extract_lets x
  split
  · exact hu
  · split
    · exact hu
    · split
      · exact hu
      · exact .withTack hu.tackNext

theorem laneFlag (r : BobStands st s t) : BobStands st s (laneFlag n F t) := by
  refine .wrW (.wrW r (.above rfl)) ?_
  split
  · exact .high rfl
  · exact .high rfl

theorem alignLanes (r : BobStands st s t) {k : Nat} {z : Int} : BobStands st s (alignLanes k n z t) :=
  each_induct r (fun _ _ _ hu => hu.setLane.when (fun _ hv => hv.laneFlag))

theorem loadShow (r : BobStands st s t) : BobStands st s (loadShow t) := (r.wrW (.high rfl)).wrW (.high rfl)

theorem carRealign (r : BobStands st s t) : BobStands st s (carRealign n t) :=
  .wrW (.wrW (.wrW r.setCar (.above rfl)) (.above rfl)) (.above rfl)

end BobStands

/-! The word of an update (R19). -/

theorem clampI_mem {lo hi : Int} (h : lo ≤ hi) (x : Int) : lo ≤ clampI lo hi x ∧ clampI lo hi x ≤ hi := by
  unfold clampI
  split
  · exact ⟨le_rfl, h⟩
  · split
    · exact ⟨h, le_rfl⟩
    · omega

theorem wordOf_setWord (st w : Nat) (s : State) : wordOf st (setWord st w s) = w % 2 ^ 48 := by
  have apart : Reg.BOB_FWORD_LO st ≠ Reg.BOB_FWORD_HI st := by
    unfold Reg.BOB_FWORD_LO Reg.BOB_FWORD_HI
    omega
  unfold wordOf setWord
  rw [rd_wr, rd_wr, rd_wr, if_neg apart, if_pos rfl, if_pos rfl]
  omega

theorem BobStands.wordOf {st : Fin 4} {s t : State} (r : BobStands st s t) : wordOf st t = wordOf st s := by
  unfold Machine.wordOf rd
  rw [r.regs (Reg.BOB_FWORD_LO st) (by unfold Reg.BOB_FWORD_LO; omega)
      (by simp [bobShown, Reg.BOB_FWORD_LO, Reg.BOB_STAT, Reg.BOB_PHERR, Reg.BOB_EVT, Reg.BOB_ALJUMP, Reg.BOB_ALSKIP]),
    r.regs (Reg.BOB_FWORD_HI st) (by unfold Reg.BOB_FWORD_HI; omega)
      (by simp [bobShown, Reg.BOB_FWORD_HI, Reg.BOB_STAT, Reg.BOB_PHERR, Reg.BOB_EVT, Reg.BOB_ALJUMP, Reg.BOB_ALSKIP])]

/-- The two bounds of the word. -/
theorem wordBounds_congr {st : Nat} {s t : State} (h : ∀ a ∈ angleRegs st, rdW a t = rdW a s) :
    fminOf st t = fminOf st s ∧ fmaxOf st t = fmaxOf st s := by
  simp only [angleRegs, List.forall_mem_cons] at h
  obtain ⟨-, -, fminLo, fminHi, fmaxLo, fmaxHi, -, -⟩ := h
  unfold fminOf fmaxOf rd64 rd
  rw [fminLo, fminHi, fmaxLo, fmaxHi]
  exact ⟨rfl, rfl⟩

theorem mem_angleRegs {st a : Nat} (ha : a ∈ angleRegs st) :
    0x40010018 + 0x100 * st ≤ a ∧ a ≤ 0x40010030 + 0x100 * st := by
  simp only [angleRegs, Reg.BOB_FNOM_LO, Reg.BOB_FNOM_HI, Reg.BOB_FMIN_LO, Reg.BOB_FMIN_HI, Reg.BOB_FMAX_LO,
    Reg.BOB_FMAX_HI, Reg.BOB_DWMAX, List.mem_cons, List.not_mem_nil, or_false] at ha
  omega

theorem BobStands.wordBounds {st : Fin 4} {s t : State} (r : BobStands st s t) :
    fminOf st t = fminOf st s ∧ fmaxOf st t = fmaxOf st s := by
  refine wordBounds_congr (fun a ha => r.regs a ?_ ?_)
  · have := mem_angleRegs ha
    omega
  · have := mem_angleRegs ha
    simp only [bobShown, List.mem_cons, List.not_mem_nil, or_false, Reg.BOB_STAT, Reg.BOB_PHERR, Reg.BOB_EVT,
      Reg.BOB_ALJUMP, Reg.BOB_ALSKIP]
    omega

/-- What an update of the word brings (R19, R147): the word lies within its bounds and is the newest anchor with its LT and AT;
the source in force and the request that waits stand. -/
structure WordSet (st : Fin 4) (s t : State) : Prop where
  lt : t.lt = s.lt
  mem : t.mem = s.mem
  nv : t.nv = s.nv
  req : (bobOf st t).req = (bobOf st s).req
  lost : (bobOf st t).lost = (bobOf st s).lost
  anchor : (bobOf st t).anchors.head? = some (s.lt, (bobOf st t).phase, wordOf st t)
  actSrc : actSrc st t = actSrc st s
  fallback : on (Reg.BOB_STAT st) Reg.BOB_STAT_FALLBACK t = on (Reg.BOB_STAT st) Reg.BOB_STAT_FALLBACK s
  word : fminOf st s ≤ fmaxOf st s → fmaxOf st s < 2 ^ 48 → fminOf st s ≤ wordOf st t ∧ wordOf st t ≤ fmaxOf st s

theorem recent_head {α : Type} (lt : Nat) (at_ : α → Nat) (x : α) (l : List α) :
    (recent lt at_ (x :: l)).head? = some x := by
  unfold recent
  split <;> rfl

@[simp] theorem bobOf_setBob (j k : Nat) (x : BobSt) (s : State) : bobOf j (setBob k x s) = if j = k then x else bobOf j s :=
  Tbl.get_put _ j k x s.bob

/-- A clamped word, then what the update shows, its anchor, and the carriers that follow it. -/
theorem wordSet_of_clamped {st : Fin 4} {s u v t : State} {c x : Int} (clamped : c = clampI (fminOf st s) (fmaxOf st s) x)
    (before : BobStands st s u) (shown : BobStands st (setWord st c.toNat u) v)
    (after : BobStands st (newAnchor st v) t) : WordSet st s t := by
  have bobV : bobOf st v = bobOf st s := (shown.bobOf st).trans (before.bobOf st)
  have ltV : v.lt = s.lt := shown.lt.trans before.lt
  have bobT : bobOf st t
      = { bobOf st s with
          anchors := recent s.lt (·.1) ((s.lt, (bobOf st s).phase, wordOf st v) :: (bobOf st s).anchors) } := by
    rw [after.bobOf, newAnchor, bobOf_setBob, if_pos rfl, bobV, ltV]
  have wordT : wordOf st t = wordOf st v := after.wordOf
  have stat : rdW (Reg.BOB_STAT st) (setWord st c.toNat u) = rdW (Reg.BOB_STAT st) u := by
    unfold setWord
    rw [rdW_wr_ne, rdW_wr_ne]
    · unfold Reg.BOB_STAT Reg.BOB_FWORD_LO; omega
    · unfold Reg.BOB_STAT Reg.BOB_FWORD_HI; omega
  refine ⟨after.lt.trans ltV, after.mem.trans (shown.mem.trans before.mem), after.nv.trans (shown.nv.trans before.nv),
    ?_, ?_, ?_, ?_, ?_, fun ordered small => ?_⟩
  · rw [bobT]
  · rw [bobT]
  · rw [bobT, recent_head, wordT]
  · refine after.actSrc.trans (shown.actSrc.trans (Eq.trans ?_ before.actSrc))
    unfold actSrc fl
    rw [stat]
  · refine after.fallback.trans (shown.fallback.trans (Eq.trans ?_ before.fallback))
    unfold on fl
    rw [stat]
  · have bounds := clampI_mem (Int.ofNat_le.2 ordered) x
    rw [← clamped] at bounds
    rw [wordT, shown.wordOf, wordOf_setWord]
    omega

/-- The source in force is followed (R19, R23). -/
theorem followSource_wordSet (st : Fin 4) (s : State) : WordSet st s (followSource st s) := by
  unfold followSource
  extract_lets src w c d slewing
  have before : BobStands st s (fixReached st s) := (BobStands.refl st s).fixReached
  have shown : BobStands st (setWord st c.toNat (fixReached st s)) _ :=
    (((BobStands.refl st _).wrW (a := Reg.BOB_PHERR st) (.inr (by simp)) (w := BitVec.ofInt 32 (d.getD 0))).setStat
      (F := Reg.BOB_STAT_WCLAMP) (b := c != w) (by decide) (by decide)).setStat
      (F := Reg.BOB_STAT_SLEWING) (b := slewing) (by decide) (by decide)
  exact wordSet_of_clamped rfl before shown (.refl st _)

/-- What holds of an update holds of it from a state in which the Bobbin's phase and jumps differ. -/
theorem WordSet.of_setBob {st : Fin 4} {s t : State} {x : BobSt} (w : WordSet st (setBob st x s) t)
    (req : x.req = (bobOf st s).req) (lost : x.lost = (bobOf st s).lost) : WordSet st s t := by
  have same : bobOf st (setBob st x s) = x := (bobOf_setBob ..).trans (if_pos rfl)
  exact ⟨w.lt, w.mem, w.nv, w.req.trans ((congrArg _ same).trans req), w.lost.trans ((congrArg _ same).trans lost), w.anchor,
    w.actSrc, w.fallback, w.word⟩

theorem WordSet.of_stands {st : Fin 4} {s u t : State} (r : BobStands st s u) (w : WordSet st u t) : WordSet st s t := by
  have bob : bobOf st u = bobOf st s := r.bobOf st
  obtain ⟨fmin, fmax⟩ := r.wordBounds
  refine ⟨w.lt.trans r.lt, w.mem.trans r.mem, w.nv.trans r.nv, w.req.trans (by rw [bob]), w.lost.trans (by rw [bob]), ?_,
    w.actSrc.trans r.actSrc, w.fallback.trans r.fallback, ?_⟩
  · rw [← r.lt]; exact w.anchor
  · rw [← fmin, ← fmax]; exact w.word

/-- AT jumps, and the word is that of the source (R24, R25). -/
theorem alignBy_wordSet (st : Fin 4) (j w : Int) (s : State) : WordSet st s (alignBy st j w s) := by
  unfold alignBy
  extract_lets b old phase t1 t2
  split
  rename_i k tack e
  extract_lets t3 c t4 t5 t6 t7
  have fixed : BobStands st s t1 := (BobStands.refl st s).fixReached
  have bob : bobOf st t1 = b := fixed.bobOf st
  have before : BobStands st t2 t3 := .alignLanes (.loadShow (.withTack (.refl st t2)))
  have r5 : BobStands st t4 t5 := (((BobStands.refl st t4).wrW (.inr (by simp))).wrW (.inr (by simp))).wrW (.inr (by simp))
  have r6 : BobStands st t4 t6 := ((r5.setStat (by decide) (by decide)).setStat (by decide) (by decide)).wrW (.inr (by simp))
  obtain ⟨fmin, fmax⟩ := before.wordBounds
  have clamped : c = clampI (fminOf st t2) (fmaxOf st t2) w := by unfold c; rw [fmin, fmax]
  exact .of_stands fixed (.of_setBob (wordSet_of_clamped clamped before r6.recordAtf
    (each_induct (.refl st t7) (fun _ _ _ hu => hu.carRealign))) (show b.req = _ by rw [bob]) (show b.lost = _ by rw [bob]))

theorem applyAlign_wordSet (st : Fin 4) (src : Nat) (s : State) : WordSet st s (applyAlign st src s) := by
  unfold applyAlign
  exact alignBy_wordSet ..

/-! The source of an update (R20, R24, R27). -/

/-- A source found lost is recorded with the one that follows it. -/
theorem sourceLost_of_lost {st : Nat} {s : State} (configured : s.configured = true) (angle : hasAngle st s = true)
    (lost : srcIsLost st (actSrc st s) s = true) (first : (bobOf st s).lost = false) (req : (bobOf st s).req = none) :
    sourceLost st s
      = lossRecorded st (actSrc st s) (afterLoss st s) (setBob st { bobOf st s with lost := true } s) := by
  unfold sourceLost
  extract_lets b src next
  rw [if_pos (by simp [configured, angle, src, lost, b, first])]
  unfold next b
  rw [req]
  rfl

/-- A loss noted before is not recorded again. -/
theorem sourceLost_of_noted {st : Nat} {s : State} (noted : (bobOf st s).lost = true) : sourceLost st s = s := by
  unfold sourceLost
  extract_lets b src next
  exact if_neg (by simp [b, noted])

/-- What the record of a loss leaves. -/
theorem lossRecorded_stands (st : Fin 4) (src next : Nat) (s : State) : BobStands st s (lossRecorded st src next s) :=
  .record ((BobStands.refl st s).wrW (a := Reg.BOB_EVT st) (.inr (by simp)))

theorem lossRecorded_regs (st src next : Nat) (s : State) :
    regsKept (Reg.BOB_EVT st :: evtRegs) s (lossRecorded st src next s) := by
  intro a ha
  obtain ⟨flag, events⟩ := not_or.1 (mt List.mem_cons.2 ha)
  exact ((EventsOnly.refl _).record.regs a events).trans (rdW_setF_ne flag _ _ _)

theorem lossRecorded_flag (st : Fin 4) (src next : Nat) (s : State) :
    on (Reg.BOB_EVT st) Reg.BOB_EVT_SRCLOST (lossRecorded st src next s) = true := by
  have flagged := on_setB (Reg.BOB_EVT st) Reg.BOB_EVT_SRCLOST (by decide) (by decide) true s
  unfold on fl at flagged ⊢
  rw [← flagged]
  congr 2
  refine (EventsOnly.refl _).record.regs _ ?_
  simp only [evtRegs, List.mem_cons, List.not_mem_nil, or_false, Reg.BOB_EVT, Reg.EVT_NSEQ, Reg.EVT_STAT, Reg.EVT_EVT,
    Reg.EVT_LOST, Reg.EVT_UCVAL, Reg.EVT_UCWIN]
  omega

/-- What finding a loss leaves: the request that waits, and every register but the flag and those of the event unit. -/
theorem sourceLost_spec (st : Fin 4) (s : State) : regsKept (Reg.BOB_EVT st :: evtRegs) s (sourceLost st s) ∧
    (bobOf st (sourceLost st s)).req = (bobOf st s).req ∧ (sourceLost st s).lt = s.lt ∧ (sourceLost st s).mem = s.mem ∧
    (sourceLost st s).nv = s.nv := by
  unfold sourceLost
  extract_lets b src next
  split
  · have stands := lossRecorded_stands st src next (setBob st { b with lost := true } s)
    refine ⟨lossRecorded_regs st src next (setBob st { b with lost := true } s), ?_, stands.lt, stands.mem, stands.nv⟩
    rw [stands.bobOf, bobOf_setBob, if_pos rfl]
  · exact ⟨fun _ _ => rfl, rfl, rfl, rfl, rfl⟩

/-- The state in which an update chooses its source: a loss has been found, and nothing waits any more. -/
def updateStart (st : Nat) (s : State) : State :=
  setBob st { bobOf st (sourceLost st s) with req := none, lost := false } (sourceLost st s)

/-- In `u` an update that began in `s` has taken the request and the loss that waited. -/
structure UpdateFrom (st : Fin 4) (s u : State) : Prop where
  req : (bobOf st u).req = none
  lost : (bobOf st u).lost = false
  lt : u.lt = s.lt
  mem : u.mem = s.mem
  nv : u.nv = s.nv

theorem updateStart_from (st : Fin 4) (s : State) : UpdateFrom st s (updateStart st s) := by
  obtain ⟨-, -, lt, mem, nv⟩ := sourceLost_spec st s
  exact ⟨congrArg BobSt.req (Tbl.get_put_same ..), congrArg BobSt.lost (Tbl.get_put_same ..), lt, mem, nv⟩

theorem updateStart_regs (st : Fin 4) (s : State) : regsKept (Reg.BOB_EVT st :: evtRegs) s (updateStart st s) :=
  (sourceLost_spec st s).1

theorem UpdateFrom.slewTo {st : Fin 4} {s u : State} (r : UpdateFrom st s u) {src : Nat} {fb : Bool} :
    UpdateFrom st s (slewTo st src fb u) := ⟨r.req, r.lost, r.lt, r.mem, r.nv⟩

theorem UpdateFrom.lossRecorded {st : Fin 4} {s u : State} (r : UpdateFrom st s u) {src next : Nat} :
    UpdateFrom st s (lossRecorded st src next u) := by
  have stands := lossRecorded_stands st src next u
  have bob : bobOf st (Machine.lossRecorded st src next u) = bobOf st u := stands.bobOf st
  exact ⟨bob ▸ r.req, bob ▸ r.lost, stands.lt.trans r.lt, stands.mem.trans r.mem, stands.nv.trans r.nv⟩

/-- Every word update sets a word, from a state in which neither a request nor a loss waits. -/
theorem wordUpdate_spec (st : Fin 4) (s : State) : ∃ u, UpdateFrom st s u ∧ WordSet st u (wordUpdate st s) := by
  have start := updateStart_from st s
  unfold wordUpdate
  extract_lets t1 b t2 fallback
  have falls : ∀ u, UpdateFrom st s u → ∃ v, UpdateFrom st s v ∧ WordSet st v (fallback u) := fun u hu =>
    ⟨_, hu.slewTo, followSource_wordSet st _⟩
  clear_value fallback
  split
  · extract_lets target
    split
    · refine falls _ ?_
      unfold when
      split
      · exact start.lossRecorded
      · exact start
    · split
      · exact ⟨_, start.slewTo, applyAlign_wordSet st _ _⟩
      · exact ⟨_, start.slewTo, followSource_wordSet st _⟩
  · split
    · exact falls _ start
    · exact ⟨_, start, followSource_wordSet st _⟩

theorem srcIsLost_congr {st src : Nat} {s t : State} (bus : rdW (Reg.DRM_SSTAT st) t = rdW (Reg.DRM_SSTAT st) s)
    (cluster : rdW Reg.SPN_STAT t = rdW Reg.SPN_STAT s) : srcIsLost st src t = srcIsLost st src s := by
  unfold srcIsLost busValid refOk on fl
  rw [bus, cluster]

/-- The registers that a found loss shows in. -/
theorem mem_lossRegs {st a : Nat} : a ∈ Reg.BOB_EVT st :: evtRegs ↔ a = 0x40010054 + 0x100 * st ∨ a = 0x40130010 ∨
    a = 0x40130018 ∨ a = 0x4013001C ∨ a = 0x40130014 ∨ a = 0x40130034 ∨ a = 0x40130038 := by
  simp only [evtRegs, List.mem_cons, List.not_mem_nil, or_false, Reg.BOB_EVT, Reg.EVT_NSEQ, Reg.EVT_STAT, Reg.EVT_EVT,
    Reg.EVT_LOST, Reg.EVT_UCVAL, Reg.EVT_UCWIN]

theorem srcIsLost_updateStart (st : Fin 4) (src : Nat) (s : State) :
    srcIsLost st src (updateStart st s) = srcIsLost st src s := by
  have kept := updateStart_regs st s
  refine srcIsLost_congr (kept _ ?_) (kept _ ?_)
  · rw [mem_lossRegs]; unfold Reg.DRM_SSTAT; omega
  · rw [mem_lossRegs]; unfold Reg.SPN_STAT; omega

/-- An update with a request whose source is not lost takes that source into force. -/
theorem wordUpdate_of_request {st : Fin 4} {src kind : Nat} {s : State} (req : (bobOf st s).req = some (src, kind))
    (there : srcIsLost st src s = false) : WordSet st (slewTo st src false (updateStart st s)) (wordUpdate st s) := by
  obtain ⟨-, reqStays, -⟩ := sourceLost_spec st s
  have there' := (srcIsLost_updateStart st src s).trans there
  unfold wordUpdate
  extract_lets t1 b t2 fallback
  have hb : b.req = some (src, kind) := reqStays.trans req
  have ht : srcIsLost st src t2 = false := there'
  clear_value fallback
  rw [hb]
  dsimp only
  rw [if_neg (by simp [ht])]
  split
  · exact applyAlign_wordSet st _ _
  · exact followSource_wordSet st _

/-- An update after a loss, with no request, takes the fallback. -/
theorem wordUpdate_of_loss {st : Fin 4} {s : State} (noted : (bobOf st s).lost = true) (req : (bobOf st s).req = none) :
    WordSet st (slewTo st (afterLoss st s) true (updateStart st s)) (wordUpdate st s) := by
  have stays : sourceLost st s = s := sourceLost_of_noted noted
  unfold wordUpdate updateStart
  rw [stays]
  dsimp only
  rw [req, noted]
  exact followSource_wordSet st _

/-! A source in force (R23). -/

theorem slewTo_source (st src : Nat) (fb : Bool) (s : State) (small : src < 8) :
    actSrc st (slewTo st src fb s) = src ∧ on (Reg.BOB_STAT st) Reg.BOB_STAT_FALLBACK (slewTo st src fb s) = fb := by
  unfold slewTo
  extract_lets target
  constructor
  · unfold actSrc setB
    rw [fl_setF_other _ _ _ (by decide), fl_setF_other _ _ _ (by decide), fl_setF _ _ (by decide)]
    exact Nat.mod_eq_of_lt small
  · have flagged := on_setB (Reg.BOB_STAT st) Reg.BOB_STAT_FALLBACK (by decide) (by decide) fb
      (setF (Reg.BOB_STAT st) Reg.BOB_STAT_ACTSRC src s)
    unfold on setB at flagged ⊢
    rw [fl_setF_other _ _ _ (by decide), flagged]

theorem slewTo_wordBounds (st : Fin 4) (src : Nat) (fb : Bool) (s : State) :
    fminOf st (slewTo st src fb (updateStart st s)) = fminOf st s ∧
      fmaxOf st (slewTo st src fb (updateStart st s)) = fmaxOf st s := by
  refine wordBounds_congr (fun a ha => ?_)
  have range := mem_angleRegs ha
  have stat : a ≠ Reg.BOB_STAT st := by unfold Reg.BOB_STAT; omega
  unfold slewTo setB
  rw [rdW_setF_ne stat, rdW_setF_ne stat, rdW_setF_ne stat]
  exact updateStart_regs st s a (by rw [mem_lossRegs]; omega)

theorem afterLoss_lt (st : Nat) (s : State) : afterLoss st s < 8 := by
  unfold afterLoss
  split
  · decide
  · exact fldGet_lt Reg.BOB_SRCCFG_FALLBACK _

/-! O17, clause by clause. -/

theorem exec_bobbinOuterTick_due {st : Fin 4} {s : State} (due : outerTickDue st s = true) :
    exec (.bobbinOuterTick st) s = .next (wordUpdate st s) := congrArg Host.Outcome.next (if_pos due)

theorem exec_bobbinOuterTick_early {st : Fin 4} {s : State} (early : outerTickDue st s = false) :
    exec (.bobbinOuterTick st) s = .next s := congrArg Host.Outcome.next (if_neg (by simp [early]))

/-- A switch that is due: of a Stage without a Drum the outer tick takes it, of one with a Drum the step of its slot. -/
theorem exec_sourceSwitchApply {st : Fin 4} {slot : Fin 4096} {gpi : BitVec 32} {bad : List (BitVec 32)} {src kind : Nat}
    {s : State} (req : (bobOf st s).req = some (src, kind)) (there : srcIsLost st src s = false) :
    exec (.sourceSwitchApply st slot gpi bad) s = .next (if hasDrum st s
      then drumWhen slot gpi bad (drumStage slot s == st.val) s else outerTick st s) := by
  show execSourceSwitchApply st slot gpi bad s = _
  unfold execSourceSwitchApply
  rw [req]
  dsimp only
  rw [there]
  rfl

/-- The fallback after a loss without a request, likewise. -/
theorem exec_fallbackApply {st : Fin 4} {slot : Fin 4096} {gpi : BitVec 32} {bad : List (BitVec 32)} {s : State}
    (noted : (bobOf st s).lost = true) (req : (bobOf st s).req = none) :
    exec (.fallbackApply st slot gpi bad) s = .next (if hasDrum st s
      then drumWhen slot gpi bad (drumStage slot s == st.val) s else outerTick st s) := by
  show execFallbackApply st slot gpi bad s = _
  unfold execFallbackApply
  rw [req, noted]
  rfl

theorem outerTick_of_due {st : Nat} {s : State} (due : outerTickDue st s = true) :
    outerTick st s = wordUpdate st s := if_pos due

/-- The ready slot of the Stage's own Drum step runs it. -/
theorem drumWhen_of_ready {st : Fin 4} {slot : Nat} (gpi : BitVec 32) (bad : List (BitVec 32)) {s : State}
    (drum : hasDrum st s = true) (ready : tackReady slot actDrum s = true) (mine : drumStage slot s = st) :
    drumWhen slot gpi bad (drumStage slot s == st.val) s = drumFire slot gpi bad s := by
  have runs : stepRuns slot s = true := stepRuns_of_ready ready (mine ▸ drum)
  unfold drumWhen
  rw [runs, mine, if_pos (by simp)]

/-- A source found lost is marked, and recorded with the one that follows. -/
theorem exec_sourceLost {st : Fin 4} {s : State} (configured : s.configured = true) (angle : hasAngle st s = true)
    (lost : srcIsLost st (actSrc st s) s = true) (first : (bobOf st s).lost = false) (req : (bobOf st s).req = none) :
    ∃ t, exec (.sourceLost st) s = .next t ∧ (bobOf st t).lost = true ∧
      on (Reg.BOB_EVT st) Reg.BOB_EVT_SRCLOST t = true ∧
      recorded 17 0 (actSrc st s + 16 * afterLoss st s) (some st) s t ∧ actSrc st t = actSrc st s ∧
      regsKept (Reg.BOB_EVT st :: evtRegs) s t ∧ t.mem = s.mem := by
  refine ⟨_, congrArg Host.Outcome.next (sourceLost_of_lost configured angle lost first req), ?_⟩
  have marked : Silent [Reg.BOB_EVT st] s (setBob st { bobOf st s with lost := true } s) := (Silent.refl _ s).elsewhere
  have bob : (bobOf st (setBob st { bobOf st s with lost := true } s)).lost = true := by rw [bobOf_setBob, if_pos rfl]
  generalize hu : setBob st { bobOf st s with lost := true } s = u at marked bob
  have stands := lossRecorded_stands st (actSrc st s) (afterLoss st s) u
  have kept := lossRecorded_regs st (actSrc st s) (afterLoss st s) u
  refine ⟨?_, lossRecorded_flag .., ?_, ?_, ?_, ?_⟩
  · rw [stands.bobOf, bob]
  · exact (marked.setB (by simp)).recorded (by simp [Reg.EVT_NSEQ, Reg.BOB_EVT]; omega)
  · rw [stands.actSrc, ← hu]; rfl
  · exact fun a ha => (kept a ha).trans (by rw [← hu]; rfl)
  · rw [stands.mem, ← hu]; rfl

/-- Settles O17: a due word update takes the request or the fallback; on a Stage with a Drum the step of its slot does. -/
theorem sourceSwitches : Obligations.SourceSwitches := by
  refine ⟨?_, ?_, ?_, ?_, ?_, ?_, ?_⟩
  · intro st slot gpi bad src kind s req there noDrum due small ordered narrow
    have update := wordUpdate_of_request req there
    obtain ⟨source, fallback⟩ := slewTo_source st src false (updateStart st s) small
    obtain ⟨fmin, fmax⟩ := slewTo_wordBounds st src false s
    have start := (updateStart_from st s).slewTo (src := src) (fb := false)
    have word := update.word
    rw [fmin, fmax] at word
    obtain ⟨low, high⟩ := word ordered narrow
    refine ⟨wordUpdate st s, ?_, update.actSrc.trans source, update.req.trans start.req, update.fallback.trans fallback, low,
      high, update.mem.trans start.mem, update.nv.trans start.nv⟩
    rw [exec_sourceSwitchApply req there, if_neg (by simp [noDrum]), outerTick_of_due due]
  · intro st slot gpi bad src kind s req there drum ready mine
    rw [exec_sourceSwitchApply req there, if_pos drum, drumWhen_of_ready gpi bad drum ready mine]
  · exact fun st s configured angle lost first req => exec_sourceLost configured angle lost first req
  · intro st slot gpi bad s noted req noDrum due
    have update := wordUpdate_of_loss noted req
    obtain ⟨source, fallback⟩ := slewTo_source st (afterLoss st s) true (updateStart st s) (afterLoss_lt st s)
    have start := (updateStart_from st s).slewTo (src := afterLoss st s) (fb := true)
    refine ⟨wordUpdate st s, ?_, update.actSrc.trans source, update.lost.trans start.lost, update.fallback.trans fallback,
      update.mem.trans start.mem, update.nv.trans start.nv⟩
    rw [exec_fallbackApply noted req, if_neg (by simp [noDrum]), outerTick_of_due due]
  · intro st slot gpi bad s noted req drum ready mine
    rw [exec_fallbackApply noted req, if_pos drum, drumWhen_of_ready gpi bad drum ready mine]
  · intro st s due
    obtain ⟨u, start, update⟩ := wordUpdate_spec st s
    exact ⟨wordUpdate st s, exec_bobbinOuterTick_due due, rfl, update.req.trans start.req, update.lost.trans start.lost,
      start.lt ▸ update.anchor, update.lt.trans start.lt, update.mem.trans start.mem⟩
  · exact fun st s early => exec_bobbinOuterTick_early early

end Sys2Proof.Machine
end

section
/-! SUPPORT. The hem restore of a torn pair (R55, R213), and O19: its third clause fails. -/

namespace Sys2Proof.Machine

theorem exec_hemRestore (st : Fin 4) (s : State) :
    exec (.hemRestore st) s = .next (pairStore (Reg.DRM_HEMREST st) (hemRestore st) s) := rfl

/-- A storage that is written and verified is no longer torn (R213). -/
theorem not_mem_torn_endHold {a : Nat} {s : State} (sound : s.evt.mism = []) : a ∉ (endHold a s).evt.torn := by
  by_cases torn : a ∈ s.evt.torn <;> simp [endHold, verified, when, sound, torn]

/-- An accepted hem restore is no work of the event unit (R55). -/
theorem hemRestore_evt {st : Nat} {s : State} (accepted : on (Reg.DRM_STAT st) Reg.DRM_STAT_DERCAUSE s = false) :
    (hemRestore st s).evt = s.evt := by
  unfold hemRestore
  rw [if_neg (by simp [accepted])]
  split <;> rfl

/-- The write of an accepted hem restore heals its pair (R55, R213). -/
theorem not_mem_torn_hemRestore {st : Fin 4} {s : State} (reaches : stores s = true) (sound : s.evt.mism = [])
    (accepted : on (Reg.DRM_STAT st) Reg.DRM_STAT_DERCAUSE (endHold (Reg.DRM_HEMREST st) s) = false) :
    Reg.DRM_HEMREST st ∉ (pairStore (Reg.DRM_HEMREST st) (hemRestore st) s).evt.torn := by
  unfold pairStore when
  rw [if_pos reaches, hemRestore_evt accepted]
  exact not_mem_torn_endHold sound

/-- A configured device on which DRM_HEMREST of Stage 0 disagrees with its complement. -/
def tornHemRestore : State :=
  { State.reset with configured := true, evt := { EvtSt.reset with torn := [Reg.DRM_HEMREST 0] } }

/-- Refutes O19: its third clause keeps the whole event unit, but the write that restores the hem also verifies its pair
(R213); on a device with that pair torn, the storage leaves the list of torn ones. -/
theorem not_commitAndHemRestore : ¬ Obligations.CommitAndHemRestore := by
  rintro ⟨-, -, noDrum, -⟩
  obtain ⟨t, ran, -, -, same, -⟩ := noDrum 0 tornHemRestore (by decide) (by decide) rfl (by decide)
  rw [exec_hemRestore] at ran
  have healed : Reg.DRM_HEMREST 0 ∉ t.evt.torn := by
    rw [← Host.Outcome.next.inj ran]
    exact not_mem_torn_hemRestore (st := 0) (by decide) rfl (by decide)
  rw [same] at healed
  exact healed (List.mem_singleton_self _)

end Sys2Proof.Machine
end

section
/-! SUPPORT. A Drum step that follows a takeover (R215, R384), and O20: the records its clauses promise may be lost. -/

namespace Sys2Proof.Machine

/-- A standby that accepted a grant in FCLK 0 and whose Drum-step slot 0 fires in FCLK 1, for Stage 0 with a Drum; the
breaker input has already read 1 once. Its 65,535 numbers between two state copies are counted from number 0 (R215). -/
def takeoverStep : State :=
  { State.reset with
    configured := true
    lt := fclk
    regs := [(Reg.DRM_CFG 0, fldSet Reg.DRM_CFG_AC 0 1), (Reg.PAR_CFG, fldSet Reg.PAR_CFG_EN 0 1),
      (Reg.PAR_STAT, fldSet Reg.PAR_STAT_ROLE 0 roleStandby)]
    drm := [(0, { DrumSt.reset with brkPrev := true })]
    evt := { EvtSt.reset with cap := some 0 }
    par := { ParSt.reset with grant := some 0 }
    tack := { TackSt.reset with slots := [(0, ⟨1 + 256 * actDrum, 0, 0, 0, 1, 0, 0⟩)], due := [(0, some fclk)] } }

theorem roomy_takeoverStep : roomy takeoverStep = true := by decide +kernel

theorem stepRuns_takeoverStep : stepRuns 0 takeoverStep = true := by decide +kernel

theorem stepBit_takeoverStep : stepBit Reg.DRM_SSTAT_BRKFB 0 1 [] takeoverStep = (false, true) := by decide +kernel

/-- The firing takes over before its step, and EVT_NSEQ goes from 0 to 65,536: no number is left, and no EV43 of the step
joins the queue or waits. -/
theorem recs_takeoverStep :
    recs 43 0 0 (some 0) (mcStep 0 (drumStep 0 [] (stepStart (0 : Fin 4096) 1 takeoverStep))) = 0 := by decide +kernel

/-- Refutes O20: room for records before the command is no room in its step. The firing of a paired unit may begin with a
takeover, which raises the next number by 65,536 (R215, R384), and the EV43 of the breaker change that follows is lost. -/
theorem not_drumStepTransitions : ¬ Obligations.DrumStepTransitions := by
  rintro ⟨-, -, -, -, -, -, -, -, -, -, -, -, -, -, -, breaker, -⟩
  obtain ⟨t, -, step, -, noted⟩ := breaker 0 1 [] 0 _ _ false true takeoverStep stepRuns_takeoverStep (by decide +kernel)
    rfl rfl stepBit_takeoverStep (by decide)
  have more := noted rfl roomy_takeoverStep
  rw [step, recs_takeoverStep] at more
  exact Nat.not_lt_zero _ more

end Sys2Proof.Machine
end

section
/-! SUPPORT. A Stage command (R65, R82, R88), and O18: one that reaches its register waits for the next Drum step. -/

namespace Sys2Proof.Machine

/-- A pair that reaches its register ends the hold of its value word and then acts (R8). -/
theorem pairStore_of_stores {s : State} (stored : stores s = true) (a : Nat) (f : State → State) :
    pairStore a f s = f (endHold a s) := if_pos stored

/-- A pair of a unit that does not act, or on a device that is not configured, changes nothing. -/
theorem pairStore_of_not_stores {s : State} (refused : stores s = false) (a : Nat) (f : State → State) :
    pairStore a f s = s := if_neg (by simp [refused])

/-- A command to a Stage with a Drum takes the place of one that waited; what waited before this FCLK is kept for the step
that begins in it (R65). -/
theorem scmdWrite_of_drum {st : Nat} {s : State} (drum : hasDrum st s = true) (code : Nat) :
    scmdWrite st code s = setDrm st { drmOf st s with
      cmd := some code
      cmdAt := s.lt
      cmdPrev := if (drmOf st s).cmdAt < s.lt then (drmOf st s).cmd else (drmOf st s).cmdPrev } s := if_pos drum

/-- The end of the hold lets no time pass and takes no Drum away, so the command waits with the LT of its write. -/
theorem stageCommand_of_stores {st : Fin 4} {s : State} (stored : stores s = true) (drum : hasDrum st s = true)
    (code : Nat) :
    stageCommand st code s = setDrm st { drmOf st (endHold (Reg.DRM_SCMD st) s) with
      cmd := some code
      cmdAt := s.lt
      cmdPrev := if (drmOf st (endHold (Reg.DRM_SCMD st) s)).cmdAt < s.lt
        then (drmOf st (endHold (Reg.DRM_SCMD st) s)).cmd
        else (drmOf st (endHold (Reg.DRM_SCMD st) s)).cmdPrev } (endHold (Reg.DRM_SCMD st) s) := by
  have held : Steady s (endHold (Reg.DRM_SCMD st) s) := (Steady.refl s).endHold
  unfold stageCommand
  rw [pairStore_of_stores stored, scmdWrite_of_drum ((held.hasDrum st.isLt).trans drum), held.lt]

/-- A command that does not reach its register is not taken. -/
theorem stageCommand_of_not_stores {s : State} (refused : stores s = false) (st code : Nat) :
    stageCommand st code s = s := pairStore_of_not_stores refused ..

/-! Each command form is the Stage command of its code. -/

theorem exec_stop (st : Fin 4) (s : State) : exec (.stop st) s = .next (stageCommand st 1 s) := rfl
theorem exec_energise (st : Fin 4) (s : State) : exec (.energise st) s = .next (stageCommand st 2 s) := rfl
theorem exec_sync (st : Fin 4) (s : State) : exec (.sync st) s = .next (stageCommand st 3 s) := rfl
theorem exec_join (st : Fin 4) (s : State) : exec (.join st) s = .next (stageCommand st 4 s) := rfl
theorem exec_clear (st : Fin 4) (s : State) : exec (.clear st) s = .next (stageCommand st 5 s) := rfl

/-- Settles O18: each form is the Stage command of its code, which waits where it reaches its register and is dropped
where it does not. -/
theorem stageCommands : Obligations.StageCommands := by
  refine ⟨?stop, ?energise, ?sync, ?join, ?clear, ?noStop, ?noEnergise, ?noSync, ?noJoin, ?noClear⟩
  case stop => intro st s stored drum; rw [exec_stop, stageCommand_of_stores stored drum]
  case energise => intro st s stored drum; rw [exec_energise, stageCommand_of_stores stored drum]
  case sync => intro st s stored drum; rw [exec_sync, stageCommand_of_stores stored drum]
  case join => intro st s stored drum; rw [exec_join, stageCommand_of_stores stored drum]
  case clear => intro st s stored drum; rw [exec_clear, stageCommand_of_stores stored drum]
  case noStop => intro st s refused; rw [exec_stop, stageCommand_of_not_stores refused]
  case noEnergise => intro st s refused; rw [exec_energise, stageCommand_of_not_stores refused]
  case noSync => intro st s refused; rw [exec_sync, stageCommand_of_not_stores refused]
  case noJoin => intro st s refused; rw [exec_join, stageCommand_of_not_stores refused]
  case noClear => intro st s refused; rw [exec_clear, stageCommand_of_not_stores refused]

end Sys2Proof.Machine
end

section
/-! SUPPORT. A leg that returns from FALLBACK in the cycle in which its following error retires it (R110, R112, R113), and
O21: the AUTO that its fourth clause promises does not last to the end of the cycle. -/

namespace Sys2Proof.Machine

/-- Stage 0, with pulses, has one leg of Stitch, which on half-bridge 0 is the last of its group: its reference is a set-point
of 1, without feedback. It has been in FALLBACK for 15 valid executions, and AUTORET ends FALLBACK with the 16th; a following
error above 0 in one execution retires the leg (FEGRADE 2). Slot 0 fires its Stitch cycle in FCLK 1, with time for the output
before CDL. -/
def lastLegReturns : State :=
  { State.reset with
    configured := true
    lt := fclk
    regs := [(Reg.STI_ICFG 0, fldSet Reg.STI_ICFG_FEGRADE (fldSet Reg.STI_ICFG_AUTORET (fldSet Reg.STI_ICFG_ENABLE 0 1) 1) 2),
      (Reg.STI_ISRC 0, fldSet Reg.STI_ISRC_REFSEL 0 4), (Reg.STI_SINK 0, fldSet Reg.STI_SINK_KIND 0 3),
      (Reg.STI_ISTAT 0, fldSet Reg.STI_ISTAT_MODE 0 2), (Reg.STI_SETP 0, 1), (Reg.STI_SCFG 0, fldSet Reg.STI_SCFG_CDL 0 12),
      (Reg.PGN_SSTAT 0, fldSet Reg.PGN_SSTAT_PEN 0 1)]
    inst := [(0, { InstSt.reset with good := 15 })]
    tack := { TackSt.reset with slots := [(0, ⟨1 + 256 * actStitch, 0, 0, 0, 1, 0, 0⟩)], due := [(0, some fclk)] } }

theorem tackReady_lastLegReturns : tackReady 0 actStitch lastLegReturns = true := by decide +kernel

theorem returnDue_lastLegReturns : returnDue 0 0 [] [] lastLegReturns = true := by decide +kernel

theorem lateDue_lastLegReturns : lateDue 0 [] [] lastLegReturns = false := by decide +kernel

/-- The issue of the cycle brings AUTO; then the timer expires, and the retirement of the last leg grades G5 against the
Stage, whose instances enter TRACK (R108, R113). -/
theorem mode_stitchFire_lastLegReturns :
    fl (Reg.STI_ISTAT 0) Reg.STI_ISTAT_MODE (stitchFire 0 [] [] lastLegReturns) = 3 := by decide +kernel

/-- Refutes O21: its fourth clause has AUTO at the end of the cycle, but the following-error timers are evaluated after the
executions (R112), and a G5 that one of them brings puts all instances of the Stage into TRACK. -/
theorem not_stitchCycles : ¬ Obligations.StitchCycles := by
  rintro ⟨-, -, -, returns, -⟩
  obtain ⟨t, -, fired, auto, -⟩ := returns 0 0 [] [] lastLegReturns tackReady_lastLegReturns returnDue_lastLegReturns
    lateDue_lastLegReturns
  rw [fired] at auto
  exact absurd (mode_stitchFire_lastLegReturns.symm.trans auto) (by decide)

end Sys2Proof.Machine
end

section
/-! SUPPORT. Unit-tier commands (R111, R114): what the store of a pair leaves, what a refusal shows, and O22. -/

namespace Sys2Proof.Machine

/-! A stored pair (R8, R213). -/

/-- The parts of the state that a Unit-tier command reads beside the registers. -/
def unitParts (s : State) : Tbl InstSt × Tbl StiSt × TackSt × Nat := (s.inst, s.sti, s.tack, s.lt)

theorem unitParts_dropCause (c : Cause) (s : State) : unitParts (dropCause c s) = unitParts s :=
  each_induct (P := fun t => unitParts t = unitParts s) rfl (fun _ _ _ same => same)

theorem unitParts_endHold (a : Nat) (s : State) : unitParts (endHold a s) = unitParts s := by
  unfold endHold verified
  extract_lets t
  have torn : unitParts t = unitParts s := by
    unfold t when
    split <;> rfl
  split
  · exact (unitParts_dropCause _ _).trans torn
  · exact torn

/-- From `s` to `t` a pair of the Stitch array has been stored: the array, the Tack Table and time stand, and beside the
request register of the Stage only causes that the storage brings to an end read differently. -/
structure UnitStored (st : Nat) (s t : State) : Prop extends Unrecorded (Reg.STI_SETREQ st :: causeRegs) s t where
  parts : unitParts t = unitParts s

theorem UnitStored.endHold (st a : Nat) (s : State) : UnitStored st s (endHold a s) :=
  ⟨(endHold_unrecorded a s).mono (List.subset_cons_self ..), unitParts_endHold a s⟩

theorem UnitStored.request {st n : Nat} {s t : State} (r : UnitStored st s t) :
    UnitStored st s (wr (Reg.STI_SETREQ st) n t) :=
  ⟨r.toUnrecorded.wrW (List.mem_cons_self ..), r.parts⟩

/-- Neither the request register of the Stage nor a register of the blocks in which causes show, those of the Drums and of the
event unit. -/
def BesideRequest (st a : Nat) : Prop := a / 2 ^ 16 ≠ 0x4003 ∧ a / 2 ^ 16 ≠ 0x4013 ∧ a ≠ Reg.STI_SETREQ st

namespace UnitStored

variable {st n : Nat} {s t : State} (r : UnitStored st s t)
include r

theorem inst : t.inst = s.inst := congrArg (·.1) r.parts
theorem sti : t.sti = s.sti := congrArg (·.2.1) r.parts
theorem tack : t.tack = s.tack := congrArg (·.2.2.1) r.parts
theorem lt : t.lt = s.lt := congrArg (·.2.2.2) r.parts

theorem instOf : instOf n t = instOf n s := by
  unfold Machine.instOf
  rw [r.inst]

theorem waited {at_ : Nat} {v prev : Option Nat} : waited at_ v prev t = waited at_ v prev s := by
  unfold Machine.waited
  rw [r.lt]

theorem rdW {a : Nat} (beside : BesideRequest st a) : rdW a t = rdW a s := by
  obtain ⟨drum, events, request⟩ := beside
  refine r.regs a ?_
  simp only [causeRegs, Reg.EVT_G5CAUSE, Reg.DRM_STAT, List.mem_cons, List.mem_map, List.mem_range]
  omega

theorem rdI {a : Nat} (beside : BesideRequest st a) : rdI a t = rdI a s := congrArg BitVec.toInt (r.rdW beside)

theorem fl {a : Nat} {F : Fld} (beside : BesideRequest st a) : fl a F t = fl a F s := congrArg (fldGet F) (r.rdW beside)

theorem on {a : Nat} {F : Fld} (beside : BesideRequest st a) : on a F t = on a F s := congrArg (· != 0) (r.fl beside)

end UnitStored

/-- A register of the Stitch instances. -/
theorem besideRequest_inst {st n k : Nat} (hn : n < 128) (hk : k < 0x40) :
    BesideRequest st (0x40040000 + k + 0x40 * n) := by
  unfold BesideRequest Reg.STI_SETREQ
  omega

/-- A Unit-tier register of the Stitch instances. -/
theorem besideRequest_unit {st n k : Nat} (hn : n < 128) (hk : k < 0x20) :
    BesideRequest st (0x40046000 + k + 0x20 * n) := by
  unfold BesideRequest Reg.STI_SETREQ
  omega

/-- The control word of a coefficient set. -/
theorem besideRequest_ctl {st n k : Nat} (hn : n < 128) (hk : k < 4) : BesideRequest st (Reg.STI_CTL n k) := by
  unfold BesideRequest Reg.STI_SETREQ Reg.STI_CTL
  omega

/-- The status of a lane. -/
theorem besideRequest_lane {st l : Nat} (hl : l < 128) : BesideRequest st (Reg.RNS_LSTAT l) := by
  unfold BesideRequest Reg.STI_SETREQ Reg.RNS_LSTAT
  omega

/-- A sequence lock. -/
theorem besideRequest_lock {st i : Nat} (hi : i < 8) : BesideRequest st (Reg.TCK_LOCK i) := by
  unfold BesideRequest Reg.STI_SETREQ Reg.TCK_LOCK
  omega

namespace UnitStored

variable {st n : Nat} {s t : State} (r : UnitStored st s t)
include r

theorem instUsed (hn : n < 128) : instUsed n t = instUsed n s := r.on (besideRequest_inst hn (k := 0) (by decide))

theorem instStage (hn : n < 128) : instStage n t = instStage n s := r.fl (besideRequest_inst hn (k := 0) (by decide))

/-- The limits of the output and of the set-point (R111). -/
theorem limits (hn : n < 128) :
    Machine.rdI (Reg.STI_UMIN n) t = Machine.rdI (Reg.STI_UMIN n) s ∧
    Machine.rdI (Reg.STI_UMAX n) t = Machine.rdI (Reg.STI_UMAX n) s ∧
    Machine.rdI (Reg.STI_SPMIN n) t = Machine.rdI (Reg.STI_SPMIN n) s ∧
    Machine.rdI (Reg.STI_SPMAX n) t = Machine.rdI (Reg.STI_SPMAX n) s :=
  ⟨r.rdI (besideRequest_inst hn (k := 0x14) (by decide)), r.rdI (besideRequest_inst hn (k := 0x18) (by decide)),
    r.rdI (besideRequest_unit hn (k := 0x10) (by decide)), r.rdI (besideRequest_unit hn (k := 0x14) (by decide))⟩

theorem instsOf (k : Nat) : instsOf k t = instsOf k s := by
  refine List.filter_congr (fun n hn => ?_)
  rw [r.instUsed (List.mem_range.1 hn), r.instStage (List.mem_range.1 hn)]

theorem laneMissing (hn : n < 128) : laneMissing n t = laneMissing n s := by
  have source {F : Fld} : Machine.fl (Reg.STI_ISRC n) F t = Machine.fl (Reg.STI_ISRC n) F s :=
    r.fl (besideRequest_inst hn (k := 4) (by decide))
  have valid {l : Nat} (hl : l < 128) : laneIsValid l t = laneIsValid l s := r.on (besideRequest_lane hl)
  have feedback : Machine.fl (Reg.STI_ISRC n) Reg.STI_ISRC_FBLANE s < 128 := (fldGet_lt ..).trans (by decide)
  have reference : Machine.fl (Reg.STI_ISRC n) Reg.STI_ISRC_REFIDX s < 128 := fldGet_lt ..
  unfold Machine.laneMissing Machine.on refSel refIdx
  rw [source, source, source, source, valid feedback, valid reference]

theorem shadowLock (kind k : Nat) : shadowLock kind k t = shadowLock kind k s := by
  unfold Machine.shadowLock
  refine List.find?_congr (fun i hi => ?_)
  have word {F : Fld} : Machine.fl (Reg.TCK_LOCK i) F t = Machine.fl (Reg.TCK_LOCK i) F s :=
    r.fl (besideRequest_lock (List.mem_range.1 hi))
  unfold lockStages lockHeld lockKind lockStage lockOf Machine.on
  rw [word, word, word, r.tack]

end UnitStored

/-! A refusal (R111, R114). -/

/-- From `s` to `t` a Unit-tier command has been refused: STI_REFUSE shows the code and the number, EV51 is recorded, and what
waits is as before. -/
structure UnitRefused (st code n : Nat) (s t : State) : Prop where
  shown : rd (Reg.STI_REFUSE st) t = code + 16 * n
  noted : recorded 51 0 n (some st) s t
  inst : t.inst = s.inst
  sti : t.sti = s.sti
  mem : t.mem = s.mem

theorem UnitRefused.instOf {st code n k : Nat} {s t : State} (r : UnitRefused st code n s t) :
    instOf k t = instOf k s := by
  unfold Machine.instOf
  rw [r.inst]

theorem UnitRefused.stiOf {st code n k : Nat} {s t : State} (r : UnitRefused st code n s t) : stiOf k t = stiOf k s := by
  unfold Machine.stiOf
  rw [r.sti]

theorem stiRefuse_refused {st code n : Nat} {s u : State} (hst : st < 4) (small : code + 16 * n < 2 ^ 32)
    (r : UnitStored st s u) : UnitRefused st code n s (stiRefuse st code n u) := by
  unfold stiRefuse
  generalize hv : setB (Reg.STI_SEVT st) Reg.STI_SEVT_REFUSED true (wr (Reg.STI_REFUSE st) (code + 16 * n) u) = v
  have written : Unrecorded (Reg.STI_SEVT st :: Reg.STI_REFUSE st :: Reg.STI_SETREQ st :: causeRegs) s v := by
    rw [← hv]
    exact .wrW (.wrW (r.toUnrecorded.mono (by simp)) (by simp)) (by simp)
  have nseq : Reg.EVT_NSEQ ∉ Reg.STI_SEVT st :: Reg.STI_REFUSE st :: Reg.STI_SETREQ st :: causeRegs := by
    simp only [causeRegs, Reg.EVT_NSEQ, Reg.EVT_G5CAUSE, Reg.DRM_STAT, Reg.STI_SEVT, Reg.STI_REFUSE, Reg.STI_SETREQ,
      List.mem_cons, List.mem_map, List.mem_range]
    omega
  have events : EventsOnly v (record 51 0 n (some st) v) := (EventsOnly.refl v).record
  refine ⟨?_, written.recorded nseq, ?_, ?_, ?_⟩
  · have off : Reg.STI_REFUSE st ∉ evtRegs := by
      simp only [evtRegs, List.mem_cons, List.not_mem_nil, or_false, Reg.STI_REFUSE, Reg.EVT_NSEQ, Reg.EVT_STAT, Reg.EVT_EVT,
        Reg.EVT_LOST, Reg.EVT_UCVAL, Reg.EVT_UCWIN]
      omega
    have apart : Reg.STI_REFUSE st ≠ Reg.STI_SEVT st := by
      unfold Reg.STI_REFUSE Reg.STI_SEVT
      omega
    have word : rd (Reg.STI_REFUSE st) v = code + 16 * n := by
      rw [← hv]
      unfold rd setB
      rw [rdW_setF_ne apart]
      exact (rd_wr ..).trans ((if_pos rfl).trans (Nat.mod_eq_of_lt small))
    rw [← word]
    exact congrArg BitVec.toNat (events.regs _ off)
  · rw [events.frame, ← hv]; exact r.inst
  · rw [events.frame, ← hv]; exact r.sti
  · rw [events.frame]; exact written.mem

/-! The commands (R111, R114). -/

theorem instStage_lt (n : Nat) (s : State) : instStage n s < 4 := fldGet_lt Reg.STI_ICFG_STAGE _

theorem modeCommand_of_stranger {st n mode : Nat} {s : State} (stranger : instUsed n s = false) :
    modeCommand st n mode s = stiRefuse st 1 n s := if_pos (by simp [stranger])

theorem modeCommand_of_missing {st n : Nat} {s : State} (used : instUsed n s = true) (stage : instStage n s = st)
    (missing : laneMissing n s = true) : modeCommand st n 0 s = stiRefuse st 2 n s := by
  unfold modeCommand
  rw [if_neg (by simp [used, stage]), if_pos (by simp [missing])]

/-- A mode command that is accepted waits behind the one that waited before this FCLK. -/
theorem modeCommand_of_accepted {st n mode : Nat} {s : State} (used : instUsed n s = true) (stage : instStage n s = st)
    (samples : mode = 0 → laneMissing n s = false) : modeCommand st n mode s = setInst n { instOf n s with
      cmd := some mode
      cmdAt := s.lt
      cmdPrev := waited (instOf n s).cmdAt (instOf n s).cmd (instOf n s).cmdPrev s } s := by
  unfold modeCommand
  rw [if_neg (by simp [used, stage]), if_neg]
  rw [Bool.and_eq_true, beq_iff_eq]
  rintro ⟨auto, missing⟩
  exact Bool.false_ne_true ((samples auto).symm.trans missing)

theorem manWrite_of_outside {n : Nat} {v : Word} {s : State} (used : instUsed n s = true)
    (outside : v.toInt < rdI (Reg.STI_UMIN n) s ∨ rdI (Reg.STI_UMAX n) s < v.toInt) :
    manWrite n v s = stiRefuse (instStage n s) 3 n s := by
  unfold manWrite
  rw [if_neg (by simp [used]), if_pos (by simpa using outside)]

theorem manWrite_of_inside {n : Nat} {v : Word} {s : State} (used : instUsed n s = true)
    (low : rdI (Reg.STI_UMIN n) s ≤ v.toInt) (high : v.toInt ≤ rdI (Reg.STI_UMAX n) s) :
    manWrite n v s = setInst n { instOf n s with
      man := some v.toNat
      manAt := s.lt
      manPrev := waited (instOf n s).manAt (instOf n s).man (instOf n s).manPrev s } s := by
  unfold manWrite
  rw [if_neg (by simp [used]), if_neg (by simp [low, high])]

theorem setpWrite_of_outside {n : Nat} {v : Word} {s : State} (used : instUsed n s = true)
    (outside : v.toInt < rdI (Reg.STI_SPMIN n) s ∨ rdI (Reg.STI_SPMAX n) s < v.toInt) :
    setpWrite n v s = stiRefuse (instStage n s) 4 n s := by
  unfold setpWrite
  rw [if_neg (by simp [used]), if_pos (by simpa using outside)]

theorem setpWrite_of_inside {n : Nat} {v : Word} {s : State} (used : instUsed n s = true)
    (low : rdI (Reg.STI_SPMIN n) s ≤ v.toInt) (high : v.toInt ≤ rdI (Reg.STI_SPMAX n) s) :
    setpWrite n v s = setInst n { instOf n s with
      setp := some v.toNat
      setpAt := s.lt
      setpPrev := waited (instOf n s).setpAt (instOf n s).setp (instOf n s).setpPrev s } s := by
  unfold setpWrite
  rw [if_neg (by simp [used]), if_neg (by simp [low, high])]

/-- All instances of a Stage have a valid coefficient set (R114). -/
def setReady (st set : Nat) (s : State) : Bool := (instsOf st s).all (fun n => on (Reg.STI_CTL n set) Reg.STI_CTL_VALID s)

theorem UnitStored.setReady {st set : Nat} {s t : State} (r : UnitStored st s t) (small : set < 4) (k : Nat) :
    setReady k set t = setReady k set s := by
  unfold Machine.setReady
  rw [r.instsOf k, Bool.eq_iff_iff, List.all_eq_true, List.all_eq_true]
  exact forall₂_congr (fun n hn => by rw [r.on (besideRequest_ctl (lt_of_mem_instsOf hn) small)])

/-- The state in which a set request is judged: its register shows it. -/
def requestShown (st : Nat) (v : Word) (s : State) : State := wr (Reg.STI_SETREQ st) (v.toNat &&& 0x13) s

/-- No reserved bit of a word is set, as a word and as a number. -/
theorem toNat_and_eq_zero {v m : Word} (clear : v &&& m = 0#32) : v.toNat &&& m.toNat = 0 := by
  rw [← BitVec.toNat_and, clear]
  rfl

theorem setRequest_of_unready {st by_ : Nat} {v : Word} {s : State} (clear : v &&& 0xFFFFFFEC#32 = 0#32)
    (unready : setReady st (fldGet Reg.STI_SETREQ_SET v) (requestShown st v s) = false) :
    setRequest st v by_ s = stiRefuse st 5 0 (requestShown st v s) := by
  have reserved : v.toNat &&& 0xFFFFFFEC = 0 := toNat_and_eq_zero clear
  unfold setRequest
  dsimp only
  rw [if_neg (by simp [reserved])]
  exact if_pos (by rw [Bool.not_eq_true']; exact unready)

/-- A request that no lock stages waits for the hand-over. -/
theorem setRequest_of_ready {st by_ : Nat} {v : Word} {s : State} (clear : v &&& 0xFFFFFFEC#32 = 0#32)
    (ready : setReady st (fldGet Reg.STI_SETREQ_SET v) (requestShown st v s) = true) (free : shadowLock 1 st s = none) :
    setRequest st v by_ s = setB (Reg.STI_SSTAT st) Reg.STI_SSTAT_SETPEND true
      (setSti st { stiOf st (requestShown st v s) with
        req := some (fldGet Reg.STI_SETREQ_SET v, fldGet Reg.STI_SETREQ_PRESET v != 0) } (requestShown st v s)) := by
  have reserved : v.toNat &&& 0xFFFFFFEC = 0 := toNat_and_eq_zero clear
  unfold setRequest
  dsimp only
  rw [if_neg (by simp [reserved]), if_neg (by rw [Bool.not_eq_true', Bool.not_eq_false]; exact ready), free]
  rfl

/-! O22, clause by clause. -/

theorem exec_stiModeAuto (st : Fin 4) (inst : Fin 128) (s : State) :
    exec (.stiModeAuto st inst) s = .next (pairStore (Reg.STI_MODECMD st) (modeCommand st inst 0) s) := rfl

theorem exec_stiModeManual (st : Fin 4) (inst : Fin 128) (s : State) :
    exec (.stiModeManual st inst) s = .next (pairStore (Reg.STI_MODECMD st) (modeCommand st inst 1) s) := rfl

theorem exec_stiManWrite (inst : Fin 128) (value : BitVec 32) (s : State) :
    exec (.stiManWrite inst value) s = .next (pairStore (Reg.STI_MAN inst) (manWrite inst value) s) := rfl

theorem exec_stiSetpWrite (inst : Fin 128) (value : BitVec 32) (s : State) :
    exec (.stiSetpWrite inst value) s = .next (pairStore (Reg.STI_SETP inst) (setpWrite inst value) s) := rfl

theorem exec_stiSetRequest (st : Fin 4) (value : BitVec 32) (by_ : Fin 19) (s : State) :
    exec (.stiSetRequest st value by_) s = .next (pairFrom (Reg.STI_SETREQ st) by_ (setRequest st value by_) s) := rfl

theorem pairFrom_of_mayStore {a by_ : Nat} {s : State} (stored : mayStore a by_ s = true) (f : State → State) :
    pairFrom a by_ f s = f (endHold a s) := if_pos stored

/-- A stored mode command that is accepted waits, as of the state before the store. -/
theorem pairStore_modeCommand {st : Fin 4} {inst : Fin 128} {mode : Nat} {s : State} (stored : stores s = true)
    (used : instUsed inst s = true) (stage : instStage inst s = st) (samples : mode = 0 → laneMissing inst s = false) :
    pairStore (Reg.STI_MODECMD st) (modeCommand st inst mode) s = setInst inst { instOf inst s with
      cmd := some mode
      cmdAt := s.lt
      cmdPrev := waited (instOf inst s).cmdAt (instOf inst s).cmd (instOf inst s).cmdPrev s }
      (endHold (Reg.STI_MODECMD st) s) := by
  have held := UnitStored.endHold st (Reg.STI_MODECMD st) s
  rw [pairStore_of_stores stored, modeCommand_of_accepted ((held.instUsed inst.isLt).trans used)
    ((held.instStage inst.isLt).trans stage) (fun auto => (held.laneMissing inst.isLt).trans (samples auto)),
    held.instOf, held.lt, held.waited]

/-- A value outside the limits of the output is refused. -/
theorem pairStore_manWrite_outside {inst : Fin 128} {value : BitVec 32} {s : State} (stored : stores s = true)
    (used : instUsed inst s = true)
    (outside : value.toInt < rdI (Reg.STI_UMIN inst) s ∨ rdI (Reg.STI_UMAX inst) s < value.toInt) :
    UnitRefused (instStage inst s) 3 inst s (pairStore (Reg.STI_MAN inst) (manWrite inst value) s) := by
  have held := UnitStored.endHold (instStage inst s) (Reg.STI_MAN inst) s
  obtain ⟨umin, umax, -, -⟩ := held.limits inst.isLt
  rw [← umin, ← umax] at outside
  rw [pairStore_of_stores stored, manWrite_of_outside ((held.instUsed inst.isLt).trans used) outside,
    held.instStage inst.isLt]
  exact stiRefuse_refused (instStage_lt ..) (by omega) held

/-- A value within the limits of the output waits, as of the state before the store. -/
theorem pairStore_manWrite_inside {inst : Fin 128} {value : BitVec 32} {s : State} (stored : stores s = true)
    (used : instUsed inst s = true) (low : rdI (Reg.STI_UMIN inst) s ≤ value.toInt)
    (high : value.toInt ≤ rdI (Reg.STI_UMAX inst) s) :
    pairStore (Reg.STI_MAN inst) (manWrite inst value) s = setInst inst { instOf inst s with
      man := some value.toNat
      manAt := s.lt
      manPrev := waited (instOf inst s).manAt (instOf inst s).man (instOf inst s).manPrev s }
      (endHold (Reg.STI_MAN inst) s) := by
  have held := UnitStored.endHold 0 (Reg.STI_MAN inst) s
  obtain ⟨umin, umax, -, -⟩ := held.limits inst.isLt
  rw [← umin] at low
  rw [← umax] at high
  rw [pairStore_of_stores stored, manWrite_of_inside ((held.instUsed inst.isLt).trans used) low high, held.instOf, held.lt,
    held.waited]

/-- A value outside the limits of the set-point is refused. -/
theorem pairStore_setpWrite_outside {inst : Fin 128} {value : BitVec 32} {s : State} (stored : stores s = true)
    (used : instUsed inst s = true)
    (outside : value.toInt < rdI (Reg.STI_SPMIN inst) s ∨ rdI (Reg.STI_SPMAX inst) s < value.toInt) :
    UnitRefused (instStage inst s) 4 inst s (pairStore (Reg.STI_SETP inst) (setpWrite inst value) s) := by
  have held := UnitStored.endHold (instStage inst s) (Reg.STI_SETP inst) s
  obtain ⟨-, -, spmin, spmax⟩ := held.limits inst.isLt
  rw [← spmin, ← spmax] at outside
  rw [pairStore_of_stores stored, setpWrite_of_outside ((held.instUsed inst.isLt).trans used) outside,
    held.instStage inst.isLt]
  exact stiRefuse_refused (instStage_lt ..) (by omega) held

/-- A value within the limits of the set-point waits, as of the state before the store. -/
theorem pairStore_setpWrite_inside {inst : Fin 128} {value : BitVec 32} {s : State} (stored : stores s = true)
    (used : instUsed inst s = true) (low : rdI (Reg.STI_SPMIN inst) s ≤ value.toInt)
    (high : value.toInt ≤ rdI (Reg.STI_SPMAX inst) s) :
    pairStore (Reg.STI_SETP inst) (setpWrite inst value) s = setInst inst { instOf inst s with
      setp := some value.toNat
      setpAt := s.lt
      setpPrev := waited (instOf inst s).setpAt (instOf inst s).setp (instOf inst s).setpPrev s }
      (endHold (Reg.STI_SETP inst) s) := by
  have held := UnitStored.endHold 0 (Reg.STI_SETP inst) s
  obtain ⟨-, -, spmin, spmax⟩ := held.limits inst.isLt
  rw [← spmin] at low
  rw [← spmax] at high
  rw [pairStore_of_stores stored, setpWrite_of_inside ((held.instUsed inst.isLt).trans used) low high, held.instOf, held.lt,
    held.waited]

/-- The state in which a stored set request is judged. -/
theorem requestShown_unitStored (st : Nat) (v : Word) (s : State) :
    UnitStored st s (requestShown st v (endHold (Reg.STI_SETREQ st) s)) := .request (.endHold st (Reg.STI_SETREQ st) s)

/-- A set request with valid sets and no lock waits, and the set in force stays. -/
theorem pairFrom_setRequest_ready {st : Fin 4} {value : BitVec 32} {by_ : Fin 19} {s : State}
    (stored : mayStore (Reg.STI_SETREQ st) by_ s = true) (clear : value &&& 0xFFFFFFEC#32 = 0#32)
    (ready : setReady st (fldGet Reg.STI_SETREQ_SET value) s = true) (free : shadowLock 1 st s = none) :
    let t := pairFrom (Reg.STI_SETREQ st) by_ (setRequest st value by_) s
    (stiOf st t).req = some (fldGet Reg.STI_SETREQ_SET value, fldGet Reg.STI_SETREQ_PRESET value != 0) ∧
      on (Reg.STI_SSTAT st) Reg.STI_SSTAT_SETPEND t = true ∧
      fl (Reg.STI_SSTAT st) Reg.STI_SSTAT_SETACT t = fl (Reg.STI_SSTAT st) Reg.STI_SSTAT_SETACT s ∧ t.mem = s.mem := by
  have held := UnitStored.endHold st (Reg.STI_SETREQ st) s
  have shown := requestShown_unitStored st value s
  have small : fldGet Reg.STI_SETREQ_SET value < 4 := fldGet_lt ..
  have status : BesideRequest st (Reg.STI_SSTAT st) := by
    unfold BesideRequest Reg.STI_SETREQ Reg.STI_SSTAT
    omega
  dsimp only
  rw [pairFrom_of_mayStore stored, setRequest_of_ready clear ((shown.setReady small st).trans ready)
    ((held.shadowLock 1 st).trans free)]
  generalize requestShown st value (endHold (Reg.STI_SETREQ st) s) = u at shown
  refine ⟨?_, on_setB _ _ (by decide) (by decide) _ _, ?_, shown.mem⟩
  · exact congrArg StiSt.req (Tbl.get_put_same ..)
  · exact (fl_setF_other _ _ _ (by decide) _ _).trans (shown.fl status)

/-- A set request for a set that is not valid for all instances is refused. -/
theorem pairFrom_setRequest_unready {st : Fin 4} {value : BitVec 32} {by_ : Fin 19} {s : State}
    (stored : mayStore (Reg.STI_SETREQ st) by_ s = true) (clear : value &&& 0xFFFFFFEC#32 = 0#32)
    (unready : setReady st (fldGet Reg.STI_SETREQ_SET value) s = false) :
    UnitRefused st 5 0 s (pairFrom (Reg.STI_SETREQ st) by_ (setRequest st value by_) s) := by
  have shown := requestShown_unitStored st value s
  rw [pairFrom_of_mayStore stored, setRequest_of_unready clear ((shown.setReady (fldGet_lt ..) st).trans unready)]
  exact stiRefuse_refused st.isLt (by decide) shown

/-- Settles O22: each command in the state that its stored pair leaves, which judges it as the state before did. -/
theorem unitCommands : Obligations.UnitCommands := by
  refine ⟨?auto, ?missing, ?manual, ?stranger, ?man, ?manOutside, ?setp, ?setpOutside, ?request, ?unready⟩
  case auto =>
    intro st inst s stored used stage samples
    rw [exec_stiModeAuto, pairStore_modeCommand stored used stage (fun _ => samples)]
  case missing =>
    intro st inst s stored used stage missing
    have held := UnitStored.endHold st (Reg.STI_MODECMD st) s
    refine ⟨_, exec_stiModeAuto st inst s, ?_⟩
    rw [pairStore_of_stores stored, modeCommand_of_missing ((held.instUsed inst.isLt).trans used)
      ((held.instStage inst.isLt).trans stage) ((held.laneMissing inst.isLt).trans missing)]
    have refused := stiRefuse_refused (code := 2) (n := inst) st.isLt (by omega) held
    exact ⟨refused.shown, refused.noted, congrArg InstSt.cmd refused.instOf, refused.mem⟩
  case manual =>
    intro st inst s stored used stage
    rw [exec_stiModeManual, pairStore_modeCommand (mode := 1) stored used stage (fun auto => absurd auto (by decide))]
  case stranger =>
    intro st inst s stored stranger
    have held := UnitStored.endHold st (Reg.STI_MODECMD st) s
    refine ⟨_, exec_stiModeManual st inst s, ?_⟩
    rw [pairStore_of_stores stored, modeCommand_of_stranger ((held.instUsed inst.isLt).trans stranger)]
    have refused := stiRefuse_refused (code := 1) (n := inst) st.isLt (by omega) held
    exact ⟨refused.shown, refused.noted, congrArg InstSt.cmd refused.instOf, refused.mem⟩
  case man =>
    intro inst value s stored used low high
    rw [exec_stiManWrite, pairStore_manWrite_inside stored used low high]
  case manOutside =>
    intro inst value s stored used outside
    have refused := pairStore_manWrite_outside stored used outside
    exact ⟨_, exec_stiManWrite inst value s, refused.shown, refused.noted, congrArg InstSt.man refused.instOf, refused.mem⟩
  case setp =>
    intro inst value s stored used low high
    rw [exec_stiSetpWrite, pairStore_setpWrite_inside stored used low high]
  case setpOutside =>
    intro inst value s stored used outside
    have refused := pairStore_setpWrite_outside stored used outside
    exact ⟨_, exec_stiSetpWrite inst value s, refused.shown, refused.noted, congrArg InstSt.setp refused.instOf, refused.mem⟩
  case request =>
    intro st value by_ s stored clear ready free
    exact ⟨_, exec_stiSetRequest st value by_ s, pairFrom_setRequest_ready stored clear ready free⟩
  case unready =>
    intro st value by_ s stored clear unready
    have refused := pairFrom_setRequest_unready stored clear unready
    exact ⟨_, exec_stiSetRequest st value by_ s, refused.shown, refused.noted, congrArg StiSt.req refused.stiOf, refused.mem⟩

end Sys2Proof.Machine
end

section
/-! SUPPORT. Room for records through a firing (R203-R205, R215): the unit accepts four records in an FCLK, and the others wait,
so that where there is room before an FCLK's detections no one of them is lost. -/

namespace Sys2Proof.Machine

/-- Room for what the event unit may still accept in this FCLK: each record takes at most two entries, for itself and for a loss
frozen before it, and one number; the records beyond the four wait (R204). -/
structure HasRoom (s : State) : Prop where
  configured : s.configured = true
  entries : s.evt.queue.length + 2 * (4 - accepted s) ≤ queueSize
  numbers : ∀ n ∈ s.evt.cap, (rd Reg.EVT_NSEQ s + 2 ^ 32 - n) % 2 ^ 32 + (4 - accepted s) ≤ 65535

theorem HasRoom.of_roomy {s : State} (configured : s.configured = true) (room : roomy s = true) : HasRoom s := by
  unfold roomy at room
  rw [Bool.and_eq_true, decide_eq_true_eq] at room
  obtain ⟨entries, numbers⟩ := room
  refine ⟨configured, by omega, fun n hn => ?_⟩
  rw [hn, Option.all_some, decide_eq_true_eq] at numbers
  omega

/-- Room is a matter of the queue, of what has been accepted in this FCLK, and of the numbers. -/
theorem HasRoom.of_eq {s t : State} (room : HasRoom s) (configured : t.configured = s.configured := by rfl)
    (lt : t.lt = s.lt := by rfl) (queue : t.evt.queue = s.evt.queue := by rfl) (acc : t.evt.acc = s.evt.acc := by rfl)
    (cap : t.evt.cap = s.evt.cap := by rfl) (nseq : rdW Reg.EVT_NSEQ t = rdW Reg.EVT_NSEQ s := by rfl) : HasRoom t := by
  have same : accepted t = accepted s := by
    unfold accepted
    rw [lt, acc]
  refine ⟨configured.trans room.configured, ?_, ?_⟩
  · rw [queue, same]; exact room.entries
  · unfold rd
    rw [cap, nseq, same]
    exact room.numbers

theorem HasRoom.wrW {s : State} (room : HasRoom s) {a : Nat} (ha : Reg.EVT_NSEQ ≠ a) {w : Word} : HasRoom (wrW a w s) :=
  room.of_eq (nseq := by rw [rdW_wrW, if_neg ha])

theorem length_place (r : EvRec) (q : List EvRec) : (place r q).length = q.length + 1 := by
  simpa using countP_place (p := fun _ => true) (fun _ _ => rfl) r q

theorem flushLoss_frame (s : State) : (flushLoss s).evt.acc = s.evt.acc ∧ (flushLoss s).evt.cap = s.evt.cap ∧
    (flushLoss s).regs = s.regs := by
  unfold flushLoss
  split
  · exact ⟨rfl, rfl, rfl⟩
  · split <;> exact ⟨rfl, rfl, rfl⟩

theorem rdW_nseq_evtShow (s : State) : rdW Reg.EVT_NSEQ (evtShow s) = rdW Reg.EVT_NSEQ s := by
  unfold evtShow setB
  rw [rdW_setF_ne (by decide), rdW_setF_ne (by decide), rdW_setF_ne (by decide)]

theorem rdW_nseq_lose (s : State) : rdW Reg.EVT_NSEQ (lose s) = rdW Reg.EVT_NSEQ s := by
  unfold lose setB bump
  rw [rdW_setF_ne (by decide), rdW_setF_ne (by decide)]

/-- What one record takes at most: two entries, and a number. -/
theorem number_takes (r : EvRec) (s : State) : (number r s).evt.queue.length ≤ s.evt.queue.length + 2 ∧
    (number r s).evt.acc = s.evt.acc ∧ (number r s).evt.cap = s.evt.cap ∧
    (rd Reg.EVT_NSEQ (number r s) = rd Reg.EVT_NSEQ s ∨
      rd Reg.EVT_NSEQ (number r s) = (rd Reg.EVT_NSEQ s + 1) % 2 ^ 32) := by
  obtain ⟨entries, -⟩ := flushLoss_room s
  obtain ⟨acc, cap, regs⟩ := flushLoss_frame s
  have word : rd Reg.EVT_NSEQ (flushLoss s) = rd Reg.EVT_NSEQ s := by
    unfold rd rdW
    rw [regs]
  unfold number
  extract_lets t e r' t'
  have flushed : t.evt = (flushLoss s).evt := rfl
  have first : rd Reg.EVT_NSEQ t = rd Reg.EVT_NSEQ s := word
  have numbered : t'.evt = (flushLoss s).evt ∧
      (rd Reg.EVT_NSEQ t' = rd Reg.EVT_NSEQ s ∨ rd Reg.EVT_NSEQ t' = (rd Reg.EVT_NSEQ s + 1) % 2 ^ 32) := by
    unfold t' when
    split
    · refine ⟨flushed, .inr ?_⟩
      rw [rd_wr, if_pos rfl, first]
    · exact ⟨flushed, .inl first⟩
  obtain ⟨queue, number⟩ := numbered
  clear_value t t'
  split
  · refine ⟨?_, ?_, ?_, .inl ?_⟩
    · show t.evt.queue.length ≤ _
      rw [flushed]; omega
    · show t.evt.acc = _
      rw [flushed, acc]
    · show t.evt.cap = _
      rw [flushed, cap]
    · rw [← first]
      unfold rd
      rw [rdW_nseq_evtShow, rdW_nseq_lose]
      rfl
  · unfold rd at number ⊢
    rw [rdW_nseq_evtShow]
    split
    · refine ⟨?_, ?_, ?_, number⟩
      · show (place r' t'.evt.queue).length ≤ _
        rw [length_place, queue]; omega
      · show t'.evt.acc = _
        rw [queue, acc]
      · show t'.evt.cap = _
        rw [queue, cap]
    · rw [rdW_nseq_lose]
      refine ⟨?_, ?_, ?_, number⟩
      · show t'.evt.queue.length ≤ _
        rw [queue]; omega
      · show t'.evt.acc = _
        rw [queue, acc]
      · show t'.evt.cap = _
        rw [queue, cap]

/-- A record accepted in this FCLK leaves room for those that may follow (R204, R215). -/
theorem HasRoom.accept {s : State} (room : HasRoom s) (r : EvRec) : HasRoom (accept r s) := by
  have entries := room.entries
  by_cases early : accepted s < 4
  · rw [accept_now r room.configured early]
    generalize hu : { s with evt := { s.evt with acc := (s.lt, accepted s + 1) } } = u
    have steady : Steady s (number r u) := .number (by rw [← hu]; exact (Steady.refl s).withEvt)
    obtain ⟨length, acc, cap, next⟩ := number_takes r u
    have count : accepted (number r u) = accepted s + 1 := by
      have took : (number r u).evt.acc = (s.lt, accepted s + 1) := acc.trans (by rw [← hu])
      generalize accepted s + 1 = k at took
      unfold accepted
      rw [took, if_pos steady.lt.symm]
    have queue : u.evt.queue = s.evt.queue := by rw [← hu]
    have nseq : rd Reg.EVT_NSEQ u = rd Reg.EVT_NSEQ s := by rw [← hu]; rfl
    rw [queue] at length
    rw [nseq] at next
    refine ⟨steady.configured.trans room.configured, by omega, fun n hn => ?_⟩
    have numbers := room.numbers n (by rw [cap, ← hu] at hn; exact hn)
    have small : rd Reg.EVT_NSEQ s < 2 ^ 32 := BitVec.isLt _
    rcases next with same | next
    · omega
    · omega
  · unfold Machine.accept
    rw [if_neg (by simp [room.configured]), if_neg early]
    extract_lets k old all put
    have length : (s.evt.queue.take k ++ put).length ≤ s.evt.queue.length := by
      simp only [put, List.length_append, List.length_zipWith, List.length_take, List.length_drop]
      omega
    refine ⟨room.configured, ?_, room.numbers⟩
    exact (Nat.add_le_add_right length _).trans entries

theorem HasRoom.record {s : State} (room : HasRoom s) {src grade detail : Nat} {stg : Option Nat} :
    HasRoom (record src grade detail stg s) := room.accept _

/-- Where there is room, a record waits (R204). -/
theorem HasRoom.recs_lt {s : State} (room : HasRoom s) (src grade detail : Nat) (stg : Option Nat) :
    recs src grade detail stg s < recs src grade detail stg (Machine.record src grade detail stg s) := by
  have kind := unnumbered_recOf src grade detail stg
  have joins : ∀ r, recOf src grade detail stg r = true → waiting (recOf src grade detail stg) s
      < waiting (recOf src grade detail stg) (Machine.accept r s) := fun r hr => by
    have entries := room.entries
    unfold queueSize at entries
    by_cases early : accepted s < 4
    · rw [accept_now r room.configured early]
      have uncapped : capped s = false := by
        unfold capped
        split
        · rfl
        · rename_i n hn
          have left := room.numbers n hn
          rw [decide_eq_false_iff_not]
          omega
      have more := waiting_number_of_room (s := { s with evt := { s.evt with acc := (s.lt, accepted s + 1) } }) kind r uncapped
        (by unfold queueSize; dsimp only; omega)
      rw [hr, if_pos rfl] at more
      exact more
    · rw [waiting_accept_late kind r room.configured early, hr, if_pos rfl]
      exact Nat.lt_succ_self _
  rw [recs_eq_waiting, recs_eq_waiting]
  exact joins _ (by simp [recOf])

/-- One upset of a counter, and its record (R211). -/
theorem HasRoom.upset {s : State} (room : HasRoom s) (id : Nat) : HasRoom (upset id s).1 := by
  have shown : ∀ u, HasRoom u → HasRoom (ucShow u) := fun u hu =>
    .wrW (.wrW (.wrW (.wrW hu (by decide)) (by decide)) (by decide)) (by decide)
  have noted : ∀ (c : Bool) (l : Tbl (Nat × Nat × Nat)) (z : Nat × Nat),
      HasRoom (setCtr id z (if c then { s with evt := { s.evt with leaks := l } } else s)) := fun c l z => by
    cases c <;> exact room.of_eq
  unfold Machine.upset
  rcases ctrNW id s with ⟨n, w⟩
  rcases ctrOf id s with ⟨l, o⟩
  rcases Tbl.get (0, 0, 0) s.evt.leaks id with ⟨k, a, took⟩
  dsimp -zeta only
  extract_lets leaked l'
  split
  · exact shown _ (noted _ _ _)
  · exact .record (.wrW (shown _ (noted _ _ _)) (by decide))

end Sys2Proof.Machine
end

section
/-! SUPPORT. What the front of a slot's firing leaves (R137, R213): a mismatch of the slot's storage may be graded up to G5 against
every Stage, and still the Stitch sets, the hand-over that waits and the settings of the instances and half-bridges stand. -/

namespace Sys2Proof.Machine

/-- The registers in which the grading of a mismatch shows, beside the next number of the event unit. -/
inductive GradeReg : Nat → Prop
  | events {a : Nat} (unit : a ∈ evtRegs) (other : a ≠ Reg.EVT_NSEQ) : GradeReg a
  | causes : GradeReg Reg.EVT_G5CAUSE
  | derating (st : Nat) : GradeReg (Reg.DRM_DERN st)
  | drum (st : Nat) : GradeReg (Reg.DRM_STAT st)
  | pulses (st : Nat) : GradeReg (Reg.PGN_SSTAT st)
  | stitch (n : Nat) : GradeReg (Reg.STI_ISTAT n)
  | bridge (h : Nat) : GradeReg (Reg.PGN_HSTAT h)
  | bridgeFlags (h : Nat) : GradeReg (Reg.PGN_HEVT h)
  | unit : GradeReg Reg.PAR_STAT
  | unitFlags : GradeReg Reg.PAR_EVT
  | slotWrite : GradeReg Reg.TCK_WSTAT

/-- The parts of the state that no grading reaches. -/
def ungraded (s : State) :=
  (s.lt, s.configured, s.mem, s.nv, s.bob, s.sti, s.pgn)

/-- From `s` to `t` mismatches have been graded: beside the parts that stand, no record that waits is gone, and where the event
unit had room it has. -/
structure Graded (s t : State) : Prop where
  parts : ungraded t = ungraded s
  regs : ∀ a, ¬ GradeReg a → a ≠ Reg.EVT_NSEQ → rdW a t = rdW a s
  waiting : ∀ p, Unnumbered p → waiting p s ≤ waiting p t
  room : HasRoom s → HasRoom t

theorem GradeReg.ne_nseq {a : Nat} (shown : GradeReg a) : Reg.EVT_NSEQ ≠ a := by
  cases shown with
  | events _ other => exact other.symm
  | causes | unit | unitFlags | slotWrite => decide
  | derating | drum | pulses | stitch | bridge | bridgeFlags =>
    simp only [Reg.EVT_NSEQ, Reg.DRM_DERN, Reg.DRM_STAT, Reg.PGN_SSTAT, Reg.STI_ISTAT, Reg.PGN_HSTAT, Reg.PGN_HEVT]
    omega

namespace Graded

variable {s t u : State} {a b c d h i k l m n p st v : Nat} {F : Fld} {hi on_ : Bool}

theorem refl (s : State) : Graded s s := ⟨rfl, fun _ _ _ => rfl, fun _ _ => le_rfl, id⟩

theorem trans (r : Graded s t) (g : Graded t u) : Graded s u :=
  ⟨g.parts.trans r.parts, fun a ha hn => (g.regs a ha hn).trans (r.regs a ha hn),
    fun p hp => (r.waiting p hp).trans (g.waiting p hp), g.room ∘ r.room⟩

theorem lt (r : Graded s t) : t.lt = s.lt := congrArg (·.1) r.parts
theorem mem (r : Graded s t) : t.mem = s.mem := congrArg (·.2.2.1) r.parts
theorem sti (r : Graded s t) : t.sti = s.sti := congrArg (·.2.2.2.2.2.1) r.parts
theorem pgn (r : Graded s t) : t.pgn = s.pgn := congrArg (·.2.2.2.2.2.2) r.parts

/-- A change of other parts of the state, in which the event unit and the registers stand. -/
theorem elsewhere (r : Graded s t) (parts : ungraded u = ungraded t := by rfl) (regs : u.regs = t.regs := by rfl)
    (evt : u.evt = t.evt := by rfl) : Graded s u := by
  have word : ∀ a, rdW a u = rdW a t := fun a => by unfold rdW; rw [regs]
  refine r.trans ⟨parts, fun a _ _ => word a, fun p _ => ?_, fun room => ?_⟩
  · unfold Machine.waiting; rw [evt]
  · exact room.of_eq (congrArg (·.2.1) parts) (congrArg (·.1) parts) (by rw [evt]) (by rw [evt]) (by rw [evt]) (word _)

/-- A change of the event unit that leaves its records. -/
theorem withEvt (r : Graded s t) {e : EvtSt} (queue : e.queue = t.evt.queue := by rfl) (wait : e.wait = t.evt.wait := by rfl)
    (acc : e.acc = t.evt.acc := by rfl) (cap : e.cap = t.evt.cap := by rfl) : Graded s { t with evt := e } := by
  refine r.trans ⟨rfl, fun _ _ _ => rfl, fun p _ => ?_, fun room => room.of_eq rfl rfl queue acc cap rfl⟩
  show _ ≤ e.queue.countP p + e.wait.countP p
  rw [queue, wait]
  exact le_rfl

/-- The event unit at work. -/
theorem events (r : Graded s t) (g : EventsOnly t u) (room : HasRoom t → HasRoom u) : Graded s u := by
  refine r.trans ⟨?_, fun a shown nseq => g.regs a (fun unit => shown (.events unit nseq)), g.waiting, room⟩
  rw [g.frame]
  rfl

theorem wrW (r : Graded s t) {w : Word} (shown : GradeReg a) : Graded s (wrW a w t) := by
  refine r.trans ⟨rfl, fun b hb _ => ?_, fun _ _ => le_rfl, fun room => room.wrW shown.ne_nseq⟩
  rw [rdW_wrW, if_neg]
  rintro rfl
  exact hb shown

theorem setF (r : Graded s t) (shown : GradeReg a) : Graded s (setF a F v t) := r.wrW shown
theorem setB (r : Graded s t) (shown : GradeReg a) : Graded s (setB a F on_ t) := r.wrW shown

theorem emit (r : Graded s t) {o : Out} : Graded s (emit o t) := r.elsewhere
theorem setDrm (r : Graded s t) {x : DrumSt} : Graded s (setDrm n x t) := r.elsewhere
theorem setInst (r : Graded s t) {x : InstSt} : Graded s (setInst n x t) := r.elsewhere
theorem setHb (r : Graded s t) {x : HbSt} : Graded s (setHb n x t) := r.elsewhere
theorem setLnk (r : Graded s t) {x : LnkSt} : Graded s (setLnk n x t) := r.elsewhere

theorem when (r : Graded s t) {f : State → State} (hf : ∀ u, Graded s u → Graded s (f u)) : Graded s (when on_ f t) := by
  unfold Machine.when
  split
  · exact hf _ r
  · exact r

theorem each {α : Type} (r : Graded s t) {l : List α} {f : α → State → State}
    (hf : ∀ x u, Graded s u → Graded s (f x u)) : Graded s (each l f t) := each_induct r (fun x _ => hf x)

theorem record (r : Graded s t) {g : Option Nat} : Graded s (record a b c g t) :=
  r.events (EventsOnly.refl t).record (fun room => room.record)

/-! Counters and grades (R208-R211). -/

theorem under (r : Graded s t) {f : State → State} (hf : ∀ u, Graded s u → Graded s (f u)) : Graded s (under a b f t) :=
  .withEvt (hf _ r.withEvt)

theorem upsetThen (r : Graded s t) {f : State → State} (hf : ∀ u, Graded s u → Graded s (f u)) :
    Graded s (upsetThen a f t) := by
  have counted : Graded s (upset a t).1 := r.events (EventsOnly.refl t).upset (fun room => room.upset a)
  unfold Machine.upsetThen
  dsimp only
  split
  · exact counted.under hf
  · exact counted

theorem gradeG3 (r : Graded s t) {z : Option Cause} : Graded s (gradeG3 st z t) := by
  unfold Machine.gradeG3
  extract_lets t1 t2
  have counted : Graded s t1 := r.setF (.derating st)
  have noted : Graded s t2 := by
    cases z with
    | none => exact counted
    | some z => exact .setB counted.withEvt (.drum st)
  exact noted.record

theorem gradeG3All (r : Graded s t) {l : List Nat} {z : Option Cause} : Graded s (gradeG3All l z t) :=
  r.each (fun _ _ hu => hu.gradeG3)

/-! The safe state and the loss of pulses (R108, R158). -/

theorem legRise (r : Graded s t) : Graded s (legRise n t) := by
  unfold Machine.legRise
  split
  · exact .emit r.setHb
  · exact r

theorem legOff (r : Graded s t) : Graded s (legOff n t) := by
  unfold Machine.legOff
  extract_lets late
  clear_value late
  split
  · exact r.elsewhere
  · have low : Graded s { Machine.legRise n t with legEn := setBit (Machine.legRise n t).legEn n false } :=
      r.legRise.elsewhere
    exact low.when (fun _ hu => hu.emit)

theorem safeHb (r : Graded s t) : Graded s (safeHb h t) := by
  unfold Machine.safeHb
  extract_lets lows cut t1 x t2 t3 k mine
  have counted : Graded s t1 := r.each (fun _ _ hu => .setF hu.setHb (.bridge h))
  have safe : Graded s t3 := .setB (.setB (.setB counted.setHb (.bridge h)) (.bridge h)) (.bridgeFlags h)
  split
  · exact safe.legOff
  · exact safe.setLnk

theorem holdHb (r : Graded s t) : Graded s (holdHb c h t) := by
  unfold Machine.holdHb
  split
  · exact .safeHb (.when (.setF (r.when (fun _ hu => hu.setHb)) (.bridge h)) (fun _ hu => hu.setF (.bridge h)))
  · exact r

theorem holdMany (r : Graded s t) {l : List Nat} : Graded s (holdMany c l t) :=
  .each (r.each (fun _ _ hu => hu.holdHb)) (fun _ _ hu => hu.when (fun _ hv => hv.setLnk))

theorem trackIn (r : Graded s t) : Graded s (trackIn n t) := by
  unfold Machine.trackIn
  extract_lets mode
  split
  · exact r
  · exact .setF r.setInst (.stitch n)

theorem pulsesOff (r : Graded s t) : Graded s (pulsesOff st d t) :=
  .holdMany (.each (.when (r.setB (.pulses st)) (fun _ hu => hu.record)) (fun _ _ hu => hu.trackIn))

theorem gradeG5 (r : Graded s t) {z : Option Cause} : Graded s (gradeG5 st z t) := by
  unfold Machine.gradeG5 gradeG5For
  extract_lets was t1 t2 _ t3 t4 t5
  have locked : Graded s t1 := r.setB .causes
  have noted : Graded s t2 := by
    cases z with
    | none => exact locked
    | some z => exact .setB locked.withEvt .causes
  have skipped : Graded s t3 := noted.withEvt
  exact .pulsesOff (.when skipped.setDrm (fun _ hu => hu.record))

theorem gradeG5All (r : Graded s t) {l : List Nat} {z : Option Cause} : Graded s (gradeG5All l z t) :=
  r.each (fun _ _ hu => hu.gradeG5)

/-! G4 (R209, R346, R381). -/

theorem urgentPut (r : Graded s t) {z : Urgent} : Graded s (urgentPut p z t) := by
  unfold Machine.urgentPut urgentGo
  split
  · split
    · exact r.elsewhere
    · split
      · exact r.elsewhere
      · exact r.elsewhere
  · exact r

theorem refereeFrame (r : Graded s t) : Graded s (refereeFrame k t) := by
  unfold Machine.refereeFrame sendUrgent urgentOut
  split
  · exact r.each (fun _ _ hu => hu.urgentPut)
  · exact r

theorem gradeG4 (r : Graded s t) {z : Option Cause} : Graded s (gradeG4 z t) := by
  unfold Machine.gradeG4
  split
  · split
    · extract_lets _ t1
      have asked : Graded s t1 := .refereeFrame r.elsewhere
      split
      · exact asked
      · exact asked.gradeG5All
    · have unhealthy : Graded s (Machine.setB Reg.PAR_STAT Reg.PAR_STAT_HEALTHY false { t with par := { t.par with g4 := true } }) :=
        .setB r.elsewhere .unit
      exact unhealthy.when (fun _ hu => .record (hu.setB .unitFlags))
  · exact r.gradeG5All

theorem overflowG4 (r : Graded s t) {z : Option Cause} : Graded s (overflowG4 a b z t) := r.record.under (fun _ hu => hu.gradeG4)

/-! A mismatch, and the firing that finds it (R119, R131, R137, R213). -/

theorem integrity (r : Graded s t) {z : Option Nat} : Graded s (integrity b a z t) := by
  unfold Machine.integrity
  extract_lets again t0 _ t1
  have noted : Graded s t1 := by
    unfold t1
    split
    · exact r.record.under (fun _ hu => hu.gradeG3All)
    · exact .record r.withEvt
  exact noted.upsetThen (fun _ hu => hu.overflowG4)

theorem useStore (r : Graded s t) : Graded s (useStore a t) := r.each (fun _ _ hu => hu.integrity)

theorem withTack (r : Graded s t) {x : TackSt} : Graded s { t with tack := x } := r.elsewhere

theorem tackNext (r : Graded s t) : Graded s (tackNext n t) := by
  unfold Machine.tackNext
  split
  · exact r.withTack
  · exact r.withTack

theorem deleteFired (r : Graded s t) : Graded s (deleteFired n t) := by
  unfold Machine.deleteFired
  split
  · exact .setF r.withTack .slotWrite
  · exact r

theorem tackFired (r : Graded s t) : Graded s (tackFired n t) := .deleteFired (.withTack r.useStore.tackNext)

end Graded

end Sys2Proof.Machine
end

section
/-! SUPPORT. The hand-over of the Stitch sets (R115): what it brings, and what it leaves, beside the settings that a hand-over reads. -/

namespace Sys2Proof.Machine

@[simp] theorem instOf_setInst (j n : Nat) (x : InstSt) (s : State) :
    instOf j (setInst n x s) = if j = n then x else instOf j s := Tbl.get_put _ j n x s.inst

theorem pgnOf_setPgn_same (st : Nat) (x : PgnSt) (s : State) : pgnOf st (setPgn st x s) = x := Tbl.get_put_same ..

theorem each_cons {α : Type} (x : α) (l : List α) (f : α → State → State) (s : State) :
    each (x :: l) f s = each l f (f x s) := rfl

theorem lt_of_mem_hbsOf {st h : Nat} {s : State} (mem : h ∈ hbsOf st s) : h < 104 :=
  List.mem_range.1 (List.mem_filter.1 mem).1

/-! What a hand-over reads of the settings stands in a firing. -/

/-- The configuration of the instances, the cycles, the carriers and the half-bridges, and the compare shadows. -/
def Setting (a : Nat) : Prop :=
  (0x40040000 ≤ a ∧ a < 0x40042000 ∧ a % 0x40 = 0) ∨ (0x40047000 ≤ a ∧ a < 0x40047100 ∧ a % 0x40 = 0x10)
    ∨ (0x40050000 ≤ a ∧ a < 0x40054000 ∧ a % 0x20 = 0)

/-- From `s` to `t` the settings that a hand-over reads stand. -/
def SettingsKept (s t : State) : Prop := ∀ a, Setting a → rdW a t = rdW a s

theorem Graded.settings {s t : State} (r : Graded s t) : SettingsKept s t := by
  intro a setting
  unfold Setting at setting
  refine r.regs a ?_ ?_
  · intro shown
    cases shown with
    | events unit _ =>
      simp only [evtRegs, List.mem_cons, List.not_mem_nil, or_false, Reg.EVT_NSEQ, Reg.EVT_STAT, Reg.EVT_EVT, Reg.EVT_LOST,
        Reg.EVT_UCVAL, Reg.EVT_UCWIN] at unit
      omega
    | causes | unit | unitFlags | slotWrite =>
      simp only [Reg.EVT_G5CAUSE, Reg.PAR_STAT, Reg.PAR_EVT, Reg.TCK_WSTAT] at setting
      omega
    | derating | drum | pulses | stitch | bridge | bridgeFlags =>
      simp only [Reg.DRM_DERN, Reg.DRM_STAT, Reg.PGN_SSTAT, Reg.STI_ISTAT, Reg.PGN_HSTAT, Reg.PGN_HEVT] at setting
      omega
  · unfold Reg.EVT_NSEQ
    omega

namespace SettingsKept

variable {s t u : State} (kept : SettingsKept s t)
include kept

theorem trans (next : SettingsKept t u) : SettingsKept s u := fun a ha => (next a ha).trans (kept a ha)

theorem fl {a : Nat} {F : Fld} (setting : Setting a) : Machine.fl a F t = Machine.fl a F s := by
  unfold Machine.fl
  rw [kept a setting]

theorem on {a : Nat} {F : Fld} (setting : Setting a) : Machine.on a F t = Machine.on a F s := by
  unfold Machine.on
  rw [kept.fl setting]

theorem instsOf (st : Nat) : instsOf st t = instsOf st s := by
  refine List.filter_congr (fun n hn => ?_)
  have config : Setting (Reg.STI_ICFG n) := by
    have := List.mem_range.1 hn
    unfold Setting Reg.STI_ICFG
    omega
  unfold instUsed instStage
  rw [kept.on config, kept.fl config]

theorem hbsOf (st : Nat) : hbsOf st t = hbsOf st s := by
  refine List.filter_congr (fun h hh => ?_)
  have bridge : Setting (Reg.PGN_HCFG h) := by
    have := List.mem_range.1 hh
    unfold Setting Reg.PGN_HCFG
    omega
  have carrier : Setting (Reg.PGN_CCFG (Machine.fl (Reg.PGN_HCFG h) Reg.PGN_HCFG_CARRIER s)) := by
    have : Machine.fl (Reg.PGN_HCFG h) Reg.PGN_HCFG_CARRIER s < 16 := fldGet_lt ..
    unfold Setting Reg.PGN_CCFG
    omega
  unfold hbUsed hbStage hbCarrier
  rw [kept.on bridge, kept.fl bridge, kept.fl carrier]

theorem cdlOf {st : Nat} (hst : st < 4) : cdlOf st t = cdlOf st s := by
  refine kept.fl ?_
  unfold Setting Reg.STI_SCFG
  omega

theorem compare {h : Nat} (hh : h < 104) : rd (Reg.PGN_CMPS h) t = rd (Reg.PGN_CMPS h) s := by
  unfold rd
  rw [kept]
  unfold Setting Reg.PGN_CMPS
  omega

end SettingsKept

/-! The Stitch sets (R115). -/

/-- PRESET for the next execution of one of the instances (R114). -/
def presetInst (n : Nat) (s : State) : State := setInst n { instOf n s with preset := true } s

theorem preset_each (l : List Nat) (s : State) (n : Nat) (h : n ∈ l ∨ (instOf n s).preset = true) :
    (instOf n (each l presetInst s)).preset = true := by
  induction l generalizing s with
  | nil => exact h.resolve_left List.not_mem_nil
  | cons m l ih =>
    rw [each_cons]
    refine ih _ ?_
    by_cases same : n = m
    · exact .inr (by simp [presetInst, same])
    · simpa [presetInst, same] using h

/-- The parts of the state that a hand-over of the Stitch sets leaves, beside the registers. -/
def besideSets (s : State) := (s.lt, s.configured, s.mem, s.bob, s.tack, s.hb, s.pgn)

/-- The state in which a hand-over of the Stitch sets is recorded: the set waits no more and is in force, with its PRESET. -/
def setsHanded (st set : Nat) (preset : Bool) (s : State) : State :=
  setB (Reg.STI_SEVT st) Reg.STI_SEVT_HANDOVER true (setF (Reg.STI_SSTAT st) Reg.STI_SSTAT_SETACT set
    (setB (Reg.STI_SSTAT st) Reg.STI_SSTAT_SETPEND false
      (when preset (each (instsOf st s) presetInst) (setSti st { stiOf st s with req := none } s))))

theorem stitchHandover_of_none {st : Nat} {s : State} (idle : (stiOf st s).req = none) : stitchHandover st s = s := by
  unfold stitchHandover
  rw [idle]

theorem stitchHandover_of_some {st set : Nat} {preset : Bool} {s : State} (waits : (stiOf st s).req = some (set, preset)) :
    stitchHandover st s = record 55 0 0 (some st) (setsHanded st set preset s) := by
  unfold stitchHandover
  rw [waits]
  rfl

theorem setsHanded_silent (st set : Nat) (preset : Bool) (s : State) :
    Silent [Reg.STI_SSTAT st, Reg.STI_SEVT st] s (setsHanded st set preset s) := by
  have taken : Silent [Reg.STI_SSTAT st, Reg.STI_SEVT st] s (setSti st { stiOf st s with req := none } s) :=
    (Silent.refl _ s).elsewhere
  exact .setB (.setF (.setB (taken.when (fun _ hu => hu.each (fun _ _ hv => hv.elsewhere))) (by simp)) (by simp)) (by simp)

/-- PRESET reaches the instances alone. -/
theorem setsHanded_parts (st set : Nat) (preset : Bool) (s : State) :
    besideSets (setsHanded st set preset s) = besideSets s ∧
      (setsHanded st set preset s).sti = Tbl.put st { stiOf st s with req := none } s.sti := by
  have kept : ∀ u, besideSets (when preset (each (instsOf st s) presetInst) u) = besideSets u ∧
      (when preset (each (instsOf st s) presetInst) u).sti = u.sti := fun u => by
    unfold when
    split
    · exact each_induct (P := fun v => besideSets v = besideSets u ∧ v.sti = u.sti) ⟨rfl, rfl⟩ (fun _ _ _ same => same)
    · exact ⟨rfl, rfl⟩
  exact kept (setSti st { stiOf st s with req := none } s)

/-- PRESET of a hand-over is that of all instances of the Stage. -/
theorem setsHanded_preset {st set n : Nat} {s : State} (hn : n ∈ instsOf st s) :
    (instOf n (setsHanded st set true s)).preset = true := preset_each _ _ n (.inl hn)

theorem setsHanded_status (st set : Nat) (preset : Bool) (s : State) :
    fl (Reg.STI_SSTAT st) Reg.STI_SSTAT_SETACT (setsHanded st set preset s) = set % 4 ∧
      on (Reg.STI_SSTAT st) Reg.STI_SSTAT_SETPEND (setsHanded st set preset s) = false := by
  have apart : Reg.STI_SSTAT st ≠ Reg.STI_SEVT st := by
    unfold Reg.STI_SSTAT Reg.STI_SEVT
    omega
  unfold setsHanded
  generalize when preset (each (instsOf st s) presetInst) (setSti st { stiOf st s with req := none } s) = u
  constructor
  · exact (fl_setF_ne apart _ _ _ _).trans (fl_setF _ _ (by decide) _ _)
  · have cleared := on_setB (Reg.STI_SSTAT st) Reg.STI_SSTAT_SETPEND (by decide) (by decide) false u
    unfold on at cleared ⊢
    refine Eq.trans ?_ cleared
    exact congrArg (· != 0) ((fl_setF_ne apart _ _ _ _).trans
      (fl_setF_other _ Reg.STI_SSTAT_SETPEND Reg.STI_SSTAT_SETACT (by decide) _ _))

/-- What a hand-over of a waiting Stitch set brings, and what it leaves (R115). -/
structure StitchHanded (st set : Nat) (preset : Bool) (s t : State) : Prop where
  parts : besideSets t = besideSets s
  sti : t.sti = Tbl.put st { stiOf st s with req := none } s.sti
  regs : regsKept (Reg.STI_SSTAT st :: Reg.STI_SEVT st :: evtRegs) s t
  active : fl (Reg.STI_SSTAT st) Reg.STI_SSTAT_SETACT t = set % 4
  pending : on (Reg.STI_SSTAT st) Reg.STI_SSTAT_SETPEND t = false
  noted : HasRoom s → recs 55 0 0 (some st) s < recs 55 0 0 (some st) t
  preset : preset = true → ∀ n ∈ instsOf st s, (instOf n t).preset = true

theorem stitchHandover_handed {st set : Nat} {preset : Bool} {s : State} (hst : st < 4)
    (waits : (stiOf st s).req = some (set, preset)) : StitchHanded st set preset s (stitchHandover st s) := by
  rw [stitchHandover_of_some waits]
  have silent := setsHanded_silent st set preset s
  obtain ⟨parts, sti⟩ := setsHanded_parts st set preset s
  obtain ⟨active, pending⟩ := setsHanded_status st set preset s
  have presets : ∀ n ∈ instsOf st s, preset = true → (instOf n (setsHanded st set preset s)).preset = true := by
    rintro n hn rfl
    exact setsHanded_preset hn
  generalize setsHanded st set preset s = u at silent parts sti active pending presets
  have events : EventsOnly u (record 55 0 0 (some st) u) := (EventsOnly.refl u).record
  have status : rdW (Reg.STI_SSTAT st) (record 55 0 0 (some st) u) = rdW (Reg.STI_SSTAT st) u := by
    refine events.regs _ ?_
    simp only [evtRegs, List.mem_cons, List.not_mem_nil, or_false, Reg.STI_SSTAT, Reg.EVT_NSEQ, Reg.EVT_STAT, Reg.EVT_EVT,
      Reg.EVT_LOST, Reg.EVT_UCVAL, Reg.EVT_UCWIN]
    omega
  have nseq : Reg.EVT_NSEQ ∉ [Reg.STI_SSTAT st, Reg.STI_SEVT st] := by
    simp only [List.mem_cons, List.not_mem_nil, or_false, Reg.STI_SSTAT, Reg.STI_SEVT, Reg.EVT_NSEQ]
    omega
  refine ⟨?_, ?_, fun a ha => ?_, ?_, ?_, fun room => ?_, fun asked n hn => ?_⟩
  · rw [events.frame]; exact parts
  · rw [events.frame]; exact sti
  · simp only [List.mem_cons, not_or] at ha
    obtain ⟨sstat, sevt, unit⟩ := ha
    exact (events.regs a unit).trans (silent.regs a (by simp [sstat, sevt]))
  · unfold fl at active ⊢
    rw [status, active]
  · unfold on fl at pending ⊢
    rw [status, pending]
  · have waiting : recs 55 0 0 (some st) u = recs 55 0 0 (some st) s := by
      unfold recs
      rw [silent.evt]
    rw [← waiting]
    refine HasRoom.recs_lt (room.of_eq (congrArg (·.2.1) parts) (congrArg (·.1) parts) ?_ ?_ ?_ (silent.regs _ nseq)) ..
    · rw [silent.evt]
    · rw [silent.evt]
    · rw [silent.evt]
  · rw [events.frame]
    exact presets n hn asked

end Sys2Proof.Machine
end

section
/-! SUPPORT. The hand-over of the Pulse-generator shadows (R164), at once or deferred, and O23. -/

namespace Sys2Proof.Machine

/-! The compare shadows. -/

/-- The compare shadow of a half-bridge goes to ready. -/
def readyShadow (h : Nat) (s : State) : State :=
  setHb h { hbOf h s with ready := rd (Reg.PGN_CMPS h) s, refR := (hbOf h s).refS } s

theorem readyShadows_frame (l : List Nat) (s : State) :
    each l readyShadow s = { s with hb := (each l readyShadow s).hb } :=
  each_induct (P := fun u => u = { s with hb := u.hb }) rfl (fun h _ u hu => by
    unfold readyShadow setHb
    rw [hu])

theorem readyShadows_ready (l : List Nat) (s : State) (h : Nat) :
    (hbOf h (each l readyShadow s)).ready = if h ∈ l then rd (Reg.PGN_CMPS h) s else (hbOf h s).ready := by
  induction l generalizing s with
  | nil => rfl
  | cons m l ih =>
    rw [each_cons, ih]
    have word : rd (Reg.PGN_CMPS h) (readyShadow m s) = rd (Reg.PGN_CMPS h) s := rfl
    rw [word]
    by_cases same : h = m
    · subst same
      simp [readyShadow]
    · simp [readyShadow, same]

/-! The set request of the Stage. -/

/-- The pending set request of a Stage goes to ready, and no hand-over of the Stage is deferred any more. -/
def setsReady (st : Nat) (s : State) : State :=
  match (pgnOf st s).req with
  | some v =>
    each (carsOf st s) (fun c s => setB (Reg.PGN_CSTAT c) Reg.PGN_CSTAT_SWPEND true s)
      (setPgn st { pgnOf st s with req := none, ready := some v, deferAt := none } s)
  | none => setPgn st { pgnOf st s with deferAt := none } s

/-- The parts of the state that no hand-over of the shadows reaches, beside the registers and the half-bridges. -/
def besideShadows (s : State) := (s.mem, s.evt, s.sti)

/-- A set request is handed over: what becomes of the Stage's part of the Pulse generator. -/
structure SetReady (st : Nat) (s t : State) : Prop where
  parts : besideShadows t = besideShadows s
  hb : t.hb = s.hb
  regs : ∀ a < 0x40050000, rdW a t = rdW a s
  taken : (pgnOf st t).req = none
  ready : ∀ v, (pgnOf st s).req = some v → (pgnOf st t).ready = some v
  undeferred : (pgnOf st t).deferAt = none

theorem SetReady.setB {st a : Nat} {F : Fld} {b : Bool} {s t : State} (r : SetReady st s t) (high : 0x40050000 ≤ a) :
    SetReady st s (setB a F b t) := by
  refine ⟨r.parts, r.hb, fun c hc => ?_, r.taken, r.ready, r.undeferred⟩
  have other : c ≠ a := by omega
  exact (rdW_setF_ne other ..).trans (r.regs c hc)

theorem setsReady_ready (st : Nat) (s : State) : SetReady st s (setsReady st s) := by
  unfold setsReady
  split
  next v waits =>
    refine each_induct ?_ (fun c _ u hu => hu.setB ?_)
    · refine ⟨rfl, rfl, fun _ _ => rfl, ?_, fun w hw => ?_, ?_⟩
      · rw [pgnOf_setPgn_same]
      · rw [pgnOf_setPgn_same, ← waits, ← hw]
      · rw [pgnOf_setPgn_same]
    · unfold Reg.PGN_CSTAT
      omega
  next idle =>
    refine ⟨rfl, rfl, fun _ _ => rfl, ?_, fun w hw => ?_, ?_⟩
    · rw [pgnOf_setPgn_same]
      exact idle
    · rw [idle] at hw
      cases hw
    · rw [pgnOf_setPgn_same]

/-! The hand-over of the shadows. -/

/-- What a hand-over of the Pulse-generator shadows brings, and what it leaves (R164). -/
structure PulseHanded (st : Nat) (s t : State) : Prop where
  ready : ∀ h ∈ hbsOf st s, (hbOf h t).ready = rd (Reg.PGN_CMPS h) s
  performed : on (Reg.PGN_SSTAT st) Reg.PGN_SSTAT_HODEF t = false
  sets : SetReady st { s with hb := t.hb } t

theorem pgn_sstat_ne_sevt (st : Nat) : Reg.PGN_SSTAT st ≠ Reg.PGN_SEVT st := by
  unfold Reg.PGN_SSTAT Reg.PGN_SEVT
  omega

theorem pulseHandover_handed (st : Nat) (s : State) : PulseHanded st s (pulseHandover st s) := by
  have shown : pulseHandover st s = setB (Reg.PGN_SEVT st) Reg.PGN_SEVT_HANDOVER true
      (setB (Reg.PGN_SSTAT st) Reg.PGN_SSTAT_HODEF false (setB (Reg.PGN_SSTAT st) Reg.PGN_SSTAT_SETPEND false
        (setsReady st (each (hbsOf st s) readyShadow s)))) := rfl
  have handed := setsReady_ready st (each (hbsOf st s) readyShadow s)
  have status : 0x40050000 ≤ Reg.PGN_SSTAT st := by unfold Reg.PGN_SSTAT; omega
  have flags : 0x40050000 ≤ Reg.PGN_SEVT st := by unfold Reg.PGN_SEVT; omega
  have sets := ((handed.setB (F := Reg.PGN_SSTAT_SETPEND) (b := false) status).setB (F := Reg.PGN_SSTAT_HODEF) (b := false)
    status).setB (F := Reg.PGN_SEVT_HANDOVER) (b := true) flags
  rw [← shown] at sets
  refine ⟨fun h hh => ?_, ?_, ?_⟩
  · unfold hbOf
    rw [sets.hb]
    exact (readyShadows_ready _ s h).trans (if_pos hh)
  · rw [shown]
    unfold on
    rw [setB, fl_setF_ne (pgn_sstat_ne_sevt st)]
    exact on_setB _ _ (by decide) (by decide) false _
  · rw [sets.hb, ← readyShadows_frame]
    exact sets

namespace PulseHanded

variable {st : Nat} {s t : State} (r : PulseHanded st s t)
include r

theorem mem : t.mem = s.mem := congrArg (·.1) r.sets.parts
theorem evt : t.evt = s.evt := congrArg (·.2.1) r.sets.parts
theorem sti : t.sti = s.sti := congrArg (·.2.2) r.sets.parts

theorem fl {a : Nat} {F : Fld} (low : a < 0x40050000) : Machine.fl a F t = Machine.fl a F s := by
  unfold Machine.fl
  rw [r.sets.regs a low]
  rfl

end PulseHanded

/-! A hand-over that fires inside a Stitch cycle of the Stage, or outside one. -/

theorem handoverFire_outside {st : Nat} {s : State} (due : stitchDueNow st s = false) (start : (stiOf st s).start = none) :
    handoverFire st s = pulseHandover st s := by
  unfold handoverFire
  rw [due, start]
  rfl

/-- The hand-over waits for the end of the cycle (R164). -/
def handoverPut (st f : Nat) (s : State) : State :=
  setB (Reg.PGN_SEVT st) Reg.PGN_SEVT_DEFER true (setB (Reg.PGN_SSTAT st) Reg.PGN_SSTAT_HODEF true
    (setPgn st { pgnOf st s with deferAt := some f } s))

theorem handoverFire_inside {st c : Nat} {s : State} (due : stitchDueNow st s = false)
    (start : (stiOf st s).start = some c) (runs : nowF s < c + cdlOf st s) :
    handoverFire st s = handoverPut st (c + cdlOf st s) s := by
  unfold handoverFire
  rw [due, start]
  exact if_pos runs

theorem handoverPut_deferAt (st f : Nat) (s : State) : (pgnOf st (handoverPut st f s)).deferAt = some f :=
  congrArg (·.deferAt) (pgnOf_setPgn_same ..)

theorem handoverPut_hodef (st f : Nat) (s : State) :
    on (Reg.PGN_SSTAT st) Reg.PGN_SSTAT_HODEF (handoverPut st f s) = true := by
  unfold handoverPut on
  rw [setB, fl_setF_ne (pgn_sstat_ne_sevt st)]
  exact on_setB _ _ (by decide) (by decide) true _

/-! What the dispatcher takes in this FCLK depends on the time, the slots and the Bobs (R120, R125). -/

section
variable {s t : State} (lt : t.lt = s.lt) (tack : t.tack = s.tack) (bob : t.bob = s.bob)
  (words : ∀ st < 4, wordOf st t = wordOf st s)
include lt tack bob words

omit tack in
theorem dueReached_congr (x : Slot) (d : Nat) : dueReached x d t = dueReached x d s := by
  have stage : slStage x < 4 := Nat.mod_lt _ (by decide)
  unfold dueReached nowF bobOf
  rw [lt, bob, words _ stage]

theorem slotRank_congr (n : Nat) : slotRank n t = slotRank n s := by
  have slots : slotOf n t = slotOf n s := by unfold slotOf; rw [tack]
  have ends : slotEnds n t = slotEnds n s := by unfold slotEnds; rw [tack]
  have eligible : eligibleAt n t = eligibleAt n s := by
    unfold eligibleAt
    simp only [dueReached_congr lt bob words, slots, ends, tack]
  unfold slotRank nowF
  rw [eligible, slots, lt]

theorem stitchDueNow_congr (st : Nat) : stitchDueNow st t = stitchDueNow st s := by
  have takes : taken t = taken s := by
    unfold taken nowF
    simp only [slotRank_congr lt tack bob words, tack, lt]
  unfold stitchDueNow slotOf
  rw [takes, tack]

end

/-! The firing of a HANDOVER slot (R115, R164). -/

theorem configured_of_tackReady {n act : Nat} {s : State} (ready : tackReady n act s = true) : s.configured = true := by
  unfold tackReady at ready
  simp only [Bool.and_eq_true] at ready
  exact ready.1.1.1.1

theorem handoverFiring_of_ready {n kind : Nat} {f : Nat → State → State} {s : State}
    (ready : tackReady n actHandover s = true) (names : slTarget (slotOf n s) / 16 = kind) :
    handoverFiring n kind f s = f (slTarget (slotOf n s) % 4) (tackFired n s) := by
  unfold handoverFiring firing
  rw [if_pos names, if_pos ready]

theorem StitchHanded.settings {st set : Nat} {preset : Bool} {s t : State} (r : StitchHanded st set preset s t) :
    SettingsKept s t := by
  intro a setting
  refine r.regs a ?_
  unfold Setting at setting
  simp only [evtRegs, List.mem_cons, List.not_mem_nil, or_false, Reg.EVT_NSEQ, Reg.EVT_STAT, Reg.EVT_EVT, Reg.EVT_LOST,
    Reg.EVT_UCVAL, Reg.EVT_UCWIN, Reg.STI_SSTAT, Reg.STI_SEVT]
  omega

theorem StitchHanded.wordOf {st set : Nat} {preset : Bool} {s t : State} (r : StitchHanded st set preset s t) {k : Nat}
    (hk : k < 4) : wordOf k t = wordOf k s := by
  unfold Machine.wordOf rd
  rw [r.regs, r.regs]
  all_goals
    simp only [evtRegs, List.mem_cons, List.not_mem_nil, or_false, Reg.EVT_NSEQ, Reg.EVT_STAT, Reg.EVT_EVT, Reg.EVT_LOST,
      Reg.EVT_UCVAL, Reg.EVT_UCWIN, Reg.STI_SSTAT, Reg.STI_SEVT, Reg.BOB_FWORD_LO, Reg.BOB_FWORD_HI]
    omega

namespace StitchHanded

variable {st set : Nat} {preset : Bool} {s t : State} (r : StitchHanded st set preset s t)
include r

theorem mem : t.mem = s.mem := congrArg (·.2.2.1) r.parts

theorem stiOf : stiOf st t = { Machine.stiOf st s with req := none } := by
  unfold Machine.stiOf
  rw [r.sti, Tbl.get_put_same]
  rfl

theorem stitchDueNow (k : Nat) : stitchDueNow k t = stitchDueNow k s :=
  stitchDueNow_congr (congrArg (·.1) r.parts) (congrArg (·.2.2.2.2.1) r.parts) (congrArg (·.2.2.2.1) r.parts)
    (fun _ => r.wordOf) k

end StitchHanded

/-! What a firing leaves (R131, R137). -/

namespace Graded

variable {s t : State} (r : Graded s t)
include r

theorem stiOf (st : Nat) : stiOf st t = stiOf st s := by
  unfold Machine.stiOf
  rw [r.sti]

theorem pgnOf (st : Nat) : pgnOf st t = pgnOf st s := by
  unfold Machine.pgnOf
  rw [r.pgn]

/-- A record of the effect is one of the whole firing. -/
theorem recorded (configured : s.configured = true) {src grade detail : Nat} {stg : Option Nat} {u : State}
    (more : HasRoom t → recs src grade detail stg t < recs src grade detail stg u) : recorded src grade detail stg s u := by
  intro room
  refine lt_of_le_of_lt ?_ (more (r.room (.of_roomy configured room)))
  rw [recs_eq_waiting, recs_eq_waiting]
  exact r.waiting _ (unnumbered_recOf _ _ _ _)

/-- A waiting Stitch set is handed over after the firing as before it. -/
theorem stitchHanded {st set : Nat} {preset : Bool} (hst : st < 4) (waits : (Machine.stiOf st s).req = some (set, preset)) :
    StitchHanded st set preset t (stitchHandover st t) :=
  stitchHandover_handed hst (by rw [r.stiOf, waits])

end Graded

/-- The compares that become ready are the shadows at the firing. -/
theorem PulseHanded.compares {st : Nat} {s t u : State} (handed : PulseHanded st t u) (kept : SettingsKept s t) :
    ∀ h ∈ hbsOf st s, (hbOf h u).ready = rd (Reg.PGN_CMPS h) s := by
  intro h hh
  rw [handed.ready h (by rwa [kept.hbsOf]), kept.compare (lt_of_mem_hbsOf hh)]

/-- Settles O23: a firing leaves the sets and the settings, so that the hand-over after it is that of the waiting set and of the
shadows, and the hand-over of a Stitch set does not move a Stitch cycle. -/
theorem handOvers : Obligations.HandOvers := by
  unfold Obligations.HandOvers
  refine ⟨?stitch, ?stitchIdle, ?pulse, ?pulseDeferred, ?both, ?deferred, ?early⟩
  case stitch =>
    intro slot set preset s ready names waits hset
    have fired : Graded s (tackFired slot s) := (Graded.refl s).tackFired
    have handed := fired.stitchHanded (Nat.mod_lt _ (by decide)) waits
    refine ⟨_, congrArg Host.Outcome.next (handoverFiring_of_ready ready names), ?_, handed.pending, ?_,
      fired.recorded (configured_of_tackReady ready) handed.noted, fun asked n hn => ?_, handed.mem.trans fired.mem⟩
    · rw [handed.active, Nat.mod_eq_of_lt hset]
    · rw [handed.stiOf]
    · exact handed.preset asked n (by rwa [fired.settings.instsOf])
  case stitchIdle =>
    intro slot s ready names idle
    have fired : Graded s (tackFired slot s) := (Graded.refl s).tackFired
    have stays : (stiOf (slTarget (slotOf slot s) % 4) (tackFired slot s)).req = none := by rw [fired.stiOf, idle]
    exact congrArg Host.Outcome.next ((handoverFiring_of_ready ready names).trans (stitchHandover_of_none stays))
  case pulse =>
    intro slot s ready names due start
    have fired : Graded s (tackFired slot s) := (Graded.refl s).tackFired
    have outside := handoverFire_outside due (by rw [fired.stiOf, start])
    have handed := pulseHandover_handed (slTarget (slotOf slot s) % 4) (tackFired slot s)
    refine ⟨_, congrArg Host.Outcome.next ((handoverFiring_of_ready ready names).trans outside),
      handed.compares fired.settings, handed.performed, handed.sets.taken, fun v hv => handed.sets.ready v ?_,
      handed.sets.undeferred, handed.mem.trans fired.mem, handed.evt⟩
    exact (congrArg (·.req) (fired.pgnOf _)).trans hv
  case pulseDeferred =>
    intro slot c s ready names due start runs
    have fired : Graded s (tackFired slot s) := (Graded.refl s).tackFired
    have length := fired.settings.cdlOf (Nat.mod_lt (slTarget (slotOf slot s)) (by decide : 0 < 4))
    have still : nowF (tackFired slot s) < c + cdlOf (slTarget (slotOf slot s) % 4) (tackFired slot s) := by
      unfold nowF
      rw [fired.lt, length]
      exact runs
    have inside := handoverFire_inside due (by rw [fired.stiOf, start]) still
    rw [length] at inside
    exact ⟨_, congrArg Host.Outcome.next ((handoverFiring_of_ready ready names).trans inside), handoverPut_deferAt ..,
      handoverPut_hodef .., rfl, fired.mem, rfl⟩
  case both =>
    intro slot set preset s ready names waits hset due start
    have fired : Graded s (tackFired slot s) := (Graded.refl s).tackFired
    have sets := fired.stitchHanded (Nat.mod_lt _ (by decide)) waits
    have outside := handoverFire_outside ((sets.stitchDueNow _).trans due) (by rw [sets.stiOf, fired.stiOf, start])
    have handed := pulseHandover_handed (slTarget (slotOf slot s) % 4)
      (stitchHandover (slTarget (slotOf slot s) % 4) (tackFired slot s))
    have status : Reg.STI_SSTAT (slTarget (slotOf slot s) % 4) < 0x40050000 := by
      unfold Reg.STI_SSTAT
      omega
    refine ⟨_, congrArg Host.Outcome.next ((handoverFiring_of_ready ready names).trans outside), ?_, ?_,
      handed.compares (fired.settings.trans sets.settings), handed.sets.undeferred,
      handed.mem.trans (sets.mem.trans fired.mem)⟩
    · rw [handed.fl status, sets.active, Nat.mod_eq_of_lt hset]
    · unfold stiOf
      rw [handed.sti]
      exact congrArg (·.req) sets.stiOf
  case deferred =>
    intro st f s defers come
    have handed := pulseHandover_handed st s
    refine ⟨pulseHandover st s, ?_, handed.ready, handed.sets.undeferred, handed.performed, handed.mem, handed.evt⟩
    show Host.Outcome.next _ = _
    rw [defers]
    exact congrArg _ (if_pos come)
  case early =>
    intro st f s defers early
    show Host.Outcome.next _ = _
    rw [defers]
    exact congrArg _ (if_neg (Nat.not_le.2 early))

end Sys2Proof.Machine
end

section
/-! SUPPORT. What the grading of a mismatch does not reach (R208-R213): everything beside the parts in which its reactions work, and
the role of the unit. -/

namespace Sys2Proof.Machine

/-- From `s` to `t` mismatches have been graded: only the parts in which the reactions to them work differ, and the unit of a pair
keeps its role. -/
structure GradeFramed (s t : State) : Prop where
  frame : t = { s with
    regs := t.regs, evt := t.evt, hmp := t.hmp, drm := t.drm, inst := t.inst, hb := t.hb, legEn := t.legEn, lnk := t.lnk
    prt := t.prt, par := t.par, spn := t.spn, out := t.out }
  role : roleOf t = roleOf s

namespace GradeFramed

variable {s t u : State} {a b c d h k m n p st v : Nat} {F : Fld} {on_ : Bool}

theorem refl (s : State) : GradeFramed s s := ⟨rfl, rfl⟩

theorem trans (r : GradeFramed s t) (g : GradeFramed t u) : GradeFramed s u :=
  ⟨g.frame.trans (by rw [r.frame]), g.role.trans r.role⟩

/-- A change of parts in which the reactions work, but not of registers. -/
theorem elsewhere (r : GradeFramed s t)
    (frame : u = { t with
      evt := u.evt, hmp := u.hmp, drm := u.drm, inst := u.inst, hb := u.hb, legEn := u.legEn, lnk := u.lnk, prt := u.prt
      par := u.par, spn := u.spn, out := u.out } := by rfl) : GradeFramed s u := by
  refine r.trans ⟨?_, ?_⟩
  · rw [frame]
  · rw [frame]; rfl

theorem withEvt (r : GradeFramed s t) {e : EvtSt} : GradeFramed s { t with evt := e } := r.elsewhere

theorem wrW (r : GradeFramed s t) {w : Word} (beside : Reg.PAR_STAT ≠ a := by decide) : GradeFramed s (wrW a w t) := by
  refine r.trans ⟨rfl, ?_⟩
  unfold roleOf fl
  rw [rdW_wrW, if_neg beside]

/-- The event unit at work. -/
theorem events (r : GradeFramed s t) (g : EventsOnly t u) : GradeFramed s u := by
  refine r.trans ⟨?_, ?_⟩
  · rw [g.frame]
  · unfold roleOf fl
    rw [g.regs _ (by decide)]

theorem when (r : GradeFramed s t) {f : State → State} (hf : ∀ u, GradeFramed s u → GradeFramed s (f u)) :
    GradeFramed s (when on_ f t) := by
  unfold Machine.when
  split
  · exact hf _ r
  · exact r

theorem each {α : Type} (r : GradeFramed s t) {l : List α} {f : α → State → State}
    (hf : ∀ x ∈ l, ∀ u, GradeFramed s u → GradeFramed s (f x u)) : GradeFramed s (each l f t) := each_induct r hf

theorem record (r : GradeFramed s t) {g : Option Nat} : GradeFramed s (record a b c g t) := r.events (EventsOnly.refl t).record

/-! Counters and derating (R208-R211). -/

theorem under (r : GradeFramed s t) {f : State → State} (hf : ∀ u, GradeFramed s u → GradeFramed s (f u)) :
    GradeFramed s (under a b f t) := .withEvt (hf _ r.withEvt)

theorem upsetThen (r : GradeFramed s t) {f : State → State} (hf : ∀ u, GradeFramed s u → GradeFramed s (f u)) :
    GradeFramed s (upsetThen a f t) := by
  have counted : GradeFramed s (upset a t).1 := r.events (EventsOnly.refl t).upset
  unfold Machine.upsetThen
  dsimp only
  split
  · exact counted.under hf
  · exact counted

theorem gradeG3 (r : GradeFramed s t) {z : Option Cause} : GradeFramed s (gradeG3 st z t) := by
  have steps : Reg.PAR_STAT ≠ Reg.DRM_DERN st ∧ Reg.PAR_STAT ≠ Reg.DRM_STAT st := by
    unfold Reg.PAR_STAT Reg.DRM_DERN Reg.DRM_STAT
    omega
  unfold Machine.gradeG3
  extract_lets t1 t2
  have counted : GradeFramed s t1 := r.wrW steps.1
  have noted : GradeFramed s t2 := by
    cases z with
    | none => exact counted
    | some z => exact .wrW counted.elsewhere steps.2
  exact noted.record

/-! The safe state and the loss of pulses (R108, R158). -/

theorem legRise (r : GradeFramed s t) : GradeFramed s (legRise n t) := by
  unfold Machine.legRise
  split
  · exact r.elsewhere
  · exact r

theorem legOff (r : GradeFramed s t) : GradeFramed s (legOff n t) := by
  unfold Machine.legOff
  extract_lets late
  clear_value late
  split
  · exact r.elsewhere
  · have low : GradeFramed s { Machine.legRise n t with legEn := setBit (Machine.legRise n t).legEn n false } :=
      r.legRise.elsewhere
    exact low.when (fun _ hu => hu.elsewhere)

/-- The status and the flags of a half-bridge are other registers than the status of the unit. -/
theorem bridge_beside : Reg.PAR_STAT ≠ Reg.PGN_HSTAT h ∧ Reg.PAR_STAT ≠ Reg.PGN_HEVT h := by
  unfold Reg.PAR_STAT Reg.PGN_HSTAT Reg.PGN_HEVT
  omega

theorem safeHb (r : GradeFramed s t) : GradeFramed s (safeHb h t) := by
  obtain ⟨status, flags⟩ := bridge_beside (h := h)
  unfold Machine.safeHb
  extract_lets lows cut t1 x t2 t3 j mine
  have counted : GradeFramed s t1 := r.each (fun _ _ _ hu => .wrW hu.elsewhere status)
  have off : GradeFramed s t2 := counted.elsewhere
  have safe : GradeFramed s t3 := .wrW (.wrW (.wrW off status) status) flags
  split
  · exact safe.legOff
  · exact safe.elsewhere

theorem holdHb (r : GradeFramed s t) : GradeFramed s (holdHb c h t) := by
  have status := (bridge_beside (h := h)).1
  unfold Machine.holdHb
  split
  · exact .safeHb (.when (.wrW (r.when (fun _ hu => hu.elsewhere)) status) (fun _ hu => hu.wrW status))
  · exact r

theorem holdMany (r : GradeFramed s t) {l : List Nat} : GradeFramed s (holdMany c l t) :=
  .each (r.each (fun _ _ _ hu => hu.holdHb)) (fun _ _ _ hu => hu.when (fun _ hv => hv.elsewhere))

theorem trackIn (r : GradeFramed s t) : GradeFramed s (trackIn n t) := by
  have mode : Reg.PAR_STAT ≠ Reg.STI_ISTAT n := by
    unfold Reg.PAR_STAT Reg.STI_ISTAT
    omega
  unfold Machine.trackIn
  extract_lets was
  split
  · exact r
  · exact .wrW r.elsewhere mode

theorem pulsesOff (r : GradeFramed s t) (hst : st < 4) : GradeFramed s (pulsesOff st d t) := by
  have pulses : Reg.PAR_STAT ≠ Reg.PGN_SSTAT st := by
    unfold Reg.PAR_STAT Reg.PGN_SSTAT
    omega
  exact .holdMany (.each (.when (r.wrW pulses) (fun _ hu => hu.record)) (fun _ _ _ hu => hu.trackIn))

theorem gradeG5 (r : GradeFramed s t) (hst : st < 4) {z : Option Cause} : GradeFramed s (gradeG5 st z t) := by
  unfold Machine.gradeG5 gradeG5For
  extract_lets was t1 t2 _ t3 t4 t5
  have locked : GradeFramed s t1 := r.wrW
  have noted : GradeFramed s t2 := by
    cases z with
    | none => exact locked
    | some z => exact .wrW locked.elsewhere
  have skipped : GradeFramed s t5 := noted.elsewhere
  exact .pulsesOff (skipped.when (fun _ hu => hu.record)) hst

/-- G5 against every Stage. -/
theorem gradeG5All (r : GradeFramed s t) {z : Option Cause} : GradeFramed s (gradeG5All (List.range 4) z t) :=
  r.each (fun _ hst _ hu => hu.gradeG5 (List.mem_range.1 hst))

/-! G4 (R209, R346, R381): a unit that is not ACTIVE loses its health, and keeps its role. -/

theorem urgentPut (r : GradeFramed s t) {z : Urgent} : GradeFramed s (urgentPut p z t) := by
  unfold Machine.urgentPut urgentGo
  split
  · split
    · exact r.elsewhere
    · split
      · exact r.elsewhere
      · exact r.elsewhere
  · exact r

theorem refereeFrame (r : GradeFramed s t) : GradeFramed s (refereeFrame k t) := by
  unfold Machine.refereeFrame sendUrgent urgentOut
  split
  · exact r.each (fun _ _ _ hu => hu.urgentPut)
  · exact r

theorem unhealthy (r : GradeFramed s t) : GradeFramed s (setB Reg.PAR_STAT Reg.PAR_STAT_HEALTHY false t) :=
  r.trans ⟨rfl, fl_setF_other _ _ _ (by decide) _ _⟩

theorem gradeG4 (r : GradeFramed s t) {z : Option Cause} : GradeFramed s (gradeG4 z t) := by
  unfold Machine.gradeG4
  split
  · split
    · extract_lets _ t1
      have asked : GradeFramed s t1 := .refereeFrame r.elsewhere
      split
      · exact asked
      · exact asked.gradeG5All
    · have noted : GradeFramed s { t with par := { t.par with g4 := true } } := r.elsewhere
      exact noted.unhealthy.when (fun _ hu => .record hu.wrW)
  · exact r.gradeG5All

/-! A mismatch (R213). -/

theorem integrity (r : GradeFramed s t) {z : Option Nat} : GradeFramed s (integrity b a z t) := by
  unfold Machine.integrity
  extract_lets again t0 _ t1
  have noted : GradeFramed s t1 := by
    unfold t1
    split
    · exact r.record.under (fun _ hu => hu.each (fun _ _ _ hv => hv.gradeG3))
    · exact .record r.elsewhere
  exact noted.upsetThen (fun _ hu => hu.record.under (fun _ hv => hv.gradeG4))

theorem useStore (r : GradeFramed s t) : GradeFramed s (useStore a t) := r.each (fun _ _ _ hu => hu.integrity)

end GradeFramed

end Sys2Proof.Machine
end

section
/-! SUPPORT. The GPIO actions (R121, R124), and O29: the firing of a slot leaves the GPIO pins, and the unit acts after it as before. -/

namespace Sys2Proof.Machine

/-- The next due point of a slot, and a DELETE that its firing completes, are no matter of the pins and of the unit. -/
theorem tackNext_gpioOut_role (n : Nat) (s : State) :
    (tackNext n s).gpioOut = s.gpioOut ∧ roleOf (tackNext n s) = roleOf s := by
  unfold tackNext
  split <;> exact ⟨rfl, rfl⟩

theorem deleteFired_gpioOut_role (n : Nat) (s : State) :
    (deleteFired n s).gpioOut = s.gpioOut ∧ roleOf (deleteFired n s) = roleOf s := by
  unfold deleteFired
  split
  · exact ⟨rfl, fl_setF_ne (by decide) ..⟩
  · exact ⟨rfl, rfl⟩

/-- A firing, with the mismatch that its fetch may find, leaves the pins and the role of the unit. -/
theorem tackFired_gpioOut_role (n : Nat) (s : State) :
    (tackFired n s).gpioOut = s.gpioOut ∧ roleOf (tackFired n s) = roleOf s := by
  have fetched : GradeFramed s (useStore (slotStore n) s) := (GradeFramed.refl s).useStore
  have pins : (useStore (slotStore n) s).gpioOut = s.gpioOut := by rw [fetched.frame]
  obtain ⟨nextPins, nextRole⟩ := tackNext_gpioOut_role n (useStore (slotStore n) s)
  unfold tackFired
  obtain ⟨donePins, doneRole⟩ := deleteFired_gpioOut_role n _
  exact ⟨donePins.trans (nextPins.trans pins), doneRole.trans (nextRole.trans fetched.role)⟩

/-- No grading reaches the configuration of the pair. -/
theorem Graded.paired {s t : State} (r : Graded s t) : paired t = paired s := by
  have config : ¬ GradeReg Reg.PAR_CFG := by
    intro shown
    generalize ha : Reg.PAR_CFG = a at shown
    cases shown with
    | events unit _ => exact absurd (ha ▸ unit) (by decide)
    | causes | unit | unitFlags | slotWrite => exact absurd ha (by decide)
    | derating | drum | pulses | stitch | bridge | bridgeFlags =>
      simp only [Reg.PAR_CFG, Reg.DRM_DERN, Reg.DRM_STAT, Reg.PGN_SSTAT, Reg.STI_ISTAT, Reg.PGN_HSTAT, Reg.PGN_HEVT] at ha
      omega
  unfold Machine.paired on fl
  rw [r.regs _ config (by decide)]

theorem tackFired_acting (n : Nat) (s : State) : acting (tackFired n s) = acting s := by
  unfold acting
  rw [(Graded.refl s).tackFired.paired, (tackFired_gpioOut_role n s).2]

/-- The level that the GPIO action of an ARG drives, from the one before (R124). -/
def gpioDriven (arg : Nat) (level : Bool) : Bool :=
  match arg with
  | 0 => false
  | 1 => true
  | _ => !level

/-- A ready GPIO slot with the command's ARG fires, and its action finds the pins as they were. -/
theorem gpioFiring_of_ready {n arg : Nat} {s : State} (ready : tackReady n actGpio s = true)
    (names : slArg (slotOf n s) = arg) (acts : acting s = true) :
    gpioFiring n arg s = { tackFired n s with
      gpioOut := setBit s.gpioOut (slTarget (slotOf n s) % 32)
        (gpioDriven arg (s.gpioOut.testBit (slTarget (slotOf n s) % 32))) } := by
  unfold gpioFiring firing gpioAction
  rw [if_pos names, if_pos ready, if_pos (by simp [names, tackFired_acting, acts]), (tackFired_gpioOut_role n s).1]
  rfl

theorem gpioFiring_of_idle {n arg : Nat} {s : State} (idle : tackReady n actGpio s = false) : gpioFiring n arg s = s := by
  unfold gpioFiring firing
  split
  · exact if_neg (by simp [idle])
  · rfl

/-- Settles O29: a ready slot acts on the pins as they were, since its firing leaves them and the role of the unit. -/
theorem gpioActions : Obligations.GpioActions := by
  unfold Obligations.GpioActions
  refine ⟨?low, ?high, ?toggle, ?idleLow, ?idleHigh, ?idleToggle⟩
  case low | high | toggle =>
    exact fun _ _ ready names acts => congrArg Host.Outcome.next (gpioFiring_of_ready ready names acts)
  case idleLow | idleHigh | idleToggle =>
    exact fun _ _ idle => congrArg Host.Outcome.next (gpioFiring_of_idle idle)

end Sys2Proof.Machine
end

section
/-! SUPPORT. A slot whose storage disagreed twice before new words were switched into it (R130, R213), and O27 and O28: the switch
ends the G3 cause of the storage, which their clauses keep. -/

namespace Sys2Proof.Machine

/-- A dropped cause is no G3 cause of any Stage. -/
theorem g3Of_dropCause {st : Nat} (hst : st < 4) (c : Cause) (s : State) :
    g3Of st (dropCause c s) = (g3Of st s).filter (fun d => d != c) := by
  unfold dropCause each
  interval_cases st <;> simp [List.range, List.range.loop, g3Of, dropG3, setG3, dropG5, setG5, Tbl.get_put]

/-- A storage that has been written and verified is no G3 cause (R213). -/
theorem not_mem_g3Of_verified {st a : Nat} (hst : st < 4) {s : State} (bad : a ∈ s.evt.mism) :
    (⟨3, a⟩ : Cause) ∉ g3Of st (verified a s) := by
  unfold verified
  extract_lets t
  have noted : a ∈ t.evt.mism := by
    unfold t when
    split <;> exact bad
  rw [if_pos (by simpa using noted), g3Of_dropCause hst]
  simp

theorem installSlot_evt (n : Nat) (c : Option Slot) (at_ : Nat) (s : State) :
    (installSlot n c at_ s).evt = (verified (slotStore n) s).evt := by
  unfold installSlot
  cases c <;> rfl

/-- New words in a slot end the cause that its storage was (R130, R213). -/
theorem not_mem_g3Of_installSlot {st n : Nat} (hst : st < 4) {c : Option Slot} {at_ : Nat} {s : State}
    (bad : slotStore n ∈ s.evt.mism) : (⟨3, slotStore n⟩ : Cause) ∉ g3Of st (installSlot n c at_ s) := by
  unfold g3Of
  rw [installSlot_evt]
  exact not_mem_g3Of_verified hst bad

/-! The switch at S (R130, R135). -/

/-- A GPIO slot on the LT basis. -/
def gpioSlot : Slot := ⟨0x801, 0, 0, 0, 8, 0, 0⟩

/-- A configured device on which the storage of slot 0 has disagreed twice, a G3 cause of Stage 0, while new words for the slot
wait for their switch at LT 0: from an accepted write, and from a committed lock. -/
def switchDue : State :=
  { State.reset with
    configured := true
    evt := { EvtSt.reset with mism := [slotStore 0], g3 := [(0, [⟨3, slotStore 0⟩])] }
    tack := { TackSt.reset with
      switch := [(0, some gpioSlot, 0)]
      locks := [(0, { Lock.reset with commitAt := some 0, staged := [.slot 0 gpioSlot] })] } }

theorem not_mem_g3Of_slotSwitch {st n at_ : Nat} (hst : st < 4) {c : Option Slot} {s : State}
    (waits : s.tack.switch.find? (fun p => p.1 == n) = some (n, c, at_)) (come : at_ ≤ s.lt)
    (old : oldWaits n at_ s = false) (bad : slotStore n ∈ s.evt.mism) :
    (⟨3, slotStore n⟩ : Cause) ∉ g3Of st (slotSwitch n s) := by
  unfold slotSwitch
  rw [waits]
  dsimp only
  rw [if_pos (by rw [old, decide_eq_true come]; rfl)]
  exact not_mem_g3Of_installSlot hst (s := { s with tack := _ }) bad

theorem not_mem_g3Of_lockRelease {st i n at_ : Nat} (hst : st < 4) {x : Slot} {s : State}
    (commits : (lockOf i s).commitAt = some at_) (come : at_ ≤ s.lt) (work : (lockOf i s).staged = [.slot n x])
    (old : oldWaits n at_ (lockFree i true s) = false) (bad : slotStore n ∈ s.evt.mism) :
    (⟨3, slotStore n⟩ : Cause) ∉ g3Of st (lockRelease i s) := by
  have released : releaseStaged at_ (.slot n x) (lockFree i true s) = installSlot n (some x) at_ (lockFree i true s) :=
    if_neg (by rw [old]; decide)
  unfold lockRelease
  rw [commits]
  dsimp only
  rw [if_pos come, work, each_cons, released]
  exact not_mem_g3Of_installSlot hst (c := some x) (at_ := at_) (s := lockFree i true s) bad

/-- Where the switch ends the G3 cause of that device, the event unit stands not even but for its lists of storages. -/
theorem not_evt_kept_of_switchDue {t : State} (switched : ⟨3, slotStore 0⟩ ∉ g3Of 0 t) :
    t.evt ≠ { switchDue.evt with torn := t.evt.torn, mism := t.evt.mism } := by
  intro same
  unfold g3Of at switched
  rw [same] at switched
  exact switched (List.mem_singleton_self _)

theorem exec_slotSwitch (slot : Fin 4096) (s : State) : exec (.slotSwitch slot) s = .next (slotSwitch slot s) := rfl

theorem exec_lockCommitRelease (lock : Fin 8) (s : State) :
    exec (.lockCommitRelease lock) s = .next (lockRelease lock s) := rfl

/-- Refutes O27: its eighth clause keeps the event unit but for the lists of storages, but new words in a slot whose storage
was a G3 cause end that cause (R213). -/
theorem not_slotCommands : ¬ Obligations.SlotCommands := by
  rintro ⟨-, -, -, -, -, -, -, switched, -⟩
  obtain ⟨t, ran, -, -, -, -, -, same⟩ := switched 0 gpioSlot 0 switchDue rfl (Nat.zero_le _) (by decide)
  rw [exec_slotSwitch] at ran
  refine not_evt_kept_of_switchDue ?_ same
  rw [← Host.Outcome.next.inj ran]
  exact not_mem_g3Of_slotSwitch (n := 0) (by decide) rfl (Nat.zero_le _) (by decide) (List.mem_singleton_self _)

/-- Refutes O28: its fifth clause keeps the event unit but for the lists of storages, but the release of staged words for a slot
whose storage was a G3 cause ends that cause (R213). -/
theorem not_sequenceLocks : ¬ Obligations.SequenceLocks := by
  rintro ⟨-, -, -, -, released, -⟩
  obtain ⟨t, ran, -, -, -, -, -, -, same⟩ := released 0 0 0 gpioSlot switchDue rfl (Nat.zero_le _) rfl (by decide)
  rw [exec_lockCommitRelease] at ran
  refine not_evt_kept_of_switchDue ?_ same
  rw [← Host.Outcome.next.inj ran]
  exact not_mem_g3Of_lockRelease (i := 0) (by decide) rfl (Nat.zero_le _) rfl (by decide) (List.mem_singleton_self _)

end Sys2Proof.Machine
end

section
/-! SUPPORT. A slot on the AT basis whose occurrence was reached before the word changed (R25, R120), and O57: its firing takes that
occurrence, and the due point after it, already known, stands. -/

namespace Sys2Proof.Machine

/-- A configured device with a GPIO slot on the AT of Stage 0, due at AT 0, in an FCLK in which its word changes: the occurrence is
kept as reached, and the next due point is that of the next cycle. -/
def reachedSlot : State :=
  fixReached 0 { State.reset with
    configured := true
    tack := { TackSt.reset with slots := [(0, ⟨0x809, 0, 0, 0, 0, 0, 0⟩)], due := [(0, some 0)] } }

theorem due_reachedSlot : Tbl.get none reachedSlot.tack.due 0 = some (2 ^ 32) := by decide

/-- Its firing takes the reached occurrence, and leaves the next due point. -/
theorem due_tackFired_reachedSlot : Tbl.get none (tackFired 0 reachedSlot).tack.due 0 = some (2 ^ 32) := by decide

/-- Refutes O57: its third clause, which is not of LT slots alone, has every firing move the next due point on; that of an occurrence
reached before its Stage's word changed leaves it (R25). -/
theorem not_duePointsOfLtSlots : ¬ Obligations.DuePointsOfLtSlots := by
  rintro ⟨-, -, follows, -⟩
  have moved := follows 0 (2 ^ 32) reachedSlot due_reachedSlot
  rw [due_tackFired_reachedSlot] at moved
  exact absurd moved (by decide)

end Sys2Proof.Machine
end

section
/-! SUPPORT. The second copy of an ALARM (R191), and O45: it acts no more, so what its third clause promises of every ALARM fails. -/

namespace Sys2Proof.Machine

/-- A copy of an ALARM within 1 µs of the first is counted and does nothing else (R191). -/
theorem alarmReceived_of_copy {n a at_ k : Nat} {s : State} (first : (lnkOf n s).alarm = some (a, at_, k)) (more : 0 < k)
    (soon : s.lt ≤ at_ + us) :
    alarmReceived n a s = setLnk n { lnkOf n s with alarm := some (a, at_, k - 1) } s := by
  have copy : alarmCopy n a s = some (setLnk n { lnkOf n s with alarm := some (a, at_, k - 1) } s) := by
    unfold alarmCopy
    rw [first]
    exact if_pos ⟨rfl, more, soon⟩
  unfold alarmReceived
  rw [copy]
  rfl

/-- A block whose check passes acts on an enabled link that is not retired (R175). -/
theorem received_of_enabled {n : Nat} {s : State} (enabled : linkEnabled n s = true) (active : linkState n s ≠ lkRetired)
    (f : State → State) : received n true f s = f s := by
  unfold received
  rw [if_pos (by simp [enabled, active]), if_pos rfl]

/-- A configured device on which link 0, with half-bridge 0 in use, is READY. The ALARM of its high shunt came at LT 0 and two
copies of it are to come; software has cleared LLK_EVT since. -/
def alarmTaken : State :=
  { State.reset with
    configured := true
    regs := [(Reg.PGN_HCFG 0, fldSet Reg.PGN_HCFG_ENABLE 0 1), (Reg.LLK_LCFG 0, fldSet Reg.LLK_LCFG_ENABLE 0 1),
      (Reg.LLK_STAT 0, fldSet Reg.LLK_STAT_STATE 0 lkReady)]
    lnk := [(0, { LnkSt.reset with alarm := some (0x11, 0, 2) })] }

/-- The copy of the ALARM leaves LLK_EVT clear. -/
theorem alarm_clear_of_copy : on (Reg.LLK_EVT 0) Reg.LLK_EVT_ALARM (alarmReceived 0 0x11 alarmTaken) = false := by
  rw [alarmReceived_of_copy (at_ := 0) (k := 2) rfl (by decide) (by decide)]
  decide

/-- Refutes O45: its third clause has LLK_EVT.ALARM and the hold after every ALARM, but the ALARM is sent three times (R191), and
the two copies of one already taken change nothing but their count. -/
theorem not_linkReports : ¬ Obligations.LinkReports := by
  rintro ⟨-, -, alarm, -⟩
  obtain ⟨t, ran, flagged, -⟩ := alarm 0 0x11#8 0 alarmTaken (by decide) (by decide) (by decide) (by decide) (by decide)
  have acts : exec (.alarmReceived 0 true 0x11#8) alarmTaken = .next (alarmReceived 0 0x11 alarmTaken) :=
    congrArg Host.Outcome.next (received_of_enabled (n := 0) (by decide) (by decide) (alarmReceived 0 0x11))
  rw [← Host.Outcome.next.inj (acts.symm.trans ran)] at flagged
  exact absurd (alarm_clear_of_copy.symm.trans flagged) (by decide)

end Sys2Proof.Machine
end

section
/-! SUPPORT. The planner of a half-bridge (R146-R149, R154-R156): what it leaves, each point it takes, refresh and resumption. -/

namespace Sys2Proof.Machine

/-- From `s` to `t` half-bridges have been planned: beside the listed registers only the half-bridges and the links that take their
edges differ, and the ready compares stand. -/
structure Plans (l : List Nat) (s t : State) : Prop where
  frame : t = { s with regs := t.regs, hb := t.hb, lnk := t.lnk }
  regs : regsKept l s t
  ready : ∀ j, (hbOf j t).ready = (hbOf j s).ready

namespace Plans

variable {l : List Nat} {s t u : State} {h k n : Nat}

theorem refl (l : List Nat) (s : State) : Plans l s s := ⟨rfl, fun _ _ => rfl, fun _ => rfl⟩

theorem trans (r : Plans l s t) (g : Plans l t u) : Plans l s u :=
  ⟨g.frame.trans (by rw [r.frame]), fun a ha => (g.regs a ha).trans (r.regs a ha), fun j => (g.ready j).trans (r.ready j)⟩

theorem mono {l' : List Nat} (r : Plans l s t) (h : l ⊆ l') : Plans l' s t :=
  { r with regs := fun a ha => r.regs a (fun hl => ha (h hl)) }

theorem mem (r : Plans l s t) : t.mem = s.mem := by rw [r.frame]
theorem evt (r : Plans l s t) : t.evt = s.evt := by rw [r.frame]
theorem out (r : Plans l s t) : t.out = s.out := by rw [r.frame]
theorem pgn (r : Plans l s t) : t.pgn = s.pgn := by rw [r.frame]
theorem car (r : Plans l s t) : t.car = s.car := by rw [r.frame]

theorem wrW (r : Plans l s t) {a : Nat} (ha : a ∈ l) {w : Word} : Plans l s (wrW a w t) := by
  refine r.trans ⟨rfl, fun b hb => ?_, fun _ => rfl⟩
  rw [rdW_wrW, if_neg]
  rintro rfl
  exact hb ha

theorem wr (r : Plans l s t) {a : Nat} (ha : a ∈ l) : Plans l s (wr a n t) := r.wrW ha
theorem wrI (r : Plans l s t) {a : Nat} (ha : a ∈ l) {x : Int} : Plans l s (wrI a x t) := r.wrW ha
theorem setF (r : Plans l s t) {a : Nat} (ha : a ∈ l) {F : Fld} : Plans l s (setF a F n t) := r.wrW ha
theorem setB (r : Plans l s t) {a : Nat} (ha : a ∈ l) {F : Fld} {b : Bool} : Plans l s (setB a F b t) := r.wrW ha

theorem setLnk (r : Plans l s t) {x : LnkSt} : Plans l s (setLnk n x t) := r.trans ⟨rfl, fun _ _ => rfl, fun _ => rfl⟩

theorem setHb (r : Plans l s t) {x : HbSt} (hx : x.ready = (hbOf k t).ready := by rfl) : Plans l s (setHb k x t) := by
  refine r.trans ⟨rfl, fun _ _ => rfl, fun j => ?_⟩
  rw [hbOf_setHb]
  split
  · rename_i same; rw [same, hx]
  · rfl

theorem when (r : Plans l s t) {c : Bool} {f : State → State} (hf : Plans l s (f t)) : Plans l s (when c f t) := by
  unfold Machine.when
  split
  · exact hf
  · exact r

theorem each {α : Type} (r : Plans l s t) {xs : List α} {f : α → State → State}
    (hf : ∀ x ∈ xs, ∀ u, Plans l s u → Plans l s (f x u)) : Plans l s (each xs f t) := each_induct r hf

/-! An edge, and the crossing that it belongs to (R146, R149). -/

theorem holdCmd (r : Plans l s t) {c : Sent} : Plans l s (holdCmd n c t) := r.setLnk

theorem wantReport (r : Plans l s t) {e : Edge} {b : Nat} : Plans l s (wantReport n h e b t).2 := by
  unfold Machine.wantReport
  split
  · exact r.setLnk
  · exact r

theorem wantReport_hb (n h : Nat) (e : Edge) (b : Nat) (s : State) : (Machine.wantReport n h e b s).2.hb = s.hb := by
  unfold Machine.wantReport
  split <;> rfl

theorem linkEdge (r : Plans l s t) {forced : Bool} {e : Edge} : Plans l s (linkEdge forced h e t) := by
  unfold Machine.linkEdge
  extract_lets n x b
  split
  · exact r
  · have asked : Plans l s (Machine.wantReport n h e b t).2 := r.wantReport
    have same : hbOf h (Machine.wantReport n h e b t).2 = x := by
      unfold hbOf
      rw [wantReport_hb]
      rfl
    generalize Machine.wantReport n h e b t = answer at asked same ⊢
    obtain ⟨rep, v⟩ := answer
    dsimp -zeta only at asked same ⊢
    extract_lets c w k
    have taken : Plans l s w := asked.setHb (x := { x with resume := false }) (by rw [same])
    split
    · exact taken.setLnk
    · exact taken.holdCmd

theorem handEdge (r : Plans l s t) {forced : Bool} {e : Edge} : Plans l s (handEdge forced h e t) := by
  unfold Machine.handEdge
  extract_lets x t1 due t2
  have listed : Plans l s t1 := r.setHb
  split
  · exact listed
  · exact (listed.when listed.setHb).linkEdge

theorem planOn (r : Plans l s t) {forced to_ : Bool} {w : Int} : Plans l s (planOn forced h to_ n w t) := by
  unfold Machine.planOn
  extract_lets t1 x
  have handed : Plans l s t1 := r.handEdge
  rcases x.lows.headD _ with ⟨c, stamps⟩
  dsimp only
  split
  · exact handed
  · exact handed.setHb

theorem crossing (r : Plans l s t) {to_ : Bool} {a w : Int} : Plans l s (crossing h to_ a w t) := by
  unfold Machine.crossing
  refine planOn ?_
  split
  · exact r.handEdge
  · exact r.when r.setHb

/-! Intervals and points (R148, R154, R155): the carry and the flags of the half-bridge alone may read differently. -/

theorem executeInterval (r : Plans l s t) {to_ : Bool} {a extra w : Int} :
    Plans l s (executeInterval h to_ a extra w t) := r.crossing.setHb

theorem dropInterval (r : Plans l s t) : Plans l s (dropInterval h t) := r.setHb

section
variable (acc : Reg.PGN_ACC h ∈ l) (flags : Reg.PGN_HEVT h ∈ l)
include acc flags

theorem setAcc (r : Plans l s t) {a : Int} : Plans l s (setAcc h a t) := (r.wrI acc).setB flags

theorem openInterval (r : Plans l s t) {to_ : Bool} {pos a : Int} : Plans l s (openInterval h pos to_ a t) := by
  have unowed : ∀ c, Plans l s (Machine.when c (Machine.wrI (Reg.PGN_ACC h) 0) t) := fun c => r.when (r.wrI acc)
  have short : Plans l s (Machine.setB (Reg.PGN_HEVT h) Reg.PGN_HEVT_SHORT true t) := r.setB flags
  unfold Machine.openInterval
  extract_lets sign dt minp add
  split
  · exact (unowed _).executeInterval
  · extract_lets w w'
    split
    · exact (unowed _).executeInterval
    · split
      · exact (short.setAcc acc flags).dropInterval
      · split
        · exact short.dropInterval
        · exact short.executeInterval
      · exact short.dropInterval

theorem intervalEnd (r : Plans l s t) {a : Int} : Plans l s (intervalEnd h a t).2 := by
  unfold Machine.intervalEnd
  extract_lets x
  split
  · exact r
  · split
    · exact r
    · exact r.when (r.setAcc acc flags)

theorem planPointAt (r : Plans l s t) {to_ : Bool} {pos a : Int} : Plans l s (planPointAt h pos to_ a t) := by
  have planned : Plans l s (Machine.setHb h { hbOf h t with planned := pos } t) := r.setHb
  unfold Machine.planPointAt
  extract_lets x t1 _ t2
  have low : Plans l s t2 := planned.executeInterval.setHb
  split
  · split
    · exact planned.setHb
    · exact planned
  · split
    · exact planned
    · split
      · split
        · exact (low.intervalEnd acc flags).openInterval acc flags
        · exact low
      · exact (planned.intervalEnd acc flags).openInterval acc flags

theorem planPoint (r : Plans l s t) {to_ : Bool} {pos : Int} : Plans l s (planPoint h pos to_ t) :=
  r.planPointAt acc flags

/-- The points of a half-bridge that its carrier's next point is behind (R165). -/
theorem planRest (r : Plans l s t) : Plans l s (planRest h t) := by
  unfold Machine.planRest
  extract_lets f
  have next : ∀ u, Plans l s u → Plans l s (f u) := by
    intro u hu
    unfold f
    split
    · exact hu
    · exact hu.planPoint acc flags
  split
  · exact next _ (next _ (next _ r))
  · exact r

/-- The points of a half-bridge that a change of sets is behind (R166). -/
theorem planBefore (r : Plans l s t) {a : Int} : Plans l s (planBefore h a t) := by
  unfold Machine.planBefore
  extract_lets f
  have next : ∀ u, Plans l s u → Plans l s (f u) := by
    intro u hu
    unfold f
    split
    · exact hu
    · split
      · exact hu.planPoint acc flags
      · exact hu
  split
  · exact next _ (next _ (next _ r))
  · exact r

theorem planFirst (r : Plans l s t) {a : Int} : Plans l s (planFirst h a t) := by
  unfold Machine.planFirst
  extract_lets c x points
  split
  · exact r.when (r.planPointAt acc flags)
  · exact r

end

end Plans

/-! A point that the planner reaches (R146, R148). -/

/-- The registers that the planning of a half-bridge may change: its carry and its flags. -/
def planRegs (h : Nat) : List Nat := [Reg.PGN_ACC h, Reg.PGN_HEVT h]

/-- The registers that show where a carrier stands (R171). -/
def showRegs (c : Nat) : List Nat := [Reg.PGN_CPOS c, Reg.PGN_CPER c, Reg.PGN_CSTAT c]

theorem hbCarrier_lt (h : Nat) (s : State) : hbCarrier h s < 16 := fldGet_lt ..

theorem carShow_plans (c : Nat) (s : State) : Plans (showRegs c) s (carShow c s) := by
  unfold carShow
  exact .wrI (.wrI (.setF (.refl _ s) (by simp [showRegs])) (by simp [showRegs])) (by simp [showRegs])

theorem hbOf_carShow (h c : Nat) (s : State) : hbOf h (carShow c s) = hbOf h s := rfl

/-- The state in which a point of a half-bridge is taken: it is planned. -/
def pointTaken (h : Nat) (pos : Int) (s : State) : State := setHb h { hbOf h s with planned := pos } s

theorem hbOf_pointTaken (h : Nat) (pos : Int) (s : State) :
    hbOf h (pointTaken h pos s) = { hbOf h s with planned := pos } := (hbOf_setHb ..).trans (if_pos rfl)

theorem pointTaken_plans (l : List Nat) (h : Nat) (pos : Int) (s : State) : Plans l s (pointTaken h pos s) := (Plans.refl l s).setHb

/-- Without a refresh under way, the crossing that the planner reaches is the next point of the carrier. -/
theorem edgePlan_of_point {h : Nat} {pos : Int} {to_ : Bool} {s : State} (runs : hbRuns h s = true)
    (next : nextPoint h s = some (pos, to_)) (reached : posTime (hbCarrier h s) pos s ≤ planAt (hbCarrier h s) s)
    (whole : (hbOf h s).back = none) : edgePlan h s = carShow (hbCarrier h s) (planPoint h pos to_ s) := by
  have alone : ∀ a, backDue h a s = none := fun a => by
    unfold backDue
    rw [whole]
  unfold edgePlan
  rw [if_pos runs]
  simp only [alone, next]
  exact if_pos reached

/-- A point that commands the side already planned is no crossing. -/
theorem planPoint_of_same {h : Nat} {pos : Int} {to_ : Bool} {s : State} (same : (hbOf h s).side = some to_)
    (conducts : (hbOf h s).drop = false) : planPoint h pos to_ s = pointTaken h pos s := by
  unfold planPoint planPointAt
  exact (if_pos same).trans (if_neg (by simp [conducts]))

/-- From no side a point opens an interval at its own time. -/
theorem planPoint_of_idle {h : Nat} {pos : Int} {to_ : Bool} {s : State} (idle : (hbOf h s).side = none)
    (begun : (hbOf h s).lowFirst = false) :
    planPoint h pos to_ s = openInterval h pos to_ (posTime (hbCarrier h s) pos s) (pointTaken h pos s) := by
  have now : ∀ a, intervalEnd h a (pointTaken h pos s) = (a, pointTaken h pos s) := fun a => by
    unfold intervalEnd
    simp only [hbOf_pointTaken, idle]
  have opens : planPoint h pos to_ s = openInterval h pos to_
      (intervalEnd h (posTime (hbCarrier h s) pos s) (pointTaken h pos s)).1
      (intervalEnd h (posTime (hbCarrier h s) pos s) (pointTaken h pos s)).2 := by
    unfold planPoint planPointAt
    exact (if_neg (by simp [idle])).trans ((if_neg (by simp [idle])).trans (if_neg (by simp [begun])))
  rw [opens, now]

/-- The compare in use, and so the requested end, does not depend on what is planned (R155). -/
theorem requestedEnd_pointTaken (h : Nat) (p pos : Int) (to_ : Bool) (s : State) :
    requestedEnd h pos to_ (pointTaken h p s) = requestedEnd h pos to_ s := by
  have compare : cmpNow h (pointTaken h p s) = cmpNow h s := by
    unfold cmpNow
    rw [hbOf_pointTaken]
    rfl
  unfold requestedEnd
  rw [compare]
  rfl

/-! Intervals that a point opens (R149, R154). -/

/-- An interval without a requested end executes, and what it was owed is paid. -/
theorem openInterval_of_unbounded {h : Nat} {pos : Int} {to_ : Bool} {s : State} (unbounded : requestedEnd h pos to_ s = none)
    (a : Int) : openInterval h pos to_ a s = executeInterval h to_ a (max 0 (sideSign to_ * accOf h s)) (2 ^ 32)
      (when (decide (0 < sideSign to_ * accOf h s)) (wrI (Reg.PGN_ACC h) 0) s) := by
  unfold openInterval
  rw [unbounded]

/-- An interval too short to execute, with nothing owed to it and neither carry nor lengthening, is dropped with SHORT. -/
theorem openInterval_of_short {h : Nat} {pos e a : Int} {to_ : Bool} {s : State} (bounded : requestedEnd h pos to_ s = some e)
    (even : accOf h s = 0) (drops : fl (Reg.PGN_HCFG h) Reg.PGN_HCFG_MODE s = 2)
    (short : e - a - deadTime h to_ s < minpOf h s) :
    openInterval h pos to_ a s = dropInterval h (setB (Reg.PGN_HEVT h) Reg.PGN_HEVT_SHORT true s) := by
  have other : Reg.PGN_HCFG h ≠ Reg.PGN_HEVT h := by
    unfold Reg.PGN_HCFG Reg.PGN_HEVT
    omega
  have mode : fl (Reg.PGN_HCFG h) Reg.PGN_HCFG_MODE (setB (Reg.PGN_HEVT h) Reg.PGN_HEVT_SHORT true s) = 2 :=
    (fl_setF_ne other ..).trans drops
  unfold openInterval
  simp only [bounded, even, mode]
  refine if_neg ?_
  simp only [Int.mul_zero, max_self, Int.add_zero, Bool.and_eq_true, decide_eq_true_eq]
  omega

/-- On a direct leg an edge only joins those that are planned. -/
theorem handEdge_of_direct {h : Nat} (direct : isDirect h = true) (forced : Bool) (e : Edge) (s : State) :
    handEdge forced h e s = setHb h { hbOf h s with edges := (hbOf h s).edges ++ [e] } s := if_pos direct

theorem planOn_of_direct {h : Nat} (direct : isDirect h = true) (forced to_ : Bool) (n : Nat) (w : Int) (s : State) :
    (hbOf h (planOn forced h to_ n w s)).edges = (hbOf h s).edges ++ [⟨n, to_, true, w⟩] ∧
    (hbOf h (planOn forced h to_ n w s)).planned = (hbOf h s).planned := by
  unfold planOn
  rw [handEdge_of_direct direct]
  cases to_ <;> simp

/-- Where no switch of a direct leg conducts, a crossing plans the turn-on alone, after its dead time (R149, R167). -/
theorem crossing_of_idle {h : Nat} {s : State} (direct : isDirect h = true) (idle : (hbOf h s).side = none) (to_ : Bool)
    (a w : Int) : (hbOf h (crossing h to_ a w s)).edges
      = (hbOf h s).edges ++ [⟨(a + deadTime h to_ s).toNat, to_, true, w⟩] ∧
    (hbOf h (crossing h to_ a w s)).planned = (hbOf h s).planned := by
  have starts : crossing h to_ a w s = planOn false h to_ (a + deadTime h to_ s).toNat w
      (setHb h { hbOf h s with pAt := some (a.toNat + 8, to_) } s) := by
    unfold crossing
    simp only [idle, direct, when, if_true]
    rfl
  obtain ⟨edges, planned⟩ := planOn_of_direct direct false to_ (a + deadTime h to_ s).toNat w
    (setHb h { hbOf h s with pAt := some (a.toNat + 8, to_) } s)
  rw [starts, edges, planned]
  simp

theorem executeInterval_of_idle {h : Nat} {s : State} (direct : isDirect h = true) (idle : (hbOf h s).side = none) (to_ : Bool)
    (a extra w : Int) : (hbOf h (executeInterval h to_ a extra w s)).edges
      = (hbOf h s).edges ++ [⟨(a + deadTime h to_ s).toNat, to_, true, w⟩] ∧
    (hbOf h (executeInterval h to_ a extra w s)).side = some to_ ∧
    (hbOf h (executeInterval h to_ a extra w s)).planned = (hbOf h s).planned ∧
    (hbOf h (executeInterval h to_ a extra w s)).drop = false := by
  obtain ⟨edges, planned⟩ := crossing_of_idle direct idle to_ a w
  unfold executeInterval
  simp [edges, planned]

/-- The dead time is no part of what planning changes. -/
theorem Plans.deadTime {h : Nat} {s t : State} (r : Plans (planRegs h) s t) (hi : Bool) : deadTime h hi t = deadTime h hi s := by
  have high : rdW (Reg.PGN_DTH h) t = rdW (Reg.PGN_DTH h) s := r.regs _ (by
    simp only [planRegs, List.mem_cons, List.not_mem_nil, or_false, Reg.PGN_DTH, Reg.PGN_ACC, Reg.PGN_HEVT]
    omega)
  have low : rdW (Reg.PGN_DTL h) t = rdW (Reg.PGN_DTL h) s := r.regs _ (by
    simp only [planRegs, List.mem_cons, List.not_mem_nil, or_false, Reg.PGN_DTL, Reg.PGN_ACC, Reg.PGN_HEVT]
    omega)
  unfold Machine.deadTime dthOf dtlOf rd
  rw [high, low]

/-- On a direct leg of which no switch conducts, an interval without a requested end plans its turn-on alone (R149, R154). -/
theorem openInterval_of_idle {h : Nat} {pos : Int} {to_ : Bool} {s : State} (direct : isDirect h = true)
    (idle : (hbOf h s).side = none) (unbounded : requestedEnd h pos to_ s = none) (a : Int) :
    (hbOf h (openInterval h pos to_ a s)).edges
      = (hbOf h s).edges ++ [⟨(a + deadTime h to_ s).toNat, to_, true, 2 ^ 32⟩] ∧
    (hbOf h (openInterval h pos to_ a s)).side = some to_ ∧
    (hbOf h (openInterval h pos to_ a s)).planned = (hbOf h s).planned ∧
    (hbOf h (openInterval h pos to_ a s)).drop = false := by
  rw [openInterval_of_unbounded unbounded]
  generalize paid : when _ _ s = u
  have owes : Plans (planRegs h) s u := paid ▸ (Plans.refl _ s).when ((Plans.refl _ s).wrI (by simp [planRegs]))
  have same : hbOf h u = hbOf h s := by
    rw [← paid]
    unfold when
    split <;> rfl
  have executes := executeInterval_of_idle (s := u) direct (by rw [same, idle]) to_ a
    (max 0 (sideSign to_ * accOf h s)) (2 ^ 32)
  rwa [same, owes.deadTime] at executes

/-! O24, clause by clause: points of a running half-bridge (R146-R149, R154). -/

theorem exec_edgePlan_same {hb : Fin 104} {pos : Int} {to_ : Bool} {s : State} (runs : hbRuns hb s = true)
    (next : nextPoint hb s = some (pos, to_)) (reached : posTime (hbCarrier hb s) pos s ≤ planAt (hbCarrier hb s) s)
    (whole : (hbOf hb s).back = none) (same : (hbOf hb s).side = some to_) (conducts : (hbOf hb s).drop = false) :
    exec (.edgePlan hb) s = .next (carShow (hbCarrier hb s) (setHb hb { hbOf hb s with planned := pos } s)) := by
  refine congrArg Host.Outcome.next ?_
  rw [edgePlan_of_point runs next reached whole, planPoint_of_same same conducts]
  rfl

theorem exec_edgePlan_unbounded {hb : Fin 104} {pos : Int} {to_ : Bool} {s : State} (direct : 96 ≤ hb.val)
    (runs : hbRuns hb s = true) (next : nextPoint hb s = some (pos, to_))
    (reached : posTime (hbCarrier hb s) pos s ≤ planAt (hbCarrier hb s) s) (whole : (hbOf hb s).back = none)
    (idle : (hbOf hb s).side = none) (begun : (hbOf hb s).lowFirst = false) (unbounded : requestedEnd hb pos to_ s = none) :
    ∃ t, exec (.edgePlan hb) s = .next t ∧ (hbOf hb t).edges = (hbOf hb s).edges
        ++ [Edge.mk (posTime (hbCarrier hb s) pos s + deadTime hb to_ s).toNat to_ true (2 ^ 32)] ∧
      (hbOf hb t).side = some to_ ∧ (hbOf hb t).planned = pos ∧ (hbOf hb t).drop = false ∧ t.mem = s.mem ∧ t.evt = s.evt := by
  have plan := edgePlan_of_point runs next reached whole
  rw [planPoint_of_idle idle begun] at plan
  refine ⟨_, congrArg Host.Outcome.next plan, ?_⟩
  have taken := hbOf_pointTaken hb pos s
  obtain ⟨edges, side, planned, drop⟩ := openInterval_of_idle (s := pointTaken hb pos s) (by simp [isDirect, direct])
    (by rw [taken]; exact idle) ((requestedEnd_pointTaken ..).trans unbounded) (posTime (hbCarrier hb s) pos s)
  have opened : Plans (planRegs hb) s (openInterval hb pos to_ (posTime (hbCarrier hb s) pos s) (pointTaken hb pos s)) :=
    (pointTaken_plans ..).openInterval (by simp [planRegs]) (by simp [planRegs])
  have shown := carShow_plans (hbCarrier hb s)
    (openInterval hb pos to_ (posTime (hbCarrier hb s) pos s) (pointTaken hb pos s))
  rw [taken] at edges planned
  rw [hbOf_carShow]
  exact ⟨edges, side, planned, drop, shown.mem.trans opened.mem, shown.evt.trans opened.evt⟩

theorem exec_edgePlan_short {hb : Fin 104} {pos e : Int} {to_ : Bool} {s : State} (runs : hbRuns hb s = true)
    (next : nextPoint hb s = some (pos, to_)) (reached : posTime (hbCarrier hb s) pos s ≤ planAt (hbCarrier hb s) s)
    (whole : (hbOf hb s).back = none) (idle : (hbOf hb s).side = none) (begun : (hbOf hb s).lowFirst = false)
    (bounded : requestedEnd hb pos to_ s = some e) (even : accOf hb s = 0)
    (drops : fl (Reg.PGN_HCFG hb) Reg.PGN_HCFG_MODE s = 2)
    (short : e - posTime (hbCarrier hb s) pos s - deadTime hb to_ s < minpOf hb s) :
    ∃ t, exec (.edgePlan hb) s = .next t ∧ on (Reg.PGN_HEVT hb) Reg.PGN_HEVT_SHORT t = true ∧
      (hbOf hb t).edges = (hbOf hb s).edges ∧ (hbOf hb t).drop = true ∧ (hbOf hb t).side = none ∧ t.out = s.out ∧
      t.mem = s.mem := by
  have plan := edgePlan_of_point runs next reached whole
  rw [planPoint_of_idle idle begun, openInterval_of_short (s := pointTaken hb pos s)
    ((requestedEnd_pointTaken ..).trans bounded) even drops short] at plan
  refine ⟨_, congrArg Host.Outcome.next plan, ?_⟩
  generalize dropped : dropInterval hb _ = u
  have drop : hbOf hb u = { hbOf hb s with planned := pos, drop := true, extra := 0 } := by
    rw [← dropped]
    refine (hbOf_setHb ..).trans ((if_pos rfl).trans ?_)
    show { hbOf hb (pointTaken hb pos s) with drop := true, extra := 0 } = _
    rw [hbOf_pointTaken]
  have flag : on (Reg.PGN_HEVT hb) Reg.PGN_HEVT_SHORT u = true := dropped ▸ on_setB _ _ (by decide) (by decide) true _
  have shown := carShow_plans (hbCarrier hb s) u
  have carrier := hbCarrier_lt hb s
  have apart : rdW (Reg.PGN_HEVT hb) (carShow (hbCarrier hb s) u) = rdW (Reg.PGN_HEVT hb) u := shown.regs _ (by
    simp only [showRegs, List.mem_cons, List.not_mem_nil, or_false, Reg.PGN_HEVT, Reg.PGN_CPOS, Reg.PGN_CPER, Reg.PGN_CSTAT]
    omega)
  rw [hbOf_carShow, drop]
  refine ⟨?_, rfl, rfl, idle, shown.out.trans ?_, shown.mem.trans ?_⟩
  · rw [← flag]
    unfold on fl
    rw [apart]
  · rw [← dropped]; rfl
  · rw [← dropped]; rfl

/-! Refresh and resumption (R156, R160). -/

/-- A low-side turn-on that is planned counts in the period in progress (R156). -/
theorem planOn_lowRan (forced : Bool) (h n : Nat) (w : Int) (s : State) : (hbOf h (planOn forced h false n w s)).lowRan = true := by
  unfold planOn HbSt.lowRan
  simp

/-- The refresh of a half-bridge whose high side turns off at `a` (R156). -/
theorem refreshEdges_spec (forced : Bool) (h : Nat) (a : Int) (s : State) :
    (hbOf h (refreshEdges forced h a s)).rf = some (a, a + dtlOf h s + bswOf h s + dthOf h s) ∧
    (hbOf h (refreshEdges forced h a s)).back = some (a + dtlOf h s + bswOf h s, forced) ∧
    (hbOf h (refreshEdges forced h a s)).lowRan = true ∧ (hbOf h (refreshEdges forced h a s)).refresh = false ∧
    on (Reg.PGN_HEVT h) Reg.PGN_HEVT_REFRESH (refreshEdges forced h a s) = true ∧ (refreshEdges forced h a s).mem = s.mem := by
  have planned : Plans [] s (planOn forced h false (a + dtlOf h s).toNat 0 (handEdge forced h ⟨a.toNat, true, false, 0⟩ s)) :=
    (Plans.refl [] s).handEdge.planOn
  have low := planOn_lowRan forced h (a + dtlOf h s).toNat 0 (handEdge forced h ⟨a.toNat, true, false, 0⟩ s)
  unfold refreshEdges
  dsimp only
  generalize planOn forced h false _ 0 _ = u at planned low
  have dead : dthOf h u = dthOf h s := congrArg (fun w : Word => w.toNat % 2 ^ 17) (planned.regs _ List.not_mem_nil)
  rw [dead]
  have result : ∀ b x, hbOf h (setB (Reg.PGN_HEVT h) Reg.PGN_HEVT_REFRESH b (setHb h x u)) = x := fun b x =>
    (hbOf_setHb ..).trans (if_pos rfl)
  rw [result]
  exact ⟨rfl, rfl, low, rfl, on_setB _ _ (by decide) (by decide) true _, planned.mem⟩

theorem refreshNow_of_due {h : Nat} {s : State} (runs : hbRuns h s = true) (due : (hbOf h s).refresh = true)
    (reached : refreshStart h s ≤ planAt (hbCarrier h s) s) : refreshNow h s = if (hbOf h s).side = some true
      then refreshEdges false h (refreshStart h s) s else setHb h { hbOf h s with refresh := false } s :=
  if_pos (by simp [runs, due, reached])

theorem rdI_wrI (a : Nat) (x : Int) (s : State) : rdI a (wrI a x s) = (BitVec.ofInt 32 x).toInt :=
  congrArg BitVec.toInt ((rdW_wrW ..).trans (if_pos rfl))

/-- A resumption: the half-bridge runs from the period start on, from no side and with nothing owed (R160). -/
def resumed (h : Nat) (s : State) : State :=
  wrI (Reg.PGN_ACC h) 0 (setF (Reg.PGN_HSTAT h) Reg.PGN_HSTAT_STATE 0 (setHb h { hbOf h s with
    side := none
    planned := (carOf (hbCarrier h s) s).start - 1
    extra := 0
    minEnd := 0
    drop := false
    rf := none
    lowFirst := bsnOf h s != 0 && decide (bsnOf h s ≤ (hbOf h s).heldPer)
    resume := true
    heldPer := 0 } s))

theorem resumed_bridge (h : Nat) (s : State) : (hbOf h (resumed h s)).side = none ∧
    (hbOf h (resumed h s)).planned = (carOf (hbCarrier h s) s).start - 1 ∧
    (hbOf h (resumed h s)).edges = (hbOf h s).edges := by
  have stands : ∀ x, hbOf h (wrI (Reg.PGN_ACC h) 0 (setF (Reg.PGN_HSTAT h) Reg.PGN_HSTAT_STATE 0 (setHb h x s))) = x :=
    fun x => (hbOf_setHb h h x s).trans (if_pos rfl)
  unfold resumed
  rw [stands]
  exact ⟨rfl, rfl, rfl⟩

theorem resumed_spec (h : Nat) (s : State) : hbState h (resumed h s) = 0 ∧ rdI (Reg.PGN_ACC h) (resumed h s) = 0 ∧
    Plans [Reg.PGN_HSTAT h, Reg.PGN_ACC h] s (resumed h s) := by
  have apart : Reg.PGN_HSTAT h ≠ Reg.PGN_ACC h := by
    unfold Reg.PGN_HSTAT Reg.PGN_ACC
    omega
  refine ⟨?_, (rdI_wrI ..).trans (by decide), .wrI (.setF (Plans.refl _ s).setHb (by simp)) (by simp)⟩
  unfold hbState fl resumed wrI
  rw [rdW_wrW, if_neg apart]
  exact fl_setF _ _ (by decide) 0 _

end Sys2Proof.Machine
end

section
/-! SUPPORT. The load points of a carrier (R141, R142, R165), and O24. -/

namespace Sys2Proof.Machine

/-- A fold reaches what one of its steps reaches and no step undoes, where each step keeps what that one needs. -/
theorem each_reaches {α : Type} {I P : State → Prop} {f : α → State → State} {l : List α} {x : α} {s : State} (start : I s)
    (stand : ∀ y ∈ l, ∀ u, I u → I (f y u)) (mem : x ∈ l) (reach : ∀ u, I u → P (f x u))
    (keep : ∀ y ∈ l, ∀ u, P u → P (f y u)) : P (each l f s) := by
  obtain ⟨front, rest, rfl⟩ := List.append_of_mem mem
  have before : I (each front f s) := each_induct start (fun y hy => stand y (by simp [hy]))
  have split : each (front ++ x :: rest) f s = each rest f (f x (each front f s)) := List.foldl_append
  rw [split]
  exact each_induct (reach _ before) (fun y hy => keep y (by simp [hy]))

/-- The registers that the half-bridges of a carrier may change at one of its points. -/
def bridgeRegs : List Nat :=
  (List.range 104).flatMap (fun h => [Reg.PGN_ACC h, Reg.PGN_HEVT h, Reg.PGN_CMPA h, Reg.PGN_HSTAT h])

theorem mem_bridgeRegs {a : Nat} : a ∈ bridgeRegs ↔
    ∃ h < 104, a = Reg.PGN_ACC h ∨ a = Reg.PGN_HEVT h ∨ a = Reg.PGN_CMPA h ∨ a = Reg.PGN_HSTAT h := by
  simp [bridgeRegs]

theorem acc_mem_bridgeRegs {h : Nat} (hh : h < 104) : Reg.PGN_ACC h ∈ bridgeRegs := mem_bridgeRegs.2 ⟨h, hh, .inl rfl⟩

theorem flags_mem_bridgeRegs {h : Nat} (hh : h < 104) : Reg.PGN_HEVT h ∈ bridgeRegs :=
  mem_bridgeRegs.2 ⟨h, hh, .inr (.inl rfl)⟩

theorem cmpa_mem_bridgeRegs {h : Nat} (hh : h < 104) : Reg.PGN_CMPA h ∈ bridgeRegs :=
  mem_bridgeRegs.2 ⟨h, hh, .inr (.inr (.inl rfl))⟩

theorem hstat_mem_bridgeRegs {h : Nat} (hh : h < 104) : Reg.PGN_HSTAT h ∈ bridgeRegs :=
  mem_bridgeRegs.2 ⟨h, hh, .inr (.inr (.inr rfl))⟩

theorem lt_of_mem_hbsOfCar {c h : Nat} {s : State} (mem : h ∈ hbsOfCar c s) : h < 104 :=
  List.mem_range.1 (List.mem_filter.1 mem).1

/-- No register of a carrier is one of a half-bridge. -/
theorem not_mem_bridgeRegs_of_carrier {a : Nat} (low : a < 0x40052000) : a ∉ bridgeRegs := by
  rw [mem_bridgeRegs]
  rintro ⟨h, -, e | e | e | e⟩
  all_goals
    simp only [Reg.PGN_ACC, Reg.PGN_HEVT, Reg.PGN_CMPA, Reg.PGN_HSTAT] at e
    omega

/-- The mode of a carrier stands while half-bridges are planned. -/
theorem Plans.carMode {c : Nat} {s t : State} (r : Plans bridgeRegs s t) (hc : c < 16) : carMode c t = carMode c s := by
  have set : carSet c t = carSet c s := congrArg (fldGet _) (r.regs _ (not_mem_bridgeRegs_of_carrier (by
    unfold Reg.PGN_CSTAT
    omega)))
  have small : carSet c s < 4 := fldGet_lt ..
  unfold Machine.carMode
  rw [set]
  refine r.regs _ (not_mem_bridgeRegs_of_carrier ?_)
  unfold Reg.PGN_KMODE
  omega

theorem Plans.carTri {c : Nat} {s t : State} (r : Plans bridgeRegs s t) (hc : c < 16) : carTri c t = carTri c s := by
  unfold Machine.carTri carShape
  rw [r.carMode hc]

/-- The half-bridges of a carrier have planned every point before the carrier's next. -/
theorem planRest_plans (c : Nat) (s : State) : Plans bridgeRegs s (each (hbsOfCar c s) planRest s) :=
  (Plans.refl _ s).each (fun _ hh _ hu =>
    hu.planRest (acc_mem_bridgeRegs (lt_of_mem_hbsOfCar hh)) (flags_mem_bridgeRegs (lt_of_mem_hbsOfCar hh)))

/-- A half-bridge has its ready compare in use (R141). -/
def Loaded (h : Nat) (s : State) : Prop :=
  (hbOf h s).dr = (hbOf h s).ready ∧ (hbOf h s).df = (hbOf h s).ready ∧ rd (Reg.PGN_CMPA h) s = (hbOf h s).ready % 2 ^ 32

theorem loadCompare_plans {l : List Nat} {h : Nat} (hl : Reg.PGN_CMPA h ∈ l) {s t : State} (r : Plans l s t) :
    Plans l s (loadCompare 1 false h t) := (r.setHb (x := { hbOf h t with
      dr := (hbOf h t).ready, df := (hbOf h t).ready, refU := (hbOf h t).refR })).wr hl

theorem hbOf_loadCompare (j h : Nat) (s : State) : hbOf j (loadCompare 1 false h s) = if j = h then
    { hbOf h s with dr := (hbOf h s).ready, df := (hbOf h s).ready, refU := (hbOf h s).refR } else hbOf j s := hbOf_setHb ..

/-- Load code 1 puts the ready compare of a half-bridge into use, and leaves the others. -/
theorem loaded_loadCompare {j h : Nat} {s : State} (before : j = h ∨ Loaded j s) : Loaded j (loadCompare 1 false h s) := by
  unfold Loaded
  rw [hbOf_loadCompare]
  by_cases same : j = h
  · subst same
    rw [if_pos rfl]
    exact ⟨rfl, rfl, (rd_wr ..).trans (if_pos rfl)⟩
  · obtain ⟨dr, df, shown⟩ := before.resolve_left same
    have apart : Reg.PGN_CMPA j ≠ Reg.PGN_CMPA h := by
      unfold Reg.PGN_CMPA
      omega
    rw [if_neg same]
    exact ⟨dr, df, (rd_wr ..).trans ((if_neg apart).trans shown)⟩

theorem periodStart_plans {l : List Nat} {h : Nat} (hl : Reg.PGN_HSTAT h ∈ l) {s t : State} (r : Plans l s t) :
    Plans l s (periodStart h t) := by
  unfold periodStart
  exact (r.setF hl).setHb

/-- A period start leaves the compares in use. -/
theorem loaded_periodStart {j h : Nat} {s : State} (loaded : Loaded j s) : Loaded j (periodStart h s) := by
  have apart : Reg.PGN_CMPA j ≠ Reg.PGN_HSTAT h := by
    unfold Reg.PGN_CMPA Reg.PGN_HSTAT
    omega
  obtain ⟨dr, df, shown⟩ := loaded
  have word : rd (Reg.PGN_CMPA j) (periodStart h s) = rd (Reg.PGN_CMPA j) s := congrArg BitVec.toNat (rdW_setF_ne apart ..)
  have compares : (hbOf j (periodStart h s)).ready = (hbOf j s).ready ∧ (hbOf j (periodStart h s)).dr = (hbOf j s).dr ∧
      (hbOf j (periodStart h s)).df = (hbOf j s).df := by
    unfold periodStart
    dsimp only
    rw [hbOf_setHb]
    split
    · rename_i same
      rw [same]
      exact ⟨rfl, rfl, rfl⟩
    · exact ⟨rfl, rfl, rfl⟩
  obtain ⟨ready, use, fall⟩ := compares
  unfold Loaded
  rw [ready, use, fall, word]
  exact ⟨dr, df, shown⟩

/-- Half-bridges whose period starts with load code 1 have their ready compares in use. -/
theorem periodStarted_spec {l : List Nat} (hl : ∀ h ∈ l, h < 104) (s : State) :
    Plans bridgeRegs s (each l periodStart (each l (loadCompare 1 false) s)) ∧
    ∀ h ∈ l, Loaded h (each l periodStart (each l (loadCompare 1 false) s)) := by
  have loads : Plans bridgeRegs s (each l (loadCompare 1 false) s) :=
    (Plans.refl _ s).each (fun h hh _ hu => loadCompare_plans (cmpa_mem_bridgeRegs (hl h hh)) hu)
  refine ⟨loads.each (fun h hh _ hu => periodStart_plans (hstat_mem_bridgeRegs (hl h hh)) hu), fun h hh => ?_⟩
  have loaded : Loaded h (each l (loadCompare 1 false) s) := each_reaches (I := fun _ => True) trivial (fun _ _ _ => id) hh
    (fun _ _ => loaded_loadCompare (.inl rfl)) (fun _ _ _ hu => loaded_loadCompare (.inr hu))
  exact each_induct loaded (fun _ _ _ hu => loaded_periodStart hu)

/-- A sawtooth carrier's period start without a change of sets: its half-bridges have planned the points before it, take their
compares, and their next period starts. -/
theorem carPoint_of_sawtooth {c : Nat} {s : State} (hc : c < 16) (configured : s.configured = true) (used : carUsed c s = true)
    (reached : posTime c (carBoundary c s) s ≤ planAt c s) (kept : setDue c s = false) (saw : carTri c s = false)
    (load : carLoad c s = 1) : carPoint c s = carShow c (each (hbsOfCar c s) periodStart
      (each (hbsOfCar c s) (loadCompare 1 false) (carAdvance c (each (hbsOfCar c s) planRest s)))) := by
  have rest := planRest_plans c s
  have mode := rest.carMode hc
  have saw' : carTri c (each (hbsOfCar c s) planRest s) = false := (rest.carTri hc).trans saw
  have load' : ∀ x, carLoad c (setCar c x (each (hbsOfCar c s) planRest s)) = 1 := fun x => by
    rw [← load]
    exact congrArg (fldGet Reg.PGN_KMODE_LOAD) mode
  unfold carPoint
  rw [if_pos (by simp [configured, used, reached]), kept]
  simp only [Bool.false_eq_true, if_false, saw', Bool.false_and, Bool.not_false]
  unfold carAdvance
  simp only [saw', Bool.false_and, Bool.false_eq_true, if_false, load']
  rfl

/-- A sawtooth carrier goes on to its next period. -/
theorem carAdvance_of_sawtooth {c : Nat} {s : State} (saw : carTri c s = false) :
    (carOf c (carAdvance c s)).k = (carOf c s).k + 1 ∧ (carOf c (carAdvance c s)).start = (carOf c s).stop ∧
    (carAdvance c s).hb = s.hb ∧ (carAdvance c s).mem = s.mem := by
  unfold carAdvance
  simp only [saw, Bool.false_and, Bool.false_eq_true, if_false]
  unfold carOf setCar
  rw [Tbl.get_put_same]
  exact ⟨rfl, rfl, rfl, rfl⟩

theorem exec_carrierLoadPoint_sawtooth {c : Fin 16} {s : State} (configured : s.configured = true)
    (used : carUsed c s = true) (reached : posTime c (carBoundary c s) s ≤ planAt c s) (kept : setDue c s = false)
    (saw : carTri c s = false) (load : carLoad c s = 1) : ∃ t, exec (.carrierLoadPoint c) s = .next t ∧
      (carOf c t).k = (carOf c s).k + 1 ∧ (carOf c t).start = (carOf c s).stop ∧
      (∀ h ∈ hbsOfCar c s, (hbOf h t).dr = (hbOf h s).ready ∧ (hbOf h t).df = (hbOf h s).ready ∧
        rd (Reg.PGN_CMPA h) t = (hbOf h s).ready % 2 ^ 32) ∧ t.mem = s.mem := by
  refine ⟨_, congrArg Host.Outcome.next (carPoint_of_sawtooth c.isLt configured used reached kept saw load), ?_⟩
  have rest := planRest_plans c s
  generalize each (hbsOfCar c s) planRest s = u at rest
  obtain ⟨next, start, hb, mem⟩ := carAdvance_of_sawtooth ((rest.carTri c.isLt).trans saw)
  generalize carAdvance c u = v at next start hb mem
  obtain ⟨starts, loaded⟩ := periodStarted_spec (l := hbsOfCar c s) (fun _ => lt_of_mem_hbsOfCar) v
  generalize each (hbsOfCar c s) periodStart _ = w at starts loaded
  have shown := carShow_plans c w
  have car : (carShow c w).car = v.car := shown.car.trans starts.car
  have carOf_eq : carOf c (carShow c w) = carOf c v := by
    unfold carOf
    rw [car]
  have stood : carOf c u = carOf c s := by
    unfold carOf
    rw [rest.car]
  refine ⟨by rw [carOf_eq, next, stood], by rw [carOf_eq, start, stood], fun h hh => ?_,
    shown.mem.trans (starts.mem.trans (mem.trans rest.mem))⟩
  have ready : (hbOf h w).ready = (hbOf h s).ready := by
    rw [starts.ready, ← rest.ready]
    unfold hbOf
    rw [hb]
  have word : rd (Reg.PGN_CMPA h) (carShow c w) = rd (Reg.PGN_CMPA h) w := congrArg BitVec.toNat (shown.regs _ (by
    simp only [showRegs, List.mem_cons, List.not_mem_nil, or_false, Reg.PGN_CMPA, Reg.PGN_CPOS, Reg.PGN_CPER, Reg.PGN_CSTAT]
    omega))
  obtain ⟨dr, df, cmpa⟩ := loaded h hh
  rw [hbOf_carShow, word, ← ready]
  exact ⟨dr, df, cmpa⟩

theorem exec_bootstrapRefresh_high {hb : Fin 104} {s : State} (runs : hbRuns hb s = true) (due : (hbOf hb s).refresh = true)
    (reached : refreshStart hb s ≤ planAt (hbCarrier hb s) s) (high : (hbOf hb s).side = some true) :
    exec (.bootstrapRefresh hb) s = .next (refreshEdges false hb (refreshStart hb s) s) :=
  congrArg Host.Outcome.next ((refreshNow_of_due runs due reached).trans (if_pos high))

theorem exec_bootstrapRefresh_lapses {hb : Fin 104} {s : State} (runs : hbRuns hb s = true) (due : (hbOf hb s).refresh = true)
    (reached : refreshStart hb s ≤ planAt (hbCarrier hb s) s) (off : (hbOf hb s).side ≠ some true) :
    exec (.bootstrapRefresh hb) s = .next (setHb hb { hbOf hb s with refresh := false } s) :=
  congrArg Host.Outcome.next ((refreshNow_of_due runs due reached).trans (if_neg off))

theorem exec_halfBridgeResume_freed {hb : Fin 104} {s : State} (configured : s.configured = true) (used : hbUsed hb s = true)
    (held : hbState hb s = 1) (freed : hbCause hb s = 0) (pulses : pulsesOn (hbStage hb s) s = true)
    (served : isDirect hb = true ∨ linkState (hb / 4) s = lkReady) (whole : (carOf (hbCarrier hb s) s).half = false)
    (led : ((hbOf hb s).clearAt + pleadOf (hbStage hb s) s : Nat)
      ≤ posTime (hbCarrier hb s) (carOf (hbCarrier hb s) s).start s)
    (reached : posTime (hbCarrier hb s) (carOf (hbCarrier hb s) s).start s ≤ planAt (hbCarrier hb s) s) :
    exec (.halfBridgeResume hb) s = .next (resumed hb s) := by
  have ready : (isDirect hb || linkState (hb / 4) s == lkReady) = true := by simpa using served
  refine congrArg Host.Outcome.next (if_pos ?_)
  simp only [configured, used, held, freed, pulses, ready, whole, led, reached, beq_self_eq_true, decide_true, Bool.not_false,
    Bool.and_self]

/-- Settles O24: each point and each refresh by the rule of the planner, and a load point by what its half-bridges take. -/
theorem planning : Obligations.Planning := by
  refine ⟨?same, ?unbounded, ?short, ?load, ?refresh, ?lapses, ?resumes⟩
  case same => exact fun hb pos to_ s runs next reached whole same conducts =>
    exec_edgePlan_same runs next reached whole same conducts
  case unbounded => exact fun hb pos to_ s direct runs next reached whole idle begun unbounded =>
    exec_edgePlan_unbounded direct runs next reached whole idle begun unbounded
  case short => exact fun hb pos e to_ s runs next reached whole idle begun bounded even drops short =>
    exec_edgePlan_short runs next reached whole idle begun bounded even drops short
  case load => exact fun c s configured used reached kept saw load =>
    exec_carrierLoadPoint_sawtooth configured used reached kept saw load
  case refresh => exact fun hb s runs due reached high =>
    ⟨_, exec_bootstrapRefresh_high runs due reached high, refreshEdges_spec false hb (refreshStart hb s) s⟩
  case lapses => exact fun hb s runs due reached off => exec_bootstrapRefresh_lapses runs due reached off
  case resumes =>
    intro hb s configured used held freed pulses served whole led reached
    obtain ⟨runs, even, plans⟩ := resumed_spec hb s
    obtain ⟨side, planned, edges⟩ := resumed_bridge hb s
    exact ⟨_, exec_halfBridgeResume_freed configured used held freed pulses served whole led reached, runs, side, planned, edges,
      even, plans.mem, plans.evt, plans.regs⟩

end Sys2Proof.Machine
end

section
/-! SUPPORT. Carrier-set requests (R166): what the store of the request leaves, and whether every carrier of the Stage holds the set. -/

namespace Sys2Proof.Machine

/-- The registers of the carriers read alike. -/
def CarrierWords (s t : State) : Prop := ∀ a, 0x40050000 ≤ a → a < 0x40051000 → rdW a t = rdW a s

theorem lt_of_mem_carsOf {st c : Nat} {s : State} (mem : c ∈ carsOf st s) : c < 16 :=
  List.mem_range.1 (List.mem_filter.1 mem).1

theorem CarrierWords.carsOf {s t : State} (r : CarrierWords s t) (st : Nat) : carsOf st t = carsOf st s := by
  refine List.filter_congr (fun c hc => ?_)
  have word : rdW (Reg.PGN_CCFG c) t = rdW (Reg.PGN_CCFG c) s := by
    have := List.mem_range.1 hc
    refine r _ ?_ ?_
    all_goals
      unfold Reg.PGN_CCFG
      omega
  unfold carUsed carStage on fl
  rw [word]

/-- Every carrier of a Stage holds a set valid (R166). -/
def carsHold (st set : Nat) (s : State) : Bool :=
  (carsOf st s).all (fun c => on (Reg.PGN_KMODE c set) Reg.PGN_KMODE_VALID s)

theorem CarrierWords.carsHold {s t : State} (r : CarrierWords s t) (st : Nat) {set : Nat} (small : set < 4) :
    carsHold st set t = carsHold st set s := by
  unfold Machine.carsHold
  rw [r.carsOf, Bool.eq_iff_iff, List.all_eq_true, List.all_eq_true]
  refine forall₂_congr (fun c hc => ?_)
  have word : rdW (Reg.PGN_KMODE c set) t = rdW (Reg.PGN_KMODE c set) s := by
    have := lt_of_mem_carsOf hc
    refine r _ ?_ ?_
    all_goals
      unfold Reg.PGN_KMODE
      omega
  unfold on fl
  rw [word]

theorem dropCause_pgn (c : Cause) (s : State) : (dropCause c s).pgn = s.pgn :=
  each_induct (P := fun t => t.pgn = s.pgn) rfl (fun _ _ _ same => same)

theorem endHold_pgn (a : Nat) (s : State) : (endHold a s).pgn = s.pgn := by
  unfold endHold verified
  extract_lets t
  have torn : t.pgn = s.pgn := by
    unfold t when
    split <;> rfl
  split
  · exact (dropCause_pgn _ _).trans torn
  · exact torn

theorem endHold_carriers (a : Nat) (s : State) : CarrierWords s (endHold a s) := fun b low high =>
  (endHold_unrecorded a s).regs b (by
    simp only [causeRegs, Reg.EVT_G5CAUSE, Reg.DRM_STAT, List.mem_cons, List.mem_map, List.mem_range]
    omega)

theorem wr_csetreq_carriers {st : Nat} (n : Nat) (s : State) : CarrierWords s (wr (Reg.PGN_CSETREQ st) n s) := fun a _ high =>
  rdW_wr_ne (by unfold Reg.PGN_CSETREQ; omega) n s

/-- A request for a set that every carrier holds waits for the hand-over where no lock stages it. -/
theorem carrierRequest_of_held {st v by_ : Nat} {s : State} (small : v < 4) (held : carsHold st v s = true)
    (free : shadowLock 2 st s = none) : carrierRequest st v by_ s = setB (Reg.PGN_SSTAT st) Reg.PGN_SSTAT_SETPEND true
      (setPgn st { pgnOf st s with req := some v } (wr (Reg.PGN_CSETREQ st) v s)) := by
  have valid := ((wr_csetreq_carriers (st := st) v s).carsHold st small).trans held
  unfold carsHold at valid
  unfold carrierRequest
  simp only [Nat.mod_eq_of_lt small, Nat.not_lt.2 (Nat.le_of_lt_succ small), if_false, valid, free, lockedFor]
  rfl

/-- A request for a set that a carrier does not hold is refused with code 1 and EV62. -/
theorem carrierRequest_of_unheld {st v by_ : Nat} {s : State} (small : v < 4) (unheld : carsHold st v s = false) :
    carrierRequest st v by_ s = record 62 0 1 (some st) (setB (Reg.PGN_SEVT st) Reg.PGN_SEVT_REFUSED true
      (setF (Reg.PGN_REFUSE st) Reg.PGN_REFUSE_CODE 1 (wr (Reg.PGN_CSETREQ st) v s))) := by
  have invalid := ((wr_csetreq_carriers (st := st) v s).carsHold st small).trans unheld
  unfold carsHold at invalid
  unfold carrierRequest
  simp only [Nat.mod_eq_of_lt small, Nat.not_lt.2 (Nat.le_of_lt_succ small), if_false, invalid]
  rfl

theorem exec_carrierSetRequest (st : Fin 4) (value : BitVec 32) (by_ : Fin 19) (s : State) :
    exec (.carrierSetRequest st value by_) s
      = .next (pairFrom (Reg.PGN_CSETREQ st) by_ (carrierRequest st value.toNat by_) s) := rfl

theorem exec_carrierSetRequest_held {st : Fin 4} {value : BitVec 32} {by_ : Fin 19} {s : State}
    (stored : mayStore (Reg.PGN_CSETREQ st) by_ s = true) (small : value.toNat < 4)
    (held : carsHold st value.toNat s = true) (free : shadowLock 2 st s = none) :
    exec (.carrierSetRequest st value by_) s = .next (setB (Reg.PGN_SSTAT st) Reg.PGN_SSTAT_SETPEND true
      (setPgn st { pgnOf st s with req := some value.toNat }
        (wr (Reg.PGN_CSETREQ st) value.toNat (endHold (Reg.PGN_CSETREQ st) s)))) := by
  have lock := (UnitStored.endHold st (Reg.PGN_CSETREQ st) s).shadowLock 2 st
  have unmoved : pgnOf st (endHold (Reg.PGN_CSETREQ st) s) = pgnOf st s := by
    unfold pgnOf
    rw [endHold_pgn]
  rw [exec_carrierSetRequest, pairFrom_of_mayStore stored, carrierRequest_of_held small
    (((endHold_carriers _ s).carsHold st small).trans held) (lock.trans free), unmoved]

theorem exec_carrierSetRequest_unheld {st : Fin 4} {value : BitVec 32} {by_ : Fin 19} {s : State}
    (stored : mayStore (Reg.PGN_CSETREQ st) by_ s = true) (small : value.toNat < 4)
    (unheld : carsHold st value.toNat s = false) : ∃ t, exec (.carrierSetRequest st value by_) s = .next t ∧
      fl (Reg.PGN_REFUSE st) Reg.PGN_REFUSE_CODE t = 1 ∧ recorded 62 0 1 (some st) s t ∧ t.pgn = s.pgn ∧ t.mem = s.mem := by
  refine ⟨_, exec_carrierSetRequest st value by_ s, ?_⟩
  rw [pairFrom_of_mayStore stored,
    carrierRequest_of_unheld small (((endHold_carriers _ s).carsHold st small).trans unheld)]
  have held : Unrecorded (Reg.PGN_SEVT st :: Reg.PGN_REFUSE st :: Reg.PGN_CSETREQ st :: causeRegs) s
      (endHold (Reg.PGN_CSETREQ st) s) := (endHold_unrecorded ..).mono (fun _ h => by simp [h])
  generalize hu : setB _ _ true (setF _ _ 1 _) = u
  have refused : Unrecorded (Reg.PGN_SEVT st :: Reg.PGN_REFUSE st :: Reg.PGN_CSETREQ st :: causeRegs) s u := by
    rw [← hu]
    exact .wrW (.wrW (.wrW held (by simp)) (by simp)) (by simp)
  have events : EventsOnly u (record 62 0 1 (some st) u) := (EventsOnly.refl u).record
  have code : fl (Reg.PGN_REFUSE st) Reg.PGN_REFUSE_CODE u = 1 := by
    have apart : Reg.PGN_REFUSE st ≠ Reg.PGN_SEVT st := by
      unfold Reg.PGN_REFUSE Reg.PGN_SEVT
      omega
    rw [← hu]
    unfold setB
    rw [fl_setF_ne apart, fl_setF _ _ (by decide)]
    rfl
  refine ⟨?_, refused.recorded ?_, ?_, ?_⟩
  · refine (congrArg (fldGet _) (events.regs _ ?_)).trans code
    simp only [evtRegs, List.mem_cons, List.not_mem_nil, or_false, Reg.PGN_REFUSE, Reg.EVT_NSEQ, Reg.EVT_STAT, Reg.EVT_EVT,
      Reg.EVT_LOST, Reg.EVT_UCVAL, Reg.EVT_UCWIN]
    omega
  · simp only [causeRegs, Reg.EVT_NSEQ, Reg.EVT_G5CAUSE, Reg.DRM_STAT, Reg.PGN_SEVT, Reg.PGN_REFUSE, Reg.PGN_CSETREQ,
      List.mem_cons, List.mem_map, List.mem_range]
    omega
  · rw [events.frame]
    show u.pgn = _
    rw [← hu]
    exact endHold_pgn _ s
  · rw [events.frame]
    exact refused.mem

end Sys2Proof.Machine
end

section
/-! SUPPORT. The change of carrier sets at the lead carrier's period start (R166). -/

namespace Sys2Proof.Machine

/-- A carrier of the Stage takes the set handed over and re-anchors at t_s. -/
def setTaken (set ts phase c : Nat) (s : State) : State :=
  setF (Reg.PGN_CSTAT c) Reg.PGN_CSTAT_SETACT set (setB (Reg.PGN_CSTAT c) Reg.PGN_CSTAT_SWPEND false
    (setCar c { carOf c s with orgLt := ts, orgAt := phase } s))

/-- A carrier of the Stage goes on in the period of the new set that t_s falls in. -/
def setPlaced (ts c : Nat) (s : State) : State := carShow c (carPlace c ts s)

/-- A half-bridge of the Stage takes its ready compare and plans its first interval of the new set. -/
def setBegun (ts h : Nat) (s : State) : State :=
  planFirst h ts (periodStart h (wr (Reg.PGN_CMPA h) (hbOf h s).ready (setHb h { hbOf h s with
    dr := (hbOf h s).ready
    df := (hbOf h s).ready
    refU := (hbOf h s).refR
    extra := 0
    drop := false
    planned := (carOf (hbCarrier h s) s).start - 1 } s)))

/-- The Stage shows the set in force, and EV61 records the change. -/
def setShown (st set : Nat) (s : State) : State :=
  record 61 0 st (some st) (setB (Reg.PGN_SEVT st) Reg.PGN_SEVT_SETSW true
    (setF (Reg.PGN_SSTAT st) Reg.PGN_SSTAT_SETACT set (setPgn st { pgnOf st s with ready := none } s)))

/-- The half-bridges of the carriers of a Stage. -/
def stageBridges (st : Nat) (s : State) : List Nat := (carsOf st s).flatMap (fun c => hbsOfCar c s)

theorem lt_of_mem_stageBridges {st h : Nat} {s : State} (mem : h ∈ stageBridges st s) : h < 104 := by
  obtain ⟨c, -, listed⟩ := List.mem_flatMap.1 mem
  exact lt_of_mem_hbsOfCar listed

/-- A change of sets: what is left of the old one is planned, the carriers take the new one and are placed in it, and their
half-bridges begin with it. -/
theorem carSwitch_of_ready {st set lead : Nat} {s : State} (ready : (pgnOf st s).ready = some set)
    (leads : leadCarrier st s = some lead) : ∃ ts phase : Nat, ∃ u v,
      u = each (stageBridges st s) (fun h => planBefore h ts) s ∧ v = each (carsOf st u) (setTaken set ts phase) u ∧
      carSwitch st s = setShown st set (each (stageBridges st s) (setBegun ts) (each (carsOf st v) (setPlaced ts) v)) := by
  refine ⟨(posTime lead (carOf lead s).stop s).toNat, (Int.emod (((anchorOf st s).2.1 : Int)
    + (((posTime lead (carOf lead s).stop s).toNat : Int) - (anchorOf st s).1) * (anchorOf st s).2.2 / 16) (2 ^ 80)).toNat,
    _, _, rfl, rfl, ?_⟩
  unfold carSwitch
  rw [ready, leads]
  rfl

/-- The set in force on a carrier stands where its status word does. -/
theorem carSet_of_word {c : Nat} {s t : State} (word : rdW (Reg.PGN_CSTAT c) t = rdW (Reg.PGN_CSTAT c) s) :
    carSet c t = carSet c s := congrArg (fldGet _) word

theorem Plans.carSet {c : Nat} {s t : State} (r : Plans bridgeRegs s t) (hc : c < 16) : carSet c t = carSet c s :=
  carSet_of_word (r.regs _ (not_mem_bridgeRegs_of_carrier (by unfold Reg.PGN_CSTAT; omega)))

theorem carSet_setTaken_same (set ts phase c : Nat) (s : State) : carSet c (setTaken set ts phase c s) = set % 4 :=
  fl_setF _ _ (by decide) set _

theorem cstat_ne {c d : Nat} (other : d ≠ c) : Reg.PGN_CSTAT d ≠ Reg.PGN_CSTAT c := by
  unfold Reg.PGN_CSTAT
  omega

theorem carSet_setTaken_other {set ts phase c d : Nat} (other : d ≠ c) (s : State) :
    carSet d (setTaken set ts phase c s) = carSet d s :=
  carSet_of_word ((rdW_setF_ne (cstat_ne other) ..).trans (rdW_setF_ne (cstat_ne other) ..))

/-- Where a carrier stands shows beside its set (R171). -/
theorem carSet_carShow (c d : Nat) (s : State) : carSet d (carShow c s) = carSet d s := by
  have pos : Reg.PGN_CSTAT d ≠ Reg.PGN_CPOS c := by
    unfold Reg.PGN_CSTAT Reg.PGN_CPOS
    omega
  have per : Reg.PGN_CSTAT d ≠ Reg.PGN_CPER c := by
    unfold Reg.PGN_CSTAT Reg.PGN_CPER
    omega
  unfold carShow carSet fl wrI
  dsimp only
  rw [rdW_wrW, if_neg pos, rdW_wrW, if_neg per]
  by_cases same : d = c
  · subst same
    exact fl_setF_other _ _ _ (by decide) _ _
  · exact fl_setF_ne (cstat_ne same) ..

theorem carSet_setPlaced (ts c d : Nat) (s : State) : carSet d (setPlaced ts c s) = carSet d s := carSet_carShow c d _

theorem setBegun_plans {ts h : Nat} (hh : h < 104) {s t : State} (r : Plans bridgeRegs s t) :
    Plans bridgeRegs s (setBegun ts h t) := by
  have loaded := (r.setHb (k := h) (x := { hbOf h t with
    dr := (hbOf h t).ready
    df := (hbOf h t).ready
    refU := (hbOf h t).refR
    extra := 0
    drop := false
    planned := (carOf (hbCarrier h t) t).start - 1 })).wr (n := (hbOf h t).ready) (cmpa_mem_bridgeRegs hh)
  exact (periodStart_plans (hstat_mem_bridgeRegs hh) loaded).planFirst (acc_mem_bridgeRegs hh) (flags_mem_bridgeRegs hh)

/-- What the Stage shows once its carriers have changed sets. -/
theorem setShown_spec (st : Fin 4) {set : Nat} (small : set < 4) (s : State) :
    fl (Reg.PGN_SSTAT st) Reg.PGN_SSTAT_SETACT (setShown st set s) = set ∧ (pgnOf st (setShown st set s)).ready = none ∧
    on (Reg.PGN_SEVT st) Reg.PGN_SEVT_SETSW (setShown st set s) = true ∧
    (∀ d < 16, carSet d (setShown st set s) = carSet d s) ∧ (setShown st set s).mem = s.mem := by
  unfold setShown
  generalize hu : setB _ _ true _ = u
  have events : EventsOnly u (record 61 0 st (some st) u) := (EventsOnly.refl u).record
  have word : ∀ a, 0x40050000 ≤ a → a < 0x40055000 → rdW a (record 61 0 st (some st) u) = rdW a u := fun a low high =>
    events.regs a (by
      simp only [evtRegs, List.mem_cons, List.not_mem_nil, or_false, Reg.EVT_NSEQ, Reg.EVT_STAT, Reg.EVT_EVT, Reg.EVT_LOST,
        Reg.EVT_UCVAL, Reg.EVT_UCWIN]
      omega)
  have status : fl (Reg.PGN_SSTAT st) Reg.PGN_SSTAT_SETACT u = set := by
    rw [← hu]
    unfold setB
    rw [fl_setF_ne (pgn_sstat_ne_sevt st), fl_setF _ _ (by decide)]
    exact Nat.mod_eq_of_lt small
  have flag : on (Reg.PGN_SEVT st) Reg.PGN_SEVT_SETSW u = true := hu ▸ on_setB _ _ (by decide) (by decide) true _
  refine ⟨?_, ?_, ?_, fun d hd => ?_, ?_⟩
  · refine (congrArg (fldGet _) (word _ ?_ ?_)).trans status
    all_goals
      unfold Reg.PGN_SSTAT
      omega
  · rw [events.frame]
    show (pgnOf st u).ready = none
    rw [← hu]
    exact congrArg PgnSt.ready (pgnOf_setPgn_same ..)
  · rw [← flag]
    unfold on fl
    rw [word]
    all_goals
      unfold Reg.PGN_SEVT
      omega
  · have kept : carSet d u = carSet d s := by
      rw [← hu]
      refine carSet_of_word ((rdW_setF_ne ?_ ..).trans (rdW_setF_ne ?_ ..))
      all_goals
        simp only [Reg.PGN_CSTAT, Reg.PGN_SEVT, Reg.PGN_SSTAT]
        omega
    refine (carSet_of_word (word _ ?_ ?_)).trans kept
    all_goals
      unfold Reg.PGN_CSTAT
      omega
  · rw [events.frame]
    show u.mem = s.mem
    rw [← hu]
    rfl

/-- Every carrier of the Stage has the set handed over in force, and the Stage shows it (R166). -/
theorem carSwitch_spec {st : Fin 4} {set lead : Nat} {s : State} (ready : (pgnOf st s).ready = some set)
    (leads : leadCarrier st s = some lead) (small : set < 4) :
    fl (Reg.PGN_SSTAT st) Reg.PGN_SSTAT_SETACT (carSwitch st s) = set ∧ (pgnOf st (carSwitch st s)).ready = none ∧
    on (Reg.PGN_SEVT st) Reg.PGN_SEVT_SETSW (carSwitch st s) = true ∧ (∀ d ∈ carsOf st s, carSet d (carSwitch st s) = set) ∧
    (carSwitch st s).mem = s.mem := by
  obtain ⟨ts, phase, u, v, hu, hv, switches⟩ := carSwitch_of_ready ready leads
  have before : Plans bridgeRegs s u := hu ▸ (Plans.refl _ s).each (fun h hh _ hw =>
    hw.planBefore (acc_mem_bridgeRegs (lt_of_mem_stageBridges hh)) (flags_mem_bridgeRegs (lt_of_mem_stageBridges hh)))
  have cars : carsOf st u = carsOf st s := CarrierWords.carsOf (fun a _ high =>
    before.regs a (not_mem_bridgeRegs_of_carrier (by omega))) st
  have taken : ∀ d ∈ carsOf st s, carSet d v = set := fun d hd => by
    rw [hv, cars]
    refine each_reaches (I := fun _ => True) (P := fun w => carSet d w = set) trivial (fun _ _ _ => id) hd (fun w _ => ?_)
      (fun c _ w hw => ?_)
    · rw [carSet_setTaken_same, Nat.mod_eq_of_lt small]
    · by_cases same : d = c
      · rw [← same, carSet_setTaken_same, Nat.mod_eq_of_lt small]
      · rw [carSet_setTaken_other same, hw]
  have mem : v.mem = s.mem := (hv ▸ each_induct (P := fun w => w.mem = u.mem) rfl (fun _ _ _ => id) : v.mem = u.mem).trans before.mem
  have placed : ∀ d, carSet d (each (carsOf st v) (setPlaced ts) v) = carSet d v := fun d =>
    each_induct (P := fun w => carSet d w = carSet d v) rfl (fun c _ w hw => (carSet_setPlaced ts c d w).trans hw)
  have kept : (each (carsOf st v) (setPlaced ts) v).mem = v.mem :=
    each_induct (P := fun w => w.mem = v.mem) rfl (fun _ _ _ => id)
  generalize each (carsOf st v) (setPlaced ts) v = w at switches placed kept
  have begun : Plans bridgeRegs w (each (stageBridges st s) (setBegun ts) w) := (Plans.refl _ w).each
    (fun h hh _ hx => setBegun_plans (lt_of_mem_stageBridges hh) hx)
  obtain ⟨status, done, flag, sets, stored⟩ := setShown_spec st small (each (stageBridges st s) (setBegun ts) w)
  rw [switches]
  refine ⟨status, done, flag, fun d hd => ?_, stored.trans (begun.mem.trans (kept.trans mem))⟩
  have hd16 := lt_of_mem_carsOf hd
  rw [sets d hd16, begun.carSet hd16, placed, taken d hd]

theorem exec_carrierSetSwitch_due {st : Fin 4} {c : Nat} {s : State} (leads : leadCarrier st s = some c)
    (due : setDue c s = true) (configured : s.configured = true) (reached : posTime c (carBoundary c s) s ≤ planAt c s) :
    exec (.carrierSetSwitch st) s = .next (carSwitch st s) := by
  have listed : c ∈ carsOf st s := List.mem_of_find?_eq_some leads
  simp only [carsOf, List.mem_filter, Bool.and_eq_true, beq_iff_eq] at listed
  obtain ⟨-, used, stage⟩ := listed
  have point : carPoint c s = carSwitch st s := by
    unfold carPoint
    rw [if_pos (by simp [configured, used, reached]), if_pos due, stage]
  show Host.Outcome.next _ = _
  rw [leads]
  exact congrArg Host.Outcome.next ((if_pos due).trans point)

end Sys2Proof.Machine
end

section
/-! SUPPORT. Holds, locks and lost pulses that the shared reactions release in no half-bridge and no Stage (R158, R208). -/

namespace Sys2Proof.Machine

/-- From `s` to `t` nothing is released: hold causes, locks and the module disable stand, and a Stage without pulses has none. -/
structure Unreleased (s t : State) : Prop where
  cause : ∀ h i, (hbCause h s).testBit i = true → (hbCause h t).testBit i = true
  locked : ∀ st < 4, locked st s = true → locked st t = true
  off : ∀ st < 4, pulsesOn st s = false → pulsesOn st t = false
  disabled : bitAt Reg.PGN_GSTAT 0 s = true → bitAt Reg.PGN_GSTAT 0 t = true

/-- The registers in which holds, locks and pulses show. -/
inductive HoldReg : Nat → Prop
  | bridge (h : Nat) : HoldReg (Reg.PGN_HSTAT h)
  | causes : HoldReg Reg.EVT_G5CAUSE
  | stage (st : Nat) (small : st < 4) : HoldReg (Reg.PGN_SSTAT st)
  | unit : HoldReg Reg.PGN_GSTAT

/-- The addresses of the registers in which holds show, as numbers. -/
theorem HoldReg.address {a : Nat} (shown : HoldReg a) :
    0x4005202C ≤ a ∧ (a % 0x40 = 0x2C ∨ a = 0x40130028 ∨ a < 0x40054100 ∧ a % 0x40 = 0x0C ∨ a = 0x40054108) := by
  cases shown with
  | bridge h =>
    unfold Reg.PGN_HSTAT
    omega
  | stage st small =>
    unfold Reg.PGN_SSTAT
    omega
  | causes | unit => decide

theorem not_holdReg_of_evtRegs {a : Nat} (unit : a ∈ evtRegs) : ¬ HoldReg a := fun shown => by
  have := shown.address
  simp only [evtRegs, List.mem_cons, List.not_mem_nil, or_false, Reg.EVT_NSEQ, Reg.EVT_STAT, Reg.EVT_EVT, Reg.EVT_LOST,
    Reg.EVT_UCVAL, Reg.EVT_UCWIN] at unit
  omega

theorem not_holdReg_hevt (h : Nat) : ¬ HoldReg (Reg.PGN_HEVT h) := fun shown => by
  have := shown.address
  unfold Reg.PGN_HEVT at this
  omega

theorem not_holdReg_istat {n : Nat} (hn : n < 128) : ¬ HoldReg (Reg.STI_ISTAT n) := fun shown => by
  have := shown.address
  unfold Reg.STI_ISTAT at this
  omega

namespace Unreleased

variable {s t u : State} {a h k n st : Nat}

theorem refl (s : State) : Unreleased s s := ⟨fun _ _ => id, fun _ _ => id, fun _ _ => id, id⟩

theorem trans (r : Unreleased s t) (g : Unreleased t u) : Unreleased s u :=
  ⟨fun h i set => g.cause h i (r.cause h i set), fun st small set => g.locked st small (r.locked st small set),
    fun st small low => g.off st small (r.off st small low), g.disabled ∘ r.disabled⟩

/-- A change in which every register stands that shows a hold. -/
theorem of_regs (r : Unreleased s t) (kept : ∀ a, HoldReg a → rdW a u = rdW a t) : Unreleased s u := by
  refine r.trans ⟨fun h i => ?_, fun st _ => ?_, fun st small => ?_, ?_⟩
  · unfold hbCause fl
    rw [kept _ (.bridge h)]
    exact id
  · unfold Machine.locked bitAt on fl
    rw [kept _ .causes]
    exact id
  · unfold pulsesOn on fl
    rw [kept _ (.stage st small)]
    exact id
  · unfold bitAt on fl
    rw [kept _ .unit]
    exact id

theorem elsewhere (r : Unreleased s t) (regs : u.regs = t.regs := by rfl) : Unreleased s u :=
  r.of_regs (fun a _ => by unfold rdW; rw [regs])

theorem events (r : Unreleased s t) (g : EventsOnly t u) : Unreleased s u :=
  r.of_regs (fun a shown => g.regs a (fun unit => not_holdReg_of_evtRegs unit shown))

theorem wrW (r : Unreleased s t) (apart : ¬ HoldReg a) {w : Word} : Unreleased s (wrW a w t) :=
  r.of_regs (fun b shown => (rdW_wrW b a w t).trans (if_neg (fun same : b = a => apart (same ▸ shown))))

theorem setF (r : Unreleased s t) {F : Fld} {v : Nat} (apart : ¬ HoldReg a) : Unreleased s (setF a F v t) := r.wrW apart

/-- A write that releases nothing: of the holds, locks and pulses that the word may show, each as before or tighter. -/
theorem wrShown (r : Unreleased s t) {w : Word} (unit : Reg.PGN_GSTAT ≠ a)
    (cause : ∀ h, Reg.PGN_HSTAT h = a → ∀ i, (hbCause h t).testBit i = true →
      (fldGet Reg.PGN_HSTAT_HOLDCAUSE w).testBit i = true)
    (lock : Reg.EVT_G5CAUSE = a → ∀ st < 4, Machine.locked st t = true → w.getLsbD st = true)
    (pulses : ∀ st < 4, Reg.PGN_SSTAT st = a → w.getLsbD 3 = false) : Unreleased s (Machine.wrW a w t) := by
  refine r.trans ⟨fun h i set => ?_, fun st small set => ?_, fun st small low => ?_, fun set => ?_⟩
  · unfold hbCause fl
    rw [rdW_wrW]
    split
    · rename_i same
      exact cause h same i set
    · exact set
  · unfold Machine.locked bitAt
    rw [on_flag, rdW_wrW]
    split
    · rename_i same
      exact lock same st small set
    · rw [← on_flag]
      exact set
  · unfold pulsesOn Reg.PGN_SSTAT_PEN
    rw [on_flag, rdW_wrW]
    split
    · rename_i same
      exact pulses st small same
    · rw [← on_flag]
      exact low
  · unfold bitAt at set ⊢
    rw [on_flag] at set ⊢
    rw [rdW_wrW, if_neg unit]
    exact set

/-- A status word of a half-bridge that leaves its hold causes. -/
theorem wrHstat (r : Unreleased s t) {w : Word}
    (kept : ∀ i, (hbCause h t).testBit i = true → (fldGet Reg.PGN_HSTAT_HOLDCAUSE w).testBit i = true) :
    Unreleased s (Machine.wrW (Reg.PGN_HSTAT h) w t) := by
  refine r.wrShown ?_ (fun j same => ?_) (fun same => ?_) (fun st _ same => ?_)
  · unfold Reg.PGN_GSTAT Reg.PGN_HSTAT
    omega
  · have index : j = h := by
      unfold Reg.PGN_HSTAT at same
      omega
    exact index ▸ kept
  · unfold Reg.EVT_G5CAUSE Reg.PGN_HSTAT at same
    omega
  · unfold Reg.PGN_SSTAT Reg.PGN_HSTAT at same
    omega

/-- Another field of the status of a half-bridge. -/
theorem setStatus (r : Unreleased s t) {F : Fld} {v : Nat} (apart : 3 + 6 ≤ F.lo ∨ F.lo + F.width ≤ 3) :
    Unreleased s (Machine.setF (Reg.PGN_HSTAT h) F v t) := r.wrHstat (fun i set => by
  rw [fldGet_fldSet_other Reg.PGN_HSTAT_HOLDCAUSE F apart]
  exact set)

/-- A cause joins those of a half-bridge. -/
theorem addHold (r : Unreleased s t) {v : Nat} :
    Unreleased s (Machine.setF (Reg.PGN_HSTAT h) Reg.PGN_HSTAT_HOLDCAUSE (hbCause h t ||| v) t) := r.wrHstat (fun i set => by
  have bit : i < 6 := by
    by_contra high
    have small : hbCause h t < 2 ^ i :=
      (fldGet_lt Reg.PGN_HSTAT_HOLDCAUSE _).trans_le (Nat.pow_le_pow_right (by decide) (not_lt.1 high))
    rw [Nat.testBit_lt_two_pow small] at set
    cases set
  rw [fldGet_fldSet _ (by decide), Nat.testBit_mod_two_pow, Nat.testBit_or, set, Bool.true_or, Bool.and_true]
  exact decide_eq_true bit)

/-- Locks and causes of G5: no lock is cleared. -/
theorem setG5Bit (r : Unreleased s t) {b : Bool} (kept : k < 4 → b = true) :
    Unreleased s (setBitAt Reg.EVT_G5CAUSE k b t) := by
  refine r.wrShown (by decide) (fun j same => ?_) (fun _ st small set => ?_) (fun st small same => ?_)
  · unfold Reg.EVT_G5CAUSE Reg.PGN_HSTAT at same
    omega
  · rw [getLsbD_fldSet_flag _ _ (by omega)]
    split
    · rename_i same
      exact kept (same ▸ small)
    · rw [← on_flag]
      exact set
  · unfold Reg.EVT_G5CAUSE Reg.PGN_SSTAT at same
    omega

/-- The pulses of a Stage end. -/
theorem endPulses (r : Unreleased s t) (small : st < 4) :
    Unreleased s (setB (Reg.PGN_SSTAT st) Reg.PGN_SSTAT_PEN false t) := by
  refine r.wrShown ?_ (fun j same => ?_) (fun same => ?_) (fun j _ _ => ?_)
  · unfold Reg.PGN_GSTAT Reg.PGN_SSTAT
    omega
  · unfold Reg.PGN_HSTAT Reg.PGN_SSTAT at same
    omega
  · unfold Reg.EVT_G5CAUSE Reg.PGN_SSTAT at same
    omega
  · exact (getLsbD_fldSet_flag (i := 3) _ (by decide) false).trans (if_pos rfl)

theorem when (r : Unreleased s t) {c : Bool} {f : State → State} (hf : ∀ u, Unreleased s u → Unreleased s (f u)) :
    Unreleased s (when c f t) := by
  unfold Machine.when
  split
  · exact hf _ r
  · exact r

theorem each {α : Type} (r : Unreleased s t) {l : List α} {f : α → State → State}
    (hf : ∀ x ∈ l, ∀ u, Unreleased s u → Unreleased s (f x u)) : Unreleased s (each l f t) := each_induct r hf

theorem record (r : Unreleased s t) {src grade detail : Nat} {g : Option Nat} :
    Unreleased s (record src grade detail g t) := r.events (.record (.refl _))

/-! Holds (R158). -/

theorem safeHb (r : Unreleased s t) : Unreleased s (safeHb h t) := by
  unfold Machine.safeHb
  extract_lets lows cut t1 _ t2 t3 k mine
  have counted : Unreleased s t1 := r.each (fun _ _ _ hu => .setStatus hu.elsewhere (by decide))
  have placed : Unreleased s t2 := counted.elsewhere
  have safe : Unreleased s t3 := ((placed.setStatus (by decide)).setStatus (by decide)).setF (not_holdReg_hevt h)
  split
  · exact safe.elsewhere (legOff_frame _ t3).1
  · exact safe.elsewhere

theorem holdHb (r : Unreleased s t) {cause : Nat} : Unreleased s (holdHb cause h t) := by
  unfold Machine.holdHb
  split
  · extract_lets run _ t1 t2
    have begun : Unreleased s t1 := r.when (fun _ hu => hu.elsewhere)
    have held : Unreleased s t2 := begun.addHold
    exact .safeHb (held.when (fun _ hu => hu.setStatus (by decide)))
  · exact r

theorem holdMany (r : Unreleased s t) {cause : Nat} {hs : List Nat} : Unreleased s (holdMany cause hs t) :=
  .each (r.each (fun _ _ _ hu => hu.holdHb)) (fun _ _ _ hu => hu.when (fun _ hv => hv.elsewhere))

/-! G5 (R208, R210). -/

theorem trackIn (r : Unreleased s t) (hn : n < 128) : Unreleased s (trackIn n t) := by
  unfold Machine.trackIn
  extract_lets mode
  split
  · exact r
  · exact .setF r.elsewhere (not_holdReg_istat hn)

/-- After the end of a Stage's pulses come its record, the instances that track, and the holds. -/
theorem pulsesEnded (r : Unreleased s (setB (Reg.PGN_SSTAT st) Reg.PGN_SSTAT_PEN false t)) {d : Nat} :
    Unreleased s (pulsesOff st d t) :=
  .holdMany (.each (r.when (fun _ hu => hu.record)) (fun _ hn _ hu => hu.trackIn (lt_of_mem_instsOf hn)))

/-- After the lock come its cause, its record and the end of the pulses. -/
theorem lockedThen (r : Unreleased s (setBitAt Reg.EVT_G5CAUSE st true t)) (small : st < 4) {d : Nat} {c : Option Cause} :
    Unreleased s (gradeG5For d st c t) := by
  unfold Machine.gradeG5For
  extract_lets was t1 t2 _ t3 t4 t5
  have noted : Unreleased s t2 := by
    cases c with
    | none => exact r
    | some c =>
      have listed : Unreleased s { t1 with evt := { t1.evt with g5 := Tbl.put st (addCause c (g5Of st t1)) t1.evt.g5 } } :=
        r.elsewhere
      exact listed.setG5Bit (fun low => absurd low (by omega))
  have shown : Unreleased s t5 := noted.elsewhere
  exact .pulsesEnded (.endPulses (shown.when (fun _ hu => hu.record)) small)

theorem gradeG5For (r : Unreleased s t) (small : st < 4) {d : Nat} {c : Option Cause} :
    Unreleased s (gradeG5For d st c t) := .lockedThen (r.setG5Bit (fun _ => rfl)) small

end Unreleased

/-- A Stage that loses its pulses has none, even where the reactions follow. -/
theorem pulsesOn_pulsesOff {st : Nat} (small : st < 4) (d : Nat) (s : State) : pulsesOn st (pulsesOff st d s) = false :=
  (Unreleased.pulsesEnded (.refl _)).off st small (on_setB _ _ (by decide) (by decide) false _)

theorem pulsesOn_gradeG5For {st : Nat} (small : st < 4) (d : Nat) (c : Option Cause) (s : State) :
    pulsesOn st (gradeG5For d st c s) = false := pulsesOn_pulsesOff small d _

theorem locked_gradeG5For {st : Nat} (small : st < 4) (d : Nat) (c : Option Cause) (s : State) :
    locked st (gradeG5For d st c s) = true :=
  (Unreleased.lockedThen (.refl _) small).locked st small
    (on_setB _ _ (show st + 1 ≤ 32 by omega) Nat.one_pos true _)

/-- A half-bridge in use takes each cause that it is held with (R158). -/
theorem hbCause_holdHb {cause h i : Nat} {s : State} (used : hbUsed h s = true) (bit : cause.testBit i = true) (small : i < 6) :
    (hbCause h (holdHb cause h s)).testBit i = true := by
  unfold holdHb
  rw [if_pos used]
  refine (Unreleased.safeHb (.when (.refl _) (fun _ hu => hu.setStatus (by decide)))).cause h i ?_
  unfold hbCause
  rw [fl_setF _ _ (by decide), Nat.testBit_mod_two_pow, Nat.testBit_or, bit, Bool.or_true, Bool.and_true]
  exact decide_eq_true small

theorem holdHb_bridge (cause : Nat) {h : Nat} (hh : h < 104) (s : State) : Silent bridgeRegs s (holdHb cause h s) := by
  have silent := holdHb_silent cause h s
  refine ⟨fun a off => silent.regs a (fun shown => off ?_), silent.evt⟩
  rcases List.mem_pair.1 shown with rfl | rfl
  · exact hstat_mem_bridgeRegs hh
  · exact flags_mem_bridgeRegs hh

/-- Holds show in the status and flags of half-bridges alone, and record nothing. -/
theorem holdMany_silent (cause : Nat) {hs : List Nat} (bridges : ∀ h ∈ hs, h < 104) (s : State) :
    Silent bridgeRegs s (holdMany cause hs s) := by
  have held : Silent bridgeRegs s (each (hs.filter (fun h => hbUsed h s)) (holdHb cause) s) :=
    each_induct (.refl _ s) (fun h listed u hu => hu.trans (holdHb_bridge cause (bridges h (List.mem_of_mem_filter listed)) u))
  exact held.each (fun _ _ hu => hu.when (fun _ hv => hv.elsewhere))

theorem Silent.hbUsed {s t : State} (r : Silent bridgeRegs s t) (h : Nat) : hbUsed h t = hbUsed h s := by
  have apart : Reg.PGN_HCFG h ∉ bridgeRegs := by
    rw [mem_bridgeRegs]
    rintro ⟨j, -, e | e | e | e⟩
    all_goals
      simp only [Reg.PGN_HCFG, Reg.PGN_ACC, Reg.PGN_HEVT, Reg.PGN_CMPA, Reg.PGN_HSTAT] at e
      omega
  unfold Machine.hbUsed on fl
  rw [r.regs _ apart]

theorem hbCause_holdMany {cause h i : Nat} {hs : List Nat} {s : State} (bridges : ∀ h ∈ hs, h < 104) (listed : h ∈ hs)
    (used : hbUsed h s = true) (bit : cause.testBit i = true) (small : i < 6) :
    (hbCause h (holdMany cause hs s)).testBit i = true := by
  have held : (hbCause h (each (hs.filter (fun h => hbUsed h s)) (holdHb cause) s)).testBit i = true := by
    refine each_reaches (I := fun u => hbUsed h u = true) (P := fun u => (hbCause h u).testBit i = true) used
      (fun j hj u hu => ?_) (List.mem_filter.2 ⟨listed, used⟩) (fun u hu => hbCause_holdHb hu bit small)
      (fun j _ u hu => (Unreleased.holdHb (.refl u)).cause h i hu)
    exact ((holdHb_bridge cause (bridges j (List.mem_of_mem_filter hj)) u).hbUsed h).trans hu
  exact (Unreleased.each (.refl _) (fun _ _ _ hu => hu.when (fun _ hv => hv.elsewhere))).cause h i held

end Sys2Proof.Machine
end

section
/-! SUPPORT. The module disable (R170), and O26. -/

namespace Sys2Proof.Machine

/-- What is recorded after changes that record nothing is recorded since before them. -/
theorem Unrecorded.recorded_of {l : List Nat} {s t u : State} (r : Unrecorded l s t) (hn : Reg.EVT_NSEQ ∉ l)
    {src grade detail : Nat} {stg : Option Nat} (g : Machine.recorded src grade detail stg t u) :
    Machine.recorded src grade detail stg s u := fun room => by
  rw [← r.recs]
  exact g ((r.roomy hn).trans room)

/-- The Stages with pulses. -/
def pulsing (s : State) : List Nat := (List.range 4).filter (fun st => pulsesOn st s)

theorem lt_of_mem_pulsing {st : Nat} {s : State} (mem : st ∈ pulsing s) : st < 4 := List.mem_range.1 (List.mem_of_mem_filter mem)

theorem mem_pulsing {st : Nat} {s : State} (small : st < 4) (on_ : pulsesOn st s = true) : st ∈ pulsing s :=
  List.mem_filter.2 ⟨List.mem_range.2 small, on_⟩

/-- The disable shows, and every half-bridge in use is held with it. -/
def disabledHeld (s : State) : State := holdMany holdDisabled (List.range 104) (setBitAt Reg.PGN_GSTAT 0 true s)

/-- G5 against each of the Stages, with the cause of EV63. -/
def disabledLocked (l : List Nat) (s : State) : State := each l (fun st s => gradeG5For 4 st (some ⟨63, 0⟩) s) s

theorem moduleDisable_eq (s : State) : moduleDisable s = disabledLocked (pulsing s)
    (record 63 (if (List.range 4).any (fun st => pulsesOn st s) then 5 else 0) 0 none (disabledHeld s)) := by
  have grade : (if (pulsing s).isEmpty then 0 else 5) = if (List.range 4).any (fun st => pulsesOn st s) then 5 else 0 := by
    have empty : (pulsing s).isEmpty = !(List.range 4).any (fun st => pulsesOn st s) := by
      rw [Bool.eq_iff_iff]
      simp [pulsing]
    rw [empty]
    cases (List.range 4).any (fun st => pulsesOn st s) <;> rfl
  rw [← grade]
  rfl

theorem unreleased_disabledLocked {l : List Nat} (stages : ∀ st ∈ l, st < 4) (s : State) :
    Unreleased s (disabledLocked l s) :=
  (Unreleased.refl s).each (fun st hst _ hu => hu.gradeG5For (stages st hst))

/-- Each Stage graded is locked, and has no pulses. -/
theorem disabledLocked_spec {l : List Nat} {st : Nat} (stages : ∀ st ∈ l, st < 4) (listed : st ∈ l) (s : State) :
    locked st (disabledLocked l s) = true ∧ pulsesOn st (disabledLocked l s) = false := by
  have small := stages st listed
  refine each_reaches (I := fun _ => True) (P := fun u => locked st u = true ∧ pulsesOn st u = false) trivial
    (fun _ _ _ => id) listed (fun u _ => ⟨locked_gradeG5For small .., pulsesOn_gradeG5For small ..⟩) (fun j hj u hu => ?_)
  have kept := (Unreleased.refl u).gradeG5For (stages j hj) (d := 4) (c := some ⟨63, 0⟩)
  exact ⟨kept.locked st small hu.1, kept.off st small hu.2⟩

/-- The store of PGN_DISABLE leaves what decides over the disable. -/
theorem endHold_bridges (a : Nat) (s : State) : (∀ h, hbUsed h (endHold a s) = hbUsed h s) ∧
    ∀ st, pulsesOn st (endHold a s) = pulsesOn st s := by
  have kept : ∀ b, 0x40050000 ≤ b → b % 0x40 ≠ 0x28 → rdW b (endHold a s) = rdW b s := fun b low apart =>
    (endHold_unrecorded a s).regs b (by
      simp only [causeRegs, Reg.EVT_G5CAUSE, Reg.DRM_STAT, List.mem_cons, List.mem_map, List.mem_range]
      omega)
  refine ⟨fun h => ?_, fun st => ?_⟩
  · unfold hbUsed on fl
    rw [kept]
    all_goals
      unfold Reg.PGN_HCFG
      omega
  · unfold pulsesOn on fl
    rw [kept]
    all_goals
      unfold Reg.PGN_SSTAT
      omega

theorem Reacts.disabledLocked {s t : State} (r : Reacts s t) {l : List Nat} : Reacts s (disabledLocked l t) :=
  r.each (fun _ _ _ hu => hu.gradeG5For)

/-- A disable shows, every half-bridge in use is held with cause 3, each Stage with pulses is locked and has none, and EV63 is
recorded with the grade (R170). -/
theorem moduleDisable_spec (s : State) : bitAt Reg.PGN_GSTAT 0 (moduleDisable s) = true ∧
    (∀ h < 104, hbUsed h s = true → (hbCause h (moduleDisable s)).testBit 3 = true) ∧
    (∀ st < 4, pulsesOn st s = true → locked st (moduleDisable s) = true ∧ pulsesOn st (moduleDisable s) = false) ∧
    recorded 63 (if (List.range 4).any (fun st => pulsesOn st s) then 5 else 0) 0 none s (moduleDisable s) ∧
    (moduleDisable s).mem = s.mem ∧ (moduleDisable s).nv = s.nv := by
  have stages : ∀ st ∈ pulsing s, st < 4 := fun _ => lt_of_mem_pulsing
  have bridges : ∀ h ∈ List.range 104, h < 104 := fun _ => List.mem_range.1
  rw [moduleDisable_eq]
  have disabled : bitAt Reg.PGN_GSTAT 0 (setBitAt Reg.PGN_GSTAT 0 true s) = true := on_setB _ _ (by decide) (by decide) true _
  have marked : Unrecorded [Reg.PGN_GSTAT] s (setBitAt Reg.PGN_GSTAT 0 true s) := (Unrecorded.refl _ s).wrW (by simp)
  have used : ∀ h, hbUsed h (setBitAt Reg.PGN_GSTAT 0 true s) = hbUsed h s := fun h => by
    unfold hbUsed on fl
    rw [marked.regs]
    simp only [List.mem_singleton, Reg.PGN_HCFG, Reg.PGN_GSTAT]
    omega
  generalize grade : (if (List.range 4).any (fun st => pulsesOn st s) then 5 else 0) = g
  have cause : ∀ h < 104, hbUsed h s = true → (hbCause h (disabledHeld s)).testBit 3 = true := fun h hh on_ =>
    hbCause_holdMany bridges (List.mem_range.2 hh) ((used h).trans on_) rfl (by decide)
  have held : Unreleased (setBitAt Reg.PGN_GSTAT 0 true s) (disabledHeld s) := (Unreleased.refl _).holdMany
  have after : Unreleased (disabledHeld s) (disabledLocked (pulsing s) (record 63 g 0 none (disabledHeld s))) :=
    (Unreleased.refl _).record.trans (unreleased_disabledLocked stages _)
  have reacts : Reacts (setBitAt Reg.PGN_GSTAT 0 true s)
      (disabledLocked (pulsing s) (record 63 g 0 none (disabledHeld s))) :=
    (Reacts.refl _).holdMany.record.disabledLocked
  have silent : Silent bridgeRegs (setBitAt Reg.PGN_GSTAT 0 true s) (disabledHeld s) := holdMany_silent _ bridges _
  refine ⟨after.disabled (held.disabled disabled), fun h hh on_ => after.cause h 3 (cause h hh on_),
    fun st small on_ => disabledLocked_spec stages (mem_pulsing small on_) _, ?_, reacts.mem.trans marked.mem,
    reacts.nv.trans marked.nv⟩
  refine marked.recorded_of (by decide) (silent.recorded_of ?_ (fun room => ?_))
  · rw [mem_bridgeRegs]
    rintro ⟨h, hh, e | e | e | e⟩
    all_goals
      simp only [Reg.EVT_NSEQ, Reg.PGN_ACC, Reg.PGN_HEVT, Reg.PGN_CMPA, Reg.PGN_HSTAT] at e
      omega
  · exact (recs_record_lt 63 g 0 none room).trans_le ((Reacts.refl _).disabledLocked.recs 63 g 0 none)

theorem exec_moduleDisable_stored {s : State} (stored : stores s = true) : ∃ t, exec .moduleDisable s = .next t ∧
    bitAt Reg.PGN_GSTAT 0 t = true ∧ (∀ h : Fin 104, hbUsed h s = true → (hbCause h t).testBit 3 = true) ∧
    (∀ st : Fin 4, pulsesOn st s = true → locked st t = true ∧ pulsesOn st t = false) ∧
    recorded 63 (if (List.range 4).any (fun st => pulsesOn st s) then 5 else 0) 0 none s t ∧ t.mem = s.mem ∧ t.nv = s.nv := by
  have effect : exec .moduleDisable s = .next (moduleDisable (endHold Reg.PGN_DISABLE s)) :=
    congrArg Host.Outcome.next (pairStore_of_stores stored _ _)
  have hold := endHold_unrecorded Reg.PGN_DISABLE s
  obtain ⟨used, pulses⟩ := endHold_bridges Reg.PGN_DISABLE s
  obtain ⟨disabled, cause, locks, recorded, mem, nv⟩ := moduleDisable_spec (endHold Reg.PGN_DISABLE s)
  simp only [used, pulses] at cause locks recorded
  exact ⟨_, effect, disabled, fun h => cause h h.isLt, fun st => locks st st.isLt,
    hold.recorded_of (by decide) recorded, mem.trans hold.mem, nv.trans hold.nv⟩

/-- Settles O26: a request by what its pair's store leaves, the change of sets by its folds over carriers and half-bridges, and the
disable by what the shared reactions never release. -/
theorem carrierSetsAndDisable : Obligations.CarrierSetsAndDisable := by
  refine ⟨?held, ?unheld, ?switches, ?disables⟩
  case held => exact fun st value by_ s stored small held free => exec_carrierSetRequest_held stored small held free
  case unheld => exact fun st value by_ s stored small unheld => exec_carrierSetRequest_unheld stored small unheld
  case switches => exact fun st c k s leads due configured reached ready small =>
    ⟨_, exec_carrierSetSwitch_due leads due configured reached, carSwitch_spec ready leads small⟩
  case disables => exact fun s stored => exec_moduleDisable_stored stored

end Sys2Proof.Machine
end

section
/-! SUPPORT. The endpoint of a leg link, read after a write: its ports, what waits for the uplink, and the SEQ of an EDGE (R173-R187). -/

namespace Sys2Proof.Machine

/-! The endpoint and its ports. -/

@[simp] theorem epOf_setEp (n : Nat) (x : EpSt) (s : State) : epOf n (setEp n x s) = x := Tbl.get_put_same ..

@[simp] theorem epOf_setEpPort (n p : Nat) (x : EpPort) (s : State) :
    epOf n (setEpPort n p x s) = { epOf n s with ports := Tbl.put p x (epOf n s).ports } := epOf_setEp ..

@[simp] theorem epPort_setEpPort_same (n p : Nat) (x : EpPort) (s : State) : epPort n p (setEpPort n p x s) = x := by
  unfold epPort
  rw [epOf_setEpPort, Tbl.get_put_same]

@[simp] theorem epPort_setEpPort_ne {p q : Nat} (other : q ≠ p) (n : Nat) (x : EpPort) (s : State) :
    epPort n q (setEpPort n p x s) = epPort n q s := by
  unfold epPort
  rw [epOf_setEpPort, Tbl.get_put_ne _ other]

/-- A write of the endpoint beside its ports. -/
@[simp] theorem epPort_setEp {n : Nat} {x : EpSt} {s : State} (ports : x.ports = (epOf n s).ports) (p : Nat) :
    epPort n p (setEp n x s) = epPort n p s := by
  unfold epPort
  rw [epOf_setEp, ports]

/-- A write of a port is one of the endpoint. -/
@[simp] theorem setEpPort_frame (n p : Nat) (x : EpPort) (s : State) :
    (setEpPort n p x s).out = s.out ∧ (setEpPort n p x s).regs = s.regs ∧ (setEpPort n p x s).mem = s.mem ∧
    (setEpPort n p x s).lt = s.lt := by
  simp [setEpPort]

/-! What waits for the uplink (R174). -/

/-- A port for whose uplink more waits. -/
def EpPort.waiting (x : EpPort) (l : List (Nat × List Nat)) : EpPort := { x with wait := x.wait ++ l }

theorem upOn_eq (n p : Nat) (chars : List Nat) (s : State) :
    upOn n p chars s = setEpPort n p ((epPort n p s).waiting [(upClass chars, chars)]) s := rfl

@[simp] theorem upClass_block (type : Nat) (body : List Nat) (small : type < 16) : upClass (blockOf16 type body) = 4 := by
  have head : (blockOf16 type body).headD 0 = 16 * type + 1 := rfl
  unfold upClass
  rw [head]
  split <;> omega

@[simp] theorem epPort_upTwice (n p : Nat) (chars : List Nat) (s : State) :
    epPort n p (upTwice n p chars s) = (epPort n p s).waiting [(upClass chars, chars), (upClass chars, chars)] := by
  simp [upTwice, upOn_eq, EpPort.waiting]

@[simp] theorem epOf_upOn (n p : Nat) (chars : List Nat) (s : State) :
    epOf n (upOn n p chars s) =
      { epOf n s with ports := Tbl.put p ((epPort n p s).waiting [(upClass chars, chars)]) (epOf n s).ports } :=
  epOf_setEpPort ..

@[simp] theorem upTwice_frame (n p : Nat) (chars : List Nat) (s : State) :
    (upTwice n p chars s).out = s.out ∧ (upTwice n p chars s).regs = s.regs ∧ (upTwice n p chars s).mem = s.mem ∧
    (upTwice n p chars s).lt = s.lt := by
  simp [upTwice, upOn_eq]

@[simp] theorem wait_waiting (x : EpPort) (l : List (Nat × List Nat)) : (x.waiting l).wait = x.wait ++ l := rfl
@[simp] theorem missing_waiting (x : EpPort) (l : List (Nat × List Nat)) : (x.waiting l).missing = x.missing := rfl
@[simp] theorem upClass_setNack (seq : Nat) : upClass (setNack seq) = 2 := rfl

/-! An EVENT of the endpoint (R178). -/

@[simp] theorem epPort_epEvent (n p kind seq epoch : Nat) (s : State) :
    epPort n p (epEvent n p kind seq epoch s) =
      (epPort n p s).waiting [(4, eventBlock kind seq epoch p), (4, eventBlock kind seq epoch p)] := by
  have block : upClass (eventBlock kind seq epoch p) = 4 := upClass_block _ _ (by decide)
  simp [epEvent, block]

/-- An EVENT leaves the commands, the switches and the ownership, and the device. -/
@[simp] theorem epEvent_frame (n p kind seq epoch : Nat) (s : State) :
    (epOf n (epEvent n p kind seq epoch s)).cmds = (epOf n s).cmds ∧
    (epOf n (epEvent n p kind seq epoch s)).gates = (epOf n s).gates ∧
    (epOf n (epEvent n p kind seq epoch s)).claim = (epOf n s).claim ∧
    (epOf n (epEvent n p kind seq epoch s)).owner = (epOf n s).owner ∧
    (epOf n (epEvent n p kind seq epoch s)).epoch = (epOf n s).epoch ∧
    (epEvent n p kind seq epoch s).out = s.out ∧ (epEvent n p kind seq epoch s).regs = s.regs ∧
    (epEvent n p kind seq epoch s).mem = s.mem := by
  simp [epEvent, upTwice, upOn_eq]

end Sys2Proof.Machine
end

section
/-! SUPPORT. The commands of an endpoint (R187-R200), and O46. -/

namespace Sys2Proof.Machine

/-! SEQ (R187). -/

/-- A port that has accepted a SEQ of its window. -/
def EpPort.took (x : EpPort) (seq : Nat) : EpPort :=
  { x with last := seq, taken := (seq :: x.taken).take 64,
           missing := x.missing.filter (fun m => m.1 != seq && (m.2.2 != 3 || decide ((seq + 256 - m.1) % 256 < 128))) }

/-- The endpoint whose port has accepted a SEQ. -/
def seqTaken (n p seq : Nat) (s : State) : State := setEpPort n p ((epPort n p s).took seq) s

@[simp] theorem epOf_seqTaken (n p seq : Nat) (s : State) :
    epOf n (seqTaken n p seq s) =
      { epOf n s with ports := Tbl.put p ((epPort n p s).took seq) (epOf n s).ports } := epOf_setEpPort ..

@[simp] theorem seqTaken_frame (n p seq : Nat) (s : State) :
    (seqTaken n p seq s).out = s.out ∧ (seqTaken n p seq s).regs = s.regs ∧ (seqTaken n p seq s).mem = s.mem := by
  simp [seqTaken]

@[simp] theorem epPort_seqTaken (n p seq : Nat) (s : State) :
    epPort n p (seqTaken n p seq s) = (epPort n p s).took seq := epPort_setEpPort_same ..

theorem seqsFrom_next {a b : Nat} (next : b % 256 = a % 256) : seqsFrom a b = [] := by
  unfold seqsFrom
  rw [show (b + 256 - a % 256) % 256 = 0 by omega]
  rfl

theorem seqsFrom_skip {a b : Nat} (next : b % 256 = (a + 1) % 256) (small : b < 256) : seqsFrom a b = [a % 256] := by
  unfold seqsFrom
  rw [show (b + 256 - a % 256) % 256 = 1 by omega]
  rfl

/-- A SEQ of the window is accepted, and those passed over are missing. -/
theorem epSeq_of_window {n p seq : Nat} {s : State} (ahead : 1 ≤ (seq + 256 - (epPort n p s).last) % 256)
    (window : (seq + 256 - (epPort n p s).last) % 256 ≤ 64) :
    epSeq n p seq s = (seqTaken n p seq (epMissing n p (seqsFrom ((epPort n p s).last + 1) seq) s), true) := by
  unfold epSeq
  exact if_pos ⟨ahead, window⟩

/-- The next SEQ is accepted, and none is missing. -/
theorem epSeq_of_next {n p seq : Nat} {s : State} (fits : (epPort n p s).last < 256)
    (next : seq = ((epPort n p s).last + 1) % 256) :
    epSeq n p seq s = (seqTaken n p seq s, true) := by
  rw [epSeq_of_window (by omega) (by omega), seqsFrom_next (by omega)]
  rfl

theorem epMissing_single {n p seq : Nat} {s : State} (none : (epPort n p s).missing = []) :
    epMissing n p [seq] s = upOn n p (setNack seq)
      (setEpPort n p { epPort n p s with missing := (epPort n p s).missing ++ [(seq, s.lt, 1)] } s) := by
  simp [epMissing, each, none]

/-! An EDGE whose SEQ is accepted (R187, R190, R197, R200). -/

/-- Without a claim the owning port and epoch command (R197). -/
theorem epOwned_of_no_claim {n : Nat} {c : EpCmd} {s : State} (claim : (epOf n s).claim = none) :
    epOwned n c s = (c.port == (epOf n s).owner && c.epoch == (epOf n s).epoch % 256) := by
  simp [epOwned, claim]

theorem epCommand_of_unused {n : Nat} {c : EpCmd} {resume : Bool} {s : State}
    (unused : (epOf n s).hben.testBit c.hb = false) : epCommand n c resume s = s := by
  simp [epCommand, unused]

theorem epCommand_of_stale {n : Nat} {c : EpCmd} {resume : Bool} {s : State}
    (used : (epOf n s).hben.testBit c.hb = true) (foreign : epOwned n c s = false) :
    epCommand n c resume s = epEvent n c.port 4 c.seq c.epoch s := by
  simp [epCommand, used, foreign]

/-- The half-bridge of a command of the owner waits for no RESUME any more (R190). -/
def epResumed (n : Nat) (c : EpCmd) (s : State) : State :=
  setEp n { epOf n s with wait := setBit (epOf n s).wait c.hb false } s

@[simp] theorem epOf_epResumed (n : Nat) (c : EpCmd) (s : State) :
    epOf n (epResumed n c s) = { epOf n s with wait := setBit (epOf n s).wait c.hb false } := epOf_setEp ..

@[simp] theorem epPort_epResumed (n p : Nat) (c : EpCmd) (s : State) : epPort n p (epResumed n c s) = epPort n p s := by
  simp [epResumed]

@[simp] theorem epResumed_frame (n : Nat) (c : EpCmd) (s : State) :
    (epResumed n c s).out = s.out ∧ (epResumed n c s).regs = s.regs ∧ (epResumed n c s).mem = s.mem := by
  simp [epResumed]

/-- How far ahead of the port time a command is stamped (R200). -/
def leadOf (n : Nat) (c : EpCmd) (s : State) : Nat := (c.stamp + 2 ^ 40 - portTime n c.port s.lt s) % 2 ^ 40

theorem leadOf_seqTaken (n seq : Nat) (c : EpCmd) (s : State) :
    leadOf n c (seqTaken n c.port seq s) = leadOf n c s := by
  unfold leadOf portTime
  rw [epPort_seqTaken]
  rfl

section

variable {n : Nat} {c : EpCmd} {resume : Bool} {s : State} (used : (epOf n s).hben.testBit c.hb = true)
  (own : epOwned n c s = true) (goes : (epOf n s).wait.testBit c.hb = false ∨ resume = true)

include used own goes

theorem epCommand_of_own : epCommand n c resume s =
    if 2 ^ 39 ≤ leadOf n c s ∨ leadOf n c s < 256 then epEvent n c.port 2 c.seq c.epoch (epResumed n c s)
    else if 2 ^ 20 < leadOf n c s then epEvent n c.port 5 c.seq c.epoch (epResumed n c s)
    else setEp n { epOf n (epResumed n c s) with cmds := (epOf n (epResumed n c s)).cmds ++ [c] } (epResumed n c s) := by
  have time : portTime n c.port s.lt (epResumed n c s) = portTime n c.port s.lt s := by
    simp [portTime]
  have acts : ((epOf n s).wait.testBit c.hb && !resume) = false := by
    rcases goes with free | again <;> simp [*]
  unfold epCommand leadOf
  rw [← time]
  dsimp only
  rw [if_neg (by simp [used]), if_neg (by simp [own]), if_neg (by simp [acts])]
  rfl

theorem epCommand_of_ahead (early : 256 ≤ leadOf n c s) (near : leadOf n c s ≤ 2 ^ 20) :
    epCommand n c resume s =
      setEp n { epOf n (epResumed n c s) with cmds := (epOf n (epResumed n c s)).cmds ++ [c] } (epResumed n c s) := by
  rw [epCommand_of_own used own goes, if_neg (by omega), if_neg (by omega)]

theorem epCommand_of_far (far : 2 ^ 20 < leadOf n c s) (ahead : leadOf n c s < 2 ^ 39) :
    epCommand n c resume s = epEvent n c.port 5 c.seq c.epoch (epResumed n c s) := by
  rw [epCommand_of_own used own goes, if_neg (by omega), if_pos far]

end

/-! A command at its stamp (R193, R200). -/

/-- A command that has reached its stamp waits no more. -/
def cmdTaken (n : Nat) (c : EpCmd) (s : State) : State := setEp n { epOf n s with cmds := (epOf n s).cmds.erase c } s

section

variable {n p seq td tm : Nat} {early noplat : Bool} {c : EpCmd} {s : State}
  (found : (epOf n s).cmds.find? (fun d => d.port == p && d.seq == seq) = some c)
  (reached : stampReached (portTime n p (s.lt + 15) s) c.stamp = true)

include found reached

/-- A turn-off, or a turn-on beside a switch that is measured and commanded off, drives its switch. -/
theorem epExecute_drives (silent : c.report = false)
    (free : c.on = true → (epOf n s).off.testBit (2 * c.hb + (if c.hi then 0 else 1)) = true ∧
      (epOf n s).gates.testBit (2 * c.hb + (if c.hi then 0 else 1)) = false) :
    epExecute n p seq td tm early noplat s = epDrive n c (cmdTaken n c s) := by
  unfold epExecute
  simp only [found]
  rw [if_pos reached, if_neg, if_neg (by simp [silent])]
  · rfl
  · intro skips
    simp only [Bool.and_eq_true] at skips
    obtain ⟨off, gate⟩ := free skips.1
    simp [off, gate] at skips

/-- A turn-on beside a switch that is not measured off is skipped. -/
theorem epExecute_skips (turnOn : c.on = true)
    (closed : (epOf n s).off.testBit (2 * c.hb + (if c.hi then 0 else 1)) = false) :
    epExecute n p seq td tm early noplat s = epEvent n p 1 c.seq c.epoch (cmdTaken n c s) := by
  unfold epExecute
  simp only [found]
  rw [if_pos reached, if_pos (by simp [turnOn, closed])]
  rfl

end

/-- What a drive leaves of the endpoint. -/
theorem epOf_epDrive (n : Nat) (c : EpCmd) (s : State) :
    epOf n (epDrive n c s) =
      { epOf n s with
        gates := setBit (epOf n s).gates (2 * c.hb + (if c.hi then 1 else 0)) c.on,
        drive := Tbl.put (2 * c.hb + (if c.hi then 1 else 0)) (c.pre, c.plat, c.ilev, c.stamp) (epOf n s).drive } :=
  epOf_setEp ..

/-! OFF (R189, R190). -/

/-- Both switches of the listed half-bridges are turned off. -/
theorem testBit_gatesOff (l : List Nat) (g j : Nat) :
    (l.foldl (fun g k => setBit (setBit g (2 * k) false) (2 * k + 1) false) g).testBit j =
      (g.testBit j && !decide (j / 2 ∈ l)) := by
  induction l generalizing g with
  | nil => simp
  | cons k l ih =>
    rw [List.foldl_cons, ih, testBit_setBit, testBit_setBit]
    by_cases low : j = 2 * k
    · simp [low]
    · by_cases high : j = 2 * k + 1
      · simp [high, show (2 * k + 1) / 2 = k by omega]
      · simp [low, high, show j / 2 ≠ k by omega]

theorem epOff_gates (n m : Nat) (s : State) {j : Nat} (small : j < 8) :
    (epOf n (epOff n m s)).gates.testBit j = ((epOf n s).gates.testBit j && !m.testBit (j / 2)) := by
  have named : j / 2 ∈ bitsOf 4 m ↔ m.testBit (j / 2) = true := by
    simp only [bitsOf, List.mem_filter, List.mem_range, and_iff_right_iff_imp]
    omega
  simp [epOff, testBit_gatesOff, named]

/-! CONFIG, EPOCH and TIME (R177, R181, R197). -/

/-- A CONFIG that is no repeat and whose identity fits sets the standing orders and is answered. -/
theorem epConfig_of_new {n p cseq hben lossto stativ epid seq0 : Nat} {s : State} (new : (epPort n p s).cseq ≠ some cseq)
    (fits : epid = 0 ∨ epid = (Config.endpointId n).toNat) :
    epConfig n p cseq hben lossto stativ epid seq0 s =
      let t := setEpPort n p { epPort n p s with cseq := some cseq, last := seq0, missing := [], taken := [] } s
      upTwice n p (cfgackBlock cseq (Config.endpointId n).toNat)
        (setEp n { epOf n t with hben := hben, lossto := lossto, stativ := stativ } t) := by
  unfold epConfig
  exact if_neg (by rcases fits with rfl | rfl <;> simp [new])

/-- The standing orders of a CONFIG, and its CFGACK. -/
theorem epConfig_orders {n p cseq hben lossto stativ epid seq0 : Nat} {s : State} (new : (epPort n p s).cseq ≠ some cseq)
    (fits : epid = 0 ∨ epid = (Config.endpointId n).toNat) :
    let t := epConfig n p cseq hben lossto stativ epid seq0 s
    (epOf n t).hben = hben ∧ (epOf n t).lossto = lossto ∧ (epOf n t).stativ = stativ ∧ (epPort n p t).last = seq0 ∧
      (epPort n p t).cseq = some cseq ∧ (epPort n p t).missing = [] ∧
      (epPort n p t).wait = (epPort n p s).wait ++
        [(4, cfgackBlock cseq (Config.endpointId n).toNat), (4, cfgackBlock cseq (Config.endpointId n).toNat)] ∧
      t.out = s.out ∧ (epOf n t).gates = (epOf n s).gates ∧ t.mem = s.mem := by
  have block : upClass (cfgackBlock cseq (Config.endpointId n).toNat) = 4 := upClass_block _ _ (by decide)
  dsimp only
  rw [epConfig_of_new new fits]
  exact ⟨by simp [upTwice], by simp [upTwice], by simp [upTwice], by simp [EpPort.waiting], by simp [EpPort.waiting],
    by simp, by simp [block], by simp, by simp [upTwice], by simp⟩

theorem epConfig_of_repeat {n p cseq hben lossto stativ epid seq0 : Nat} {s : State} (old : (epPort n p s).cseq = some cseq) :
    epConfig n p cseq hben lossto stativ epid seq0 s = s := by
  unfold epConfig
  exact if_pos (by simp [old])

theorem newer32_self {e : Nat} (small : e < 2 ^ 32) : newer32 e e = false := by
  unfold newer32
  rw [Nat.mod_eq_of_lt small, show e + 2 ^ 32 - e = 2 ^ 32 by omega]
  rfl

section

variable {n p e handoff : Nat} {s : State} (unclaimed : (epOf n s).claim = none)

include unclaimed

theorem epEpoch_of_newer (newer : newer32 e (epOf n s).epoch = true) :
    epEpoch n p e handoff s =
      setEp n { epOf n s with claim := some (e, p, handoff), epochs := Tbl.put p e (epOf n s).epochs } s := by
  simp [epEpoch, unclaimed, newer]

theorem epEpoch_of_conflict (small : e < 2 ^ 32) (equal : e = (epOf n s).epoch) (other : (epOf n s).owner ≠ p) :
    epEpoch n p e handoff s = epEvent n p 6 0 (e % 256) s := by
  subst equal
  simp [epEpoch, unclaimed, newer32_self small, Ne.symm other]

theorem epHandoff_of_unclaimed : epHandoff n s = s := by simp [epHandoff, unclaimed]

end

/-- An EPOCH that passes its check. -/
theorem exec_epEpochBlock (link : Fin 24) (port : Fin 2) (epochf : BitVec 32) (handoff : BitVec 40) (s : State) :
    exec (.epEpochBlock link port true epochf handoff) s = .next (epEpoch link port epochf.toNat handoff.toNat s) := by
  show Host.Outcome.next (epTakes _ _ true _ s) = _
  unfold epTakes
  rw [if_pos rfl]

/-- At HANDOFF the claim owns, and the commands of its port stay. -/
theorem epHandoff_of_reached {n e p h : Nat} {s : State} (claim : (epOf n s).claim = some (e, p, h))
    (reached : stampReached (portTime n p s.lt s) h = true) :
    ∃ keep : EpCmd → Bool, (∀ d, d.port = p → keep d = true) ∧ epHandoff n s =
      setEp n { epOf n s with epoch := e, owner := p, claim := none, cmds := (epOf n s).cmds.filter keep } s := by
  unfold epHandoff
  simp only [claim, reached, if_pos]
  exact ⟨_, fun d port => by simp [port], rfl⟩

/-- The port time at the delivery of TIME is LTTX + DFWD. -/
theorem portTime_epTime (n p lttx dfwd t : Nat) (s : State) :
    portTime n p t (epTime n p lttx dfwd t s) = (lttx + dfwd) % 2 ^ 40 := by
  simp only [portTime, epTime, epPort_setEpPort_same]
  omega

/-! O46: an EDGE block whose SEQ is accepted, with the port that has taken it. -/

/-- An EDGE block that passes its check, with a SEQ that is accepted. -/
theorem exec_epEdgeBlock_of_accepted {link : Fin 24} {port : Fin 2} {seq epoch : BitVec 8} {k : Fin 4}
    {hi turnOn report resume : Bool} {stamp : BitVec 40} {pre : BitVec 8} {plat : BitVec 10} {ilev : BitVec 4} {bin : Fin 8}
    {s u : State} (accepted : epSeq link port seq.toNat s = (u, true)) :
    exec (.epEdgeBlock link port true seq epoch k hi turnOn report resume stamp pre plat ilev bin) s =
      .next (epCommand link ⟨port, seq.toNat, epoch.toNat, k, hi, turnOn, stamp.toNat, pre.toNat, plat.toNat, ilev.toNat, bin,
        report⟩ resume u) := by
  show Host.Outcome.next (epTakes _ _ true _ s) = _
  unfold epTakes
  simp [accepted]

section

variable {n : Nat} {c : EpCmd} {resume : Bool} {s : State} (used : (epOf n s).hben.testBit c.hb = true)
  (unclaimed : (epOf n s).claim = none)

include used unclaimed

section

variable (owner : (epOf n s).owner = c.port) (epochs : (epOf n s).epoch % 256 = c.epoch)
  (goes : (epOf n s).wait.testBit c.hb = false ∨ resume = true)

include owner epochs goes

theorem edge_joins (early : 256 ≤ leadOf n c s) (near : leadOf n c s ≤ 2 ^ 20) :
    let t := epCommand n c resume (seqTaken n c.port c.seq s)
    (epOf n t).cmds = (epOf n s).cmds ++ [c] ∧ (epPort n c.port t).last = c.seq ∧ (epOf n t).wait.testBit c.hb = false ∧
      (epOf n t).gates = (epOf n s).gates ∧ t.out = s.out ∧ t.regs = s.regs ∧ t.mem = s.mem := by
  dsimp only
  rw [epCommand_of_ahead (by simpa using used) (by simp [epOwned_of_no_claim, unclaimed, owner, epochs]) (by simpa using goes)
    (by rwa [leadOf_seqTaken]) (by rwa [leadOf_seqTaken])]
  exact ⟨by simp, by simp [EpPort.took], by simp [testBit_setBit], by simp, by simp, by simp, by simp⟩

theorem edge_far (far : 2 ^ 20 < leadOf n c s) (ahead : leadOf n c s < 2 ^ 39) :
    let t := epCommand n c resume (seqTaken n c.port c.seq s)
    (epOf n t).cmds = (epOf n s).cmds ∧ (epOf n t).gates = (epOf n s).gates ∧
      (epPort n c.port t).wait = (epPort n c.port s).wait ++
        [(4, eventBlock 5 c.seq c.epoch c.port), (4, eventBlock 5 c.seq c.epoch c.port)] ∧
      t.regs = s.regs ∧ t.mem = s.mem := by
  dsimp only
  rw [epCommand_of_far (by simpa using used) (by simp [epOwned_of_no_claim, unclaimed, owner, epochs]) (by simpa using goes)
    (by rwa [leadOf_seqTaken]) (by rwa [leadOf_seqTaken])]
  exact ⟨by simp, by simp, by simp [EpPort.took], by simp, by simp⟩

end

theorem edge_stale (foreign : (epOf n s).owner ≠ c.port ∨ (epOf n s).epoch % 256 ≠ c.epoch) :
    let t := epCommand n c resume (seqTaken n c.port c.seq s)
    (epOf n t).cmds = (epOf n s).cmds ∧ (epOf n t).gates = (epOf n s).gates ∧
      (epPort n c.port t).wait = (epPort n c.port s).wait ++
        [(4, eventBlock 4 c.seq c.epoch c.port), (4, eventBlock 4 c.seq c.epoch c.port)] ∧
      t.regs = s.regs ∧ t.mem = s.mem := by
  have refused : epOwned n c (seqTaken n c.port c.seq s) = false := by
    simp only [epOf_seqTaken, epOwned_of_no_claim, unclaimed, Bool.and_eq_false_iff, beq_eq_false_iff_ne]
    exact foreign.imp Ne.symm Ne.symm
  dsimp only
  rw [epCommand_of_stale (by simpa using used) refused]
  exact ⟨by simp, by simp, by simp [EpPort.took], by simp, by simp⟩

end

/-- A SEQ passed over is NACKed; the half-bridge of this EDGE is not in use. -/
theorem edge_nacks {n p seq missed : Nat} {c : EpCmd} {resume : Bool} {s : State} (none : (epPort n p s).missing = [])
    (other : missed ≠ seq) (unused : (epOf n s).hben.testBit c.hb = false) :
    let t := epCommand n c resume (seqTaken n p seq (epMissing n p [missed] s))
    (epPort n p t).wait = (epPort n p s).wait ++ [(2, setNack missed)] ∧ t.out = s.out ∧
      (epPort n p t).missing = [(missed, s.lt, 1)] ∧ (epPort n p t).last = seq ∧ (epOf n t).cmds = (epOf n s).cmds ∧
      t.mem = s.mem := by
  dsimp only
  rw [epMissing_single none, epCommand_of_unused (by simpa using unused)]
  exact ⟨by simp [EpPort.took, upOn_eq], by simp [upOn_eq],
    by simp [EpPort.took, upOn_eq, none, other], by simp [EpPort.took], by simp, by simp [upOn_eq]⟩

/-- Settles O46: each block and each set by the rule of the endpoint, in the state that has accepted its SEQ. -/
theorem endpointCommands : Obligations.EndpointCommands := by
  unfold Obligations.EndpointCommands
  refine ⟨?joins, ?stale, ?far, ?nacks, ?turnsOff, ?turnsOn, ?skips, ?off, ?offFails, ?config, ?configAgain, ?claims,
    ?conflict, ?handoff, ?noClaim, ?time, ?timeAgain⟩
  case joins =>
    intro link port seq epoch k hi turnOn report resume stamp pre plat ilev bin s fits next used claim owner epochs goes early near
    exact ⟨_, exec_epEdgeBlock_of_accepted (epSeq_of_next fits next),
      edge_joins used claim owner epochs goes early near⟩
  case stale =>
    intro link port seq epoch k hi turnOn report resume stamp pre plat ilev bin s fits next used claim foreign
    exact ⟨_, exec_epEdgeBlock_of_accepted (epSeq_of_next fits next), edge_stale used claim foreign⟩
  case far =>
    intro link port seq epoch k hi turnOn report resume stamp pre plat ilev bin s fits next used claim owner epochs goes far ahead
    exact ⟨_, exec_epEdgeBlock_of_accepted (epSeq_of_next fits next),
      edge_far used claim owner epochs goes far ahead⟩
  case nacks =>
    intro link port seq epoch k hi turnOn report resume stamp pre plat ilev bin s fits skip none unused
    have missed : seqsFrom ((epPort link port s).last + 1) seq.toNat = [((epPort link port s).last + 1) % 256] :=
      seqsFrom_skip (by omega) (by omega)
    have accepted := epSeq_of_window (n := link) (p := port) (seq := seq.toNat) (s := s) (by omega) (by omega)
    rw [missed] at accepted
    exact ⟨_, exec_epEdgeBlock_of_accepted accepted, edge_nacks none (by omega) unused⟩
  case turnsOff =>
    intro link port seq td tm early noplat c s found reached turnOff silent
    refine ⟨_, congrArg Host.Outcome.next (epExecute_drives found reached silent (by simp [turnOff])), ?_⟩
    exact ⟨by simp [epOf_epDrive, cmdTaken, turnOff], by rw [← turnOff]; rfl, rfl, rfl⟩
  case turnsOn =>
    intro link port seq td tm early noplat c s found reached turnOn silent off gate
    refine ⟨_, congrArg Host.Outcome.next (epExecute_drives found reached silent (fun _ => ⟨off, gate⟩)), ?_⟩
    exact ⟨by simp [epOf_epDrive, cmdTaken, turnOn], by rw [← turnOn]; rfl, rfl, rfl⟩
  case skips =>
    intro link port seq td tm early noplat c s found reached turnOn closed
    refine ⟨_, congrArg Host.Outcome.next (epExecute_skips found reached turnOn closed), ?_⟩
    exact ⟨by simp [cmdTaken], by simp [cmdTaken], by simp [cmdTaken], by simp [cmdTaken], by simp [cmdTaken], by simp [cmdTaken]⟩
  case off =>
    intro link port m s
    refine ⟨_, rfl, ?_⟩
    exact ⟨fun j small => epOff_gates _ _ _ small, by simp [epTakes, epOff], by simp [epTakes, epOff, Nat.mod_eq_of_lt m.isLt],
      rfl, rfl, rfl⟩
  case offFails =>
    intro link port m s
    refine ⟨_, rfl, ?_⟩
    exact ⟨by simp [epTakes, epFail], by simp [epTakes, epFail], by simp [epTakes, epFail], rfl, rfl⟩
  case config =>
    intro link port cseq hben lossto stativ epid seq0 s new fits
    exact ⟨_, rfl, epConfig_orders new fits⟩
  case configAgain =>
    exact fun link port cseq hben lossto stativ epid seq0 s old => congrArg Host.Outcome.next (epConfig_of_repeat old)
  case claims =>
    intro link port epochf handoff s unclaimed newer
    rw [exec_epEpochBlock, epEpoch_of_newer unclaimed newer]
  case conflict =>
    intro link port epochf handoff s unclaimed equal other
    refine ⟨_, exec_epEpochBlock .., ?_⟩
    rw [epEpoch_of_conflict unclaimed epochf.isLt equal other]
    exact ⟨by simp [unclaimed], by simp, by simp, by simp, by simp, by simp, by simp⟩
  case handoff =>
    intro link e p h s claim reached
    obtain ⟨keep, own, run⟩ := epHandoff_of_reached claim reached
    refine ⟨_, congrArg Host.Outcome.next run, ?_⟩
    exact ⟨by simp, by simp, by simp, by simp, fun d port => by simp [own d port], rfl, rfl, rfl⟩
  case noClaim => exact fun link s unclaimed => congrArg Host.Outcome.next (epHandoff_of_unclaimed unclaimed)
  case time =>
    intro link port lttx dfwd x s
    refine ⟨_, rfl, ?_⟩
    exact ⟨portTime_epTime .., by simp [epTakes, epTime], by simp [epTakes, epTime], rfl, rfl, rfl⟩
  case timeAgain => exact fun link port lttx dfwd x s => rfl

end Sys2Proof.Machine
end

section
/-! SUPPORT. A receiver of an endpoint that loses sync (R177, R180), and O47: the port also forgets the CONFIG it acted on. -/

namespace Sys2Proof.Machine

/-- A link whose endpoint has acted on the CONFIG with CSEQ 1 on port A, in sync. -/
def configTaken : State :=
  { State.reset with ep := [(0, { EpSt.reset with ports := [(0, { EpPort.reset with rx := true, cseq := some 1 })] })] }

/-- Out of sync, the CONFIG of the next bring-up is no repeat (R177). -/
theorem cseq_of_epRxSyncLost {link : Fin 24} {port : Fin 2} {s t : State}
    (run : exec (.epRxSyncLost link port) s = .next t) : (epPort link port t).cseq = none := by
  rw [← Host.Outcome.next.inj run, epPort_setEpPort_same]

/-- Refutes O47: its fourth clause has the loss of sync change RX and the LT of the loss alone, but the port also forgets the
CSEQ of the last CONFIG acted on (R177), so that a port that had acted on one is another. -/
theorem not_endpointReports : ¬ Obligations.EndpointReports := by
  rintro ⟨-, -, -, lost, -⟩
  have forgotten := cseq_of_epRxSyncLost (lost 0 0 configTaken)
  rw [epPort_setEpPort_same] at forgotten
  exact absurd forgotten (by decide)

end Sys2Proof.Machine
end

section
/-! SUPPORT. The first round-trip request of a calibration (R182), and O44: it keeps LL_LEAD from the last request before it. -/

namespace Sys2Proof.Machine

@[simp] theorem lnkOf_setLnk (n : Nat) (x : LnkSt) (s : State) : lnkOf n (setLnk n x s) = x := Tbl.get_put_same ..

/-- The first request of a calibration waits for the earliest LT after the last request. -/
theorem rtq_startCal (n need : Nat) (again : Bool) (s : State) :
    (lnkOf n (startCal n need again s)).rtq = some (0, rtqFrom n s) := by
  simp [startCal, sendRtq]

/-- A link that waits in CONFIG for the CFGACK of its CSEQ 0 at LT 10,000; its LL_LEAD is 32,000 eu, and it sent the last request
of the attempt before at LT 1,000. -/
def requestSent : State :=
  { State.reset with
    configured := true
    lt := 10000
    regs := [(Reg.LLK_LCFG 0, fldSet Reg.LLK_LCFG_ENABLE 0 1), (Reg.LLK_LEAD 0, 32000),
      (Reg.LLK_STAT 0, fldSet Reg.LLK_STAT_STATE 0 lkConfig)]
    lnk := [(0, { LnkSt.reset with t1 := 1000 })] }

/-- The CFGACK starts the calibration at bring-up. -/
theorem exec_cfgackReceived_requestSent :
    exec (.cfgackReceived 0 true 0 0) requestSent =
      .next (startCal 0 16 false (setLinkState 0 lkCal (wr (Reg.LLK_EPINFO 0) 0 requestSent))) := by
  have clean : llErr 0 true requestSent = false := by decide
  have heard : receivedBlock 0 true (fun s => cfgackReceived 0 0 (wr (Reg.LLK_EPINFO 0) 0 s)) requestSent =
      cfgackReceived 0 0 (wr (Reg.LLK_EPINFO 0) 0 requestSent) := by
    unfold receivedBlock
    rw [clean, if_neg Bool.false_ne_true, received_of_enabled (by decide) (by decide)]
  refine congrArg Host.Outcome.next (heard.trans ?_)
  exact if_pos ⟨by decide, by decide⟩

/-- Refutes O44: its eighth clause has the first request of the calibration at bring-up wait from the LT of the CFGACK on, but the
requests of successive exchanges are at least LL_LEAD apart (R182), also from the last one of the attempt before. -/
theorem not_linkBringUp : ¬ Obligations.LinkBringUp := by
  rintro ⟨-, -, -, -, -, -, -, ack, -⟩
  obtain ⟨t, ran, -, -, -, first, -⟩ := ack 0 0 0 requestSent (by decide) (by decide) (by decide) (by decide)
  rw [← Host.Outcome.next.inj (exec_cfgackReceived_requestSent.symm.trans ran)] at first
  exact absurd ((rtq_startCal 0 16 false _).symm.trans first) (by decide)

end Sys2Proof.Machine
end

section
/-! SUPPORT. Each operation of the model keeps what every step keeps (`Kept`): chapter by chapter, from the
lemmas of its parts. -/

namespace Sys2Proof.Machine

/-- The parts of the state that `Kept` speaks of. -/
def storesOf (s : State) : List Instr × List Host.Cell × Tbl Word × NvSt × List Out :=
  (s.pending, s.mem, s.regs, s.nv, s.out)

namespace Kept

variable {s t u : State}

/-- A change of other parts of the state. -/
theorem elsewhere (k : Kept s t) (same : storesOf u = storesOf t) : Kept s u := by
  simp only [storesOf, Prod.mk.injEq] at same
  obtain ⟨pending, mem, regs, nv, out⟩ := same
  refine k.trans ⟨pending, ?_, ?_, ?_, ?_, ?_, ?_⟩
  · rw [mem]; exact id
  · rw [regs]; exact id
  · rw [nv]
  · rw [nv]; exact fun _ => id
  · rw [nv]; exact id
  · rw [out]

/-- What is steady in an FCLK keeps it. -/
theorem steady (k : Kept s t) (h : Steady t u) : Kept s u := k.trans h.toKept

theorem ite (k : Kept s t) {c : Prop} {_ : Decidable c} (l : Kept s u) : Kept s (if c then t else u) := by
  split
  · exact k
  · exact l

/-! The named writes. -/

theorem wrW (k : Kept s t) {a : Nat} {w : Word} : Kept s (wrW a w t) := wrW_kept k
theorem wr (k : Kept s t) {a n : Nat} : Kept s (wr a n t) := k.wrW
theorem wrI (k : Kept s t) {a : Nat} {x : Int} : Kept s (wrI a x t) := k.wrW
theorem setF (k : Kept s t) {a v : Nat} {F : Fld} : Kept s (setF a F v t) := k.wrW
theorem setB (k : Kept s t) {a : Nat} {F : Fld} {b : Bool} : Kept s (setB a F b t) := k.wrW
theorem setBitAt (k : Kept s t) {a i : Nat} {b : Bool} : Kept s (setBitAt a i b t) := k.wrW
theorem bump (k : Kept s t) {a n : Nat} {F : Fld} : Kept s (bump a F n t) := k.wrW
theorem wr64 (k : Kept s t) {lo hi n : Nat} : Kept s (wr64 lo hi n t) := k.wr.wr
theorem emit (k : Kept s t) {o : Out} : Kept s (emit o t) := emit_kept k
theorem stBytes (k : Kept s t) {a : Nat} {l : List Byte} : Kept s (stBytes a l t) := stBytes_kept k
theorem fresh (k : Kept s t) : Kept s (fresh t).2 := k.elsewhere rfl

theorem setBob (k : Kept s t) {n : Nat} {x : BobSt} : Kept s (setBob n x t) := k.elsewhere rfl
theorem setDrm (k : Kept s t) {n : Nat} {x : DrumSt} : Kept s (setDrm n x t) := k.elsewhere rfl
theorem setInst (k : Kept s t) {n : Nat} {x : InstSt} : Kept s (setInst n x t) := k.elsewhere rfl
theorem setSti (k : Kept s t) {n : Nat} {x : StiSt} : Kept s (setSti n x t) := k.elsewhere rfl
theorem setCar (k : Kept s t) {n : Nat} {x : CarSt} : Kept s (setCar n x t) := k.elsewhere rfl
theorem setHb (k : Kept s t) {n : Nat} {x : HbSt} : Kept s (setHb n x t) := k.elsewhere rfl
theorem setPgn (k : Kept s t) {n : Nat} {x : PgnSt} : Kept s (setPgn n x t) := k.elsewhere rfl
theorem setLnk (k : Kept s t) {n : Nat} {x : LnkSt} : Kept s (setLnk n x t) := k.elsewhere rfl
theorem setEp (k : Kept s t) {n : Nat} {x : EpSt} : Kept s (setEp n x t) := k.elsewhere rfl
theorem setLane (k : Kept s t) {n : Nat} {x : LaneSt} : Kept s (setLane n x t) := k.elsewhere rfl
theorem setBank (k : Kept s t) {n : Nat} {x : AdcSt} : Kept s (setBank n x t) := k.elsewhere rfl
theorem setChan (k : Kept s t) {n : Nat} {x : HmpCh} : Kept s (setChan n x t) := k.elsewhere rfl
theorem setDma (k : Kept s t) {n : Nat} {x : DmaSt} : Kept s (setDma n x t) := k.elsewhere rfl
theorem setLock (k : Kept s t) {n : Nat} {x : Lock} : Kept s (setLock n x t) := k.elsewhere rfl

theorem withPwHeld (k : Kept s t) {x : Tbl (Option Word)} : Kept s { t with pwHeld := x } := k.elsewhere rfl
theorem withLt (k : Kept s t) {x : Nat} : Kept s { t with lt := x } := k.elsewhere rfl
theorem withEvt (k : Kept s t) {x : EvtSt} : Kept s { t with evt := x } := k.elsewhere rfl
theorem withMacRetire (k : Kept s t) {x : List Nat} : Kept s { t with macRetire := x } := k.elsewhere rfl
theorem withTack (k : Kept s t) {x : TackSt} : Kept s { t with tack := x } := k.elsewhere rfl
theorem withGpioOut (k : Kept s t) {x : Nat} : Kept s { t with gpioOut := x } := k.elsewhere rfl
theorem withGpioIn (k : Kept s t) {x : Nat} : Kept s { t with gpioIn := x } := k.elsewhere rfl
theorem withPar (k : Kept s t) {x : ParSt} : Kept s { t with par := x } := k.elsewhere rfl
theorem withPrt (k : Kept s t) {x : PrtSt} : Kept s { t with prt := x } := k.elsewhere rfl
theorem withHmp (k : Kept s t) {x : HmpSt} : Kept s { t with hmp := x } := k.elsewhere rfl
theorem withFab (k : Kept s t) {x : FabSt} : Kept s { t with fab := x } := k.elsewhere rfl
theorem withOverRun (k : Kept s t) {x : List Nat} : Kept s { t with overRun := x } := k.elsewhere rfl
theorem withDiagRun (k : Kept s t) {x : List Nat} : Kept s { t with diagRun := x } := k.elsewhere rfl
theorem withSpn (k : Kept s t) {x : SpnSt} : Kept s { t with spn := x } := k.elsewhere rfl
theorem withCyc (k : Kept s t) {x : CycSt} : Kept s { t with cyc := x } := k.elsewhere rfl
theorem withPwr (k : Kept s t) {x : PwrSt} : Kept s { t with pwr := x } := k.elsewhere rfl
theorem withClk (k : Kept s t) {x : ClkSt} : Kept s { t with clk := x } := k.elsewhere rfl
theorem withJtag (k : Kept s t) {x : JtagSt} : Kept s { t with jtag := x } := k.elsewhere rfl

/-- What is burned stays burned: a write of the nonvolatile store. -/
theorem burn (k : Kept s t) {x : NvSt} (arb : t.nv.arb ≤ x.arb)
    (revoked : ∀ i, t.nv.revoked.testBit i = true → x.revoked.testBit i = true)
    (testlock : t.nv.testlock = true → x.testlock = true) : Kept s { t with nv := x } :=
  k.trans ⟨rfl, id, id, arb, revoked, testlock, List.prefix_rfl⟩

/-- A write of the nonvolatile store that burns nothing. -/
theorem withNv (k : Kept s t) {x : NvSt}
    (same : (x.arb, x.revoked, x.testlock) = (t.nv.arb, t.nv.revoked, t.nv.testlock) := by rfl) :
    Kept s { t with nv := x } := by
  simp only [Prod.mk.injEq] at same
  obtain ⟨arb, revoked, testlock⟩ := same
  exact k.burn arb.ge (fun _ => revoked ▸ id) (testlock ▸ id)

/-! Conditions and folds. -/

theorem when (k : Kept s t) {c : Bool} {f : State → State} (hf : ∀ u, Kept s u → Kept s (f u)) : Kept s (when c f t) :=
  when_kept k hf

theorem each {α : Type} (k : Kept s t) {l : List α} {f : α → State → State} (hf : ∀ x u, Kept s u → Kept s (f x u)) :
    Kept s (each l f t) := each_kept k hf

theorem foldl_fst {α β : Type} {z : α} (k : Kept s t) {l : List β} {f : State × α → β → State × α}
    (hf : ∀ p x, Kept s p.1 → Kept s (f p x).1) : Kept s (l.foldl f (t, z)).1 := foldl_fst_kept k hf

theorem foldl_snd {α β : Type} {z : α} (k : Kept s t) {l : List β} {f : α × State → β → α × State}
    (hf : ∀ p x, Kept s p.2 → Kept s (f p x).2) : Kept s (l.foldl f (z, t)).2 := foldl_snd_kept k hf

theorem under (k : Kept s t) {a b : Nat} {f : State → State} (hf : ∀ u, Kept s u → Kept s (f u)) : Kept s (under a b f t) :=
  .withEvt (hf _ k.withEvt)

/-! Registers. -/

theorem setWord (k : Kept s t) {st w : Nat} : Kept s (setWord st w t) := k.steady (.setWord (.refl t))

/-! The stored words and the event index. -/

theorem stN (k : Kept s t) {a n v : Nat} : Kept s (stN a n v t) := k.steady (.stN (.refl t))

theorem busAsk (k : Kept s t) {q a n : Nat} : Kept s (busAsk q a n t) := k.steady (.busAsk (.refl t))

theorem busUse (k : Kept s t) {q a n : Nat} {f : State → State} (hf : ∀ u, Kept s u → Kept s (f u)) :
    Kept s (busUse q a n f t) := k.ite ((hf _ k).busAsk)

/-! Events, upsets and causes (08). -/

theorem evtShow (k : Kept s t) : Kept s (evtShow t) := k.steady (.evtShow (.refl t))

theorem hmpPulse (k : Kept s t) {code i : Nat} : Kept s (hmpPulse code i t) := k.steady (.hmpPulse (.refl t))

theorem flushLoss (k : Kept s t) : Kept s (flushLoss t) := k.steady (.flushLoss (.refl t))

theorem capCopy (k : Kept s t) : Kept s (capCopy t) := k.steady (.capCopy (.refl t))

theorem capEnd (k : Kept s t) : Kept s (capEnd t) := k.steady (.capEnd (.refl t))

theorem record (k : Kept s t) {src grade detail : Nat} {stg : Option Nat} : Kept s (record src grade detail stg t) :=
  k.steady (.record (.refl t))

theorem recordAtf (k : Kept s t) {src grade detail atf : Nat} {stg : Option Nat} :
    Kept s (recordAtf src grade detail atf stg t) := k.steady (.recordAtf (.refl t))

theorem setCtr (k : Kept s t) {id : Nat} {x : Nat × Nat} : Kept s (setCtr id x t) := k.steady (.setCtr (.refl t))

theorem ucShow (k : Kept s t) : Kept s (ucShow t) := k.steady (.ucShow (.refl t))

theorem upset (k : Kept s t) {id : Nat} : Kept s (upset id t).1 := k.steady (.upset (.refl t))

theorem upsetThen (k : Kept s t) {id : Nat} {react : State → State} (hreact : ∀ u, Kept s u → Kept s (react u)) :
    Kept s (upsetThen id react t) := (k.upset.under hreact).ite k.upset

theorem addG3 (k : Kept s t) {st : Nat} {c : Cause} : Kept s (addG3 st c t) := k.steady (.addG3 (.refl t))

theorem dropG3 (k : Kept s t) {st : Nat} {c : Cause} : Kept s (dropG3 st c t) := k.steady (.dropG3 (.refl t))

theorem addG5 (k : Kept s t) {st : Nat} {c : Cause} : Kept s (addG5 st c t) := k.steady (.addG5 (.refl t))

theorem dropG5 (k : Kept s t) {st : Nat} {c : Cause} : Kept s (dropG5 st c t) := k.steady (.dropG5 (.refl t))

theorem dropCause (k : Kept s t) {c : Cause} : Kept s (dropCause c t) := k.steady (.dropCause (.refl t))

/-! Holds, grades and the edges sent (06, 08, 09). -/

theorem setLinkState (k : Kept s t) {n i : Nat} : Kept s (setLinkState n i t) := k.steady (.setLinkState (.refl t))

theorem linkFlag (k : Kept s t) {n : Nat} {F : Fld} : Kept s (linkFlag n F t) := k.setB.setBitAt

theorem sendOff (k : Kept s t) {n mask : Nat} : Kept s (sendOff n mask t) := k.steady (.sendOff (.refl t))

theorem legRise (k : Kept s t) {n : Nat} : Kept s (legRise n t) := k.steady (.legRise (.refl t))

theorem noteOn (k : Kept s t) {h stamp : Nat} {hi : Bool} : Kept s (noteOn h hi stamp t) := k.steady (.noteOn (.refl t))

theorem legOff (k : Kept s t) {n : Nat} : Kept s (legOff n t) := k.steady (.legOff (.refl t))

theorem uncountLow (k : Kept s t) {h i : Nat} : Kept s (uncountLow h i t) := k.steady (.uncountLow (.refl t))

theorem holdHb (k : Kept s t) {cause h : Nat} : Kept s (holdHb cause h t) := k.steady (.holdHb (.refl t))

theorem holdMany (k : Kept s t) {cause : Nat} {hs : List Nat} : Kept s (holdMany cause hs t) := k.steady (.holdMany (.refl t))

theorem clearHold (k : Kept s t) {cause h : Nat} : Kept s (clearHold cause h t) := k.steady (.clearHold (.refl t))

theorem trackIn (k : Kept s t) {n : Nat} : Kept s (trackIn n t) := k.steady (.trackIn (.refl t))

theorem pulsesOff (k : Kept s t) {st detail : Nat} : Kept s (pulsesOff st detail t) := k.steady (.pulsesOff (.refl t))

theorem gradeG3 (k : Kept s t) {st : Nat} {c : Option Cause} : Kept s (gradeG3 st c t) := k.steady (.gradeG3 (.refl t))

theorem gradeG5For (k : Kept s t) {reason st : Nat} {c : Option Cause} : Kept s (gradeG5For reason st c t) :=
  k.steady (.gradeG5For (.refl t))

theorem gradeG5 (k : Kept s t) {st : Nat} {c : Option Cause} : Kept s (gradeG5 st c t) := k.steady (.gradeG5 (.refl t))

theorem gradeG5All (k : Kept s t) {sts : List Nat} {c : Option Cause} : Kept s (gradeG5All sts c t) :=
  k.steady (.gradeG5All (.refl t))

theorem gradeG3All (k : Kept s t) {sts : List Nat} {c : Option Cause} : Kept s (gradeG3All sts c t) :=
  k.steady (.gradeG3All (.refl t))

theorem pulsesEnable (k : Kept s t) {st : Nat} : Kept s (pulsesEnable st t) := k.steady (.pulsesEnable (.refl t))

theorem pulsesAuto (k : Kept s t) {st : Nat} : Kept s (pulsesAuto st t) := k.steady (.pulsesAuto (.refl t))

theorem setRole (k : Kept s t) {r : Nat} : Kept s (setRole r t) := k.steady (.setRole (.refl t))

theorem fence (k : Kept s t) : Kept s (fence t) := k.withPar.capEnd.setRole.record.setB.ite k

theorem enterSyncing (k : Kept s t) : Kept s (enterSyncing t) := k.steady (.enterSyncing (.refl t))

theorem epochSeen (k : Kept s t) {bits low : Nat} : Kept s (epochSeen bits low t) := k.withPar.ite k

theorem verified (k : Kept s t) {a : Nat} : Kept s (verified a t) := k.steady (.verified (.refl t))

theorem endHold (k : Kept s t) {a : Nat} : Kept s (endHold a t) := k.steady (.endHold (.refl t))

theorem pairFrom (k : Kept s t) {a by_ : Nat} {f : State → State} (hf : ∀ u, Kept s u → Kept s (f u)) :
    Kept s (pairFrom a by_ f t) := k.when (fun _ hu => hf _ hu.endHold)

theorem pairStore (k : Kept s t) {a : Nat} {f : State → State} (hf : ∀ u, Kept s u → Kept s (f u)) : Kept s (pairStore a f t) :=
  k.when (fun _ hu => hf _ hu.endHold)

theorem portTaken (k : Kept s t) {p n : Nat} {urgent : Bool} : Kept s (portTaken p n urgent t) :=
  k.steady (.portTaken (.refl t))

theorem urgentGo (k : Kept s t) {p : Nat} : Kept s (urgentGo p t) := k.steady (.urgentGo (.refl t))

theorem urgentPut (k : Kept s t) {p : Nat} {x : Urgent} : Kept s (urgentPut p x t) := k.steady (.urgentPut (.refl t))

theorem urgentOut (k : Kept s t) {x : Urgent} : Kept s (urgentOut x t) := k.steady (.urgentOut (.refl t))

theorem sendUrgent (k : Kept s t) {kind : Nat} {payload : List Nat} : Kept s (sendUrgent kind payload t) :=
  k.steady (.sendUrgent (.refl t))

theorem refereeFrame (k : Kept s t) {kind : Nat} : Kept s (refereeFrame kind t) := k.steady (.refereeFrame (.refl t))

theorem gradeG4 (k : Kept s t) {c : Option Cause} : Kept s (gradeG4 c t) := k.steady (.gradeG4 (.refl t))

theorem overflowG4 (k : Kept s t) {src detail : Nat} {c : Option Cause} : Kept s (overflowG4 src detail c t) :=
  k.steady (.overflowG4 (.refl t))

theorem retireRecord (k : Kept s t) {h : Nat} : Kept s (retireRecord h t) := k.steady (.retireRecord (.refl t))

theorem retireHb (k : Kept s t) {h : Nat} : Kept s (retireHb h t) :=
  k.ite (k.withPar.retireRecord.when (fun _ hu => hu.under (fun _ hv => hv.gradeG5)))

theorem retireLink (k : Kept s t) {n : Nat} : Kept s (retireLink n t) := k.ite k.record.linkFlag.withEvt

theorem linkUpset (k : Kept s t) {n row : Nat} : Kept s (linkUpset n row t) := k.upsetThen (fun _ hu => hu.retireLink)

theorem missedEdge (k : Kept s t) {src h : Nat} : Kept s (missedEdge src h t) :=
  k.holdMany.setLnk.linkFlag.bump.record.linkUpset

theorem mismatch (k : Kept s t) {a : Nat} : Kept s (mismatch a t) := k.steady (.mismatch (.refl t))

/-! What a lane shows (10). -/

theorem laneSum (k : Kept s t) {l : Nat} : Kept s (laneSum l t) := k.setBitAt

theorem laneFlag (k : Kept s t) {l : Nat} {F : Fld} : Kept s (laneFlag l F t) := k.steady (.laneFlag (.refl t))

theorem setLaneValid (k : Kept s t) {l : Nat} {b : Bool} : Kept s (setLaneValid l b t) := k.setB.setBitAt

/-! The Hamper unit (11). -/

theorem setHmpState (k : Kept s t) {i : Nat} : Kept s (setHmpState i t) := k.steady (.setHmpState (.refl t))

theorem chPush (k : Kept s t) {c : Nat} {e : HEnt} : Kept s (chPush c e t) := k.steady (.chPush (.refl t))

theorem chMark (k : Kept s t) {c value lt : Nat} : Kept s (chMark c value lt t) := k.steady (.chMark (.refl t))

theorem captureCheck (k : Kept s t) : Kept s (captureCheck t) := k.steady (.captureCheck (.refl t))

theorem chPost (k : Kept s t) {c idx : Nat} : Kept s (chPost c idx t) := k.steady (.chPost (.refl t))

theorem skewPair (k : Kept s t) {c : Nat} {a b : Int × Int} : Kept s (skewPair c a b t) := k.steady (.skewPair (.refl t))

theorem pinsDue (k : Kept s t) {i : Nat} : Kept s (pinsDue i t) := k.steady (.pinsDue (.refl t))

theorem chMarks (k : Kept s t) {c : Nat} : Kept s (chMarks c t) := k.steady (.chMarks (.refl t))

theorem chReduce (k : Kept s t) {c : Nat} : Kept s (chReduce c t) := k.steady (.chReduce (.refl t))

theorem chGap (k : Kept s t) {c : Nat} : Kept s (chGap c t) := k.setChan.record.chMark.ite k

theorem chLose (k : Kept s t) {c : Nat} : Kept s (chLose c t) := k.setChan.bump.setB.setB

theorem chStore (k : Kept s t) {c lt at_ : Nat} {v : Int} : Kept s (chStore c v lt at_ t) :=
  (k.chPush.chPost.ite k.chPush).captureCheck

theorem thresholds (k : Kept s t) {c lt : Nat} {v : Int} : Kept s (thresholds c v lt t) :=
  k.each (fun _ _ hu => hu.withHmp.when (fun _ hv => hv.hmpPulse))

theorem chSample (k : Kept s t) {c : Nat} {x : Smp} : Kept s (chSample c x t) := by
  unfold Machine.chSample
  split
  · split
    extract_lets t1 t2 _ t3 t4 _ t5
    have k1 : Kept s t1 := k.thresholds.ite k
    have k2 : Kept s t2 := by
      unfold t2
      split
      · exact k1.skewPair
      · exact k1
    have k3 : Kept s t3 := k2.setChan
    have k4 : Kept s t4 := k3.chGap
    have k5 : Kept s t5 := k4.setChan
    exact k4.chLose.ite (k5.chStore.chReduce.ite k5)
  · exact k

theorem hmpSample (k : Kept s t) {raw : Bool} {src : Nat} {x : Smp} : Kept s (hmpSample raw src x t) :=
  k.each (fun _ _ hu => hu.chSample)

theorem hmpRaw (k : Kept s t) {r t64 : Nat} {v : Int} : Kept s (hmpRaw r v t64 t) := k.each (fun _ _ hu => hu.chSample)

theorem chDrain (k : Kept s t) {c : Nat} : Kept s (chDrain c t) := (k.each (fun _ _ hu => hu.stBytes)).setChan.wr.chMarks

theorem timerExpire (k : Kept s t) {i : Nat} : Kept s (timerExpire i t) := by
  unfold Machine.timerExpire
  split
  · exact k.withHmp.ite k
  · exact k

theorem hmpResult (k : Kept s t) {r : Nat} : Kept s (hmpResult r t) := k.setF

theorem hmpArmIn (k : Kept s t) : Kept s (hmpArmIn t) :=
  ((k.withHmp.setF.each (fun _ _ hu => hu.wr)).each (fun _ _ hu => hu.setChan.wr.wr.wr)).setHmpState.record

theorem hmpArm (k : Kept s t) : Kept s (hmpArm t).1 := by
  unfold Machine.hmpArm
  split
  · exact k.hmpArmIn
  · exact k.bump

theorem hmpArmCmd (k : Kept s t) : Kept s (hmpArmCmd t) := k.hmpArm.hmpResult

theorem hmpForce (k : Kept s t) : Kept s (hmpForce t) := k.hmpPulse.hmpResult.ite k.hmpResult

theorem hmpAbort (k : Kept s t) : Kept s (hmpAbort t) :=
  k.hmpResult.ite (k.hmpResult.ite ((k.setHmpState.each (fun _ _ hu => hu.setChan)).hmpResult))

theorem hmpRelease (k : Kept s t) : Kept s (hmpRelease t) := k.setHmpState.hmpResult.ite k.hmpResult

theorem pinPulse (k : Kept s t) {n : Nat} : Kept s (pinPulse n t) := by
  unfold Machine.pinPulse
  split
  · exact k
  · exact k.setB.withHmp.ite (k.emit.emit.withHmp.ite k)

theorem pinCal (k : Kept s t) {n tc arrival : Nat} : Kept s (pinCal n tc arrival t) :=
  k.withHmp.wr.setBitAt.ite k.withHmp.setB.record

theorem calReceived (k : Kept s t) {tc : Nat} : Kept s (calReceived tc t) := by
  unfold Machine.calReceived
  refine k.each (fun _ u1 k1 => ?_)
  split
  · exact k1.pinCal.ite k1.withHmp
  · exact k1.withHmp

theorem pinArrive (k : Kept s t) {n : Nat} : Kept s (pinArrive n t) := by
  unfold Machine.pinArrive
  split
  · exact k
  · extract_lets _ t1 t2
    have k1 : Kept s t1 := k.withHmp
    have k2 : Kept s t2 := k1.hmpPulse.ite k1.bump
    split
    · exact k2.pinCal.ite k2
    · exact k2

theorem hmpCal (k : Kept s t) : Kept s (hmpCal t) := (k.withHmp.sendUrgent.ite k).pinsDue.hmpResult

theorem trigReceived (k : Kept s t) {ct : Nat} : Kept s (trigReceived ct t) := k.ite (k.setB.ite k.hmpPulse)

/-! Samples to the Hamper channels (11). -/

theorem setBlock (k : Kept s t) {st : Nat} {bus : Bool} {m : MeasSt} : Kept s (setBlock st bus m t) := k.setDrm

theorem setBlockValid (k : Kept s t) {st : Nat} {bus b : Bool} : Kept s (setBlockValid st bus b t) :=
  (k.setB.ite k.setB.setDrm.wr.wr.wr).ite (k.setB.dropG3.ite k.setB)

theorem blockLost (k : Kept s t) {st : Nat} {bus : Bool} : Kept s (blockLost st bus t) := by
  unfold Machine.blockLost
  extract_lets _ _ t1 t2
  have k1 : Kept s t1 := k.setBlock
  have k2 : Kept s t2 := k1.setBlockValid
  exact (k2.record.gradeG3.ite k2).ite k1

theorem blockSet (k : Kept s t) {st stamp : Nat} {bus : Bool} {vals : List Int} : Kept s (blockSet st bus stamp vals t) :=
  k.setBlock.ite k.setBlock.setBlockValid

theorem blockSample (k : Kept s t) {st l : Nat} {bus : Bool} {x : Smp} : Kept s (blockSample st bus l x t) :=
  (k.setBlock.blockSet.ite k.setBlock).ite k

theorem blocksLaneLost (k : Kept s t) {l : Nat} : Kept s (blocksLaneLost l t) :=
  k.each (fun _ _ hu => hu.each (fun _ _ hv => hv.blockLost.ite hv))

theorem blocksSample (k : Kept s t) {l : Nat} {x : Smp} : Kept s (blocksSample l x t) :=
  k.each (fun _ _ hu => hu.each (fun _ _ hv => hv.blockSample))

theorem blockTimeout (k : Kept s t) {st : Nat} {bus : Bool} : Kept s (blockTimeout st bus t) := k.blockLost.ite k

/-! The rinse lanes (10). -/

theorem laneStop (k : Kept s t) {l grade : Nat} : Kept s (laneStop l grade t) :=
  k.setLane.setB.setB.setLaneValid.setF.laneFlag.record.blocksLaneLost

theorem laneUpset (k : Kept s t) {l : Nat} : Kept s (laneUpset l t) :=
  (k.upset.under (fun _ hu => hu.setB.laneFlag.laneStop.under (fun _ hv => hv.gradeG5All))).ite k.upset.laneStop

theorem stageRun (k : Kept s t) {l i : Nat} {x : RSmp} : Kept s (stageRun l i x t).2 := by
  unfold Machine.stageRun
  extract_lets _ _ _ _ _ t1 _ _ _ _
  have k1 : Kept s t1 := k.setLane
  split
  · exact k1
  · exact k1

theorem chainRun {l : Nat} : ∀ {is : List Nat} {x : RSmp} {sat : Bool} {t : State}, Kept s t →
    Kept s (chainRun l is x sat t).2.2
  | [], _, _, _, k => k
  | _ :: _, _, _, _, k => by
    unfold Machine.chainRun
    split
    · rename_i e
      exact Kept.chainRun (.of_snd e k.stageRun)
    · rename_i e
      exact .of_snd e k.stageRun

theorem satRun (k : Kept s t) {l : Nat} {sat : Bool} : Kept s (satRun l sat t) := by
  unfold Machine.satRun
  extract_lets _ t1
  have k1 : Kept s t1 := k.setLane.when (fun _ hu => hu.laneFlag)
  exact k1.record.ite k1

theorem laneWait (k : Kept s t) {l ready : Nat} {x : Smp} : Kept s (laneWait l x ready t) := k.setLane

theorem laneGrid (k : Kept s t) {l : Nat} : Kept s (laneGrid l t) := by
  unfold Machine.laneGrid
  extract_lets _ _
  split
  · exact (k.each (fun _ _ hu => hu.setLane.laneWait)).ite k
  · exact k

theorem laneOutput (k : Kept s t) {l : Nat} {x : RSmp} : Kept s (laneOutput l x t) := (k.laneWait.ite k).ite k.setLane.laneGrid

theorem laneAccept (k : Kept s t) {l t64 : Nat} {v : Int} {ok : Bool} : Kept s (laneAccept l v t64 ok t) := by
  unfold Machine.laneAccept
  extract_lets _ _ t1 t2 _ t3 t4 _
  have k1 : Kept s t1 := k.when (fun _ hu => hu.setB.setB.setB)
  have k2 : Kept s t2 := k1.setLane
  have k3 : Kept s t3 := k2.when (fun _ hu => hu.setB)
  have k4 : Kept s t4 := k3.setF
  split
  · split
    · rename_i u5 e5
      have k5 : Kept s u5 := .of_snd2 e5 k4.chainRun
      exact k5.satRun.laneOutput
    · rename_i u6 e6
      have k6 : Kept s u6 := .of_snd2 e6 k4.chainRun
      exact k6.when (fun _ hu => hu.satRun)
  · exact k4.laneUpset

theorem laneInput (k : Kept s t) {l : Nat} {ok : Bool} : Kept s (laneInput l ok t) := by
  unfold Machine.laneInput
  extract_lets _
  split
  · exact k
  · exact k.setLane.ite (k.setLane.laneAccept.ite (k.setLane.laneStop.laneAccept.ite ((k.setLane.when (fun _ hu =>
    hu.laneFlag.bump)).laneAccept)))

theorem laneTimeout (k : Kept s t) {l : Nat} : Kept s (laneTimeout l t) := k.laneStop.ite k

theorem laneRing (k : Kept s t) {l : Nat} {x : Smp} : Kept s (laneRing l x t) :=
  (k.laneFlag.bump.ite (k.busUse (fun _ hu => hu.stBytes.wr))).ite k

theorem laneRelease (k : Kept s t) {l : Nat} : Kept s (laneRelease l t) := by
  unfold Machine.laneRelease
  extract_lets _
  split
  · exact k
  · exact k.ite (k.setLane.laneFlag.bump.ite ((k.setLane.ite
    k.setLane.setLaneValid.laneFlag.record).setLane.wr.blocksSample.laneRing.hmpSample))

theorem rridxWrite (k : Kept s t) {l v : Nat} : Kept s (rridxWrite l v t) := k.ite k.wr

theorem lanesRate (k : Kept s t) {b : Nat} : Kept s (lanesRate b t) := k.each (fun _ _ hu => hu.ite hu.setLane.wr.laneStop)

theorem lanesBankRetired (k : Kept s t) {b : Nat} : Kept s (lanesBankRetired b t) :=
  k.each (fun _ _ hu => hu.ite hu.setB.laneStop)

theorem streamSample (k : Kept s t) {r t64 : Nat} {v : Int} : Kept s (streamSample r v t64 t) :=
  (k.each (fun _ _ hu => hu.setLane)).hmpRaw

/-! The slot table and its locks (05). -/

theorem tackNext (k : Kept s t) {n : Nat} : Kept s (tackNext n t) := k.steady (.tackNext (.refl t))

theorem tackFired (k : Kept s t) {n : Nat} : Kept s (tackFired n t) := k.steady (.tackFired (.refl t))

theorem firing (k : Kept s t) {n act : Nat} {eff : Slot → State → State} (heff : ∀ x u, Kept s u → Kept s (eff x u)) :
    Kept s (firing n act eff t) := (heff _ _ k.tackFired).ite k

theorem fixReached (k : Kept s t) {st : Nat} : Kept s (fixReached st t) := k.steady (.fixReached (.refl t))

theorem stage (k : Kept s t) {i : Nat} {x : Staged} : Kept s (stage i x t) := k.setLock

theorem loadShow (k : Kept s t) : Kept s (loadShow t) := k.steady (.loadShow (.refl t))

/-! Slot and lock commands (05). -/

theorem slotResult (k : Kept s t) {result cause n : Nat} {staged : Bool} : Kept s (slotResult result cause n staged t) := by
  unfold Machine.slotResult
  exact k.setB.setF.setF.setF.when (fun _ hu => hu.setB.record)

theorem slotCommand (k : Kept s t) {op n by_ : Nat} : Kept s (slotCommand op n by_ t) :=
  k.slotResult.ite (k.slotResult.ite k.withTack.setB)

theorem acceptSlot (k : Kept s t) {n : Nat} {c : Option Slot} : Kept s (acceptSlot n c t) := by
  unfold Machine.acceptSlot
  split
  · exact k.stage.slotResult
  · exact (k.when (fun _ hu => hu.withPar)).withTack.slotResult.wr64

theorem admissionEnd (k : Kept s t) : Kept s (admissionEnd t) := by
  unfold Machine.admissionEnd
  split
  · exact k
  · extract_lets _ t1 _ _
    have k1 : Kept s t1 := k.withTack.setB
    refine .loadShow ?_
    split
    · exact k1.acceptSlot.ite k1.slotResult
    · exact k1.slotResult.ite (k1.slotResult.ite (k1.withTack.slotResult.ite k1.acceptSlot))

theorem installSlot (k : Kept s t) {n at_ : Nat} {c : Option Slot} : Kept s (installSlot n c at_ t) :=
  k.steady (.installSlot (.refl t))

theorem slotSwitch (k : Kept s t) {n : Nat} : Kept s (slotSwitch n t) := by
  unfold Machine.slotSwitch
  split
  · exact k
  · exact k.withTack.installSlot.loadShow.ite k

theorem lockResult (k : Kept s t) {result cause i : Nat} : Kept s (lockResult result cause i t) := by
  unfold Machine.lockResult
  exact k.setF.setF.when (fun _ hu => hu.setB.record)

theorem lockLeft (k : Kept s t) {i : Nat} : Kept s (lockLeft i t) := k.setF

theorem lockAcquire (k : Kept s t) {i kind st by_ : Nat} : Kept s (lockAcquire i kind st by_ t) :=
  k.lockResult.ite (k.lockResult.ite (k.lockResult.ite (k.lockResult.ite (k.lockResult.ite
    k.wr.wr.setLock.lockResult.lockLeft))))

theorem lockRenew (k : Kept s t) {i by_ : Nat} : Kept s (lockRenew i by_ t) :=
  k.lockResult.ite (k.lockResult.ite k.setLock.lockResult.lockLeft)

theorem lockCommit (k : Kept s t) {i by_ : Nat} : Kept s (lockCommit i by_ t) :=
  k.lockResult.ite ((k.when (fun _ hu => hu.withPar)).setLock.lockResult)

theorem lockFree (k : Kept s t) {i : Nat} {committed : Bool} : Kept s (lockFree i committed t) := k.setLock.wr

theorem lockRollback (k : Kept s t) {i cause : Nat} : Kept s (lockRollback i cause t) := k.lockFree.setB.record

theorem lockDoom (k : Kept s t) {i cause : Nat} : Kept s (lockDoom i cause t) := k.when (fun _ hu => hu.setLock)

theorem lockAbort (k : Kept s t) {i by_ : Nat} : Kept s (lockAbort i by_ t) :=
  k.lockResult.ite (k.lockResult.ite k.lockRollback.lockResult)

theorem releaseSlot (k : Kept s t) {n at_ : Nat} {c : Option Slot} : Kept s (releaseSlot n c at_ t) :=
  k.withTack.ite k.installSlot

theorem releaseStaged (k : Kept s t) {at_ : Nat} {x : Staged} : Kept s (releaseStaged at_ x t) := by
  unfold Machine.releaseStaged
  split
  · exact k.releaseSlot
  · exact k.releaseSlot
  · exact k.setSti.setB
  · exact k.setPgn.setB

theorem lockRelease (k : Kept s t) {i : Nat} : Kept s (lockRelease i t) := by
  unfold Machine.lockRelease
  split
  · exact k
  · exact ((k.lockFree.each (fun _ _ hu => hu.releaseStaged)).loadShow).ite k

theorem lateOverflow (k : Kept s t) : Kept s (lateOverflow t) := k.gradeG5All

theorem occurrenceDropped (k : Kept s t) {n : Nat} : Kept s (occurrenceDropped n t) := by
  unfold Machine.occurrenceDropped
  split
  · exact k
  · exact (k.tackNext.setB.bump.record.upsetThen (fun _ hu => hu.lateOverflow)).ite k

theorem slotLatch (k : Kept s t) {n : Nat} : Kept s (slotLatch n t) := (k.each (fun _ _ hu => hu.wr)).wr

theorem leaseExpiry (k : Kept s t) {i : Nat} : Kept s (leaseExpiry i t) := k.ite (k.lockRollback.ite (k.lockDoom.ite k))

theorem ownerSideband (k : Kept s t) {mine : Nat → Bool} : Kept s (ownerSideband mine t) :=
  k.each (fun _ _ hu => hu.when (fun _ hv => hv.lockDoom))

theorem gpioAction (k : Kept s t) {arg : Nat} {x : Slot} : Kept s (gpioAction arg x t) := k.withGpioOut.ite k

theorem gpioFiring (k : Kept s t) {n arg : Nat} : Kept s (gpioFiring n arg t) := (k.firing (fun _ _ hu => hu.gpioAction)).ite k

/-! The ADC banks (10). -/

theorem bankShow (k : Kept s t) {b : Nat} : Kept s (bankShow b t) := k.steady (.bankShow (.refl t))

theorem takeRound (k : Kept s t) {b : Nat} : Kept s (takeRound b t) := k.steady (.takeRound (.refl t))

theorem discard (k : Kept s t) {b : Nat} {r : Run} : Kept s (discard b r t) := k.bump

theorem adcOverrun (k : Kept s t) {b : Nat} : Kept s (adcOverrun b t) :=
  k.setB.bump.record.upsetThen (fun _ hu => hu.gradeG3All)

theorem preempted (k : Kept s t) {b e : Nat} : Kept s (preempted b e t) := k.setB.record

theorem startNormal (k : Kept s t) {b e : Nat} : Kept s (startNormal b e t) := by
  unfold Machine.startNormal
  extract_lets _ _ t1
  have k1 : Kept s t1 := k.setBank
  split
  · exact k
  · refine .bankShow ?_
    split
    · exact k1
    · split
      · split
        · exact k.setBank.ite k.adcOverrun
        · exact k.adcOverrun.ite (k.setBank.preempted.ite k.setBank)
      · exact k.discard.setBank.ite k.adcOverrun

theorem startUrgent (k : Kept s t) {b e : Nat} : Kept s (startUrgent b e t) := by
  unfold Machine.startUrgent
  split
  · exact k
  · refine .bankShow ?_
    split
    · exact k.setBank
    · split
      · exact k.adcOverrun
      · extract_lets t1 _ _ f2
        have k1 : Kept s t1 := k.takeRound.ite k
        have hf2 : ∀ x u3, Kept s u3 → Kept s (f2 x u3) := by
          intro x u3 k3
          exact k3.setBank
        split
        · exact k1
        · exact (hf2 _ _ k1).ite ((hf2 _ _ k1.discard).preempted)

theorem sequenceEnd (k : Kept s t) {b : Nat} : Kept s (sequenceEnd b t) := by
  unfold Machine.sequenceEnd
  extract_lets _
  split
  · split
    · refine .bankShow ?_
      split
      · exact k.setBank
      · exact k.setBank
    · exact k
  · exact k

theorem overRange (k : Kept s t) {c : Nat} {code : Int} : Kept s (overRange c code t) := by
  unfold Machine.overRange
  extract_lets _ _ t1
  have k1 : Kept s t1 := k.when (fun _ hu => hu.setBitAt)
  exact k1.withOverRun.record.ite (k1.withOverRun.ite k1)

theorem diagSide (k : Kept s t) {d side : Nat} {out : Bool} : Kept s (diagSide d side out t) := by
  unfold Machine.diagSide
  extract_lets _ _ t1
  have k1 : Kept s t1 := k.when (fun _ hu => hu.setBitAt)
  exact k1.withDiagRun.record.ite (k1.withDiagRun.ite k1)

theorem diagResult (k : Kept s t) {d : Nat} {v : Int} : Kept s (diagResult d v t) := k.wr.diagSide.diagSide

theorem conversion (k : Kept s t) {b input : Nat} {code v : Int} : Kept s (conversion b input code v t) :=
  k.overRange.wr.ite (k.diagResult.ite k)

theorem deliverEntry (k : Kept s t) {b : Nat} {codes : List Int} : Kept s (deliverEntry b codes t) := by
  unfold Machine.deliverEntry
  extract_lets _
  split
  · exact k
  · extract_lets _ t1 _ t2
    have k1 : Kept s t1 := k.setBank
    have k2 : Kept s t2 := k1.each (fun _ _ hu => hu.conversion)
    exact ((k2.each (fun _ _ hu => hu.streamSample)).ite (k2.each (fun _ _ hu => hu.streamSample))).ite k

theorem startAbs (k : Kept s t) {b i : Nat} : Kept s (startAbs b i t) := k.setBank.setF

theorem startRel (k : Kept s t) {b i : Nat} : Kept s (startRel b i t) := k.setBank.setF

theorem readyCheck (k : Kept s t) {b : Nat} : Kept s (readyCheck b t) := by
  unfold Machine.readyCheck
  split
  · exact k
  · extract_lets t1
    have k1 : Kept s t1 := k.setB.setBitAt
    split
    · exact k1.startRel
    · exact k1

theorem freeze (k : Kept s t) {b : Nat} : Kept s (freeze b t) := k.setBank.setB.each (fun _ _ hu => hu.setF)

theorem retireSlice (k : Kept s t) {b i : Nat} : Kept s (retireSlice b i t) := by
  unfold Machine.retireSlice
  extract_lets _ t1 _ t2 _ _ _ t3 _ t4 t5 t6
  have k1 : Kept s t1 := k.setBitAt.setB.record
  have k2 : Kept s t2 := k1.wr
  have k3 : Kept s t3 := k2.each (fun _ _ hu => hu.setF)
  have k4 : Kept s t4 := k2.setBank
  have k5 : Kept s t5 := k4.setBitAt.setB
  have k6 : Kept s t6 := by
    unfold t6
    split
    · split
      · exact k2.setF.setF.freeze
      · exact k2.freeze
    · exact k3.setB.record.lanesRate.ite (k5.under (fun _ hu => hu.lanesBankRetired.gradeG5All))
  exact k.ite k6.readyCheck.bankShow

theorem calUpset (k : Kept s t) {b i : Nat} : Kept s (calUpset b i t) :=
  k.setBitAt.record.upsetThen (fun _ hu => hu.retireSlice)

theorem absComplete (k : Kept s t) {b i : Nat} {sn sz sp : Int} : Kept s (absComplete b i sn sz sp t) := by
  unfold Machine.absComplete
  extract_lets _ _ _ t1
  have k1 : Kept s t1 := k.calUpset
  split
  · split
    extract_lets _ _ t2 t3 t4
    have k2 : Kept s t2 := k.wr
    have k3 : Kept s t3 := k2.wr
    have k4 : Kept s t4 := k3.setF
    exact (k1.startAbs.ite k1).ite ((k4.startRel.ite k4).ite k4.readyCheck)
  · exact k

theorem relEnd (k : Kept s t) {b i : Nat} {trim : Option Int} : Kept s (relEnd b i trim t) := by
  unfold Machine.relEnd
  extract_lets t1 _
  have k1 : Kept s t1 := by
    unfold t1
    split
    · exact k.wr
    · exact k
  exact k1.setBank.setF

theorem relComplete (k : Kept s t) {b : Nat} {sxy sxx sm gain : Int} : Kept s (relComplete b sxy sxx sm gain t) := by
  unfold Machine.relComplete
  split
  · exact k
  · exact ((k.calUpset.startAbs.ite k.calUpset).ite ((k.calUpset.ite k.calUpset.relEnd).ite k.relEnd)).ite k

theorem relTimeout (k : Kept s t) {b : Nat} : Kept s (relTimeout b t) := by
  unfold Machine.relTimeout
  split
  · exact k
  · exact k.bump.relEnd.ite k

theorem trimStep (k : Kept s t) {b : Nat} : Kept s (trimStep b t) := k.each (fun _ _ hu => hu.wr)

theorem spareRotate (k : Kept s t) {b : Nat} : Kept s (spareRotate b t) := by
  unfold Machine.spareRotate
  split
  · exact ((k.setBank.setF.setF.setF.setF.setBitAt.setBitAt.startAbs.trimStep.setF.when (fun _ hu =>
    hu.setBank)).bankShow).ite k
  · exact k

theorem referenceCheck (k : Kept s t) {ref mon : Nat} : Kept s (referenceCheck ref mon t) :=
  (k.setBitAt.setBitAt.record.under (fun _ hu => hu.gradeG3All)).ite k.setBitAt.dropCause

theorem adcFire (k : Kept s t) {n : Nat} {urgent : Bool} {f : Nat → Nat → State → State}
    (hf : ∀ x y u, Kept s u → Kept s (f x y u)) : Kept s (adcFire n urgent f t) :=
  (k.firing (fun _ _ hu => hf _ _ _ hu)).ite k

/-! Carriers and sets (06). -/

theorem carPlace (k : Kept s t) {c i : Nat} : Kept s (carPlace c i t) := k.steady (.carPlace (.refl t))

theorem carShow (k : Kept s t) {c : Nat} : Kept s (carShow c t) := k.steady (.carShow (.refl t))

theorem setAcc (k : Kept s t) {h : Nat} {a : Int} : Kept s (setAcc h a t) := k.wrI.setB

theorem carryDropped (k : Kept s t) {h : Nat} {hi : Bool} {w : Int} : Kept s (carryDropped h hi w t) :=
  k.when (fun _ hu => hu.setAcc)

/-! The Bobbins (02). -/

theorem srcRefuse (k : Kept s t) {st code : Nat} : Kept s (srcRefuse st code t) := ((k.when (fun _ hu => hu.setF)).setB).record

theorem srcRequest (k : Kept s t) {st src kind : Nat} : Kept s (srcRequest st src kind t) := k.setBob.ite k.srcRefuse

theorem newAnchor (k : Kept s t) {st : Nat} : Kept s (newAnchor st t) := k.steady (.newAnchor (.refl t))

theorem followSource (k : Kept s t) {st : Nat} : Kept s (followSource st t) := k.fixReached.setWord.wrI.setB.setB.newAnchor

theorem alignBy (k : Kept s t) {st : Nat} {j w : Int} : Kept s (alignBy st j w t) := k.steady (.alignBy (.refl t))

theorem applyAlign (k : Kept s t) {st src : Nat} : Kept s (applyAlign st src t) := k.alignBy

theorem slewTo (k : Kept s t) {st src : Nat} {fb : Bool} : Kept s (slewTo st src fb t) := k.setF.setB.setB

theorem lossRecorded (k : Kept s t) {st src next : Nat} : Kept s (lossRecorded st src next t) := k.setB.record

theorem sourceLost (k : Kept s t) {st : Nat} : Kept s (sourceLost st t) := k.setBob.lossRecorded.ite k

theorem wordUpdate (k : Kept s t) {st : Nat} : Kept s (wordUpdate st t) := by
  unfold Machine.wordUpdate
  extract_lets t1 _ t2 f3
  have k1 : Kept s t1 := k.sourceLost
  have k2 : Kept s t2 := k1.setBob
  have hf3 : ∀ u4, Kept s u4 → Kept s (f3 u4) := by
    intro u4 k4
    exact k4.slewTo.followSource
  split
  · exact (hf3 _ (k2.when (fun _ hu => hu.lossRecorded))).ite (k2.slewTo.applyAlign.ite k2.slewTo.followSource)
  · exact (hf3 _ k2).ite k2.followSource

theorem outerTick (k : Kept s t) {st : Nat} : Kept s (outerTick st t) := k.wordUpdate.ite k

theorem sourceWrite (k : Kept s t) {st src kind : Nat} : Kept s (sourceWrite st src kind t) := k.wr.setDrm.srcRequest

/-! Protection (09). -/

theorem setCflag (k : Kept s t) {c : Nat} {b : Bool} : Kept s (setCflag c b t) := (k.setBitAt.ite k.setBitAt).setB

theorem prtShow (k : Kept s t) : Kept s (prtShow t) := k.setF.setF

theorem releaseTrips (k : Kept s t) : Kept s (releaseTrips t) := k.each (fun _ _ hu => hu.clearHold.ite hu)

theorem tripAssert (k : Kept s t) {n : Nat} : Kept s (tripAssert n t) := by
  unfold Machine.tripAssert
  split
  · extract_lets t1 _ t2 t3 t4 _ _ t5 t6
    have k1 : Kept s t1 := k.setBitAt
    have k2 : Kept s t2 := k1.each (fun _ _ hu => hu.legOff)
    have k3 : Kept s t3 := k2.setBitAt.setB
    have k4 : Kept s t4 := k3.holdMany
    have k5 : Kept s t5 := k4.record
    have k6 : Kept s t6 := k5.gradeG5All.ite (k5.gradeG3All.ite k5)
    exact k1.ite k6.prtShow
  · exact k

theorem tripsStart (k : Kept s t) : Kept s (tripsStart t) := k.each (fun _ _ hu => hu.tripAssert)

theorem clearRefused (k : Kept s t) {kind index detail : Nat} : Kept s (clearRefused kind index detail t) :=
  k.setF.setF.setB.record

theorem clearAccepted (k : Kept s t) {c : Cause} {detail : Nat} : Kept s (clearAccepted c detail t) :=
  k.record.dropCause.prtShow.releaseTrips

theorem tripClear (k : Kept s t) {n : Nat} {active : Bool} : Kept s (tripClear n active t) :=
  (k.setBitAt.clearRefused.ite k.setBitAt.setBitAt.clearAccepted).ite k

theorem shortCircuit (k : Kept s t) {h : Nat} {hi : Bool} {c : Option Nat} : Kept s (shortCircuit h hi c t) := by
  unfold Machine.shortCircuit
  extract_lets _ t1 t2 t3 _ _ _ _ t4 t5 t6 _ _ t7 t8 t9 t10
  have k1 : Kept s t1 := k.holdMany
  have k2 : Kept s t2 := k1.ite k1.setBitAt
  have k3 : Kept s t3 := k2.setB
  have k4 : Kept s t4 := k3.record
  have k5 : Kept s t5 := by
    unfold t5
    split
    · exact k4.addG3
    · exact k4
  have k6 : Kept s t6 := k5.ite k5.addG3
  have k7 : Kept s t7 := k6.withPrt
  have k8 : Kept s t8 := k7.setB.when (fun _ hu => hu.under (fun _ hv => hv.record))
  have k9 : Kept s t9 := (k8.gradeG5.each (fun _ _ hu => hu.addG5)).ite k7
  have k10 : Kept s t10 := k9.retireHb.ite (k9.gradeG3.ite k9)
  exact k10.prtShow

theorem cmpAssert (k : Kept s t) {c : Nat} : Kept s (cmpAssert c t) := by
  unfold Machine.cmpAssert
  split
  · extract_lets t1 _ _ t2 t3
    have k1 : Kept s t1 := k.setB
    have k2 : Kept s t2 := k1.setCflag.setB
    have k3 : Kept s t3 := by
      unfold t3
      split
      · exact k2.holdMany.record.gradeG3
      · exact k2.record.gradeG5
      · exact k2.record
    split
    · exact k3.prtShow
    · exact (k1.ite k1.setB.setB.record).ite k1.setB.setCflag.shortCircuit
    · exact k1
  · exact k

theorem blankingEnd (k : Kept s t) {c : Nat} {active : Bool} : Kept s (blankingEnd c active t) :=
  (k.setB.setB.setCflag.shortCircuit.ite k.setB.setB).ite k

theorem cmpClear (k : Kept s t) {c : Nat} {active : Bool} : Kept s (cmpClear c active t) :=
  (k.setB.clearRefused.ite k.setB.setCflag.clearAccepted).ite k

theorem alarmClear (k : Kept s t) {h : Nat} : Kept s (alarmClear h t) := (k.clearRefused.ite k.setBitAt.clearAccepted).ite k

theorem linkTemps (k : Kept s t) {n : Nat} {temps : List Nat} : Kept s (linkTemps n temps t) := by
  unfold Machine.linkTemps
  refine k.each (fun i u ku => ?_)
  extract_lets _ _ _ _ _ _ u1 _ u2 _ u3
  have k1 : Kept s u1 := ku.withPrt.setB.record.ite (ku.withPrt.ite ku)
  have k2 : Kept s u2 := k1.withPrt
  have k3 : Kept s u3 := k1.withPrt
  exact k1.ite (k2.setB.setBitAt.record.gradeG3.ite ((k3.ite k3.setBitAt.dropG3).ite k1))

theorem cmpRetire (k : Kept s t) {c detail : Nat} : Kept s (cmpRetire c detail t) := by
  unfold Machine.cmpRetire
  extract_lets t1
  have k1 : Kept s t1 := k.setB.setB.setB.setB
  exact (k1.record.under (fun _ hu => hu.gradeG5)).ite k1.record

theorem dacFail (k : Kept s t) {c : Nat} {hi : Bool} : Kept s (dacFail c hi t) :=
  k.ite (k.setB.setB.record.upsetThen (fun _ hu => hu.cmpRetire))

theorem dacOne (k : Kept s t) {c diff again : Nat} {hi : Bool} : Kept s (dacOne c hi diff again t) :=
  k.ite (k.dacFail.dacFail.ite k.dacFail)

theorem dacCheck (k : Kept s t) {diffs : List (Fin 48 × Bool × Nat × Nat)} : Kept s (dacCheck diffs t) :=
  (k.withPrt.each (fun _ _ hu => hu.dacOne)).ite k

/-! The leg links, the device side of the line (07). -/

theorem setSent (k : Kept s t) {n : Nat} {c d : Sent} : Kept s (setSent n c d t) := k.steady (.setSent (.refl t))

theorem holdCmd (k : Kept s t) {n : Nat} {c : Sent} : Kept s (holdCmd n c t) := k.steady (.holdCmd (.refl t))

theorem sendTwice (k : Kept s t) {n cls : Nat} {chars : List Nat} : Kept s (sendTwice n cls chars t) :=
  k.steady (.sendTwice (.refl t))

theorem wantReport (k : Kept s t) {n h b : Nat} {e : Edge} : Kept s (wantReport n h e b t).2 := by
  unfold Machine.wantReport
  split
  · exact k.setLnk
  · exact k

theorem linkEdge (k : Kept s t) {forced : Bool} {h : Nat} {e : Edge} : Kept s (linkEdge forced h e t) := by
  unfold Machine.linkEdge
  extract_lets _ _ _
  split
  · exact k
  · split
    rename_i u1 e1
    have k1 : Kept s u1 := .of_snd e1 k.wantReport
    exact k1.setHb.setLnk.ite k1.setHb.holdCmd

theorem crcFail (k : Kept s t) {n : Nat} : Kept s (crcFail n t) := k.linkFlag.bump.record.linkUpset

/-! Edges and refreshes (06). -/

theorem handEdge (k : Kept s t) {forced : Bool} {h : Nat} {e : Edge} : Kept s (handEdge forced h e t) :=
  k.setHb.ite ((k.setHb.when (fun _ hu => hu.setHb)).linkEdge)

theorem planOn (k : Kept s t) {forced to_ : Bool} {h i : Nat} {w : Int} : Kept s (planOn forced h to_ i w t) :=
  k.handEdge.ite k.handEdge.setHb

theorem crossing (k : Kept s t) {h : Nat} {to_ : Bool} {i w : Int} : Kept s (crossing h to_ i w t) := by
  unfold Machine.crossing
  extract_lets _ t1
  have k1 : Kept s t1 := by
    unfold t1
    split
    · exact k.handEdge
    · exact k.when (fun _ hu => hu.setHb)
  exact k1.planOn

theorem executeInterval (k : Kept s t) {h : Nat} {to_ : Bool} {i extra w : Int} : Kept s (executeInterval h to_ i extra w t) :=
  k.crossing.setHb

theorem dropInterval (k : Kept s t) {h : Nat} : Kept s (dropInterval h t) := k.setHb

theorem openInterval (k : Kept s t) {h : Nat} {pos i : Int} {to_ : Bool} : Kept s (openInterval h pos to_ i t) := by
  unfold Machine.openInterval
  extract_lets
  split
  · exact (k.when (fun _ hu => hu.wrI)).executeInterval
  · refine (k.when (fun _ hu => hu.wrI)).executeInterval.ite ?_
    split
    · exact k.setB.setAcc.dropInterval
    · exact k.setB.dropInterval.ite k.setB.executeInterval
    · exact k.setB.dropInterval

theorem intervalEnd (k : Kept s t) {h : Nat} {i : Int} : Kept s (intervalEnd h i t).2 := by
  unfold Machine.intervalEnd
  extract_lets _ _
  split
  · exact k
  · split
    · exact k
    · exact k.when (fun _ hu => hu.setAcc)

theorem lowFirstInterval (k : Kept s t) {h : Nat} {i : Int} : Kept s (lowFirstInterval h i t) := k.executeInterval.setHb

theorem planPointAt (k : Kept s t) {h : Nat} {pos i : Int} {to_ : Bool} : Kept s (planPointAt h pos to_ i t) := by
  unfold Machine.planPointAt
  extract_lets _ t1 _ t2
  have k1 : Kept s t1 := k.setHb
  have k2 : Kept s t2 := k1.lowFirstInterval
  exact (k1.setHb.ite k1).ite (k1.ite ((k2.intervalEnd.openInterval.ite k2).ite k1.intervalEnd.openInterval))

theorem planPoint (k : Kept s t) {h : Nat} {pos : Int} {to_ : Bool} : Kept s (planPoint h pos to_ t) := k.planPointAt

theorem refreshBack (k : Kept s t) {h : Nat} {b : Int} {forced : Bool} : Kept s (refreshBack h b forced t) := by
  unfold Machine.refreshBack
  exact k.setHb.handEdge.planOn

theorem edgePlan (k : Kept s t) {h : Nat} : Kept s (edgePlan h t) := by
  unfold Machine.edgePlan
  extract_lets _ next
  clear_value next
  refine .ite ?_ k
  split
  · exact k.refreshBack
  · split
    · exact k
    · exact k.planPoint.carShow.ite k

theorem planRest (k : Kept s t) {h : Nat} : Kept s (planRest h t) := by
  unfold Machine.planRest
  extract_lets f1
  have hf1 : ∀ u2, Kept s u2 → Kept s (f1 u2) := by
    intro u2 k2
    unfold f1
    split
    · exact k2
    · exact k2.planPoint
  exact (hf1 _ (hf1 _ (hf1 _ k))).ite k

theorem planBefore (k : Kept s t) {h : Nat} {i : Int} : Kept s (planBefore h i t) := by
  unfold Machine.planBefore
  extract_lets f1
  have hf1 : ∀ u2, Kept s u2 → Kept s (f1 u2) := by
    intro u2 k2
    unfold f1
    split
    · exact k2
    · exact k2.planPoint.ite k2
  exact (hf1 _ (hf1 _ (hf1 _ k))).ite k

theorem planFirst (k : Kept s t) {h : Nat} {i : Int} : Kept s (planFirst h i t) := by
  unfold Machine.planFirst
  extract_lets _ _ _
  split
  · exact k.when (fun _ hu => hu.planPointAt)
  · exact k

theorem loadCompare (k : Kept s t) {load h : Nat} {mid : Bool} : Kept s (loadCompare load mid h t) := k.setHb.wr

theorem periodStart (k : Kept s t) {h : Nat} : Kept s (periodStart h t) := k.setF.setHb

theorem carAdvance (k : Kept s t) {c : Nat} : Kept s (carAdvance c t) := k.setCar.ite k.setCar

theorem carSwitch (k : Kept s t) {st : Nat} : Kept s (carSwitch st t) := by
  unfold Machine.carSwitch
  split
  · exact ((((k.each (fun _ _ hu => hu.planBefore)).each (fun _ _ hu => hu.setCar.setB.setF)).each (fun _ _ hu =>
    hu.carPlace.carShow)).each (fun _ _ hu => hu.setHb.wr.periodStart.planFirst)).setPgn.setF.setB.record
  · exact k

theorem carPoint (k : Kept s t) {c : Nat} : Kept s (carPoint c t) :=
  (k.carSwitch.ite ((((k.each (fun _ _ hu => hu.planRest)).carAdvance.each (fun _ _ hu => hu.loadCompare)).when (fun _ hu =>
    hu.each (fun _ _ hv => hv.periodStart))).carShow)).ite k

theorem refreshEdges (k : Kept s t) {forced : Bool} {h : Nat} {i : Int} : Kept s (refreshEdges forced h i t) :=
  k.handEdge.planOn.setHb.setB

theorem refreshNow (k : Kept s t) {h : Nat} : Kept s (refreshNow h t) := (k.refreshEdges.ite k.setHb).ite k

theorem hbResume (k : Kept s t) {h : Nat} : Kept s (hbResume h t) := k.setHb.setF.wrI.ite k

theorem skipTurnOn (k : Kept s t) {h : Nat} {e : Edge} : Kept s (skipTurnOn h e t) :=
  ((k.when (fun _ hu => hu.carryDropped)).when (fun _ hu => hu.uncountLow)).setB.bump.record.upsetThen (fun _ hu => hu.retireHb)

theorem turnOff (k : Kept s t) {h : Nat} {e : Edge} : Kept s (turnOff h e t) := by
  unfold Machine.turnOff
  extract_lets _ t1 t2 t3
  have k2 : Kept s t2 := k.legRise.elsewhere rfl
  exact k2.emit.emit.setHb.setB.setB

theorem turnOn (k : Kept s t) {h : Nat} {e : Edge} : Kept s (turnOn h e t) := by
  unfold Machine.turnOn
  extract_lets _ t1
  have k1 : Kept s t1 := k.elsewhere rfl
  exact ((k1.when (fun _ hu => hu.setHb)).noteOn.setB).ite k.skipTurnOn

theorem levelP (k : Kept s t) {h : Nat} : Kept s (levelP h t) := k.steady (.levelP (.refl t))

theorem missedLocal (k : Kept s t) {h : Nat} : Kept s (missedLocal h t) := k.holdHb.setHb.record

theorem edgeExecute (k : Kept s t) {h : Nat} : Kept s (edgeExecute h t) := by
  unfold Machine.edgeExecute
  extract_lets t1 _
  have k1 : Kept s t1 := k.levelP
  split
  · exact k1
  · exact k1.missedLocal.ite (k1.setHb.turnOn.ite k1.setHb.turnOff)

theorem ackInput (k : Kept s t) {n : Nat} {level : Bool} : Kept s (ackInput n level t) := by
  unfold Machine.ackInput
  extract_lets _ _
  split
  · exact k.setHb
  · exact k.setHb
  · exact k

theorem ackTick (k : Kept s t) : Kept s (ackTick t) := k.steady (.ackTick (.refl t))

theorem ocAnswers (k : Kept s t) {h : Nat} : Kept s (ocAnswers h t) := k.setHb

theorem ackTimeout (k : Kept s t) {h : Nat} : Kept s (ackTimeout h t) := by
  unfold Machine.ackTimeout
  extract_lets t1 _ t2
  have k1 : Kept s t1 := k.ackTick.ite k.ocAnswers
  have k2 : Kept s t2 := k1.setHb
  exact k2.setB.record.retireHb.ite k1

theorem forcedRefresh (k : Kept s t) {h : Nat} : Kept s (forcedRefresh h t) := by
  unfold Machine.forcedRefresh
  extract_lets _ _ _ t1 _
  have k1 : Kept s t1 := by
    unfold t1
    split
    · exact k.refreshEdges
    · exact k.setHb
    · exact k.setHb
  exact k1.setHb

theorem undervoltage (k : Kept s t) {h : Nat} : Kept s (undervoltage h t) :=
  k.setB.ite (((k.setB.when (fun _ hu => hu.forcedRefresh)).record).upsetThen (fun _ hu => hu.retireHb))

theorem bsrecTimeout (k : Kept s t) {h : Nat} : Kept s (bsrecTimeout h t) := by
  unfold Machine.bsrecTimeout
  split
  · exact (k.setHb.retireHb.ite k.setHb).ite k
  · exact k

theorem carrierRequest (k : Kept s t) {st v by_ : Nat} : Kept s (carrierRequest st v by_ t) := by
  unfold Machine.carrierRequest
  extract_lets lock t1
  clear_value lock
  have k1 : Kept s t1 := k.wr
  refine .ite k1.setF.setB.record ?_
  split
  · exact k1.stage
  · exact k1.setPgn.setB

theorem pulseHandover (k : Kept s t) {st : Nat} : Kept s (pulseHandover st t) := by
  unfold Machine.pulseHandover
  extract_lets t1 _ t2
  have k1 : Kept s t1 := k.each (fun _ _ hu => hu.setHb)
  have k2 : Kept s t2 := by
    unfold t2
    split
    · exact k1.setPgn.each (fun _ _ hu => hu.setB)
    · exact k1.setPgn
  exact k2.setB.setB.setB

theorem handoverFire (k : Kept s t) {st : Nat} : Kept s (handoverFire st t) := by
  unfold Machine.handoverFire
  extract_lets start
  clear_value start
  split
  · exact (k.setPgn.setB.setB).ite k.pulseHandover
  · exact k.pulseHandover

theorem moduleDisable (k : Kept s t) : Kept s (moduleDisable t) := k.setBitAt.holdMany.record.each (fun _ _ hu => hu.gradeG5For)

/-! What a link receives (07). -/

theorem enterSync (k : Kept s t) {n : Nat} : Kept s (enterSync n t) := k.steady (.enterSync (.refl t))

theorem enterConfig (k : Kept s t) {n : Nat} : Kept s (enterConfig n t) := k.setLnk.sendTwice.sendTwice.setLinkState

theorem sendRtq (k : Kept s t) {n at_ : Nat} : Kept s (sendRtq n at_ t) := k.setLnk

theorem startCal (k : Kept s t) {n need : Nat} {again : Bool} : Kept s (startCal n need again t) := k.setLnk.sendRtq

theorem sendTime (k : Kept s t) {n : Nat} : Kept s (sendTime n t) := k.setLnk

theorem endCalHold (k : Kept s t) {n : Nat} : Kept s (endCalHold n t) := k.setLnk

theorem calFailed (k : Kept s t) {n need : Nat} {beyond : Bool} : Kept s (calFailed n need beyond t) := by
  unfold Machine.calFailed
  split
  · exact k.startCal
  · extract_lets _ t1 t2 t3 _
    have k1 : Kept s t1 := k.setLnk
    have k2 : Kept s t2 := k1.record.linkFlag
    have k3 : Kept s t3 := k2.linkUpset
    exact k3.setLnk.holdMany.ite k3

theorem judgeCal (k : Kept s t) {n : Nat} : Kept s (judgeCal n t) := k.wr.calFailed.ite k.wr.setLnk.sendTime

theorem rtaReceived (k : Kept s t) {n num ta t4 : Nat} : Kept s (rtaReceived n num ta t4 t) :=
  (k.setLnk.sendRtq.ite k.setLnk.judgeCal).ite k

theorem enterReady (k : Kept s t) {n : Nat} : Kept s (enterReady n t) := k.setLnk.setF.setLinkState

theorem tcorrShown (k : Kept s t) {n : Nat} {tc : Int} : Kept s (tcorrShown n tc t) := by
  unfold Machine.tcorrShown
  extract_lets _ t1 t2
  have k1 : Kept s t1 := by
    unfold t1
    split
    · exact k.wr.wr
    · exact k
  have k2 : Kept s t2 := k1.setLnk.endCalHold
  exact (k.calFailed.ite (k2.enterReady.ite k2)).ite k

theorem applyOc (k : Kept s t) {n oc : Nat} : Kept s (applyOc n oc t) := k.setLnk.each (fun _ _ hu => hu.setHb.setB)

theorem statusReceived (k : Kept s t) {n uv alm ocb temps epoch tcorr crcn : Nat} {owner : Bool} :
    Kept s (statusReceived n uv alm ocb temps epoch owner tcorr crcn t) := by
  unfold Machine.statusReceived
  extract_lets _ _ t1 t2 t3 t4 t5 t6 t7 t8 t9
  have k1 : Kept s t1 := k.setLnk
  have k2 : Kept s t2 := k1.applyOc
  have k3 : Kept s t3 := k2.setB.setF
  have k4 : Kept s t4 := k3.wr.wr
  have k5 : Kept s t5 := k4.linkTemps
  have k6 : Kept s t6 := k5.each (fun _ _ hu => hu.undervoltage)
  have k7 : Kept s t7 := k6.each (fun _ _ hu => hu.crcFail)
  have k8 : Kept s t8 := k7.tcorrShown
  have k9 : Kept s t9 := k8.epochSeen
  exact k9.ite k9.fence

theorem alarmCopy (k : Kept s t) {n a : Nat} : alarmCopy n a t = some u → Kept s u := by
  unfold Machine.alarmCopy
  intro h
  split at h
  · split at h
    · exact Option.some.inj h ▸ k.setLnk
    · cases h
  · cases h

theorem alarmReceived (k : Kept s t) {n a : Nat} : Kept s (alarmReceived n a t) := by
  unfold Machine.alarmReceived
  cases h : Machine.alarmCopy n a t with
  | some u => exact k.alarmCopy h
  | none =>
    exact k.setLnk.linkFlag.each (fun _ _ hu =>
      (hu.when (fun _ hv => hv.shortCircuit)).when (fun _ hv => hv.shortCircuit))

theorem nackReceived (k : Kept s t) {n seq : Nat} : Kept s (nackReceived n seq t) := by
  unfold Machine.nackReceived
  extract_lets _ t1
  have k1 : Kept s t1 := k.setLnk
  split
  · exact k1
  · exact k1.ite (k1.setSent.ite k1.setSent.setLnk.linkFlag.bump.record.linkUpset)

theorem undeliverable (k : Kept s t) {n seq : Nat} : Kept s (undeliverable n seq t) := by
  unfold Machine.undeliverable
  split
  · exact k
  · exact k.setSent.missedEdge.ite k

theorem edgeMissed (k : Kept s t) {n seq src : Nat} : Kept s (edgeMissed n seq src t) := by
  unfold Machine.edgeMissed
  split
  · exact k
  · exact k.ite k.setSent.missedEdge

theorem eventSkip (k : Kept s t) {n seq : Nat} : Kept s (eventSkip n seq t) := by
  unfold Machine.eventSkip
  split
  · exact k
  · exact k.ite k.setSent.setHb.setB.skipTurnOn

theorem eventOnce (k : Kept s t) {n : Nat} {e : Nat × Nat × Nat × Nat} {f : State → State} (hf : ∀ u, Kept s u → Kept s (f u)) :
    Kept s (eventOnce n e f t) := k.setLnk.ite (hf _ k.setLnk)

theorem eventStale (k : Kept s t) {n src port : Nat} : Kept s (eventStale n src port t) := by
  unfold Machine.eventStale
  extract_lets t1
  have k1 : Kept s t1 := k.record.linkFlag
  exact k1.fence.ite k1

theorem missedClear (k : Kept s t) {h : Nat} : Kept s (missedClear h t) := k.clearHold.ite k

theorem syncLost (k : Kept s t) {n : Nat} : Kept s (syncLost n t) :=
  ((k.setLnk.each (fun _ _ hu => hu.holdHb)).setLnk.record.linkFlag.linkUpset).ite k.setLnk

theorem stateTimeout (k : Kept s t) {n : Nat} : Kept s (stateTimeout n t) := (k.record.retireLink.ite k.enterSync).ite k

theorem reportReceived (k : Kept s t) {n seq i bin tm : Nat} {hi on_ early noplat : Bool} {td : Int} :
    Kept s (reportReceived n seq i bin hi on_ td tm early noplat t) := by
  unfold Machine.reportReceived
  extract_lets _ _ t1 _ _ _ _ _ _ _ _ _ _
  have k1 : Kept s t1 := k.ite k.setB.setF.setF.setF
  split
  · exact k
  · split
    extract_lets t2 t3
    have k2 : Kept s t2 := k1.setF.setF.setF
    have k3 : Kept s t3 := k2.setB.linkFlag.record.ite k2
    exact k3.when (fun _ hu => hu.setB)

theorem received (k : Kept s t) {n : Nat} {ok : Bool} {f : State → State} (hf : ∀ u, Kept s u → Kept s (f u)) :
    Kept s (received n ok f t) := ((hf _ k).ite k.crcFail).ite k

theorem receivedBlock (k : Kept s t) {n : Nat} {ok : Bool} {f : State → State} (hf : ∀ u, Kept s u → Kept s (f u)) :
    Kept s (receivedBlock n ok f t) := (k.setLnk.received hf).ite (k.received hf)

theorem helloReceived (k : Kept s t) {n epid : Nat} {dual : Bool} : Kept s (helloReceived n epid dual t) :=
  (k.setB.wr.enterConfig.ite k.setB.wr).ite k

theorem cfgackReceived (k : Kept s t) {n cseq : Nat} : Kept s (cfgackReceived n cseq t) := k.setLinkState.startCal.ite k

theorem syncDone (k : Kept s t) {n : Nat} : Kept s (syncDone n t) := k.setLinkState.ite k

theorem idleAtDevice (k : Kept s t) {n : Nat} : Kept s (idleAtDevice n t) := k.setLnk.syncDone.ite k

/-! Committed rows (03). -/

theorem applyCommit (k : Kept s t) {st : Nat} : Kept s (applyCommit st t) := by
  unfold Machine.applyCommit
  extract_lets rows bad _ t1 t2
  clear_value bad
  have k1 : Kept s t1 := k.setDrm.setB
  have k2 : Kept s t2 := by
    refine k1.each (fun _ _ hu => ?_)
    split
    · exact hu.wrW
    · exact hu
  refine .ite ?_ k
  split
  · exact k1.setF.record
  · exact k2.wr.ite k2

theorem applyHemRest (k : Kept s t) {st : Nat} : Kept s (applyHemRest st t) := k.setDrm.wr.ite k

theorem hemTick (k : Kept s t) {st : Nat} : Kept s (hemTick st t) := k.wrI

/-! Stores of a step (02). -/

theorem verifyOwn (k : Kept s t) {mine : Nat → Bool} {bad : List Nat} : Kept s (verifyOwn mine bad t) :=
  k.each (fun _ _ hu => hu.verified)

theorem stepStores (k : Kept s t) {mine : Nat → Bool} {bad : List Nat} : Kept s (stepStores mine bad t) :=
  (k.verifyOwn.each (fun _ _ hu => hu.mismatch)).withEvt

/-! The Drum (03). -/

theorem satFlags (k : Kept s t) {st m : Nat} : Kept s (satFlags st m t) := k.each (fun _ _ hu => hu.setBitAt.record)

theorem drumEnable (k : Kept s t) {st : Nat} : Kept s (drumEnable st t) := k.setDrm.pulsesEnable.ite k

theorem drumTakeUp (k : Kept s t) {st : Nat} : Kept s (drumTakeUp st t) := k.wordUpdate.setDrm.applyCommit

theorem drumRamp (k : Kept s t) {st : Nat} : Kept s (drumRamp st t) := k.setDrm

theorem drumBus (k : Kept s t) {st : Nat} {x : DrumIn} : Kept s (drumBus st x t).2 := by
  unfold Machine.drumBus
  split
  · exact k.setDrm.wrI.wrI.wrI
  · exact k

theorem drumBreaker (k : Kept s t) {st : Nat} {x : DrumIn} : Kept s (drumBreaker st x t).2.2 := by
  unfold Machine.drumBreaker
  extract_lets _ _ _ _ t1 _ _ _ _
  have k1 : Kept s t1 := k.setDrm
  split
  · exact k1.setB.setDrm
  · exact k1

theorem drumDead (k : Kept s t) {st : Nat} {x : DrumIn} : Kept s (drumDead st x t) := k.setDrm.setB.ite k

theorem drumSync (k : Kept s t) {st : Nat} {x : DrumIn} : Kept s (drumSync st x t).2 := k.setDrm.setB

theorem drumCurves (k : Kept s t) {st : Nat} {x : DrumIn} : Kept s (drumCurves st x t) := k.setDrm.ite k

theorem drumCounts (k : Kept s t) {st : Nat} {x : DrumIn} : Kept s (drumCounts st x t) := k.setDrm

theorem leaveState (k : Kept s t) {st new : Nat} : Kept s (leaveState st new t) := by
  unfold Machine.leaveState
  extract_lets _ t1 _ t2 _ t3 _
  have k1 : Kept s t1 := k.ite k.setDrm
  have k2 : Kept s t2 := k1.ite k1.setDrm.setB
  have k3 : Kept s t3 := k2.ite k2.setDrm.setB
  exact k3.ite k3.setDrm

theorem enterState (k : Kept s t) {st old new : Nat} : Kept s (enterState st old new t) :=
  k.setDrm.wr.ite (k.setDrm.setB.ite ((k.setDrm.ite k.setDrm.srcRequest).ite (k.setB.srcRequest.ite k)))

theorem goState (k : Kept s t) {st new : Nat} : Kept s (goState st new t) := k.setF.leaveState.enterState

theorem drumAuto (k : Kept s t) {st : Nat} {x : DrumIn} : Kept s (drumAuto st x t).2 := by
  unfold Machine.drumAuto
  split
  · exact k
  · exact k.goState
  · exact (k.setF.when (fun _ hu => hu.setF)).goState

theorem startSync (k : Kept s t) {st : Nat} {join : Bool} : Kept s (startSync st join t) :=
  k.goState.setB.setDrm.srcRequest.ite k.goState.setB.srcRequest

theorem commandTaken (k : Kept s t) {st : Nat} : Kept s (commandTaken st t) := k.setDrm

theorem drumCommand (k : Kept s t) {st : Nat} {x : DrumIn} : Kept s (drumCommand st x t).2 := by
  unfold Machine.drumCommand
  split
  · exact k
  · extract_lets t1 _ _ t2
    have k1 : Kept s t1 := k.commandTaken
    have k2 : Kept s t2 := by
      unfold t2
      split
      · exact k1.goState
      · exact k1.startSync
      · exact k1.startSync
      · exact k1.ite k1.goState
    split
    · exact k1.setF
    · exact k2

theorem drumFilters (k : Kept s t) {st : Nat} {x : DrumIn} {set : Bool} : Kept s (drumFilters st x set t).2 :=
  k.wrI.wrI.wrI.setDrm

theorem drumSwing (k : Kept s t) {st : Nat} {x : DrumIn} {track allow : Bool} : Kept s (drumSwing st x track allow t).2 :=
  k.setDrm.wrI.setB.setB

theorem drumRefs (k : Kept s t) {st : Nat} {x : DrumIn} {z : Int × Int × Int × Int} : Kept s (drumRefs st x z t).2 :=
  k.setDrm.wrI.wrI

theorem drumVoltage (k : Kept s t) {st : Nat} {x : DrumIn} {live : Bool} : Kept s (drumVoltage st x live t).2 :=
  k.setDrm.wrI.wrI

theorem drumQuiet (k : Kept s t) {st : Nat} {x : DrumIn} : Kept s (drumQuiet st x t).2 := k.setDrm.wr.wr.wr.wr

theorem drumHold (k : Kept s t) {st : Nat} {x : DrumIn} : Kept s (drumHold st x t).2 := by
  unfold Machine.drumHold
  exact k.setDrm.wrI.setB.setB.drumRefs

theorem drumEquations (k : Kept s t) {st old : Nat} {live : Bool} {x : DrumIn} : Kept s (drumEquations st old live x t).2 := by
  unfold Machine.drumEquations
  extract_lets _ rec_ allow
  split
  · exact k.drumHold
  split
  · split
    rename_i x1 t1 e1
    have k1 : Kept s t1 := .of_snd e1 k.drumFilters
    split
    rename_i x2 t2 e2
    have k2 : Kept s t2 := .of_snd e2 k1.drumSwing
    exact k2.drumQuiet
  · split
    rename_i x1 t1 e1
    have k1 : Kept s t1 := .of_snd e1 k.drumFilters
    split
    rename_i x2 t2 e2
    have k2 : Kept s t2 := .of_snd e2 k1.drumSwing
    split
    rename_i x3 t3 e3
    have k3 : Kept s t3 := .of_snd e3 k2.drumVoltage
    exact k3.drumRefs

theorem drumMeasured (k : Kept s t) {st : Nat} {x : DrumIn} : Kept s (drumMeasured st x t) := k.wrI.wrI.wrI.wrI

theorem drumShow (k : Kept s t) {st : Nat} : Kept s (drumShow st t) := k.wrW.wrW.wr.when (fun _ hu => hu.setB)

theorem drumPulses (k : Kept s t) {st : Nat} : Kept s (drumPulses st t) := k.setDrm

theorem drumRecords (k : Kept s t) {st : Nat} {l : List (Nat × Nat)} : Kept s (drumRecords st l t) :=
  k.each (fun _ _ hu => hu.each (fun _ _ hv => hv.record))

theorem drumFront (k : Kept s t) {st : Nat} {bad : List (BitVec 32)} : Kept s (drumFront st bad t).2.2 :=
  k.blockTimeout.blockTimeout.stepStores.drumEnable.sourceLost.drumTakeUp.drumRamp.drumBus.drumMeasured.drumDead
    |>.drumBreaker.drumSync.drumCounts.drumCurves

theorem drumStep (k : Kept s t) {st : Nat} {bad : List (BitVec 32)} : Kept s (drumStep st bad t) := by
  unfold Machine.drumStep
  split
  rename_i x r1 t1 e1
  extract_lets old live
  split
  rename_i r3 t2 e2
  split
  rename_i r4 t3 e3
  split
  rename_i y t4 e4
  have k1 : Kept s t1 := .of_snd2 e1 k.drumFront
  have k2 : Kept s t2 := .of_snd e2 k1.drumAuto
  have k3 : Kept s t3 := .of_snd e3 k2.drumCommand
  have k4 : Kept s t4 := .of_snd e4 k3.drumEquations
  exact k4.satFlags.setDrm.drumRecords.drumShow.drumPulses

theorem drumStepEnd (k : Kept s t) {st : Nat} : Kept s (drumStepEnd st t) :=
  (((k.setDrm.when (fun _ hu => hu.pulsesOff)).ite k).setB.when (fun _ hu => hu.emit)).ite k

/-! The mains code (15). -/

theorem setMc (k : Kept s t) {f : McSt → McSt} : Kept s (setMc f t) := k.steady (.setMc (.refl t))

theorem corrBit (k : Kept s t) {ph : Nat} {v : Int} : Kept s (corrBit ph v t) := by
  unfold Machine.corrBit
  extract_lets _ _ _ _ f1 _ _ _ f2 t3
  have hf1 : ∀ x u4, Kept s u4 → Kept s (f1 x u4) := by
    intro x u4 k4
    exact k4.setMc
  have hf2 : ∀ u5, Kept s u5 → Kept s (f2 u5) := by
    intro u5 k5
    exact ((hf1 _ _ k5).setF).ite (hf1 _ _ k5)
  have k3 : Kept s t3 := hf2 _ k
  split
  · exact (hf1 _ _ k).ite ((hf1 _ _ k).ite (k3.setMc.ite k3))
  · exact hf2 _ k

theorem mcCycle (k : Kept s t) {c : Nat} {a : Int} : Kept s (mcCycle c a t) := by
  unfold Machine.mcCycle
  extract_lets _ _ t1 _ _ t2
  have k1 : Kept s t1 := k.setMc
  have k2 : Kept s t2 := k1.setMc
  exact k1.ite (k2.ite k2.corrBit)

theorem mcForget (k : Kept s t) : Kept s (mcForget t) := k.setMc

theorem mcStep (k : Kept s t) {st : Nat} : Kept s (mcStep st t) := by
  unfold Machine.mcStep
  split
  · exact k
  · split
    · exact k.mcForget.setMc.setB.setB
    · extract_lets _ _ _ _ t1 t2
      have k1 : Kept s t1 := by
        unfold t1
        split
        · exact k.mcForget.ite k.mcCycle
        · exact k
      have k2 : Kept s t2 := k.setMc.ite k1.setMc
      exact k2.setB

/-! The clock tree (14). -/

theorem ageCache (k : Kept s t) : Kept s (ageCache t) := k.each (fun _ _ hu => hu.when (fun _ hv => hv.wr))

theorem searchEnd (k : Kept s t) {i band : Nat} : Kept s (searchEnd i band t) := k.ageCache.setF.setF.setB.ite k.ageCache

theorem clkFlag (k : Kept s t) {F : Fld} : Kept s (clkFlag F t) := k.setB

theorem hopTo (k : Kept s t) {i : Nat} {auto_ : Bool} : Kept s (hopTo i auto_ t) := k.withClk.setB.setB

theorem hopStop (k : Kept s t) : Kept s (hopStop t) := k.withClk.setB

theorem referenceLoss (k : Kept s t) {refs : Nat} : Kept s (referenceLoss refs t) := by
  unfold Machine.referenceLoss
  extract_lets _ _ t1 t2 _ t3
  have k1 : Kept s t1 := k.when (fun _ hu => hu.clkFlag)
  have k2 : Kept s t2 := k1.hopStop.clkFlag.setB.ageCache
  have k3 : Kept s t3 := k2.withClk
  split
  · exact k3.hopTo
  · exact k3.record

theorem hopRequest (k : Kept s t) {i refs : Nat} : Kept s (hopRequest i refs t) :=
  k.ageCache.clkFlag.ite k.ageCache.withClk.hopTo

theorem hopComplete (k : Kept s t) : Kept s (hopComplete t) := by
  unfold Machine.hopComplete
  split
  · exact k
  · exact k.ite k.withClk.hopStop.setB.setF.clkFlag.record

theorem discSample (k : Kept s t) {src : Nat} {e : Int} : Kept s (discSample src e t) :=
  k.ite (((k.when (fun _ hu => hu.record)).when (fun _ hu => hu.clkFlag)).withClk.wrI.wrI)

theorem yRamp (k : Kept s t) : Kept s (yRamp t) := (k.setF.wrI.ite (k.setF.wrI.ite k.setF)).withClk.wrI

theorem outLevel (k : Kept s t) {n lvl i : Nat} : Kept s (outLevel n lvl i t) := k.steady (.outLevel (.refl t))

/-! The cycle engine (12). -/

theorem setTask (k : Kept s t) {i : Nat} {x : TaskSt} : Kept s (setTask i x t) := k.steady (.setTask (.refl t))

theorem setRun (k : Kept s t) {i : Nat} : Kept s (setRun i t) := k.steady (.setRun (.refl t))

theorem cycFlag (k : Kept s t) {F : Fld} : Kept s (cycFlag F t) := k.steady (.cycFlag (.refl t))

theorem setForce (k : Kept s t) {i : Nat} {x : Option Force} : Kept s (setForce i x t) := k.steady (.setForce (.refl t))

theorem progStore (k : Kept s t) {a n v : Nat} : Kept s (progStore a n v t) := k.steady (.progStore (.refl t))

theorem taskWrites (k : Kept s t) {l : List (BitVec 32 × BitVec 32)} : Kept s (taskWrites l t) :=
  k.ite (k.each (fun _ _ hu => hu.progStore))

theorem forceApply (k : Kept s t) {i : Nat} : Kept s (forceApply i t) := k.steady (.forceApply (.refl t))

theorem forceDrop (k : Kept s t) {i : Nat} : Kept s (forceDrop i t) := by
  unfold Machine.forceDrop
  split
  · exact k
  · exact (k.setForce.when (fun _ hu => hu.stN)).cycFlag.record

theorem cycDispatch (k : Kept s t) : Kept s (cycDispatch t) := k.steady (.cycDispatch (.refl t))

theorem setCauses (k : Kept s t) {l : List (Nat × Nat)} : Kept s (setCauses l t) := k.withCyc.setF

theorem errorCause (k : Kept s t) {kind i : Nat} : Kept s (errorCause kind i t) := k.ite (k.bump.ite k.setCauses)

theorem errorCall (k : Kept s t) : Kept s (errorCall t) := by
  unfold Machine.errorCall
  split
  · exact k
  · exact k.ite k.setCauses.setF.setF.setTask.cycDispatch

theorem programFault (k : Kept s t) {i : Nat} : Kept s (programFault i t) :=
  k.ite (k.upsetThen (fun _ hu => hu.gradeG3All.errorCause))

theorem taskStart (k : Kept s t) {i : Nat} : Kept s (taskStart i t) :=
  k.ite (k.cycFlag.bump.record.programFault.ite k.setTask.cycDispatch)

theorem taskIdle (k : Kept s t) {i : Nat} : Kept s (taskIdle i t) := k.setTask.when (fun _ hu => hu.setRun)

theorem taskFinish (k : Kept s t) {i : Nat} : Kept s (taskFinish i t) := by
  unfold Machine.taskFinish
  extract_lets _ t1 t2 _ _ t3 _ t4
  have k1 : Kept s t1 := k.when (fun _ hu => hu.setF.setF)
  have k2 : Kept s t2 := k1.taskIdle
  have k3 : Kept s t3 := k2.withCyc
  have k4 : Kept s t4 := by
    unfold t4
    split
    · exact k3.withCyc.ite k3
    · exact k3
  exact k4.cycDispatch

theorem taskAbort (k : Kept s t) {i : Nat} : Kept s (taskAbort i t) := k.taskIdle.cycDispatch

theorem taskDeadline (k : Kept s t) {i : Nat} {writes : List (BitVec 32 × BitVec 32)} : Kept s (taskDeadline i writes t) := by
  unfold Machine.taskDeadline
  extract_lets _ t1 t2
  have k1 : Kept s t1 := k.setTask.cycFlag
  have k2 : Kept s t2 := k1.bump.record.programFault
  exact k.ite ((((k2.when (fun _ hu => hu.taskWrites)).taskAbort).ite k2).ite k1.record)

theorem taskException (k : Kept s t) {i : Nat} {writes : List (BitVec 32 × BitVec 32)} : Kept s (taskException i writes t) := by
  unfold Machine.taskException
  split
  · exact k
  · extract_lets t1
    have k1 : Kept s t1 := k.taskWrites.cycFlag
    exact k1.record.errorCause.programFault.taskAbort.ite ((k1.record.under (fun _ hu => hu.gradeG4)).taskAbort)

theorem lockstepMismatch (k : Kept s t) : Kept s (lockstepMismatch t) :=
  k.ite (k.withCyc.setRun.setB.record.under (fun _ hu => (hu.upsetThen (fun _ hv => hv.withCyc)).gradeG4))

theorem lockstepRestart (k : Kept s t) : Kept s (lockstepRestart t) := by
  unfold Machine.lockstepRestart
  split
  · exact k.ite k.withCyc
  · exact k

theorem setPresent (k : Kept s t) {sn : Nat} {b : Bool} : Kept s (setPresent sn b t) := k.setB.setBitAt.ite k.setB.setBitAt

theorem stationDrop (k : Kept s t) {sn : Nat} : Kept s (stationDrop sn t) :=
  k.setPresent.bump.withCyc.cycFlag.record.errorCause.ite k

theorem stationFrame (k : Kept s t) {sn : Nat} {words : List Nat} : Kept s (stationFrame sn words t) := by
  unfold Machine.stationFrame
  extract_lets _ _ t1 _ t2
  have k1 : Kept s t1 := k.withCyc
  have k2 : Kept s t2 := k1.when (fun _ hu => hu.withCyc)
  exact k2.setPresent.cycFlag.record.errorCause.ite k2

theorem stationCycle (k : Kept s t) : Kept s (stationCycle t) := (k.each (fun _ _ hu => hu.withCyc)).withCyc

theorem restartRequest (k : Kept s t) {kind w : Nat} : Kept s (restartRequest kind w t) := by
  unfold Machine.restartRequest
  split
  · exact k.withCyc
  · exact k.withCyc

theorem patchRefuse (k : Kept s t) {cause : Nat} : Kept s (patchRefuse cause t) := k.setF.cycFlag.record

theorem patchDiscard (k : Kept s t) {cause : Nat} : Kept s (patchDiscard cause t) := by
  unfold Machine.patchDiscard
  split
  · exact k
  · exact k.withCyc.setB.patchRefuse

theorem restartBegin (k : Kept s t) : Kept s (restartBegin t) := by
  unfold Machine.restartBegin
  split
  · exact k
  · exact k.ite (((k.withCyc.each (fun _ _ hu => hu.wr.wr)).setRun.setB.setB.dropCause.ownerSideband.each (fun _ _ hu =>
    hu.forceDrop)).patchDiscard)

theorem segInit (k : Kept s t) {g : Seg} : Kept s (segInit g t) := by
  unfold Machine.segInit
  split
  · exact k
  · exact k.stBytes

theorem restartComplete (k : Kept s t) : Kept s (restartComplete t) := by
  unfold Machine.restartComplete
  split
  · exact k
  · split
    extract_lets _ t1 t2 t3 _ t4 _ t5
    have k1 : Kept s t1 := k.each (fun _ _ hu => hu.segInit)
    have k2 : Kept s t2 := by
      unfold t2
      split
      · exact k1
      · exact k1.stBytes.ite k1.segInit
    have k3 : Kept s t3 := k2.setB.setB.setB
    have k4 : Kept s t4 := k3.withPar
    have k5 : Kept s t5 := (k4.ite (k4.enterSyncing.ite k4.withPar)).ite k3
    exact k5.record.ite k5.record

theorem retainSnapshot (k : Kept s t) : Kept s (retainSnapshot t) := by
  unfold Machine.retainSnapshot
  split
  · exact k.ite k.stBytes.setB.withPwr
  · exact k

theorem patchSubmit (k : Kept s t) : Kept s (patchSubmit t) := k.patchRefuse.ite k.withCyc.setB

theorem patchValidated (k : Kept s t) : Kept s (patchValidated t) := by
  unfold Machine.patchValidated
  split
  · exact k
  · exact k.withCyc.setB.withCyc.setF.setB.ite k.withCyc.setB.patchRefuse

theorem patchEntry (k : Kept s t) {e : Nat × Nat × Nat} : Kept s (patchEntry e t) := by
  unfold Machine.patchEntry
  split
  · exact k.setForce
  · exact k.progStore

theorem patchApply (k : Kept s t) : Kept s (patchApply t) := by
  unfold Machine.patchApply
  split
  · exact k
  · exact k.ite ((((k.each (fun _ _ hu => hu.forceApply)).each (fun _ _ hu => hu.forceDrop)).withCyc.each (fun _ _ hu =>
    hu.patchEntry)).setB.bump.cycFlag.record)

theorem patchTimeout (k : Kept s t) : Kept s (patchTimeout t) := by
  unfold Machine.patchTimeout
  split
  · exact k.patchDiscard.ite k
  · exact k

theorem forceResult (k : Kept s t) {n : Nat} : Kept s (forceResult n t) := k.setF

theorem forceCommand (k : Kept s t) {v : Nat} : Kept s (forceCommand v t) := by
  unfold Machine.forceCommand
  extract_lets _ _ _ _ _
  split
  · exact k.forceResult
  · split
    · split
      · exact k.forceResult
      · split
        · exact k.setForce.forceResult
        · split
          · exact k.forceResult
          · exact k.setForce.forceResult
    · split
      · split
        · exact k.forceResult
        · split
          · exact k.forceResult
          · exact k.setForce.forceResult
      · exact k

theorem forceSetNow (k : Kept s t) {i : Nat} : Kept s (forceSetNow i t) := by
  unfold Machine.forceSetNow
  split
  · exact k
  · exact k.forceApply.ite k

theorem forceReleaseNow (k : Kept s t) {i : Nat} : Kept s (forceReleaseNow i t) := by
  unfold Machine.forceReleaseNow
  split
  · exact k
  · exact k.forceDrop.ite k

/-! The fabric and the DMA rings (13). -/

theorem boundsShow (k : Kept s t) : Kept s (boundsShow t) := k.each (fun _ _ hu => hu.setF.setF)

theorem dropAsks (k : Kept s t) {q : Nat} : Kept s (dropAsks q t) := k.withFab

theorem dropRead (k : Kept s t) {q : Nat} : Kept s (dropRead q t) := by
  unfold Machine.dropRead
  refine .dropAsks ?_
  split
  · exact k
  · extract_lets _ _
    split
    · exact k
    · split
      · exact k
      · split
        · exact k.setDma
        · exact k.withFab.setDma.setB.setF

theorem setMask (k : Kept s t) {q : Nat} {b : Bool} : Kept s (setMask q b t) :=
  (k.when (fun _ hu => hu.dropRead)).setF.boundsShow

theorem dmaSum (k : Kept s t) {r : Nat} : Kept s (dmaSum r t) := k.steady (.dmaSum (.refl t))

theorem dmaFlag (k : Kept s t) {r : Nat} {F : Fld} : Kept s (dmaFlag r F t) := k.steady (.dmaFlag (.refl t))

theorem heAssert (k : Kept s t) {n len : Nat} : Kept s (heAssert n len t) := k.steady (.heAssert (.refl t))

theorem sramCorrected (k : Kept s t) {i : Nat} : Kept s (sramCorrected i t) :=
  k.setB.bump.record.upsetThen (fun _ hu => hu.overflowG4)

theorem sramUncorrectable (k : Kept s t) {i addr : Nat} : Kept s (sramUncorrectable i addr t) :=
  k.setB.bump.wr.record.upsetThen (fun _ hu => hu.overflowG4)

theorem dramFail (k : Kept s t) : Kept s (dramFail t) := k.setB.record.upsetThen (fun _ hu => hu.setB.record)

theorem dramWindow (k : Kept s t) {ok : Bool} : Kept s (dramWindow ok t) := (k.withFab.ite k.withFab.dramFail).ite k

theorem xferEndAt (k : Kept s t) {r status lt : Nat} : Kept s (xferEndAt r status lt t) := k.setDma

theorem xferEnd (k : Kept s t) {r status : Nat} : Kept s (xferEnd r status t) := k.xferEndAt

theorem ringUpset (k : Kept s t) {r : Nat} : Kept s (ringUpset r t) := k.upsetThen (fun _ hu => hu.setDma.setB.record)

theorem chainEnd (k : Kept s t) {r : Nat} : Kept s (chainEnd r t) := k.setDma

theorem fetchBurst (k : Kept s t) {r : Nat} : Kept s (fetchBurst r t) := by
  unfold Machine.fetchBurst
  split
  · exact k
  · extract_lets _ _ _ _ _ _
    split
    split
    · exact k.setDma.record.ite k.setDma.chainEnd
    · extract_lets _ t1 t2 _ t3 _
      have k1 : Kept s t1 := k.setDma
      have k2 : Kept s t2 := k1.setB.setF
      have k3 : Kept s t3 := k2.ite k2.withFab
      exact k3.xferEnd.dmaFlag.record.ite (k3.xferEnd.ite k3)

theorem memErr (k : Kept s t) {r : Nat} : Kept s (memErr r t) := k.xferEnd.dmaFlag.record.ringUpset

theorem dmaBurst (k : Kept s t) {r : Nat} {bad : Bool} : Kept s (dmaBurst r bad t) := by
  unfold Machine.dmaBurst
  split
  · exact k
  · split
    · exact k
    · exact k.memErr.ite (k.stBytes.setDma.ite k.setDma)

theorem xferLate (k : Kept s t) {r : Nat} : Kept s (xferLate r t) := k.xferEnd.dmaFlag.record.ringUpset

theorem readBack (k : Kept s t) {r : Nat} {ok bad : Bool} : Kept s (readBack r ok bad t) := by
  unfold Machine.readBack
  split
  · exact k
  · exact k.ite (k.memErr.ite ((k.xferLate.ite k.xferEndAt).ite (k.xferEnd.dmaFlag.ringUpset.ite (k.record.xferLate.ite
    k.record.dmaFlag.setDma))))

theorem returnBurst (k : Kept s t) {r : Nat} : Kept s (returnBurst r t) := by
  unfold Machine.returnBurst
  split
  · exact k
  · split
    · exact k
    · exact k.ite k.stN.stN.stN.setDma.setB

theorem dmaDeadline (k : Kept s t) {r : Nat} : Kept s (dmaDeadline r t) := by
  unfold Machine.dmaDeadline
  extract_lets _ _ f1
  have hf1 : ∀ u2, Kept s u2 → Kept s (f1 u2) := by
    intro u2 k2
    exact k2.dmaFlag.record.ringUpset
  split
  · exact k
  · split
    · exact k.xferLate.ite k
    · split
      · exact (hf1 _ k.setDma).ite k
      · exact k

theorem dmaResult (k : Kept s t) {r n : Nat} : Kept s (dmaResult r n t) := k.setF

theorem dmaGo (k : Kept s t) {r : Nat} : Kept s (dmaGo r t) := k.dmaResult.ite (k.setDma.dmaResult.ite k.setDma.dmaResult)

theorem dmaAbort (k : Kept s t) {r : Nat} : Kept s (dmaAbort r t) := by
  unfold Machine.dmaAbort
  extract_lets _ f1
  have hf1 : ∀ u2, Kept s u2 → Kept s (f1 u2) := by
    intro u2 k2
    exact k2.setDma
  split
  · split
    · exact ((hf1 _ k.xferEnd).dmaResult).ite k.dmaResult
    · exact k.dmaResult
    · exact (hf1 _ k.xferEnd).dmaResult
  · exact k.dmaResult.ite ((hf1 _ k).dmaResult)

theorem grantTo (k : Kept s t) {q i wait : Nat} {best others : Bool} : Kept s (grantTo q i wait best others t) :=
  k.steady (.grantTo (.refl t))

theorem burstAlone (k : Kept s t) {q i : Nat} {f : State → State} (hf : ∀ u, Kept s u → Kept s (f u)) :
    Kept s (burstAlone q i f t) := (hf _ k.grantTo).ite k

theorem reading (k : Kept s t) {q i r : Nat} {f : State → State} (hf : ∀ u, Kept s u → Kept s (f u)) :
    Kept s (reading q i r f t) := (hf _ k).when (fun _ hu => hu.withFab)

theorem portBurst (k : Kept s t) {q r err : Nat} : Kept s (portBurst q r err t) := by
  unfold Machine.portBurst
  split
  · exact k
  · split
    · exact k.reading (fun _ hu => hu.fetchBurst)
    · split
      · exact k.xferLate
      · split
        · split
          · exact k.reading (fun _ hu => hu.dmaBurst)
          · exact k.dmaBurst
        · exact k.readBack.ite k.returnBurst

theorem ringBurst (k : Kept s t) {r kind : Nat} {f : Nat → Nat → State → State} (hf : ∀ x y u, Kept s u → Kept s (f x y u)) :
    Kept s (ringBurst r kind f t) := by
  unfold Machine.ringBurst
  extract_lets _
  split
  · exact (k.burstAlone (fun _ hu => hf _ _ _ hu)).ite k
  · exact k

theorem descFetch (k : Kept s t) {r : Nat} : Kept s (descFetch r t) :=
  k.ringBurst (fun _ _ _ hu => hu.reading (fun _ hv => hv.fetchBurst))

theorem xferComplete (k : Kept s t) {r : Nat} {ok : Bool} : Kept s (xferComplete r ok t) :=
  k.ringBurst (fun _ _ _ hu => hu.readBack)

theorem descReturn (k : Kept s t) {r : Nat} : Kept s (descReturn r t) := k.ringBurst (fun _ _ _ hu => hu.returnBurst)

theorem burstDone (k : Kept s t) {q i err addr : Nat} : Kept s (burstDone q i err addr t) := by
  unfold Machine.burstDone
  extract_lets t1 _
  have k1 : Kept s t1 := k.ite (k.sramCorrected.ite (k.sramUncorrectable.ite k))
  split
  · split
    · exact k1.portBurst
    · exact k1
  · split
    · split
      · exact k1.chDrain.chReduce
      · exact k1
    · exact k1.withFab.ite k1

theorem arbGrant (k : Kept s t) {i err addr : Nat} {pend : List (Nat × Nat)} : Kept s (arbGrant i pend err addr t) := by
  unfold Machine.arbGrant
  extract_lets _ _
  split
  · exact k
  · exact k.ite k.grantTo.burstDone

/-! The span ports (15). -/

theorem setSpn (k : Kept s t) {f : SpnSt → SpnSt} : Kept s (setSpn f t) := k.withSpn

theorem spnFlag (k : Kept s t) {F : Fld} : Kept s (spnFlag F t) := k.setB

theorem portDiscard (k : Kept s t) {p : Nat} : Kept s (portDiscard p t) := k.bump

theorem selectSlave (k : Kept s t) : Kept s (selectSlave t) := k.setSpn.each (fun _ _ hu => hu.setBitAt)

theorem portRetire (k : Kept s t) {p : Nat} : Kept s (portRetire p t) := k.record.setBitAt.setBitAt.selectSlave

theorem frameDiscard (k : Kept s t) {p : Nat} {fcs : Bool} : Kept s (frameDiscard p fcs t) :=
  k.ite ((k.bump.setBitAt.upsetThen (fun _ hu => hu.portRetire)).ite k.portDiscard)

theorem setTier (k : Kept s t) {i : Nat} {x : Tier} : Kept s (setTier i x t) := by
  unfold Machine.setTier
  extract_lets t1
  have k1 : Kept s t1 := k.setSpn
  exact k1.wr.wrI.wrI.setB.setB.wr.wr.ite k1.wr.wrI.wrI.setB

theorem follow (k : Kept s t) {i addr : Nat} : Kept s (follow i addr t) := k.ite k.setTier.spnFlag.record

theorem yieldTo (k : Kept s t) {i : Nat} {a : Nat × Nat} : Kept s (yieldTo i a t) := by
  unfold Machine.yieldTo
  extract_lets
  exact k.setTier.when (fun _ hu => hu.setTier)

theorem beaconIn (k : Kept s t) {i src : Nat} {d : List Nat} : Kept s (beaconIn i src d t) :=
  k.ite (((k.yieldTo.when (fun _ hu => hu.record)).setB.when (fun _ hu => ((hu.when (fun _ hv =>
    hv.setB.setSpn)).setSpn).setB)).setTier.follow)

theorem claimIn (k : Kept s t) {i : Nat} {d : List Nat} : Kept s (claimIn i d t) := k.yieldTo

theorem reportIn (k : Kept s t) {i src : Nat} {d : List Nat} : Kept s (reportIn i src d t) :=
  k.ite (k.setTier.ite k.setTier.wr.wr.wr.wr.wr)

theorem dispatchIn (k : Kept s t) {i : Nat} {d : List Nat} : Kept s (dispatchIn i d t) := k.ite k.wr.wr.wr

theorem ringFrame (k : Kept s t) {i : Nat} {f : Frame} : Kept s (ringFrame i f t) :=
  k.spnFlag.bump.ite (k.busUse (fun _ hu => hu.stBytes.wr))

theorem deliverFrame (k : Kept s t) {i : Nat} {f : Frame} : Kept s (deliverFrame i f t) := by
  unfold Machine.deliverFrame
  extract_lets _
  split
  · exact k
  · split
    · exact k.ringFrame
    · exact k.each (fun _ _ hu => hu.stationFrame)
    · exact k.beaconIn
    · exact k.claimIn
    · exact k.reportIn
    · exact k.dispatchIn
    · exact k

theorem setStream (k : Kept s t) {i : Nat} {x : Option Stream} : Kept s (setStream i x t) := k.setSpn

theorem streamLoss (k : Kept s t) {i : Nat} {lost : List Nat} {late : Bool} : Kept s (streamLoss i lost late t) :=
  k.ite k.setStream.spnFlag.recordAtf

theorem streamRun {i : Nat} : ∀ {n : Nat} {t : State}, Kept s t → Kept s (streamRun n i t)
  | 0, _, k => k
  | n + 1, _, k => by
    unfold Machine.streamRun
    split
    · exact k
    · split
      · exact k.setStream
      · refine Kept.streamRun ?_
        split
        · exact k.setStream.deliverFrame
        · exact k.setStream.streamLoss

theorem streamFlush (k : Kept s t) {i : Nat} : Kept s (streamFlush i t) := by
  unfold Machine.streamFlush
  split
  · exact k
  · exact k.ite (k.setStream.streamLoss.each (fun _ _ hu => hu.deliverFrame))

theorem streamPlace (k : Kept s t) {i q port : Nat} {f : Option Frame} : Kept s (streamPlace i q f port t) := by
  unfold Machine.streamPlace
  split
  · exact k
  · exact k.setStream.streamRun.ite ((k.portDiscard.ite (k.setStream.streamFlush.ite k.setStream)).ite (k.record.ite
    k.portDiscard))

theorem streamIn (k : Kept s t) {i q port : Nat} {f : Option Frame} : Kept s (streamIn i q f port t) := by
  unfold Machine.streamIn
  extract_lets t1 t2
  have k1 : Kept s t1 := k.setStream
  have k2 : Kept s t2 := by
    unfold t2
    refine k1.when (fun u3 k3 => ?_)
    split
    · exact k3.streamFlush
    · exact k3
  exact k2.streamPlace

theorem streamFind (k : Kept s t) {src dst dstk seq : Nat} : Kept s (streamFind src dst dstk seq t).2 := by
  unfold Machine.streamFind
  split
  · exact k
  · split
    · exact k.spnFlag
    · exact k.setStream

theorem streamsClose (k : Kept s t) {src : Nat} : Kept s (streamsClose src t) := k.each (fun _ _ hu => hu.streamFlush.setStream)

theorem epochTest (k : Kept s t) {f : Frame} : Kept s (epochTest f t).2 := by
  unfold Machine.epochTest
  split
  · dsimp only
    exact k.setSpn
  · split
    · exact k.spnFlag.portDiscard
    · split
      · exact k.setSpn.streamsClose
      · exact k

theorem fwdStart (k : Kept s t) {p : Nat} {x : Fwd} : Kept s (fwdStart p x t) := k.setSpn.portTaken.emit

theorem fwdGo (k : Kept s t) {p : Nat} : Kept s (fwdGo p t) := by
  unfold Machine.fwdGo
  split
  · exact k.fwdStart
  · exact k

theorem fwdOut (k : Kept s t) {p : Nat} {x : Fwd} : Kept s (fwdOut p x t) := k.each (fun _ _ hu => hu.setSpn.fwdGo)

theorem forward (k : Kept s t) {f : Frame} : Kept s (forward f t) := k.ite k.fwdOut

theorem ownFrame (k : Kept s t) {f : Frame} : Kept s (ownFrame f t) := by
  unfold Machine.ownFrame
  extract_lets t1
  have k1 : Kept s t1 := k.when (fun _ hu => hu.epochSeen)
  exact k1.setSpn.fence.ite k1

theorem portTakes (k : Kept s t) {p : Nat} {f : State → State} (hf : ∀ u, Kept s u → Kept s (f u)) : Kept s (portTakes p f t) :=
  k.ite (k.setSpn.ite (hf _ (k.when (fun _ hu => hu.setSpn))))

theorem frameIn (k : Kept s t) {f : Frame} : Kept s (frameIn f t) := by
  unfold Machine.frameIn
  refine k.portTakes (fun u1 k1 => ?_)
  split
  · exact k1.portDiscard
  · split
    · exact k1.ownFrame
    · extract_lets t2
      have k2 : Kept s t2 := k1.forward
      split
      rename_i u3 e3
      have k3 : Kept s u3 := .of_snd e3 k2.epochTest
      split
      · exact k3
      · split
        rename_i u4 e4
        have k4 : Kept s u4 := .of_snd e4 k3.streamFind
        split
        · exact k4
        · exact k4.spnFlag.streamIn.ite k4.streamIn

theorem urgentIn (k : Kept s t) {f : Frame} {serial : Option Nat} {use : State → State}
    (huse : ∀ u, Kept s u → Kept s (use u)) : Kept s (urgentIn f serial use t) := by
  refine k.portTakes (fun u ku => ?_)
  refine ku.portDiscard.ite (ku.ownFrame.ite ?_)
  have k1 : Kept s (Machine.epochTest f (Machine.forward f u)).2 := ku.forward.epochTest
  refine k1.ite (huse _ ?_)
  split
  · exact k1.setSpn
  · exact k1

theorem nextSeq (k : Kept s t) {dstk dst : Nat} : Kept s (nextSeq dstk dst t).2 := by
  unfold Machine.nextSeq
  dsimp only
  exact k.setSpn

theorem frameSend (k : Kept s t) {p e kind cls q : Nat} : Kept s (frameSend p e kind cls q t) :=
  (k.when (fun _ hu => hu.stN.stN.busAsk.busAsk)).setSpn.portTaken.emit

theorem frameStart (k : Kept s t) {p e kind fired : Nat} : Kept s (frameStart p e kind fired t) := by
  unfold Machine.frameStart
  split
  rename_i q t1 e1
  have k1 : Kept s t1 := by
    refine .of_snd e1 ?_
    split
    · exact k
    · exact k.nextSeq
  exact k1.setSpn.frameSend

theorem setQueue (k : Kept s t) {p : Nat} {l : List Tx} : Kept s (setQueue p l t) := k.setSpn

theorem spanTx (k : Kept s t) {e : Nat} : Kept s (spanTx e t) :=
  k.ite ((k.when (fun _ hu => hu.setTier)).each (fun _ _ hu => hu.setQueue))

theorem portStart (k : Kept s t) {p : Nat} : Kept s (portStart p t) := by
  unfold Machine.portStart
  split
  · exact k.fwdGo
  · split
    · extract_lets t1
      have k1 : Kept s t1 := k.setQueue
      split
      · exact k1.frameStart
      · exact k1
    · split
      · exact k.urgentGo
      · split
        · exact k.fwdGo
        · split
          · exact k.setSpn.frameSend
          · exact k.fwdGo

theorem entryRetire (k : Kept s t) {e : Nat} : Kept s (entryRetire e t) := k.record.setSpn

theorem txMiss (k : Kept s t) {p : Nat} : Kept s (txMiss p t) := by
  unfold Machine.txMiss
  split
  · exact k
  · exact (k.setQueue.spnFlag.record.upsetThen (fun _ hu => hu.entryRetire)).ite (k.setQueue.ite k.setQueue.setSpn.stN)

theorem bestEffort (k : Kept s t) {e : Nat} : Kept s (bestEffort e t) := k.ite (k.nextSeq.each (fun _ _ hu => hu.setSpn))

theorem secondary (k : Kept s t) {i : Nat} : Kept s (secondary i t) := k.setTier

theorem tierStart (k : Kept s t) {i n : Nat} : Kept s (tierStart i n t) := k.setTier.when (fun _ hu => hu.secondary)

theorem memberAge (k : Kept s t) : Kept s (memberAge t) := k.each (fun _ _ hu => hu.bump.setBitAt)

theorem raiseBsen (k : Kept s t) : Kept s (raiseBsen t) := k.setTier.ite k

theorem cycleStart (k : Kept s t) : Kept s (cycleStart t) :=
  k.ite (((k.when (fun _ hu => hu.stationCycle)).when (fun _ hu => hu.refereeFrame)).wr.setSpn.tierStart.raiseBsen.memberAge)

theorem regionStart (k : Kept s t) : Kept s (regionStart t) := k.ite k.tierStart.setTier

theorem beaconLoss (k : Kept s t) : Kept s (beaconLoss t) := k.setB.ite k

theorem claimStart (k : Kept s t) {i : Nat} : Kept s (claimStart i t) := by
  unfold Machine.claimStart
  extract_lets _
  split
  · exact k
  · exact k.ite k.setTier

theorem roleTake (k : Kept s t) {i : Nat} : Kept s (roleTake i t) := by
  unfold Machine.roleTake
  extract_lets _
  split
  · exact k.ite k.setTier.follow
  · exact k

theorem trackLost (k : Kept s t) : Kept s (trackLost t) := k.setB.record.ite k

theorem announceTimeout (k : Kept s t) {p : Nat} : Kept s (announceTimeout p t) :=
  k.ite (k.setSpn.selectSlave.when (fun _ hu => hu.trackLost))

theorem ptpForward (k : Kept s t) {p kind : Nat} {fields : List Nat} : Kept s (ptpForward p kind fields t) := k.fwdOut

theorem announceIn (k : Kept s t) {p gm steps : Nat} : Kept s (announceIn p gm steps t) :=
  k.portTakes (fun _ hu => hu.ptpForward.setSpn.selectSlave)

theorem syncIn (k : Kept s t) {p origin : Nat} : Kept s (syncIn p origin t) :=
  k.portTakes (fun _ hu => hu.ptpForward.ite ((hu.ptpForward.ite hu.ptpForward.wr64.setB.record).setB.wrI.discSample))

theorem peerDelay (k : Kept s t) {p t1 t2 t3 t4 : Nat} : Kept s (peerDelay p t1 t2 t3 t4 t) := k.ite k.wr

theorem pdelayReq (k : Kept s t) {p : Nat} : Kept s (pdelayReq p t) := k.setSpn.urgentPut.ite k

theorem ptpInterval (k : Kept s t) {p : Nat} : Kept s (ptpInterval p t) := by
  unfold Machine.ptpInterval
  split
  · exact k
  · extract_lets t1 _ t2
    have k1 : Kept s t1 := k.pdelayReq
    have k2 : Kept s t2 := k1.setSpn.urgentPut.ite k1
    exact k1.ite (k2.setSpn.urgentPut.ite k2)

theorem portLinkUp (k : Kept s t) {p : Nat} : Kept s (portLinkUp p t) := k.ite k.withClk.setBitAt

theorem portLinkLoss (k : Kept s t) {p : Nat} : Kept s (portLinkLoss p t) :=
  k.ite (k.setBitAt.setBitAt.bump.selectSlave.upsetThen (fun _ hu => hu.portRetire))

/-! The Stitch instances (04). -/

theorem fallbackCheck (k : Kept s t) {n : Nat} {miss : Bool} : Kept s (fallbackCheck n miss t) :=
  k.setF.setInst.setB.record.ite k

theorem runInst (k : Kept s t) {st n set : Nat} {ph : List Int} {sh : Tbl (Int × Nat)} : Kept s (runInst st n set ph sh t) := by
  unfold Machine.runInst
  extract_lets _ t1 _ _ _ _ _ _ _ _ _ _ _ _ _
  have k1 : Kept s t1 := k.fallbackCheck
  split
  split
  extract_lets _ _ _ _ _ _ t2 t3 t4 t5 t6 _
  have k2 : Kept s t2 := k1.setInst
  have k3 : Kept s t3 := k2.when (fun _ hu => hu.setF)
  have k4 : Kept s t4 := k3.setF.setB.setB
  have k5 : Kept s t5 := k4.when (fun _ hu => hu.setB)
  have k6 : Kept s t6 := k5.wrI.wrI
  exact k6.setSti.ite k6

theorem writeCompare (k : Kept s t) {n : Nat} {r : Int} : Kept s (writeCompare n r t) := k.setHb.wr

theorem satFlag (k : Kept s t) {n : Nat} : Kept s (satFlag n t) := k.setB.setB

theorem finishHem (k : Kept s t) {st n : Nat} {sh : Tbl (Int × Nat)} {ran : Bool} : Kept s (finishHem st n sh ran t) :=
  (k.setB.ite ((k.setB.setInst.when (fun _ hu => hu.satFlag)).ite k.setB)).ite k

theorem setFe (k : Kept s t) {n i : Nat} : Kept s (setFe n i t) := k.steady (.setFe (.refl t))

theorem feExpire (k : Kept s t) {st n : Nat} : Kept s (feExpire st n t) := by
  unfold Machine.feExpire
  extract_lets t1 t2 _
  have k1 : Kept s t1 := k.setB
  have k2 : Kept s t2 := k1.setFe
  split
  · exact k2.setInst.record.gradeG3.ite (k2.record.upsetThen (fun _ hu => hu.setInst))
  · exact k1.record.retireHb
  · exact k1.record.gradeG3

theorem feRun (k : Kept s t) {st n : Nat} {hemAct : Bool} : Kept s (feRun st n hemAct t) :=
  k.ite ((k.setFe.feExpire.ite k.setFe).ite k.setFe.dropG3)

theorem residueFail (k : Kept s t) {lane : Nat} : Kept s (residueFail lane t) :=
  k.setB.record.upsetThen (fun _ hu => hu.withMacRetire)

theorem slotsWait : ∀ {n a v : Nat} {t : State}, Kept s t → Kept s (slotsWait n a v t)
  | 0, _, _, _, k => k
  | n + 1, _, _, _, k => by
    unfold Machine.slotsWait
    split
    · exact k
    · exact (Kept.slotsWait k).setSti

theorem takeSlot (k : Kept s t) {st i len : Nat} : Kept s (takeSlot st i len t) := k.setSti.slotsWait

theorem issueGo {st set cdl : Nat} {ph : List Int} {sh : Tbl (Int × Nat)} {run : List Nat} :
    ∀ {n i : Nat} {todo : List Nat} {fails : List (Nat × Nat)} {av : Tbl Nat} {late : Bool} {t : State}, Kept s t →
    Kept s (issueGo st set cdl ph sh run n i todo fails av late t).1
  | 0, _, _, _, _, _, _, k => k
  | n + 1, _, _, _, _, _, _, k => by
    unfold Machine.issueGo
    extract_lets ready
    clear_value ready
    split
    · split
      · exact Kept.issueGo k
      · split
        · exact Kept.issueGo k.takeSlot.residueFail
        · exact Kept.issueGo (k.takeSlot.runInst.when (fun _ hu => hu.writeCompare))
    · split
      · exact k
      · exact Kept.issueGo k

theorem takeUnit (k : Kept s t) {n : Nat} : Kept s (takeUnit n t) := by
  unfold Machine.takeUnit
  extract_lets _ man setp cmd t1 t2 _ t3
  have k1 : Kept s t1 := by
    unfold t1
    clear_value man
    split
    · exact k.wr
    · exact k
  have k2 : Kept s t2 := by
    unfold t2
    clear_value setp
    split
    · exact k1.wr
    · exact k1
  have k3 : Kept s t3 := by
    unfold t3
    clear_value cmd
    split
    · exact k2.setInst.ite k2.setF
    · exact k2
  exact k3.setInst

theorem cycleEnd (k : Kept s t) {st : Nat} {late : Bool} : Kept s (cycleEnd st late t) := by
  unfold Machine.cycleEnd
  extract_lets t1 _ t2 t3
  have k1 : Kept s t1 := k.setB
  have k2 : Kept s t2 := k1.setB.setF
  have k3 : Kept s t3 := k2.record
  exact (k3.record.gradeG5.ite k3).ite k1.setF.dropG5

theorem cycleFront (k : Kept s t) {st : Nat} : Kept s (cycleFront st t) := by
  unfold Machine.cycleFront
  extract_lets _ t1 t2 t3 t4
  have k1 : Kept s t1 := k.setSti
  have k2 : Kept s t2 := k1.each (fun _ _ hu => hu.setInst)
  have k3 : Kept s t3 := k2.ite k2.applyCommit.applyHemRest
  have k4 : Kept s t4 := k3.hemTick
  exact k4.each (fun _ _ hu => hu.takeUnit)

theorem cycleIssue (k : Kept s t) {st : Nat} {fails : List (Nat × Nat)} : Kept s (cycleIssue st fails t).1 := k.issueGo

theorem hemEnd (k : Kept s t) {st : Nat} {sh : Tbl (Int × Nat)} {order : List Nat} : Kept s (hemEnd st sh order t) :=
  (k.each (fun _ _ hu => hu.finishHem)).setB

theorem cycleHem (k : Kept s t) {st : Nat} {fails : List (Nat × Nat)} : Kept s (cycleHem st fails t) := k.cycleIssue.hemEnd

theorem cycleFe (k : Kept s t) {st : Nat} {fails : List (Nat × Nat)} {l : List Nat} : Kept s (cycleFe st fails l t) :=
  k.cycleHem.each (fun _ _ hu => hu.feRun)

theorem cycleRun (k : Kept s t) {st : Nat} {fails : List (Nat × Nat)} : Kept s (cycleRun st fails t) :=
  k.hemEnd.ite k.cycleFe.cycleEnd

theorem stitchCycle (k : Kept s t) {st : Nat} {fails : List (Nat × Nat)} : Kept s (stitchCycle st fails t) :=
  (k.cycleFront.cycleRun.each (fun _ _ hu => hu.setInst)).wr

theorem lBoundShow (k : Kept s t) : Kept s (lBoundShow t) := (k.each (fun _ _ hu => hu.wr.setB)).wr

theorem macRetire (k : Kept s t) {lane : Nat} : Kept s (macRetire lane t) := by
  unfold Machine.macRetire
  split
  · extract_lets t1 t2 t3 _
    have k1 : Kept s t1 := k.withMacRetire
    have k2 : Kept s t2 := k1.setB.record
    have k3 : Kept s t3 := k2.setBitAt.lBoundShow
    exact k3.gradeG5All.ite k1
  · exact k

theorem stiRefuse (k : Kept s t) {st code n : Nat} : Kept s (stiRefuse st code n t) := k.wr.setB.record

theorem modeCommand (k : Kept s t) {st n mode : Nat} : Kept s (modeCommand st n mode t) :=
  k.stiRefuse.ite (k.stiRefuse.ite k.setInst)

theorem manWrite (k : Kept s t) {n : Nat} {v : Word} : Kept s (manWrite n v t) := k.stiRefuse.ite (k.stiRefuse.ite k.setInst)

theorem setpWrite (k : Kept s t) {n : Nat} {v : Word} : Kept s (setpWrite n v t) := k.stiRefuse.ite (k.stiRefuse.ite k.setInst)

theorem setRequest (k : Kept s t) {st by_ : Nat} {v : Word} : Kept s (setRequest st v by_ t) := by
  unfold Machine.setRequest
  extract_lets _ _ lock t1
  clear_value lock
  have k1 : Kept s t1 := k.wr
  refine k1.stiRefuse.ite (k1.stiRefuse.ite (k1.stiRefuse.ite ?_))
  split
  · exact k1.stage
  · exact k1.setSti.setB

theorem stitchHandover (k : Kept s t) {st : Nat} : Kept s (stitchHandover st t) := by
  unfold Machine.stitchHandover
  split
  · exact k
  · exact (k.setSti.when (fun _ hu => hu.each (fun _ _ hv => hv.setInst))).setB.setF.setB.record

theorem stitchStorage (k : Kept s t) {st : Nat} {bad : List (BitVec 32)} : Kept s (stitchStorage st bad t) := k.stepStores

theorem stitchFire (k : Kept s t) {n : Nat} {fails : List (Fin 128 × Fin 4)} {bad : List (BitVec 32)} :
    Kept s (stitchFire n fails bad t) := k.firing (fun _ _ hu => hu.stitchStorage.stitchCycle)

theorem stitchWhen (k : Kept s t) {due : Bool} {n : Nat} {fails : List (Fin 128 × Fin 4)} {bad : List (BitVec 32)} :
    Kept s (stitchWhen due n fails bad t) := k.stitchFire.ite k

/-! The pair (16). -/

theorem setPar (k : Kept s t) {f : ParSt → ParSt} : Kept s (setPar f t) := k.steady (.setPar (.refl t))

theorem parFlag (k : Kept s t) {F : Fld} : Kept s (parFlag F t) := k.steady (.parFlag (.refl t))

theorem pairFrame (k : Kept s t) {type seg cno : Nat} {data : List Nat} : Kept s (pairFrame type seg cno data t) :=
  k.steady (.pairFrame (.refl t))

theorem lanesShow (k : Kept s t) : Kept s (lanesShow t) := k.setB.setB

theorem pairSnapshot (k : Kept s t) : Kept s (pairSnapshot t) := by
  unfold Machine.pairSnapshot
  split
  · exact k
  · extract_lets t1 _ _ t2 t3
    have k1 : Kept s t1 := k.setPar
    have k2 : Kept s t2 := by
      unfold t2
      split
      · exact k1.busAsk
      · exact k1
    have k3 : Kept s t3 := k2.each (fun _ _ hu => hu.pairFrame)
    exact k1.setPar.ite ((k1.setPar.ite (k1.ite k3.setPar.capCopy.wr)).ite k1)

theorem takeAuthority (k : Kept s t) {epoch h : Nat} : Kept s (takeAuthority epoch h t) := k.steady (.takeAuthority (.refl t))

theorem pairFiring (k : Kept s t) : Kept s (pairFiring t) := k.steady (.pairFiring (.refl t))

/-! The step of a Drum (03). -/

theorem drumFire (k : Kept s t) {n : Nat} {gpi : BitVec 32} {bad : List (BitVec 32)} : Kept s (drumFire n gpi bad t) :=
  k.firing (fun _ _ hu => hu.pairFiring.withGpioIn.drumStep.mcStep.ite hu.pairFiring)

theorem drumWhen (k : Kept s t) {n : Nat} {gpi : BitVec 32} {bad : List (BitVec 32)} {due : Bool} :
    Kept s (drumWhen n gpi bad due t) := k.drumFire.ite k

theorem commitRequest (k : Kept s t) {st : Nat} : Kept s (commitRequest st t) := k.setDrm.setB

theorem hemRestore (k : Kept s t) {st : Nat} : Kept s (hemRestore st t) := k.setF.record.ite (k.wr.ite k.setDrm)

theorem scmdWrite (k : Kept s t) {st code : Nat} : Kept s (scmdWrite st code t) := k.setDrm.ite k

theorem stageCommand (k : Kept s t) {st code : Nat} : Kept s (stageCommand st code t) := k.pairStore (fun _ hu => hu.scmdWrite)

/-! What the pair receives (16). -/

theorem startActive (k : Kept s t) {epoch : Nat} : Kept s (startActive epoch t) :=
  (k.wr.wr64.setPar.setRole.each (fun _ _ hu => hu.sendTwice)).each (fun _ _ hu => hu.pulsesAuto)

theorem pairLinkUp (k : Kept s t) {prole pepoch : Nat} : Kept s (pairLinkUp prole pepoch t) := by
  unfold Machine.pairLinkUp
  extract_lets _ t1 t2
  have k1 : Kept s t1 := k.setPar.lanesShow
  have k2 : Kept s t2 := k1.setF.epochSeen
  exact k.ite (k2.ite (k2.enterSyncing.ite (k2.ite (k2.startActive.ite k2.enterSyncing))))

theorem pairWaitOut (k : Kept s t) : Kept s (pairWaitOut t) := k.setPar.ite k

theorem laneRetire (k : Kept s t) {l : Nat} : Kept s (laneRetire l t) := by
  unfold Machine.laneRetire
  extract_lets t1 t2
  have k1 : Kept s t1 := k.record
  have k2 : Kept s t2 := k1.setPar.lanesShow
  exact k2.setB.ite k2

theorem laneLoss (k : Kept s t) {l : Nat} : Kept s (laneLoss l t) :=
  (k.setPar.lanesShow.upsetThen (fun _ hu => hu.laneRetire)).ite k

theorem laneUp (k : Kept s t) {l : Nat} : Kept s (laneUp l t) := by
  unfold Machine.laneUp
  split
  · extract_lets t1
    have k1 : Kept s t1 := k.setPar.lanesShow
    exact k1.ite k1.setPar
  · exact k

theorem pairCrc (k : Kept s t) {l : Nat} : Kept s (pairCrc l t) := k.bump.upsetThen (fun _ hu => hu.laneRetire)

theorem copyFault (k : Kept s t) : Kept s (copyFault t) := k.setPar.parFlag.bump.record.upsetThen (fun _ hu => hu.setPar)

theorem copyReceive (k : Kept s t) {epoch : Nat} {segs : Tbl (List Nat)} {bad : List Nat} :
    Kept s (copyReceive epoch segs bad t) := by
  unfold Machine.copyReceive
  split
  · exact k
  · extract_lets t1 _ _ _
    have k1 : Kept s t1 := k.each (fun _ _ hu => hu.pairCrc)
    exact k1.ite (k1.setPar.ite k1.copyFault)

theorem toStandby (k : Kept s t) : Kept s (toStandby t) := k.setRole.ite k

theorem fenceTaking (k : Kept s t) : Kept s (fenceTaking t) := k.setPar.setRole.record.setB

theorem peerEpoch (k : Kept s t) {epoch : Nat} : Kept s (peerEpoch epoch t) := k.epochSeen.fence.ite k.epochSeen

theorem healthIn (k : Kept s t) {epoch word prole : Nat} : Kept s (healthIn epoch word prole t) :=
  k.ite ((k.wr.setF.setB.when (fun _ hu => hu.enterSyncing)).peerEpoch)

theorem authIn (k : Kept s t) {epoch : Nat} : Kept s (authIn epoch t) := k.ite (k.fenceTaking.ite k.peerEpoch)

theorem timeExchange (k : Kept s t) {t1 t2 t3 t4 : Nat} : Kept s (timeExchange t1 t2 t3 t4 t) :=
  k.ite (k.pairFrame.ite (k.ite k.setPar.pairFrame.wrI.discSample))

theorem grantIn (k : Kept s t) : Kept s (grantIn t) := k.ite (k.setPar.setB.ite k.parFlag.record)

theorem setRefUnit (k : Kept s t) {i j : Nat} {x : RefUnit} : Kept s (setRefUnit i j x t) :=
  (k.setPar.setBitAt.ite k.setPar).setBitAt

theorem refereeNote (k : Kept s t) {f : Frame} {kind i : Nat} : Kept s (refereeNote f kind i t) :=
  k.each (fun _ _ hu => hu.setRefUnit)

theorem grantIssue (k : Kept s t) {i j : Nat} : Kept s (grantIssue i j t) := k.ite k.urgentOut.setPar.setRefUnit.bump

theorem refereeIn (k : Kept s t) {f : Frame} : Kept s (refereeIn f t) :=
  k.urgentIn (fun _ hu => (hu.grantIn.ite hu).ite (hu.refereeNote.ite hu))

theorem handbackRequest (k : Kept s t) : Kept s (handbackRequest t) := k.setPar.setB.pairFrame.ite k

theorem hbreqIn (k : Kept s t) : Kept s (hbreqIn t) := k.setPar.setB.wr64.pairFrame.ite k

theorem hbackIn (k : Kept s t) {h : Nat} : Kept s (hbackIn h t) := k.record.takeAuthority.setPar.setB.ite k

theorem handoffReached (k : Kept s t) : Kept s (handoffReached t) :=
  k.ite (((k.when (fun _ hu => hu.setB.parFlag)).setPar.setRole).ite (k.setB.parFlag.enterSyncing.ite k))

theorem pairRequest (k : Kept s t) : Kept s (pairRequest t) := k.setPar.refereeFrame.ite k.parFlag

theorem pairInhibit (k : Kept s t) {on_ : Bool} : Kept s (pairInhibit on_ t) := k.setB

theorem selfTest (k : Kept s t) {ok : Bool} {sbe : List Nat} {ue : List (Nat × Nat)} : Kept s (selfTest ok sbe ue t) :=
  k.ite (((k.each (fun _ _ hu => hu.sramCorrected)).each (fun _ _ hu => hu.sramUncorrectable)).setPar)

/-! Commands of the clock tree (14). -/

theorem pllUnlock (k : Kept s t) {n : Nat} : Kept s (pllUnlock n t) := by
  unfold Machine.pllUnlock
  split
  · exact k
  · extract_lets t1 t2
    have k1 : Kept s t1 := k.setBitAt.clkFlag
    have k2 : Kept s t2 := k1.record
    refine k2.under (fun u3 k3 => ?_)
    split
    · exact k3.gradeG5All
    · exact k3.gradeG5All
    · exact k3.each (fun _ _ hu => hu.syncLost)
    · exact k3.each (fun _ _ hu => hu.portLinkLoss)
    · exact k3.each (fun _ _ hu => hu.laneLoss)
    · exact k3.dramFail

theorem pllRelock (k : Kept s t) {n : Nat} : Kept s (pllRelock n t) := k.ite k.setBitAt.dropCause

theorem ppsPulse (k : Kept s t) {n : Nat} : Kept s (ppsPulse n t) := by
  unfold Machine.ppsPulse
  split
  · exact k
  · exact k.outLevel.outLevel.ite k

/-! The endpoints (07). -/

theorem setEpPort (k : Kept s t) {n p : Nat} {x : EpPort} : Kept s (setEpPort n p x t) := k.steady (.setEpPort (.refl t))

theorem upOn (k : Kept s t) {n p : Nat} {chars : List Nat} : Kept s (upOn n p chars t) := k.setEpPort

theorem upAll (k : Kept s t) {n : Nat} {chars : List Nat} : Kept s (upAll n chars t) := k.each (fun _ _ hu => hu.upOn)

theorem upTwice (k : Kept s t) {n p : Nat} {chars : List Nat} : Kept s (upTwice n p chars t) := k.upOn.upOn

theorem epFail (k : Kept s t) {n p : Nat} : Kept s (epFail n p t) := k.setEpPort

theorem epTakes (k : Kept s t) {n p : Nat} {ok : Bool} {f : State → State} (hf : ∀ u, Kept s u → Kept s (f u)) :
    Kept s (epTakes n p ok f t) := (hf _ k).ite k.epFail

theorem epEvent (k : Kept s t) {n p kind seq epoch : Nat} : Kept s (epEvent n p kind seq epoch t) := k.upTwice

theorem epMissing (k : Kept s t) {n p : Nat} {l : List Nat} : Kept s (epMissing n p l t) :=
  k.each (fun _ _ hu => hu.setEpPort.upOn)

theorem epSeq (k : Kept s t) {n p seq : Nat} : Kept s (epSeq n p seq t).1 := by
  unfold Machine.epSeq
  extract_lets _ _ t1 _
  have k1 : Kept s t1 := k.epMissing
  split
  · exact k1.setEpPort
  · split
    · exact k.setEpPort
    · split
      · exact k
      · exact k.epFail

theorem epCommand (k : Kept s t) {n : Nat} {c : EpCmd} {resume : Bool} : Kept s (epCommand n c resume t) :=
  k.ite (k.epEvent.ite (k.ite (k.setEp.epEvent.ite (k.setEp.epEvent.ite k.setEp.setEp))))

theorem epDrive (k : Kept s t) {n : Nat} {c : EpCmd} : Kept s (epDrive n c t) := k.setEp.emit

theorem epExecute (k : Kept s t) {n p seq td tm : Nat} {early noplat : Bool} :
    Kept s (epExecute n p seq td tm early noplat t) := by
  unfold Machine.epExecute
  extract_lets _
  split
  · exact k
  · split
    · extract_lets _ _ t1
      have k1 : Kept s t1 := k.setEp.epDrive
      exact k.setEp.epEvent.ite (k1.upOn.ite k1)
    · exact k

theorem epOff (k : Kept s t) {n m : Nat} : Kept s (epOff n m t) := k.setEp

theorem epConfig (k : Kept s t) {n p cseq hben lossto stativ epid seq0 : Nat} :
    Kept s (epConfig n p cseq hben lossto stativ epid seq0 t) := k.ite k.setEpPort.setEp.upTwice

theorem epEpoch (k : Kept s t) {n p epochf handoff : Nat} : Kept s (epEpoch n p epochf handoff t) :=
  k.setEp.ite ((k.setEp.ite k.epEvent).ite k.epEvent)

theorem epHandoff (k : Kept s t) {n : Nat} : Kept s (epHandoff n t) := by
  unfold Machine.epHandoff
  extract_lets _
  split
  · exact k
  · exact k.setEp.ite k

theorem epTime (k : Kept s t) {n p lttx dfwd i : Nat} : Kept s (epTime n p lttx dfwd i t) := k.setEpPort

theorem epStatus (k : Kept s t) {n temps : Nat} : Kept s (epStatus n temps t) :=
  (k.each (fun _ _ hu => hu.setEpPort.upOn)).setEp

theorem epHello (k : Kept s t) {n p : Nat} : Kept s (epHello n p t) := k.upTwice

/-! The ring, the loss record and the unlock (08). -/

theorem ringWrite (k : Kept s t) : Kept s (ringWrite t) := by
  unfold Machine.ringWrite
  extract_lets _ _ _
  split
  · exact k
  · exact (k.busUse (fun _ hu => hu.withEvt.stBytes.wr.evtShow)).ite k

theorem ridxWrite (k : Kept s t) {v : Nat} : Kept s (ridxWrite v t) := k.setB.ite k.wr.evtShow

theorem stageUnlock (k : Kept s t) {v : Nat} : Kept s (stageUnlock v t) := k.setBitAt.record.pulsesAuto.ite k.setF.setB.record

theorem counterLeak (k : Kept s t) {id : Nat} : Kept s (counterLeak id t) := k.withEvt.setCtr.ucShow.ite k

theorem tmbWrite (k : Kept s t) {a v : Nat} : Kept s (tmbWrite a v t) := k.ite (k.record.ite k.wr.setB)

theorem tumbleStop (k : Kept s t) : Kept s (tumbleStop t) := k.wr.setB.setB.record

/-! Hamper commands (11). -/

theorem hmpCmd (k : Kept s t) {by_ : Nat} {f : State → State} (hf : ∀ u, Kept s u → Kept s (f u)) : Kept s (hmpCmd by_ f t) :=
  k.when (fun _ hu => hf _ hu.endHold)

theorem hmpAction (k : Kept s t) {n arg : Nat} {f : State → State} (hf : ∀ u, Kept s u → Kept s (f u)) :
    Kept s (hmpAction n arg f t) := (k.firing (fun _ _ hu => hf _ hu)).ite k

theorem hmpDrain (k : Kept s t) {c : Nat} : Kept s (hmpDrain c t) := k.ite (k.burstAlone (fun _ hu => hu.chDrain.chReduce))

/-! Hand-over (04, 06). -/

theorem handoverFiring (k : Kept s t) {n kind : Nat} {f : Nat → State → State} (hf : ∀ x u, Kept s u → Kept s (f x u)) :
    Kept s (handoverFiring n kind f t) := (k.firing (fun _ _ hu => hf _ _ hu)).ite k

/-! The safety channels (17). -/

theorem setSaf (k : Kept s t) {f : SafSt → SafSt} : Kept s (setSaf f t) := k.steady (.setSaf (.refl t))

theorem safCopyWrite (k : Kept s t) : Kept s (safCopyWrite t) := k.setSaf

theorem safFlag (k : Kept s t) {F : Fld} : Kept s (safFlag F t) := k.setB

theorem setPair (k : Kept s t) {ch n : Nat} {x : SafPair} : Kept s (setPair ch n x t) :=
  k.setSaf.ite k.setSaf.setB.setB.setB.setB.setB.setF

theorem pairsShow (k : Kept s t) : Kept s (pairsShow t) := k.each (fun _ _ hu => hu.setPair)

theorem offAll (k : Kept s t) : Kept s (offAll t) := k.setSaf.each (fun _ _ hu => hu.sendOff.setLnk)

theorem sawOff (k : Kept s t) : Kept s (sawOff t) := k.each (fun _ _ hu => hu.setDrm)

theorem pathAOff (k : Kept s t) : Kept s (pathAOff t) := by
  unfold Machine.pathAOff
  extract_lets _ t1
  have k1 : Kept s t1 := (k.when (fun _ hu => hu.each (fun _ _ hv => hv.legOff))).setB
  exact (k1.safFlag.sawOff.offAll.each (fun _ _ hu => hu.pulsesOff)).ite k1

theorem offPinsSet (k : Kept s t) {a b : Bool} : Kept s (offPinsSet a b t) := k.steady (.offPinsSet (.refl t))

theorem offPinsStart (k : Kept s t) : Kept s (offPinsStart t) := k.ite k.setSaf.offPinsSet

theorem pathBOff (k : Kept s t) : Kept s (pathBOff t) := k.sawOff.setB.setSaf.safFlag.record.ite k

theorem pathOff (k : Kept s t) {ch : Nat} : Kept s (pathOff ch t) := k.pathAOff.ite k.pathBOff

theorem pathOn (k : Kept s t) {ch : Nat} : Kept s (pathOn ch t) := k.ite (k.setB.ite (k.ite k.setB.setSaf.offPinsStart))

theorem lockOut (k : Kept s t) {cause pair : Nat} : Kept s (lockOut cause pair t) :=
  (k.when (fun _ hu => hu.safFlag.wr.setB.pairsShow.pathAOff.pathBOff)).record.when (fun _ hu => hu.gradeG5All)

theorem detect (k : Kept s t) {src detail cause pair : Nat} : Kept s (detect src detail cause pair t) :=
  k.record.under (fun _ hu => hu.lockOut)

theorem demand (k : Kept s t) {ch n : Nat} : Kept s (demand ch n t) := by
  unfold Machine.demand
  extract_lets _ _ _ t1 t2
  have k1 : Kept s t1 := k.setPair
  have k2 : Kept s t2 := k1.when (fun _ hu => hu.setB.safFlag.record)
  exact k2.ite k2.pathOff

theorem twoHandCheck (k : Kept s t) {ch m : Nat} : Kept s (twoHandCheck ch m t) := by
  unfold Machine.twoHandCheck
  extract_lets _ _ _ _
  split
  · exact k.setPair
  · exact k.setPair

theorem inputOpen (k : Kept s t) {ch n : Nat} {second : Bool} : Kept s (inputOpen ch n second t) :=
  k.ite (k.setPair.ite (k.setPair.twoHandCheck.ite ((k.setPair.demand.ite k.setPair).setPair)))

theorem inputClosed (k : Kept s t) {ch n : Nat} {second : Bool} : Kept s (inputClosed ch n second t) :=
  k.ite (k.setPair.ite (k.setPair.twoHandCheck.ite (k.setPair.pathOn.ite k.setPair)))

theorem discrepancy (k : Kept s t) {ch n : Nat} : Kept s (discrepancy ch n t) := by
  unfold Machine.discrepancy
  extract_lets _
  split
  · exact k
  · exact k.setPair.setB.detect.ite k

theorem stopExpiry (k : Kept s t) {ch n : Nat} : Kept s (stopExpiry ch n t) := by
  unfold Machine.stopExpiry
  extract_lets _
  split
  · exact k
  · exact k.setPair.pathOff.pathOn.ite k

theorem tpHigh (k : Kept s t) : Kept s (tpHigh t) := k.emit.emit

theorem pulseStart (k : Kept s t) {o : Nat} : Kept s (pulseStart o t) := k.setSaf.emit.ite k

theorem pulseEnd (k : Kept s t) {o high : Nat} : Kept s (pulseEnd o high t) := by
  unfold Machine.pulseEnd
  split
  · extract_lets t1 _ t2
    have k1 : Kept s t1 := k.setSaf.emit
    have k2 : Kept s t2 := k1.setSaf
    exact k2.ite (k2.each (fun _ _ hu => hu.setSaf.setB.detect.ite hu.setSaf))
  · exact k

theorem exchange (k : Kept s t) {ch : Nat} : Kept s (exchange ch t) := k.ite (k.setSaf.lockOut.ite k.setSaf)

theorem beatTimeout (k : Kept s t) {ch : Nat} : Kept s (beatTimeout ch t) := k.setSaf.lockOut.ite k

theorem clockCheck (k : Kept s t) {ch : Nat} {ppm : Int} : Kept s (clockCheck ch ppm t) := k.ite (k.setSaf.lockOut.ite k.setSaf)

theorem fbFault (k : Kept s t) : Kept s (fbFault t) := k.safFlag.record.under (fun _ hu => hu.lockOut)

theorem proofShow (k : Kept s t) : Kept s (proofShow t) := k.steady (.proofShow (.refl t))

theorem fbVerified (k : Kept s t) : Kept s (fbVerified t) := k.setSaf.ite k.setSaf.setSaf.wr.setB

theorem armStep3 (k : Kept s t) : Kept s (armStep3 t) := by
  unfold Machine.armStep3
  exact k.setSaf

theorem fbChange (k : Kept s t) {second level : Bool} : Kept s (fbChange second level t) := by
  unfold Machine.fbChange
  extract_lets t1
  have k1 : Kept s t1 := k.setB
  split
  · exact k1
  · split
    · exact k1.fbVerified.ite k1
    · exact (k1.when (fun _ hu => hu.armStep3)).ite k1.setSaf

theorem fbTimeout (k : Kept s t) : Kept s (fbTimeout t) := by
  unfold Machine.fbTimeout
  split
  · exact k.ite (k.fbVerified.ite k.setSaf.fbFault)
  · exact k

theorem fbDisagree (k : Kept s t) : Kept s (fbDisagree t) := by
  unfold Machine.fbDisagree
  split
  · exact k.setSaf.fbFault.ite k
  · exact k

theorem proofDue (k : Kept s t) : Kept s (proofDue t) := k.proofShow.setB.safFlag.record.ite k.proofShow

theorem jtagArmed (k : Kept s t) : Kept s (jtagArmed t) := k.withJtag.ite k

theorem armStart (k : Kept s t) : Kept s (armStart t) := (k.setSaf.when (fun _ hu => hu.armStep3)).ite k.setB.setB.offPinsStart

theorem safStart (k : Kept s t) : Kept s (safStart t) := (k.safCopyWrite.when (fun _ hu => hu.tpHigh)).armStart

theorem armComplete (k : Kept s t) {same : Bool} : Kept s (armComplete same t) := by
  unfold Machine.armComplete
  split
  · exact k
  · split
    · exact k
    · split
      · exact k.setSaf.lockOut
      · split
        · exact k.lockOut.ite k
        · exact k.ite (k.lockOut.ite (((k.each (fun _ _ hu => hu.setPair)).setSaf.setB.tumbleStop.jtagArmed.each (fun _ _ hu
          => hu.demand.demand)).pairsShow.pathOn.pathOn))

theorem srstRelease (k : Kept s t) {pa pb : Nat} : Kept s (srstRelease pa pb t) := by
  unfold Machine.srstRelease
  extract_lets _ t1 t2 t3 t4
  have k1 : Kept s t1 := k.dropCause.wr.setB
  have k2 : Kept s t2 := k1.each (fun _ _ hu => hu.when (fun _ hv => hv.setPair))
  have k3 : Kept s t3 := k2.pairsShow
  have k4 : Kept s t4 := k3.safFlag.record
  exact k.ite ((k4.pathOn.pathOn.ite k4.armStart).ite k.safFlag.record)

theorem pathARepeat (k : Kept s t) : Kept s (pathARepeat t) := (k.setSaf.each (fun _ _ hu => hu.sendOff)).ite k

/-! The test port (18). -/

theorem tapReset (k : Kept s t) {level : Bool} : Kept s (tapReset level t) := k.withJtag.ite k.withJtag

theorem tapInstr (k : Kept s t) {i : JtagInstr} : Kept s (tapInstr i t) := k.ite k.withJtag

/-! Power, reset and the nonvolatile store (18). -/

theorem pwrFlag (k : Kept s t) {i : Nat} : Kept s (pwrFlag i t) := k.setBitAt

theorem otpRead (k : Kept s t) : Kept s (otpRead t) := k.wr.wr

theorem openBytes (k : Kept s t) {a n : Nat} : Kept s (openBytes a n t) := k.each (fun _ _ hu => hu.fresh.withNv)

theorem setTarget (k : Kept s t) {x : Sector} : Kept s (setTarget x t) := by
  unfold Machine.setTarget
  refine k.withNv ?_
  split <;> rfl

theorem nvInterrupted (k : Kept s t) : Kept s (nvInterrupted t) := by
  unfold Machine.nvInterrupted
  extract_lets t1 t2
  have k1 : Kept s t1 := by
    unfold t1
    split
    · exact k.setTarget
    · exact k
  have k2 : Kept s t2 := k1.setTarget.ite k1
  split
  · split
    · exact k2.openBytes
    · exact k2.each (fun _ _ hu => hu.openBytes)
    · exact k2
  · exact k2

theorem pinsLow (k : Kept s t) : Kept s (pinsLow t) :=
  (((((k.emit.emit.each (fun _ _ hu => hu.emit.emit)).emit.emit.each (fun _ _ hu => hu.emit)).each (fun _ _ hu =>
    hu.emit)).emit.emit.emit.emit.emit.emit.emit.each (fun _ _ hu => hu.emit)).each (fun _ _ hu => hu.emit.emit.emit)).each
      (fun _ _ hu => hu.emit.emit)

/-- The record, the pulses, the nonvolatile store and the command queue outlast a reset of the device. -/
theorem devReset (k : Kept s t) {cause rail : Nat} : Kept s (devReset cause rail t) := by
  unfold Machine.devReset
  extract_lets t1 _ _ r
  have k1 : Kept s t1 := k.nvInterrupted.pinsLow
  clear_value t1
  have kr : Kept s r := ⟨k1.pending, fun _ => rfl, fun _ => rfl, k1.arb, k1.revoked, k1.testlock, k1.out⟩
  exact kr.wr

theorem powerGood (k : Kept s t) : Kept s (powerGood t) := k.withPwr

theorem porstPulse (k : Kept s t) : Kept s (porstPulse t) := k.ite k.devReset

theorem railReset (k : Kept s t) {rail below : Nat} : Kept s (railReset rail below t) := k.devReset

theorem testPortReset (k : Kept s t) : Kept s (testPortReset t) := k.ite k.devReset

theorem setLoad (k : Kept s t) {i : Nat} : Kept s (setLoad i t) := k.setF

theorem firstLock (k : Kept s t) : Kept s (firstLock t) := by
  have k1 : Kept s { t with ltRun := true, lt := 0 } := k.elsewhere rfl
  exact k.ite k1.otpRead.setF.setLoad.emit.emit

theorem refuse (k : Kept s t) {cause ref : Nat} : Kept s (refuse cause ref t) := by
  unfold Machine.refuse
  extract_lets keep _ _ t1
  have k1 : Kept s t1 :=
    k.trans ⟨rfl, Memory.wf_filter keep t.mem, id, Nat.le_refl _, fun _ => id, id, List.prefix_rfl⟩
  exact k1.wr.setF.setLoad.evtShow

theorem digestShow (k : Kept s t) {d : List Nat} : Kept s (digestShow d t) := k.each (fun _ _ hu => hu.wr)

theorem streamComplete (k : Kept s t) {img : List Nat} {flash : Bool} : Kept s (streamComplete img flash t) := by
  unfold Machine.streamComplete
  split
  · exact k
  · split
    · exact k.refuse
    · exact (k.each (fun _ _ hu => hu.stBytes)).withPwr.digestShow.setLoad

theorem trained_ (k : Kept s t) {ok : Bool} : Kept s (trained_ ok t) := by
  unfold Machine.trained_
  split
  · exact ((k.withPwr.each (fun _ _ hu => hu.stBytes)).setB).ite k.withPwr.withPwr
  · exact k

theorem signatureVerified (k : Kept s t) : Kept s (signatureVerified t) := by
  unfold Machine.signatureVerified
  split
  · exact k
  · exact k.ite ((k.refuse.ite k.withPwr.setLoad.setB).ite (k.setF.refuse.ite (k.setF.refuse.ite k.setF.wr.wr.setLoad)))

theorem gfShow (k : Kept s t) : Kept s (gfShow t) := k.steady (.gfShow (.refl t))

theorem gfReady (k : Kept s t) : Kept s (gfReady t) := k.gfShow.setB.wr64.emit.ite k.gfShow

theorem nvmShow (k : Kept s t) : Kept s (nvmShow t) := k.setBitAt.setBitAt.setBitAt.setBitAt.setF

theorem nvmNext (k : Kept s t) : Kept s (nvmNext t) := (k.withPwr.ite k).nvmShow

theorem nvmResult (k : Kept s t) {i : Nat} : Kept s (nvmResult i t) := k.setF

theorem nvmRequest (k : Kept s t) {inside : Bool} {op : NvmOp} : Kept s (nvmRequest inside op t) :=
  k.nvmResult.ite ((k.withPwr.ite k.withPwr.pwrFlag.record).nvmNext)

theorem nvmCommand (k : Kept s t) {op : Nat} : Kept s (nvmCommand op t) := k.nvmRequest.ite (k.nvmRequest.ite k.nvmResult)

theorem programByte (k : Kept s t) {a v : Nat} : Kept s (programByte a v t).1 := by
  unfold Machine.programByte
  dsimp only
  exact k.withNv

theorem nvmComplete (k : Kept s t) {ok : Bool} : Kept s (nvmComplete ok t) := by
  unfold Machine.nvmComplete
  refine k.ite ?_
  split
  · exact k
  · rename_i op rest _
    refine k.ite ?_
    have k1 : Kept s { t with pwr := { t.pwr with queue := rest, busy := false } } := k.withPwr
    extract_lets _ t1
    split
    rename_i v good e
    have kv : Kept s v := by
      refine .of_fst e ?_
      split
      · split
        · exact k1.foldl_fst (fun _ _ hp => hp.programByte)
        · exact k1.openBytes
      · split
        · dsimp only
          exact k1.withNv
        · exact k1.each (fun _ _ hu => hu.openBytes)
      · exact k1
    exact kv.nvmResult.nvmNext

theorem eraseAbort (k : Kept s t) : Kept s (eraseAbort t) := by
  unfold Machine.eraseAbort
  split
  · exact k.withPwr.each (fun _ _ hu => hu.openBytes)
  · exact k

theorem supplyWarning (k : Kept s t) {rail : Nat} : Kept s (supplyWarning rail t) := by
  unfold Machine.supplyWarning
  split
  · exact k
  · extract_lets _ t1 _ t2 _
    have k1 : Kept s t1 := k.setBitAt.setBitAt.pwrFlag.record
    have k2 : Kept s t2 := k1.eraseAbort
    exact (k2.withPwr.setBitAt.ite k1).nvmShow

theorem supplyGood (k : Kept s t) : Kept s (supplyGood t) := k.ite k.setBitAt.setF.pwrFlag.record.nvmNext

theorem saveStart (k : Kept s t) : Kept s (saveStart t) := by
  unfold Machine.saveStart
  split
  · exact k.withPwr.nvmShow.ite k
  · exact k

theorem sectorShow (k : Kept s t) : Kept s (sectorShow t) := k.setBitAt.setBitAt.setBitAt.wr

theorem saveComplete (k : Kept s t) {ok : Bool} : Kept s (saveComplete ok t) := by
  unfold Machine.saveComplete
  split
  · exact (k.setF.setTarget.setBitAt.setF.pwrFlag.record.ite ((k.setF.setTarget.ite
    k.setF).setF.pwrFlag.record)).withPwr.setBitAt.sectorShow.nvmShow
  · exact k

theorem eraseStart (k : Kept s t) : Kept s (eraseStart t) := k.withPwr.setBitAt.ite k

theorem eraseComplete (k : Kept s t) : Kept s (eraseComplete t) := k.withPwr.setTarget.setBitAt.sectorShow.nvmNext.ite k

theorem otpBurn (k : Kept s t) {ok : Bool} : Kept s (otpBurn ok t) := by
  unfold Machine.otpBurn
  extract_lets done next _ t1
  have hdone : ∀ x u, Kept s u → Kept s (done x u) := fun _ _ ku => ku.withPwr
  have hnext : ∀ u, Kept s u → Kept s (next u) := fun _ ku => ku.withPwr.otpRead.nvmResult.nvmNext
  clear_value done next
  have k1 : Kept s t1 := by
    exact k.burn (Nat.le_succ _) (fun _ => id) id
  refine k.ite ?_
  split
  · exact (hnext _ (hdone _ _ k)).ite (hnext _ ((hdone _ _ k1).ite k1))
  · refine hnext _ (hdone _ _ (.ite ?_ k))
    refine k.burn (Nat.le_refl _) (fun i => ?_) id
    rw [testBit_setBit]
    split
    · exact fun _ => rfl
    · exact id
  · exact k

theorem kResult (k : Kept s t) {i : Nat} : Kept s (kResult i t) := k.setF

theorem keyBurn (k : Kept s t) {slot : Nat} {ok : Bool} : Kept s (keyBurn slot ok t) := by
  unfold Machine.keyBurn
  refine k.kResult.ite ?_
  extract_lets hash
  refine .ite (.kResult k.withNv) ?_
  split
  rename_i h t1 e
  have k1 : Kept s t1 := .of_snd e (k.foldl_snd (fun _ _ hp => hp.fresh))
  exact .kResult k1.withNv

theorem testlockBurn (k : Kept s t) {ok : Bool} : Kept s (testlockBurn ok t) := by
  refine .ite (.kResult ?_) k.kResult
  exact k.burn (Nat.le_refl _) (fun _ => id) (fun _ => rfl)

theorem keyCommand (k : Kept s t) {v : Nat} {ok : Bool} : Kept s (keyCommand v ok t) :=
  (k.when (fun _ hu => hu.keyBurn)).when (fun _ hu => hu.testlockBurn)

theorem tjRead (k : Kept s t) {tj : BitVec 16} : Kept s (tjRead tj t) :=
  k.ite (k.wr.ageCache.ite ((k.wr.ageCache.when (fun _ hu => hu.pwrFlag.record)).withPwr.when (fun _ hu => hu.dropCause)))

theorem tjOver (k : Kept s t) : Kept s (tjOver t) := by
  unfold Machine.tjOver
  split
  · exact k
  · exact k.ite (k.pwrFlag.record.under (fun _ hu => hu.gradeG3All))

/-! Rules of the loader. -/

theorem defaults (k : Kept s t) : Kept s (defaults t) := k.each (fun _ _ hu => hu.each (fun _ _ hv => hv.setF))

theorem stageWrite (k : Kept s t) {p : Nat × Nat} : Kept s (stageWrite p t) := by
  unfold Machine.stageWrite
  split
  · exact k.wr
  · exact k

theorem imageRegs (k : Kept s t) {img : List Nat} : Kept s (imageRegs img t) :=
  ((((k.defaults.each (fun _ _ hu => hu.wr)).each (fun _ _ hu => hu.stageWrite)).each (fun _ _ hu => hu.when (fun _ hv =>
    hv.wrW))).each (fun _ _ hu => hu.ite (hu.each (fun _ _ hv => hv.wrW)))).wr

/-! Completion of a configuration (18). -/

theorem drumComputed (k : Kept s t) {st : Nat} : Kept s (drumComputed st t) := k.ite k.wr.wr.wr.wr.wr.wr.wr64

theorem laneComputed (k : Kept s t) {l : Nat} : Kept s (laneComputed l t) := k.ite k.wr.wr.wr

theorem bankComputed (k : Kept s t) {b : Nat} {l : Tbl Slot} : Kept s (bankComputed b l t) := k.wr.setB

theorem safetyComputed (k : Kept s t) : Kept s (safetyComputed t) := (k.each (fun _ _ hu => hu.wr)).wr

theorem loadsComputed (k : Kept s t) {slots : List Slot} : Kept s (loadsComputed slots t) :=
  (k.wr.wr.each (fun _ _ hu => hu.wr.wrI)).wr

theorem numberRecords (k : Kept s t) {test : Bool} : Kept s (numberRecords test t) := by
  unfold Machine.numberRecords
  extract_lets _ lost _ t1 t2 _ _ _ t3
  clear_value lost
  have k1 : Kept s t1 := k.withEvt
  have k2 : Kept s t2 := k1.record.when (fun _ hu => hu.record)
  have k3 : Kept s t3 := k2.withEvt.wr
  refine Kept.evtShow ?_
  split
  · exact k3.withEvt.wr
  · exact k3

theorem bobStart (k : Kept s t) {img : List Nat} {st : Nat} : Kept s (bobStart img st t) := k.wr.ite k.wr.setBob.setF.setWord

theorem drumStart (k : Kept s t) {st : Nat} : Kept s (drumStart st t) := (k.setDrm.ite k.wr).wrW

theorem pulseStart_ (k : Kept s t) : Kept s (pulseStart_ t) :=
  ((k.each (fun _ _ hu => hu.setHb.setF.setF)).each (fun _ _ hu => hu.trackIn)).each (fun _ _ hu => hu.setCar.carPlace.carShow)

theorem linkStart (k : Kept s t) : Kept s (linkStart t) := k.each (fun _ _ hu => hu.setLnk.setF.setLinkState.ite hu.setF)

theorem bankStart (k : Kept s t) : Kept s (bankStart t) :=
  k.each (fun _ _ hu => (hu.each (fun _ _ hv => hv.wr.startAbs)).bankShow)

theorem slotsStart (k : Kept s t) {img : List Nat} : Kept s (slotsStart img t) :=
  ((k.each (fun _ _ hu => hu.installSlot)).each (fun _ _ hu => hu.wr)).loadShow

theorem retainStart (k : Kept s t) : Kept s (retainStart t) := by
  unfold Machine.retainStart
  extract_lets _ t1 _ _
  have k1 : Kept s t1 := k.setBitAt.sectorShow
  exact k1.ite k1.withPwr

theorem retainCause (k : Kept s t) : Kept s (retainCause t) := k.wr.ite k

theorem burnsStart (k : Kept s t) {img : List Nat} : Kept s (burnsStart img t) := by
  unfold Machine.burnsStart
  extract_lets _ _ _ t1
  have k1 : Kept s t1 := k.withPwr.nvmNext
  exact k1.ite (k1.each (fun _ _ hu => hu.pwrFlag.record))

theorem spanStart (k : Kept s t) : Kept s (spanStart t) := k.setSpn.each (fun _ _ hu => hu.setTier.follow.ite hu)

theorem gpioStart (k : Kept s t) : Kept s (gpioStart t) := k.withGpioOut.each (fun _ _ hu => hu.emit)

theorem complete (k : Kept s t) {img : List Nat} : Kept s (complete img t) := by
  unfold Machine.complete
  extract_lets test _ _ t1 t2 t3 _ t4 t5 t6 t7 t8 t9 t10 t11 t12 t13 t14 _ t15 t16 t17 t18
  have k1 : Kept s t1 := .retainCause (k.elsewhere rfl)
  have k3 : Kept s t3 := k1.wr64.setLoad.setB.numberRecords
  have k5 : Kept s t5 := k3.withPar.wr.each (fun _ _ hu => hu.bobStart)
  have k6 : Kept s t6 := (k5.each (fun _ _ hu => hu.drumStart)).each (fun _ _ hu => hu.drumComputed)
  have k8 : Kept s t8 := (k6.slotsStart.each (fun _ _ hu => hu.laneComputed)).lBoundShow
  have k10 : Kept s t10 := (k8.each (fun _ _ hu => hu.bankComputed)).safetyComputed.wr
  have k12 : Kept s t12 := k10.bankStart.pulseStart_.linkStart.setMask
  have k14 : Kept s t14 := (k12.ite k12.setMask).boundsShow.loadsComputed
  have k16 : Kept s t16 := k14.withCyc.gpioStart.retainStart.burnsStart
  have k18 : Kept s t18 := k16.safStart.spanStart.ucShow.tripsStart
  exact (k18.each (fun _ _ hu => hu.pulsesAuto)).gfShow

theorem configurationCompletion (k : Kept s t) : Kept s (configurationCompletion t) := by
  unfold Machine.configurationCompletion
  split
  · exact k
  · split
    · exact k
    · extract_lets _ _ t1
      have k1 : Kept s t1 := k.withCyc.imageRegs
      split
      · exact k.refuse
      · split
        · exact k.refuse
        · split
          · exact k.refuse
          · exact k.refuse.ite k1.complete

/-! Flags written 1 to clear. -/

theorem w1cWrite (k : Kept s t) {a mask v hw : Nat} : Kept s (w1cWrite a mask v hw t) := by
  unfold Machine.w1cWrite
  extract_lets _ t1
  have k1 : Kept s t1 := k.wrW
  split
  · exact k.each (fun _ _ hu => hu.tripClear)
  · split
    · exact k.each (fun _ _ hu => hu.cmpClear)
    · split
      · exact k.each (fun _ _ hu => hu.alarmClear)
      · split
        · split
          · exact k1.laneSum
          · exact k1
        · split
          · split
            · exact k1.dmaSum
            · exact k1
          · exact k1

/-! Writes of registers. -/

theorem drumPair (k : Kept s t) {st a : Nat} {v : Word} : Kept s (drumPair st a v t) :=
  (k.when (fun _ hu => hu.commitRequest)).ite ((k.when (fun _ hu => hu.hemRestore)).ite (k.scmdWrite.ite (k.setDrm.ite k)))

theorem stitchPair (k : Kept s t) {a by_ : Nat} {v : Word} : Kept s (stitchPair a v by_ t) := by
  unfold Machine.stitchPair
  split
  · exact k.manWrite
  · exact k.setpWrite
  · exact k.setRequest
  · exact k.modeCommand
  · exact k

theorem tackPair (k : Kept s t) {a v by_ : Nat} : Kept s (tackPair a v by_ t) := by
  unfold Machine.tackPair
  split
  · exact k.slotCommand
  · extract_lets _
    split
    · exact k.lockRenew
    · exact k.lockAcquire
    · exact k.lockCommit
    · exact k.lockAbort

theorem hamperPair (k : Kept s t) {a v : Nat} : Kept s (hamperPair a v t) := by
  unfold Machine.hamperPair
  split
  · split
    · exact k.hmpArmCmd
    · exact k.hmpForce
    · exact k.hmpAbort
    · exact k.hmpRelease
    · exact k.hmpCal
    · exact k
  · exact k.wr

theorem cyclePair (k : Kept s t) {a v by_ : Nat} : Kept s (cyclePair a v by_ t) := by
  unfold Machine.cyclePair
  split
  · split
    · exact k.restartRequest
    · exact k.restartRequest
    · exact k
  · exact (k.when (fun _ hu => hu.patchSubmit)).ite (k.forceCommand.ite k.fresh.forceResult)

theorem spanPair (k : Kept s t) {a v : Nat} : Kept s (spanPair a v t) :=
  k.bestEffort.ite ((k.when (fun _ hu => hu.wr)).ite k.wr)

theorem pairTake (k : Kept s t) {a by_ : Nat} {v : Word} : Kept s (pairTake a v by_ t) := by
  unfold Machine.pairTake
  extract_lets _
  split
  · exact k.sourceWrite
  · exact k.drumPair
  · exact k.stitchPair
  · exact k.tackPair
  · split
    · exact k.when (fun _ hu => hu.moduleDisable)
    · split
      · exact k.carrierRequest
      · exact k
  · exact k.stageUnlock
  · exact k.hamperPair
  · split
    · exact k.dmaGo
    · exact k.dmaAbort
    · exact k
  · exact k.cyclePair
  · exact k.spanPair
  · split
    · exact k.pairRequest
    · exact k.pairInhibit
    · exact k.pairInhibit
    · exact k
  · exact k.fresh.hopRequest
  · exact k.nvmCommand
  · exact k

theorem pairHold (k : Kept s t) {a : Nat} {v : Word} : Kept s (pairHold a v t) := k.withPwHeld

theorem pairCheck (k : Kept s t) {a by_ : Nat} {c : Word} : Kept s (pairCheck a c by_ t) := by
  unfold Machine.pairCheck
  split
  · exact k.endHold.pairTake.ite k.withPwHeld.recordAtf
  · exact k.recordAtf

theorem indexWrite (k : Kept s t) {a widx size v : Nat} : Kept s (indexWrite a widx size v t) := k.ite k.wr

theorem rwWrite (k : Kept s t) {a mask v by_ : Nat} : Kept s (rwWrite a mask v by_ t) := by
  unfold Machine.rwWrite
  split
  · exact k.slotLatch
  · split
    · exact k.wr
    · split
      · exact k
      · split
        · exact k.ridxWrite
        · split
          · exact k.wr.ucShow
          · split
            · exact k.indexWrite
            · split
              · split
                · exact k.rridxWrite
                · exact k
              · exact k.tmbWrite.ite ((k.fresh.keyCommand.ite k).ite ((k.when (fun _ hu => hu.wr)).ite k.wr))

theorem storeWord (k : Kept s t) {a hw by_ : Nat} {w : Word} : Kept s (storeWord a w hw by_ t) := by
  unfold Machine.storeWord
  split
  · exact k.stN
  · refine k.when (fun u1 k1 => ?_)
    split
    · exact k1.pairCheck.ite k1
    · split
      · exact k1
      · exact k1.record
      · exact k1.pairHold
      · exact k1.rwWrite
      · exact k1.w1cWrite

theorem storeAs (k : Kept s t) {acc : Access} {a hw by_ : Nat} {w : Word} : Kept s (storeAs acc a w hw by_ t) := by
  unfold Machine.storeAs
  split
  · exact k.storeWord.ite k
  · exact k

theorem stnOutput (k : Kept s t) {sn w v : Nat} : Kept s (stnOutput sn w v t) := k.each (fun _ _ hu => hu.stN)

theorem outputEntry (k : Kept s t) {i : Nat} {e : OutDst × Nat} : Kept s (outputEntry i e t) := by
  unfold Machine.outputEntry
  extract_lets _ _ _ _
  split
  · exact k.storeWord
  · exact k.storeWord.storeWord
  · exact k.withGpioOut.ite k
  · exact k.withCyc.stnOutput

theorem outputCopy (k : Kept s t) {i : Nat} : Kept s (outputCopy i t) := k.each (fun _ _ hu => hu.outputEntry)

theorem taskEnd (k : Kept s t) {i : Nat} {writes : List (BitVec 32 × BitVec 32)} : Kept s (taskEnd i writes t) := by
  unfold Machine.taskEnd
  split
  · exact k
  · extract_lets _ t1
    have k1 : Kept s t1 := k.when (fun _ hu => hu.taskDeadline)
    exact k1.ite k1.taskWrites.outputCopy.taskFinish


/-! Every command, and the FCLK of an empty queue. -/

theorem exec {c : Instr} (run : exec c s = .next t) : Kept s t := by
  have k : Kept s s := .refl s
  cases c with
  | powerGood => exact .of_next run k.powerGood
  | porstPulse => exact .of_next run k.porstPulse
  | railReset => exact .of_next run k.railReset
  | testPortReset => exact .of_next run k.testPortReset
  | syspllFirstLock => exact .of_next run k.firstLock
  | imageStreamComplete => exact .of_next run k.streamComplete
  | dramTrainingComplete => exact .of_next run k.trained_
  | signatureVerified => exact .of_next run k.signatureVerified
  | configurationCompletion => exact .of_next run k.configurationCompletion
  | gridFormingReady => exact .of_next run k.gfReady
  | otpBurn => exact .of_next run k.otpBurn
  | supplyWarning => exact .of_next run k.supplyWarning
  | supplyGood => exact .of_next run k.supplyGood
  | retainSaveStart => exact .of_next run k.saveStart
  | retainSaveComplete => exact .of_next run k.saveComplete
  | retainSectorErase => exact .of_next run k.eraseStart
  | retainSectorEraseComplete => exact .of_next run k.eraseComplete
  | nvmWrite => exact .of_next run (k.pairFrom (fun _ hu => hu.nvmCommand))
  | nvmErase => exact .of_next run (k.pairFrom (fun _ hu => hu.nvmCommand))
  | nvmOperationComplete => exact .of_next run k.nvmComplete
  | tjRead => exact .of_next run k.tjRead
  | tjOvertemp => exact .of_next run k.tjOver
  | keyBurn => exact .of_next run (k.when (fun _ hu => hu.keyBurn))
  | testlockBurn => exact .of_next run (k.when (fun _ hu => hu.testlockBurn))
  | referenceLoss => exact .of_next run (k.when (fun _ hu => hu.referenceLoss))
  | hopRequest => exact .of_next run (k.pairFrom (fun _ hu => hu.hopRequest))
  | hopComplete => exact .of_next run k.hopComplete
  | bandSearchComplete => exact .of_next run k.searchEnd
  | yRampStep => exact .of_next run (k.when (fun _ hu => hu.yRamp))
  | pllUnlock => exact .of_next run k.pllUnlock
  | pllRelock => exact .of_next run k.pllRelock
  | slewRequest => exact .of_next run (k.pairStore (fun _ hu => hu.sourceWrite))
  | alignRequest => exact .of_next run (k.pairStore (fun _ hu => hu.sourceWrite))
  | sourceSwitchApply => exact .of_next run (k.ite (k.drumWhen.ite k.outerTick))
  | sourceLost => exact .of_next run k.sourceLost
  | fallbackApply => exact .of_next run (k.ite (k.drumWhen.ite k.outerTick))
  | ltLatchRead => exact .of_next run k.wr64
  | atLatchRead => exact .of_next run k.wr64.wr64
  | stepDrum => exact .of_next run k.drumFire
  | stepDrumEnd => exact .of_next run k.drumStepEnd
  | powerBlockTimeout => exact .of_next run k.blockTimeout
  | commit => exact .of_next run (k.pairStore (fun _ hu => hu.commitRequest))
  | hemRestore => exact .of_next run (k.pairStore (fun _ hu => hu.hemRestore))
  | curvePointExpiry => exact .of_next run k.drumWhen
  | holdTimeLimit => exact .of_next run k.drumWhen
  | pvalidStepLimit => exact .of_next run k.drumWhen
  | energiseTimeLimit => exact .of_next run k.drumWhen
  | energiseRampComplete => exact .of_next run k.drumWhen
  | nhemCountReached => exact .of_next run k.drumWhen
  | nrecCountReached => exact .of_next run k.drumWhen
  | recoverRampsComplete => exact .of_next run k.drumWhen
  | deadokCountReached => exact .of_next run k.drumWhen
  | syncokCountReached => exact .of_next run k.drumWhen
  | stop => exact .of_next run k.stageCommand
  | energise => exact .of_next run k.stageCommand
  | sync => exact .of_next run k.stageCommand
  | join => exact .of_next run k.stageCommand
  | clear => exact .of_next run k.stageCommand
  | breakerFeedbackChange => exact .of_next run k.drumWhen
  | startStitch => exact .of_next run k.stitchFire
  | macLaneRetire => exact .of_next run k.macRetire
  | stitchCycleLate => exact .of_next run k.stitchWhen
  | fallbackAutoReturn => exact .of_next run k.stitchWhen
  | followingErrorExpiry => exact .of_next run k.stitchWhen
  | stiModeAuto => exact .of_next run (k.pairStore (fun _ hu => hu.modeCommand))
  | stiModeManual => exact .of_next run (k.pairStore (fun _ hu => hu.modeCommand))
  | stiManWrite => exact .of_next run (k.pairStore (fun _ hu => hu.manWrite))
  | stiSetpWrite => exact .of_next run (k.pairStore (fun _ hu => hu.setpWrite))
  | stiSetRequest => exact .of_next run (k.pairFrom (fun _ hu => hu.setRequest))
  | slotWrite => exact .of_next run (k.pairFrom (fun _ hu => hu.slotCommand))
  | slotDelete => exact .of_next run (k.pairFrom (fun _ hu => hu.slotCommand))
  | admissionComplete => exact .of_next run k.admissionEnd
  | slotSwitch => exact .of_next run k.slotSwitch
  | slotReadLatch => exact .of_next run (k.when (fun _ hu => hu.slotLatch))
  | lockAcquire => exact .of_next run (k.pairFrom (fun _ hu => hu.lockAcquire))
  | lockRenew => exact .of_next run (k.pairFrom (fun _ hu => hu.lockRenew))
  | lockCommit => exact .of_next run (k.pairFrom (fun _ hu => hu.lockCommit))
  | lockCommitRelease => exact .of_next run k.lockRelease
  | lockAbort => exact .of_next run (k.pairFrom (fun _ hu => hu.lockAbort))
  | lockLeaseExpiry => exact .of_next run k.leaseExpiry
  | lockOwnerSideband => exact .of_next run k.ownerSideband
  | occurrenceDropped => exact .of_next run k.occurrenceDropped
  | startAdc => exact .of_next run (k.adcFire (fun _ _ _ hu => hu.startNormal))
  | startAdcUrgent => exact .of_next run (k.adcFire (fun _ _ _ hu => hu.startUrgent))
  | handoverStitch => exact .of_next run (k.handoverFiring (fun _ _ hu => hu.stitchHandover))
  | handoverPulse => exact .of_next run (k.handoverFiring (fun _ _ hu => hu.handoverFire))
  | handoverBoth => exact .of_next run (k.handoverFiring (fun _ _ hu => hu.stitchHandover.handoverFire))
  | handoverDeferred =>
    refine .of_next run ?_
    split
    · exact k.pulseHandover.ite k
    · exact k
  | startTask => exact .of_next run (k.firing (fun _ _ hu => hu.taskStart))
  | hamperActionArm => exact .of_next run (k.hmpAction (fun _ hu => hu.hmpArm))
  | hamperActionTrigger => exact .of_next run (k.hmpAction (fun _ hu => hu.hmpPulse))
  | assertHe => exact .of_next run (k.firing (fun _ _ hu => hu.heAssert))
  | gpioLow => exact .of_next run k.gpioFiring
  | gpioHigh => exact .of_next run k.gpioFiring
  | gpioToggle => exact .of_next run k.gpioFiring
  | spanTx => exact .of_next run (k.firing (fun _ _ hu => hu.spanTx))
  | edgePlan => exact .of_next run k.edgePlan
  | carrierLoadPoint => exact .of_next run k.carPoint
  | edgeExecute => exact .of_next run k.ackTick.edgeExecute
  | ackInputChange => exact .of_next run k.ackInput
  | ackTimeout => exact .of_next run k.ackTimeout
  | bootstrapRefresh => exact .of_next run k.refreshNow
  | bsrecTimeout => exact .of_next run k.bsrecTimeout
  | halfBridgeResume => exact .of_next run k.hbResume
  | carrierSetRequest => exact .of_next run (k.pairFrom (fun _ hu => hu.carrierRequest))
  | carrierSetSwitch =>
    refine .of_next run ?_
    split
    · exact k.carPoint.ite k
    · exact k
  | moduleDisable => exact .of_next run (k.pairStore (fun _ hu => hu.moduleDisable))
  | linkRxSync =>
    refine .of_next run ?_
    split
    · exact k.setLnk
    · exact k.setEpPort.epHello.syncDone
  | linkRxSyncLost => exact .of_next run k.syncLost
  | linkStateTimeout => exact .of_next run k.stateTimeout
  | helloReceived => exact .of_next run (k.receivedBlock (fun _ hu => hu.helloReceived))
  | cfgackReceived => exact .of_next run (k.receivedBlock (fun _ hu => hu.wr.cfgackReceived))
  | calibrationStart => exact .of_next run (k.setLnk.startCal.ite k)
  | rtaReceived => exact .of_next run k.rtaReceived
  | statusReceived => exact .of_next run (k.receivedBlock (fun _ hu => hu.statusReceived))
  | ocReceived => exact .of_next run (k.received (fun _ hu => hu.applyOc))
  | alarmReceived => exact .of_next run (k.received (fun _ hu => hu.alarmReceived))
  | nackReceived => exact .of_next run (k.received (fun _ hu => hu.nackReceived))
  | reportReceived => exact .of_next run (k.receivedBlock (fun _ hu => hu.reportReceived))
  | eventSkip => exact .of_next run (k.receivedBlock (fun _ hu => hu.eventSkip))
  | eventLate => exact .of_next run (k.receivedBlock (fun _ hu => hu.edgeMissed))
  | eventMissing => exact .of_next run (k.receivedBlock (fun _ hu => hu.edgeMissed))
  | eventStale => exact .of_next run (k.receivedBlock (fun _ hu => hu.eventOnce (fun _ hv => hv.eventStale)))
  | eventFar => exact .of_next run (k.receivedBlock (fun _ hu => hu.eventOnce (fun _ hv => hv.record)))
  | eventConflict => exact .of_next run (k.receivedBlock (fun _ hu => hu.eventOnce (fun _ hv => hv.eventStale)))
  | edgeUndeliverable => exact .of_next run k.undeliverable
  | missedCauseClear => exact .of_next run k.missedClear
  | epEdgeBlock => exact .of_next run (k.epTakes (fun _ hu => hu.epSeq.epCommand.ite hu.epSeq))
  | epEdgeStamp => exact .of_next run k.epExecute
  | epOff => exact .of_next run (k.epTakes (fun _ hu => hu.epOff))
  | epConfigBlock => exact .of_next run (k.epTakes (fun _ hu => hu.epConfig))
  | epEpochBlock => exact .of_next run (k.epTakes (fun _ hu => hu.epEpoch))
  | epHandoff => exact .of_next run k.epHandoff
  | epTimeBlock => exact .of_next run (k.epTakes (fun _ hu => hu.ite hu.epTime))
  | epRtq => exact .of_next run (k.epTakes (fun _ hu => hu.upOn))
  | epNackRepeat => exact .of_next run (k.setEpPort.upOn.ite k)
  | epMissingReport => exact .of_next run (k.setEpPort.epEvent.ite k)
  | epLossTimeout =>
    refine .of_next run ?_
    split
    · exact k.setEp.ite k
    · exact k
  | epShuntAlarm => exact .of_next run k.setEp.upAll.upAll.upAll
  | epGateStateChange => exact .of_next run k.setEp.upAll
  | epStatusInterval => exact .of_next run (k.epStatus.ite k)
  | pwValueWordWrite => exact .of_next run k.storeAs
  | pwComplementWordWrite => exact .of_next run (k.storeWord.ite k)
  | registerWrite => exact .of_next run k.storeWord
  | w1cWrite => exact .of_next run k.storeAs
  | eventRingWrite => exact .of_next run k.ringWrite
  | lossRecordEnqueue => exact .of_next run k.flushLoss.evtShow
  | evtRidxWrite => exact .of_next run (k.when (fun _ hu => hu.ridxWrite))
  | stageUnlock => exact .of_next run (k.when (fun _ hu => hu.endHold.stageUnlock))
  | upsetCounterLeak => exact .of_next run k.counterLeak
  | tmbWrite => exact .of_next run (k.when (fun _ hu => hu.tmbWrite))
  | tripInputAssert => exact .of_next run k.tripAssert
  | tripClear => exact .of_next run (k.when (fun _ hu => hu.tripClear))
  | comparatorAssert => exact .of_next run k.cmpAssert
  | blankingEnd => exact .of_next run k.blankingEnd
  | comparatorFlagClear => exact .of_next run (k.when (fun _ hu => hu.cmpClear))
  | alarmFlagClear => exact .of_next run (k.when (fun _ hu => hu.alarmClear))
  | dacCheck => exact .of_next run k.dacCheck
  | entryDelivery => exact .of_next run k.deliverEntry
  | sequenceBusyEnd => exact .of_next run k.sequenceEnd
  | absComplete => exact .of_next run k.absComplete
  | relComplete => exact .of_next run k.relComplete
  | relTimeout => exact .of_next run k.relTimeout
  | spareRotate => exact .of_next run k.spareRotate
  | referenceCheck => exact .of_next run k.referenceCheck
  | laneInput => exact .of_next run k.laneInput
  | laneInputTimeout => exact .of_next run k.laneTimeout
  | laneRelease => exact .of_next run k.laneRelease
  | rnsRridxWrite => exact .of_next run (k.when (fun _ hu => hu.rridxWrite))
  | hamperArm => exact .of_next run (k.hmpCmd (fun _ hu => hu.hmpArmCmd))
  | hamperForce => exact .of_next run (k.hmpCmd (fun _ hu => hu.hmpForce))
  | hamperAbort => exact .of_next run (k.hmpCmd (fun _ hu => hu.hmpAbort))
  | hamperRelease => exact .of_next run (k.hmpCmd (fun _ hu => hu.hmpRelease))
  | hamperCal => exact .of_next run (k.hmpCmd (fun _ hu => hu.hmpCal))
  | hamperTimerExpiry => exact .of_next run k.timerExpire
  | hamperGapMarker => exact .of_next run k.chGap
  | hamperFifoDrain => exact .of_next run k.hmpDrain
  | triggerPinPulse => exact .of_next run k.pinPulse
  | triggerPinInput => exact .of_next run k.pinArrive
  | arbiterGrant => exact .of_next run k.arbGrant
  | dramRefreshWindow => exact .of_next run k.dramWindow
  | requesterSideband => exact .of_next run k.setMask
  | dmaGo => exact .of_next run (k.when (fun _ hu => hu.endHold.dmaGo))
  | dmaAbort => exact .of_next run (k.when (fun _ hu => hu.endHold.dmaAbort))
  | descriptorFetch => exact .of_next run k.descFetch
  | dmaTransferComplete => exact .of_next run k.xferComplete
  | descriptorReturn => exact .of_next run k.descReturn
  | dmaDeadlineExpiry => exact .of_next run k.dmaDeadline
  | taskEnd => exact .of_next run k.taskEnd
  | taskDeadlineExpiry => exact .of_next run k.taskDeadline
  | taskException => exact .of_next run k.taskException
  | errorTaskCall => exact .of_next run k.errorCall
  | lockstepMismatch => exact .of_next run (k.when (fun _ hu => hu.lockstepMismatch))
  | lockstepAutoRestart => exact .of_next run k.lockstepRestart
  | stationDrop => exact .of_next run k.stationDrop
  | restartWarm => exact .of_next run (k.pairFrom (fun _ hu => hu.restartRequest))
  | restartCold => exact .of_next run (k.pairFrom (fun _ hu => hu.restartRequest))
  | restartBegin => exact .of_next run k.restartBegin
  | restartComplete => exact .of_next run k.restartComplete
  | retainSnapshot => exact .of_next run k.retainSnapshot
  | patchSubmit => exact .of_next run (k.pairFrom (fun _ hu => hu.patchSubmit))
  | patchValidated => exact .of_next run k.patchValidated
  | patchApply => exact .of_next run k.patchApply
  | patchTimeout => exact .of_next run k.patchTimeout
  | forceSet => exact .of_next run (k.pairFrom (fun _ hu => hu.forceCommand))
  | forceRelease => exact .of_next run (k.pairFrom (fun _ hu => hu.forceCommand))
  | forceSetApply => exact .of_next run k.forceSetNow
  | forceReleaseApply => exact .of_next run k.forceReleaseNow
  | spanFrameStart => exact .of_next run k.portStart
  | txWindowMiss => exact .of_next run k.txMiss
  | bestEffortSend => exact .of_next run (k.pairFrom (fun _ hu => hu.bestEffort))
  | clusterCycleStart => exact .of_next run k.cycleStart
  | regionCycleStart => exact .of_next run k.regionStart
  | dataFrameReceive => exact .of_next run k.frameIn
  | streamHoldDeadline =>
    refine .of_next run ?_
    split
    · exact k.streamFlush.ite k
    · exact k
  | streamContextExpire =>
    refine .of_next run ?_
    split
    · exact k.streamFlush.setStream.ite k
    · exact k
  | stationFrameReceive => exact .of_next run k.frameIn
  | beaconReceive => exact .of_next run k.frameIn
  | claimReceive => exact .of_next run k.frameIn
  | reportFrameReceive => exact .of_next run k.frameIn
  | dispatchReceive => exact .of_next run k.frameIn
  | triggerFrameReceive => exact .of_next run (k.urgentIn (fun _ hu => hu.trigReceived))
  | tcalReceive => exact .of_next run (k.urgentIn (fun _ hu => hu.when (fun _ hv => hv.calReceived)))
  | refereeFrameReceive => exact .of_next run k.refereeIn
  | ptpSyncReceive => exact .of_next run k.syncIn
  | ptpPdelayExchange => exact .of_next run k.peerDelay
  | ptpAnnounceTimeout => exact .of_next run k.announceTimeout
  | beaconLoss => exact .of_next run k.beaconLoss
  | successionClaim => exact .of_next run k.claimStart
  | managerRoleTake => exact .of_next run k.roleTake
  | mainsCodeUnlinked => exact .of_next run (k.setB.ite k)
  | mainsCodeSendStart => exact .of_next run (k.setMc.setB.ite k)
  | mainsCodeFrameReceive =>
    refine .of_next run ?_
    split
    · exact k
    · exact k.setMc.ite k.setMc.setMc.wr.wr.bump.spnFlag.record
  | spanLinkLoss => exact .of_next run k.portLinkLoss
  | pairLinkUp => exact .of_next run k.pairLinkUp
  | pairWaitTimeout => exact .of_next run k.pairWaitOut
  | pairSnapshot => exact .of_next run k.pairSnapshot
  | copyFrameReceive => exact .of_next run k.copyReceive
  | syncingToStandby => exact .of_next run k.toStandby
  | pairTimeExchange => exact .of_next run k.timeExchange
  | healthFrameReceive => exact .of_next run k.healthIn
  | authReceive => exact .of_next run k.authIn
  | refGrantInput => exact .of_next run (k.grantIn.ite k)
  | takeoverEnter => exact .of_next run (k.drumFire.ite k)
  | handoffReached => exact .of_next run k.handoffReached
  | handbackRequest => exact .of_next run k.handbackRequest
  | hbreqReceive => exact .of_next run k.hbreqIn
  | hbackReceive => exact .of_next run k.hbackIn
  | pairCmdRequest => exact .of_next run (k.pairFrom (fun _ hu => hu.pairRequest))
  | pairCmdInhibit => exact .of_next run (k.pairFrom (fun _ hu => hu.pairInhibit))
  | pairCmdPermit => exact .of_next run (k.pairFrom (fun _ hu => hu.pairInhibit))
  | refereeGrantIssue => exact .of_next run k.grantIssue
  | pairLaneLoss => exact .of_next run k.laneLoss
  | safetyInputOpen => exact .of_next run k.inputOpen
  | safetyInputClosed => exact .of_next run k.inputClosed
  | discrepancyTimeout => exact .of_next run k.discrepancy
  | estop1DelayExpiry => exact .of_next run k.stopExpiry
  | testPulseStart => exact .of_next run k.pulseStart
  | testPulseEnd => exact .of_next run k.pulseEnd
  | channelStateExchange => exact .of_next run k.exchange
  | heartbeatTimeout => exact .of_next run k.beatTimeout
  | clockDeviationCheck => exact .of_next run k.clockCheck
  | feedbackTimeout => exact .of_next run k.fbTimeout
  | feedbackDisagreement => exact .of_next run k.fbDisagree
  | proofDue => exact .of_next run k.proofDue
  | srstRelease => exact .of_next run k.srstRelease
  | safetyArmComplete => exact .of_next run k.armComplete
  | jtagTapReset => exact .of_next run k.tapReset
  | jtagInstruction => exact .of_next run k.tapInstr
  | bobbinOuterTick => exact .of_next run k.outerTick
  | idleReceived =>
    refine .of_next run ?_
    split
    · exact (k.idleAtDevice.ite k.crcFail).ite k
    · exact k.epTakes (fun _ hu => hu.epMissing.ite hu)
  | epRxSyncLost => exact .of_next run k.setEpPort
  | epStatusConditionChange => exact .of_next run k.setEp.epStatus
  | pathAOffRepeat => exact .of_next run k.pathARepeat
  | pathBFeedbackChange => exact .of_next run k.fbChange
  | selfTestCycleComplete => exact .of_next run k.selfTest
  | spanLinkUp => exact .of_next run k.portLinkUp
  | spanFrameDiscarded => exact .of_next run k.frameDiscard
  | pairLaneUp => exact .of_next run k.laneUp
  | ptpAnnounceReceive => exact .of_next run k.announceIn
  | ptpMessageInterval => exact .of_next run k.ptpInterval
  | ctppsPulse => exact .of_next run k.ppsPulse

theorem idle : Kept s (idle s) := by
  cases run : s.ltRun with
  | true => exact (((Kept.refl s).steady (Steady.refl s).fclkEnds).withLt).steady (idle_steady run)
  | false => exact (idle_stopped run).symm ▸ Kept.refl s

end Kept

/-- A step takes the front command from the queue, and its command keeps the rest. -/
theorem step_out {s t : State} (run : step s = .next t) : s.out <+: t.out := by
  unfold step at run
  split at run
  · exact (Kept.exec run).out
  · exact (Kept.of_next run .idle).out

/-- Settles O8: each command and each FCLK of an empty queue only appends to the record. -/
theorem sentStaysSent : Obligations.SentStaysSent := fun _ _ => step_out

end Sys2Proof.Machine
end

section
/-! SUPPORT. The commands of the event unit (R205, R206, R210, R211): what each leaves, and O49. -/

namespace Sys2Proof.Machine

/-! Words in memory (R295). -/

@[simp] theorem length_bytesLE (n v : Nat) : (bytesLE n v).length = n := by
  induction n generalizing v with
  | zero => rfl
  | succ n ih => simp [bytesLE, ih]

/-- The bytes of a number give its low bits back. -/
theorem numLE_bytesLE (n v : Nat) : numLE (bytesLE n v) = v % 256 ^ n := by
  induction n generalizing v with
  | zero => simp [bytesLE, numLE, Nat.mod_one]
  | succ n ih =>
    rw [bytesLE, numLE, ih, BitVec.toNat_ofNat, show 256 ^ (n + 1) = 256 * 256 ^ n from Nat.pow_succ', Nat.mod_mul]

/-- A word reads back from within the bytes that a store has written. -/
theorem ldN_stBytes (a n v : Nat) (pre post : List Byte) (s : State) :
    ldN (a + pre.length) n (stBytes a (pre ++ bytesLE n v ++ post) s) = v % 256 ^ n := by
  rw [ldN, ← numLE_bytesLE]
  congr 1
  refine List.ext_getElem (by simp [ldBytes]) (fun i stored listed => ?_)
  have small : i < n := by simpa using listed
  simp only [ldBytes, List.getElem_map, List.getElem_range]
  rw [Nat.add_assoc, ldB_stBytes _ _ _ _ (by simp; omega), List.getElem_append_left (by simp; omega),
    List.getElem_append_right (by omega)]
  simp

/-! What the event unit shows (R219). -/

theorem evtShow_silent (s : State) : Silent [Reg.EVT_STAT] s (evtShow s) :=
  (((Silent.refl _ s).setB (by simp)).setB (by simp)).setF (by simp)

theorem on_losspend_evtShow (s : State) : on Reg.EVT_STAT Reg.EVT_STAT_LOSSPEND (evtShow s) = s.evt.pendLoss.isSome := by
  unfold evtShow on
  rw [fl_setF_other _ _ _ (by decide)]
  exact on_setB _ _ (by decide) (by decide) _ _

/-! The ring (R205, R206). -/

theorem exec_eventRingWrite (s : State) : exec .eventRingWrite s = .next (ringWrite s) := rfl

theorem ringWrite_of_masked {s : State} (out : masked 10 s = true) : ringWrite s = s := by
  unfold ringWrite busUse
  split
  · rfl
  · simp [out]

/-- The oldest record has gone into its slot. -/
def recordStored (r : EvRec) (q : List EvRec) (a : Nat) (s : State) : State :=
  stBytes a ((recordWords r).flatMap (bytesLE 4)) { s with evt := { s.evt with queue := q } }

theorem ringWrite_of_room {r : EvRec} {q : List EvRec} {s : State} (configured : s.configured = true)
    (open_ : masked 10 s = false) (first : s.evt.queue = r :: q)
    (room : (rd Reg.EVT_WIDX s + 2 ^ 32 - rd Reg.EVT_RIDX s) % 2 ^ 32 < ringSize s) :
    ringWrite s = busAsk 10 (rd Reg.EVT_RBASE s + 16 * (rd Reg.EVT_WIDX s % ringSize s)) 16
      (evtShow (wr Reg.EVT_WIDX (rd Reg.EVT_WIDX s + 1)
        (recordStored r q (rd Reg.EVT_RBASE s + 16 * (rd Reg.EVT_WIDX s % ringSize s)) s))) := by
  unfold ringWrite busUse
  rw [first]
  dsimp only
  rw [if_pos (by rw [configured, Bool.true_and]; exact decide_eq_true room), if_neg (by simp [open_])]
  rfl

theorem busAsk_parts (q a n : Nat) (s : State) :
    (busAsk q a n s).regs = s.regs ∧ (busAsk q a n s).mem = s.mem ∧ (busAsk q a n s).evt = s.evt := by
  unfold busAsk
  split <;> exact ⟨rfl, rfl, rfl⟩

/-- The four words of the record stand in its slot, and every other byte as before. -/
theorem recordStored_words (r : EvRec) (q : List EvRec) (a : Nat) (s : State) {t : State}
    (mem : t.mem = (recordStored r q a s).mem) :
    ldN a 4 t = r.seq % 2 ^ 32 ∧ ldN (a + 4) 4 t = (r.source + (if r.tumble then 2 ^ 7 else 0) + 2 ^ 8 * r.grade
      + (if r.stgv then 2 ^ 11 else 0) + 2 ^ 12 * r.stage + 2 ^ 16 * r.detail) % 2 ^ 32 ∧
    ldN (a + 8) 4 t = (r.atf + 2 ^ 16 * (r.lt / 2 ^ 32 % 2 ^ 16)) % 2 ^ 32 ∧ ldN (a + 12) 4 t = r.lt % 2 ^ 32 ∧
    ∀ b, b < a ∨ a + 16 ≤ b → ldB b t = ldB b s := by
  have read : ∀ b n, ldN b n t = ldN b n (recordStored r q a s) := fun b n => by
    unfold ldN ldBytes ldB
    rw [mem]
  have word : ∀ i, ∀ h : i < (recordWords r).length, ldN (a + 4 * i) 4 (recordStored r q a s) = (recordWords r)[i] % 2 ^ 32 := by
    intro i h
    have front : (((recordWords r).take i).flatMap (bytesLE 4)).length = 4 * i := by
      simp [List.length_flatMap, Nat.min_eq_left h.le, Nat.mul_comm]
    have cut : (recordWords r).flatMap (bytesLE 4) = ((recordWords r).take i).flatMap (bytesLE 4)
        ++ bytesLE 4 (recordWords r)[i] ++ ((recordWords r).drop (i + 1)).flatMap (bytesLE 4) := by
      have whole := congrArg (List.flatMap (bytesLE 4)) (List.take_append_drop i (recordWords r))
      rw [List.drop_eq_getElem_cons h, List.flatMap_append, List.flatMap_cons] at whole
      rw [← whole, List.append_assoc]
    unfold recordStored
    rw [cut, ← front]
    exact ldN_stBytes ..
  refine ⟨?_, ?_, ?_, ?_, fun b out => ?_⟩
  · rw [read, ← Nat.mod_mod r.seq]
    exact word 0 (by simp [recordWords])
  · rw [read]
    exact word 1 (by simp [recordWords])
  · rw [read]
    exact word 2 (by simp [recordWords])
  · rw [read, ← Nat.mod_mod r.lt]
    exact word 3 (by simp [recordWords])
  · unfold ldB
    rw [mem]
    exact ldB_stBytes_out b a _ _ (by simpa [recordWords] using out)

theorem exec_eventRingWrite_room {r : EvRec} {q : List EvRec} {a : Nat} {s : State} (configured : s.configured = true)
    (open_ : masked 10 s = false) (first : s.evt.queue = r :: q)
    (room : (rd Reg.EVT_WIDX s + 2 ^ 32 - rd Reg.EVT_RIDX s) % 2 ^ 32 < ringSize s)
    (slot : a = rd Reg.EVT_RBASE s + 16 * (rd Reg.EVT_WIDX s % ringSize s)) :
    ∃ t, exec .eventRingWrite s = .next t ∧ t.evt.queue = q ∧ rd Reg.EVT_WIDX t = (rd Reg.EVT_WIDX s + 1) % 2 ^ 32 ∧
      t.mem = (recordStored r q a s).mem ∧ regsKept [Reg.EVT_WIDX, Reg.EVT_STAT] s t := by
  refine ⟨_, (exec_eventRingWrite s).trans (congrArg _ (ringWrite_of_room configured open_ first room)), ?_⟩
  rw [← slot]
  generalize advanced : wr Reg.EVT_WIDX (rd Reg.EVT_WIDX s + 1) (recordStored r q a s) = u
  obtain ⟨regs, mem, evt⟩ := busAsk_parts 10 a 16 (evtShow u)
  have shown : ∀ b, rdW b (busAsk 10 a 16 (evtShow u)) = rdW b (evtShow u) := fun b => by
    unfold rdW
    rw [regs]
  refine ⟨?_, ?_, ?_, fun b off => ?_⟩
  · rw [evt, ← advanced]
    rfl
  · unfold rd
    rw [shown, (evtShow_silent u).regs _ (by decide), ← advanced]
    exact (rd_wr ..).trans (if_pos rfl)
  · rw [mem, ← advanced]
    rfl
  · rw [List.mem_cons, List.mem_singleton, not_or] at off
    rw [shown, (evtShow_silent u).regs _ (by simpa using off.2), ← advanced, rdW_wr_ne off.1]
    rfl

theorem exec_lossRecordEnqueue (s : State) : exec .lossRecordEnqueue s = .next (evtShow (flushLoss s)) := rfl

/-- A pending loss count that finds a free entry is frozen into its record. -/
theorem flushLoss_of_free {f n : Nat} {s : State} (configured : s.configured = true)
    (pending : s.evt.pendLoss = some (f, n)) (free : s.evt.queue.length < queueSize) :
    flushLoss s = hmpPulse (128 + 126) s.lt
      { s with evt := { s.evt with queue := s.evt.queue ++ [lossRecord f n s], pendLoss := none } } := by
  unfold flushLoss
  rw [pending]
  simp [configured, free]

theorem exec_evtRidxWrite {value : BitVec 32} {by_ : Fin 19} {s : State} (stored : mayStore Reg.EVT_RIDX by_ s = true) :
    exec (.evtRidxWrite value by_) s = .next (ridxWrite value.toNat s) :=
  congrArg Host.Outcome.next (if_pos stored)

/-- A read index in range is taken (R206). -/
theorem exec_evtRidxWrite_taken {value : BitVec 32} {by_ : Fin 19} {s : State}
    (stored : mayStore Reg.EVT_RIDX by_ s = true)
    (inside : (rd Reg.EVT_WIDX s + 2 ^ 32 - value.toNat) % 2 ^ 32 ≤ ringSize s) :
    ∃ t, exec (.evtRidxWrite value by_) s = .next t ∧ rdW Reg.EVT_RIDX t = value ∧
      regsKept [Reg.EVT_RIDX, Reg.EVT_STAT] s t ∧ t = { s with regs := t.regs } := by
  have taken : ridxWrite value.toNat s = evtShow (wr Reg.EVT_RIDX value.toNat s) := by
    unfold ridxWrite
    rw [Nat.mod_eq_of_lt value.isLt, if_neg (by omega)]
  refine ⟨_, (exec_evtRidxWrite stored).trans (congrArg _ taken), ?_, fun a off => ?_, rfl⟩
  · rw [(evtShow_silent _).regs _ (by decide), wr, rdW_wrW, if_pos rfl]
    exact BitVec.ofNat_toNat ..
  · rw [List.mem_cons, List.mem_singleton, not_or] at off
    rw [(evtShow_silent _).regs _ (by simpa using off.2), rdW_wr_ne off.1]

/-- A read index ahead of EVT_WIDX or more than the ring behind it only sets BADIDX (R206). -/
theorem exec_evtRidxWrite_bad {value : BitVec 32} {by_ : Fin 19} {s : State} (stored : mayStore Reg.EVT_RIDX by_ s = true)
    (outside : ringSize s < (rd Reg.EVT_WIDX s + 2 ^ 32 - value.toNat) % 2 ^ 32) :
    ∃ t, exec (.evtRidxWrite value by_) s = .next t ∧ on Reg.EVT_EVT Reg.EVT_EVT_BADIDX t = true ∧
      regsKept [Reg.EVT_EVT] s t ∧ t = { s with regs := t.regs } := by
  have ignored : ridxWrite value.toNat s = setB Reg.EVT_EVT Reg.EVT_EVT_BADIDX true s := by
    unfold ridxWrite
    rw [Nat.mod_eq_of_lt value.isLt, if_pos outside]
  exact ⟨_, (exec_evtRidxWrite stored).trans (congrArg _ ignored), on_setB _ _ (by decide) (by decide) _ _,
    ((Silent.refl [Reg.EVT_EVT] s).setB (by simp)).regs, rfl⟩

end Sys2Proof.Machine
end

section
/-! SUPPORT. What the loss and the return of a Stage's pulses leave (R162), the unlock of a Stage (R210), the leak of a counter
(R211), and O49. -/

namespace Sys2Proof.Machine

/-- What is recorded stays so while no record is lost. -/
theorem recorded_of_le {src grade detail : Nat} {stg : Option Nat} {s t u : State} (first : recorded src grade detail stg s t)
    (kept : recs src grade detail stg t ≤ recs src grade detail stg u) : recorded src grade detail stg s u :=
  fun room => (first room).trans_le kept

namespace regsKept

variable {l : List Nat} {s t u : State}

theorem refl (l : List Nat) (s : State) : regsKept l s s := fun _ _ => rfl

theorem trans (r : regsKept l s t) (g : regsKept l t u) : regsKept l s u := fun a ha => (g a ha).trans (r a ha)

theorem mono {m : List Nat} (r : regsKept l s t) (sub : l ⊆ m) : regsKept m s t := fun a ha => r a (fun mem => ha (sub mem))

theorem wrW (r : regsKept l s t) {a : Nat} (ha : a ∈ l) {w : Word} : regsKept l s (wrW a w t) := fun b hb =>
  (rdW_wrW b a w t).trans ((if_neg (fun same : b = a => hb (same ▸ ha))).trans (r b hb))

theorem elsewhere (r : regsKept l s t) (regs : u.regs = t.regs := by rfl) : regsKept l s u := fun a ha => by
  rw [← r a ha]
  unfold rdW
  rw [regs]

theorem events (r : regsKept l s t) (unit : evtRegs ⊆ l) (g : EventsOnly t u) : regsKept l s u :=
  r.trans (mono g.regs unit)

theorem when (r : regsKept l s t) {c : Bool} {f : State → State} (hf : ∀ u, regsKept l s u → regsKept l s (f u)) :
    regsKept l s (when c f t) := by
  unfold Machine.when
  split
  · exact hf _ r
  · exact r

theorem each {α : Type} (r : regsKept l s t) {xs : List α} {f : α → State → State}
    (hf : ∀ x ∈ xs, ∀ u, regsKept l s u → regsKept l s (f x u)) : regsKept l s (each xs f t) := each_induct r hf

theorem fl (r : regsKept l s t) {a : Nat} (ha : a ∉ l) (F : Fld) : fl a F t = fl a F s := congrArg (fldGet F) (r a ha)

theorem on (r : regsKept l s t) {a : Nat} (ha : a ∉ l) (F : Fld) : on a F t = on a F s := congrArg (· != 0) (r.fl ha F)

theorem rd (r : regsKept l s t) {a : Nat} (ha : a ∉ l) : rd a t = rd a s := congrArg BitVec.toNat (r a ha)

end regsKept

/-! The pulses of a Stage (R108, R162). -/

/-- The registers that show the end and the return of pulses: those of the event unit, of the Stages, of the instances and of the
half-bridges. -/
def pulseRegs : List Nat :=
  evtRegs ++ (List.range 4).map Reg.PGN_SSTAT ++ (List.range 128).map Reg.STI_ISTAT ++ bridgeRegs

/-- Beside the event unit's, they lie below the half-bridges' end, and PGN_GSTAT is none of them. -/
theorem address_of_mem_pulseRegs {a : Nat} (mem : a ∈ pulseRegs) :
    a ∈ evtRegs ∨ a < 0x40060000 ∧ a ≠ Reg.PGN_GSTAT := by
  simp only [pulseRegs, List.mem_append, List.mem_map, List.mem_range, mem_bridgeRegs] at mem
  rcases mem with ((unit | ⟨st, small, rfl⟩) | ⟨n, small, rfl⟩) | ⟨h, small, rfl | rfl | rfl | rfl⟩
  · exact .inl unit
  all_goals
    right
    simp only [Reg.PGN_SSTAT, Reg.STI_ISTAT, Reg.PGN_ACC, Reg.PGN_HEVT, Reg.PGN_CMPA, Reg.PGN_HSTAT, Reg.PGN_GSTAT]
    omega

theorem not_mem_pulseRegs {a : Nat} (off : 0x40060000 ≤ a ∨ a = Reg.PGN_GSTAT) (unit : a ∉ evtRegs) : a ∉ pulseRegs :=
  fun mem => (address_of_mem_pulseRegs mem).elim unit (fun ⟨low, other⟩ => off.elim (by omega) other)

theorem evtRegs_subset_pulseRegs : evtRegs ⊆ pulseRegs := fun a mem => by
  simp only [pulseRegs, List.mem_append]
  exact .inl (.inl (.inl mem))

theorem sstat_mem_pulseRegs {st : Nat} (small : st < 4) : Reg.PGN_SSTAT st ∈ pulseRegs := by
  simp only [pulseRegs, List.mem_append]
  exact .inl (.inl (.inr (List.mem_map_of_mem (List.mem_range.2 small))))

theorem istat_mem_pulseRegs {n : Nat} (small : n < 128) : Reg.STI_ISTAT n ∈ pulseRegs := by
  simp only [pulseRegs, List.mem_append]
  exact .inl (.inr (List.mem_map_of_mem (List.mem_range.2 small)))

theorem bridgeRegs_subset_pulseRegs : bridgeRegs ⊆ pulseRegs := List.subset_append_right _ _

namespace regsKept

variable {l : List Nat} {s t : State} {st d h n : Nat} (r : regsKept l s t) (pulses : pulseRegs ⊆ l)
include r pulses

theorem record {src grade detail : Nat} {stg : Option Nat} : regsKept l s (record src grade detail stg t) :=
  r.events (List.Subset.trans evtRegs_subset_pulseRegs pulses) (EventsOnly.refl t).record

theorem trackIn (small : n < 128) : regsKept l s (trackIn n t) := by
  unfold Machine.trackIn
  extract_lets mode
  split
  · exact r
  · exact .wrW r.elsewhere (pulses (istat_mem_pulseRegs small))

theorem trackOut (small : n < 128) : regsKept l s (trackOut n t) := by
  unfold Machine.trackOut
  split
  · exact r.wrW (pulses (istat_mem_pulseRegs small))
  · exact r

theorem clearHold (small : h < 104) {cause : Nat} : regsKept l s (clearHold cause h t) := by
  unfold Machine.clearHold
  exact .wrW r.elsewhere (pulses (bridgeRegs_subset_pulseRegs (hstat_mem_bridgeRegs small)))

theorem holdMany {cause : Nat} {hs : List Nat} (bridges : ∀ h ∈ hs, h < 104) : regsKept l s (holdMany cause hs t) :=
  r.trans (mono (holdMany_silent cause bridges t).regs (List.Subset.trans bridgeRegs_subset_pulseRegs pulses))

theorem pulsesOff (small : st < 4) : regsKept l s (pulsesOff st d t) := by
  unfold Machine.pulsesOff
  extract_lets was t1 t2
  have off : regsKept l s t1 := r.wrW (pulses (sstat_mem_pulseRegs small))
  have recorded : regsKept l s t2 := off.when (fun _ hu => hu.record pulses)
  exact .holdMany (recorded.each (fun _ mem _ hu => hu.trackIn pulses (lt_of_mem_instsOf mem))) pulses
    (fun _ => lt_of_mem_hbsOf)

/-- G5 against a Stage shows beside its pulses in EVT_G5CAUSE alone. -/
theorem gradeG5 (small : st < 4) (causes : Reg.EVT_G5CAUSE ∈ l) {c : Option Cause} : regsKept l s (gradeG5 st c t) := by
  unfold Machine.gradeG5 gradeG5For
  extract_lets was t1 t2 _ t3 t4 t5
  have locked : regsKept l s t1 := r.wrW causes
  have noted : regsKept l s t2 := by
    cases c with
    | none => exact locked
    | some c => exact .wrW locked.elsewhere causes
  have shown : regsKept l s t5 := noted.elsewhere
  exact .pulsesOff (shown.when (fun _ hu => hu.record pulses)) pulses small

/-- Pulses that return under no module disable lock no Stage. -/
theorem pulsesEnable (small : st < 4) (enabled : bitAt Reg.PGN_GSTAT 0 t = false) : regsKept l s (pulsesEnable st t) := by
  unfold Machine.pulsesEnable
  split
  · exact r
  · extract_lets t1
    have shown : regsKept pulseRegs t t1 :=
      .record (.wrW (.refl _ t) (sstat_mem_pulseRegs small)) (List.Subset.refl _)
    have still : bitAt Reg.PGN_GSTAT 0 t1 = false :=
      (shown.on (not_mem_pulseRegs (.inr rfl) (by decide)) _).trans enabled
    rw [if_neg (by simp [still])]
    exact .each (.each (r.trans (mono shown pulses))
      (fun _ mem _ hu => hu.clearHold pulses (lt_of_mem_hbsOf mem)))
      (fun _ mem _ hu => hu.trackOut pulses (lt_of_mem_instsOf mem))

theorem pulsesAuto (small : st < 4) (enabled : bitAt Reg.PGN_GSTAT 0 t = false) : regsKept l s (pulsesAuto st t) := by
  unfold Machine.pulsesAuto
  split
  · exact r.pulsesEnable pulses small enabled
  · exact r

end regsKept

end Sys2Proof.Machine
end

section
/-! SUPPORT. The unlock of a Stage (R210) and the leak of a counter (R211), and O49. -/

namespace Sys2Proof.Machine

namespace Reacts

variable {s t : State} {st n h : Nat} (r : Reacts s t)
include r

theorem trackOut (small : n < 128) : Reacts s (trackOut n t) := by
  unfold Machine.trackOut
  split
  · refine r.setF (fun j _ => ?_)
    unfold Reg.PGN_HEVT Reg.STI_ISTAT
    omega
  · exact r

theorem clearHold {cause : Nat} : Reacts s (clearHold cause h t) := .setF r.setHb (noFlags_hstat h)

theorem pulsesEnable : Reacts s (pulsesEnable st t) := by
  have pen : NoFlags (Reg.PGN_SSTAT st) := fun j _ => by
    unfold Reg.PGN_HEVT Reg.PGN_SSTAT
    omega
  unfold Machine.pulsesEnable
  split
  · exact r
  · extract_lets t1
    have shown : Reacts s t1 := .record (r.setB pen)
    split
    · exact shown.gradeG5For
    · exact .each (shown.each (fun _ _ _ hu => hu.clearHold)) (fun _ mem _ hu => hu.trackOut (lt_of_mem_instsOf mem))

theorem pulsesAuto : Reacts s (pulsesAuto st t) := by
  unfold Machine.pulsesAuto
  split
  · exact r.pulsesEnable
  · exact r

end Reacts

/-! The locks and the refusal in EVT_G5CAUSE (R210, R219). -/

/-- A lock of a Stage is one bit of EVT_G5CAUSE. -/
theorem locked_setBitAt {j k : Nat} (small : j < 32) (b : Bool) (s : State) :
    locked j (setBitAt Reg.EVT_G5CAUSE k b s) = if j = k then b else locked j s := by
  split
  · rename_i same
    subst same
    exact on_setB _ _ (show j + 1 ≤ 32 by omega) Nat.one_pos b s
  · unfold locked bitAt on
    exact congrArg (· != 0) (fl_setF_other _ ⟨j, 1⟩ ⟨k, 1⟩ (by dsimp only; omega) _ s)

theorem locked_of_regs {j : Nat} {s t : State} (word : rdW Reg.EVT_G5CAUSE t = rdW Reg.EVT_G5CAUSE s) :
    locked j t = locked j s := congrArg (fun w => fldGet ⟨j, 1⟩ w != 0) word

/-- A cause that leaves clears and sets no lock. -/
theorem locked_dropCause {j : Nat} (small : j < 4) (c : Cause) (s : State) : locked j (dropCause c s) = locked j s := by
  refine each_induct (P := fun u => locked j u = locked j s) rfl (fun st mem u hu => ?_)
  have apart : Reg.EVT_G5CAUSE ≠ Reg.DRM_STAT st := by
    have := List.mem_range.1 mem
    unfold Reg.EVT_G5CAUSE Reg.DRM_STAT
    omega
  refine (locked_setBitAt (by omega) _ _).trans ((if_neg (by omega)).trans (.trans ?_ hu))
  exact locked_of_regs (rdW_setF_ne apart ..)

/-- The end of a hold clears and sets no lock. -/
theorem locked_endHold {j : Nat} (small : j < 4) (a : Nat) (s : State) : locked j (endHold a s) = locked j s := by
  unfold endHold verified
  extract_lets t
  have noted : locked j t = locked j s := by
    unfold t when
    split <;> rfl
  split
  · exact (locked_dropCause small _ _).trans noted
  · exact noted

/-! The flags of EVT_EVT (R205): a record that is lost sets the first, and no record another. -/

theorem on_flag_number {i : Nat} (other : 1 ≤ i) (r : EvRec) (s : State) :
    on Reg.EVT_EVT ⟨i, 1⟩ (number r s) = on Reg.EVT_EVT ⟨i, 1⟩ s := by
  have shown : ∀ u, fl Reg.EVT_EVT ⟨i, 1⟩ (evtShow u) = fl Reg.EVT_EVT ⟨i, 1⟩ u := fun u =>
    congrArg (fldGet _) ((evtShow_silent u).regs _ (by decide))
  have lost : ∀ u, fl Reg.EVT_EVT ⟨i, 1⟩ (lose u) = fl Reg.EVT_EVT ⟨i, 1⟩ u := fun u =>
    (fl_setF_other _ ⟨i, 1⟩ Reg.EVT_EVT_LOSS (.inr other) _ _).trans (fl_setF_ne (by decide) ..)
  have flushed : rdW Reg.EVT_EVT (flushLoss s) = rdW Reg.EVT_EVT s := by
    unfold rdW
    rw [(flushLoss_frame s).2.2]
  unfold number on
  extract_lets t e r' t'
  have first : fl Reg.EVT_EVT ⟨i, 1⟩ t = fl Reg.EVT_EVT ⟨i, 1⟩ s := congrArg (fldGet _) flushed
  have numbered : fl Reg.EVT_EVT ⟨i, 1⟩ t' = fl Reg.EVT_EVT ⟨i, 1⟩ t := by
    unfold t' when
    split
    · exact congrArg (fldGet _) (rdW_wr_ne (by decide) _ t)
    · rfl
  refine congrArg (· != 0) ?_
  split
  · rw [shown, lost]
    exact first
  · rw [shown]
    split
    · exact numbered.trans first
    · rw [lost]
      exact numbered.trans first

theorem on_flag_record {i : Nat} (other : 1 ≤ i) (src grade detail : Nat) (stg : Option Nat) (s : State) :
    on Reg.EVT_EVT ⟨i, 1⟩ (record src grade detail stg s) = on Reg.EVT_EVT ⟨i, 1⟩ s := by
  unfold record accept
  split
  · exact on_flag_number other _ s
  · split
    · exact on_flag_number other _ _
    · rfl

/-! The unlock (R210). -/

theorem unlockCause_spec (v : Nat) (s : State) : unlockCause v s ≤ 5 ∧
    (unlockCause v s = 0 → bitAt Reg.PGN_GSTAT 0 s = false) := by
  unfold unlockCause
  extract_lets st
  split_ifs <;> simp_all

theorem exec_stageUnlock {value : BitVec 32} {by_ : Fin 19} {s : State} (stored : mayStore Reg.EVT_UNLOCK by_ s = true) :
    exec (.stageUnlock value by_) s = .next (stageUnlock value.toNat (endHold Reg.EVT_UNLOCK s)) :=
  congrArg Host.Outcome.next (if_pos stored)

/-- An accepted unlock: the lock is cleared, EV15 is recorded, and the pulses of a Stage without a Drum may return. -/
theorem stageUnlock_accepted {v : Nat} {s : State} (accepted : unlockCause v s = 0) :
    locked (v % 4) (stageUnlock v s) = false ∧ (∀ j, j < 4 → j ≠ v % 4 → locked j (stageUnlock v s) = locked j s) ∧
      recorded 15 0 0 (some (v % 4)) s (stageUnlock v s) ∧ (stageUnlock v s).mem = s.mem := by
  have effect : stageUnlock v s = pulsesAuto (v % 4)
      (record 15 0 0 (some (v % 4)) (setBitAt Reg.EVT_G5CAUSE (v % 4) false s)) := if_pos accepted
  generalize freed : setBitAt Reg.EVT_G5CAUSE (v % 4) false s = u at effect
  have small : v % 4 < 4 := Nat.mod_lt _ (by decide)
  have enabled : bitAt Reg.PGN_GSTAT 0 (record 15 0 0 (some (v % 4)) u) = false := by
    refine .trans ?_ ((unlockCause_spec v s).2 accepted)
    have kept : regsKept (Reg.EVT_G5CAUSE :: evtRegs) s (record 15 0 0 (some (v % 4)) u) := by
      rw [← freed]
      exact .events (.wrW (.refl _ s) (by simp)) (List.subset_cons_self ..) (EventsOnly.refl _).record
    exact kept.on (by decide) _
  have reacts : Reacts (record 15 0 0 (some (v % 4)) u) (stageUnlock v s) := effect ▸ (Reacts.refl _).pulsesAuto
  have word : ∀ j, locked j (stageUnlock v s) = locked j u := fun j => by
    refine locked_of_regs ?_
    rw [effect]
    exact ((regsKept.refl pulseRegs u).record (List.Subset.refl _)).pulsesAuto (List.Subset.refl _) small enabled _
      (not_mem_pulseRegs (.inl (by decide)) (by decide))
  refine ⟨?_, fun j below other => ?_, ?_, ?_⟩
  · rw [word, ← freed, locked_setBitAt (by omega), if_pos rfl]
  · rw [word, ← freed, locked_setBitAt (by omega), if_neg other]
  · refine recorded_of_le (t := record 15 0 0 (some (v % 4)) u) ?_ (reacts.recs _ _ _ _)
    rw [← freed]
    exact ((Unrecorded.refl causeRegs s).wrW (List.mem_cons_self ..)).recorded (by decide)
  · rw [reacts.mem, (Reacts.refl u).record.mem, ← freed]
    rfl

/-- A refused unlock: no lock changes, and the cause is shown and recorded with EV15. -/
theorem stageUnlock_refused {v : Nat} {s : State} (refused : unlockCause v s ≠ 0) :
    (∀ j, j < 4 → locked j (stageUnlock v s) = locked j s) ∧
      recorded 15 0 (0x100 + unlockCause v s) (some (v % 4)) s (stageUnlock v s) ∧
      on Reg.EVT_EVT Reg.EVT_EVT_UNLOCKREF (stageUnlock v s) = true ∧
      fl Reg.EVT_G5CAUSE Reg.EVT_G5CAUSE_REFUSE (stageUnlock v s) = unlockCause v s ∧ (stageUnlock v s).mem = s.mem := by
  generalize shown : setB Reg.EVT_EVT Reg.EVT_EVT_UNLOCKREF true
    (setF Reg.EVT_G5CAUSE Reg.EVT_G5CAUSE_REFUSE (unlockCause v s) s) = u
  have effect : stageUnlock v s = record 15 0 (0x100 + unlockCause v s) (some (v % 4)) u := (if_neg refused).trans (shown ▸ rfl)
  have word : rdW Reg.EVT_G5CAUSE (stageUnlock v s)
      = rdW Reg.EVT_G5CAUSE (setF Reg.EVT_G5CAUSE Reg.EVT_G5CAUSE_REFUSE (unlockCause v s) s) := by
    rw [effect, (EventsOnly.refl u).record.regs _ (by decide), ← shown]
    exact rdW_setF_ne (by decide) ..
  refine ⟨fun j below => ?_, ?_, ?_, ?_, ?_⟩
  · refine (locked_of_regs word).trans (congrArg (· != 0) (fl_setF_other _ ⟨j, 1⟩ _ ?_ _ s))
    exact .inl (show j + 1 ≤ 8 by omega)
  · rw [effect, ← shown]
    exact (((Unrecorded.refl [Reg.EVT_G5CAUSE, Reg.EVT_EVT] s).wrW (by simp)).wrW (by simp)).recorded (by decide)
  · rw [effect]
    refine (on_flag_record (by decide) ..).trans ?_
    rw [← shown]
    exact on_setB _ _ (by decide) (by decide) _ _
  · have small := (unlockCause_spec v s).1
    refine (congrArg (fldGet _) word).trans ((fl_setF _ _ (by decide) _ s).trans (Nat.mod_eq_of_lt ?_))
    exact small.trans_lt (by decide)
  · rw [effect, (Reacts.refl u).record.mem, ← shown]
    rfl

/-! The leak of a counter (R211). -/

theorem exec_upsetCounterLeak {counter : BitVec 16} {k l o : Nat} {s : State} (configured : s.configured = true)
    (count : k = (Tbl.get (0, 0, 0) s.evt.leaks counter.toNat).1)
    (due : (k + 1) * leakPeriod counter.toNat s ≤ nowF s - s.cc / fclk) (level : ctrOf counter.toNat s = (l, o)) :
    exec (.upsetCounterLeak counter) s = .next (ucShow (setCtr counter.toNat (l - 1, o)
      { s with evt := { s.evt with leaks := Tbl.put counter.toNat (k + 1, s.lt, min l 1) s.evt.leaks } })) := by
  subst count
  have takes : (s.configured && decide (((Tbl.get (0, 0, 0) s.evt.leaks counter.toNat).1 + 1) * leakPeriod counter.toNat s
      ≤ nowF s - s.cc / fclk)) = true := by
    rw [configured, decide_eq_true due]
    rfl
  refine congrArg Host.Outcome.next ?_
  unfold counterLeak
  dsimp only
  rw [if_pos takes, level]

/-- Settles O49: each command by the rule of its unit; what an unlock records is recorded since before its pair was stored. -/
theorem eventUnitCommands : Obligations.EventUnitCommands := by
  refine ⟨?masked, ?room, ?loss, ?taken, ?bad, ?unlocks, ?refuses, ?leaks⟩
  case masked => exact fun s out => (exec_eventRingWrite s).trans (congrArg _ (ringWrite_of_masked out))
  case room =>
    intro r q a s configured open_ first room slot
    obtain ⟨t, run, queue, index, mem, regs⟩ := exec_eventRingWrite_room configured open_ first room slot
    obtain ⟨seq, kind, atf, lt, out⟩ := recordStored_words r q a s mem
    exact ⟨t, run, queue, index, seq, kind, atf, lt, out, regs⟩
  case loss =>
    intro f n s configured pending free
    have frozen := flushLoss_of_free configured pending free
    refine ⟨_, exec_lossRecordEnqueue s, ?_, ?_, ?_, ?_, ?_⟩
    · rw [frozen]; rfl
    · rw [frozen]; rfl
    · rw [on_losspend_evtShow, frozen]; rfl
    · exact regsKept.trans (.elsewhere (.refl _ s) (flushLoss_frame s).2.2) (evtShow_silent _).regs
    · rw [frozen]; rfl
  case taken => exact fun value by_ s stored inside => exec_evtRidxWrite_taken stored inside
  case bad => exact fun value by_ s stored outside => exec_evtRidxWrite_bad stored outside
  case unlocks =>
    rintro value by_ k s stored rfl accepted
    obtain ⟨free, others, recorded, mem⟩ := stageUnlock_accepted accepted
    have before := endHold_unrecorded Reg.EVT_UNLOCK s
    exact ⟨_, exec_stageUnlock stored, free, before.recorded_of (by decide) recorded,
      fun j below other => (others j below other).trans (locked_endHold below ..), mem.trans before.mem⟩
  case refuses =>
    rintro value by_ k c s stored rfl rfl refused
    obtain ⟨locks, recorded, flag, shown, mem⟩ := stageUnlock_refused refused
    have before := endHold_unrecorded Reg.EVT_UNLOCK s
    exact ⟨_, exec_stageUnlock stored, fun j below => (locks j below).trans (locked_endHold below ..),
      before.recorded_of (by decide) recorded, flag, shown, mem.trans before.mem⟩
  case leaks =>
    intro counter k l o s configured count due level
    refine ⟨_, exec_upsetCounterLeak configured count due level, ?_, ?_, fun i other => ?_, rfl, rfl⟩
    · exact Tbl.get_put_same ..
    · exact Tbl.get_put_same ..
    · exact Tbl.get_put_ne _ other ..

end Sys2Proof.Machine
end

section
/-! SUPPORT. The reactions to G3, G4 and G5, whatever the event queue holds (R54, R158, R206, R208), and O59. -/

namespace Sys2Proof.Machine

/-! Records leave the causes of G3 (R54). -/

theorem number_g3 (r : EvRec) (s : State) : (number r s).evt.g3 = s.evt.g3 := by
  have flushed : (flushLoss s).evt.g3 = s.evt.g3 := by
    unfold flushLoss
    split
    · rfl
    · split <;> rfl
  unfold number
  extract_lets t e r' t'
  have numbered : t'.evt.g3 = s.evt.g3 := by
    unfold t' when
    split <;> exact flushed
  split
  · exact flushed
  · split <;> exact numbered

theorem g3Of_record (st src grade detail : Nat) (stg : Option Nat) (s : State) :
    g3Of st (record src grade detail stg s) = g3Of st s := by
  have same : (record src grade detail stg s).evt.g3 = s.evt.g3 := by
    unfold record accept
    split
    · exact number_g3 _ s
    · split
      · exact number_g3 _ _
      · rfl
  unfold g3Of
  rw [same]

theorem mem_addCause (c : Cause) (l : List Cause) : c ∈ addCause c l := by
  unfold addCause
  split
  · assumption
  · simp

/-- G3 against a Stage (R54, R208): n rises, the cause is active, and DERCAUSE shows it. -/
theorem gradeG3_reacts {st : Nat} (small : st < 4) (c : Cause) (s : State) :
    fl (Reg.DRM_DERN st) ⟨0, 8⟩ (gradeG3 st (some c) s) = min 255 (fl (Reg.DRM_DERN st) ⟨0, 8⟩ s + 1) ∧
      c ∈ g3Of st (gradeG3 st (some c) s) ∧ on (Reg.DRM_STAT st) Reg.DRM_STAT_DERCAUSE (gradeG3 st (some c) s) = true := by
  generalize counted : bump (Reg.DRM_DERN st) ⟨0, 8⟩ 1 s = u
  have effect : gradeG3 st (some c) s = record 36 0 (rd (Reg.DRM_DERN st) (addG3 st c u)) (some st) (addG3 st c u) := by
    rw [← counted]
    rfl
  generalize rd (Reg.DRM_DERN st) (addG3 st c u) = n at effect
  have derated : Reg.DRM_DERN st ∉ evtRegs ∧ Reg.DRM_STAT st ∉ evtRegs ∧ Reg.DRM_DERN st ≠ Reg.DRM_STAT st := by
    simp only [evtRegs, List.mem_cons, List.not_mem_nil, or_false, Reg.DRM_DERN, Reg.DRM_STAT, Reg.EVT_NSEQ, Reg.EVT_STAT,
      Reg.EVT_EVT, Reg.EVT_LOST, Reg.EVT_UCVAL, Reg.EVT_UCWIN]
    omega
  obtain ⟨dern, stat, apart⟩ := derated
  have words : regsKept evtRegs (addG3 st c u) (gradeG3 st (some c) s) := effect ▸ (EventsOnly.refl _).record.regs
  have active : c ∈ g3Of st (addG3 st c u) := by
    show c ∈ Tbl.get [] (Tbl.put st (addCause c (g3Of st u)) u.evt.g3) st
    rw [Tbl.get_put_same]
    exact mem_addCause c _
  refine ⟨?_, ?_, ?_⟩
  · refine (words.fl dern _).trans ((fl_setF_ne apart ..).trans ?_)
    show fl (Reg.DRM_DERN st) ⟨0, 8⟩ u = _
    rw [← counted]
    refine (fl_setF _ _ (by decide) _ s).trans (Nat.mod_eq_of_lt ?_)
    exact (Nat.min_le_left ..).trans_lt (by decide)
  · rw [effect, g3Of_record]
    exact active
  · refine (words.on stat _).trans ((on_setB _ _ (by decide) (by decide) _ _).trans ?_)
    have some_ : addCause c (g3Of st u) ≠ [] := List.ne_nil_of_mem (mem_addCause c _)
    simpa using some_

/-! Held half-bridges (R158, R159): the safe state leaves the state that shows the hold. -/

theorem hbState_safeHb (h : Nat) (s : State) : hbState h (safeHb h s) = hbState h s := by
  unfold safeHb
  extract_lets lows cut t1 x t2 t3 k mine
  have counted : hbState h t1 = hbState h s :=
    each_induct (P := fun u => hbState h u = hbState h s) rfl
      (fun _ _ _ hu => (fl_setF_other _ _ _ (by decide) _ _).trans hu)
  have apart : Reg.PGN_HSTAT h ≠ Reg.PGN_HEVT h := by
    unfold Reg.PGN_HSTAT Reg.PGN_HEVT
    omega
  have shown : hbState h t3 = hbState h t1 :=
    (fl_setF_ne apart ..).trans ((fl_setF_other _ _ _ (by decide) _ _).trans (fl_setF_other _ _ _ (by decide) _ _))
  split
  · refine .trans ?_ (shown.trans counted)
    unfold hbState fl rdW
    rw [(legOff_frame _ t3).1]
  · exact shown.trans counted

/-- A half-bridge in use that is held is not running. -/
theorem hbState_holdHb {h : Nat} {s : State} (used : hbUsed h s = true) (cause : Nat) : hbState h (holdHb cause h s) ≠ 0 := by
  unfold holdHb
  rw [if_pos used]
  extract_lets run _ t1 t2
  have before : hbState h t2 = hbState h s := by
    refine (fl_setF_other _ _ _ (by decide) _ t1).trans ?_
    unfold t1 when
    split <;> rfl
  rw [hbState_safeHb]
  unfold when
  split
  · show fl (Reg.PGN_HSTAT h) Reg.PGN_HSTAT_STATE (setF (Reg.PGN_HSTAT h) Reg.PGN_HSTAT_STATE 1 t2) ≠ 0
    rw [fl_setF _ _ (by decide)]
    decide
  · rename_i still
    rw [before]
    simpa [run] using still

/-- A hold sets no half-bridge running. -/
theorem hbState_holdHb_of_held {h : Nat} {s : State} (held : hbState h s ≠ 0) (cause j : Nat) :
    hbState h (holdHb cause j s) ≠ 0 := by
  by_cases used : hbUsed j s = true
  · by_cases same : h = j
    · exact same ▸ hbState_holdHb (same ▸ used) cause
    · have apart : Reg.PGN_HSTAT h ∉ [Reg.PGN_HSTAT j, Reg.PGN_HEVT j] := by
        simp only [List.mem_cons, List.not_mem_nil, or_false, Reg.PGN_HSTAT, Reg.PGN_HEVT]
        omega
      exact fun runs => held ((regsKept.fl (holdHb_silent cause j s).regs apart _).symm.trans runs)
  · unfold holdHb
    rwa [if_neg used]

theorem hbState_holdMany {h cause : Nat} {hs : List Nat} {s : State} (bridges : ∀ j ∈ hs, j < 104) (listed : h ∈ hs)
    (used : hbUsed h s = true) : hbState h (holdMany cause hs s) ≠ 0 := by
  have held : hbState h (each (hs.filter (fun j => hbUsed j s)) (holdHb cause) s) ≠ 0 := by
    refine each_reaches (I := fun u => hbUsed h u = true) (P := fun u => hbState h u ≠ 0) used (fun j mem u hu => ?_)
      (List.mem_filter.2 ⟨listed, used⟩) (fun u hu => hbState_holdHb hu cause)
      (fun j _ u hu => hbState_holdHb_of_held hu cause j)
    exact ((holdHb_bridge cause (bridges j (List.mem_of_mem_filter mem)) u).hbUsed h).trans hu
  have sent : regsKept [] (each (hs.filter (fun j => hbUsed j s)) (holdHb cause) s) (holdMany cause hs s) :=
    .each (.refl _ _) (fun _ _ _ hu => hu.when (fun _ hv => hv.elsewhere))
  exact fun runs => held ((sent.fl List.not_mem_nil _).symm.trans runs)

/-- A Stage that loses its pulses holds its half-bridges (R162). -/
theorem hbState_pulsesOff {st h : Nat} {s : State} (mem : h ∈ hbsOf st s) (d : Nat) : hbState h (pulsesOff st d s) ≠ 0 := by
  unfold pulsesOff
  extract_lets was t1 t2
  have ended : Graded s t2 := ((Graded.refl s).setB (.pulses st)).when (fun _ hu => hu.record)
  have tracks : Graded s (each (instsOf st t2) trackIn t2) := ended.each (fun _ _ hu => hu.trackIn)
  have listed : h ∈ hbsOf st (each (instsOf st t2) trackIn t2) := by rwa [tracks.settings.hbsOf]
  have used := (Bool.and_eq_true_iff.1 (List.mem_filter.1 listed).2).1
  rw [← ended.settings.hbsOf] at mem
  exact hbState_holdMany (fun _ => lt_of_mem_hbsOf) mem used

/-- G5 against a Stage ends in the loss of its pulses (R208). -/
theorem gradeG5_eq_pulsesOff (st : Nat) (c : Option Cause) (s : State) :
    ∃ u, Graded s u ∧ gradeG5 st c s = pulsesOff st 2 u := by
  unfold gradeG5 gradeG5For
  extract_lets was t1 t2 _ t3 t4 t5 t6
  have locks : Graded s t1 := (Graded.refl s).setB .causes
  have noted : Graded s t2 := by
    cases c with
    | none => exact locks
    | some c => exact .setB locks.withEvt .causes
  have skipped : Graded s t3 := noted.withEvt
  exact ⟨_, skipped.setDrm.when (fun _ hu => hu.record), rfl⟩

theorem hbState_gradeG5 {st h : Nat} {s : State} (mem : h ∈ hbsOf st s) (c : Option Cause) :
    hbState h (gradeG5 st c s) ≠ 0 := by
  obtain ⟨u, graded, effect⟩ := gradeG5_eq_pulsesOff st c s
  rw [effect]
  exact hbState_pulsesOff (by rwa [graded.settings.hbsOf]) 2

/-- G5 against a list of Stages locks each. -/
theorem locked_gradeG5All {l : List Nat} {st : Nat} (stages : ∀ j ∈ l, j < 4) (listed : st ∈ l) (c : Option Cause) (s : State) :
    locked st (gradeG5All l c s) = true :=
  each_reaches (I := fun _ => True) (P := fun u => locked st u = true) trivial (fun _ _ _ => id) listed
    (fun _ _ => locked_gradeG5For (stages st listed) ..)
    (fun j mem u hu => ((Unreleased.refl u).gradeG5For (stages j mem)).locked st (stages st listed) hu)

/-- On a device that is not paired, G4 is G5 against every Stage (R209). -/
theorem gradeG4_of_unpaired {s : State} (alone : paired s = false) (c : Option Cause) :
    gradeG4 c s = gradeG5All (List.range 4) c s := by
  unfold gradeG4
  rw [if_neg (by simp [alone])]

/-- Settles O59: no reaction asks for room in the queue or in the ring. -/
theorem reactionsSurviveLostRecords : Obligations.ReactionsSurviveLostRecords := by
  refine ⟨?g3, ?g5, ?g4, ?index⟩
  case g3 => exact fun st c s => gradeG3_reacts st.isLt c s
  case g5 =>
    exact fun st c s => ⟨locked_gradeG5For st.isLt .., pulsesOn_gradeG5For st.isLt .., fun h mem => hbState_gradeG5 mem c⟩
  case g4 =>
    intro st c s alone
    rw [gradeG4_of_unpaired alone]
    exact locked_gradeG5All (fun _ => List.mem_range.1) (List.mem_range.2 st.isLt) c s
  case index =>
    exact fun value by_ s stored => ⟨exec_evtRidxWrite_bad stored, exec_evtRidxWrite_taken stored⟩

end Sys2Proof.Machine
end

section
/-! SUPPORT. The paths of the safety evaluator (R398, R399, R401): what they leave while they turn off and on and while it
locks out. -/

namespace Sys2Proof.Machine

/-- The evaluator's state beside the pairs, the feedback of Path B, the repeats of OFF and the SAFE_OFF pins. -/
def SafSt.standing (x : SafSt) : SafSt :=
  { x with pairs := [], fbPend := none, fbDis := none, offAt := 0, offNext := none, offHigh := false }

/-- The parts of the state that no path reaches. -/
def evaluated (s : State) := (s.lt, s.configured, s.cc, s.mem, SafSt.standing s.saf)

/-- The registers of the evaluator in which its functions and paths show, beside SAF_STAT. -/
def safShown : List Nat := Reg.SAF_EVT :: ((List.range 8).map Reg.SAF_PSTAT ++ (List.range 8).map Reg.SAF_PEVT)

/-- The registers in which the work of the paths shows, beside SAF_STAT. -/
def pathRegs : List Nat := safShown ++ Reg.EVT_G5CAUSE :: pulseRegs

theorem not_mem_pathRegs {a : Nat} (high : 0x40060000 ≤ a) (block : a / 2 ^ 16 ≠ 0x4013) (shown : a ∉ safShown) :
    a ∉ pathRegs := by
  have unit : a ∉ evtRegs := fun mem => by
    simp only [evtRegs, List.mem_cons, List.not_mem_nil, or_false, Reg.EVT_NSEQ, Reg.EVT_STAT, Reg.EVT_EVT, Reg.EVT_LOST,
      Reg.EVT_UCVAL, Reg.EVT_UCWIN] at mem
    omega
  have causes : a ≠ Reg.EVT_G5CAUSE := fun same => block (by rw [same]; decide)
  simp [pathRegs, shown, causes, not_mem_pulseRegs (.inl high) unit]

theorem stat_not_mem_pathRegs : Reg.SAF_STAT ∉ pathRegs := not_mem_pathRegs (by decide) (by decide) (by decide)

theorem pulseRegs_subset_pathRegs : pulseRegs ⊆ pathRegs := fun _ mem => List.mem_append_right _ (List.mem_cons_of_mem _ mem)

theorem safShown_subset_pathRegs : safShown ⊆ pathRegs := List.subset_append_left ..

theorem causes_mem_pathRegs : Reg.EVT_G5CAUSE ∈ pathRegs := List.mem_append_right _ (List.mem_cons_self ..)

/-- From `s` to `t` the paths of the evaluator have worked, with the listed flags of SAF_STAT: beside the parts that stand, no
record that waits is gone, and where the event unit had room it has. -/
structure Evaluates (flags : List Nat) (s t : State) : Prop where
  parts : evaluated t = evaluated s
  fbDis : s.saf.fbDis = none → t.saf.fbDis = none
  regs : regsKept (Reg.SAF_STAT :: pathRegs) s t
  stat : ∀ i, i ∉ flags → (rdW Reg.SAF_STAT t).getLsbD i = (rdW Reg.SAF_STAT s).getLsbD i
  waiting : ∀ p, Unnumbered p → waiting p s ≤ waiting p t
  room : HasRoom s → HasRoom t

namespace Evaluates

variable {l : List Nat} {s t u : State} {a i n st : Nat}

theorem refl (l : List Nat) (s : State) : Evaluates l s s := ⟨rfl, id, fun _ _ => rfl, fun _ _ => rfl, fun _ _ => le_rfl, id⟩

theorem trans (r : Evaluates l s t) (g : Evaluates l t u) : Evaluates l s u :=
  ⟨g.parts.trans r.parts, g.fbDis ∘ r.fbDis, r.regs.trans g.regs, fun j off => (g.stat j off).trans (r.stat j off),
    fun p hp => (r.waiting p hp).trans (g.waiting p hp), g.room ∘ r.room⟩

theorem mono {m : List Nat} (r : Evaluates l s t) (sub : l ⊆ m) : Evaluates m s t :=
  { r with stat := fun j off => r.stat j (fun mem => off (sub mem)) }

theorem lt (r : Evaluates l s t) : t.lt = s.lt := congrArg (·.1) r.parts
theorem mem (r : Evaluates l s t) : t.mem = s.mem := congrArg (·.2.2.2.1) r.parts
theorem standing (r : Evaluates l s t) : SafSt.standing t.saf = SafSt.standing s.saf := congrArg (·.2.2.2.2) r.parts

/-- A flag of SAF_STAT that no path shows. -/
theorem flag (r : Evaluates l s t) (off : i ∉ l) : on Reg.SAF_STAT ⟨i, 1⟩ t = on Reg.SAF_STAT ⟨i, 1⟩ s := by
  rw [on_flag, on_flag, r.stat i off]

theorem word (r : Evaluates l s t) (high : 0x40060000 ≤ a := by decide) (block : a / 2 ^ 16 ≠ 0x4013 := by decide)
    (shown : a ∉ Reg.SAF_STAT :: safShown := by decide) : rdW a t = rdW a s := by
  rw [List.mem_cons, not_or] at shown
  exact r.regs a (by simp [shown.1, not_mem_pathRegs high block shown.2])

theorem recs (r : Evaluates l s t) (src grade detail : Nat) (stg : Option Nat) :
    Machine.recs src grade detail stg s ≤ Machine.recs src grade detail stg t := by
  rw [recs_eq_waiting, recs_eq_waiting]
  exact r.waiting _ (unnumbered_recOf src grade detail stg)

/-- The settings of the half-bridges and their carriers stand. -/
theorem hbsOf (r : Evaluates l s t) (st : Nat) : hbsOf st t = hbsOf st s := by
  refine SettingsKept.hbsOf (fun a setting => r.regs a (fun mem => ?_)) st
  unfold Setting at setting
  simp only [pathRegs, safShown, pulseRegs, evtRegs, List.mem_append, List.mem_cons, List.not_mem_nil, List.mem_map, List.mem_range,
    mem_bridgeRegs, or_false, Reg.SAF_STAT, Reg.SAF_EVT, Reg.SAF_PSTAT, Reg.SAF_PEVT, Reg.EVT_G5CAUSE, Reg.EVT_NSEQ, Reg.EVT_STAT,
    Reg.EVT_EVT, Reg.EVT_LOST, Reg.EVT_UCVAL, Reg.EVT_UCWIN, Reg.PGN_SSTAT, Reg.STI_ISTAT, Reg.PGN_ACC, Reg.PGN_HEVT,
    Reg.PGN_CMPA, Reg.PGN_HSTAT] at mem
  omega

/-- A change of other parts of the state, in which the event unit and the registers stand. -/
theorem elsewhere (r : Evaluates l s t) (parts : evaluated u = evaluated t := by rfl)
    (fbDis : t.saf.fbDis = none → u.saf.fbDis = none := by exact id) (regs : u.regs = t.regs := by rfl)
    (evt : u.evt = t.evt := by rfl) : Evaluates l s u := by
  have same : ∀ b, rdW b u = rdW b t := fun b => by unfold rdW; rw [regs]
  refine r.trans ⟨parts, fbDis, fun b _ => same b, fun j _ => by rw [same], fun p _ => ?_, fun room => ?_⟩
  · unfold Machine.waiting; rw [evt]
  · exact room.of_eq (congrArg (·.2.1) parts) (congrArg (·.1) parts) (by rw [evt]) (by rw [evt]) (by rw [evt]) (same _)

theorem wrW (r : Evaluates l s t) (ha : a ∈ safShown) {w : Word} : Evaluates l s (wrW a w t) := by
  have apart : Reg.EVT_NSEQ ≠ a ∧ Reg.SAF_STAT ≠ a := by
    constructor
    all_goals
      rintro rfl
      revert ha
      decide
  refine r.trans ⟨rfl, id, ?_, fun j _ => ?_, fun _ _ => le_rfl, fun room => room.wrW apart.1⟩
  · exact (regsKept.refl _ t).wrW (List.mem_cons_of_mem _ (safShown_subset_pathRegs ha))
  · rw [rdW_wrW, if_neg apart.2]

/-- A flag of SAF_STAT is written. -/
theorem setStat (r : Evaluates l s t) (mem : i ∈ l) {b : Bool} : Evaluates l s (setB Reg.SAF_STAT ⟨i, 1⟩ b t) := by
  refine r.trans ⟨rfl, id, (regsKept.refl _ t).wrW (List.mem_cons_self ..), fun j off => ?_, fun _ _ => le_rfl,
    fun room => room.wrW (by decide)⟩
  by_cases small : j < 32
  · unfold setB setF
    rw [rdW_wrW, if_pos rfl, getLsbD_fldSet_flag _ _ small, if_neg (fun same : j = i => off (same ▸ mem))]
  · rw [BitVec.getLsbD_of_ge _ _ (not_lt.1 small), BitVec.getLsbD_of_ge _ _ (not_lt.1 small)]

/-- The shared reactions at work. -/
theorem graded (r : Evaluates l s t) (g : Graded t u) (f : GradeFramed t u) (kept : regsKept pathRegs t u) :
    Evaluates l s u := by
  refine r.trans ⟨?_, ?_, kept.mono (List.subset_cons_self ..), fun j _ => ?_, g.waiting, g.room⟩
  · rw [f.frame]; rfl
  · rw [f.frame]; exact id
  · rw [kept _ stat_not_mem_pathRegs]

theorem when (r : Evaluates l s t) {c : Bool} {f : State → State} (hf : ∀ u, Evaluates l s u → Evaluates l s (f u)) :
    Evaluates l s (when c f t) := by
  unfold Machine.when
  split
  · exact hf _ r
  · exact r

theorem each {α : Type} (r : Evaluates l s t) {xs : List α} {f : α → State → State}
    (hf : ∀ x ∈ xs, ∀ u, Evaluates l s u → Evaluates l s (f x u)) : Evaluates l s (each xs f t) := each_induct r hf

theorem record (r : Evaluates l s t) {src grade detail : Nat} {stg : Option Nat} :
    Evaluates l s (record src grade detail stg t) :=
  r.graded (Graded.refl t).record (GradeFramed.refl t).record ((regsKept.refl _ t).record pulseRegs_subset_pathRegs)

/-- The place of the records that follow. -/
theorem anchor (r : Evaluates l s t) {x : List Nat} : Evaluates l s { t with evt := { t.evt with anchor := x } } :=
  r.graded (Graded.refl t).withEvt (GradeFramed.refl t).withEvt (.elsewhere (.refl _ t))

theorem pulsesOff (r : Evaluates l s t) (small : st < 4) {d : Nat} : Evaluates l s (pulsesOff st d t) :=
  r.graded (Graded.refl t).pulsesOff ((GradeFramed.refl t).pulsesOff small)
    ((regsKept.refl _ t).pulsesOff pulseRegs_subset_pathRegs small)

theorem gradeG5 (r : Evaluates l s t) (small : st < 4) {c : Option Cause} : Evaluates l s (gradeG5 st c t) :=
  r.graded (Graded.refl t).gradeG5 ((GradeFramed.refl t).gradeG5 small)
    ((regsKept.refl _ t).gradeG5 pulseRegs_subset_pathRegs small causes_mem_pathRegs)

theorem gradeG5All (r : Evaluates l s t) {sts : List Nat} (stages : ∀ st ∈ sts, st < 4) {c : Option Cause} :
    Evaluates l s (gradeG5All sts c t) := r.each (fun st mem _ hu => hu.gradeG5 (stages st mem))

theorem legOff (r : Evaluates l s t) : Evaluates l s (legOff n t) :=
  r.graded (Graded.refl t).legOff (GradeFramed.refl t).legOff (.elsewhere (.refl _ t) (legOff_frame n t).1)

/-! The evaluator's own steps (R396, R398, R399). -/

theorem setSaf (r : Evaluates l s t) {f : SafSt → SafSt} (standing : SafSt.standing (f t.saf) = SafSt.standing t.saf := by rfl)
    (fbDis : t.saf.fbDis = none → (f t.saf).fbDis = none := by exact id) : Evaluates l s (setSaf f t) :=
  r.elsewhere (by unfold evaluated Machine.setSaf; rw [standing]) fbDis

theorem safFlag (r : Evaluates l s t) {F : Fld} : Evaluates l s (safFlag F t) := r.wrW (List.mem_cons_self ..)

theorem setPair (r : Evaluates l s t) {ch : Nat} (small : n < 8) {x : SafPair} : Evaluates l s (setPair ch n x t) := by
  have shown : Reg.SAF_PSTAT n ∈ safShown :=
    List.mem_cons_of_mem _ (List.mem_append_left _ (List.mem_map_of_mem (List.mem_range.2 small)))
  unfold Machine.setPair
  extract_lets t1
  have noted : Evaluates l s t1 := r.setSaf
  split
  · exact noted
  · exact (((((noted.wrW shown).wrW shown).wrW shown).wrW shown).wrW shown).wrW shown

theorem pairsShow (r : Evaluates l s t) : Evaluates l s (pairsShow t) :=
  r.each (fun _ mem _ hu => hu.setPair (List.mem_range.1 mem))

theorem sawOff (r : Evaluates l s t) : Evaluates l s (sawOff t) := r.each (fun _ _ _ hu => hu.elsewhere)

theorem sendOff (r : Evaluates l s t) {mask : Nat} : Evaluates l s (sendOff n mask t) := r.when (fun _ hu => hu.elsewhere)

theorem offAll (r : Evaluates l s t) : Evaluates l s (offAll t) :=
  .each r.setSaf (fun _ _ _ hu => hu.sendOff.elsewhere)

/-- After PATHA has been cleared come the flag, the OFFs and the end of the pulses. -/
theorem pathAEnded (r : Evaluates l s (setB Reg.SAF_STAT Reg.SAF_STAT_PATHA false
    (Machine.when (on Reg.SAF_STAT Reg.SAF_STAT_PATHA t) (Machine.each (List.range 8) Machine.legOff) t))) :
    Evaluates l s (pathAOff t) := by
  unfold Machine.pathAOff
  extract_lets was t1
  split
  · exact .each (.offAll (.sawOff (.safFlag r))) (fun _ mem _ hu => hu.pulsesOff (List.mem_range.1 (List.mem_of_mem_filter mem)))
  · exact r

theorem pathAOff (r : Evaluates l s t) (path : 1 ∈ l) : Evaluates l s (pathAOff t) :=
  .pathAEnded (.setStat (r.when (fun _ hu => hu.each (fun _ _ _ hv => hv.legOff))) path)

theorem pathBOff (r : Evaluates l s t) (path : 2 ∈ l) : Evaluates l s (pathBOff t) := by
  unfold Machine.pathBOff
  split
  · extract_lets t1
    have ended : Evaluates l s t1 := .setSaf (r.sawOff.setStat path) (fbDis := fun _ => rfl)
    exact .record ended.safFlag
  · exact r

theorem pathOff (r : Evaluates l s t) {ch : Nat} (pathA : 1 ∈ l) (pathB : 2 ∈ l) : Evaluates l s (pathOff ch t) := by
  unfold Machine.pathOff
  split
  · exact r.pathAOff pathA
  · exact r.pathBOff pathB

theorem offPinsStart (r : Evaluates l s t) : Evaluates l s (offPinsStart t) := by
  unfold Machine.offPinsStart offPinsSet
  split
  · exact r
  · exact .elsewhere (r.setSaf (f := fun p => { p with offNext := some (t.lt + 25 * us), offHigh := true }))

theorem pathOn (r : Evaluates l s t) {ch : Nat} (pathA : 1 ∈ l) (pathB : 2 ∈ l) : Evaluates l s (pathOn ch t) := by
  unfold Machine.pathOn
  split
  · exact r
  · split
    · exact r.setStat pathA
    · split
      · exact r
      · exact .offPinsStart (.setSaf (r.setStat pathB) (fbDis := fun _ => rfl))

theorem demand (r : Evaluates l s t) {ch : Nat} (small : n < 8) (pathA : 1 ∈ l) (pathB : 2 ∈ l) :
    Evaluates l s (demand ch n t) := by
  have shown : Reg.SAF_PEVT n ∈ safShown :=
    List.mem_cons_of_mem _ (List.mem_append_right _ (List.mem_map_of_mem (List.mem_range.2 small)))
  unfold Machine.demand
  extract_lets x x' delay t1 t2
  have noted : Evaluates l s t2 := .when (r.setPair small) (fun _ hu => .record (.safFlag (hu.wrW shown)))
  split
  · exact noted
  · exact noted.pathOff pathA pathB

end Evaluates

/-- A path that turns off is off. -/
theorem patha_pathAOff (s : State) : on Reg.SAF_STAT Reg.SAF_STAT_PATHA (pathAOff s) = false :=
  (Evaluates.pathAEnded (.refl [] _)).flag List.not_mem_nil |>.trans (on_setB _ _ (by decide) (by decide) _ _)

theorem pathb_pathBOff (s : State) : on Reg.SAF_STAT Reg.SAF_STAT_PATHB (pathBOff s) = false := by
  unfold pathBOff
  split
  · extract_lets t1
    have off : on Reg.SAF_STAT Reg.SAF_STAT_PATHB t1 = false := on_setB _ ⟨2, 1⟩ (by decide) (by decide) _ _
    exact ((Evaluates.refl [] t1).safFlag.record.flag List.not_mem_nil).trans off
  · rename_i off
    exact Bool.eq_false_iff.2 off

end Sys2Proof.Machine
end

section
/-! SUPPORT. A lock-out of the safety evaluator (R401, R402): what it brings, whatever the cause, and what it leaves. -/

namespace Sys2Proof.Machine

/-- The registers as a new lock-out leaves them: its flag, its cause, and that it stands. -/
def lockShown (cause pair : Nat) (s : State) : State :=
  setB Reg.SAF_STAT Reg.SAF_STAT_LOCKOUT true (wr Reg.SAF_LOCK (cause + 16 * pair) (safFlag Reg.SAF_EVT_LOCKOUT s))

/-- A new lock-out: it shows, the paths turn off, it is recorded, and the Stages with half-bridges get a G5. -/
theorem lockOut_of_open {s : State} (open_ : lockedOut s = false) (cause pair : Nat) :
    lockOut cause pair s = (fun t => gradeG5All ((List.range 4).filter (fun st => !(hbsOf st t).isEmpty)) (some ⟨92, 0⟩) t)
      (record 92 5 cause none (pathBOff (pathAOff (pairsShow (lockShown cause pair s))))) := by
  unfold lockOut when
  simp only [open_, Bool.not_false, if_true]
  rfl

/-- After it shows, only the paths and the grades work. -/
theorem lockOut_evaluates {s : State} (open_ : lockedOut s = false) (cause pair : Nat) :
    Evaluates [1, 2] (lockShown cause pair s) (lockOut cause pair s) := by
  rw [lockOut_of_open open_]
  refine .gradeG5All (.record (.pathBOff (.pathAOff (.pairsShow (.refl _ _)) ?_) ?_))
    (fun _ mem => List.mem_range.1 (List.mem_of_mem_filter mem))
  all_goals decide

/-- A flag of SAF_STAT other than of the paths and of the lock-out itself. -/
theorem flag_lockOut {s : State} (open_ : lockedOut s = false) (cause pair : Nat) {i : Nat} (paths : i ∉ [1, 2]) (other : i ≠ 5) :
    on Reg.SAF_STAT ⟨i, 1⟩ (lockOut cause pair s) = on Reg.SAF_STAT ⟨i, 1⟩ s := by
  refine ((lockOut_evaluates open_ cause pair).flag paths).trans ?_
  unfold on lockShown
  refine congrArg (· != 0) ((fl_setF_other _ ⟨i, 1⟩ ⟨5, 1⟩ (by dsimp only; omega) _ _).trans (congrArg (fldGet _) ?_))
  exact (rdW_wr_ne (by decide) ..).trans (rdW_setF_ne (by decide) ..)

theorem hbsOf_lockShown (cause pair st : Nat) (s : State) : hbsOf st (lockShown cause pair s) = hbsOf st s := by
  refine SettingsKept.hbsOf (fun a setting => ?_) st
  have apart : a ≠ Reg.SAF_STAT ∧ a ≠ Reg.SAF_LOCK ∧ a ≠ Reg.SAF_EVT := by
    unfold Setting at setting
    unfold Reg.SAF_STAT Reg.SAF_LOCK Reg.SAF_EVT
    omega
  obtain ⟨stat, lock, evt⟩ := apart
  exact (rdW_setF_ne stat ..).trans ((rdW_wr_ne lock ..).trans (rdW_setF_ne evt ..))

theorem hasRoom_lockShown {s : State} (room : HasRoom s) (cause pair : Nat) : HasRoom (lockShown cause pair s) :=
  ((room.wrW (by decide)).wrW (by decide)).wrW (by decide)

/-- What a lock-out of a cause ends in: it shows with its cause, both paths are off, EV92 of grade 5 is recorded, and every
Stage with half-bridges is locked. -/
abbrev LocksOut (cause : Nat) (s t : State) : Prop :=
  lockedOut t = true ∧ rd Reg.SAF_LOCK t = cause ∧ on Reg.SAF_STAT Reg.SAF_STAT_PATHA t = false
    ∧ on Reg.SAF_STAT Reg.SAF_STAT_PATHB t = false ∧ recorded 92 5 cause none s t
    ∧ (∀ st : Fin 4, hbsOf st s ≠ [] → locked st t = true) ∧ t.mem = s.mem

/-- A lock-out where none stands, after other work of the evaluator (R401). -/
theorem lockOut_locksOut_of_evaluates {l : List Nat} {s u : State} (r : Evaluates l s u) (configured : s.configured = true)
    (open_ : lockedOut u = false) {cause : Nat} (small : cause < 16) : LocksOut cause s (lockOut cause 0 u) := by
  have after := lockOut_evaluates open_ cause 0
  have effect := lockOut_of_open open_ cause 0
  generalize turned : pathBOff (pathAOff (pairsShow (lockShown cause 0 u))) = v at effect
  have before : Evaluates [1, 2] (lockShown cause 0 u) v :=
    turned ▸ (((Evaluates.refl _ _).pairsShow.pathAOff (by decide)).pathBOff (by decide))
  have stages : ∀ st ∈ (List.range 4).filter (fun st => !(Machine.hbsOf st (record 92 5 cause none v)).isEmpty), st < 4 :=
    fun _ mem => List.mem_range.1 (List.mem_of_mem_filter mem)
  have last : Evaluates [] (record 92 5 cause none v) (lockOut cause 0 u) := effect ▸ (Evaluates.refl _ _).gradeG5All stages
  have pathB : Evaluates [2] (pathAOff (pairsShow (lockShown cause 0 u))) (lockOut cause 0 u) :=
    .trans (.record (turned ▸ (Evaluates.refl _ _).pathBOff (by decide))) (last.mono (by simp))
  refine ⟨?_, ?_, ?_, ?_, fun room => ?_, fun st used => ?_, ?_⟩
  · exact (after.flag (by decide)).trans (on_setB _ _ (by decide) (by decide) _ _)
  · refine (congrArg BitVec.toNat (after.word.trans (rdW_setF_ne (by decide) ..))).trans ((rd_wr ..).trans ?_)
    rw [if_pos rfl]
    omega
  · exact (pathB.flag (by decide)).trans (patha_pathAOff _)
  · exact (((Evaluates.refl [] v).record.trans last).flag (by decide)).trans (turned ▸ pathb_pathBOff _)
  · have waits : recs 92 5 cause none s ≤ recs 92 5 cause none v := (r.recs ..).trans (before.recs ..)
    have room' : HasRoom v := before.room (hasRoom_lockShown (r.room (.of_roomy configured room)) cause 0)
    exact waits.trans_lt ((room'.recs_lt ..).trans_le (last.recs ..))
  · rw [effect]
    refine locked_gradeG5All stages (List.mem_filter.2 ⟨List.mem_range.2 st.isLt, ?_⟩) _ _
    rw [(before.record).hbsOf, hbsOf_lockShown, r.hbsOf, Bool.not_eq_true', List.isEmpty_eq_false_iff]
    exact used
  · exact after.mem.trans r.mem

/-- A lock-out where none stands. -/
theorem lockOut_locksOut {s : State} (configured : s.configured = true) (open_ : lockedOut s = false) {cause : Nat}
    (small : cause < 16) : LocksOut cause s (lockOut cause 0 s) := lockOut_locksOut_of_evaluates (.refl [] s) configured open_ small

theorem configured_of_safOn {s : State} (used : safOn s = true) : s.configured = true := (Bool.and_eq_true_iff.1 used).1

/-! The paths on (R398). -/

/-- A path that turns on leaves every register but SAF_STAT. -/
theorem pathOn_regs (ch : Nat) (s : State) : regsKept [Reg.SAF_STAT] s (pathOn ch s) := by
  have pins : ∀ u, (offPinsStart u).regs = u.regs := fun u => by
    unfold offPinsStart offPinsSet
    split <;> rfl
  unfold pathOn
  split
  · exact .refl _ s
  · split
    · exact (regsKept.refl _ s).wrW (by simp)
    · split
      · exact .refl _ s
      · exact .elsewhere ((regsKept.refl _ s).wrW (by simp)) (pins _)

end Sys2Proof.Machine
end

section
/-! SUPPORT. The arming of the safety evaluator (R404) and the Tumble registers (R217, R220), and O56. -/

namespace Sys2Proof.Machine

/-! The steps of arming, by name. -/

/-- A pair of a channel as arming begins it: its function's first state, and the discrepancy time where its inputs differ. -/
def armPair (first i : Nat) (s : State) : State :=
  let x := pairOf (i / 8) (i % 8) s
  setPair (i / 8) (i % 8) { x with state := if safHand (i % 8) s then 0 else first,
                                   disc := if x.a != x.b then some s.lt else none } s

/-- The first state of a stop function: WAITRESET where the configuration asks for a reset. -/
def armFirst (s : State) : Nat := if bitAt Reg.SAF_CFG 1 s then 2 else 0

def armPairs (s : State) : State := each ((List.range 16).filter (fun i => safFunc (i % 8) s != 0)) (armPair (armFirst s)) s

/-- ARMED shows. -/
def armShown (s : State) : State := setB Reg.SAF_STAT Reg.SAF_STAT_ARMED true (setSaf (fun p => { p with armAt := none }) (armPairs s))

/-- The stop inputs that do not permit. -/
def armWaits (s : State) : List Nat := ((List.range 8).filter (fun n => safStop n s)).filter (fun n => !armReady n s)

/-- A pair that a channel counts open. -/
def opened (n : Nat) (s : State) : Bool := !bothClosed (pairOf 0 n s) || !bothClosed (pairOf 1 n s)

/-- The demand of a stop input in both channels. -/
def demandBoth (n : Nat) (s : State) : State := demand 1 n (demand 0 n s)

/-- The evaluator is armed. -/
def arms (s : State) : State :=
  pathOn 1 (pathOn 0 (pairsShow (each (armWaits s) demandBoth (jtagArmed (tumbleStop (armShown s))))))

theorem armComplete_of_differ {a : Nat} {same : Bool} {s : State} (begun : s.saf.armAt = some a) (used : safOn s = true)
    (off : armed s = false) (open_ : lockedOut s = false) (differ : (!same || !copiesSame s) = true) :
    armComplete same s = lockOut 7 0 (setSaf (fun p => { p with differ := true }) s) := by
  unfold armComplete
  simp [begun, used, off, open_, differ]

theorem armComplete_of_high {a : Nat} {s : State} (begun : s.saf.armAt = some a) (used : safOn s = true)
    (off : armed s = false) (open_ : lockedOut s = false) (alike : copiesSame s = true) (high : s.saf.armLow = none) :
    armComplete true s = if elapsed 1 a (tfbEu s) s then lockOut 7 0 s else s := by
  unfold armComplete
  simp [begun, used, off, open_, alike, high]

theorem armComplete_of_low {a u : Nat} {s : State} (begun : s.saf.armAt = some a) (used : safOn s = true)
    (off : armed s = false) (open_ : lockedOut s = false) (alike : copiesSame s = true) (low : s.saf.armLow = some u) :
    armComplete true s = if !(armWaits s).isEmpty && !decide (u + tpperEu s ≤ s.lt) then s
      else if (armWaits s).any (fun n => !opened n s) then lockOut 7 0 s else arms s := by
  unfold armComplete
  simp only [begun, used, off, open_, alike, low, Bool.not_true, Bool.or_false, Bool.false_eq_true, if_false]
  rfl

/-- Arming is not yet through, fails, or arms the evaluator. -/
theorem armComplete_cases (same : Bool) {s : State} (off : armed s = false) : armComplete same s = s ∨
    safOn s = true ∧ lockedOut s = false ∧ (armComplete same s = arms s ∨
      ∃ differ : Bool, armComplete same s = lockOut 7 0 (setSaf (fun p => { p with differ := differ }) s)) := by
  cases begun : s.saf.armAt with
  | none => exact .inl (by unfold armComplete; simp [begun])
  | some a =>
    by_cases ready : safOn s = true ∧ lockedOut s = false
    · obtain ⟨used, open_⟩ := ready
      by_cases differ : (!same || !copiesSame s) = true
      · exact .inr ⟨used, open_, .inr ⟨true, armComplete_of_differ begun used off open_ differ⟩⟩
      · simp only [Bool.or_eq_true, Bool.not_eq_true', not_or, Bool.not_eq_false] at differ
        obtain ⟨rfl, alike⟩ := differ
        cases low : s.saf.armLow with
        | none =>
          rw [armComplete_of_high begun used off open_ alike low]
          split
          · exact .inr ⟨used, open_, .inr ⟨s.saf.differ, rfl⟩⟩
          · exact .inl rfl
        | some u =>
          rw [armComplete_of_low begun used off open_ alike low]
          split_ifs
          · exact .inl rfl
          · exact .inr ⟨used, open_, .inr ⟨s.saf.differ, rfl⟩⟩
          · exact .inr ⟨used, open_, .inl rfl⟩
    · refine .inl ?_
      unfold armComplete
      simp only [begun]
      rw [if_pos]
      simpa [off, or_iff_not_imp_left] using ready

/-! What arming leaves. -/

theorem armPairs_evaluates (s : State) : Evaluates [] s (armPairs s) :=
  (Evaluates.refl [] s).each (fun i _ _ hu => hu.setPair (Nat.mod_lt _ (by decide)))

theorem jtagArmed_evaluates (s : State) : Evaluates [] s (jtagArmed s) := by
  unfold jtagArmed
  split
  · exact (Evaluates.refl _ s).elsewhere
  · exact .refl _ s

theorem demands_evaluates {l : List Nat} (small : ∀ n ∈ l, n < 8) (s : State) : Evaluates [1, 2] s (each l demandBoth s) :=
  (Evaluates.refl _ s).each (fun n mem _ hu => .demand (.demand hu (small n mem) (by decide) (by decide)) (small n mem)
    (by decide) (by decide))

theorem lt_of_mem_armWaits {n : Nat} {s : State} (mem : n ∈ armWaits s) : n < 8 :=
  List.mem_range.1 (List.mem_of_mem_filter (List.mem_of_mem_filter mem))

/-- After the perturbations have stopped, only the paths and the demands work. -/
theorem arms_evaluates (s : State) : Evaluates [1, 2] (tumbleStop (armShown s)) (arms s) := by
  have demanded : Evaluates [1, 2] (tumbleStop (armShown s)) (each (armWaits s) demandBoth (jtagArmed (tumbleStop (armShown s)))) :=
    ((jtagArmed_evaluates _).mono (by simp)).trans (demands_evaluates (fun _ => lt_of_mem_armWaits) _)
  exact ((demanded.pairsShow.pathOn (by decide) (by decide)).pathOn (by decide) (by decide))

/-! The Tumble registers. -/

/-- The registers of the perturbations as they stop. -/
def tumbleShown (s : State) : State :=
  setB Reg.TMB_STAT Reg.TMB_STAT_SAFLOCK true (setB Reg.TMB_STAT Reg.TMB_STAT_ACTIVE false (wr Reg.TMB_CTL 0 s))

theorem tumbleStop_eq (s : State) : tumbleStop s = record 95 0 0 none (tumbleShown s) := rfl

theorem tumbleStop_words (s : State) : rd Reg.TMB_CTL (tumbleStop s) = 0 ∧
    on Reg.TMB_STAT Reg.TMB_STAT_ACTIVE (tumbleStop s) = false ∧ on Reg.TMB_STAT Reg.TMB_STAT_SAFLOCK (tumbleStop s) = true := by
  have events : regsKept evtRegs (tumbleShown s) (tumbleStop s) := (EventsOnly.refl _).record.regs
  refine ⟨?_, ?_, ?_⟩
  · refine (events.rd (by decide)).trans ?_
    refine (congrArg BitVec.toNat ((rdW_setF_ne (by decide) ..).trans (rdW_setF_ne (by decide) ..))).trans ((rd_wr ..).trans ?_)
    rw [if_pos rfl, Nat.zero_mod]
  · refine (events.on (by decide) _).trans ((congrArg (· != 0) (fl_setF_other _ _ _ (by decide) _ _)).trans ?_)
    exact on_setB Reg.TMB_STAT Reg.TMB_STAT_ACTIVE (by decide) (by decide) false _
  · exact (events.on (by decide) _).trans (on_setB _ _ (by decide) (by decide) _ _)

/-- SAF_STAT as the evaluator arms: ARMED shows, and no other flag changes. -/
theorem stat_tumbleStop (s : State) (F : Fld) : on Reg.SAF_STAT F (tumbleStop s) = on Reg.SAF_STAT F s := by
  have events : regsKept evtRegs (tumbleShown s) (tumbleStop s) := (EventsOnly.refl _).record.regs
  refine (events.on (by decide) F).trans (congrArg (fun w => fldGet F w != 0) ?_)
  exact (rdW_setF_ne (by decide) ..).trans ((rdW_setF_ne (by decide) ..).trans (rdW_wr_ne (by decide) ..))

/-- When the evaluator arms, the perturbations stop and EV95 is recorded (R217). -/
theorem arms_tumble {s : State} (configured : s.configured = true) : rd Reg.TMB_CTL (arms s) = 0 ∧
    on Reg.TMB_STAT Reg.TMB_STAT_ACTIVE (arms s) = false ∧ on Reg.TMB_STAT Reg.TMB_STAT_SAFLOCK (arms s) = true ∧
    recorded 95 0 0 none s (arms s) := by
  obtain ⟨ctl, active, saflock⟩ := tumbleStop_words (armShown s)
  have after := arms_evaluates s
  have stat : rdW Reg.TMB_STAT (arms s) = rdW Reg.TMB_STAT (tumbleStop (armShown s)) := after.word
  refine ⟨?_, ?_, ?_, fun room => ?_⟩
  · exact (congrArg BitVec.toNat after.word).trans ctl
  · exact (congrArg (fun w => fldGet _ w != 0) stat).trans active
  · exact (congrArg (fun w => fldGet _ w != 0) stat).trans saflock
  · have begun := armPairs_evaluates s
    have shown : HasRoom (tumbleShown (armShown s)) := by
      have paired : HasRoom (setSaf (fun p => { p with armAt := none }) (armPairs s)) :=
        (begun.room (.of_roomy configured room)).of_eq
      exact (((paired.wrW (by decide)).wrW (by decide)).wrW (by decide)).wrW (by decide)
    exact (begun.recs 95 0 0 none).trans_lt ((shown.recs_lt ..).trans_le (after.recs ..))

/-! Writes of the TMB registers. -/

theorem exec_tmbWrite {addr value : BitVec 32} {by_ : Fin 19} {s : State} (stored : mayStore addr.toNat by_ s = true) :
    exec (.tmbWrite addr value by_) s = .next (tmbWrite addr.toNat value.toNat s) := congrArg Host.Outcome.next (if_pos stored)

theorem tmbWrite_refused {a v : Nat} {s : State} (fields : tmbMask a ≠ 0)
    (refused : testMode s = false ∨ on Reg.SAF_STAT Reg.SAF_STAT_ARMED s = true ∨ a = Reg.TMB_SLICE ∧ v / 2 ^ 5 % 4 = 3) :
    tmbWrite a v s = record 95 0 0 none s := by
  unfold tmbWrite
  rw [if_neg fields, if_pos]
  simpa [or_assoc] using refused

/-- A refused write is EV95, and nothing else (R217). -/
theorem tmbWrite_refused_effect {a v : Nat} {s : State} (fields : tmbMask a ≠ 0)
    (refused : testMode s = false ∨ on Reg.SAF_STAT Reg.SAF_STAT_ARMED s = true ∨ a = Reg.TMB_SLICE ∧ v / 2 ^ 5 % 4 = 3) :
    recorded 95 0 0 none s (tmbWrite a v s) ∧ regsKept evtRegs s (tmbWrite a v s) ∧ (tmbWrite a v s).mem = s.mem := by
  rw [tmbWrite_refused fields refused]
  exact ⟨recs_record_lt 95 0 0 none, (EventsOnly.refl s).record.regs, by rw [(EventsOnly.refl s).record.frame]⟩

theorem tmbWrite_taken {a v : Nat} {s : State} (fields : tmbMask a ≠ 0) (test : testMode s = true)
    (off : on Reg.SAF_STAT Reg.SAF_STAT_ARMED s = false) (kind : a = Reg.TMB_SLICE → v / 2 ^ 5 % 4 ≠ 3) :
    tmbWrite a v s = (fun t => setB Reg.TMB_STAT Reg.TMB_STAT_ACTIVE (rd Reg.TMB_CTL t != 0) t) (wr a (v &&& tmbMask a) s) := by
  unfold tmbWrite
  rw [if_neg fields, if_neg]
  simpa [test, off] using kind

/-- TMB_STAT is none of the registers with fields to write. -/
theorem ne_tmbStat_of_fields {a : Nat} (fields : tmbMask a ≠ 0) : a ≠ Reg.TMB_STAT := by
  rintro rfl
  exact fields (by decide)

/-- Settles O56: a write is taken or refused by its state, and arming stops the perturbations before the paths turn on. -/
theorem tumbleWritesAndArming : Obligations.TumbleWritesAndArming := by
  refine ⟨?taken, ?refused, ?kind, ?arming⟩
  case taken =>
    intro addr value by_ s stored fields test off kind
    have effect := tmbWrite_taken fields test off kind
    generalize written : wr addr.toNat (value.toNat &&& tmbMask addr.toNat) s = u at effect
    have apart := ne_tmbStat_of_fields fields
    refine ⟨_, exec_tmbWrite stored, ?_, ?_, ?_, ?_⟩
    · rw [effect]
      refine (congrArg BitVec.toNat (rdW_setF_ne apart ..)).trans ?_
      rw [← written]
      refine (rd_wr ..).trans ?_
      rw [if_pos rfl]
      exact Nat.mod_eq_of_lt (Nat.and_le_left.trans_lt value.isLt)
    · rw [effect]
      refine (on_setB _ _ (by decide) (by decide) _ _).trans (congrArg (· != 0) ?_)
      exact (congrArg BitVec.toNat (rdW_setF_ne (by decide) ..)).symm
    · rw [effect, ← written]
      exact ((regsKept.refl _ s).wrW (by simp)).wrW (by simp)
    · rw [effect, ← written]
      rfl
  case refused =>
    intro addr value by_ s stored fields refused
    exact ⟨_, exec_tmbWrite stored, tmbWrite_refused_effect fields (refused.imp_right .inl)⟩
  case kind =>
    intro addr value by_ s stored slice kind
    exact ⟨_, exec_tmbWrite stored, tmbWrite_refused_effect (by rw [slice]; decide) (.inr (.inr ⟨slice, kind⟩))⟩
  case arming =>
    intro same s off
    refine ⟨_, rfl, fun on_ => ?_⟩
    obtain stands | ⟨used, open_, through | ⟨differ, fails⟩⟩ := armComplete_cases same off
    · exact absurd (on_.symm.trans (stands ▸ off)) (by decide)
    · rw [through]
      exact arms_tumble (configured_of_safOn used)
    · have stands : armed (lockOut 7 0 (setSaf (fun p => { p with differ := differ }) s)) = armed s :=
        flag_lockOut (s := setSaf (fun p => { p with differ := differ }) s) open_ 7 0 (i := 0) (by decide) (by decide)
      exact absurd (on_.symm.trans ((congrArg armed fails).trans (stands.trans off))) (by decide)

end Sys2Proof.Machine
end

section
/-! SUPPORT. The checks of the evaluator's channels (R391), the feedback of Path B (R400), the repeats of OFF (R398) and the
refused reset (R403). -/

namespace Sys2Proof.Machine

/-! The channels (R391). -/

/-- A state word reaches channel `ch`, where `n` in a row differ. -/
def exchanged (ch n : Nat) (s : State) : State :=
  let b := s.saf.hbOut.testBit (1 - ch)
  setSaf (fun p => { p with mis := Tbl.put ch n p.mis, wordAt := Tbl.put ch s.lt p.wordAt,
                            hbOut := setBit p.hbOut (1 - ch) (!b), hbIn := setBit p.hbIn ch b,
                            beat := if b = p.hbIn.testBit ch then p.beat else Tbl.put ch s.lt p.beat,
                            beatBad := if b = p.hbIn.testBit ch then p.beatBad else setBit p.beatBad ch false }) s

theorem mis_exchanged (d ch n : Nat) (s : State) : Tbl.get d (exchanged ch n s).saf.mis ch = n := Tbl.get_put_same ..

/-- A heartbeat that has toggled is a beat. -/
theorem beat_exchanged {ch n : Nat} {s : State} (toggled : s.saf.hbOut.testBit (1 - ch) ≠ s.saf.hbIn.testBit ch) :
    Tbl.get 0 (exchanged ch n s).saf.beat ch = s.lt ∧ (exchanged ch n s).saf.beatBad.testBit ch = false := by
  unfold exchanged setSaf
  simp only [if_neg toggled]
  exact ⟨Tbl.get_put_same .., by rw [testBit_setBit, if_pos rfl]⟩

theorem exchange_of_due {ch : Nat} {s : State} (used : safOn s = true) (due : wordDue ch s = true) : exchange ch s
    = (fun n => if n = 9 then lockOut 4 0 (exchanged ch n s) else exchanged ch n s)
      (if stateWord 0 s = stateWord 1 s then 0 else Tbl.get 0 s.saf.mis ch + 1) := by
  unfold exchange
  rw [if_neg (by simp [used, due])]
  rfl

theorem exchange_of_early {ch : Nat} {s : State} (early : wordDue ch s = false) : exchange ch s = s := by
  unfold exchange
  simp [early]

/-- A heartbeat of the other channel found missing. -/
def unbeaten (ch : Nat) (s : State) : State := setSaf (fun p => { p with beatBad := setBit p.beatBad ch true }) s

theorem beatBad_unbeaten (ch : Nat) (s : State) : (unbeaten ch s).saf.beatBad.testBit ch = true :=
  (testBit_setBit s.saf.beatBad ch ch true).trans (if_pos rfl)

theorem beatTimeout_of_late {ch : Nat} {s : State} (used : safOn s = true) (good : s.saf.beatBad.testBit ch = false)
    (late : elapsed ch (max s.cc (Tbl.get s.cc s.saf.beat ch)) (100 * us) s = true) : beatTimeout ch s
    = lockOut 5 0 (unbeaten ch s) := by
  unfold beatTimeout
  rw [if_pos (by simp [used, good, late])]
  rfl

theorem beatTimeout_of_early {ch : Nat} {s : State}
    (early : elapsed ch (max s.cc (Tbl.get s.cc s.saf.beat ch)) (100 * us) s = false) : beatTimeout ch s = s := by
  unfold beatTimeout
  simp [early]

/-- A measurement of the other channel's clock, found bad or not. -/
def measured (ch : Nat) (bad : Bool) (s : State) : State :=
  setSaf (fun p => { p with clkBad := setBit p.clkBad ch bad, clkAt := Tbl.put ch s.lt p.clkAt }) s

theorem clkBad_measured (ch : Nat) (bad : Bool) (s : State) : (measured ch bad s).saf.clkBad.testBit ch = bad :=
  (testBit_setBit ..).trans (if_pos rfl)

theorem clockCheck_of_due {ch : Nat} {ppm : Int} {s : State} (used : safOn s = true)
    (due : elapsed ch (Tbl.get s.cc s.saf.clkAt ch) ms s = true) : clockCheck ch ppm s
    = if 100000 < ppm.natAbs then lockOut 6 0 (measured ch true s) else measured ch false s := by
  unfold clockCheck
  rw [if_neg (by simp [used, due])]
  by_cases bad : 100000 < ppm.natAbs <;> simp [bad, measured]

/-- A lock-out leaves what the channels have found. -/
theorem found_lockOut {s : State} (open_ : lockedOut s = false) (cause pair : Nat) :
    (lockOut cause pair s).saf.beatBad = s.saf.beatBad ∧ (lockOut cause pair s).saf.clkBad = s.saf.clkBad ∧
      (lockOut cause pair s).saf.differ = s.saf.differ := by
  have kept := (lockOut_evaluates open_ cause pair).standing
  have beats := congrArg SafSt.beatBad kept
  have clocks := congrArg SafSt.clkBad kept
  have copies := congrArg SafSt.differ kept
  exact ⟨beats, clocks, copies⟩

/-- A lock-out leaves the records that wait. -/
theorem recs_lockOut {s : State} (open_ : lockedOut s = false) (cause pair src grade detail : Nat) (stg : Option Nat) :
    recs src grade detail stg s ≤ recs src grade detail stg (lockOut cause pair s) :=
  (lockOut_evaluates open_ cause pair).recs src grade detail stg

/-! The feedback of Path B (R400). -/

/-- EV94 with the pin whose feedback is wrong, and the place of the records behind it. -/
def fbNoted (s : State) : State :=
  let u := record 94 0 (fbWrong s) none (safFlag Reg.SAF_EVT_FBFAULT s)
  { u with evt := { u.evt with anchor := recKey 94 (fbWrong s) u } }

theorem fbFault_eq (s : State) : ∃ x, fbFault s = { lockOut 3 0 (fbNoted s) with
    evt := { (lockOut 3 0 (fbNoted s)).evt with anchor := x } } := ⟨_, rfl⟩

theorem fbNoted_evaluates (s : State) : Evaluates [] s (fbNoted s) := (Evaluates.refl _ s).safFlag.record.anchor

theorem recs_fbNoted {s : State} (room : HasRoom s) :
    recs 94 0 (fbWrong s) none s < recs 94 0 (fbWrong s) none (fbNoted s) := (room.wrW (by decide)).recs_lt ..

/-- Wrong feedback is EV94 with the pin, and locks out. -/
theorem fbFault_effect {s : State} (configured : s.configured = true) (open_ : lockedOut s = false) :
    (s.saf.fbDis = none → (fbFault s).saf.fbDis = none) ∧ recorded 94 0 (fbWrong s) none s (fbFault s) ∧
      LocksOut 3 s (fbFault s) := by
  obtain ⟨x, effect⟩ := fbFault_eq s
  have noted := fbNoted_evaluates s
  have open' : lockedOut (fbNoted s) = false := (noted.flag List.not_mem_nil).trans open_
  rw [effect]
  refine ⟨fun none_ => ?_, fun room => ?_, ?_⟩
  · exact (lockOut_evaluates open' 3 0).fbDis (noted.fbDis none_)
  · exact (recs_fbNoted (.of_roomy configured room)).trans_le (recs_lockOut open' ..)
  · exact lockOut_locksOut_of_evaluates noted configured open' (by decide)

theorem fbVerified_of_on {s : State} (on_ : on Reg.SAF_STAT Reg.SAF_STAT_PATHB s = true) :
    fbVerified s = { s with saf := { s.saf with fbPend := none, fbDis := none } } := if_pos on_

/-- The evaluator's state as a verified turn-off restarts the proof count. -/
def proofRestarted (s : State) : State :=
  setSaf (fun p => { p with fbPend := none, fbDis := none, proofAt := s.lt }) s

theorem fbVerified_of_off {s : State} (off : on Reg.SAF_STAT Reg.SAF_STAT_PATHB s = false) : fbVerified s
    = setB Reg.SAF_STAT Reg.SAF_STAT_PROOFDUE false (wr Reg.SAF_PROOF 0 (proofRestarted s)) := by
  have stands : ¬ on Reg.SAF_STAT Reg.SAF_STAT_PATHB (setSaf (fun p => { p with fbPend := none, fbDis := none }) s) = true :=
    Bool.eq_false_iff.1 off
  exact if_neg stands

theorem fbVerified_regs (s : State) : regsKept [Reg.SAF_PROOF, Reg.SAF_STAT] s (fbVerified s) := by
  unfold fbVerified
  extract_lets t
  have noted : regsKept [Reg.SAF_PROOF, Reg.SAF_STAT] s t := .elsewhere (.refl _ s)
  split
  · exact noted
  · exact ((noted.elsewhere.wrW (by simp)).wrW (by simp))

/-- A verified turn-off restarts the proof count, and leaves every other flag of SAF_STAT (R400). -/
theorem fbVerified_effect {s : State} (off : on Reg.SAF_STAT Reg.SAF_STAT_PATHB s = false) :
    rd Reg.SAF_PROOF (fbVerified s) = 0 ∧ on Reg.SAF_STAT Reg.SAF_STAT_PROOFDUE (fbVerified s) = false ∧
      ∀ i, i < 6 → on Reg.SAF_STAT ⟨i, 1⟩ (fbVerified s) = on Reg.SAF_STAT ⟨i, 1⟩ s := by
  rw [fbVerified_of_off off]
  refine ⟨?_, on_setB _ _ (by decide) (by decide) _ _, fun i below => ?_⟩
  · refine (congrArg BitVec.toNat (rdW_setF_ne (by decide) ..)).trans ((rd_wr ..).trans ?_)
    rw [if_pos rfl, Nat.zero_mod]
  · refine congrArg (· != 0) ((fl_setF_other _ ⟨i, 1⟩ ⟨6, 1⟩ (by dsimp only; omega) _ _).trans (congrArg (fldGet _) ?_))
    exact rdW_wr_ne (by decide) ..

theorem fbTimeout_of_due {d : Nat} {s : State} (used : safOn s = true) (pend : s.saf.fbPend = some d)
    (due : elapsed 1 d (tfbEu s) s = true) : fbTimeout s
    = if fbRight s then fbVerified s else fbFault (setSaf (fun p => { p with fbPend := none }) s) := by
  unfold fbTimeout
  simp [pend, used, due]

theorem fbDisagree_of_some {d : Nat} {s : State} (since : s.saf.fbDis = some d) : fbDisagree s
    = if safOn s && elapsed 1 d ms s then fbFault (setSaf (fun p => { p with fbDis := none }) s) else s := by
  unfold fbDisagree
  rw [since]

/-- The flag of a feedback pin. -/
def fbFlag (second : Bool) : Fld := if second then Reg.SAF_STAT_FBB else Reg.SAF_STAT_FBA

/-- A feedback pin has its new level in SAF_STAT. -/
def fbShown (second level : Bool) (s : State) : State := setB Reg.SAF_STAT (fbFlag second) level s

theorem on_fbShown (second level : Bool) (s : State) : on Reg.SAF_STAT (fbFlag second) (fbShown second level s) = level := by
  unfold fbShown
  cases second <;> exact on_setB _ _ (by decide) (by decide) _ _

/-- Every other flag of SAF_STAT stands. -/
theorem on_fbShown_other {second level : Bool} {i : Nat} (other : i ≠ (fbFlag second).lo) (s : State) :
    on Reg.SAF_STAT ⟨i, 1⟩ (fbShown second level s) = on Reg.SAF_STAT ⟨i, 1⟩ s := by
  refine congrArg (· != 0) (fl_setF_other _ ⟨i, 1⟩ (fbFlag second) ?_ _ _)
  have width : (fbFlag second).width = 1 := by cases second <;> rfl
  dsimp only
  omega

theorem pathB_fbShown (second level : Bool) (s : State) :
    on Reg.SAF_STAT Reg.SAF_STAT_PATHB (fbShown second level s) = on Reg.SAF_STAT Reg.SAF_STAT_PATHB s :=
  on_fbShown_other (i := 2) (by cases second <;> decide) s

/-- The last pin to fall leaves both low. -/
theorem fbLow_fbShown {second : Bool} {s : State}
    (other : on Reg.SAF_STAT (if second then Reg.SAF_STAT_FBA else Reg.SAF_STAT_FBB) s = false) :
    fbLow (fbShown second false s) = true := by
  have low := on_fbShown second false s
  unfold fbLow
  cases second with
  | false =>
    have stands : on Reg.SAF_STAT Reg.SAF_STAT_FBB (fbShown false false s) = false :=
      (on_fbShown_other (i := 4) (by decide) s).trans other
    rw [show on Reg.SAF_STAT Reg.SAF_STAT_FBA (fbShown false false s) = false from low, stands]
    rfl
  | true =>
    have stands : on Reg.SAF_STAT Reg.SAF_STAT_FBA (fbShown true false s) = false :=
      (on_fbShown_other (i := 3) (by decide) s).trans other
    rw [show on Reg.SAF_STAT Reg.SAF_STAT_FBB (fbShown true false s) = false from low, stands]
    rfl

theorem fbRight_of_fbLow {s : State} (low : fbLow s = true) (off : on Reg.SAF_STAT Reg.SAF_STAT_PATHB s = false) :
    fbRight s = true := by
  unfold fbLow at low
  rw [Bool.and_eq_true, Bool.not_eq_true', Bool.not_eq_true'] at low
  obtain ⟨first, second⟩ := low
  unfold fbRight
  rw [off, first, second]
  rfl

/-- A pin that differs from Path B is wrong. -/
theorem fbRight_fbShown {second level : Bool} {s : State} (differs : level ≠ on Reg.SAF_STAT Reg.SAF_STAT_PATHB s) :
    fbRight (fbShown second level s) = false := by
  have shown := on_fbShown second level s
  unfold fbRight
  extract_lets b
  have stands : b = on Reg.SAF_STAT Reg.SAF_STAT_PATHB s := pathB_fbShown ..
  rw [stands]
  cases second with
  | false => rw [show on Reg.SAF_STAT Reg.SAF_STAT_FBA (fbShown false level s) = level from shown, beq_false_of_ne differs, Bool.false_and]
  | true => rw [show on Reg.SAF_STAT Reg.SAF_STAT_FBB (fbShown true level s) = level from shown, beq_false_of_ne differs, Bool.and_false]

theorem fbChange_of_pend {second level : Bool} {d : Nat} {s : State} (used : safOn s = true) (pend : s.saf.fbPend = some d) :
    fbChange second level s = if fbRight (fbShown second level s) then fbVerified (fbShown second level s)
      else fbShown second level s := by
  have used' : safOn (fbShown second level s) = true := by
    rw [← used]
    exact congrArg (s.configured && ·) (((regsKept.refl [Reg.SAF_STAT] s).wrW (by simp)).on (by decide) _)
  unfold fbChange
  extract_lets t
  rw [if_neg (by rw [show safOn t = true from used']; decide), show t.saf.fbPend = some d from pend]
  rfl

theorem fbLow_fbVerified {s : State} (off : on Reg.SAF_STAT Reg.SAF_STAT_PATHB s = false) : fbLow (fbVerified s) = fbLow s := by
  obtain ⟨_, _, stat⟩ := fbVerified_effect off
  unfold fbLow
  rw [show on Reg.SAF_STAT Reg.SAF_STAT_FBA (fbVerified s) = on Reg.SAF_STAT Reg.SAF_STAT_FBA s from stat 3 (by decide),
    show on Reg.SAF_STAT Reg.SAF_STAT_FBB (fbVerified s) = on Reg.SAF_STAT Reg.SAF_STAT_FBB s from stat 4 (by decide)]

/-- The feedback that was awaited after a turn-off has come with the last pin to fall. -/
theorem fbChange_of_fallen {second : Bool} {d : Nat} {s : State} (used : safOn s = true) (pend : s.saf.fbPend = some d)
    (off : on Reg.SAF_STAT Reg.SAF_STAT_PATHB s = false)
    (other : on Reg.SAF_STAT (if second then Reg.SAF_STAT_FBA else Reg.SAF_STAT_FBB) s = false) :
    on Reg.SAF_STAT Reg.SAF_STAT_PATHB (fbShown second false s) = false ∧ fbLow (fbShown second false s) = true ∧
      fbChange second false s = fbVerified (fbShown second false s) := by
  have off' : on Reg.SAF_STAT Reg.SAF_STAT_PATHB (fbShown second false s) = false := (pathB_fbShown ..).trans off
  have low := fbLow_fbShown other
  refine ⟨off', low, ?_⟩
  rw [fbChange_of_pend used pend, if_pos (fbRight_of_fbLow low off')]

theorem fbChange_of_wrong {second level : Bool} {s : State} (used : safOn s = true) (pend : s.saf.fbPend = none)
    (begun : s.saf.armAt = none) (wrong : fbRight (fbShown second level s) = false) :
    fbChange second level s = setSaf (fun p => { p with fbDis := some (p.fbDis.getD s.lt) }) (fbShown second level s) := by
  have used' : safOn (fbShown second level s) = true := by
    rw [← used]
    exact congrArg (s.configured && ·) (((regsKept.refl [Reg.SAF_STAT] s).wrW (by simp)).on (by decide) _)
  unfold fbChange
  extract_lets t
  rw [if_neg (by rw [show safOn t = true from used']; decide), show t.saf.fbPend = none from pend]
  dsimp only
  rw [show t.saf.armAt = none from begun, show fbRight t = false from wrong]
  rfl

/-! The proof count (R400). -/

/-- The hours since the last verified off, as far as they count. -/
def proofHours (s : State) : Nat := min 0xFFFF ((s.lt - s.saf.proofAt) / (3600000 * ms))

theorem proofShow_eq (s : State) : proofShow s
    = if s.configured && proofHours s != rd Reg.SAF_PROOF s then wr Reg.SAF_PROOF (proofHours s) s else s := rfl

theorem proofShow_silent (s : State) : Silent [Reg.SAF_PROOF] s (proofShow s) := by
  rw [proofShow_eq]
  split
  · exact (Silent.refl _ s).wrW (by simp)
  · exact .refl _ s

theorem proofShow_frame (s : State) : proofShow s = { s with regs := (proofShow s).regs } := by
  rw [proofShow_eq]
  split <;> rfl

theorem rd_proofShow {s : State} (configured : s.configured = true) : rd Reg.SAF_PROOF (proofShow s) = proofHours s := by
  have small : proofHours s ≤ 0xFFFF := Nat.min_le_left ..
  rw [proofShow_eq, configured, Bool.true_and]
  split
  · rw [rd_wr, if_pos rfl]
    omega
  · rename_i same
    have equal : proofHours s = rd Reg.SAF_PROOF s := by simpa using same
    exact equal.symm

/-- The end of the proof count is shown. -/
def proofEnded (s : State) : State :=
  safFlag Reg.SAF_EVT_PROOFDUE (setB Reg.SAF_STAT Reg.SAF_STAT_PROOFDUE true (proofShow s))

theorem proofDue_of_due {d : Nat} {s : State} (used : safOn s = true) (time : d = rd Reg.SAF_PB s / 2 ^ 8 % 2 ^ 16)
    (set_ : d ≠ 0) (late : d ≤ proofHours s) (fresh_ : on Reg.SAF_STAT Reg.SAF_STAT_PROOFDUE s = false) :
    proofDue s = record 94 0 0x100 none (proofEnded s) := by
  have shown := (proofShow_silent s).regs
  have used' : safOn (proofShow s) = true := by
    rw [← used, proofShow_frame]
    exact congrArg (s.configured && ·) (shown.on (by decide) _)
  have time' : rd Reg.SAF_PB (proofShow s) / 2 ^ 8 % 2 ^ 16 = d := by rw [shown.rd (by decide), time]
  have fresh' : on Reg.SAF_STAT Reg.SAF_STAT_PROOFDUE (proofShow s) = false := (shown.on (by decide) _).trans fresh_
  unfold proofDue
  extract_lets t e
  rw [if_pos]
  · rfl
  · rw [show safOn t = true from used', show e = d from time', show rd Reg.SAF_PROOF t = _ from
      rd_proofShow (configured_of_safOn used), show on Reg.SAF_STAT Reg.SAF_STAT_PROOFDUE t = false from fresh']
    simp [set_, late]

/-- The end of the proof count is EV94 with DETAIL 0x100, and nothing else (R400). -/
theorem proofEnded_effect {s : State} (configured : s.configured = true) :
    rd Reg.SAF_PROOF (record 94 0 0x100 none (proofEnded s)) = proofHours s ∧
      on Reg.SAF_STAT Reg.SAF_STAT_PROOFDUE (record 94 0 0x100 none (proofEnded s)) = true ∧
      recorded 94 0 0x100 none s (record 94 0 0x100 none (proofEnded s)) ∧
      (∀ i, i < 6 → on Reg.SAF_STAT ⟨i, 1⟩ (record 94 0 0x100 none (proofEnded s)) = on Reg.SAF_STAT ⟨i, 1⟩ s) := by
  have events : regsKept evtRegs (proofEnded s) (record 94 0 0x100 none (proofEnded s)) := (EventsOnly.refl _).record.regs
  have shown := proofShow_silent s
  refine ⟨?_, ?_, ?_, fun i below => ?_⟩
  · refine (events.rd (by decide)).trans (.trans ?_ (rd_proofShow configured))
    exact congrArg BitVec.toNat ((rdW_setF_ne (by decide) ..).trans (rdW_setF_ne (by decide) ..))
  · refine (events.on (by decide) _).trans (.trans ?_ (on_setB Reg.SAF_STAT Reg.SAF_STAT_PROOFDUE (by decide) (by decide) true
      (proofShow s)))
    exact congrArg (· != 0) (fl_setF_ne (by decide) ..)
  · have widened : Silent [Reg.SAF_PROOF, Reg.SAF_STAT, Reg.SAF_EVT] s (proofShow s) :=
      ⟨shown.regs.mono (by simp), shown.evt⟩
    exact ((widened.wrW (by simp)).wrW (by simp)).recorded (by decide)
  · refine (events.on (by decide) _).trans (congrArg (· != 0) ((fl_setF_ne (by decide) ..).trans ?_))
    refine (fl_setF_other _ ⟨i, 1⟩ ⟨6, 1⟩ (by dsimp only; omega) _ _).trans ?_
    exact shown.regs.fl (by decide) _

/-! Path A stays off (R398). -/

theorem pathARepeat_of_due {s : State} (used : safOn s = true) (off : on Reg.SAF_STAT Reg.SAF_STAT_PATHA s = false)
    (due : s.saf.offAt + 10 * us ≤ s.lt) : pathARepeat s
    = each (List.range 24) (fun n s => sendOff n 15 s) (setSaf (fun p => { p with offAt := s.lt }) s) := by
  unfold pathARepeat
  rw [if_pos (by simp [used, off, due])]

/-- OFF to every link reaches the links alone. -/
theorem sendOffs_frame (l : List Nat) (mask : Nat) (s : State) :
    each l (fun n s => sendOff n mask s) s = { s with lnk := (each l (fun n s => sendOff n mask s) s).lnk } := by
  refine each_induct (P := fun u => u = { s with lnk := u.lnk }) rfl (fun n _ u hu => ?_)
  unfold sendOff when
  split
  · rw [hu]
    rfl
  · exact hu

theorem lnkOf_sendOff_ne {j n : Nat} (other : j ≠ n) (mask : Nat) (s : State) : lnkOf j (sendOff n mask s) = lnkOf j s := by
  unfold sendOff when
  split
  · exact Tbl.get_put_ne _ other ..
  · rfl

theorem linkUp_sendOff (j n mask : Nat) (s : State) : linkUp j (sendOff n mask s) = linkUp j s := by
  unfold sendOff when
  split <;> rfl

/-- OFF joins the mask of a link that carries traffic. -/
theorem offMask_sendOff {n : Nat} {s : State} (up : linkUp n s = true) (mask : Nat) :
    (lnkOf n (sendOff n mask s)).offMask = (lnkOf n s).offMask ||| mask := by
  unfold sendOff when
  rw [if_pos up, lnkOf_setLnk]

theorem sendOff_of_down {n : Nat} {s : State} (down : linkUp n s = false) (mask : Nat) : sendOff n mask s = s := by
  unfold sendOff when
  rw [if_neg (by simp [down])]

/-- Every link with traffic takes the OFF, once or again. -/
theorem offMask_sendOffs {n : Nat} {l : List Nat} {s : State} (listed : n ∈ l) (up : linkUp n s = true) (mask : Nat) :
    (lnkOf n (each l (fun n s => sendOff n mask s) s)).offMask = (lnkOf n s).offMask ||| mask := by
  refine (each_reaches (l := l) (f := fun n s => sendOff n mask s) (I := fun u => linkUp n u = true ∧
      ((lnkOf n u).offMask = (lnkOf n s).offMask ∨ (lnkOf n u).offMask = (lnkOf n s).offMask ||| mask))
    (P := fun u => linkUp n u = true ∧ (lnkOf n u).offMask = (lnkOf n s).offMask ||| mask) ⟨up, .inl rfl⟩ ?_ listed ?_ ?_).2
  · rintro k _ u ⟨hu, before⟩
    refine ⟨(linkUp_sendOff ..).trans hu, ?_⟩
    by_cases same : n = k
    · subst same
      rw [offMask_sendOff hu]
      exact .inr (by obtain h | h := before <;> simp [h])
    · rwa [lnkOf_sendOff_ne same]
  · rintro u ⟨hu, before⟩
    refine ⟨(linkUp_sendOff ..).trans hu, (offMask_sendOff hu mask).trans ?_⟩
    obtain h | h := before <;> simp [h]
  · rintro k _ u ⟨hu, after⟩
    refine ⟨(linkUp_sendOff ..).trans hu, ?_⟩
    by_cases same : n = k
    · subst same
      rw [offMask_sendOff hu, after, Nat.or_assoc, Nat.or_self]
    · rwa [lnkOf_sendOff_ne same]

/-- A link without traffic takes none. -/
theorem lnkOf_sendOffs_of_down {n : Nat} {s : State} (down : linkUp n s = false) (l : List Nat) (mask : Nat) :
    lnkOf n (each l (fun n s => sendOff n mask s) s) = lnkOf n s := by
  refine (each_induct (P := fun u => linkUp n u = false ∧ lnkOf n u = lnkOf n s) ⟨down, rfl⟩ ?_).2
  rintro k _ u ⟨hu, stands⟩
  refine ⟨(linkUp_sendOff ..).trans hu, ?_⟩
  by_cases same : n = k
  · subst same
    rwa [sendOff_of_down hu]
  · rwa [lnkOf_sendOff_ne same]

/-! The reset request (R403). -/

/-- A press that is neither too short nor too long. -/
def asked (p : Nat) : Bool := decide (100000 ≤ p) && decide (p ≤ 2000000)

theorem asked_eq_false {p : Nat} (out : p < 100000 ∨ 2000000 < p) : asked p = false := by
  unfold asked
  rw [← Bool.decide_and, decide_eq_false_iff_not]
  omega

theorem asked_eq_true {p : Nat} (inside : 100000 ≤ p ∧ p ≤ 2000000) : asked p = true := by
  unfold asked
  rw [← Bool.decide_and, decide_eq_true inside]

theorem srstRelease_of_short {a b : Nat} {s : State} (first : asked a = false) (second : asked b = false) :
    srstRelease a b s = s := by
  unfold srstRelease
  exact if_pos (by rw [Bool.or_eq_true]; exact .inr (by simp [show (decide (100000 ≤ a) && decide (a ≤ 2000000)) = false from first,
    show (decide (100000 ≤ b) && decide (b ≤ 2000000)) = false from second]))

theorem srstRelease_of_refused {a b : Nat} {s : State} (used : safOn s = true) (first : asked a = true)
    (refused : (asked a && asked b && resetOk 0 s && resetOk 1 s) = false) :
    srstRelease a b s = record 93 0 0x100 none (safFlag Reg.SAF_EVT_RSTREF s) := by
  have begins : ¬ (!safOn s || !asked a && !asked b) = true := by simp [used, first]
  have stops : ¬ (asked a && asked b && resetOk 0 s && resetOk 1 s) = true := by simp [refused]
  exact (if_neg begins).trans (if_neg stops)

/-- A refused reset is EV93 with DETAIL 0x100, and nothing else (R403). -/
theorem resetRefused_effect (s : State) :
    recorded 93 0 0x100 none s (record 93 0 0x100 none (safFlag Reg.SAF_EVT_RSTREF s)) ∧
      on Reg.SAF_EVT Reg.SAF_EVT_RSTREF (record 93 0 0x100 none (safFlag Reg.SAF_EVT_RSTREF s)) = true ∧
      ∀ F, on Reg.SAF_STAT F (record 93 0 0x100 none (safFlag Reg.SAF_EVT_RSTREF s)) = on Reg.SAF_STAT F s := by
  have events : regsKept evtRegs (safFlag Reg.SAF_EVT_RSTREF s) (record 93 0 0x100 none (safFlag Reg.SAF_EVT_RSTREF s)) :=
    (EventsOnly.refl _).record.regs
  refine ⟨((Silent.refl [Reg.SAF_EVT] s).wrW (by simp)).recorded (by decide), ?_, fun F => ?_⟩
  · exact (events.on (by decide) _).trans (on_setB _ _ (by decide) (by decide) _ _)
  · exact (events.on (by decide) _).trans (congrArg (· != 0) (fl_setF_ne (by decide) ..))

end Sys2Proof.Machine
end

section
/-! SUPPORT. The pairs of the evaluator's functions (R394-R398): what the paths leave, and the accepted reset (R403). -/

namespace Sys2Proof.Machine

theorem setPair_pairs (ch n : Nat) (x : SafPair) (s : State) :
    (setPair ch n x s).saf.pairs = Tbl.put (8 * ch + n) x s.saf.pairs := by
  unfold setPair
  extract_lets t
  split <;> rfl

theorem pairOf_setPair (c m ch n : Nat) (x : SafPair) (s : State) :
    pairOf c m (setPair ch n x s) = if 8 * c + m = 8 * ch + n then x else pairOf c m s := by
  unfold pairOf
  rw [setPair_pairs, Tbl.get_put]

theorem pairOf_of_pairs {s t : State} (same : t.saf.pairs = s.saf.pairs) (ch n : Nat) : pairOf ch n t = pairOf ch n s := by
  unfold pairOf
  rw [same]

/-- Showing the pairs leaves them. -/
theorem pairOf_pairsShow (c m : Nat) (s : State) : pairOf c m (pairsShow s) = pairOf c m s := by
  refine each_induct (P := fun u => pairOf c m u = pairOf c m s) rfl (fun n _ u hu => ?_)
  rw [pairOf_setPair]
  split
  · rename_i same
    unfold pairOf at hu ⊢
    rw [← same, hu]
  · exact hu

/-! The paths leave the pairs. -/

theorem pairs_record (src grade detail : Nat) (stg : Option Nat) (s : State) :
    (record src grade detail stg s).saf.pairs = s.saf.pairs := by
  rw [(EventsOnly.refl s).record.frame]

theorem saf_safFlag (F : Fld) (s : State) : (safFlag F s).saf = s.saf := rfl

theorem pairs_of_framed {s t : State} (f : GradeFramed s t) : t.saf.pairs = s.saf.pairs := by
  rw [f.frame]

theorem pairs_when {c : Bool} {f : State → State} {s : State} (kept : (f s).saf.pairs = s.saf.pairs) :
    (when c f s).saf.pairs = s.saf.pairs := by
  unfold when
  split
  · exact kept
  · rfl

theorem pairs_each {α : Type} {l : List α} {f : α → State → State} {s : State}
    (kept : ∀ x ∈ l, ∀ u, (f x u).saf.pairs = u.saf.pairs) : (each l f s).saf.pairs = s.saf.pairs :=
  each_induct (P := fun u => u.saf.pairs = s.saf.pairs) rfl (fun x mem u hu => (kept x mem u).trans hu)

theorem pairs_sawOff (s : State) : (sawOff s).saf.pairs = s.saf.pairs := pairs_each (fun _ _ _ => rfl)

theorem pairs_offAll (s : State) : (offAll s).saf.pairs = s.saf.pairs :=
  pairs_each (s := setSaf (fun p => { p with offAt := s.lt }) s) (fun n _ u =>
    pairs_when (f := setLnk n { lnkOf n u with offMask := (lnkOf n u).offMask ||| 15 }) (c := linkUp n u) rfl)

theorem pairs_pathAOff (s : State) : (pathAOff s).saf.pairs = s.saf.pairs := by
  unfold pathAOff
  extract_lets was t
  have low : t.saf.pairs = s.saf.pairs :=
    pairs_when (f := each (List.range 8) legOff) (pairs_each (fun n _ u => pairs_of_framed (.legOff (.refl u))))
  split
  · refine (pairs_each (fun st mem u => ?_)).trans ((pairs_offAll _).trans ((pairs_sawOff _).trans low))
    exact pairs_of_framed (.pulsesOff (.refl u) (List.mem_range.1 (List.mem_of_mem_filter mem)))
  · exact low

theorem pairs_pathBOff (s : State) : (pathBOff s).saf.pairs = s.saf.pairs := by
  unfold pathBOff
  split
  · exact (pairs_record ..).trans (pairs_sawOff s)
  · rfl

theorem pairs_offPinsStart (s : State) : (offPinsStart s).saf.pairs = s.saf.pairs := by
  unfold offPinsStart offPinsSet
  split <;> rfl

theorem pairs_pathOn (ch : Nat) (s : State) : (pathOn ch s).saf.pairs = s.saf.pairs := by
  unfold pathOn
  split
  · rfl
  · split
    · rfl
    · split
      · rfl
      · exact pairs_offPinsStart _

/-- Channel A shows and records a demand. -/
def demanded (n : Nat) (s : State) : State :=
  record 88 0 n none (safFlag Reg.SAF_EVT_DEMAND (setB (Reg.SAF_PEVT n) Reg.SAF_PEVT_DEMAND true s))

/-- A demand puts its pair in DEMAND, and no other pair changes (R395). -/
theorem demand_pairs (ch n : Nat) (s : State) : ∃ x : SafPair, x.state = 1 ∧
    (demand ch n s).saf.pairs = Tbl.put (8 * ch + n) x s.saf.pairs := by
  unfold demand
  extract_lets x y delay z t
  have placed : ∃ w : SafPair, w.state = 1 ∧ t.saf.pairs = Tbl.put (8 * ch + n) w s.saf.pairs :=
    ⟨if delay then { y with stop := some s.lt } else y, by split <;> rfl,
      (pairs_when (f := demanded n) (pairs_record 88 0 n none _)).trans (setPair_pairs ..)⟩
  obtain ⟨w, state, place⟩ := placed
  refine ⟨w, state, ?_⟩
  split
  · exact place
  · unfold pathOff
    split
    · exact (pairs_pathAOff t).trans place
    · exact (pairs_pathBOff t).trans place

/-! Both paths on (R398). -/

/-- Nothing holds off a path without a demand, a wait for a reset or a delay. -/
theorem pathClear_of_pairs {ch : Nat} {s : State} (up : armed s = true) (open_ : lockedOut s = false)
    (clear : ∀ n < 8, stopFn ch n s = true → (pairOf ch n s).state = 0 ∧ (pairOf ch n s).stop = none) :
    pathClear ch s = true := by
  unfold pathClear
  rw [up, open_, Bool.not_false, Bool.true_and, Bool.true_and, List.all_eq_true]
  intro n mem
  cases stops : stopFn ch n s with
  | false => rfl
  | true =>
    obtain ⟨state, delay⟩ := clear n (List.mem_range.1 mem) stops
    rw [state, delay]
    rfl

/-- Where nothing holds them off, both paths turn on. -/
theorem paths_pathOn {s : State} (first : pathClear 0 s = true) (second : pathClear 1 s = true) :
    on Reg.SAF_STAT Reg.SAF_STAT_PATHA (pathOn 1 (pathOn 0 s)) = true ∧
      on Reg.SAF_STAT Reg.SAF_STAT_PATHB (pathOn 1 (pathOn 0 s)) = true := by
  have turned : pathOn 0 s = setB Reg.SAF_STAT Reg.SAF_STAT_PATHA true s := by
    unfold pathOn
    rw [if_neg (by simp [first]), if_pos rfl]
  generalize shown : setB Reg.SAF_STAT Reg.SAF_STAT_PATHA true s = u at turned
  have flags : ∀ i, i ≠ 1 → on Reg.SAF_STAT ⟨i, 1⟩ u = on Reg.SAF_STAT ⟨i, 1⟩ s := fun i other => by
    rw [← shown]
    exact congrArg (· != 0) (fl_setF_other _ ⟨i, 1⟩ ⟨1, 1⟩ (by dsimp only; omega) _ s)
  have clear : pathClear 1 u = true := by
    refine .trans ?_ second
    unfold pathClear armed lockedOut
    rw [show on Reg.SAF_STAT Reg.SAF_STAT_ARMED u = _ from flags 0 (by decide),
      show on Reg.SAF_STAT Reg.SAF_STAT_LOCKOUT u = _ from flags 5 (by decide), ← shown]
    rfl
  have pathA : on Reg.SAF_STAT Reg.SAF_STAT_PATHA u = true := by
    rw [← shown]
    exact on_setB _ _ (by decide) (by decide) _ _
  rw [turned]
  unfold pathOn
  rw [if_neg (by simp [clear]), if_neg (by decide)]
  split
  · exact ⟨pathA, ‹_›⟩
  · have pins : ∀ v F, on Reg.SAF_STAT F (offPinsStart v) = on Reg.SAF_STAT F v := fun v F => by
      unfold offPinsStart offPinsSet
      split <;> rfl
    refine ⟨(pins ..).trans (.trans ?_ pathA), (pins ..).trans (on_setB _ _ (by decide) (by decide) _ _)⟩
    exact congrArg (· != 0) (fl_setF_other _ ⟨1, 1⟩ ⟨2, 1⟩ (by decide) _ _)

/-! The accepted reset (R403). -/

/-- The lock-out's registers as a reset clears them. -/
def resetShown (s : State) : State := setB Reg.SAF_STAT Reg.SAF_STAT_LOCKOUT false (wr Reg.SAF_LOCK 0 (dropCause ⟨92, 0⟩ s))

/-- A pair that waits for a reset is ready. -/
def readied (x : SafPair) : SafPair := if x.state = 2 then { x with state := 0 } else x

/-- A pair as a reset leaves it. -/
def resetPair (i : Nat) (s : State) : State :=
  let x := pairOf (i / 8) (i % 8) s
  when (x.state == 2) (setPair (i / 8) (i % 8) { x with state := 0 }) s

def resetPairs (s : State) : State := each (List.range 16) resetPair s

/-- An accepted reset, before the paths turn on or arming begins. -/
def resetDone (s : State) : State :=
  record 93 0 0 none (safFlag Reg.SAF_EVT_RESET (pairsShow (resetPairs (resetShown s))))

/-- The paths of an armed evaluator turn on; of another, arming begins. -/
def resetEnd (s : State) : State := if armed s then pathOn 1 (pathOn 0 s) else armStart s

theorem srstRelease_of_accepted {a b : Nat} {s : State} (used : safOn s = true) (first : asked a = true) (second : asked b = true)
    (chA : resetOk 0 s = true) (chB : resetOk 1 s = true) : srstRelease a b s = resetEnd (resetDone s) := by
  have begins : ¬ (!safOn s || !asked a && !asked b) = true := by simp [used, first]
  have accepts : (asked a && asked b && resetOk 0 s && resetOk 1 s) = true := by simp [first, second, chA, chB]
  exact (if_neg begins).trans (if_pos accepts)

theorem readied_idem (x : SafPair) : readied (readied x) = readied x := by
  by_cases waits : x.state = 2
  · have ready : readied x = { x with state := 0 } := if_pos waits
    rw [ready]
    rfl
  · rw [show readied x = x from if_neg waits, show readied x = x from if_neg waits]

theorem readied_state {x : SafPair} (waits : x.state = 2) : (readied x).state = 0 := by
  unfold readied
  rw [if_pos waits]

theorem readied_stop (x : SafPair) : (readied x).stop = x.stop := by
  unfold readied
  split <;> rfl

theorem pairOf_resetPair (ch n i : Nat) (s : State) :
    pairOf ch n (resetPair i s) = if 8 * ch + n = i then readied (pairOf ch n s) else pairOf ch n s := by
  have place : 8 * (i / 8) + i % 8 = i := Nat.div_add_mod i 8
  have same : 8 * ch + n = i → pairOf ch n s = pairOf (i / 8) (i % 8) s := fun h => by
    unfold pairOf
    rw [place, h]
  unfold resetPair
  extract_lets x
  by_cases waits : x.state = 2
  · unfold when
    rw [if_pos (by simpa using waits), pairOf_setPair, place]
    split
    · rw [same ‹_›]
      exact (if_pos waits).symm
    · rfl
  · unfold when
    rw [if_neg (by simpa using waits)]
    split
    · rw [same ‹_›]
      exact (if_neg waits).symm
    · rfl

/-- A reset readies every pair, once or again. -/
theorem pairOf_resetPairs {ch n : Nat} (channel : ch < 2) (small : n < 8) (s : State) :
    pairOf ch n (resetPairs s) = readied (pairOf ch n s) := by
  refine each_reaches (I := fun u => pairOf ch n u = pairOf ch n s ∨ pairOf ch n u = readied (pairOf ch n s))
    (P := fun u => pairOf ch n u = readied (pairOf ch n s)) (x := 8 * ch + n) (.inl rfl) ?_ (List.mem_range.2 (by omega)) ?_ ?_
  · intro i _ u hu
    rw [pairOf_resetPair]
    split
    · exact .inr (by obtain h | h := hu <;> rw [h]; exact readied_idem _)
    · exact hu
  · intro u hu
    rw [pairOf_resetPair, if_pos rfl]
    obtain h | h := hu <;> rw [h]
    exact readied_idem _
  · intro i _ u hu
    rw [pairOf_resetPair]
    split
    · rw [hu, readied_idem]
    · exact hu

/-- The evaluator's state and the completion of the configuration stand as a cause leaves. -/
theorem dropCause_frame (c : Cause) (s : State) : (dropCause c s).saf = s.saf ∧ (dropCause c s).configured = s.configured :=
  each_induct (P := fun u => u.saf = s.saf ∧ u.configured = s.configured) ⟨rfl, rfl⟩ (fun _ _ _ hu => hu)

theorem resetShown_unrecorded (s : State) :
    Unrecorded (Reg.SAF_STAT :: Reg.SAF_LOCK :: causeRegs) s (resetShown s) :=
  ((dropCause_unrecorded (.refl _ s) ⟨92, 0⟩).mono (by simp)).wrW (by simp) |>.wrW (by simp)

/-- A reset clears the lock-out and leaves every other flag of SAF_STAT. -/
theorem resetShown_stat (s : State) : lockedOut (resetShown s) = false ∧ armed (resetShown s) = armed s ∧
    rd Reg.SAF_LOCK (resetShown s) = 0 := by
  refine ⟨on_setB _ _ (by decide) (by decide) _ _, ?_, ?_⟩
  · refine congrArg (· != 0) ((fl_setF_other _ ⟨0, 1⟩ ⟨5, 1⟩ (by decide) _ _).trans (congrArg (fldGet _) ?_))
    exact (rdW_wr_ne (by decide) ..).trans ((dropCause_unrecorded (.refl _ s) ⟨92, 0⟩).regs _ (by decide))
  · refine (congrArg BitVec.toNat (rdW_setF_ne (by decide) ..)).trans ((rd_wr ..).trans ?_)
    rw [if_pos rfl, Nat.zero_mod]

theorem resetPairs_evaluates (s : State) : Evaluates [] s (resetPairs s) :=
  (Evaluates.refl [] s).each (fun _ _ _ hu => hu.when (fun _ hv => hv.setPair (Nat.mod_lt _ (by decide))))

/-- Before its record a reset shows the pairs and its flag. -/
theorem resetFlagged_evaluates (s : State) :
    Evaluates [] (resetShown s) (safFlag Reg.SAF_EVT_RESET (pairsShow (resetPairs (resetShown s)))) :=
  (resetPairs_evaluates _).pairsShow.safFlag

theorem resetDone_evaluates (s : State) : Evaluates [] (resetShown s) (resetDone s) := (resetFlagged_evaluates s).record

theorem pairOf_resetDone {ch n : Nat} (channel : ch < 2) (small : n < 8) (s : State) :
    pairOf ch n (resetDone s) = readied (pairOf ch n s) := by
  have dropped : (resetShown s).saf.pairs = s.saf.pairs := congrArg SafSt.pairs (dropCause_frame ⟨92, 0⟩ s).1
  have noted : (resetDone s).saf.pairs = (pairsShow (resetPairs (resetShown s))).saf.pairs := by
    rw [resetDone, pairs_record, saf_safFlag]
  rw [pairOf_of_pairs noted, pairOf_pairsShow, pairOf_resetPairs channel small, pairOf_of_pairs dropped]

/-- With the evaluator in use, the beginning of arming is in its own state alone. -/
theorem armStart_frame {s : State} (enabled : bitAt Reg.SAF_CFG 0 s = true) :
    armStart s = { s with saf := (armStart s).saf } ∧ (armStart s).saf.pairs = s.saf.pairs := by
  unfold armStart
  rw [if_pos enabled]
  unfold when armStep3
  dsimp only
  split <;> exact ⟨rfl, rfl⟩

/-- What the paths or the beginning of arming leave of a reset. -/
theorem resetEnd_effect {s : State} (enabled : bitAt Reg.SAF_CFG 0 s = true) :
    regsKept [Reg.SAF_STAT] s (resetEnd s) ∧ lockedOut (resetEnd s) = lockedOut s ∧ (resetEnd s).saf.pairs = s.saf.pairs ∧
      (∀ src grade detail stg, recs src grade detail stg s ≤ recs src grade detail stg (resetEnd s)) ∧
      (resetEnd s).mem = s.mem := by
  unfold resetEnd
  split
  · have r : Evaluates [1, 2] s (pathOn 1 (pathOn 0 s)) :=
      ((Evaluates.refl _ s).pathOn (by decide) (by decide)).pathOn (by decide) (by decide)
    exact ⟨(pathOn_regs 0 s).trans (pathOn_regs 1 _), r.flag (by decide), (pairs_pathOn ..).trans (pairs_pathOn ..), r.recs, r.mem⟩
  · obtain ⟨frame, pairs⟩ := armStart_frame enabled
    rw [frame]
    exact ⟨fun _ _ => rfl, rfl, pairs, fun _ _ _ _ => le_rfl, rfl⟩

/-- An accepted reset clears the lock-out, readies the pairs that wait, and is EV93 (R403). -/
theorem resetEnd_resetDone_effect {s : State} (used : safOn s = true) :
    lockedOut (resetEnd (resetDone s)) = false ∧ rd Reg.SAF_LOCK (resetEnd (resetDone s)) = 0 ∧
      (∀ ch : Fin 2, ∀ n : Fin 8, pairOf ch n (resetEnd (resetDone s)) = readied (pairOf ch n s)) ∧
      recorded 93 0 0 none s (resetEnd (resetDone s)) ∧ on Reg.SAF_EVT Reg.SAF_EVT_RESET (resetEnd (resetDone s)) = true ∧
      (resetEnd (resetDone s)).mem = s.mem := by
  obtain ⟨configured, enabled⟩ := Bool.and_eq_true_iff.1 used
  have before := resetShown_unrecorded s
  obtain ⟨open_, _, lock⟩ := resetShown_stat s
  have done := resetDone_evaluates s
  have enabled' : bitAt Reg.SAF_CFG 0 (resetDone s) = true := by
    refine .trans ?_ enabled
    exact congrArg (fun w => fldGet ⟨0, 1⟩ w != 0) (done.word.trans (before.regs _ (by decide)))
  obtain ⟨regs, locked_, pairs, more, mem⟩ := resetEnd_effect enabled'
  refine ⟨?_, ?_, fun ch n => ?_, ?_, ?_, ?_⟩
  · exact locked_.trans ((done.flag (by decide)).trans open_)
  · exact (regs.rd (by decide)).trans ((congrArg BitVec.toNat done.word).trans lock)
  · exact (pairOf_of_pairs pairs ch n).trans (pairOf_resetDone ch.isLt n.isLt s)
  · have configured' : (resetShown s).configured = true := (dropCause_frame ⟨92, 0⟩ s).2.trans configured
    refine before.recorded_of (by decide) (fun room => ?_)
    have room' := (resetFlagged_evaluates s).room (.of_roomy configured' room)
    exact ((resetFlagged_evaluates s).recs 93 0 0 none).trans_lt ((room'.recs_lt ..).trans_le (more ..))
  · refine (regs.on (by decide) _).trans (((EventsOnly.refl _).record.regs.on (by decide) _).trans ?_)
    exact on_setB _ _ (by decide) (by decide) _ _
  · exact mem.trans (done.mem.trans before.mem)

/-- The paths of an armed evaluator turn on at a reset where no pair is in DEMAND or delays. -/
theorem resetEnd_paths {s : State} (up : armed s = true)
    (clear : ∀ ch : Fin 2, ∀ n : Fin 8, ((pairOf ch n s).state = 0 ∨ (pairOf ch n s).state = 2) ∧ (pairOf ch n s).stop = none) :
    on Reg.SAF_STAT Reg.SAF_STAT_PATHA (resetEnd (resetDone s)) = true ∧
      on Reg.SAF_STAT Reg.SAF_STAT_PATHB (resetEnd (resetDone s)) = true := by
  have done := resetDone_evaluates s
  obtain ⟨open_, arm, _⟩ := resetShown_stat s
  have up' : armed (resetDone s) = true := (done.flag (by decide)).trans (arm.trans up)
  have open' : lockedOut (resetDone s) = false := (done.flag (by decide)).trans open_
  have ready : ∀ ch : Fin 2, ∀ n < 8, (pairOf ch n (resetDone s)).state = 0 ∧ (pairOf ch n (resetDone s)).stop = none := by
    intro ch n small
    obtain ⟨state, delay⟩ := clear ch ⟨n, small⟩
    rw [pairOf_resetDone ch.isLt small, readied_stop]
    refine ⟨?_, delay⟩
    obtain zero | two := state
    · unfold readied
      rw [if_neg (by rw [show (pairOf ch n s).state = 0 from zero]; decide)]
      exact zero
    · exact readied_state two
  have effect : resetEnd (resetDone s) = pathOn 1 (pathOn 0 (resetDone s)) := if_pos up'
  rw [effect]
  exact paths_pathOn (pathClear_of_pairs up' open' (fun n small _ => ready 0 n small))
    (pathClear_of_pairs up' open' (fun n small _ => ready 1 n small))

end Sys2Proof.Machine
end

section
/-! SUPPORT. An evaluator that arms (R404): its functions, its pairs and its paths, and O55. -/

namespace Sys2Proof.Machine

/-! The functions of the pairs, in both channels. -/

/-- The registers of the evaluator's configuration stand where it works. -/
theorem Evaluates.pcfg {l : List Nat} {s t : State} (r : Evaluates l s t) {n : Nat} (small : n < 8) :
    rdW (Reg.SAF_PCFG n) t = rdW (Reg.SAF_PCFG n) s := by
  refine r.word (by unfold Reg.SAF_PCFG; omega) (by unfold Reg.SAF_PCFG; omega) ?_
  simp only [safShown, List.mem_cons, List.mem_append, List.mem_map, List.mem_range, not_or, not_exists, not_and,
    Reg.SAF_PCFG, Reg.SAF_STAT, Reg.SAF_EVT, Reg.SAF_PSTAT, Reg.SAF_PEVT]
  exact ⟨by omega, by omega, fun m _ => by omega, fun m _ => by omega⟩

/-- Channel B's copy stands. -/
theorem Evaluates.copyB {l : List Nat} {s t : State} (r : Evaluates l s t) : t.saf.copyB = s.saf.copyB := by
  have kept := congrArg SafSt.copyB r.standing
  exact kept

/-- The function of a pair in a channel is of its register and of channel B's copy. -/
theorem stopFn_of_config {s t : State} {n : Nat} (word : rdW (Reg.SAF_PCFG n) t = rdW (Reg.SAF_PCFG n) s)
    (copy : t.saf.copyB = s.saf.copyB) (ch : Nat) : stopFn ch n t = stopFn ch n s := by
  unfold stopFn fnOf cfgFl cfgOf rd
  rw [word, copy]

theorem safFunc_of_config {s t : State} {n : Nat} (word : rdW (Reg.SAF_PCFG n) t = rdW (Reg.SAF_PCFG n) s) :
    safFunc n t = safFunc n s := congrArg (fldGet _) word

/-- Channel A's function is the register's. -/
theorem fnOf_zero (n : Nat) (s : State) : fnOf 0 n s = safFunc n s := by
  show rd (Reg.SAF_PCFG n) s / 2 ^ 0 % 2 ^ 3 = fldGet ⟨0, 3⟩ (rdW (Reg.SAF_PCFG n) s)
  unfold fldGet rd
  rw [BitVec.toNat_and, BitVec.toNat_ushiftRight, Nat.shiftRight_eq_div_pow]
  exact (Nat.and_two_pow_sub_one_eq_mod _ 3).symm

/-- With equal copies, a stop function of either channel is one of the register (R390). -/
theorem stopFn_of_copiesSame {s : State} (alike : copiesSame s = true) {ch n : Nat} (small : n < 8) :
    stopFn ch n s = safStop n s := by
  have listed : Reg.SAF_PCFG n ∈ safCopyRegs :=
    List.mem_append_left _ (List.mem_flatMap.2 ⟨n, List.mem_range.2 small, List.mem_cons_self ..⟩)
  have same : cfgOf 0 (Reg.SAF_PCFG n) s = cfgOf 1 (Reg.SAF_PCFG n) s := by
    simpa using List.all_eq_true.1 alike _ listed
  unfold stopFn safStop
  rw [← fnOf_zero]
  by_cases first : ch = 0
  · rw [first]
  · have second : cfgOf ch (Reg.SAF_PCFG n) s = cfgOf 1 (Reg.SAF_PCFG n) s := by
      unfold cfgOf
      rw [if_neg first, if_neg (by decide)]
    unfold fnOf cfgFl
    rw [second, same]

theorem safFunc_ne_zero {n : Nat} {s : State} (stops : safStop n s = true) : safFunc n s ≠ 0 := fun none_ => by
  unfold safStop at stops
  rw [none_] at stops
  exact absurd stops (by decide)

theorem safHand_of_safStop {n : Nat} {s : State} (stops : safStop n s = true) : safHand n s = false := by
  by_contra hand
  unfold safHand at hand
  unfold safStop at stops
  rw [show safFunc n s = 4 by simpa using hand] at stops
  exact absurd stops (by decide)

/-! The pairs as arming begins them. -/

theorem pairOf_armPair (ch n first i : Nat) (s : State) : 8 * ch + n ≠ i ∧ pairOf ch n (armPair first i s) = pairOf ch n s ∨
    8 * ch + n = i ∧ (pairOf ch n (armPair first i s)).state = (if safHand (i % 8) s then 0 else first)
      ∧ (pairOf ch n (armPair first i s)).stop = (pairOf ch n s).stop := by
  have place : 8 * (i / 8) + i % 8 = i := Nat.div_add_mod i 8
  unfold armPair
  extract_lets x
  rw [pairOf_setPair, place]
  split
  · rename_i same
    refine .inr ⟨same, rfl, ?_⟩
    show (pairOf (i / 8) (i % 8) s).stop = _
    unfold pairOf
    rw [place, same]
  · exact .inl ⟨‹_›, rfl⟩

theorem armPair_evaluates (first i : Nat) (s : State) : Evaluates [] s (armPair first i s) :=
  (Evaluates.refl [] s).setPair (Nat.mod_lt _ (by decide))

/-- A stop function begins in its first state, and its delay stands. -/
theorem pairOf_armPairs {ch n : Nat} (channel : ch < 2) (small : n < 8) {s : State} (stops : safStop n s = true) :
    (pairOf ch n (armPairs s)).state = armFirst s ∧ (pairOf ch n (armPairs s)).stop = (pairOf ch n s).stop := by
  have hand : ∀ u, Evaluates [] s u → safHand ((8 * ch + n) % 8) u = false := fun u hu => by
    rw [show (8 * ch + n) % 8 = n by omega, ← safHand_of_safStop stops]
    exact congrArg (· == 4) (safFunc_of_config (hu.pcfg small))
  have listed : 8 * ch + n ∈ (List.range 16).filter (fun i => safFunc (i % 8) s != 0) := by
    refine List.mem_filter.2 ⟨List.mem_range.2 (by omega), ?_⟩
    rw [show (8 * ch + n) % 8 = n by omega]
    simpa using safFunc_ne_zero stops
  refine (each_reaches (I := fun u => Evaluates [] s u ∧ (pairOf ch n u).stop = (pairOf ch n s).stop)
    (P := fun u => Evaluates [] s u ∧ (pairOf ch n u).state = armFirst s ∧ (pairOf ch n u).stop = (pairOf ch n s).stop)
    ⟨.refl _ s, rfl⟩ ?stand listed ?reach ?keep).2
  case stand =>
    rintro i _ u ⟨hu, delay⟩
    refine ⟨hu.trans (armPair_evaluates ..), ?_⟩
    obtain ⟨_, same⟩ | ⟨_, _, stop⟩ := pairOf_armPair ch n (armFirst s) i u
    · rw [same, delay]
    · rw [stop, delay]
  case reach =>
    rintro u ⟨hu, delay⟩
    refine ⟨hu.trans (armPair_evaluates ..), ?_⟩
    obtain ⟨other, _⟩ | ⟨_, state, stop⟩ := pairOf_armPair ch n (armFirst s) (8 * ch + n) u
    · exact absurd rfl other
    · rw [state, stop, hand u hu, delay]
      exact ⟨rfl, rfl⟩
  case keep =>
    rintro i _ u ⟨hu, begun, delay⟩
    refine ⟨hu.trans (armPair_evaluates ..), ?_⟩
    obtain ⟨_, same⟩ | ⟨rfl, state, stop⟩ := pairOf_armPair ch n (armFirst s) i u
    · rw [same]
      exact ⟨begun, delay⟩
    · rw [state, stop, hand u hu, delay]
      exact ⟨rfl, rfl⟩

/-! The evaluator armed. -/

/-- The evaluator as it arms, before the demands. -/
def armBegun (s : State) : State := jtagArmed (tumbleStop (armShown s))

theorem tumbleStop_saf (s : State) : (tumbleStop s).saf = s.saf := by
  rw [tumbleStop_eq, (EventsOnly.refl _).record.frame]
  rfl

theorem jtagArmed_frame (s : State) : (jtagArmed s).saf = s.saf ∧ (jtagArmed s).regs = s.regs := by
  unfold jtagArmed
  split <;> exact ⟨rfl, rfl⟩

theorem armBegun_saf (s : State) : (armBegun s).saf = { (armPairs s).saf with armAt := none } :=
  (jtagArmed_frame _).1.trans (tumbleStop_saf _)

theorem armBegun_pairs (s : State) : (armBegun s).saf.pairs = (armPairs s).saf.pairs := by
  rw [armBegun_saf]

theorem armBegun_copyB (s : State) : (armBegun s).saf.copyB = s.saf.copyB := by
  rw [armBegun_saf]
  exact (armPairs_evaluates s).copyB

theorem armBegun_mem (s : State) : (armBegun s).mem = s.mem := by
  refine (jtagArmed_evaluates _).mem.trans (.trans ?_ (armPairs_evaluates s).mem)
  rw [tumbleStop_eq, (EventsOnly.refl _).record.frame]
  rfl

/-- As it arms, ARMED shows and the lock-out stands as before. -/
theorem tumbleStop_armShown_stat (s : State) : armed (tumbleStop (armShown s)) = true ∧
    lockedOut (tumbleStop (armShown s)) = lockedOut s := by
  refine ⟨?_, ?_⟩
  · exact (stat_tumbleStop _ _).trans (on_setB _ _ (by decide) (by decide) _ _)
  · refine (stat_tumbleStop _ _).trans (.trans ?_ ((armPairs_evaluates s).flag (i := 5) (by decide)))
    exact congrArg (· != 0) (fl_setF_other _ ⟨5, 1⟩ ⟨0, 1⟩ (by decide) _ _)

theorem armBegun_stat (s : State) : armed (armBegun s) = true ∧ lockedOut (armBegun s) = lockedOut s := by
  obtain ⟨up, open_⟩ := tumbleStop_armShown_stat s
  have ended := jtagArmed_evaluates (tumbleStop (armShown s))
  exact ⟨(ended.flag (by decide)).trans up, (ended.flag (by decide)).trans open_⟩

/-- The functions' registers stand as the evaluator arms. -/
theorem armBegun_pcfg {n : Nat} (small : n < 8) (s : State) : rdW (Reg.SAF_PCFG n) (armBegun s) = rdW (Reg.SAF_PCFG n) s := by
  have apart : Reg.SAF_PCFG n ∉ evtRegs ∧ Reg.SAF_PCFG n ≠ Reg.TMB_STAT ∧ Reg.SAF_PCFG n ≠ Reg.TMB_CTL
      ∧ Reg.SAF_PCFG n ≠ Reg.SAF_STAT := by
    simp only [evtRegs, List.mem_cons, List.not_mem_nil, or_false, Reg.SAF_PCFG, Reg.EVT_NSEQ, Reg.EVT_STAT, Reg.EVT_EVT,
      Reg.EVT_LOST, Reg.EVT_UCVAL, Reg.EVT_UCWIN, Reg.TMB_STAT, Reg.TMB_CTL, Reg.SAF_STAT]
    omega
  obtain ⟨unit, tmbStat, ctl, stat⟩ := apart
  calc rdW (Reg.SAF_PCFG n) (armBegun s)
    _ = rdW (Reg.SAF_PCFG n) (tumbleStop (armShown s)) := (jtagArmed_evaluates _).pcfg small
    _ = rdW (Reg.SAF_PCFG n) (tumbleShown (armShown s)) := (EventsOnly.refl _).record.regs _ unit
    _ = rdW (Reg.SAF_PCFG n) (armShown s) :=
      (rdW_setF_ne tmbStat ..).trans ((rdW_setF_ne tmbStat ..).trans (rdW_wr_ne ctl ..))
    _ = rdW (Reg.SAF_PCFG n) (armPairs s) := rdW_setF_ne stat ..
    _ = rdW (Reg.SAF_PCFG n) s := (armPairs_evaluates s).pcfg small

/-- What arming ends in, whatever is demanded (R404). -/
theorem arms_effect (s : State) : armed (arms s) = true ∧ lockedOut (arms s) = lockedOut s ∧ (arms s).saf.armAt = none ∧
    (arms s).mem = s.mem := by
  obtain ⟨up, open_⟩ := tumbleStop_armShown_stat s
  have after := arms_evaluates s
  refine ⟨(after.flag (by decide)).trans up, (after.flag (by decide)).trans open_, ?_, ?_⟩
  · refine (congrArg SafSt.armAt after.standing).trans ?_
    show (tumbleStop (armShown s)).saf.armAt = none
    rw [tumbleStop_saf]
    rfl
  · exact after.mem.trans ((jtagArmed_evaluates _).mem.symm.trans (armBegun_mem s))

theorem pairOf_arms (ch n : Nat) (s : State) :
    pairOf ch n (arms s) = pairOf ch n (each (armWaits s) demandBoth (armBegun s)) :=
  (pairOf_of_pairs ((pairs_pathOn ..).trans (pairs_pathOn ..)) ch n).trans (pairOf_pairsShow ..)

/-- Without a demand, a stop function is in its first state. -/
theorem pairOf_arms_of_ready {s : State} (ready : armWaits s = []) {ch n : Nat} (channel : ch < 2) (small : n < 8)
    (stops : safStop n s = true) : (pairOf ch n (arms s)).state = armFirst s := by
  rw [pairOf_arms, ready]
  exact (congrArg SafPair.state (pairOf_of_pairs (armBegun_pairs s) ch n)).trans (pairOf_armPairs channel small stops).1

/-- Without a demand, a wait for a reset or a delay, both paths turn on. -/
theorem arms_paths {s : State} (open_ : lockedOut s = false) (alike : copiesSame s = true) (ready : armWaits s = [])
    (free : bitAt Reg.SAF_CFG 1 s = false) (delays : ∀ ch : Fin 2, ∀ n : Fin 8, (pairOf ch n s).stop = none) :
    on Reg.SAF_STAT Reg.SAF_STAT_PATHA (arms s) = true ∧ on Reg.SAF_STAT Reg.SAF_STAT_PATHB (arms s) = true := by
  obtain ⟨up, stands⟩ := armBegun_stat s
  have shown : Evaluates [] (armBegun s) (pairsShow (armBegun s)) := (Evaluates.refl [] _).pairsShow
  have up' : armed (pairsShow (armBegun s)) = true := (shown.flag (by decide)).trans up
  have open' : lockedOut (pairsShow (armBegun s)) = false := (shown.flag (by decide)).trans (stands.trans open_)
  have clear : ∀ ch : Fin 2, pathClear ch (pairsShow (armBegun s)) = true := fun ch => by
    refine pathClear_of_pairs up' open' (fun n small stops => ?_)
    have stop : safStop n s = true := by
      rw [← stopFn_of_copiesSame alike (ch := ch) small, ← stops]
      refine (stopFn_of_config ((shown.pcfg small).trans (armBegun_pcfg small s)) ?_ _).symm
      exact shown.copyB.trans (armBegun_copyB s)
    obtain ⟨state, delay⟩ := pairOf_armPairs ch.isLt small stop
    rw [pairOf_pairsShow, pairOf_of_pairs (armBegun_pairs s), state, delay]
    exact ⟨by unfold armFirst; rw [free]; rfl, delays ch ⟨n, small⟩⟩
  have effect : arms s = pathOn 1 (pathOn 0 (pairsShow (armBegun s))) := by
    unfold arms
    rw [ready]
    rfl
  rw [effect]
  exact paths_pathOn (clear 0) (clear 1)

/-- A demand in either channel puts or leaves channel A's pair in DEMAND. -/
theorem demandBoth_state {n m : Nat} {s : State} (given : n = m ∨ (pairOf 0 n s).state = 1) :
    (pairOf 0 n (demandBoth m s)).state = 1 := by
  obtain ⟨x, state, first⟩ := demand_pairs 0 m s
  obtain ⟨y, state', second⟩ := demand_pairs 1 m (demand 0 m s)
  unfold demandBoth pairOf
  rw [second, first, Tbl.get_put, Tbl.get_put]
  split
  · exact state'
  · split
    · exact state
    · rename_i other
      exact given.resolve_left (by omega)

/-- A stop input that waits is in DEMAND. -/
theorem pairOf_arms_of_waits {n : Nat} {s : State} (waits : n ∈ armWaits s) : (pairOf 0 n (arms s)).state = 1 := by
  rw [pairOf_arms]
  exact each_reaches (I := fun _ => True) (P := fun u => (pairOf 0 n u).state = 1) trivial (fun _ _ _ => id) waits
    (fun _ _ => demandBoth_state (.inl rfl)) (fun _ _ _ hu => demandBoth_state (.inr hu))

/-! The outcomes of the command (R404). -/

theorem armWaits_eq_nil {s : State} (ready : ∀ n : Fin 8, safStop n s = true → armReady n s = true) : armWaits s = [] := by
  refine List.filter_eq_nil_iff.2 (fun n mem => ?_)
  obtain ⟨small, stops⟩ := List.mem_filter.1 mem
  rw [ready ⟨n, List.mem_range.1 small⟩ stops]
  decide

theorem mem_armWaits {n : Nat} {s : State} (small : n < 8) (stops : safStop n s = true) (waits : armReady n s = false) :
    n ∈ armWaits s := List.mem_filter.2 ⟨List.mem_filter.2 ⟨List.mem_range.2 small, stops⟩, by rw [waits]; rfl⟩

/-- An input that counts open does not permit. -/
theorem armReady_of_open {n : Nat} {s : State} (open_ : bothClosed (pairOf 0 n s) = false) : armReady n s = false := by
  unfold armReady
  rw [open_]
  rfl

/-- Where every stop input permits or is open, those that wait are open. -/
theorem opened_of_mem_armWaits {s : State} (others : ∀ m : Fin 8, safStop m s = true → armReady m s = true ∨
    bothClosed (pairOf 0 m s) = false ∨ bothClosed (pairOf 1 m s) = false) : ∀ m ∈ armWaits s, opened m s = true := by
  intro m mem
  obtain ⟨stop, waiting⟩ := List.mem_filter.1 mem
  obtain ⟨small, isStop⟩ := List.mem_filter.1 stop
  unfold opened
  obtain ready | first | second := others ⟨m, List.mem_range.1 small⟩ isStop
  · rw [show armReady m s = true from ready] at waiting
    exact absurd waiting (by decide)
  · rw [show bothClosed (pairOf 0 m s) = false from first]
    rfl
  · rw [show bothClosed (pairOf 1 m s) = false from second]
    exact Bool.or_true _

/-- Where every stop input permits, the evaluator arms. -/
theorem armComplete_of_ready {a : Nat} {s : State} (begun : s.saf.armAt = some a) (used : safOn s = true)
    (off : armed s = false) (open_ : lockedOut s = false) (alike : copiesSame s = true) (low : s.saf.armLow.isSome = true)
    (ready : armWaits s = []) : armComplete true s = arms s := by
  obtain ⟨u, hu⟩ := Option.isSome_iff_exists.1 low
  rw [armComplete_of_low begun used off open_ alike hu, ready]
  rfl

/-- Where a stop input waits and its time is not over, nothing happens. -/
theorem armComplete_of_early {a u n : Nat} {s : State} (begun : s.saf.armAt = some a) (low : s.saf.armLow = some u)
    (alike : copiesSame s = true) (waits : n ∈ armWaits s) (early : s.lt < u + tpperEu s) : armComplete true s = s := by
  by_cases stands : (!safOn s || armed s || lockedOut s) = true
  · unfold armComplete
    simp only [begun]
    rw [if_pos stands]
  · simp only [Bool.or_eq_true, Bool.not_eq_true', not_or, Bool.not_eq_false, Bool.not_eq_true] at stands
    obtain ⟨⟨used, off⟩, open_⟩ := stands
    rw [armComplete_of_low begun used off open_ alike low, if_pos]
    have some_ : armWaits s ≠ [] := List.ne_nil_of_mem waits
    simp [some_, early]

/-- When the time is over, the evaluator arms with the demands of the inputs that are open. -/
theorem armComplete_of_over {a u : Nat} {s : State} (begun : s.saf.armAt = some a) (used : safOn s = true)
    (off : armed s = false) (open_ : lockedOut s = false) (alike : copiesSame s = true) (low : s.saf.armLow = some u)
    (late : u + tpperEu s ≤ s.lt) (open' : ∀ m ∈ armWaits s, opened m s = true) : armComplete true s = arms s := by
  rw [armComplete_of_low begun used off open_ alike low, if_neg (by simp [late]), if_neg]
  rw [List.any_eq_true]
  rintro ⟨m, mem, closed⟩
  rw [open' m mem] at closed
  exact absurd closed (by decide)

/-- Settles O55: each check by its rule; a detection locks out as every lock-out does, a reset and arming end in their paths. -/
theorem safetyChannelsAndReset : Obligations.SafetyChannelsAndReset := by
  refine ⟨?equal, ?differ, ?ninth, ?early, ?beat, ?beating, ?clock, ?inTime, ?fault, ?permits, ?verified, ?disagree, ?agrees, ?proof,
    ?reset, ?refused, ?short, ?ready, ?stored, ?waits, ?demands, ?high, ?repeats, ?permitted, ?low, ?differs, ?held, ?released,
    ?accepted, ?rejected⟩
  case equal =>
    intro ch s used due toggled same
    have effect := exchange_of_due used due
    rw [if_pos same] at effect
    obtain ⟨beat, good⟩ := beat_exchanged (n := 0) toggled
    exact ⟨_, congrArg Host.Outcome.next effect, mis_exchanged .., beat, good, rfl⟩
  case differ =>
    intro ch s used due toggled other few
    have effect := exchange_of_due used due
    rw [if_neg other] at effect
    dsimp only at effect
    rw [if_neg (by omega)] at effect
    exact ⟨_, congrArg Host.Outcome.next effect, mis_exchanged .., (beat_exchanged toggled).1, rfl⟩
  case ninth =>
    intro ch s used open_ due other eight
    have effect := exchange_of_due used due
    rw [if_neg other, eight] at effect
    exact ⟨_, congrArg Host.Outcome.next effect, lockOut_locksOut (s := exchanged ch 9 s) (configured_of_safOn used) open_ (by decide)⟩
  case early => exact fun ch s early => congrArg Host.Outcome.next (exchange_of_early early)
  case beat =>
    intro ch s used open_ good late
    refine ⟨_, congrArg Host.Outcome.next (beatTimeout_of_late used good late), ?_, ?_⟩
    · obtain ⟨beats, _⟩ := found_lockOut (s := unbeaten ch s) open_ 5 0
      rw [beats]
      exact beatBad_unbeaten ..
    · exact lockOut_locksOut (s := unbeaten ch s) (configured_of_safOn used) open_ (by decide)
  case beating => exact fun ch s early => congrArg Host.Outcome.next (beatTimeout_of_early early)
  case clock =>
    intro ch ppm s used open_ due bad
    have effect := clockCheck_of_due (ppm := ppm.toInt) used due
    rw [if_pos bad] at effect
    refine ⟨_, congrArg Host.Outcome.next effect, ?_, ?_⟩
    · obtain ⟨_, clocks, _⟩ := found_lockOut (s := measured ch true s) open_ 6 0
      rw [clocks]
      exact clkBad_measured ..
    · exact lockOut_locksOut (s := measured ch true s) (configured_of_safOn used) open_ (by decide)
  case inTime =>
    intro ch ppm s used due good
    have effect := clockCheck_of_due (ppm := ppm.toInt) used due
    rw [if_neg (by omega)] at effect
    exact ⟨_, congrArg Host.Outcome.next effect, clkBad_measured .., rfl⟩
  case fault =>
    intro d s used open_ pend due wrong
    have effect := fbTimeout_of_due used pend due
    rw [if_neg (by simp [wrong])] at effect
    obtain ⟨_, recorded, locks⟩ := fbFault_effect (s := setSaf (fun p => { p with fbPend := none }) s)
      (configured_of_safOn used) open_
    exact ⟨_, congrArg Host.Outcome.next effect, recorded, locks⟩
  case permits =>
    intro d s used pend due right permits
    have effect := fbTimeout_of_due used pend due
    rw [if_pos right, fbVerified_of_on permits] at effect
    exact congrArg Host.Outcome.next effect
  case verified =>
    intro d s used pend due right off
    have effect := fbTimeout_of_due used pend due
    rw [if_pos right] at effect
    obtain ⟨proof, flag, _⟩ := fbVerified_effect off
    have restarted := fbVerified_of_off off
    refine ⟨_, congrArg Host.Outcome.next effect, ?_, ?_, proof, flag, fbVerified_regs s, ?_, ?_⟩ <;> rw [restarted] <;> rfl
  case disagree =>
    intro d s used open_ since late
    have effect := fbDisagree_of_some since
    rw [if_pos (by simp [used, late])] at effect
    obtain ⟨kept, recorded, locks⟩ := fbFault_effect (s := setSaf (fun p => { p with fbDis := none }) s)
      (configured_of_safOn used) open_
    exact ⟨_, congrArg Host.Outcome.next effect, kept rfl, recorded, locks⟩
  case agrees =>
    intro d s since early
    have effect := fbDisagree_of_some since
    rw [if_neg (by simp [early])] at effect
    exact congrArg Host.Outcome.next effect
  case proof =>
    rintro h d s used rfl time set_ late fresh_
    obtain ⟨hours, flag, recorded, stat⟩ := proofEnded_effect (configured_of_safOn used)
    refine ⟨_, congrArg Host.Outcome.next (proofDue_of_due used time set_ late fresh_), hours, flag, recorded, stat 5 (by decide),
      stat 1 (by decide), stat 2 (by decide), ?_, ?_⟩
    all_goals
      rw [(EventsOnly.refl _).record.frame]
      unfold proofEnded
      rw [proofShow_frame]
      rfl
  case reset =>
    intro pa pb s used first second chA chB
    obtain ⟨open_, lock, pairs, recorded, flag, mem⟩ := resetEnd_resetDone_effect used
    refine ⟨_, congrArg Host.Outcome.next (srstRelease_of_accepted used (asked_eq_true first) (asked_eq_true second) chA chB),
      open_, lock, fun ch n waits => ?_, recorded, flag, resetEnd_paths, mem⟩
    rw [pairs]
    exact readied_state waits
  case refused =>
    intro pa pb s used first refused
    have stops : (asked pa.toNat && asked pb.toNat && resetOk 0 s && resetOk 1 s) = false := by
      obtain h | h | h := refused
      · simp [h]
      · simp [h]
      · simp [asked_eq_false h]
    obtain ⟨recorded, flag, stat⟩ := resetRefused_effect s
    refine ⟨_, congrArg Host.Outcome.next (srstRelease_of_refused used (asked_eq_true first) stops), recorded, flag, stat _, ?_,
      stat _, stat _, ?_, ?_⟩ <;> rw [(EventsOnly.refl _).record.frame] <;> rfl
  case short =>
    exact fun pa pb s first second =>
      congrArg Host.Outcome.next (srstRelease_of_short (asked_eq_false first) (asked_eq_false second))
  case ready =>
    intro a s begun used off open_ alike low ready
    have none_ := armWaits_eq_nil ready
    obtain ⟨up, stands, ended, mem⟩ := arms_effect s
    obtain ⟨_, _, saflock, _⟩ := arms_tumble (configured_of_safOn used)
    exact ⟨_, congrArg Host.Outcome.next (armComplete_of_ready begun used off open_ alike low none_), up, ended,
      fun ch n stops => pairOf_arms_of_ready none_ ch.isLt n.isLt stops, saflock, stands.trans open_,
      fun free delays => arms_paths open_ alike none_ free delays, mem⟩
  case stored =>
    intro a s begun used off open_
    refine ⟨_, congrArg Host.Outcome.next (armComplete_of_differ (same := false) begun used off open_ rfl), ?_, ?_, ?_⟩
    · exact (flag_lockOut (s := setSaf (fun p => { p with differ := true }) s) open_ 7 0 (i := 0) (by decide) (by decide)).trans off
    · obtain ⟨_, _, copies⟩ := found_lockOut (s := setSaf (fun p => { p with differ := true }) s) open_ 7 0
      rw [copies]
      rfl
    · exact lockOut_locksOut (s := setSaf (fun p => { p with differ := true }) s) (configured_of_safOn used) open_ (by decide)
  case waits =>
    exact fun a u n s begun low alike stops waits early =>
      congrArg Host.Outcome.next (armComplete_of_early begun low alike (mem_armWaits n.isLt stops waits) early)
  case demands =>
    intro a u n s begun used off open_ alike low late stops closed others
    obtain ⟨up, stands, _, mem⟩ := arms_effect s
    exact ⟨_, congrArg Host.Outcome.next (armComplete_of_over begun used off open_ alike low late (opened_of_mem_armWaits others)),
      up, pairOf_arms_of_waits (mem_armWaits n.isLt stops (armReady_of_open closed)), stands.trans open_, mem⟩
  case high =>
    intro a s begun used off open_ alike high late
    have effect := armComplete_of_high begun used off open_ alike high
    rw [if_pos late] at effect
    exact ⟨_, congrArg Host.Outcome.next effect, (flag_lockOut open_ 7 0 (i := 0) (by decide) (by decide)).trans off,
      lockOut_locksOut (configured_of_safOn used) open_ (by decide)⟩
  case repeats =>
    intro s used off due
    have effect := pathARepeat_of_due used off due
    have frame := sendOffs_frame (List.range 24) 15 (setSaf (fun p => { p with offAt := s.lt }) s)
    refine ⟨_, congrArg Host.Outcome.next effect, ?_, ?_, fun n up => ?_, fun n down => ?_⟩
    · rw [frame]
      rfl
    · rw [frame]
      rfl
    · exact offMask_sendOffs (s := setSaf (fun p => { p with offAt := s.lt }) s) (List.mem_range.2 n.isLt) up 15
    · exact lnkOf_sendOffs_of_down (s := setSaf (fun p => { p with offAt := s.lt }) s) down (List.range 24) 15
  case permitted =>
    intro s permits
    refine congrArg Host.Outcome.next ?_
    unfold pathARepeat
    simp [permits]
  case low =>
    intro second d s used pend off other
    obtain ⟨off', low, effect⟩ := fbChange_of_fallen used pend off other
    obtain ⟨proof, flag, _⟩ := fbVerified_effect off'
    have restarted := fbVerified_of_off off'
    refine ⟨_, congrArg Host.Outcome.next effect, ?_, ?_, proof, flag, (fbLow_fbVerified off').trans low,
      ((regsKept.refl _ s).wrW (by simp)).trans (fbVerified_regs _), ?_⟩ <;> rw [restarted] <;> rfl
  case differs =>
    intro second level s used pend begun differs
    exact ⟨_, congrArg Host.Outcome.next (fbChange_of_wrong used pend begun (fbRight_fbShown differs)), rfl,
      on_fbShown second level s, (regsKept.refl _ s).wrW (by simp), rfl⟩
  case held => exact fun _ => rfl
  case released => exact fun _ => rfl
  case accepted =>
    intro i s free test
    refine congrArg Host.Outcome.next (if_neg ?_)
    cases drives : jtagDrives i with
    | false => simp [free]
    | true =>
      obtain ⟨mode, off⟩ := test drives
      simp [free, mode, off]
  case rejected =>
    intro i s barred
    refine congrArg Host.Outcome.next (if_pos ?_)
    obtain held | ⟨drives, mode | up⟩ := barred
    · simp [held]
    · simp [drives, mode]
    · simp [drives, up]

end Sys2Proof.Machine
end

section
/-! SUPPORT. Half-bridges that a trip or a short circuit holds off (R158, R223, R230), and what the reactions to it leave:
records, memory, every hold, and the protection's own words. -/

namespace Sys2Proof.Machine

/-- A half-bridge is held with cause TRIP and neither switch is on (R158, R223). -/
structure HeldOff (h : Nat) (s : State) : Prop where
  state : hbState h s ≠ 0
  cause : (hbCause h s).testBit 1 = true
  high : on (Reg.PGN_HSTAT h) Reg.PGN_HSTAT_HION s = false
  low : on (Reg.PGN_HSTAT h) Reg.PGN_HSTAT_LOON s = false

/-- The hold shows in one word. -/
theorem HeldOff.of_word {h : Nat} {s t : State} (held : HeldOff h s)
    (word : rdW (Reg.PGN_HSTAT h) t = rdW (Reg.PGN_HSTAT h) s) : HeldOff h t := by
  obtain ⟨state, cause, high, low⟩ := held
  unfold hbState fl at state
  unfold hbCause fl at cause
  unfold on fl at high low
  rw [← word] at state cause high low
  exact ⟨state, cause, high, low⟩

/-- The safe state turns both switches off (R158). -/
theorem safeHb_switches (h : Nat) (s : State) : on (Reg.PGN_HSTAT h) Reg.PGN_HSTAT_HION (safeHb h s) = false ∧
    on (Reg.PGN_HSTAT h) Reg.PGN_HSTAT_LOON (safeHb h s) = false := by
  unfold safeHb
  extract_lets lows cut t1 x t2 t3 k mine
  have apart : Reg.PGN_HSTAT h ≠ Reg.PGN_HEVT h := by
    unfold Reg.PGN_HSTAT Reg.PGN_HEVT
    omega
  have high : on (Reg.PGN_HSTAT h) Reg.PGN_HSTAT_HION t3 = false := by
    refine (congrArg (· != 0) (fl_setF_ne apart ..)).trans ?_
    exact on_setB _ _ (by decide) (by decide) _ _
  have low : on (Reg.PGN_HSTAT h) Reg.PGN_HSTAT_LOON t3 = false := by
    refine (congrArg (· != 0) ((fl_setF_ne apart ..).trans (fl_setF_other _ _ _ (by decide) _ _))).trans ?_
    exact on_setB _ _ (by decide) (by decide) _ _
  split
  · have word : rdW (Reg.PGN_HSTAT h) (legOff (h - 96) t3) = rdW (Reg.PGN_HSTAT h) t3 := by
      unfold rdW
      rw [(legOff_frame _ t3).1]
    unfold on fl at high low ⊢
    rw [word]
    exact ⟨high, low⟩
  · exact ⟨high, low⟩

theorem holdHb_switches {h : Nat} {s : State} (used : hbUsed h s = true) (cause : Nat) :
    on (Reg.PGN_HSTAT h) Reg.PGN_HSTAT_HION (holdHb cause h s) = false ∧
      on (Reg.PGN_HSTAT h) Reg.PGN_HSTAT_LOON (holdHb cause h s) = false := by
  unfold holdHb
  rw [if_pos used]
  exact safeHb_switches h _

/-- A half-bridge in use that is held with cause TRIP is held off. -/
theorem heldOff_holdHb {h : Nat} {s : State} (used : hbUsed h s = true) : HeldOff h (holdHb holdTrip h s) :=
  ⟨hbState_holdHb used _, hbCause_holdHb used (by decide) (by decide), (holdHb_switches used _).1, (holdHb_switches used _).2⟩

/-- Another hold leaves a half-bridge off. -/
theorem HeldOff.holdHb {h : Nat} {s : State} (held : HeldOff h s) (cause j : Nat) : HeldOff h (holdHb cause j s) := by
  by_cases used : hbUsed j s = true
  · by_cases same : h = j
    · subst same
      exact ⟨hbState_holdHb used _, (Unreleased.holdHb (.refl s)).cause h 1 held.cause, (holdHb_switches used _).1,
        (holdHb_switches used _).2⟩
    · refine held.of_word ((holdHb_silent cause j s).regs _ ?_)
      simp only [List.mem_cons, List.not_mem_nil, or_false, Reg.PGN_HSTAT, Reg.PGN_HEVT]
      omega
  · unfold Machine.holdHb
    rwa [if_neg used]

/-- The OFFs sent for half-bridges show in no register. -/
theorem HeldOff.sendOffs {h : Nat} {s : State} (held : HeldOff h s) (hs : List Nat) : HeldOff h (sendOffs hs s) := by
  have sent : regsKept [] s (Machine.sendOffs hs s) :=
    .each (.refl _ _) (fun _ _ _ hu => hu.when (fun _ hv => hv.elsewhere))
  exact held.of_word (sent _ List.not_mem_nil)

/-- Holds and the OFFs sent for them leave a half-bridge off. -/
theorem HeldOff.holdMany {h : Nat} {s : State} (held : HeldOff h s) (cause : Nat) (hs : List Nat) :
    HeldOff h (holdMany cause hs s) := by
  have others : HeldOff h (each (hs.filter (fun j => hbUsed j s)) (Machine.holdHb cause) s) :=
    each_induct held (fun j _ _ hu => hu.holdHb cause j)
  exact others.sendOffs _

/-- A half-bridge in use is held off with those that are held with it. -/
theorem heldOff_holdMany {h : Nat} {hs : List Nat} {s : State} (bridges : ∀ j ∈ hs, j < 104) (listed : h ∈ hs)
    (used : hbUsed h s = true) : HeldOff h (holdMany holdTrip hs s) := by
  have held : HeldOff h (each (hs.filter (fun j => hbUsed j s)) (holdHb holdTrip) s) := by
    refine each_reaches (I := fun u => hbUsed h u = true) used (fun j mem u hu => ?_) (List.mem_filter.2 ⟨listed, used⟩)
      (fun u hu => heldOff_holdHb hu) (fun j _ u hu => hu.holdHb holdTrip j)
    exact ((holdHb_bridge holdTrip (bridges j (List.mem_of_mem_filter mem)) u).hbUsed h).trans hu
  exact held.sendOffs _

/-! The time of the next threshold check (R235): a leg that goes low may take back a turn-on, and no time. -/

theorem dacAt_legOff (n : Nat) (s : State) : (legOff n s).prt.dacAt = s.prt.dacAt := by
  have rises : (legRise n s).prt = s.prt := by
    unfold legRise
    split <;> rfl
  unfold legOff
  extract_lets late
  clear_value late
  split
  · rfl
  · unfold when
    split
    · exact congrArg PrtSt.dacAt rises
    · exact congrArg PrtSt.dacAt rises

theorem dacAt_safeHb (h : Nat) (s : State) : (safeHb h s).prt.dacAt = s.prt.dacAt := by
  unfold safeHb
  extract_lets lows cut t1 x t2 t3 k mine
  have counted : t1.prt.dacAt = s.prt.dacAt := each_induct (P := fun u => u.prt.dacAt = s.prt.dacAt) rfl (fun _ _ _ hu => hu)
  split
  · exact (dacAt_legOff _ t3).trans counted
  · exact counted

theorem dacAt_holdHb (cause h : Nat) (s : State) : (holdHb cause h s).prt.dacAt = s.prt.dacAt := by
  unfold holdHb
  split
  · rw [dacAt_safeHb]
    unfold when
    split <;> rfl
  · rfl

theorem dacAt_holdMany (cause : Nat) (hs : List Nat) (s : State) : (holdMany cause hs s).prt.dacAt = s.prt.dacAt := by
  unfold holdMany sendOffs
  refine each_induct (P := fun u => u.prt.dacAt = s.prt.dacAt) ?_ (fun n _ u hu => ?_)
  · exact each_induct (P := fun u => u.prt.dacAt = s.prt.dacAt) rfl (fun j _ u hu => (dacAt_holdHb cause j u).trans hu)
  · unfold sendOff when
    split <;> exact hu

/-! What the reactions leave. -/

/-- The registers that the reactions of the protection may change: those of pulses, the causes of G5 and G3, the derating, and of
the protection's own words PRT_STAT, PRT_EVT and the alarm flags. -/
def guardRegs : List Nat :=
  pulseRegs ++ causeRegs ++ (List.range 4).map Reg.DRM_DERN
    ++ [Reg.PRT_STAT, Reg.PRT_EVT, Reg.PRT_AFLAG0, Reg.PRT_AFLAG1, Reg.PRT_AFLAG2]

theorem mem_guardRegs {a : Nat} : a ∈ guardRegs ↔ a ∈ pulseRegs ∨ a ∈ causeRegs ∨ (∃ st < 4, Reg.DRM_DERN st = a) ∨
    a = Reg.PRT_STAT ∨ a = Reg.PRT_EVT ∨ a = Reg.PRT_AFLAG0 ∨ a = Reg.PRT_AFLAG1 ∨ a = Reg.PRT_AFLAG2 := by
  simp [guardRegs]

theorem pulseRegs_subset_guardRegs : pulseRegs ⊆ guardRegs := fun _ mem => mem_guardRegs.2 (.inl mem)

theorem causeRegs_subset_guardRegs : causeRegs ⊆ guardRegs := fun _ mem => mem_guardRegs.2 (.inr (.inl mem))

/-- The settings and flags of the protection up to PRT_CFLAG1, and those of short circuits, are none of them. -/
theorem not_mem_guardRegs {a : Nat} (own : Reg.PRT_TCFG 0 ≤ a ∧ a ≤ Reg.PRT_CFLAG1 ∨ a = Reg.PRT_SCCFG) : a ∉ guardRegs := by
  have bounds : 0x40070000 ≤ a ∧ a ≤ 0x4007101C ∧ (a ≤ 0x4007100C ∨ a = 0x4007101C) := by
    simp only [Reg.PRT_TCFG, Reg.PRT_CFLAG1, Reg.PRT_SCCFG] at own
    omega
  rw [mem_guardRegs]
  simp only [causeRegs, List.mem_cons, List.mem_map, List.mem_range, Reg.PRT_STAT, Reg.PRT_EVT, Reg.PRT_AFLAG0,
    Reg.PRT_AFLAG1, Reg.PRT_AFLAG2, Reg.EVT_G5CAUSE]
  rintro (pulse | (g5 | ⟨st, small, rfl⟩) | ⟨st, small, rfl⟩ | e | e | e | e | e)
  · rcases address_of_mem_pulseRegs pulse with unit | ⟨low, -⟩
    · simp only [evtRegs, List.mem_cons, List.not_mem_nil, or_false, Reg.EVT_NSEQ, Reg.EVT_STAT, Reg.EVT_EVT, Reg.EVT_LOST,
        Reg.EVT_UCVAL, Reg.EVT_UCWIN] at unit
      omega
    · omega
  all_goals
    try simp only [Reg.DRM_STAT, Reg.DRM_DERN] at bounds
    omega

end Sys2Proof.Machine
end

section
/-! SUPPORT. The reactions that follow a trip or a short circuit (R158, R159, R208, R210, R223, R230, R231). -/

namespace Sys2Proof.Machine

/-- From `s` to `t` the protection has reacted: records and memory stand, and so do the half-bridges held off, the protection's
own settings and flags, and the time of the next threshold check. -/
structure Protects (s t : State) : Prop where
  reacts : Reacts s t
  regs : regsKept guardRegs s t
  off : ∀ h < 104, HeldOff h s → HeldOff h t
  dacAt : t.prt.dacAt = s.prt.dacAt

/-- The Stage of a half-bridge is one of four (R139). -/
theorem hbStage_lt (h : Nat) (s : State) : hbStage h s < 4 := fldGet_lt Reg.PGN_CCFG_STAGE _

theorem noFlags_of_above {a : Nat} (high : 0x40053A00 ≤ a) : NoFlags a := fun h small => by
  unfold Reg.PGN_HEVT
  omega

/-- A register of the reactions that is no half-bridge's: above the half-bridges, or below them. -/
def BesideBridges (a : Nat) : Prop := a ∈ guardRegs ∧ (a < 0x40052000 ∨ 0x40053A00 ≤ a)

theorem BesideBridges.apart {a : Nat} (beside : BesideBridges a) {h : Nat} (small : h < 104) :
    Reg.PGN_HSTAT h ≠ a ∧ Reg.PGN_HEVT h ≠ a := by
  obtain ⟨-, out⟩ := beside
  unfold Reg.PGN_HSTAT Reg.PGN_HEVT
  omega

theorem BesideBridges.noFlags {a : Nat} (beside : BesideBridges a) : NoFlags a := fun _ small => (beside.apart small).2

theorem besideBridges_sstat {st : Nat} (small : st < 4) : BesideBridges (Reg.PGN_SSTAT st) :=
  ⟨pulseRegs_subset_guardRegs (sstat_mem_pulseRegs small), by unfold Reg.PGN_SSTAT; omega⟩

theorem besideBridges_istat {n : Nat} (small : n < 128) : BesideBridges (Reg.STI_ISTAT n) :=
  ⟨pulseRegs_subset_guardRegs (istat_mem_pulseRegs small), by unfold Reg.STI_ISTAT; omega⟩

theorem besideBridges_dern {st : Nat} (small : st < 4) : BesideBridges (Reg.DRM_DERN st) :=
  ⟨mem_guardRegs.2 (.inr (.inr (.inl ⟨st, small, rfl⟩))), by unfold Reg.DRM_DERN; omega⟩

theorem besideBridges_drm {st : Nat} (small : st < 4) : BesideBridges (Reg.DRM_STAT st) :=
  ⟨causeRegs_subset_guardRegs (List.mem_cons_of_mem _ (List.mem_map_of_mem (List.mem_range.2 small))), by
    unfold Reg.DRM_STAT
    omega⟩

theorem besideBridges_g5cause : BesideBridges Reg.EVT_G5CAUSE :=
  ⟨causeRegs_subset_guardRegs (List.mem_cons_self ..), .inr (by decide)⟩

theorem besideBridges_stat : BesideBridges Reg.PRT_STAT := ⟨mem_guardRegs.2 (by simp), .inr (by decide)⟩

theorem besideBridges_evt : BesideBridges Reg.PRT_EVT := ⟨mem_guardRegs.2 (by simp), .inr (by decide)⟩

theorem besideBridges_aflagReg (h : Nat) : BesideBridges (aflagReg h) := by
  have one : aflagReg h = Reg.PRT_AFLAG0 ∨ aflagReg h = Reg.PRT_AFLAG1 ∨ aflagReg h = Reg.PRT_AFLAG2 := by
    unfold aflagReg
    split_ifs <;> simp
  refine ⟨mem_guardRegs.2 (by tauto), .inr ?_⟩
  simp only [Reg.PRT_AFLAG0, Reg.PRT_AFLAG1, Reg.PRT_AFLAG2] at one
  omega

namespace Protects

variable {s t u : State} {a h n st d : Nat}

theorem refl (s : State) : Protects s s := ⟨.refl s, .refl _ s, fun _ _ => id, rfl⟩

theorem trans (r : Protects s t) (g : Protects t u) : Protects s u :=
  ⟨r.reacts.trans g.reacts, r.regs.trans g.regs, fun h small held => g.off h small (r.off h small held),
    g.dacAt.trans r.dacAt⟩

/-- A change that the reactions make beside registers. -/
theorem elsewhere (r : Protects s t) (reacts : Reacts t u) (regs : u.regs = t.regs := by rfl)
    (prt : u.prt.dacAt = t.prt.dacAt := by rfl) : Protects s u :=
  r.trans ⟨reacts, .elsewhere (.refl _ t) regs, fun _ _ held => held.of_word (by unfold rdW; rw [regs]), prt⟩

theorem wrW (r : Protects s t) (beside : BesideBridges a) {w : Word} : Protects s (wrW a w t) :=
  r.trans ⟨(Reacts.refl t).wrW beside.noFlags, (regsKept.refl _ t).wrW beside.1,
    fun _ small held => held.of_word ((rdW_wrW ..).trans (if_neg (beside.apart small).1)), rfl⟩

theorem setF (r : Protects s t) (beside : BesideBridges a) {F : Fld} {v : Nat} : Protects s (setF a F v t) := r.wrW beside

theorem setB (r : Protects s t) (beside : BesideBridges a) {F : Fld} {b : Bool} : Protects s (setB a F b t) := r.wrW beside

/-- The event unit at work. -/
theorem events (r : Protects s t) (g : EventsOnly t u) : Protects s u := by
  have unit : evtRegs ⊆ guardRegs := List.Subset.trans evtRegs_subset_pulseRegs pulseRegs_subset_guardRegs
  refine r.trans ⟨(Reacts.refl t).events g, (regsKept.refl _ t).events unit g, fun h small held => ?_, ?_⟩
  · exact held.of_word (g.regs _ (fun unit => not_holdReg_of_evtRegs unit (.bridge h)))
  · rw [g.frame]

theorem record (r : Protects s t) {src grade detail : Nat} {stg : Option Nat} :
    Protects s (record src grade detail stg t) := r.events (EventsOnly.refl t).record

theorem when (r : Protects s t) {c : Bool} {f : State → State} (hf : ∀ u, Protects s u → Protects s (f u)) :
    Protects s (when c f t) := by
  unfold Machine.when
  split
  · exact hf _ r
  · exact r

theorem each {α : Type} (r : Protects s t) {l : List α} {f : α → State → State}
    (hf : ∀ x ∈ l, ∀ u, Protects s u → Protects s (f x u)) : Protects s (each l f t) := each_induct r hf

theorem holdMany (r : Protects s t) {cause : Nat} {hs : List Nat} (bridges : ∀ h ∈ hs, h < 104) :
    Protects s (holdMany cause hs t) :=
  r.trans ⟨(Reacts.refl t).holdMany, (regsKept.refl _ t).holdMany pulseRegs_subset_guardRegs bridges,
    fun _ _ held => held.holdMany cause hs, dacAt_holdMany cause hs t⟩

/-! Grades (R108, R162, R208, R210). -/

theorem trackIn (r : Protects s t) (small : n < 128) : Protects s (trackIn n t) := by
  unfold Machine.trackIn
  extract_lets mode
  split
  · exact r
  · exact .setF (r.elsewhere (Reacts.refl t).setInst) (besideBridges_istat small)

theorem pulsesOff (r : Protects s t) (small : st < 4) : Protects s (pulsesOff st d t) :=
  .holdMany (.each (.when (r.setB (besideBridges_sstat small)) (fun _ hu => hu.record))
    (fun _ mem _ hu => hu.trackIn (lt_of_mem_instsOf mem))) (fun _ => lt_of_mem_hbsOf)

theorem under (r : Protects s t) {src detail : Nat} {f : State → State} (hf : ∀ u, Protects s u → Protects s (f u)) :
    Protects s (under src detail f t) :=
  (hf _ (r.elsewhere (Reacts.refl t).anchor)).elsewhere (Reacts.refl _).anchor

theorem addG3 (r : Protects s t) (small : st < 4) {c : Cause} : Protects s (addG3 st c t) :=
  .setB (r.elsewhere (Reacts.refl t).setEvt) (besideBridges_drm small)

theorem addG5 (r : Protects s t) {c : Cause} : Protects s (addG5 st c t) :=
  .setB (r.elsewhere (Reacts.refl t).setEvt) besideBridges_g5cause

theorem gradeG3 (r : Protects s t) (small : st < 4) {c : Option Cause} : Protects s (gradeG3 st c t) := by
  unfold Machine.gradeG3
  extract_lets t1 t2
  have counted : Protects s t1 := r.setF (besideBridges_dern small)
  have noted : Protects s t2 := by
    cases c with
    | none => exact counted
    | some c => exact counted.addG3 small
  exact noted.record

theorem gradeG5 (r : Protects s t) (small : st < 4) {c : Option Cause} : Protects s (gradeG5 st c t) := by
  unfold Machine.gradeG5 gradeG5For
  extract_lets was t1 t2 _ t3 t4 t5
  have locked : Protects s t1 := r.setB besideBridges_g5cause
  have noted : Protects s t2 := by
    cases c with
    | none => exact locked
    | some c => exact locked.addG5
  have skipped : Protects s t3 := noted.elsewhere (Reacts.refl t2).setEvt
  have shown : Protects s t5 := skipped.elsewhere (Reacts.refl t3).setDrm
  exact .pulsesOff (shown.when (fun _ hu => hu.record)) small

/-- The retirement of a half-bridge is recorded, and its safe state waits (R159, R215). -/
theorem retireHb (r : Protects s t) : Protects s (retireHb h t) := by
  unfold Machine.retireHb
  split
  · exact r
  · refine .when ?_ (fun _ hu => hu.under (fun _ hv => hv.gradeG5 (hbStage_lt ..)))
    have noted : Protects s { t with par := { t.par with power := t.par.power ++ [h] } } :=
      r.elsewhere (Reacts.refl t).elsewhere
    exact noted.record.elsewhere (.setEvt (.refl _) (react := fun _ mem => List.mem_append_left _ mem))

/-- PRT_STAT shows what is active (R236). -/
theorem prtShow (r : Protects s t) : Protects s (prtShow t) := (r.setF besideBridges_stat).setF besideBridges_stat

end Protects

end Sys2Proof.Machine
end

section
/-! SUPPORT. Trip inputs that assert, and the clearing of the protection's flags (R222-R225, R233). -/

namespace Sys2Proof.Machine

/-! Words of the protection, read after a write. -/

theorem on_setB_ne {a b : Nat} (apart : a ≠ b) (F G : Fld) (v : Bool) (s : State) : on a F (setB b G v s) = on a F s :=
  congrArg (· != 0) (fl_setF_ne apart ..)

theorem on_setB_other (a : Nat) (F G : Fld) (apart : F.lo + F.width ≤ G.lo ∨ G.lo + G.width ≤ F.lo) (v : Bool) (s : State) :
    on a F (setB a G v s) = on a F s := congrArg (· != 0) (fl_setF_other a F G apart ..)

theorem bitAt_setBitAt {k : Nat} (small : k < 32) (a : Nat) (b : Bool) (s : State) : bitAt a k (setBitAt a k b s) = b :=
  on_setB a _ (show k + 1 ≤ 32 by omega) Nat.one_pos b s

theorem regsKept.bitAt {l : List Nat} {s t : State} (r : regsKept l s t) {a : Nat} (other : a ∉ l) (k : Nat) :
    bitAt a k t = bitAt a k s := r.on other _

/-- Above the half-bridges lies none of their registers. -/
theorem not_mem_bridgeRegs_of_above {a : Nat} (high : 0x40053A00 ≤ a) : a ∉ bridgeRegs := by
  rw [mem_bridgeRegs]
  rintro ⟨h, small, e | e | e | e⟩
  all_goals
    simp only [Reg.PGN_ACC, Reg.PGN_HEVT, Reg.PGN_CMPA, Reg.PGN_HSTAT] at e
    omega

/-! A trip input that asserts (R222, R223). -/

/-- The grade that TGRADE selects (R223). -/
def gradeOfTgrade : Nat → Nat
  | 0 => 0
  | 1 => 3
  | _ => 5

/-- The registers in which an assertion is noted. -/
def tripRegs : List Nat := [Reg.PRT_TLEVEL, Reg.PRT_TFLAG, Reg.PRT_EVT]

/-- An assertion is noted: the direct legs of the mask go low, and the level, the flag and TRIP show it. -/
def tripNoted (n : Nat) (s : State) : State :=
  let u := setBitAt Reg.PRT_TLEVEL n true s
  setB Reg.PRT_EVT Reg.PRT_EVT_TRIP true (setBitAt Reg.PRT_TFLAG n true
    (each ((List.range 8).filter (fun m => tripMask n (96 + m) u)) legOff u))

theorem tripNoted_silent (n : Nat) (s : State) : Silent tripRegs s (tripNoted n s) := by
  have level : Silent tripRegs s (setBitAt Reg.PRT_TLEVEL n true s) := (Silent.refl _ s).setB (by simp [tripRegs])
  exact .setB (.setB (level.each (fun m u hu => hu.elsewhere (legOff_frame m u).1 (legOff_frame m u).2.1))
    (by simp [tripRegs])) (by simp [tripRegs])

theorem mem_tripNoted (n : Nat) (s : State) : (tripNoted n s).mem = s.mem :=
  ((Reacts.refl (setBitAt Reg.PRT_TLEVEL n true s)).each (fun _ _ _ hu => hu.legOff)).mem

theorem tripNoted_flags {n : Nat} (small : n < 8) (s : State) :
    bitAt Reg.PRT_TFLAG n (tripNoted n s) = true ∧ bitAt Reg.PRT_TLEVEL n (tripNoted n s) = true := by
  unfold tripNoted
  extract_lets u
  have low : Silent [] u (each ((List.range 8).filter (fun m => tripMask n (96 + m) u)) legOff u) :=
    (Silent.refl _ u).each (fun m v hv => hv.elsewhere (legOff_frame m v).1 (legOff_frame m v).2.1)
  constructor
  · exact (on_setB_ne (by decide) ..).trans (bitAt_setBitAt (by omega) ..)
  · refine (on_setB_ne (by decide) ..).trans ((on_setB_ne (by decide) ..).trans ?_)
    exact (low.regs.bitAt List.not_mem_nil n).trans (bitAt_setBitAt (by omega) ..)

theorem not_mem_tripRegs {a : Nat} (low : a < Reg.PRT_TFLAG) : a ∉ tripRegs := by
  have low' : a < 0x40071000 := low
  simp only [tripRegs, List.mem_cons, List.not_mem_nil, or_false, Reg.PRT_TLEVEL, Reg.PRT_TFLAG, Reg.PRT_EVT]
  omega

/-- The half-bridges of a mask, as the trip input that asserts holds them. -/
def tripBridges (n : Nat) (s : State) : List Nat :=
  (List.range 104).filter (fun h => tripMask n h (setBitAt Reg.PRT_TLEVEL n true s))

theorem tripMask_of_regsKept {l : List Nat} {s t : State} (r : regsKept l s t) {n : Nat} (small : n < 8)
    (beside : ∀ a ∈ l, a < Reg.PRT_TCFG 0 ∨ Reg.PRT_TFLAG ≤ a) (h : Nat) : tripMask n h t = tripMask n h s := by
  have apart : ∀ a, 0x40070000 ≤ a → a < 0x40071000 → a ∉ l := fun a low high mem => by
    have := beside a mem
    unfold Reg.PRT_TCFG Reg.PRT_TFLAG at this
    omega
  unfold tripMask
  split
  · exact r.bitAt (apart _ (by unfold Reg.PRT_TMASK0; omega) (by unfold Reg.PRT_TMASK0; omega)) _
  · exact r.bitAt (apart _ (by unfold Reg.PRT_TMASK1; omega) (by unfold Reg.PRT_TMASK1; omega)) _
  · exact r.bitAt (apart _ (by unfold Reg.PRT_TMASK2; omega) (by unfold Reg.PRT_TMASK2; omega)) _
  · exact r.bitAt (apart _ (by unfold Reg.PRT_TMASK3; omega) (by unfold Reg.PRT_TMASK3; omega)) _

theorem beside_tripRegs : ∀ a ∈ tripRegs, a < Reg.PRT_TCFG 0 ∨ Reg.PRT_TFLAG ≤ a := by decide

/-- The half-bridges of the mask are held, EV80 is recorded, and the reactions to its grade follow (R223). -/
theorem tripAssert_of_clear {n : Nat} {s : State} (small : n < 8) (configured : s.configured = true)
    (enabled : on (Reg.PRT_TCFG n) Reg.PRT_TCFG_EN s = true) (clear : bitAt Reg.PRT_TFLAG n s = false) :
    Protects (record 80 (gradeOfTgrade (fl (Reg.PRT_TCFG n) Reg.PRT_TCFG_TGRADE s)) n none
      (holdMany holdTrip (tripBridges n s) (tripNoted n s))) (tripAssert n s) := by
  have still : bitAt Reg.PRT_TFLAG n (setBitAt Reg.PRT_TLEVEL n true s) = false := (on_setB_ne (by decide) ..).trans clear
  have low : Reg.PRT_TCFG n < Reg.PRT_TFLAG := by
    unfold Reg.PRT_TCFG Reg.PRT_TFLAG
    omega
  have held : regsKept guardRegs (tripNoted n s) (holdMany holdTrip (tripBridges n s) (tripNoted n s)) :=
    ((Protects.refl _).holdMany (fun _ mem => List.mem_range.1 (List.mem_of_mem_filter mem))).regs
  have grade : fl (Reg.PRT_TCFG n) Reg.PRT_TCFG_TGRADE (holdMany holdTrip (tripBridges n s) (tripNoted n s))
      = fl (Reg.PRT_TCFG n) Reg.PRT_TCFG_TGRADE s :=
    (held.fl (not_mem_guardRegs (.inl (by unfold Reg.PRT_TCFG Reg.PRT_CFLAG1; omega))) _).trans
      ((tripNoted_silent n s).regs.fl (not_mem_tripRegs low) _)
  rw [← grade]
  unfold tripAssert
  rw [if_pos (by simp [configured, enabled])]
  extract_lets u bridges v w x grade' stages y z
  rw [if_neg (by simp [u, still])]
  have stage : ∀ st ∈ stages, st < 4 := fun st mem => List.mem_range.1 (List.mem_of_mem_filter mem)
  have reacted : Protects y z := by
    unfold z
    split
    · exact (Protects.refl y).each (fun st mem _ hu => hu.gradeG5 (stage st mem))
    · split
      · exact (Protects.refl y).each (fun st mem _ hu => hu.gradeG3 (stage st mem))
      · exact .refl y
  exact reacted.prtShow

/-- A trip input whose flag is set takes no further assertion; its level shows it (R222, R225). -/
theorem tripAssert_of_set {n : Nat} {s : State} (configured : s.configured = true)
    (enabled : on (Reg.PRT_TCFG n) Reg.PRT_TCFG_EN s = true) (set : bitAt Reg.PRT_TFLAG n s = true) :
    tripAssert n s = setBitAt Reg.PRT_TLEVEL n true s := by
  have still : bitAt Reg.PRT_TFLAG n (setBitAt Reg.PRT_TLEVEL n true s) = true := (on_setB_ne (by decide) ..).trans set
  unfold tripAssert
  rw [if_pos (by simp [configured, enabled])]
  exact if_pos still

theorem exec_tripInputAssert (trip : Fin 8) (s : State) : exec (.tripInputAssert trip) s = .next (tripAssert trip s) := rfl

/-- A trip input that asserts holds the half-bridges of its mask off and is recorded (R222, R223). -/
theorem tripAssert_spec {n h : Nat} {s : State} (small : n < 8) (configured : s.configured = true)
    (enabled : on (Reg.PRT_TCFG n) Reg.PRT_TCFG_EN s = true) (clear : bitAt Reg.PRT_TFLAG n s = false) (bridge : h < 104)
    (mask : tripMask n h s = true) (used : hbUsed h s = true) :
    HeldOff h (tripAssert n s) ∧ bitAt Reg.PRT_TFLAG n (tripAssert n s) = true ∧
      bitAt Reg.PRT_TLEVEL n (tripAssert n s) = true ∧
      recorded 80 (gradeOfTgrade (fl (Reg.PRT_TCFG n) Reg.PRT_TCFG_TGRADE s)) n none s (tripAssert n s) ∧
      (tripAssert n s).mem = s.mem := by
  have noted := tripNoted_silent n s
  have bridges : ∀ j ∈ tripBridges n s, j < 104 := fun _ mem => List.mem_range.1 (List.mem_of_mem_filter mem)
  have level : regsKept tripRegs s (setBitAt Reg.PRT_TLEVEL n true s) := (regsKept.refl _ s).wrW (by simp [tripRegs])
  have listed : h ∈ tripBridges n s :=
    List.mem_filter.2 ⟨List.mem_range.2 bridge, (tripMask_of_regsKept level small beside_tripRegs h).trans mask⟩
  have held : HeldOff h (holdMany holdTrip (tripBridges n s) (tripNoted n s)) := by
    refine heldOff_holdMany bridges listed ((noted.regs.on (not_mem_tripRegs ?_) _).trans used)
    unfold Reg.PGN_HCFG Reg.PRT_TFLAG
    omega
  have silent : Silent bridgeRegs (tripNoted n s) (holdMany holdTrip (tripBridges n s) (tripNoted n s)) :=
    holdMany_silent holdTrip bridges _
  have holds : Protects (tripNoted n s) (holdMany holdTrip (tripBridges n s) (tripNoted n s)) :=
    (Protects.refl _).holdMany bridges
  have follows := tripAssert_of_clear small configured enabled clear
  have whole := holds.record.trans follows
  obtain ⟨flag, shown⟩ := tripNoted_flags small s
  refine ⟨(Protects.trans (.record (.refl _)) follows).off h bridge held,
    (whole.regs.bitAt (not_mem_guardRegs (.inl (by decide))) n).trans flag,
    (whole.regs.bitAt (not_mem_guardRegs (.inl (by decide))) n).trans shown, ?_,
    whole.reacts.mem.trans (mem_tripNoted n s)⟩
  refine noted.recorded_of (by decide) ?_
  exact recorded_of_le (silent.recorded (not_mem_bridgeRegs_of_above (by decide))) (follows.reacts.recs ..)

end Sys2Proof.Machine
end

section
/-! SUPPORT. The clearing of the protection's flags (R225, R233): what an accepted and a refused clear leave. -/

namespace Sys2Proof.Machine

/-! What holds a half-bridge (R225). -/

theorem any_range_congr {k : Nat} {p q : Nat → Bool} (same : ∀ n < k, p n = q n) :
    (List.range k).any p = (List.range k).any q := by
  rw [Bool.eq_iff_iff, List.any_eq_true, List.any_eq_true]
  exact exists_congr (fun n => and_congr_right (fun mem => by rw [same n (List.mem_range.1 mem)]))

/-- The registers of the list are none of the protection's settings and flags, up to the alarm flags. -/
def BesideFlags (l : List Nat) : Prop := ∀ a ∈ l, a < Reg.PRT_TCFG 0 ∨ Reg.PRT_AFLAG2 < a

theorem BesideFlags.not_mem {l : List Nat} (beside : BesideFlags l) {a : Nat} (low : 0x40070000 ≤ a) (high : a ≤ 0x40071018) :
    a ∉ l := fun mem => by
  have := beside a mem
  unfold Reg.PRT_TCFG Reg.PRT_AFLAG2 at this
  omega

theorem aflagReg_bounds (h : Nat) : Reg.PRT_AFLAG0 ≤ aflagReg h ∧ aflagReg h ≤ Reg.PRT_AFLAG2 := by
  unfold aflagReg
  split_ifs <;> decide

/-- The flag of a comparator stands where both words of flags do. -/
theorem regsKept.cflag {l : List Nat} {s t : State} (r : regsKept l s t) (first : Reg.PRT_CFLAG0 ∉ l)
    (second : Reg.PRT_CFLAG1 ∉ l) (c : Nat) : cflag c t = cflag c s := by
  unfold Machine.cflag
  split
  · exact r.bitAt first _
  · exact r.bitAt second _

section

variable {l : List Nat} {s t : State} {c : Nat} (r : regsKept l s t) (beside : BesideFlags l)
include r beside

theorem cflag_of_regsKept : cflag c t = cflag c s :=
  r.cflag (beside.not_mem (by decide) (by decide)) (beside.not_mem (by decide) (by decide)) c

theorem aflag_of_regsKept (h : Nat) : aflag h t = aflag h s := by
  have bounds := aflagReg_bounds h
  unfold Reg.PRT_AFLAG0 Reg.PRT_AFLAG2 at bounds
  unfold aflag
  rw [r.bitAt (beside.not_mem (by omega) (by omega))]

theorem ccfg_of_regsKept (small : c < 48) (F : Fld) : fl (Reg.PRT_CCFG c) F t = fl (Reg.PRT_CCFG c) F s :=
  r.fl (beside.not_mem (by unfold Reg.PRT_CCFG; omega) (by unfold Reg.PRT_CCFG; omega)) F

/-- What holds a half-bridge stands in the protection's settings and flags. -/
theorem tripHeld_of_regsKept (h : Nat) : tripHeld h t = tripHeld h s := by
  have gate : tripGate h t = tripGate h s := any_range_congr (fun n small => by
    have flag : bitAt Reg.PRT_TFLAG n t = bitAt Reg.PRT_TFLAG n s :=
      r.bitAt (beside.not_mem (by decide) (by decide)) _
    have mask : tripMask n h t = tripMask n h s := tripMask_of_regsKept r small (fun a mem => by
      have := beside a mem
      unfold Reg.PRT_TFLAG Reg.PRT_AFLAG2 at *
      omega) h
    rw [flag, mask])
  unfold tripHeld cmpHb cmpMode cmpAct
  rw [gate, aflag_of_regsKept r beside h]
  congr 1
  refine any_range_congr (fun c small => ?_)
  rw [cflag_of_regsKept r beside, ccfg_of_regsKept r beside small, ccfg_of_regsKept r beside small,
    ccfg_of_regsKept r beside small]

end

/-! The release (R225). -/

/-- A hold cause that is cleared shows in the half-bridge's status alone. -/
theorem clearHold_unrecorded {l : List Nat} {s t : State} (r : Unrecorded l s t) {h : Nat} (mem : Reg.PGN_HSTAT h ∈ l)
    (cause : Nat) : Unrecorded l s (clearHold cause h t) := by
  unfold clearHold
  extract_lets _ u
  have noted : Unrecorded l s u := r.trans ⟨fun _ _ => rfl, rfl, rfl, rfl, rfl, rfl, rfl⟩
  exact noted.wrW mem

theorem hbCause_clearHold_trip (h : Nat) (s : State) : (hbCause h (clearHold holdTrip h s)).testBit 1 = false := by
  have bit : Nat.log2 holdTrip = 1 := by decide
  unfold clearHold hbCause
  rw [fl_setF _ _ (by decide), Nat.testBit_mod_two_pow, testBit_setBit, bit]
  simp

/-- A half-bridge that nothing holds any more loses the cause TRIP. -/
def releaseTrip (h : Nat) (s : State) : State :=
  if hbUsed h s && (hbCause h s).testBit 1 && !tripHeld h s then clearHold holdTrip h s else s

theorem releaseTrips_eq (s : State) : releaseTrips s = each (List.range 104) releaseTrip s := rfl

theorem releaseTrip_unrecorded {l : List Nat} {s t : State} (r : Unrecorded l s t) {h : Nat} (mem : Reg.PGN_HSTAT h ∈ l) :
    Unrecorded l s (releaseTrip h t) := by
  unfold releaseTrip
  split
  · exact clearHold_unrecorded r mem holdTrip
  · exact r

theorem releaseTrips_unrecorded {l : List Nat} {s t : State} (r : Unrecorded l s t) (bridges : bridgeRegs ⊆ l) :
    Unrecorded l s (releaseTrips t) := by
  rw [releaseTrips_eq]
  exact each_induct r (fun h mem _ hu => releaseTrip_unrecorded hu (bridges (hstat_mem_bridgeRegs (List.mem_range.1 mem))))

theorem besideFlags_of_low {l : List Nat} (low : ∀ a ∈ l, a < 0x40070000) : BesideFlags l := fun a mem => .inl (low a mem)

/-- After the release a half-bridge in use that nothing holds has no cause TRIP. -/
def Freed (h : Nat) (s : State) : Prop := hbUsed h s = true → tripHeld h s = false → (hbCause h s).testBit 1 = false

theorem freed_releaseTrip {h k : Nat} {s : State} (small : k < 104) (before : h = k ∨ Freed h s) : Freed h (releaseTrip k s) := by
  have kept : regsKept [Reg.PGN_HSTAT k] s (releaseTrip k s) := (releaseTrip_unrecorded (.refl _ s) (by simp)).regs
  have held : tripHeld h (releaseTrip k s) = tripHeld h s := tripHeld_of_regsKept kept (besideFlags_of_low (fun a mem => by
    rw [List.mem_singleton] at mem
    unfold Reg.PGN_HSTAT at mem
    omega)) h
  have use : hbUsed h (releaseTrip k s) = hbUsed h s := kept.on (by
    rw [List.mem_singleton]
    unfold Reg.PGN_HCFG Reg.PGN_HSTAT
    omega) _
  intro used free
  rw [use] at used
  rw [held] at free
  by_cases same : h = k
  · subst same
    cases trip : (hbCause h s).testBit 1 with
    | true =>
      unfold releaseTrip
      rw [if_pos (by simp [used, trip, free])]
      exact hbCause_clearHold_trip h s
    | false =>
      unfold releaseTrip
      rwa [if_neg (by simp [trip])]
  · have word : hbCause h (releaseTrip k s) = hbCause h s := kept.fl (by
      rw [List.mem_singleton]
      unfold Reg.PGN_HSTAT
      omega) _
    rw [word]
    exact before.resolve_left same used free

theorem freed_releaseTrips {h : Nat} (small : h < 104) (s : State) : Freed h (releaseTrips s) := by
  rw [releaseTrips_eq]
  exact each_reaches (I := fun _ => True) trivial (fun _ _ _ _ => trivial) (List.mem_range.2 small)
    (fun _ _ => freed_releaseTrip small (.inl rfl)) (fun _ mem _ hu => freed_releaseTrip (List.mem_range.1 mem) (.inr hu))

/-! Accepted clears (R225, R233). -/

/-- The registers that an accepted clear may change beside the flag. -/
def clearRegs : List Nat := evtRegs ++ causeRegs ++ Reg.PRT_STAT :: bridgeRegs

theorem besideFlags_clearRegs : BesideFlags clearRegs := by
  intro a mem
  unfold Reg.PRT_TCFG Reg.PRT_AFLAG2
  simp only [clearRegs, List.mem_append, List.mem_cons] at mem
  rcases mem with (unit | cause) | rfl | bridge
  · simp only [evtRegs, List.mem_cons, List.not_mem_nil, or_false, Reg.EVT_NSEQ, Reg.EVT_STAT, Reg.EVT_EVT, Reg.EVT_LOST,
      Reg.EVT_UCVAL, Reg.EVT_UCWIN] at unit
    omega
  · simp only [causeRegs, List.mem_cons, List.mem_map, List.mem_range, Reg.EVT_G5CAUSE, Reg.DRM_STAT] at cause
    omega
  · decide
  · have low : a < 0x40053A00 := Nat.lt_of_not_le (fun high => not_mem_bridgeRegs_of_above high bridge)
    omega

/-- Which half-bridges are in use is no matter of a clear. -/
theorem hcfg_not_mem_clearRegs {h : Nat} (small : h < 104) : Reg.PGN_HCFG h ∉ clearRegs := fun mem => by
  simp only [clearRegs, evtRegs, causeRegs, List.mem_append, List.mem_cons, List.mem_map, List.mem_range, List.not_mem_nil,
    or_false, mem_bridgeRegs] at mem
  simp only [Reg.PGN_HCFG, Reg.EVT_NSEQ, Reg.EVT_STAT, Reg.EVT_EVT, Reg.EVT_LOST, Reg.EVT_UCVAL, Reg.EVT_UCWIN,
    Reg.EVT_G5CAUSE, Reg.DRM_STAT, Reg.PRT_STAT, Reg.PGN_ACC, Reg.PGN_HEVT, Reg.PGN_CMPA, Reg.PGN_HSTAT] at mem
  omega

theorem clearAccepted_unrecorded (c : Cause) (detail : Nat) (s : State) :
    Unrecorded clearRegs (record 85 0 detail none s) (clearAccepted c detail s) := by
  have causes : Unrecorded clearRegs (record 85 0 detail none s) (dropCause c (record 85 0 detail none s)) :=
    .mono (dropCause_unrecorded (.refl _ _) c) (fun a mem => by simp [clearRegs, mem])
  have shown : Reg.PRT_STAT ∈ clearRegs := by simp [clearRegs]
  exact releaseTrips_unrecorded ((causes.wrW shown).wrW shown) (fun a mem => by simp [clearRegs, mem])

/-- An accepted clear, from the state in which the flag is clear: EV85, and the flags stand as they then do. -/
theorem clearAccepted_spec {l : List Nat} {s t : State} (before : Silent l s t) (nseq : Reg.EVT_NSEQ ∉ l)
    (mem : t.mem = s.mem) (c : Cause) (detail : Nat) :
    recorded 85 0 detail none s (clearAccepted c detail t) ∧ regsKept clearRegs t (clearAccepted c detail t) ∧
      (clearAccepted c detail t).mem = s.mem := by
  have after := clearAccepted_unrecorded c detail t
  refine ⟨recorded_of_le (before.recorded nseq) (after.recs ..).ge, ?_, ?_⟩
  · exact .trans (regsKept.mono (EventsOnly.refl t).record.regs (fun a mem => by simp [clearRegs, mem])) after.regs
  · exact after.mem.trans ((Reacts.refl t).record.mem.trans mem)

/-! Refused clears (R225, R233). -/

/-- The registers that a refused clear may change. -/
def refuseRegs : List Nat := evtRegs ++ [Reg.PRT_EVT, Reg.PRT_REFUSE]

theorem besideFlags_refuseRegs : BesideFlags refuseRegs := by
  unfold BesideFlags
  decide

/-- A refused clear is recorded with EV84, PRT_REFUSE names its flag, and the half-bridges stand. -/
theorem clearRefused_spec {l : List Nat} {s t : State} (before : Silent l s t) (nseq : Reg.EVT_NSEQ ∉ l)
    (kind index detail : Nat) :
    recorded 84 0 detail none s (clearRefused kind index detail t) ∧
      regsKept refuseRegs t (clearRefused kind index detail t) ∧
      fl Reg.PRT_REFUSE Reg.PRT_REFUSE_KIND (clearRefused kind index detail t) = kind % 2 ^ 2 ∧
      fl Reg.PRT_REFUSE Reg.PRT_REFUSE_INDEX (clearRefused kind index detail t) = index % 2 ^ 7 ∧
      (clearRefused kind index detail t).hb = t.hb ∧ (clearRefused kind index detail t).mem = t.mem := by
  unfold clearRefused
  generalize noted : setB Reg.PRT_EVT Reg.PRT_EVT_CLEARREF true (setF Reg.PRT_REFUSE Reg.PRT_REFUSE_KIND kind
    (setF Reg.PRT_REFUSE Reg.PRT_REFUSE_INDEX index t)) = u
  have silent : Silent [Reg.PRT_EVT, Reg.PRT_REFUSE] t u := by
    rw [← noted]
    exact (((Silent.refl _ t).setF (by simp)).setF (by simp)).setB (by simp)
  have events : EventsOnly u (record 84 0 detail none u) := (EventsOnly.refl u).record
  have shown : ∀ F, fl Reg.PRT_REFUSE F (record 84 0 detail none u) = fl Reg.PRT_REFUSE F u := fun F =>
    regsKept.fl events.regs (by decide) F
  refine ⟨?_, ?_, ?_, ?_, ?_, ?_⟩
  · exact before.recorded_of nseq (silent.recorded (by decide))
  · exact .trans (.mono silent.regs (by simp [refuseRegs])) (.mono events.regs (by simp [refuseRegs]))
  · rw [shown, ← noted]
    exact (fl_setF_ne (by decide) ..).trans (fl_setF _ _ (by decide) ..)
  · rw [shown, ← noted]
    exact (fl_setF_ne (by decide) ..).trans ((fl_setF_other _ _ _ (by decide) ..).trans (fl_setF _ _ (by decide) ..))
  · rw [events.frame, ← noted]
    rfl
  · rw [events.frame, ← noted]
    rfl

/-! Clears of the flag of a trip input (R225). -/

theorem exec_tripClear {trip : Fin 8} {active : Bool} {s : State} (stored : stores s = true) :
    exec (.tripClear trip active) s = .next (tripClear trip active s) := congrArg Host.Outcome.next (if_pos stored)

theorem tripClear_accepted {n : Nat} {s : State} (small : n < 8) (set : bitAt Reg.PRT_TFLAG n s = true) :
    bitAt Reg.PRT_TFLAG n (tripClear n false s) = false ∧ bitAt Reg.PRT_TLEVEL n (tripClear n false s) = false ∧
      recorded 85 0 n none s (tripClear n false s) ∧
      (∀ h < 104, hbUsed h s = true → tripHeld h (tripClear n false s) = false →
        (hbCause h (tripClear n false s)).testBit 1 = false) ∧ (tripClear n false s).mem = s.mem := by
  have effect : tripClear n false s = clearAccepted (causeTrip n) n
      (setBitAt Reg.PRT_TFLAG n false (setBitAt Reg.PRT_TLEVEL n false s)) := if_pos set
  generalize cleared : setBitAt Reg.PRT_TFLAG n false (setBitAt Reg.PRT_TLEVEL n false s) = u at effect
  have silent : Silent [Reg.PRT_TFLAG, Reg.PRT_TLEVEL] s u := by
    rw [← cleared]
    exact ((Silent.refl _ s).setB (by simp)).setB (by simp)
  obtain ⟨recorded, kept, mem⟩ := clearAccepted_spec silent (by decide) (by rw [← cleared]; rfl) (causeTrip n) n
  rw [effect]
  refine ⟨?_, ?_, recorded, fun h bridge used => ?_, mem⟩
  · rw [kept.bitAt (besideFlags_clearRegs.not_mem (by decide) (by decide)), ← cleared]
    exact bitAt_setBitAt (by omega) ..
  · rw [kept.bitAt (besideFlags_clearRegs.not_mem (by decide) (by decide)), ← cleared]
    exact (on_setB_ne (by decide) ..).trans (bitAt_setBitAt (by omega) ..)
  · refine freed_releaseTrips bridge _ ((kept.on (hcfg_not_mem_clearRegs bridge) _).trans ((silent.regs.on ?_ _).trans used))
    simp only [List.mem_cons, List.not_mem_nil, or_false, Reg.PGN_HCFG, Reg.PRT_TFLAG, Reg.PRT_TLEVEL]
    omega

theorem tripClear_refused {n : Nat} {s : State} (small : n < 8) (set : bitAt Reg.PRT_TFLAG n s = true) :
    bitAt Reg.PRT_TFLAG n (tripClear n true s) = true ∧ recorded 84 0 n none s (tripClear n true s) ∧
      fl Reg.PRT_REFUSE Reg.PRT_REFUSE_KIND (tripClear n true s) = 1 ∧
      fl Reg.PRT_REFUSE Reg.PRT_REFUSE_INDEX (tripClear n true s) = n ∧ (tripClear n true s).hb = s.hb ∧
      (tripClear n true s).mem = s.mem := by
  have effect : tripClear n true s = clearRefused 1 n n (setBitAt Reg.PRT_TLEVEL n true s) := if_pos set
  have silent : Silent [Reg.PRT_TLEVEL] s (setBitAt Reg.PRT_TLEVEL n true s) := (Silent.refl _ s).setB (by simp)
  obtain ⟨recorded, kept, kind, index, hb, mem⟩ := clearRefused_spec silent (by decide) 1 n n
  rw [effect]
  refine ⟨?_, recorded, kind, index.trans (Nat.mod_eq_of_lt (by omega)), hb, mem⟩
  rw [kept.bitAt (by decide)]
  exact (on_setB_ne (by decide) ..).trans set

end Sys2Proof.Machine
end

section
/-! SUPPORT. The flag of a comparator (R227), and the short circuit that it detects (R230, R231). -/

namespace Sys2Proof.Machine

/-! The flag of a comparator. -/

/-- The registers in which the flag of a comparator shows. -/
def cflagRegs (c : Nat) : List Nat := [Reg.PRT_CSTAT c, Reg.PRT_CFLAG0, Reg.PRT_CFLAG1]

/-- The registers that a comparator's output may change at once: its own status and events, and the words of flags. -/
def cmpRegs (c : Nat) : List Nat := Reg.PRT_CEVT c :: cflagRegs c

theorem mem_cmpRegs {a c : Nat} : a ∈ cmpRegs c ↔
    a = Reg.PRT_CEVT c ∨ a = Reg.PRT_CSTAT c ∨ a = Reg.PRT_CFLAG0 ∨ a = Reg.PRT_CFLAG1 := by
  simp [cmpRegs, cflagRegs]

theorem setCflag_silent {l : List Nat} {s t : State} (r : Silent l s t) {c : Nat} (regs : cflagRegs c ⊆ l) (b : Bool) :
    Silent l s (setCflag c b t) := by
  unfold setCflag
  refine .setB ?_ (regs (by simp [cflagRegs]))
  split
  · exact r.setB (regs (by simp [cflagRegs]))
  · exact r.setB (regs (by simp [cflagRegs]))

theorem mem_setCflag (c : Nat) (b : Bool) (s : State) : (setCflag c b s).mem = s.mem := by
  unfold setCflag
  split <;> rfl

/-- The words of a comparator lie below the words of flags (R226, R227). -/
theorem cstat_bounds {c : Nat} (small : c < 48) : 0x4007040C ≤ Reg.PRT_CSTAT c ∧ Reg.PRT_CSTAT c + 4 < 0x40071000 := by
  unfold Reg.PRT_CSTAT
  omega

theorem cflag_setCflag {c : Nat} (small : c < 48) (b : Bool) (s : State) : cflag c (setCflag c b s) = b := by
  have bounds := cstat_bounds small
  unfold setCflag cflag
  split
  · refine (on_setB_ne ?_ ..).trans (bitAt_setBitAt (by omega) ..)
    unfold Reg.PRT_CFLAG0
    omega
  · refine (on_setB_ne ?_ ..).trans (bitAt_setBitAt (by omega) ..)
    unfold Reg.PRT_CFLAG1
    omega

/-- A flag that is written leaves the other fields of the comparator's status. -/
theorem on_cstat_setCflag {c : Nat} (small : c < 48) {F : Fld} (other : F.lo + F.width ≤ 3 ∨ 3 + 1 ≤ F.lo) (b : Bool)
    (s : State) : on (Reg.PRT_CSTAT c) F (setCflag c b s) = on (Reg.PRT_CSTAT c) F s := by
  have bounds := cstat_bounds small
  unfold setCflag
  refine (on_setB_other _ F Reg.PRT_CSTAT_LATCHED other ..).trans ?_
  split
  · exact on_setB_ne (by unfold Reg.PRT_CFLAG0; omega) ..
  · exact on_setB_ne (by unfold Reg.PRT_CFLAG1; omega) ..

/-- A write of the comparator's own words leaves its flag. -/
theorem cflag_setB {a c : Nat} (low : a < Reg.PRT_CFLAG0) (F : Fld) (b : Bool) (s : State) :
    cflag c (setB a F b s) = cflag c s := by
  have low' : a < 0x40071008 := low
  refine regsKept.cflag (l := [a]) ((regsKept.refl _ s).wrW (by simp)) ?_ ?_ c
  · simp only [List.mem_singleton, Reg.PRT_CFLAG0]
    omega
  · simp only [List.mem_singleton, Reg.PRT_CFLAG1]
    omega

theorem cstat_lt_cflag {c : Nat} (small : c < 48) : Reg.PRT_CSTAT c < Reg.PRT_CFLAG0 := by
  have bounds := cstat_bounds small
  unfold Reg.PRT_CFLAG0
  omega

theorem cevt_lt_cflag {c : Nat} (small : c < 48) : Reg.PRT_CEVT c < Reg.PRT_CFLAG0 := by
  unfold Reg.PRT_CEVT Reg.PRT_CFLAG0
  omega

theorem nseq_not_mem_cmpRegs {c : Nat} (small : c < 48) : Reg.EVT_NSEQ ∉ cmpRegs c := by
  rw [mem_cmpRegs]
  simp only [Reg.EVT_NSEQ, Reg.PRT_CEVT, Reg.PRT_CSTAT, Reg.PRT_CFLAG0, Reg.PRT_CFLAG1]
  omega

theorem cstat_not_mem_guardRegs {c : Nat} (small : c < 48) : Reg.PRT_CSTAT c ∉ guardRegs := by
  have bounds := cstat_bounds small
  refine not_mem_guardRegs (.inl ?_)
  unfold Reg.PRT_TCFG Reg.PRT_CFLAG1
  omega

theorem cflag_of_protects {s t : State} (r : Protects s t) (c : Nat) : cflag c t = cflag c s :=
  r.regs.cflag (not_mem_guardRegs (.inl (by decide))) (not_mem_guardRegs (.inl (by decide))) c

/-! A short circuit (R230, R231). -/

/-- The grade that SCGRADE selects for a short circuit (R230). -/
def scGradeOf (s : State) : Nat :=
  if fl Reg.PRT_SCCFG Reg.PRT_SCCFG_SCGRADE s = 0 then 2 else if fl Reg.PRT_SCCFG Reg.PRT_SCCFG_SCGRADE s = 1 then 3 else 5

/-- A short circuit is noted: its half-bridge is held, and the flags show it. -/
def scNoted (h : Nat) (s : State) : State :=
  setB Reg.PRT_EVT Reg.PRT_EVT_SC true
    (if isDirect h then holdMany holdTrip [h] s else setBitAt (aflagReg h) (h % 32) true (holdMany holdTrip [h] s))

/-- The words of the protection in which a short circuit is noted. -/
def scRegs : List Nat := [Reg.PRT_EVT, Reg.PRT_AFLAG0, Reg.PRT_AFLAG1, Reg.PRT_AFLAG2] ++ bridgeRegs

theorem nseq_not_mem_scRegs : Reg.EVT_NSEQ ∉ scRegs := fun mem =>
  (List.mem_append.1 mem).elim (by decide) (not_mem_bridgeRegs_of_above (by decide))

theorem scNoted_silent {h : Nat} (bridge : h < 104) (s : State) : Silent scRegs s (scNoted h s) := by
  have held := holdMany_silent holdTrip (hs := [h]) (fun j mem => List.mem_singleton.1 mem ▸ bridge) s
  have holds : Silent scRegs s (holdMany holdTrip [h] s) := ⟨held.regs.mono (List.subset_append_right ..), held.evt⟩
  have word : aflagReg h ∈ scRegs := by
    unfold aflagReg
    split_ifs <;> simp [scRegs]
  unfold scNoted
  refine .setB ?_ (by simp [scRegs])
  split
  · exact holds
  · exact holds.setB word

theorem scNoted_protects (h : Nat) (s : State) : Protects (holdMany holdTrip [h] s) (scNoted h s) := by
  unfold scNoted
  refine .setB ?_ besideBridges_evt
  split
  · exact .refl _
  · exact (Protects.refl _).setB (besideBridges_aflagReg h)

/-- The record of a short circuit that a comparator detects, and the reactions to its grade (R230, R231). -/
theorem shortCircuit_protects (h c : Nat) (hi : Bool) (s : State) :
    Protects (record 81 (scGradeOf (scNoted h s)) c (some (hbStage h s)) (scNoted h s)) (shortCircuit h hi (some c) s) := by
  have stage : hbStage h s < 4 := hbStage_lt h s
  unfold shortCircuit
  extract_lets st t1 t2 t3 src det sg two t4 t5 t6 w _ t8 t9 t10 t11
  show Protects t4 (prtShow t11)
  have listed : Protects t4 t5 := (Protects.refl t4).addG3 stage
  have alarmed : Protects t4 t6 := by
    unfold t6
    split
    · exact listed
    · exact listed.addG3 stage
  have dated : Protects t4 t8 := alarmed.elsewhere (Reacts.refl t6).elsewhere
  have second : Protects t4 t9 := (dated.setB besideBridges_evt).when (fun _ hu => hu.under (fun _ hv => hv.record))
  have locked : Protects t4 t10 := by
    unfold t10
    split
    · exact (second.gradeG5 stage).each (fun _ _ _ hu => hu.addG5)
    · exact dated
  have graded : Protects t4 t11 := by
    unfold t11
    split
    · exact locked.retireHb
    · split
      · exact locked.gradeG3 stage
      · exact locked
  exact graded.prtShow

/-- The settings of a half-bridge and its carrier lie below the protection's registers. -/
theorem bridge_of_regsKept {l : List Nat} {s t : State} (r : regsKept l s t) (above : ∀ a ∈ l, Reg.PRT_TCFG 0 ≤ a) {h : Nat}
    (bridge : h < 104) : hbUsed h t = hbUsed h s ∧ hbStage h t = hbStage h s := by
  have low : ∀ a < 0x40070000, a ∉ l := fun a small mem => by
    have := above a mem
    unfold Reg.PRT_TCFG at this
    omega
  have hcfg : Reg.PGN_HCFG h ∉ l := low _ (by unfold Reg.PGN_HCFG; omega)
  have carrier : hbCarrier h t = hbCarrier h s := r.fl hcfg _
  have small : hbCarrier h s < 16 := fldGet_lt Reg.PGN_HCFG_CARRIER _
  refine ⟨r.on hcfg _, ?_⟩
  unfold hbStage
  rw [carrier]
  exact r.fl (low _ (by unfold Reg.PGN_CCFG; omega)) _

theorem scGradeOf_eq {s t : State} (word : fl Reg.PRT_SCCFG Reg.PRT_SCCFG_SCGRADE t = fl Reg.PRT_SCCFG Reg.PRT_SCCFG_SCGRADE s) :
    scGradeOf t = scGradeOf s := by
  unfold scGradeOf
  rw [word]

theorem sccfg_not_mem_guardRegs : Reg.PRT_SCCFG ∉ guardRegs := not_mem_guardRegs (.inr rfl)

/-- A short circuit that a comparator detects holds its half-bridge off and is recorded (R230). -/
theorem shortCircuit_spec {h : Nat} {s : State} (bridge : h < 104) (used : hbUsed h s = true) (hi : Bool) (c : Nat) :
    recorded 81 (scGradeOf s) c (some (hbStage h s)) s (shortCircuit h hi (some c) s) ∧
      HeldOff h (shortCircuit h hi (some c) s) ∧ Protects s (shortCircuit h hi (some c) s) := by
  have bridges : ∀ j ∈ [h], j < 104 := fun j mem => List.mem_singleton.1 mem ▸ bridge
  have off : HeldOff h (holdMany holdTrip [h] s) := heldOff_holdMany bridges (List.mem_singleton_self h) used
  have holds : Protects s (holdMany holdTrip [h] s) := (Protects.refl s).holdMany bridges
  have noted := scNoted_protects h s
  have follows := shortCircuit_protects h c hi s
  have grade : scGradeOf (scNoted h s) = scGradeOf s :=
    scGradeOf_eq ((holds.trans noted).regs.fl sccfg_not_mem_guardRegs _)
  rw [grade] at follows
  refine ⟨?_, (noted.record.trans follows).off h bridge off, (holds.trans noted).record.trans follows⟩
  exact recorded_of_le ((scNoted_silent bridge s).recorded nseq_not_mem_scRegs) (follows.reacts.recs ..)

end Sys2Proof.Machine
end

section
/-! SUPPORT. The commands of comparators, and the clears of the flags of comparators and alarms (R227, R228, R233). -/

namespace Sys2Proof.Machine

/-! What a comparator's output leaves of its settings (R226-R228). -/

section

variable {c : Nat} {s t : State} (small : c < 48) (r : regsKept (cmpRegs c) s t)
include small r

theorem cmpSetting_of_cmpRegs (F : Fld) : fl (Reg.PRT_CCFG c) F t = fl (Reg.PRT_CCFG c) F s := by
  refine r.fl ?_ F
  rw [mem_cmpRegs]
  simp only [Reg.PRT_CCFG, Reg.PRT_CEVT, Reg.PRT_CSTAT, Reg.PRT_CFLAG0, Reg.PRT_CFLAG1]
  omega

theorem cmpMode_of_cmpRegs : cmpMode c t = cmpMode c s := cmpSetting_of_cmpRegs small r _

theorem cmpHb_of_cmpRegs : cmpHb c t = cmpHb c s := cmpSetting_of_cmpRegs small r _

/-- The blanking window is one of time and of the turn-ons of the switch (R228). -/
theorem blanked_of_cmpRegs (lt : t.lt = s.lt) (prt : t.prt = s.prt) : blanked c t = blanked c s := by
  have time : blankOf c t = blankOf c s := congrArg (· % 2 ^ 15) (r.rd (by
    rw [mem_cmpRegs]
    simp only [Reg.PRT_CBLANK, Reg.PRT_CEVT, Reg.PRT_CSTAT, Reg.PRT_CFLAG0, Reg.PRT_CFLAG1]
    omega))
  have ons : turnOns c t = turnOns c s := by
    unfold turnOns cmpHigh on
    rw [cmpHb_of_cmpRegs small r, cmpSetting_of_cmpRegs small r, prt]
  unfold blanked
  rw [cmpMode_of_cmpRegs small r, ons, time, lt]

theorem scGrade_of_cmpRegs : scGradeOf t = scGradeOf s := by
  refine scGradeOf_eq (r.fl ?_ _)
  rw [mem_cmpRegs]
  simp only [Reg.PRT_SCCFG, Reg.PRT_CEVT, Reg.PRT_CSTAT, Reg.PRT_CFLAG0, Reg.PRT_CFLAG1]
  omega

theorem bridge_of_cmpRegs {h : Nat} (bridge : h < 104) : hbUsed h t = hbUsed h s ∧ hbStage h t = hbStage h s := by
  refine bridge_of_regsKept r (fun a mem => ?_) bridge
  rw [mem_cmpRegs] at mem
  simp only [Reg.PRT_TCFG, Reg.PRT_CEVT, Reg.PRT_CSTAT, Reg.PRT_CFLAG0, Reg.PRT_CFLAG1] at mem ⊢
  omega

end

/-! An output that becomes active (R227, R228). -/

theorem exec_comparatorAssert (cmp : Fin 48) (s : State) : exec (.comparatorAssert cmp) s = .next (cmpAssert cmp s) := rfl

theorem exec_blankingEnd (cmp : Fin 48) (active : Bool) (s : State) :
    exec (.blankingEnd cmp active) s = .next (blankingEnd cmp active s) := rfl

/-- The output is shown. -/
def outShown (c : Nat) (b : Bool) (s : State) : State := setB (Reg.PRT_CSTAT c) Reg.PRT_CSTAT_OUT b s

theorem outShown_silent (c : Nat) (b : Bool) (s : State) : Silent (cmpRegs c) s (outShown c b s) :=
  (Silent.refl _ s).setB (by simp [mem_cmpRegs])

/-- An assertion is noted with its flag. -/
def assertNoted (c : Nat) (s : State) : State := setB (Reg.PRT_CEVT c) Reg.PRT_CEVT_ASSERT true (setCflag c true s)

theorem cflagRegs_subset_cmpRegs (c : Nat) : cflagRegs c ⊆ cmpRegs c := List.subset_cons_self ..

theorem assertNoted_silent (c : Nat) (s : State) : Silent (cmpRegs c) s (assertNoted c (outShown c true s)) :=
  .setB (setCflag_silent (outShown_silent c true s) (cflagRegs_subset_cmpRegs c) true) (by simp [mem_cmpRegs])

section

variable {c : Nat} {s : State} (small : c < 48) (configured : s.configured = true) (kept : cmpRetired c s = false)
include small configured kept

/-- A window comparator without an action flags and records (R227). -/
theorem cmpAssert_window (mode : cmpMode c s = cmpWindow) (act : cmpAct c s = 0) :
    cmpAssert c s = prtShow (record 81 0 c none (assertNoted c (outShown c true s))) := by
  have mode' : cmpMode c (outShown c true s) = 1 := (cmpMode_of_cmpRegs small (outShown_silent c true s).regs).trans mode
  have act' : cmpAct c (assertNoted c (outShown c true s)) = 0 :=
    (cmpSetting_of_cmpRegs small (assertNoted_silent c s).regs _).trans act
  unfold outShown at mode'
  unfold assertNoted outShown at act'
  unfold cmpAssert
  rw [if_pos (by simp [configured, kept])]
  simp only [mode', act']
  rfl

/-- What a window comparator without an action brings: its flag and its record, and no hold (R227). -/
theorem cmpAssert_window_spec (mode : cmpMode c s = cmpWindow) (act : cmpAct c s = 0) :
    cflag c (cmpAssert c s) = true ∧ on (Reg.PRT_CSTAT c) Reg.PRT_CSTAT_OUT (cmpAssert c s) = true ∧
      recorded 81 0 c none s (cmpAssert c s) ∧ (cmpAssert c s).hb = s.hb ∧ (cmpAssert c s).mem = s.mem := by
  have noted := assertNoted_silent c s
  have events : EventsOnly (assertNoted c (outShown c true s)) (record 81 0 c none (assertNoted c (outShown c true s))) :=
    (EventsOnly.refl _).record
  have follows : Protects (assertNoted c (outShown c true s)) (cmpAssert c s) := by
    rw [cmpAssert_window small configured kept mode act]
    exact (Protects.refl _).record.prtShow
  have frame : (assertNoted c (outShown c true s)).hb = s.hb ∧ (assertNoted c (outShown c true s)).mem = s.mem := by
    unfold assertNoted setCflag
    split <;> exact ⟨rfl, rfl⟩
  refine ⟨?_, ?_, ?_, ?_, follows.reacts.mem.trans frame.2⟩
  · rw [cflag_of_protects follows]
    exact (cflag_setB (cevt_lt_cflag small) ..).trans (cflag_setCflag small ..)
  · rw [follows.regs.on (cstat_not_mem_guardRegs small)]
    refine (on_setB_ne ?_ ..).trans ((on_cstat_setCflag small (by decide) ..).trans (on_setB _ _ (by decide) (by decide) ..))
    unfold Reg.PRT_CSTAT Reg.PRT_CEVT
    omega
  · rw [cmpAssert_window small configured kept mode act]
    exact noted.recorded (nseq_not_mem_cmpRegs small)
  · rw [cmpAssert_window small configured kept mode act]
    show (record 81 0 c none (assertNoted c (outShown c true s))).hb = s.hb
    rw [events.frame]
    exact frame.1

/-- A short-circuit comparator acts at once outside its blanking window (R227, R228). -/
theorem cmpAssert_sc (mode : cmpMode c s = cmpSc) (open_ : blanked c s = false) :
    cmpAssert c s = shortCircuit (cmpHb c s) (cmpHigh c (outShown c true s)) (some c)
      (setCflag c true (setB (Reg.PRT_CEVT c) Reg.PRT_CEVT_ASSERT true (outShown c true s))) := by
  have shown := (outShown_silent c true s).regs
  have mode' : cmpMode c (outShown c true s) = 2 := (cmpMode_of_cmpRegs small shown).trans mode
  have open' : blanked c (outShown c true s) = false := (blanked_of_cmpRegs small shown rfl rfl).trans open_
  rw [← cmpHb_of_cmpRegs small shown]
  unfold outShown at mode' open'
  unfold cmpAssert
  rw [if_pos (by simp [configured, kept])]
  simp only [mode', open']
  rfl

/-- Inside its blanking window it waits (R228). -/
theorem cmpAssert_blanked (mode : cmpMode c s = cmpSc) (inside : blanked c s = true)
    (first : on (Reg.PRT_CSTAT c) Reg.PRT_CSTAT_BLANKPEND s = false) :
    cmpAssert c s = record 82 0 c none (setB (Reg.PRT_CSTAT c) Reg.PRT_CSTAT_BLANKPEND true
      (setB (Reg.PRT_CEVT c) Reg.PRT_CEVT_BLANKED true (outShown c true s))) := by
  have shown := (outShown_silent c true s).regs
  have mode' : cmpMode c (outShown c true s) = 2 := (cmpMode_of_cmpRegs small shown).trans mode
  have inside' : blanked c (outShown c true s) = true := (blanked_of_cmpRegs small shown rfl rfl).trans inside
  have first' : on (Reg.PRT_CSTAT c) Reg.PRT_CSTAT_BLANKPEND (outShown c true s) = false :=
    (on_setB_other _ _ _ (by decide) ..).trans first
  unfold outShown at mode' inside' first'
  unfold cmpAssert
  rw [if_pos (by simp [configured, kept])]
  simp only [mode', inside', first']
  rfl

/-- While it waits, its flag and every hold stand (R228). -/
theorem cmpAssert_blanked_spec (mode : cmpMode c s = cmpSc) (inside : blanked c s = true)
    (first : on (Reg.PRT_CSTAT c) Reg.PRT_CSTAT_BLANKPEND s = false) :
    on (Reg.PRT_CSTAT c) Reg.PRT_CSTAT_BLANKPEND (cmpAssert c s) = true ∧ recorded 82 0 c none s (cmpAssert c s) ∧
      cflag c (cmpAssert c s) = cflag c s ∧ (cmpAssert c s).hb = s.hb ∧ (cmpAssert c s).mem = s.mem := by
  rw [cmpAssert_blanked small configured kept mode inside first]
  generalize noted : setB (Reg.PRT_CSTAT c) Reg.PRT_CSTAT_BLANKPEND true
    (setB (Reg.PRT_CEVT c) Reg.PRT_CEVT_BLANKED true (outShown c true s)) = t
  have silent : Silent (cmpRegs c) s t := by
    rw [← noted]
    exact ((outShown_silent c true s).setB (by simp [mem_cmpRegs])).setB (by simp [mem_cmpRegs])
  have events : EventsOnly t (record 82 0 c none t) := (EventsOnly.refl t).record
  have follows : Protects t (record 82 0 c none t) := .record (.refl t)
  refine ⟨?_, silent.recorded (nseq_not_mem_cmpRegs small), ?_, ?_, ?_⟩
  · rw [follows.regs.on (cstat_not_mem_guardRegs small), ← noted]
    exact on_setB _ _ (by decide) (by decide) ..
  · rw [cflag_of_protects follows, ← noted]
    unfold outShown
    rw [cflag_setB (cstat_lt_cflag small), cflag_setB (cevt_lt_cflag small), cflag_setB (cstat_lt_cflag small)]
  · rw [events.frame, ← noted]
    rfl
  · rw [events.frame, ← noted]
    rfl

end

/-- The end of a blanking window: the output in that FCLK is shown, and no assertion waits (R228). -/
def decided (c : Nat) (active : Bool) (s : State) : State :=
  outShown c active (setB (Reg.PRT_CSTAT c) Reg.PRT_CSTAT_BLANKPEND false s)

theorem decided_silent (c : Nat) (active : Bool) (s : State) : Silent (cmpRegs c) s (decided c active s) :=
  ((Silent.refl _ s).setB (by simp [mem_cmpRegs])).trans (outShown_silent c active _)

theorem on_blankpend_decided (c : Nat) (active : Bool) (s : State) :
    on (Reg.PRT_CSTAT c) Reg.PRT_CSTAT_BLANKPEND (decided c active s) = false :=
  (on_setB_other _ _ _ (by decide) ..).trans (on_setB _ _ (by decide) (by decide) ..)

/-- A pending assertion is decided once the window has passed (R228). -/
theorem blankingEnd_of_pending {c : Nat} {s : State} (configured : s.configured = true) (kept : cmpRetired c s = false)
    (pending : on (Reg.PRT_CSTAT c) Reg.PRT_CSTAT_BLANKPEND s = true) (open_ : blanked c s = false) (active : Bool) :
    blankingEnd c active s = if active then
        shortCircuit (cmpHb c (decided c active s)) (cmpHigh c (decided c active s)) (some c)
          (setCflag c true (decided c active s))
      else decided c active s := by
  unfold blankingEnd
  rw [if_pos (by simp [configured, kept, pending, open_])]
  rfl

/-- A short circuit that a comparator has detected: what it brings since the comparator's output was shown (R230). -/
theorem cmpDetects {c h : Nat} {s t : State} (small : c < 48) (shown : Silent (cmpRegs c) s t) (mem : t.mem = s.mem)
    (bridge : h < 104) (used : hbUsed h s = true) (hi : Bool) :
    cflag c (shortCircuit h hi (some c) (setCflag c true t)) = true ∧
      on (Reg.PRT_CSTAT c) Reg.PRT_CSTAT_BLANKPEND (shortCircuit h hi (some c) (setCflag c true t))
        = on (Reg.PRT_CSTAT c) Reg.PRT_CSTAT_BLANKPEND t ∧
      recorded 81 (scGradeOf s) c (some (hbStage h s)) s (shortCircuit h hi (some c) (setCflag c true t)) ∧
      HeldOff h (shortCircuit h hi (some c) (setCflag c true t)) ∧
      (shortCircuit h hi (some c) (setCflag c true t)).mem = s.mem := by
  have flagged : Silent (cmpRegs c) s (setCflag c true t) := setCflag_silent shown (cflagRegs_subset_cmpRegs c) true
  obtain ⟨used', stage⟩ := bridge_of_cmpRegs small flagged.regs bridge
  obtain ⟨recorded, off, whole⟩ := shortCircuit_spec bridge (used'.trans used) hi c
  rw [stage, scGrade_of_cmpRegs small flagged.regs] at recorded
  refine ⟨(cflag_of_protects whole c).trans (cflag_setCflag small ..), ?_, ?_, off, ?_⟩
  · exact (whole.regs.on (cstat_not_mem_guardRegs small) _).trans (on_cstat_setCflag small (by decide) ..)
  · exact flagged.recorded_of (nseq_not_mem_cmpRegs small) recorded
  · exact whole.reacts.mem.trans ((mem_setCflag c true t).trans mem)

/-! Clears of the flags of comparators and alarms (R233). -/

theorem exec_comparatorFlagClear {cmp : Fin 48} {active : Bool} {s : State} (stored : stores s = true) :
    exec (.comparatorFlagClear cmp active) s = .next (cmpClear cmp active s) := congrArg Host.Outcome.next (if_pos stored)

theorem exec_alarmFlagClear {hb : Fin 96} {s : State} (stored : stores s = true) :
    exec (.alarmFlagClear hb) s = .next (alarmClear hb s) := congrArg Host.Outcome.next (if_pos stored)

theorem cmpClear_accepted {c : Nat} {s : State} (small : c < 48) (set : cflag c s = true) :
    cflag c (cmpClear c false s) = false ∧ recorded 85 0 (0x100 + c) none s (cmpClear c false s) ∧
      (cmpClear c false s).mem = s.mem := by
  have effect : cmpClear c false s = clearAccepted (causeCmp c) (0x100 + c) (setCflag c false (outShown c false s)) := if_pos set
  have silent : Silent (cmpRegs c) s (setCflag c false (outShown c false s)) :=
    setCflag_silent (outShown_silent c false s) (cflagRegs_subset_cmpRegs c) false
  obtain ⟨recorded, kept, mem⟩ :=
    clearAccepted_spec silent (nseq_not_mem_cmpRegs small) (mem_setCflag ..) (causeCmp c) (0x100 + c)
  rw [effect]
  exact ⟨(cflag_of_regsKept kept besideFlags_clearRegs).trans (cflag_setCflag small ..), recorded, mem⟩

theorem cmpClear_refused {c : Nat} {s : State} (small : c < 48) (set : cflag c s = true) (inUse : cmpRetired c s = false) :
    cflag c (cmpClear c true s) = true ∧ recorded 84 0 (0x100 + c) none s (cmpClear c true s) ∧
      (cmpClear c true s).hb = s.hb ∧ (cmpClear c true s).mem = s.mem := by
  have effect : cmpClear c true s = clearRefused 2 c (0x100 + c) (outShown c true s) := by
    unfold cmpClear
    rw [if_pos set, inUse]
    rfl
  obtain ⟨recorded, kept, -, -, hb, mem⟩ :=
    clearRefused_spec (outShown_silent c true s) (nseq_not_mem_cmpRegs small) 2 c (0x100 + c)
  rw [effect]
  refine ⟨(cflag_of_regsKept kept besideFlags_refuseRegs).trans ?_, recorded, hb, mem⟩
  exact (cflag_setB (cstat_lt_cflag small) ..).trans set

theorem nseq_ne_aflagReg (h : Nat) : Reg.EVT_NSEQ ≠ aflagReg h := by
  have bounds := aflagReg_bounds h
  unfold Reg.PRT_AFLAG0 Reg.PRT_AFLAG2 at bounds
  unfold Reg.EVT_NSEQ
  omega

/-- An alarm flag clears while its end-point reports no alarm over a READY link. -/
theorem alarmClear_accepted {h : Nat} {s : State} (set : aflag h s = true) (quiet : (lnkOf (h / 4) s).alm.testBit (h % 4) = false)
    (ready : linkState (h / 4) s = lkReady) :
    aflag h (alarmClear h s) = false ∧ recorded 85 0 (0x200 + h) none s (alarmClear h s) ∧ (alarmClear h s).mem = s.mem := by
  have effect : alarmClear h s = clearAccepted (causeAlarm h) (0x200 + h) (setBitAt (aflagReg h) (h % 32) false s) := by
    unfold alarmClear
    rw [if_pos set]
    exact if_neg (by simp [quiet, ready])
  have silent : Silent [aflagReg h] s (setBitAt (aflagReg h) (h % 32) false s) := (Silent.refl _ s).setB (by simp)
  obtain ⟨recorded, kept, mem⟩ :=
    clearAccepted_spec silent (by simpa using nseq_ne_aflagReg h) rfl (causeAlarm h) (0x200 + h)
  rw [effect]
  refine ⟨(aflag_of_regsKept kept besideFlags_clearRegs h).trans ?_, recorded, mem⟩
  unfold aflag
  rw [bitAt_setBitAt (Nat.mod_lt _ (by decide)), Bool.and_false]

theorem alarmClear_refused {h : Nat} {s : State} (set : aflag h s = true) (down : linkState (h / 4) s ≠ lkReady) :
    aflag h (alarmClear h s) = true ∧ recorded 84 0 (0x200 + h) none s (alarmClear h s) ∧ (alarmClear h s).mem = s.mem := by
  have effect : alarmClear h s = clearRefused 3 h (0x200 + h) s := by
    unfold alarmClear
    rw [if_pos set]
    exact if_pos (by simp [down])
  obtain ⟨recorded, kept, -, -, -, mem⟩ := clearRefused_spec (.refl [] s) List.not_mem_nil 3 h (0x200 + h)
  rw [effect]
  exact ⟨(aflag_of_regsKept kept besideFlags_refuseRegs h).trans set, recorded, mem⟩

end Sys2Proof.Machine
end

section
/-! SUPPORT. The check of the threshold DACs (R235), and O48. -/

namespace Sys2Proof.Machine

/-- From `s` to `t` thresholds of a comparator have failed their check: records, memory and the time of the next check stand, and
so does DACFAIL. -/
structure DacFails (c : Nat) (s t : State) : Prop where
  reacts : Reacts s t
  dacAt : t.prt.dacAt = s.prt.dacAt
  flag : on (Reg.PRT_CEVT c) Reg.PRT_CEVT_DACFAIL s = true → on (Reg.PRT_CEVT c) Reg.PRT_CEVT_DACFAIL t = true

namespace DacFails

variable {c : Nat} {s t u : State}

theorem refl (c : Nat) (s : State) : DacFails c s s := ⟨.refl s, rfl, id⟩

theorem trans (r : DacFails c s t) (g : DacFails c t u) : DacFails c s u :=
  ⟨r.reacts.trans g.reacts, g.dacAt.trans r.dacAt, g.flag ∘ r.flag⟩

theorem protects (r : DacFails c s t) (small : c < 48) (g : Protects t u) : DacFails c s u := by
  have apart : Reg.PRT_CEVT c ∉ guardRegs := not_mem_guardRegs (.inl (by
    unfold Reg.PRT_TCFG Reg.PRT_CEVT Reg.PRT_CFLAG1
    omega))
  exact r.trans ⟨g.reacts, g.dacAt, fun set => (g.regs.on apart _).trans set⟩

theorem record (r : DacFails c s t) (small : c < 48) {src grade detail : Nat} :
    DacFails c s (record src grade detail none t) := r.protects small (.record (.refl t))

/-- Another flag that a failed check sets, above the half-bridges. -/
theorem setB (r : DacFails c s t) {a : Nat} {F : Fld} {b : Bool} (high : 0x40053A00 ≤ a)
    (kept : Reg.PRT_CEVT c ≠ a ∨ 2 + 1 ≤ F.lo ∨ F.lo + F.width ≤ 2) : DacFails c s (setB a F b t) := by
  refine r.trans ⟨(Reacts.refl t).setB (noFlags_of_above high), rfl, fun set => ?_⟩
  by_cases same : Reg.PRT_CEVT c = a
  · subst same
    exact (on_setB_other _ Reg.PRT_CEVT_DACFAIL F (kept.resolve_left (fun apart => apart rfl)) ..).trans set
  · exact (on_setB_ne same ..).trans set

/-- A comparator is retired (R235). -/
theorem cmpRetire (r : DacFails c s t) (small : c < 48) (d : Nat) : DacFails c s (cmpRetire c d t) := by
  have status : 0x40053A00 ≤ Reg.PRT_CSTAT c ∧ 0x40053A00 ≤ Reg.PRT_CEVT c ∧ Reg.PRT_CEVT c ≠ Reg.PRT_CSTAT c := by
    unfold Reg.PRT_CSTAT Reg.PRT_CEVT
    omega
  obtain ⟨cstat, cevt, apart⟩ := status
  unfold Machine.cmpRetire
  extract_lets u
  have retired : DacFails c s u :=
    (((r.setB cstat (.inl apart)).setB cstat (.inl apart)).setB cevt (.inr (by decide))).setB cstat (.inl apart)
  split
  · exact (retired.record small).protects small ((Protects.refl _).under (fun _ hu => hu.gradeG5 (hbStage_lt ..)))
  · exact retired.record small

theorem under (r : DacFails c s t) (small : c < 48) {src d : Nat} {f : State → State}
    (hf : ∀ u, DacFails c s u → DacFails c s (f u)) : DacFails c s (under src d f t) :=
  .protects (hf _ (r.protects small ((Protects.refl t).elsewhere (Reacts.refl t).anchor))) small
    ((Protects.refl _).elsewhere (Reacts.refl _).anchor)

/-- An upset of the comparator's counter retires it at the overflow (R235). -/
theorem upsetThen (r : DacFails c s t) (small : c < 48) {id d : Nat} : DacFails c s (upsetThen id (Machine.cmpRetire c d) t) := by
  have counted : DacFails c s (upset id t).1 := r.protects small ((Protects.refl t).events (EventsOnly.refl t).upset)
  unfold Machine.upsetThen
  dsimp only
  split
  · exact counted.under small (fun _ hu => hu.cmpRetire small d)
  · exact counted

end DacFails

/-- A check that fails is shown in DACFAIL, of the comparator and of the protection. -/
def dacNoted (c : Nat) (s : State) : State :=
  setB Reg.PRT_EVT Reg.PRT_EVT_DACFAIL true (setB (Reg.PRT_CEVT c) Reg.PRT_CEVT_DACFAIL true s)

theorem cevt_ne_evt {c : Nat} (small : c < 48) : Reg.PRT_CEVT c ≠ Reg.PRT_EVT := by
  unfold Reg.PRT_CEVT Reg.PRT_EVT
  omega

theorem on_dacfail_dacNoted {c : Nat} (small : c < 48) (s : State) :
    on (Reg.PRT_CEVT c) Reg.PRT_CEVT_DACFAIL (dacNoted c s) = true :=
  (on_setB_ne (cevt_ne_evt small) ..).trans (on_setB _ _ (by decide) (by decide) ..)

theorem dacFail_of_used {c : Nat} {s : State} (inUse : cmpRetired c s = false) (hi : Bool) :
    dacFail c hi s = upsetThen (ctrId 7 c 0) (cmpRetire c (2 * c + if hi then 1 else 0))
      (record 87 1 (2 * c + if hi then 1 else 0) none (dacNoted c s)) := by
  unfold dacFail
  rw [if_neg (by simp [inUse])]
  rfl

/-- A failed check of a comparator in use is recorded with EV87 (R235). -/
theorem dacFail_spec {c : Nat} {s : State} (small : c < 48) (inUse : cmpRetired c s = false) (hi : Bool) :
    recorded 87 1 (2 * c + if hi then 1 else 0) none s (dacFail c hi s) ∧
      on (Reg.PRT_CEVT c) Reg.PRT_CEVT_DACFAIL (dacFail c hi s) = true ∧ (dacFail c hi s).prt.dacAt = s.prt.dacAt ∧
      (dacFail c hi s).mem = s.mem := by
  have noted : Silent [Reg.PRT_EVT, Reg.PRT_CEVT c] s (dacNoted c s) := ((Silent.refl _ s).setB (by simp)).setB (by simp)
  have nseq : Reg.EVT_NSEQ ∉ [Reg.PRT_EVT, Reg.PRT_CEVT c] := by
    simp only [List.mem_cons, List.not_mem_nil, or_false, Reg.EVT_NSEQ, Reg.PRT_EVT, Reg.PRT_CEVT]
    omega
  rw [dacFail_of_used inUse]
  generalize (2 * c + if hi then 1 else 0) = d
  have first : DacFails c (dacNoted c s) (record 87 1 d none (dacNoted c s)) := .record (.refl c _) small
  have follows : DacFails c (record 87 1 d none (dacNoted c s))
      (upsetThen (ctrId 7 c 0) (cmpRetire c d) (record 87 1 d none (dacNoted c s))) := .upsetThen (.refl c _) small
  have whole := first.trans follows
  exact ⟨recorded_of_le (noted.recorded nseq) (follows.reacts.recs ..), whole.flag (on_dacfail_dacNoted small s),
    whole.dacAt, whole.reacts.mem⟩

/-- The repeat of a check leaves what the check has brought. -/
theorem dacFail_repeats {c : Nat} (small : c < 48) (hi : Bool) (s : State) : DacFails c s (dacFail c hi s) := by
  cases inUse : cmpRetired c s with
  | true =>
    unfold dacFail
    rw [if_pos inUse]
    exact .refl c s
  | false =>
    rw [dacFail_of_used inUse]
    have cevt : 0x40053A00 ≤ Reg.PRT_CEVT c := by
      unfold Reg.PRT_CEVT
      omega
    have noted : DacFails c s (dacNoted c s) :=
      ⟨((Reacts.refl s).setB (noFlags_of_above cevt)).setB (noFlags_of_above (by decide)), rfl,
        fun _ => on_dacfail_dacNoted small s⟩
    exact (noted.record small).upsetThen small

/-- The check of one threshold, from the state that has noted when the next check is due. -/
theorem exec_dacCheck_due {s : State} (cmp : Fin 48) (hi : Bool) (d again : Nat) (configured : s.configured = true)
    (due : s.prt.dacAt ≤ s.lt) : exec (.dacCheck [(cmp, hi, d, again)]) s
      = .next (dacOne cmp hi d again { s with prt := { s.prt with dacAt := s.lt + 10 * ms } }) :=
  congrArg Host.Outcome.next (if_pos (by simp [configured, due]))

theorem dacOne_of_small {c d : Nat} (near : d ≤ 4) (hi : Bool) (again : Nat) (s : State) : dacOne c hi d again s = s :=
  if_pos (by simp [near])

/-- A difference above 4 LSB is EV87, whatever its repeat measures (R235). -/
theorem dacOne_spec {c d : Nat} {s : State} (small : c < 48) (inUse : cmpRetired c s = false) (enabled : cmpMode c s ≠ 0)
    (far : 4 < d) (hi : Bool) (again : Nat) :
    recorded 87 1 (2 * c + if hi then 1 else 0) none s (dacOne c hi d again s) ∧
      on (Reg.PRT_CEVT c) Reg.PRT_CEVT_DACFAIL (dacOne c hi d again s) = true ∧
      (dacOne c hi d again s).prt.dacAt = s.prt.dacAt ∧ (dacOne c hi d again s).mem = s.mem := by
  obtain ⟨recorded, flag, dacAt, mem⟩ := dacFail_spec small inUse hi
  have repeats : DacFails c (dacFail c hi s) (dacOne c hi d again s) := by
    unfold dacOne
    rw [if_neg (by simp [enabled, far])]
    dsimp only
    split
    · exact dacFail_repeats small hi _
    · exact .refl c _
  exact ⟨recorded_of_le recorded (repeats.reacts.recs ..), repeats.flag flag, repeats.dacAt.trans dacAt,
    repeats.reacts.mem.trans mem⟩

/-- Settles O48: a trip and a short circuit hold first and record next, and what follows undoes neither; a clear is refused or
accepted by the input; and a threshold is judged against 4 LSB. -/
theorem protection : Obligations.Protection := by
  refine ⟨?asserts, ?again, ?tripCleared, ?tripRefused, ?window, ?short, ?blanks, ?ends, ?endsQuiet, ?cmpCleared, ?cmpRefused,
    ?alarmCleared, ?alarmRefused, ?far, ?near, ?early⟩
  case asserts =>
    intro trip h s configured enabled clear bridge mask used
    obtain ⟨⟨state, cause, high, low⟩, flag, level, recorded, mem⟩ :=
      tripAssert_spec trip.isLt configured enabled clear bridge mask used
    exact ⟨_, exec_tripInputAssert trip s, state, cause, high, low, flag, level, recorded, mem⟩
  case again =>
    exact fun trip s configured enabled set =>
      (exec_tripInputAssert trip s).trans (congrArg _ (tripAssert_of_set configured enabled set))
  case tripCleared =>
    intro trip s stored set
    obtain ⟨flag, level, recorded, freed, mem⟩ := tripClear_accepted trip.isLt set
    exact ⟨_, exec_tripClear stored, flag, level, recorded, fun h => freed h h.isLt, mem⟩
  case tripRefused => exact fun trip s stored set => ⟨_, exec_tripClear stored, tripClear_refused trip.isLt set⟩
  case window =>
    exact fun cmp s configured kept mode act =>
      ⟨_, exec_comparatorAssert cmp s, cmpAssert_window_spec cmp.isLt configured kept mode act⟩
  case short =>
    rintro cmp h s configured kept mode rfl bridge used open_
    have shown : Silent (cmpRegs cmp) s (setB (Reg.PRT_CEVT cmp) Reg.PRT_CEVT_ASSERT true (outShown cmp true s)) :=
      (outShown_silent cmp true s).setB (by simp [mem_cmpRegs])
    obtain ⟨flag, -, recorded, ⟨state, cause, high, low⟩, mem⟩ :=
      cmpDetects cmp.isLt shown rfl bridge used (cmpHigh cmp (outShown cmp true s))
    exact ⟨_, (exec_comparatorAssert cmp s).trans (congrArg _ (cmpAssert_sc cmp.isLt configured kept mode open_)), flag, recorded,
      state, cause, high, low, mem⟩
  case blanks =>
    exact fun cmp s configured kept mode inside first =>
      ⟨_, exec_comparatorAssert cmp s, cmpAssert_blanked_spec cmp.isLt configured kept mode inside first⟩
  case ends =>
    rintro cmp h s configured kept - rfl bridge used pending open_
    have shown := decided_silent cmp true s
    have effect := blankingEnd_of_pending configured kept pending open_ true
    rw [if_pos rfl, cmpHb_of_cmpRegs cmp.isLt shown.regs] at effect
    obtain ⟨flag, pend, recorded, ⟨state, cause, high, low⟩, mem⟩ :=
      cmpDetects cmp.isLt shown rfl bridge used (cmpHigh cmp (decided cmp true s))
    exact ⟨_, (exec_blankingEnd cmp true s).trans (congrArg _ effect), flag, pend.trans (on_blankpend_decided ..), recorded,
      state, cause, high, low, mem⟩
  case endsQuiet =>
    intro cmp s configured kept pending open_
    refine ⟨_, (exec_blankingEnd cmp false s).trans (congrArg _ (blankingEnd_of_pending configured kept pending open_ false)),
      on_blankpend_decided .., ?_, ?_, ?_, rfl⟩
    · exact on_setB _ _ (by decide) (by decide) ..
    · exact (cflag_setB (cstat_lt_cflag cmp.isLt) ..).trans (cflag_setB (cstat_lt_cflag cmp.isLt) ..)
    · exact ((regsKept.refl _ s).wrW (by simp)).wrW (by simp)
  case cmpCleared => exact fun cmp s stored set => ⟨_, exec_comparatorFlagClear stored, cmpClear_accepted cmp.isLt set⟩
  case cmpRefused =>
    exact fun cmp s stored set inUse => ⟨_, exec_comparatorFlagClear stored, cmpClear_refused cmp.isLt set inUse⟩
  case alarmCleared =>
    exact fun hb s stored set quiet ready => ⟨_, exec_alarmFlagClear stored, alarmClear_accepted set quiet ready⟩
  case alarmRefused => exact fun hb s stored set down => ⟨_, exec_alarmFlagClear stored, alarmClear_refused set down⟩
  case far =>
    intro cmp hi d again s configured due enabled inUse far
    exact ⟨_, exec_dacCheck_due cmp hi d again configured due,
      dacOne_spec (s := { s with prt := { s.prt with dacAt := s.lt + 10 * ms } }) cmp.isLt inUse enabled far hi again⟩
  case near =>
    exact fun cmp hi d again s configured due near =>
      (exec_dacCheck_due cmp hi d again configured due).trans (congrArg _ (dacOne_of_small near ..))
  case early =>
    intro l s barred
    refine congrArg Host.Outcome.next (if_neg ?_)
    rcases barred with off | before
    · simp [off]
    · simp [before]

end Sys2Proof.Machine
end

section
/-! SUPPORT. A sequence whose entry lies outside the 32 of its bank (R242, R244), and O30: the address of such an entry's word is
the event unit's, and the firing that finds it at its end records a mismatch there. -/

namespace Sys2Proof.Machine

/-- The entry whose first word would lie at EVT_NSEQ. -/
def strayEntry : Nat := (Reg.EVT_NSEQ - Reg.ADC_SEQ_A 0 0) / 0x10

/-- A normal sequence of the stray entry. -/
def strayRun : Run := ⟨false, strayEntry, [], 1, 100, false⟩

/-- Bank 0 runs the stray entry, its START_ADC slot 0 fires now, and the words of the slot disagree with their complements. The
next number of the event unit is 0x3F, whose bit 5 reads as END of the entry. -/
def strayStart : State :=
  { State.reset with
    configured := true
    lt := fclk
    regs := [(Reg.EVT_NSEQ, 0x3F)]
    evt := { EvtSt.reset with torn := [slotStore 0] }
    bank := [(0, { AdcSt.reset with run := some strayRun })]
    tack := { TackSt.reset with slots := [(0, ⟨1 + 256 * actAdc, 0, 0, 0, 1, 0, 0⟩)], due := [(0, some fclk)] } }

theorem tackReady_strayStart : tackReady (0 : Fin 4096) actAdc strayStart = true := by decide +kernel

/-- Before the firing the chain ends with its first entry. The EV2 of the mismatch takes the number 0x3F: the next one, 0x40,
reads as an entry that goes on with NEXT 1. -/
theorem seqLoops_strayStart : seqLoops 0 33 strayRun.entry strayStart = false ∧
    seqLoops 0 33 strayRun.entry (tackFired 0 strayStart) = true := by decide +kernel

/-- The start takes the sequence for a loop and replaces it. -/
theorem run_startAdc_strayStart : (bankOf 0 (adcFire 0 false startNormal strayStart)).run ≠ some strayRun := by decide +kernel

/-- Refutes O30: the clause of the overrun judges the chain before the firing, the start judges it after. A mismatch that the
firing records (R137, R213) moves EVT_NSEQ, and the clause bounds no entry, so that the word of one may be that register. -/
theorem not_sequenceStarts : ¬ Obligations.SequenceStarts := by
  rintro ⟨-, -, overrun, -⟩
  obtain ⟨t, start, kept, -⟩ := overrun 0 0 strayRun strayStart tackReady_strayStart (by decide +kernel) (by decide +kernel)
    (by decide +kernel) (by decide +kernel) rfl seqLoops_strayStart.1
  obtain rfl : adcFire 0 false startNormal strayStart = t := Host.Outcome.next.inj start
  exact run_startAdc_strayStart kept

end Sys2Proof.Machine
end

section
/-! SUPPORT. What the work of the other units leaves of the measurement banks (R243, R254-R256, R280): the grades, the lanes and the
Hamper. -/

namespace Sys2Proof.Machine

/-! The registers of the banks (R260). -/

/-- The address lies in the block of the measurement banks. -/
def BankReg (a : Nat) : Prop := 0x40080000 ≤ a ∧ a < 0x40090000

abbrev OffBanks (a : Nat) : Prop := ¬ BankReg a

theorem OffBanks.above {b k : Nat} (high : Nat.ble 0x40090000 b = true) : OffBanks (b + k) := fun reg => by
  have high := Nat.le_of_ble_eq_true high
  have low := reg.2
  omega

theorem OffBanks.high {a : Nat} (high : Nat.ble 0x40090000 a = true) : OffBanks a := above (k := 0) high

theorem OffBanks.below {a : Nat} (low : a < 0x40080000) : OffBanks a := fun reg => absurd reg.1 (by omega)

theorem offBanks_of_mem_evtRegs {a : Nat} (unit : a ∈ evtRegs) : OffBanks a := by
  simp only [evtRegs, List.mem_cons, List.not_mem_nil, or_false] at unit
  rcases unit with rfl | rfl | rfl | rfl | rfl | rfl <;> exact .high rfl

/-- The reactions to a grade show in no register of a bank. -/
theorem offBanks_of_mem_guardRegs {a : Nat} (shown : a ∈ guardRegs) : OffBanks a := by
  rw [mem_guardRegs] at shown
  simp only [causeRegs, List.mem_cons, List.mem_map, List.mem_range] at shown
  rcases shown with pulse | (rfl | ⟨st, small, rfl⟩) | ⟨st, small, rfl⟩ | rfl | rfl | rfl | rfl | rfl
  · rcases address_of_mem_pulseRegs pulse with unit | ⟨low, -⟩
    · exact offBanks_of_mem_evtRegs unit
    · exact .below (by omega)
  · exact .high rfl
  · exact .below (by unfold Reg.DRM_STAT; omega)
  · exact .below (by unfold Reg.DRM_DERN; omega)
  all_goals exact .below (by decide)

/-! What stands. -/

/-- From `s` to `t` memory and the registers of `P` stand, and no record that waits is gone. -/
structure Leaves (P : Nat → Prop) (s t : State) : Prop where
  mem : t.mem = s.mem
  regs : ∀ a, P a → rdW a t = rdW a s
  recs : ∀ src grade detail stg, recs src grade detail stg s ≤ recs src grade detail stg t

/-- From `s` to `t` other units have worked: the banks and their registers stand as well. -/
structure LeavesBanks (s t : State) : Prop extends Leaves BankReg s t where
  bank : t.bank = s.bank

namespace Leaves

variable {P : Nat → Prop} {s t u : State} {a : Nat}

theorem refl (P : Nat → Prop) (s : State) : Leaves P s s := ⟨rfl, fun _ _ => rfl, fun _ _ _ _ => le_rfl⟩

theorem trans (r : Leaves P s t) (g : Leaves P t u) : Leaves P s u :=
  ⟨g.mem.trans r.mem, fun a ha => (g.regs a ha).trans (r.regs a ha),
    fun src grade detail stg => (r.recs src grade detail stg).trans (g.recs src grade detail stg)⟩

theorem wrW (r : Leaves P s t) {w : Word} (off : ¬ P a) : Leaves P s (wrW a w t) :=
  r.trans ⟨rfl, fun b hb => (rdW_wrW ..).trans (if_neg (fun same : b = a => off (same ▸ hb))), fun _ _ _ _ => le_rfl⟩

theorem setBank (r : Leaves P s t) {b : Nat} {x : AdcSt} : Leaves P s (setBank b x t) :=
  r.trans ⟨rfl, fun _ _ => rfl, fun _ _ _ _ => le_rfl⟩

/-- Other units at work, where `P` is of the banks. -/
theorem units (r : Leaves P s t) (g : LeavesBanks t u) (banks : ∀ a, P a → BankReg a) : Leaves P s u :=
  r.trans ⟨g.mem, fun a ha => g.regs a (banks a ha), g.recs⟩

/-- A change of the event unit that leaves its records. -/
theorem withEvt (r : Leaves P s t) {e : EvtSt} (queue : e.queue = t.evt.queue := by rfl) (wait : e.wait = t.evt.wait := by rfl) :
    Leaves P s { t with evt := e } := by
  refine r.trans ⟨rfl, fun _ _ => rfl, fun src grade detail stg => ?_⟩
  show _ ≤ List.countP _ (e.queue ++ e.wait)
  rw [queue, wait]
  exact le_rfl

theorem each {α : Type} (r : Leaves P s t) {l : List α} {f : α → State → State}
    (hf : ∀ x ∈ l, ∀ u, Leaves P s u → Leaves P s (f x u)) : Leaves P s (each l f t) := each_induct r hf

/-- What is recorded stays so. -/
theorem recorded (r : Leaves P t u) {src grade detail : Nat} {stg : Option Nat} (first : recorded src grade detail stg s t) :
    recorded src grade detail stg s u := recorded_of_le first (r.recs ..)

end Leaves

namespace LeavesBanks

variable {s t u : State} {a b c i l m n st v : Nat} {F : Fld} {on_ bus : Bool}

theorem refl (s : State) : LeavesBanks s s := ⟨.refl _ s, rfl⟩

theorem trans (r : LeavesBanks s t) (g : LeavesBanks t u) : LeavesBanks s u :=
  ⟨r.toLeaves.trans g.toLeaves, g.bank.trans r.bank⟩

theorem bankOf (r : LeavesBanks s t) (b : Nat) : bankOf b t = bankOf b s := by
  unfold Machine.bankOf
  rw [r.bank]

theorem rd (r : LeavesBanks s t) (reg : BankReg a) : rd a t = rd a s := congrArg BitVec.toNat (r.regs a reg)

theorem bitAt (r : LeavesBanks s t) (reg : BankReg a) (k : Nat) : bitAt a k t = bitAt a k s :=
  congrArg (fun w => fldGet ⟨k, 1⟩ w != 0) (r.regs a reg)

/-- A change of other parts of the state. -/
theorem elsewhere (r : LeavesBanks s t) (mem : u.mem = t.mem := by rfl) (regs : u.regs = t.regs := by rfl)
    (evt : u.evt = t.evt := by rfl) (bank : u.bank = t.bank := by rfl) : LeavesBanks s u := by
  refine r.trans ⟨⟨mem, fun a _ => ?_, fun src grade detail stg => ?_⟩, bank⟩
  · unfold rdW
    rw [regs]
  · unfold Machine.recs
    rw [evt]

theorem withEvt (r : LeavesBanks s t) {e : EvtSt} (queue : e.queue = t.evt.queue := by rfl)
    (wait : e.wait = t.evt.wait := by rfl) : LeavesBanks s { t with evt := e } :=
  r.trans ⟨.withEvt (.refl _ t) queue wait, rfl⟩

theorem wrW (r : LeavesBanks s t) {w : Word} (off : OffBanks a) : LeavesBanks s (wrW a w t) :=
  r.trans ⟨.wrW (.refl _ t) off, rfl⟩

theorem setDrm (r : LeavesBanks s t) {z : DrumSt} : LeavesBanks s (setDrm n z t) := r.elsewhere
theorem setLane (r : LeavesBanks s t) {z : LaneSt} : LeavesBanks s (setLane n z t) := r.elsewhere
theorem setChan (r : LeavesBanks s t) {z : HmpCh} : LeavesBanks s (setChan n z t) := r.elsewhere

theorem wr (r : LeavesBanks s t) (off : OffBanks a) : LeavesBanks s (wr a n t) := r.wrW off
theorem setF (r : LeavesBanks s t) (off : OffBanks a) : LeavesBanks s (setF a F v t) := r.wrW off
theorem setB (r : LeavesBanks s t) (off : OffBanks a) : LeavesBanks s (setB a F on_ t) := r.wrW off

/-- The event unit at work. -/
theorem events (r : LeavesBanks s t) (g : EventsOnly t u) : LeavesBanks s u := by
  refine r.trans ⟨⟨?_, fun a reg => g.regs a (fun unit => offBanks_of_mem_evtRegs unit reg), g.recs⟩, ?_⟩
  all_goals rw [g.frame]

theorem record (r : LeavesBanks s t) {g : Option Nat} : LeavesBanks s (record a b c g t) := r.events (EventsOnly.refl t).record

theorem when (r : LeavesBanks s t) {f : State → State} (hf : ∀ u, LeavesBanks s u → LeavesBanks s (f u)) :
    LeavesBanks s (when on_ f t) := by
  unfold Machine.when
  split
  · exact hf _ r
  · exact r

theorem each {α : Type} (r : LeavesBanks s t) {l : List α} {f : α → State → State}
    (hf : ∀ x ∈ l, ∀ u, LeavesBanks s u → LeavesBanks s (f x u)) : LeavesBanks s (each l f t) := each_induct r hf

/-! Counters and grades (R208-R211). -/

theorem under (r : LeavesBanks s t) {f : State → State} (hf : ∀ u, LeavesBanks s u → LeavesBanks s (f u)) :
    LeavesBanks s (under a b f t) := .withEvt (hf _ r.withEvt)

theorem upsetThen (r : LeavesBanks s t) {f : State → State} (hf : ∀ u, LeavesBanks s u → LeavesBanks s (f u)) :
    LeavesBanks s (upsetThen a f t) := by
  have counted : LeavesBanks s (upset a t).1 := r.events (EventsOnly.refl t).upset
  unfold Machine.upsetThen
  dsimp only
  split
  · exact counted.under hf
  · exact counted

/-- The reactions to a grade. -/
theorem reacts (r : LeavesBanks s t) (framed : GradeFramed t u) (protects : Protects t u) : LeavesBanks s u := by
  refine r.trans ⟨⟨protects.reacts.mem, fun a reg => ?_, protects.reacts.recs⟩, ?_⟩
  · exact protects.regs a (fun shown => offBanks_of_mem_guardRegs shown reg)
  · rw [framed.frame]

theorem gradeG3 (r : LeavesBanks s t) (small : st < 4) {z : Option Cause} : LeavesBanks s (gradeG3 st z t) :=
  r.reacts (GradeFramed.refl t).gradeG3 ((Protects.refl t).gradeG3 small)

theorem gradeG5 (r : LeavesBanks s t) (small : st < 4) {z : Option Cause} : LeavesBanks s (gradeG5 st z t) :=
  r.reacts ((GradeFramed.refl t).gradeG5 small) ((Protects.refl t).gradeG5 small)

theorem gradeG3All (r : LeavesBanks s t) {l : List Nat} (stages : ∀ j ∈ l, j < 4) {z : Option Cause} :
    LeavesBanks s (gradeG3All l z t) := r.each (fun j mem _ hu => hu.gradeG3 (stages j mem))

theorem gradeG5All (r : LeavesBanks s t) {l : List Nat} (stages : ∀ j ∈ l, j < 4) {z : Option Cause} :
    LeavesBanks s (gradeG5All l z t) := r.each (fun j mem _ hu => hu.gradeG5 (stages j mem))

/-! The lanes (R37, R256, R274, R275). -/

theorem setBlockValid_false (r : LeavesBanks s t) (small : st < 4) : LeavesBanks s (setBlockValid st bus false t) := by
  have off : ∀ b : Nat, b ≤ 0x40031000 → OffBanks (b + 0x400 * st) := fun b low => .below (by omega)
  unfold Machine.setBlockValid
  split
  · exact .wr (.wr (.wr (.setDrm (r.setB (off _ (by decide)))) (off _ (by decide))) (off _ (by decide))) (off _ (by decide))
  · exact r.setB (off _ (by decide))

theorem blockLost (r : LeavesBanks s t) (small : st < 4) : LeavesBanks s (blockLost st bus t) := by
  unfold Machine.blockLost
  extract_lets was m t1 t2
  have emptied : LeavesBanks s t1 := r.elsewhere
  have invalid : LeavesBanks s t2 := emptied.setBlockValid_false small
  split
  · split
    · exact invalid.record.gradeG3 small
    · exact invalid
  · exact emptied

theorem laneFlag (r : LeavesBanks s t) : LeavesBanks s (laneFlag l F t) := by
  unfold Machine.laneFlag laneSum
  refine .setB (.setB r (.above rfl)) ?_
  split <;> exact .high rfl

theorem setLaneValid (r : LeavesBanks s t) : LeavesBanks s (setLaneValid l on_ t) := by
  unfold Machine.setLaneValid
  refine .setB (.setB r (.above rfl)) ?_
  split <;> exact .high rfl

theorem blocksLaneLost (r : LeavesBanks s t) : LeavesBanks s (blocksLaneLost l t) := by
  refine r.each (fun st mem u hu => hu.each (fun bus _ v hv => ?_))
  split
  · exact hv.blockLost (List.mem_range.1 mem)
  · exact hv

theorem laneStop (r : LeavesBanks s t) : LeavesBanks s (laneStop l n t) :=
  .blocksLaneLost (.record (.laneFlag (.setF (.setLaneValid (.setB (.setB r.setLane (.above rfl)) (.above rfl))) (.above rfl))))

theorem lanesRate (r : LeavesBanks s t) : LeavesBanks s (lanesRate b t) := by
  refine r.each (fun l _ u hu => ?_)
  dsimp only
  split
  · exact hu
  · exact .laneStop (.wr hu.setLane (.above rfl))

theorem lanesBankRetired (r : LeavesBanks s t) : LeavesBanks s (lanesBankRetired b t) := by
  refine r.each (fun l _ u hu => ?_)
  split
  · exact hu
  · exact .laneStop (hu.setB (.above rfl))

/-! A sample of a raw stream reaches lanes and Hamper channels (R243, R280-R287). -/

theorem chMarks (r : LeavesBanks s t) : LeavesBanks s (chMarks c t) :=
  r.setChan.each (fun _ _ _ hu => hu.setChan)

theorem captureCheck (r : LeavesBanks s t) : LeavesBanks s (captureCheck t) := by
  unfold Machine.captureCheck
  split
  · exact .record (.setB (.setF r (.high rfl)) (.high rfl))
  · exact r

theorem preShow (r : LeavesBanks s t) : LeavesBanks s (preShow c t) := .wr (.setB r (.above rfl)) (.above rfl)

theorem chPost (r : LeavesBanks s t) : LeavesBanks s (chPost c i t) := by
  unfold Machine.chPost
  extract_lets _ t1 y t2
  have latched : LeavesBanks s t1 := by
    unfold t1
    split
    · exact r
    · exact .preShow (.wr (.setChan (r.setB (.above rfl))) (.above rfl))
  have counted : LeavesBanks s t2 := latched.setChan
  split
  · exact .preShow (counted.setB (.above rfl))
  · exact counted

theorem skewPair (r : LeavesBanks s t) {y z : Int × Int} : LeavesBanks s (skewPair c y z t) := by
  unfold Machine.skewPair
  extract_lets lev at_
  split
  · split
    · exact r.wr (.above rfl)
    · exact r
  · exact r

theorem chReduce (r : LeavesBanks s t) : LeavesBanks s (chReduce c t) := by
  unfold Machine.chReduce
  extract_lets k t1 y
  have recorded : LeavesBanks s t1 := .record (.setB (.setF r (.above rfl)) (.high rfl))
  split
  · exact .chMarks recorded.setChan
  · exact r

theorem chGap (r : LeavesBanks s t) : LeavesBanks s (chGap c t) := by
  unfold Machine.chGap
  extract_lets y
  split
  · exact .setChan (.record r.setChan)
  · exact r

theorem chLose (r : LeavesBanks s t) : LeavesBanks s (chLose c t) := by
  unfold Machine.chLose
  extract_lets y t1
  have counted : LeavesBanks s t1 := r.setChan
  exact .setB (.setB (.setF counted (.above rfl)) (.above rfl)) (.high rfl)

theorem chStore (r : LeavesBanks s t) {z : Int} : LeavesBanks s (chStore c z n m t) := by
  unfold Machine.chStore
  extract_lets idx t1 t2
  have pushed : LeavesBanks s t1 := r.setChan
  refine .captureCheck ?_
  unfold t2
  split
  · exact pushed.chPost
  · exact pushed

theorem thresholds (r : LeavesBanks s t) {z : Int} : LeavesBanks s (thresholds c z n t) :=
  r.each (fun _ _ _ hu => .when (LeavesBanks.elsewhere hu) (fun _ hv => hv.elsewhere))

theorem chSample (r : LeavesBanks s t) {z : Smp} : LeavesBanks s (chSample c z t) := by
  unfold Machine.chSample
  split
  · dsimp -zeta only
    extract_lets t1 t2 _ t3 t4 y t5
    have seen : LeavesBanks s t1 := by
      unfold t1
      split
      · exact r.thresholds
      · exact r
    have crossed : LeavesBanks s t2 := by
      unfold t2
      split
      · exact seen.skewPair
      · exact seen
    have closed : LeavesBanks s t4 := .chGap crossed.setChan
    have counted : LeavesBanks s t5 := closed.setChan
    split
    · exact closed.chLose
    · split
      · exact counted.chStore.chReduce
      · exact counted
  · exact r

theorem streamSample (r : LeavesBanks s t) {z : Int} : LeavesBanks s (streamSample n z m t) := by
  unfold Machine.streamSample hmpRaw
  extract_lets t1
  have fed : LeavesBanks s t1 := r.each (fun _ _ _ hu => hu.elsewhere)
  exact fed.each (fun _ _ _ hu => hu.chSample)

end LeavesBanks

end Sys2Proof.Machine
end

section
/-! SUPPORT. The state of a bank read after a write, and the delivery of an entry (R240-R243, R253, R258). -/

namespace Sys2Proof.Machine

@[simp] theorem bankOf_setBank_same (b : Nat) (x : AdcSt) (s : State) : bankOf b (setBank b x s) = x := Tbl.get_put_same ..

theorem bankOf_of_bank {s t : State} (same : t.bank = s.bank) (b : Nat) : bankOf b t = bankOf b s := by
  unfold bankOf
  rw [same]

theorem codeOf_lt (n : Nat) (x : Int) : codeOf n x < 2 ^ n := BitVec.isLt _

/-- A code narrower than a word is read back from the register that it is written to. -/
theorem rd_wr_codeOf {n : Nat} (narrow : n ≤ 32) (a : Nat) (x : Int) (s : State) : rd a (wr a (codeOf n x) s) = codeOf n x := by
  rw [rd_wr, if_pos rfl]
  exact Nat.mod_eq_of_lt ((codeOf_lt n x).trans_le (Nat.pow_le_pow_right (by decide) narrow))

/-! One conversion (R241, R258): it shows in registers and records. -/

/-- The banks and memory. -/
def bankAndMem (s : State) : Tbl AdcSt × List Host.Cell := (s.bank, s.mem)

theorem bankAndMem_record (src grade detail : Nat) (stg : Option Nat) (s : State) :
    bankAndMem (record src grade detail stg s) = bankAndMem s := by
  have noted : LeavesBanks s (record src grade detail stg s) := (LeavesBanks.refl s).record
  exact Prod.ext noted.bank noted.mem

theorem bankAndMem_when_setBitAt (c b : Bool) (a k : Nat) (s : State) :
    bankAndMem (when c (setBitAt a k b) s) = bankAndMem s := by
  unfold when
  split <;> rfl

theorem bankAndMem_overRange (c : Nat) (code : Int) (s : State) : bankAndMem (overRange c code s) = bankAndMem s := by
  unfold overRange
  extract_lets out was t1
  have flagged : bankAndMem t1 = bankAndMem s := bankAndMem_when_setBitAt ..
  split
  · exact (bankAndMem_record ..).trans flagged
  · split <;> exact flagged

theorem bankAndMem_diagSide (d side : Nat) (out : Bool) (s : State) : bankAndMem (diagSide d side out s) = bankAndMem s := by
  unfold diagSide
  extract_lets k was t1
  have flagged : bankAndMem t1 = bankAndMem s := bankAndMem_when_setBitAt ..
  split
  · exact (bankAndMem_record ..).trans flagged
  · split <;> exact flagged

theorem bankAndMem_conversion (b input : Nat) (code v : Int) (s : State) :
    bankAndMem (conversion b input code v s) = bankAndMem s := by
  unfold conversion
  split
  · exact bankAndMem_overRange ..
  · split
    · exact (bankAndMem_diagSide ..).trans (bankAndMem_diagSide ..)
    · rfl

/-! A delivery (R240, R243). -/

/-- The results of an entry: input, corrected value, instant and raw result. -/
def entResults (b e : Nat) (rounds : List Round) (codes : List Int) (s : State) : List (Nat × Int × Nat × Int) :=
  ((entConvs b e rounds s).zip (entRaw b e rounds codes s)).map (fun p => (p.1.1, correct p.1.2.1 p.2, p.1.2.2, p.2))

/-- The oldest entry has been taken, and its conversions show. -/
def converted (b e : Nat) (rounds : List Round) (rest : List (Nat × List Round × Nat)) (codes : List Int) (s : State) : State :=
  each (entResults b e rounds codes s) (fun p s => conversion b (entIn b e p.1 s) p.2.2.2 p.2.1 s)
    (setBank b { bankOf b s with deliver := rest } s)

section

variable {b e due : Nat} {rounds : List Round} {rest : List (Nat × List Round × Nat)} {codes : List Int} {s : State}

theorem bankAndMem_converted : bankAndMem (converted b e rounds rest codes s)
    = bankAndMem (setBank b { bankOf b s with deliver := rest } s) :=
  each_induct (P := fun u => bankAndMem u = bankAndMem (setBank b { bankOf b s with deliver := rest } s)) rfl
    (fun _ _ _ hu => (bankAndMem_conversion ..).trans hu)

/-- After the conversions, the samples reach the streams, and no bank. -/
theorem deliverEntry_leavesBanks (front : (bankOf b s).deliver = (e, rounds, due) :: rest) (reached : due ≤ 64 * s.lt)
    (complete : (entConvs b e rounds s).length = codes.length) :
    LeavesBanks (converted b e rounds rest codes s) (deliverEntry b codes s) := by
  unfold deliverEntry
  simp only [front, complete, reached, decide_true, beq_self_eq_true, Bool.and_self, if_true]
  split
  · exact (LeavesBanks.refl _).each (fun _ _ _ hu => hu.streamSample)
  · exact (LeavesBanks.refl _).each (fun _ _ _ hu => hu.streamSample)

/-- The single conversion of an entry leaves its corrected value at its input. -/
theorem rd_ilast_converted {i at_ : Nat} {cal : Int × Nat} {v : Int} (one : entConvs b e rounds s = [(i, cal, at_)])
    (raw : entRaw b e rounds codes s = [v]) (input : entIn b e i s < 12) :
    rd (Reg.ADC_ILAST (12 * b + entIn b e i s)) (converted b e rounds rest codes s) = codeOf 20 (correct cal v) := by
  have result : entResults b e rounds codes s = [(i, correct cal v, at_, v)] := by
    unfold entResults
    rw [one, raw]
    rfl
  unfold converted conversion
  rw [result]
  show rd _ (if entIn b e i s < 12 then _ else _) = _
  rw [if_pos input]
  exact rd_wr_codeOf (by decide) ..

end

theorem bankReg_ilast {b i : Nat} (bank : b < 4) (input : i < 12) : BankReg (Reg.ADC_ILAST (12 * b + i)) := by
  unfold BankReg Reg.ADC_ILAST
  omega

end Sys2Proof.Machine
end

section
/-! SUPPORT. The calibration of the slices (R249-R254): a good and a bad ABS, and the end of a REL. -/

namespace Sys2Proof.Machine

/-! The words of a slice and of its bank. -/

/-- The correction words, the trim, the status and the flags of the slices of a bank are different registers, and so is
ADC_BSTAT. -/
theorem slice_words_apart (b k j : Nat) : Reg.ADC_SOFS b k ≠ Reg.ADC_SGAIN b j ∧ Reg.ADC_SOFS b k ≠ Reg.ADC_SSTAT b j ∧
    Reg.ADC_SGAIN b k ≠ Reg.ADC_SSTAT b j ∧ Reg.ADC_STRIM b k ≠ Reg.ADC_SSTAT b j ∧
    Reg.ADC_SSTAT b k ≠ Reg.ADC_SEVT b j ∧ Reg.ADC_BSTAT b ≠ Reg.ADC_SOFS b k ∧ Reg.ADC_BSTAT b ≠ Reg.ADC_SGAIN b k ∧
    Reg.ADC_BSTAT b ≠ Reg.ADC_SSTAT b k := by
  simp only [Reg.ADC_SOFS, Reg.ADC_SGAIN, Reg.ADC_STRIM, Reg.ADC_SSTAT, Reg.ADC_SEVT, Reg.ADC_BSTAT]
  omega

theorem slicePhase_startAbs (b k : Nat) (s : State) : slicePhase b k (startAbs b k s) = phAbs :=
  fl_setF _ slPhase_ (by decide) ..

theorem slicePhase_startRel (b k : Nat) (s : State) : slicePhase b k (startRel b k s) = phRel :=
  fl_setF _ slPhase_ (by decide) ..

theorem relAt_startRel (b k : Nat) (s : State) : (bankOf b (startRel b k s)).relAt = s.lt :=
  congrArg AdcSt.relAt (bankOf_setBank_same ..)

/-- The start of a REL shows in the slice's status alone. -/
theorem startRel_silent (b k : Nat) (s : State) : Silent [Reg.ADC_SSTAT b k] s (startRel b k s) := by
  have started : Silent [Reg.ADC_SSTAT b k] s (setBank b { bankOf b s with relAt := s.lt, relCount := 0 } s) :=
    .elsewhere (.refl _ s)
  exact started.setF (List.mem_singleton_self _)

/-! A good ABS (R250). -/

/-- The correction of a slice as its ABS has measured it, from the sum at 0 V and the difference of the two others. -/
def absCorrected (b k : Nat) (z d : Int) (s : State) : State :=
  setF (Reg.ADC_SSTAT b k) slPhase_ phNone
    (wr (Reg.ADC_SGAIN b k) (roundDiv (163840 * (nabsOf b s : Int) * 2 ^ 20) (3 * d).toNat).toNat
      (wr (Reg.ADC_SOFS b k) (codeOf 20 (roundDiv (16 * z) (nabsOf b s))) s))

theorem absCorrected_shows (b k : Nat) (z d : Int) (s : State) :
    rd (Reg.ADC_SOFS b k) (absCorrected b k z d s) = codeOf 20 (roundDiv (16 * z) (nabsOf b s)) ∧
      rd (Reg.ADC_SGAIN b k) (absCorrected b k z d s)
        = (roundDiv (163840 * (nabsOf b s : Int) * 2 ^ 20) (3 * d).toNat).toNat % 2 ^ 32 ∧
      slicePhase b k (absCorrected b k z d s) = phNone ∧ sliceRole b k (absCorrected b k z d s) = sliceRole b k s ∧
      bankReady b (absCorrected b k z d s) = bankReady b s := by
  obtain ⟨offsetGain, offsetStatus, gainStatus, -, -, bankOffset, bankGain, bankStatus⟩ := slice_words_apart b k k
  refine ⟨?_, ?_, fl_setF _ slPhase_ (by decide) .., ?_, ?_⟩
  · refine (congrArg BitVec.toNat ((rdW_setF_ne offsetStatus ..).trans (rdW_wr_ne offsetGain ..))).trans ?_
    exact rd_wr_codeOf (by decide) ..
  · refine (congrArg BitVec.toNat (rdW_setF_ne gainStatus ..)).trans ?_
    exact (rd_wr ..).trans (if_pos rfl)
  · refine (fl_setF_other _ slRole slPhase_ (by decide) ..).trans (congrArg (fldGet slRole) ?_)
    exact (rdW_wr_ne gainStatus.symm ..).trans (rdW_wr_ne offsetStatus.symm ..)
  · refine congrArg (fldGet Reg.ADC_BSTAT_READY · != 0) ?_
    exact (rdW_setF_ne bankStatus ..).trans ((rdW_wr_ne bankGain ..).trans (rdW_wr_ne bankOffset ..))

section

variable {b k : Nat} {sn sz sp z d : Int} {s : State}
  (used : bankUsed b s = true) (zero : z = sumMis (sliceMis b k s) (nabsOf b s) sz)
  (span : d = sumMis (sliceMis b k s) (nabsOf b s) sp - sumMis (sliceMis b k s) (nabsOf b s) sn)
  (phase : slicePhase b k s = phAbs) (time : Tbl.get 0 (bankOf b s).absAt k + fclk * (60 * nabsOf b s) ≤ s.lt)
include used zero span phase time

/-- An ABS of a bank that is READY and finds the slice inside its limits. -/
theorem absComplete_of_good (offset : z.natAbs ≤ rd (Reg.ADC_BLIM b) s % 2 ^ 8 * nabsOf b s) (rises : 0 < d)
    (gain : ((163840 * (nabsOf b s : Int) - 3 * d).natAbs * 2 ^ 14 : Int)
      ≤ (rd (Reg.ADC_BLIM b) s / 2 ^ 8 % 2 ^ 8 : Nat) * (3 * d)) (ready : bankReady b s = true) :
    absComplete b k sn sz sp s = if sliceRole b k s = roleSpare then startRel b k (absCorrected b k z d s)
      else absCorrected b k z d s := by
  obtain ⟨-, -, -, role, stillReady⟩ := absCorrected_shows b k z d s
  have good : (decide (((rd (Reg.ADC_BLIM b) s % 2 ^ 8 * nabsOf b s : Nat) : Int) < z.natAbs) || decide (d ≤ 0)
      || decide (((rd (Reg.ADC_BLIM b) s / 2 ^ 8 % 2 ^ 8 : Nat) : Int) * (3 * d)
        < (163840 * (nabsOf b s : Int) - 3 * d).natAbs * 2 ^ 14)) = false := by
    rw [decide_eq_false (by exact_mod_cast offset.not_gt), decide_eq_false rises.not_ge, decide_eq_false gain.not_gt]
    rfl
  have answer : absComplete b k sn sz sp s = if bankReady b (absCorrected b k z d s) then
      if sliceRole b k (absCorrected b k z d s) = roleSpare then startRel b k (absCorrected b k z d s)
      else absCorrected b k z d s else readyCheck b (absCorrected b k z d s) := by
    unfold absComplete
    dsimp only
    rw [if_pos (by simp [used, phase, time]), ← zero, ← span, if_neg (by rw [good]; decide)]
    rfl
  rw [answer, stillReady, ready, role, if_pos rfl]

/-- An ABS whose span does not rise is an upset of the slice, which starts again where it is not retired. -/
theorem absComplete_of_flat (flat : d ≤ 0) : absComplete b k sn sz sp s =
    if slicePhase b k (calUpset b k s) = phAbs then startAbs b k (calUpset b k s) else calUpset b k s := by
  unfold absComplete
  dsimp only
  rw [if_pos (by simp [used, phase, time]), ← zero, ← span, if_pos (by simp [flat])]

end

end Sys2Proof.Machine
end

section
/-! SUPPORT. The retirement of a slice (R254-R256): whatever it brings, memory, the corrections of the slices and the records that
wait stand. -/

namespace Sys2Proof.Machine

/-- An offset or a gain of a slice. -/
def Correction (a : Nat) : Prop := ∃ b < 4, ∃ k < 5, a = Reg.ADC_SOFS b k ∨ a = Reg.ADC_SGAIN b k

theorem Correction.bankReg {a : Nat} (word : Correction a) : BankReg a := by
  obtain ⟨b, bank, k, slice, rfl | rfl⟩ := word
  · unfold BankReg Reg.ADC_SOFS
    omega
  · unfold BankReg Reg.ADC_SGAIN
    omega

/-- The corrections lie below 0x40081000, each at 0 or 4 of its 32 bytes. -/
theorem not_correction {a : Nat} (beside : 0x40081000 ≤ a ∨ (a % 0x20 ≠ 0 ∧ a % 0x20 ≠ 4)) : ¬ Correction a := by
  rintro ⟨b, bank, k, slice, rfl | rfl⟩
  · unfold Reg.ADC_SOFS at beside
    omega
  · unfold Reg.ADC_SGAIN at beside
    omega

theorem status_not_correction (b k : Nat) : ¬ Correction (Reg.ADC_SSTAT b k) ∧ ¬ Correction (Reg.ADC_SEVT b k) ∧
    ¬ Correction (Reg.ADC_BSTAT b) ∧ ¬ Correction (Reg.ADC_BEVT b) := by
  refine ⟨not_correction ?_, not_correction ?_, not_correction ?_, not_correction ?_⟩
  all_goals
    simp only [Reg.ADC_SSTAT, Reg.ADC_SEVT, Reg.ADC_BSTAT, Reg.ADC_BEVT]
    omega

theorem gstat_not_correction : ¬ Correction Reg.ADC_GSTAT := not_correction (.inl (by decide))

theorem mem_bankStages {b st : Nat} {s : State} (mem : st ∈ bankStages b s) : st < 4 := by
  unfold bankStages at mem
  exact List.mem_range.1 (List.mem_of_mem_filter mem)

namespace Leaves

variable {s t : State} {b k v : Nat} {F : Fld} {on_ : Bool}

/-- Other units at work. -/
theorem others {u : State} (r : Leaves Correction s t) (g : LeavesBanks t u) : Leaves Correction s u :=
  r.units g (fun _ => Correction.bankReg)

theorem sliceStatus (r : Leaves Correction s t) : Leaves Correction s (setF (Reg.ADC_SSTAT b k) F v t) :=
  r.wrW (status_not_correction b k).1

theorem sliceFlag (r : Leaves Correction s t) : Leaves Correction s (setB (Reg.ADC_SEVT b k) F on_ t) :=
  r.wrW (status_not_correction b k).2.1

theorem bankStatus (r : Leaves Correction s t) : Leaves Correction s (setF (Reg.ADC_BSTAT b) F v t) :=
  r.wrW (status_not_correction b 0).2.2.1

theorem bankFlag (r : Leaves Correction s t) : Leaves Correction s (setB (Reg.ADC_BEVT b) F on_ t) :=
  r.wrW (status_not_correction b 0).2.2.2

theorem bankSummary (r : Leaves Correction s t) : Leaves Correction s (setBitAt Reg.ADC_GSTAT k on_ t) :=
  r.wrW gstat_not_correction

theorem bankShow (r : Leaves Correction s t) : Leaves Correction s (bankShow b t) :=
  r.bankStatus.bankStatus.bankStatus.bankStatus.bankStatus.bankStatus

theorem startAbs (r : Leaves Correction s t) : Leaves Correction s (startAbs b k t) := r.setBank.sliceStatus

theorem readyCheck (r : Leaves Correction s t) : Leaves Correction s (readyCheck b t) := by
  unfold Machine.readyCheck
  split
  · exact r
  · extract_lets t1
    have ready : Leaves Correction s t1 := .bankSummary (.bankStatus r)
    split
    · exact .sliceStatus ready.setBank
    · exact ready

theorem freeze (r : Leaves Correction s t) : Leaves Correction s (freeze b t) :=
  .each (.bankStatus r.setBank) (fun _ _ _ hu => hu.sliceStatus)

theorem retireSlice (r : Leaves Correction s t) : Leaves Correction s (retireSlice b k t) := by
  unfold Machine.retireSlice
  extract_lets _ t1 _ t2 _ _ _ t3 _ t4 t5 t6
  have noted : Leaves Correction s t1 := .others (.bankFlag (.sliceFlag r)) (LeavesBanks.refl _).record
  have retired : Leaves Correction s t2 := noted.wrW (status_not_correction b k).1
  have threes : Leaves Correction s t3 := retired.each (fun _ _ _ hu => hu.sliceStatus)
  have stopped : Leaves Correction s t4 := retired.setBank
  have shown : Leaves Correction s t5 := .bankStatus stopped.bankSummary
  have replaced : Leaves Correction s t6 := by
    unfold t6
    split
    · split
      · exact .freeze (.sliceStatus (.sliceStatus retired))
      · exact retired.freeze
    · split
      · exact .others threes.bankFlag (LeavesBanks.refl _).record.lanesRate
      · exact shown.others ((LeavesBanks.refl _).under (fun _ hu => hu.lanesBankRetired.gradeG5All (fun _ => mem_bankStages)))
  split
  · exact r
  · exact replaced.readyCheck.bankShow

/-- The counting of an upset, and the retirement that its overflow brings (R211, R254). -/
theorem upsetThen_retireSlice (r : Leaves Correction s t) (id : Nat) :
    Leaves Correction s (upsetThen id (Machine.retireSlice b k) t) := by
  have counted : Leaves Correction s (upset id t).1 := r.others ((LeavesBanks.refl t).events (EventsOnly.refl t).upset)
  unfold upsetThen under
  dsimp only
  split
  · exact .withEvt counted.withEvt.retireSlice
  · exact counted

end Leaves

/-- An ABS outside its limits is recorded (R250), and what follows leaves the record and the corrections. -/
theorem calUpset_leaves (b : Nat) {k : Nat} (slice : k < 5) (s : State) :
    recorded 96 1 (5 * b + k) none s (calUpset b k s) ∧ Leaves Correction s (calUpset b k s) := by
  have flagged : Silent [Reg.ADC_SEVT b k] s (setBitAt (Reg.ADC_SEVT b k) 0 true s) :=
    (Silent.refl _ s).setB (List.mem_singleton_self _)
  have noted : Leaves Correction s (record 96 1 (5 * b + k) none (setBitAt (Reg.ADC_SEVT b k) 0 true s)) :=
    .others (.sliceFlag (.refl _ s)) (LeavesBanks.refl _).record
  have other : Reg.EVT_NSEQ ∉ [Reg.ADC_SEVT b k] := by
    rw [List.mem_singleton]
    unfold Reg.EVT_NSEQ Reg.ADC_SEVT
    omega
  exact ⟨((Leaves.refl Correction _).upsetThen_retireSlice _).recorded (flagged.recorded other), noted.upsetThen_retireSlice _⟩

end Sys2Proof.Machine
end

section
/-! SUPPORT. The end of a REL, the rotation of the spare and the reference check (R251-R253, R259), and O31. -/

namespace Sys2Proof.Machine

/-! The end of a REL (R251-R253). -/

/-- The spare is one of the five slices. -/
theorem spareOf_spec {b k : Nat} {s : State} (spare : spareOf b s = some k) : k < 5 ∧ sliceRole b k s = roleSpare :=
  ⟨List.mem_range.1 (List.mem_of_find?_eq_some spare), by simpa using List.find?_some spare⟩

theorem relEnd_shows (b k : Nat) (trim : Option Int) (s : State) : slicePhase b k (relEnd b k trim s) = phNone ∧
    (bankOf b (relEnd b k trim s)).rotAt = some (nowF s) ∧ (relEnd b k trim s).mem = s.mem ∧
    (relEnd b k trim s).evt = s.evt := by
  have phase : slicePhase b k (relEnd b k trim s) = phNone := fl_setF _ slPhase_ (by decide) ..
  have rotates : ∀ u x, bankOf b (setF (Reg.ADC_SSTAT b k) slPhase_ phNone (setBank b x u)) = x :=
    fun u x => bankOf_setBank_same b x u
  cases trim with
  | none => exact ⟨phase, congrArg AdcSt.rotAt (rotates ..), rfl, rfl⟩
  | some x => exact ⟨phase, congrArg AdcSt.rotAt (rotates ..), rfl, rfl⟩

theorem strim_relEnd (b k : Nat) (x : Int) (s : State) :
    rd (Reg.ADC_STRIM b k) (relEnd b k (some x) s) = codeOf 16 (satBits 16 x) := by
  obtain ⟨-, -, -, apart, -⟩ := slice_words_apart b k k
  refine (congrArg BitVec.toNat (rdW_setF_ne apart ..)).trans ?_
  exact rd_wr_codeOf (by decide) ..

theorem relEnd_none_regs (b k : Nat) (s : State) : regsKept [Reg.ADC_SSTAT b k] s (relEnd b k none s) := by
  have noted : regsKept [Reg.ADC_SSTAT b k] s (setBank b { bankOf b s with rotAt := some (nowF s) } s) :=
    .elsewhere (.refl _ s)
  exact noted.wrW (List.mem_singleton_self _)

/-- A REL whose pairs are gathered, with the skew, the offset and the gain inside their limits. -/
theorem relComplete_of_good {b k : Nat} {sxy sxx sm gain : Int} {s : State} (spare : spareOf b s = some k)
    (phase : slicePhase b k s = phRel) (pairs : 2 * nrelOf b s ≤ (bankOf b s).relCount)
    (varies : 1024 * (nrelOf b s : Int) ≤ sxx) (positive : 0 < sxx)
    (skew : (roundDiv (256 * sxy) sxx.toNat).natAbs ≤ 8 * (rd (Reg.ADC_BLIM b) s / 2 ^ 16 % 2 ^ 8))
    (offset : sm.natAbs ≤ 32 * (rd (Reg.ADC_BCAL1 b) s / 2 ^ 8 % 2 ^ 8) * nrelOf b s)
    (slope : (gain - 2 ^ 20).natAbs ≤ rd (Reg.ADC_BCAL1 b) s / 2 ^ 16) :
    relComplete b sxy sxx sm gain s = relEnd b k (some (signed 16 (rd (Reg.ADC_STRIM b
      (sliceAt b (fl (Reg.ADC_BSTAT b) Reg.ADC_BSTAT_SHADOW s) s)) s) - roundDiv (256 * sxy) sxx.toNat)) s := by
  have steep : (decide (sxx < 1024 * (nrelOf b s : Int)) || decide (sxx ≤ 0)) = false := by
    rw [decide_eq_false varies.not_gt, decide_eq_false positive.not_ge]
    rfl
  unfold relComplete
  rw [spare]
  dsimp only
  rw [if_pos (by simp [phase, pairs]), steep]
  simp only [Bool.false_eq_true, if_false]
  rw [if_neg (by simpa using skew), if_neg (by simpa using And.intro offset slope)]

/-- A REL without its pairs within CALTO. -/
theorem relTimeout_of_late {b k : Nat} {s : State} (spare : spareOf b s = some k) (phase : slicePhase b k s = phRel)
    (few : (bankOf b s).relCount < 2 * nrelOf b s)
    (late : (bankOf b s).relAt + rd (Reg.ADC_BCAL1 b) s % 2 ^ 8 * 1000 * ms ≤ s.lt) :
    relTimeout b s = relEnd b k none (bump (Reg.ADC_RELSKIP b) ⟨0, 16⟩ 1 s) := by
  unfold relTimeout
  rw [spare]
  exact if_pos (by simpa [phase, few] using late)

/-! The rotation (R252). -/

/-- The spare `k` takes position `p`, and the slice `j` that held it becomes the spare. -/
def seated (b k j p : Nat) (s : State) : State :=
  setF (Reg.ADC_SSTAT b j) slRole roleSpare (setF (Reg.ADC_SSTAT b j) slPos 0
    (setF (Reg.ADC_SSTAT b k) slRole roleActive_ (setF (Reg.ADC_SSTAT b k) slPos p s)))

/-- The former slice starts ABS, and both slices have the flag of the rotation. -/
def reseated (b k j p : Nat) (s : State) : State :=
  startAbs b j (setBitAt (Reg.ADC_SEVT b k) 2 true (setBitAt (Reg.ADC_SEVT b j) 2 true (seated b k j p s)))

/-- What a rotation shows in a slice's status (R252): the spare has the position, and its slice is the spare, in ABS. -/
theorem reseated_shows {k j p : Nat} (apart : k ≠ j) (position : p < 4) (b : Nat) (s : State) :
    sliceRole b k (reseated b k j p s) = roleActive_ ∧ fl (Reg.ADC_SSTAT b k) slPos (reseated b k j p s) = p ∧
      sliceRole b j (reseated b k j p s) = roleSpare ∧ slicePhase b j (reseated b k j p s) = phAbs := by
  have slices : Reg.ADC_SSTAT b k ≠ Reg.ADC_SSTAT b j := by
    unfold Reg.ADC_SSTAT
    omega
  have flags : ∀ i m, Reg.ADC_SSTAT b i ≠ Reg.ADC_SEVT b m := fun i m => (slice_words_apart b i m).2.2.2.2.1
  have flagged : regsKept [Reg.ADC_SEVT b k, Reg.ADC_SEVT b j] (seated b k j p s)
      (setBitAt (Reg.ADC_SEVT b k) 2 true (setBitAt (Reg.ADC_SEVT b j) 2 true (seated b k j p s))) :=
    ((regsKept.refl _ _).wrW (by simp)).wrW (by simp)
  have word : rdW (Reg.ADC_SSTAT b k) (reseated b k j p s)
      = fldSet slRole (fldSet slPos (rdW (Reg.ADC_SSTAT b k) s) p) roleActive_ := by
    refine (rdW_setF_ne slices ..).trans ((flagged _ (by simp [flags])).trans ?_)
    refine (rdW_setF_ne slices ..).trans ((rdW_setF_ne slices ..).trans ?_)
    rw [rdW_setF, rdW_setF]
  refine ⟨?_, ?_, ?_, slicePhase_startAbs ..⟩
  · exact (congrArg (fldGet slRole) word).trans (fldGet_fldSet _ (by decide) ..)
  · refine (congrArg (fldGet slPos) word).trans ((fldGet_fldSet_other _ _ (by decide) ..).trans ?_)
    exact (fldGet_fldSet _ (by decide) ..).trans (Nat.mod_eq_of_lt position)
  · refine (fl_setF_other _ slRole slPhase_ (by decide) ..).trans ((flagged.fl (by simp [flags]) _).trans ?_)
    exact fl_setF _ slRole (by decide) ..

/-- The trims move in their own registers alone. -/
theorem trimStep_regs (b : Nat) (s : State) : regsKept ((List.range 5).map (Reg.ADC_STRIM b)) s (trimStep b s) :=
  each_induct (.refl _ s) (fun _ slice _ hu => hu.wrW (List.mem_map_of_mem slice))

theorem trimStep_frame (b : Nat) (s : State) :
    (trimStep b s).bank = s.bank ∧ (trimStep b s).mem = s.mem ∧ (trimStep b s).evt = s.evt :=
  each_induct (P := fun u => u.bank = s.bank ∧ u.mem = s.mem ∧ u.evt = s.evt) ⟨rfl, rfl, rfl⟩ (fun _ _ _ hu => hu)

theorem rotAt_startAbs (b k : Nat) (s : State) : (bankOf b (startAbs b k s)).rotAt = (bankOf b s).rotAt := by
  have shown : (startAbs b k s).bank = (setBank b { bankOf b s with absAt := Tbl.put k s.lt (bankOf b s).absAt } s).bank :=
    rfl
  rw [bankOf_of_bank shown, bankOf_setBank_same]

theorem reseated_frame (b k j p : Nat) (s : State) : (bankOf b (reseated b k j p s)).rotAt = (bankOf b s).rotAt ∧
    (reseated b k j p s).mem = s.mem ∧ (reseated b k j p s).evt = s.evt := by
  refine ⟨?_, by simp [reseated, seated, startAbs], by simp [reseated, seated, startAbs]⟩
  rw [reseated, rotAt_startAbs, bankOf_of_bank (s := s) (by simp [seated])]

theorem bankShow_regs (b : Nat) (s : State) : regsKept [Reg.ADC_BSTAT b] s (bankShow b s) := by
  have shown : Reg.ADC_BSTAT b ∈ [Reg.ADC_BSTAT b] := List.mem_singleton_self _
  exact ((((((regsKept.refl _ s).wrW shown).wrW shown).wrW shown).wrW shown).wrW shown).wrW shown

theorem shadow_bankShow (b : Nat) (s : State) :
    fl (Reg.ADC_BSTAT b) Reg.ADC_BSTAT_SHADOW (bankShow b s) = fl (Reg.ADC_BSTAT b) Reg.ADC_BSTAT_SHADOW s := by
  simp (disch := decide) only [bankShow, setB, fl_setF_other]

/-- The end of a rotation: the trims step, and the next position is shadowed. -/
def rotationEnd (b p : Nat) (s : State) : State :=
  bankShow b (setF (Reg.ADC_BSTAT b) Reg.ADC_BSTAT_SHADOW ((p + 1) % 4) (trimStep b s))

theorem rotationEnd_frame (b p : Nat) (s : State) : (rotationEnd b p s).bank = s.bank ∧
    (rotationEnd b p s).mem = s.mem ∧ (rotationEnd b p s).evt = s.evt := by
  obtain ⟨bank, mem, evt⟩ := trimStep_frame b s
  exact ⟨by simp [rotationEnd, bankShow, bank], by simp [rotationEnd, bankShow, mem], by simp [rotationEnd, bankShow, evt]⟩

theorem sstat_rotationEnd (b p i : Nat) (s : State) :
    rdW (Reg.ADC_SSTAT b i) (rotationEnd b p s) = rdW (Reg.ADC_SSTAT b i) s := by
  obtain ⟨-, -, -, -, -, -, -, bank⟩ := slice_words_apart b i i
  have trims : Reg.ADC_SSTAT b i ∉ (List.range 5).map (Reg.ADC_STRIM b) := by
    rw [List.mem_map]
    rintro ⟨k, -, same⟩
    exact (slice_words_apart b k i).2.2.2.1 same
  refine (bankShow_regs b _ _ (by simp [bank.symm])).trans ((rdW_setF_ne bank.symm ..).trans ?_)
  exact trimStep_regs b s _ trims

theorem shadow_rotationEnd (b p : Nat) (s : State) :
    fl (Reg.ADC_BSTAT b) Reg.ADC_BSTAT_SHADOW (rotationEnd b p s) = (p + 1) % 4 := by
  refine (shadow_bankShow ..).trans ((fl_setF _ _ (by decide) ..).trans ?_)
  exact Nat.mod_eq_of_lt (Nat.mod_lt _ (by decide))

theorem spareRotate_of_idle {b k f : Nat} {s : State} (spare : spareOf b s = some k) (due : (bankOf b s).rotAt = some f)
    (idle : (bankOf b s).run = none) : spareRotate b s = rotationEnd b (fl (Reg.ADC_BSTAT b) Reg.ADC_BSTAT_SHADOW s)
      (reseated b k (sliceAt b (fl (Reg.ADC_BSTAT b) Reg.ADC_BSTAT_SHADOW s) s)
        (fl (Reg.ADC_BSTAT b) Reg.ADC_BSTAT_SHADOW s) (setBank b { bankOf b s with rotAt := none } s)) := by
  unfold spareRotate
  rw [spare, due]
  dsimp only
  rw [idle]
  rfl

theorem spareRotate_spec {b k f : Nat} {s : State} (spare : spareOf b s = some k) (due : (bankOf b s).rotAt = some f)
    (idle : (bankOf b s).run = none) {j p : Nat} (shadow : p = fl (Reg.ADC_BSTAT b) Reg.ADC_BSTAT_SHADOW s)
    (slice : j = sliceAt b p s) (active : sliceRole b j s = roleActive_) :
    sliceRole b k (spareRotate b s) = roleActive_ ∧ fl (Reg.ADC_SSTAT b k) slPos (spareRotate b s) = p ∧
      sliceRole b j (spareRotate b s) = roleSpare ∧ slicePhase b j (spareRotate b s) = phAbs ∧
      fl (Reg.ADC_BSTAT b) Reg.ADC_BSTAT_SHADOW (spareRotate b s) = (p + 1) % 4 ∧
      (bankOf b (spareRotate b s)).rotAt = none ∧ (spareRotate b s).mem = s.mem ∧ (spareRotate b s).evt = s.evt := by
  have apart : k ≠ j := fun same => by
    have role := (spareOf_spec spare).2
    rw [same, active] at role
    exact absurd role (by decide)
  have position : p < 4 := shadow ▸ fldGet_lt Reg.ADC_BSTAT_SHADOW _
  rw [spareRotate_of_idle spare due idle, ← shadow, ← slice]
  obtain ⟨role, seat, former, phase⟩ := reseated_shows apart position b (setBank b { bankOf b s with rotAt := none } s)
  obtain ⟨rotAt, mem, evt⟩ := reseated_frame b k j p (setBank b { bankOf b s with rotAt := none } s)
  rw [bankOf_setBank_same] at rotAt
  generalize reseated b k j p (setBank b { bankOf b s with rotAt := none } s) = u at role seat former phase rotAt mem evt ⊢
  obtain ⟨endBank, endMem, endEvt⟩ := rotationEnd_frame b p u
  have status := fun i F => congrArg (fldGet F) (sstat_rotationEnd b p i u)
  refine ⟨(status ..).trans role, (status ..).trans seat, (status ..).trans former, (status ..).trans phase,
    shadow_rotationEnd .., ?_, endMem.trans mem, endEvt.trans evt⟩
  exact (congrArg AdcSt.rotAt (bankOf_of_bank endBank b)).trans rotAt

/-! The reference check (R259). -/

theorem referenceCheck_of_near {ref mon : Nat} (near : ((ref : Int) - mon).natAbs * 200 ≤ mon) (s : State) :
    referenceCheck ref mon s = dropCause ⟨111, 0⟩ (setBitAt Reg.ADC_GSTAT 8 true s) := if_neg near.not_gt

/-- The reference is near the monitor's again: REFOK is set, and its cause leaves. -/
theorem referenceCheck_near_spec {ref mon : Nat} (near : ((ref : Int) - mon).natAbs * 200 ≤ mon) (s : State) :
    bitAt Reg.ADC_GSTAT 8 (referenceCheck ref mon s) = true ∧ (referenceCheck ref mon s).evt.queue = s.evt.queue ∧
      (referenceCheck ref mon s).mem = s.mem := by
  have dropped := dropCause_unrecorded (.refl causeRegs (setBitAt Reg.ADC_GSTAT 8 true s)) ⟨111, 0⟩
  rw [referenceCheck_of_near near]
  refine ⟨?_, dropped.queue, dropped.mem⟩
  refine (congrArg (fldGet ⟨8, 1⟩ · != 0) (dropped.regs _ (by decide))).trans ?_
  exact bitAt_setBitAt (by decide) ..

/-- The reference is off: REFOK is clear, and EV111 with its flag is recorded. -/
theorem referenceCheck_far_spec {ref mon : Nat} (far : mon < ((ref : Int) - mon).natAbs * 200) (s : State) :
    bitAt Reg.ADC_GSTAT 8 (referenceCheck ref mon s) = false ∧ bitAt Reg.ADC_GEVT 0 (referenceCheck ref mon s) = true ∧
      recorded 111 3 0 none s (referenceCheck ref mon s) ∧ (referenceCheck ref mon s).mem = s.mem := by
  generalize flagged : setBitAt Reg.ADC_GEVT 0 true (setBitAt Reg.ADC_GSTAT 8 false s) = u
  have shown : Silent [Reg.ADC_GSTAT, Reg.ADC_GEVT] s u := flagged ▸ ((Silent.refl _ s).setB (by simp)).setB (by simp)
  have graded : LeavesBanks (record 111 3 0 none u) (referenceCheck ref mon s) := by
    unfold referenceCheck
    rw [if_pos far, flagged]
    exact (LeavesBanks.refl _).under (fun _ hu => hu.gradeG3All (fun _ mem => List.mem_range.1 (List.mem_of_mem_filter mem)))
  have answered : LeavesBanks u (referenceCheck ref mon s) := (LeavesBanks.refl u).record.trans graded
  refine ⟨?_, ?_, graded.recorded (shown.recorded (by decide)), answered.mem.trans (flagged ▸ rfl)⟩
  · refine (answered.bitAt ⟨by decide, by decide⟩ 8).trans ?_
    rw [← flagged]
    exact (on_setB_ne (by decide) ..).trans (bitAt_setBitAt (by decide) ..)
  · refine (answered.bitAt ⟨by decide, by decide⟩ 0).trans ?_
    rw [← flagged]
    exact bitAt_setBitAt (by decide) ..

/-- Settles O31: each command ends in the state that the lemma of its outcome gives, and what other units do after it reaches no
register of the banks. -/
theorem bankCalibration : Obligations.BankCalibration := by
  unfold Obligations.BankCalibration
  refine ⟨?delivery, ?single, ?absActive, ?absSpare, ?absBad, ?relGood, ?relLate, ?rotation, ?near, ?far⟩
  case delivery =>
    intro bank codes e due rounds rest s front reached complete
    have delivered := deliverEntry_leavesBanks front reached (codes := codes.map (·.toInt)) (by simpa using complete)
    have taken := Prod.mk.inj (bankAndMem_converted (b := bank) (e := e) (rounds := rounds) (rest := rest)
      (codes := codes.map (·.toInt)) (s := s))
    have stands : bankOf bank (deliverEntry bank (codes.map (·.toInt)) s) = { bankOf bank s with deliver := rest } :=
      (bankOf_of_bank (delivered.bank.trans taken.1) bank).trans (bankOf_setBank_same ..)
    exact ⟨_, rfl, congrArg AdcSt.deliver stands, (congrArg AdcSt.run stands).trans rfl, delivered.mem.trans taken.2⟩
  case single =>
    intro bank c e due i at_ v cal rounds rest s front reached one raw input
    have delivered := deliverEntry_leavesBanks front reached (codes := [c.toInt]) (by rw [one]; rfl)
    exact ⟨_, rfl, (delivered.rd (bankReg_ilast bank.isLt input)).trans (rd_ilast_converted one raw input)⟩
  case absActive =>
    intro bank slice low zero high z d s used first span phase time offset rises gain ready active
    obtain ⟨ofs, corrected, done, -, -⟩ := absCorrected_shows bank slice z d s
    refine ⟨_, congrArg Host.Outcome.next ((absComplete_of_good used first span phase time offset rises gain ready).trans
      (if_neg active)), ofs, corrected, rfl, rfl, done⟩
  case absSpare =>
    intro bank slice low zero high z d s used first span phase time offset rises gain ready spare
    obtain ⟨ofs, corrected, -, -, -⟩ := absCorrected_shows bank slice z d s
    obtain ⟨-, offsetStatus, gainStatus, -⟩ := slice_words_apart bank slice slice
    have begun := (startRel_silent bank slice (absCorrected bank slice z d s)).regs
    exact ⟨_, congrArg Host.Outcome.next ((absComplete_of_good used first span phase time offset rises gain ready).trans
      (if_pos spare)), (begun.rd (by simpa using offsetStatus)).trans ofs, (begun.rd (by simpa using gainStatus)).trans corrected,
      rfl, rfl, slicePhase_startRel .., relAt_startRel ..⟩
  case absBad =>
    intro bank slice low zero high z d s used first span phase time flat
    obtain ⟨noted, stands⟩ := calUpset_leaves bank slice.isLt s
    have again : Leaves Correction (calUpset bank slice s)
        (absComplete bank slice low.toInt zero.toInt high.toInt s) := by
      rw [absComplete_of_flat used first span phase time flat]
      split
      · exact (Leaves.refl _ _).startAbs
      · exact .refl _ _
    have kept := stands.trans again
    exact ⟨_, rfl, again.recorded noted, kept.regs _ ⟨bank, bank.isLt, slice, slice.isLt, .inl rfl⟩,
      kept.regs _ ⟨bank, bank.isLt, slice, slice.isLt, .inr rfl⟩, kept.mem⟩
  case relGood =>
    intro bank sxy sxx sm gain k s spare phase pairs varies positive skew offset slope
    obtain ⟨done, rotates, mem, evt⟩ := relEnd_shows bank k (some (signed 16 (rd (Reg.ADC_STRIM bank
      (sliceAt bank (fl (Reg.ADC_BSTAT bank) Reg.ADC_BSTAT_SHADOW s) s)) s) - roundDiv (256 * sxy.toInt) sxx.toInt.toNat)) s
    exact ⟨_, congrArg Host.Outcome.next (relComplete_of_good spare phase pairs varies positive skew offset slope),
      strim_relEnd .., done, rotates, mem, evt⟩
  case relLate =>
    intro bank k s spare phase few late
    obtain ⟨done, rotates, mem, evt⟩ := relEnd_shows bank k none (bump (Reg.ADC_RELSKIP bank) ⟨0, 16⟩ 1 s)
    have ended := relEnd_none_regs bank k (bump (Reg.ADC_RELSKIP bank) ⟨0, 16⟩ 1 s)
    have skip : Reg.ADC_RELSKIP bank ≠ Reg.ADC_SSTAT bank k ∧ Reg.ADC_STRIM bank k ≠ Reg.ADC_RELSKIP bank := by
      simp only [Reg.ADC_RELSKIP, Reg.ADC_SSTAT, Reg.ADC_STRIM]
      omega
    obtain ⟨-, -, -, trim, -⟩ := slice_words_apart bank k k
    refine ⟨_, congrArg Host.Outcome.next (relTimeout_of_late spare phase few late), ?_, ?_, done, rotates, mem, evt⟩
    · refine (ended.fl (by simpa using skip.1) _).trans ((fl_setF _ _ (by decide) ..).trans (Nat.mod_eq_of_lt ?_))
      exact (Nat.min_le_left ..).trans_lt (by decide)
    · exact (ended _ (by simpa using trim)).trans (rdW_setF_ne skip.2 ..)
  case rotation =>
    exact fun bank k j p f s spare due idle shadow slice active =>
      ⟨_, rfl, spareRotate_spec spare due idle shadow slice active⟩
  case near => exact fun ref mon s near => ⟨_, rfl, referenceCheck_near_spec near s⟩
  case far => exact fun ref mon s far => ⟨_, rfl, referenceCheck_far_spec far s⟩

end Sys2Proof.Machine
end
